-- ==== Sys2Proof/Word.lean ====
section
/-!
DEFINITION. The word types of the BVX-960: bytes, 32-bit register words, 64-bit register pairs, the 256-bit words of
the packet, fabric and memory paths (R82, R305, R215) and the 1024-bit metadata bus (R112). A value the manual never
shifts or masks (an index, a count, an instant) is a plain natural number.
-/
namespace Sys2Proof

/-- One byte of a packet or of device memory. -/
abbrev Byte := BitVec 8
/-- A string of bytes, the first at offset 0. -/
abbrev Bytes := List Byte
/-- A register word (R358). -/
abbrev W32 := BitVec 32
/-- A `_LO`, `_HI` register pair held whole (R60). -/
abbrev W64 := BitVec 64
/-- A word of a FIFO, a flit or a word of HBM (R82, R305, R215). -/
abbrev W256 := BitVec 256
/-- The metadata bus of the match stages (R112). -/
abbrev W1024 := BitVec 1024

end Sys2Proof
end

