-- ==== Sys2Proof/Syntax.lean ====
section
/-!
DEFINITION. The commands and events of the BVX-960, one constructor per row of spec/opcode_table.json, with the operands
that the row's own rule names. `t` is always the instant of true time of the happening in picoseconds since power was
applied (log 4). What the world outside decides (which acknowledgement is late, what a wire delivers, what a physical
measurement or a cell's arithmetic yields where the manual gives no function for it) is an operand.
-/
namespace Sys2Proof

/-- The three transports of command packets (R338). -/
inductive Transport where
  /-- The management port. -/
  | mgmt
  /-- Wyilern virtual channel 0. -/
  | fabric
  /-- The PCIe BAR0 mailbox. -/
  | mailbox
deriving DecidableEq, Repr

/-- A command executed in an open session (R343, R349): the instant, its SESSION, the TENANT named in its header and its
TAG. -/
structure Cmd where
  t : Nat
  session : Nat
  tenant : Nat
  tag : Nat
deriving DecidableEq, Repr

/-- The header of a session-0 packet (R340): where it arrived, its peer, and the fields R348 step 3 checks. -/
structure Hand where
  t : Nat
  transport : Transport
  peer : Nat
  tenant : Nat
  tag : Nat
  seq : Nat
  tagged : Bool
deriving DecidableEq, Repr

/-- What host software has written in BAR0 (R328): the request buffer and, with `bell`, the doorbell; EVQ_CONS; MBX_STATUS.REPLY; and
entries of the MSI-X table, 128 bits each. -/
structure Bar0Write where
  bytes : Bytes
  bell : Bool := true
  cons : Option Nat := none
  clearReply : Bool := false
  msix : List (Nat × Nat) := []
deriving DecidableEq, Repr, Inhabited

/-- What a joining device learns of the group on the fabric (R308, R321, R51): whether the members' owner credential digest
equals its own (R452), the live members, the manager's term, log index and root beat, and the group's rate and schedule origin. -/
structure JoinInfo where
  ownerMatch : Bool
  live : List Nat
  term : Nat
  logIndex : Nat
  groupZc : Nat
  rate : Nat
  t0 : Nat
  n0 : Nat
  /-- Whether a manager holds a lease (R324). -/
  lease : Bool := true
deriving DecidableEq, Repr, Inhabited

/-- What happens to a vector in its launch that the manual makes a matter of the silicon: an uncorrectable word, residue
flags raised, a disagreement of the two walks of a tree, a screed skew met (region, expected and received tag), and the words
corrected (R186, R196, R241, R366, R369). -/
structure LaunchFlaw where
  uncorr : Bool := false
  residue : Nat := 0
  walks : Nat := 0
  skew : Option (Nat × Nat × Nat) := none
  corrected : Nat := 0
deriving DecidableEq, Repr

/-- What the checks of one run of a recoat flag (R241, R369, R377): residue mismatches, and disagreements of the two walks of a tree, at the
cell of one rank of the replica that ran it, and at those of other ranks (rank, mismatches, disagreements). A bulk step's run has one
cell. -/
structure RunFlags where
  residue : Nat := 0
  walks : Nat := 0
  rank : Nat := 0
  others : List (Nat × Nat × Nat) := []
deriving DecidableEq, Repr

/-- The outcomes of the recoat, the repeat and the third run of a suspect step or flagged verdict (R374): whether each run
is clean, whether recoat and repeat are equal, whether the first attempt equals them (a sampled step or launch), which of
them the third run equals (0 neither, 1 the recoat, 2 the repeat), the row of the first mismatch, and what each run flags. -/
structure RecoatRuns where
  recoatClean : Bool
  repeatClean : Bool
  equal : Bool
  firstEqual : Bool
  thirdClean : Bool
  third : Nat
  row : Nat
  recoatFlags : RunFlags := {}
  repeatFlags : RunFlags := {}
  thirdFlags : RunFlags := {}
deriving DecidableEq, Repr

/-- A row of a tensor as it lies in a cell store (R168, R183): its region, its first word, its elements, and for a scaled
region its data block, its row of that block, and the word at which the block's screed is held. -/
structure RowRef where
  region : Nat
  addr : Nat
  len : Nat
  block : Nat := 0
  row : Nat := 0
  screed : Nat := 0
deriving DecidableEq, Repr

/-- Where a tile of a step's results goes (R177, R184, R199): its region, the word of its first row, the word of its first
screed block, and the coordinates of its first element in the destination tensor. -/
structure OutRef where
  region : Nat
  addr : Nat
  screed : Nat := 0
  tileRow : Nat := 0
  tileCol : Nat := 0
deriving DecidableEq, Repr

/-- Elementwise vector operators of two rows (R259). -/
inductive VecFn2 where
  | add
  | sub
  | mul
  | div
  | max
  | min
deriving DecidableEq, Repr

/-- Elementwise vector operators of one row (R259). -/
inductive VecFn1 where
  | sqrt
  | relu
  | rsqrt
  | exp
  | log
  | sigmoid
  | tanh
  | gelu
  | silu
deriving DecidableEq, Repr

/-- The vector operators with FP32 results (R259), row by row. The bounds of CLAMP are FP32 codes; the classes of CROSS_ENTROPY are
one INT32 row, an element for each row of logits. -/
inductive VecOp where
  | map2 (f : VecFn2) (a b : List RowRef)
  | fma (a b c : List RowRef)
  | map1 (f : VecFn1) (a : List RowRef)
  | clamp (lo hi : Nat) (a : List RowRef)
  | reduceSum (a : List RowRef)
  | reduceMax (a : List RowRef)
  | softmax (a : List RowRef)
  | norm (rms : Bool) (a : List RowRef)
  | crossEntropy (logits : List RowRef) (classes : RowRef)
  /-- The sums that a device makes for an ALL_REDUCE of `n` ranks (R326): the partials of its cells, each with its cell, and then what the
  ranks it receives from have sent, each with its rank. -/
  | allReduce (n rank : Nat) (parts received : List (Nat × RowRef))
deriving DecidableEq, Repr

/-- One instruction of the vector unit on its registers of 64 FP32 lanes (R200): a load of 8 words of the store, a read of 64
accumulators of a bank, elementwise arithmetic, and a store of 8 words into the commit buffer. -/
inductive LaneOp where
  | load (reg addr : Nat)
  | acc (reg bank index : Nat)
  | map1 (f : VecFn1) (reg a : Nat)
  | map2 (f : VecFn2) (reg a b : Nat)
  | fma (reg a b c : Nat)
  | store (addr reg : Nat)
deriving DecidableEq, Repr

/-- One operation of a step (R199, R200, R242, R259, R271, R273). The layout of a program store's operation words is not
stated, so a step's launch carries what its operation words say: the operator and where its operands lie. -/
inductive StepOp where
  /-- MATMUL and CONV1D into an accumulator bank: activation rows against weight rows (one per output column), with a bias row
  (R182, R199). -/
  | gemm (out : OutRef) (bank : Nat) (acts wgts : List RowRef) (bias : Option RowRef)
  /-- QUANTISE, and DEQUANTISE into an FP32 region (R259). -/
  | quantise (out : OutRef) (rows : List RowRef)
  /-- A vector operator with FP32 results (R259). -/
  | vector (out : OutRef) (op : VecOp)
  /-- ARGMAX: the INT32 index of each row's largest element, at a word address (R259). -/
  | argmax (addr : Nat) (rows : List RowRef)
  /-- TOPK: the k largest elements of each row, and their INT32 indices at a word address (R259). -/
  | topk (out : OutRef) (addr k : Nat) (rows : List RowRef)
  /-- EMBED_GATHER: for each INT32 index, that many words of the table at a word address (R259). -/
  | gather (addr base rowWords : Nat) (indices : RowRef)
  /-- INT32 sums of ALL_REDUCE, element by element over rows in their order (R171, R326). -/
  | intSum (addr : Nat) (rows : List RowRef)
  /-- TREE_ENSEMBLE by a grid image of the job on vectors in the store, in the VERDICT or the OUTPUTS layout (R242); under LEAF_REFIT with
  the leaf table and BASE of master rows, in the order of R236, in place of the image's (R270). -/
  | grid (addr : Nat) (outputs : Bool) (image : Nat) (vectors : List Nat) (leaves : List RowRef) (base : Option RowRef)
  /-- The reduction of a bulk ensemble of several ranks, on rank 0 (R238, R242): for each vector the words of its ranks' partials,
  rank 0 first, in the store; `image` is rank 0's grid image. -/
  | gridReduce (addr : Nat) (outputs : Bool) (image : Nat) (partials : List (List Nat))
  /-- One instruction of the vector unit on its registers (R200). -/
  | lanes (op : LaneOp)
  /-- OPT_UPDATE by a descriptor word (R272, R273): rows of master, weight gradient, moment 1 and moment 2, the word whose elements 0 and 1
  are P1 and P2, and the row and column of the tensor's element at which the tile of these rows begins (R274). -/
  | update (desc : Nat) (rows : List (RowRef × RowRef × RowRef × RowRef)) (powers tileRow tileCol : Nat)
deriving DecidableEq, Repr

/-- What the checks of a step's attempt find (R196, R241, R366, R369): residue mismatches and the row of the first, an
uncorrectable word read from the cell store or the commit buffer, words corrected, and disagreements of the two walks of a tree. -/
structure StepCheck where
  mismatches : Nat
  row : Nat
  storeBad : Bool
  bufferBad : Bool
  corrected : Nat
  walks : Nat := 0
deriving DecidableEq, Repr

/-- What a consumer's check finds in the words of a packet FIFO's packet as it reads them (R76): words corrected, and whether one
is uncorrectable. -/
structure FifoRead where
  corrected : Nat := 0
  bad : Bool := false
deriving DecidableEq, Repr

/-- How far a frame has come on the wire (R66): its last word is in, with a right or a wrong FCS, or its first words alone are. -/
inductive FrameEnd where
  | good
  | badFcs
  | partly
deriving DecidableEq, Repr

/-- An operand of an event, with what the check of the FIFO words read with it finds (R76). -/
structure Checked (α : Type) where
  item : α
  chk : FifoRead := {}
deriving DecidableEq, Repr

/-- The halves of a flow record whose words the encoder finds uncorrectable (R366). -/
structure RecordBad where
  hot : Bool
  cold : Bool
deriving DecidableEq, Repr

/-- The record slot whose cold half a fetch from HBM brings, and whether a word of it is uncorrectable (R149, R366). -/
structure ColdFill where
  slot : Nat
  bad : Bool
deriving DecidableEq, Repr

/-- The tenant whose label queue is read, and the record slots whose hot half the reader finds uncorrectable (R152, R162). -/
structure LabelPoll where
  tenant : Nat
  hotBad : List Nat
deriving DecidableEq, Repr

/-- What the check of the words a copy reads finds: an uncorrectable one, and words corrected (R196, R219). -/
structure CopyCheck where
  bad : Bool
  corrected : Nat
deriving DecidableEq, Repr

/-- How the write of a checkpoint slot ended, and the words corrected in each cell store as it was read (R196, R263). -/
structure CkptCheck where
  good : Bool
  corrected : List (Nat × Nat)
deriving DecidableEq, Repr

/-- The activity counts of the last 1 ms times their coefficients, that the power estimate is formed from (R403): the bulk and the
inline work of each cluster, the copy engines, the fabric launches, and the fixed terms. -/
structure LoadEst where
  bulk : List Nat := []
  inl : List Nat := []
  copy : Nat := 0
  fabric : Nat := 0
  fixed : Nat := 0
deriving DecidableEq, Repr

/-- The ways to clear a trip latch (R495). -/
inductive ClearKind where
  | pwrEn
  | input
  | rstN
deriving DecidableEq, Repr

/-- The commands and events of the block: one constructor per row of the opcode table, in its order. -/
inductive Instr where
  /-- SESSION_OPEN (R453): First handshake step: the device chooses HANDSHAKE, returns its ephemeral ECDH key and both certificates, or refuses. -/
  | sessionOpen (h : Hand) (p : Bytes)
  /-- SESSION_KEY (R454): Final handshake step: the device verifies both signatures over the transcript, derives the session keys and returns SESSION and KEY_CONFIRM. -/
  | sessionKey (h : Hand) (p : Bytes)
  /-- SESSION_CLOSE (R351): Closes the sending session or, for an owner, a named session, after sending the sealed reply. -/
  | sessionClose (c : Cmd) (p : Bytes)
  /-- DEVICE_INFO (R351): Returns DEVICE_ID, CAPS, SERIAL, FW_VERSION and the device number. -/
  | deviceInfo (c : Cmd) (p : Bytes)
  /-- ECHO (R351): Returns its parameters unchanged. -/
  | echo (c : Cmd) (p : Bytes)
  /-- EVENT_SUBSCRIBE (R350): Sets the session's 256-bit event mask. -/
  | eventSubscribe (c : Cmd) (p : Bytes)
  /-- EVENT_SINK (R350): Names or clears the owner's error-sink session on the management port. -/
  | eventSink (c : Cmd) (p : Bytes)
  /-- CSR_READ (R358): Reads COUNT registers in ascending address order under block privilege. -/
  | csrRead (c : Cmd) (p : Bytes)
  /-- CSR_WRITE (R358): Writes COUNT registers in ascending order, stopping at the first refused word. -/
  | csrWrite (c : Cmd) (p : Bytes)
  /-- CSR_MODIFY (R359): Performs one atomic masked read-modify-write of a register, field by field for Mixed registers, and returns the new value. -/
  | csrModify (c : Cmd) (p : Bytes)
  /-- REGISTER_WRITE (R359): A write to a register field that has no behaviour of its own sets it or is refused under the register's range rules. -/
  | registerWrite (c : Cmd) (addr : Nat) (v : W32)
  /-- LO_REGISTER_READ (R60): A read of a _LO register returns the low half and latches its _HI partner. -/
  | loRegisterRead (c : Cmd) (addr : Nat)
  /-- RC_REGISTER_READ (R9): A read of an RC register returns its value and clears it in the same access. -/
  | rcRegisterRead (c : Cmd) (addr : Nat)
  /-- OCC_PKTS_READ (R81): A read of OCC_PKTS returns committed packets and latches OCC_WORDS as one consistent pair. -/
  | occPktsRead (c : Cmd) (fifo : Nat)
  /-- TS_DATA_READ (R84): A read of TS_DATA_7 removes the oldest egress time-stamp record and makes the next current. -/
  | tsDataRead (c : Cmd) (port : Checked Nat)
  /-- STORE_DATA_READ (R224): A read of STORE_DATA_7 advances the cell-store read-out to the next of the 8 words. -/
  | storeDataRead (c : Cmd) (cell : Nat)
  /-- COPY_SUBMIT (R223): Queues up to 64 copy descriptors in a cluster's software queue after checking them. -/
  | copySubmit (c : Cmd) (p : Bytes)
  /-- COPY_STATUS (R223): Returns software-queue occupancy and the last copy fault of a cluster. -/
  | copyStatus (c : Cmd) (p : Bytes)
  /-- MEM_WINDOW_SET (R220): Sets, enables or removes one of a tenant's 16 HBM memory windows. -/
  | memWindowSet (c : Cmd) (p : Bytes)
  /-- MEM_MAP_READ (R221): Returns a tenant's windows and the retired blocks within them. -/
  | memMapRead (c : Cmd) (p : Bytes)
  /-- HBM_PAGE_RETIRE (R160): Retires one 4 KiB HBM page, ending flows in it or withdrawing its 64 KiB block from allocation. -/
  | hbmPageRetire (c : Cmd) (p : Bytes)
  /-- RULE_WRITE (R137): Applies a list of entry write or invalidate records in order, each atomically, stopping at the first refusal. -/
  | ruleWrite (c : Cmd) (p : Bytes)
  /-- RULE_READ (R137): Returns the images of a run of entries, with other tenants' entries read as zeros. -/
  | ruleRead (c : Cmd) (p : Bytes)
  /-- RULE_EPOCH_FLIP (R123): Checks and accepts a rule epoch flip from the lease holder and schedules its flip beat at least 64 beats on. -/
  | ruleEpochFlip (c : Cmd) (p : Bytes)
  /-- RULE_STAGE_OPEN (R122): Grants the staging-bank lease when the bank is STAGE_READY and no lease is held. -/
  | ruleStageOpen (c : Cmd) (p : Bytes)
  /-- RULE_STAGE_CLOSE (R122): Ends the staging lease and restores the staging bank from the active bank. -/
  | ruleStageClose (c : Cmd) (p : Bytes)
  /-- PARSE_LOAD (R105): Checks a signed parse image, writes it into the staging banks of the masked groups and validates it. -/
  | parseLoad (c : Cmd) (p : Bytes)
  /-- PARSE_FLIP (R104): Schedules, or arms under LINK_EPOCH, a program-bank flip of every masked header-core group. -/
  | parseFlip (c : Cmd) (p : Bytes)
  /-- RULE_TEMPLATE_WRITE (R137): Writes templates, key selects, miss templates and hash selects into the staging bank by the owner holding the lease. -/
  | ruleTemplateWrite (c : Cmd) (p : Bytes)
  /-- FRAG_FLUSH (R137): Removes fragment-table records of the tenant, or of all tenants for the owner. -/
  | fragFlush (c : Cmd) (p : Bytes)
  /-- MODEL_LOAD (R251): Checks a signed model package in order, places its replicas and starts installing it into a standby slot. -/
  | modelLoad (c : Cmd) (p : Bytes)
  /-- MODEL_SWAP (R255): Accepts a live swap of a selector's standby slot, scheduling its swap point or arming it for the next rule epoch flip, or disarms it. -/
  | modelSwap (c : Cmd) (p : Bytes)
  /-- MODEL_UNLOAD (R257): Empties a READY or STALE slot and frees its placement, or ends service of an ACTIVE slot at a swap point. -/
  | modelUnload (c : Cmd) (p : Bytes)
  /-- MODEL_STATUS (R266): Returns one status word per model selector. -/
  | modelStatus (c : Cmd) (p : Bytes)
  /-- JOB_START (R260): Checks a compiled job image and cell mask, loads ZC_BULK and releases the job's cells as a gust sequence. -/
  | jobStart (c : Cmd) (p : Bytes)
  /-- JOB_CHECKPOINT (R263): Requests a checkpoint at the job's next barrier. -/
  | jobCheckpoint (c : Cmd) (p : Bytes)
  /-- JOB_CANCEL (R265): Ends a job at once, lets launched copies run out and returns its cells. -/
  | jobCancel (c : Cmd) (p : Bytes)
  /-- JOB_STATUS (R261): Returns a job's state, last status, last committed step and barriers. -/
  | jobStatus (c : Cmd) (p : Bytes)
  /-- CELL_ASSIGN (R204): Moves the masked cells between states and names their tenant, changing none if any fails its condition. -/
  | cellAssign (c : Cmd) (p : Bytes)
  /-- CELL_QUERY (R223): Returns state, mode and tenant of the masked cells. -/
  | cellQuery (c : Cmd) (p : Bytes)
  /-- POLICER_SET (R286): Applies all fields of a policer in one atomic write and fills its buckets. -/
  | policerSet (c : Cmd) (p : Bytes)
  /-- QUEUE_SET (R293): Sets the fields of a queue, or the queue range and shaper of a logical port. -/
  | queueSet (c : Cmd) (p : Bytes)
  /-- SHAPER_SET (R292): Applies a new rate and burst to a shaper with its tokens set full or zero and any debt discarded. -/
  | shaperSet (c : Cmd) (p : Bytes)
  /-- TM_READ (R293): Returns the registers, counters and histograms of named traffic-manager objects. -/
  | tmRead (c : Cmd) (p : Bytes)
  /-- FENCE_SET (R281): Writes a tenant's egress port and class sets or a port's accepted classes. -/
  | fenceSet (c : Cmd) (p : Bytes)
  /-- MIRROR_SET (R283): Configures one mirror session. -/
  | mirrorSet (c : Cmd) (p : Bytes)
  /-- FLOW_REGION_SET (R141): Writes a tenant's flow region, digest ring and label queue placement after overlap and size checks. -/
  | flowRegionSet (c : Cmd) (p : Bytes)
  /-- FLOW_REMOVE (R161): Ends the flow of a given key with reason REMOVED. -/
  | flowRemove (c : Cmd) (p : Bytes)
  /-- FLOW_READ (R161): Returns the flow record of a key or slot. -/
  | flowRead (c : Cmd) (p : Bytes)
  /-- FLOW_FLUSH (R161): Starts ending every flow of the tenant at scanner pace with reason FLUSHED. -/
  | flowFlush (c : Cmd) (p : Bytes)
  /-- GROUP_JOIN (R321): Puts the device into a Wyilern group, GROUP beat mode and the group schedule under the manager order. -/
  | groupJoin (c : Cmd) (p : Bytes) (link : JoinInfo)
  /-- GROUP_LEAVE (R331): Leaves the group: fails group-job ranks, returns the beat to FIXED, time to FREE holdover and routes to reset. -/
  | groupLeave (c : Cmd) (p : Bytes)
  /-- GROUP_STATUS (R330): Returns group membership, manager, term, log index and routes. -/
  | groupStatus (c : Cmd) (p : Bytes)
  /-- FABRIC_PORT_SET (R330): Enables, disables or retrains Wyilern ports, or sets BRIDGE_EN. -/
  | fabricPortSet (c : Cmd) (p : Bytes)
  /-- ROUTE_SET (R330): Writes MEMBER_ROUTE or GROUP_ROUTE entries. -/
  | routeSet (c : Cmd) (p : Bytes)
  /-- LANDING_SET (R317): Gives a job a landing zone of double-buffered slots on this device. -/
  | landingSet (c : Cmd) (p : Bytes)
  /-- LANDING_CLEAR (R330): Frees a landing zone unless a slot is PENDING. -/
  | landingClear (c : Cmd) (p : Bytes)
  /-- BRIDGE_SET (R329): Configures one BAR2 aperture of the host bridge. -/
  | bridgeSet (c : Cmd) (p : Bytes)
  /-- RECOAT_SET (R379): Sets the recoat sampling fraction of the bulk or inline pool. -/
  | recoatSet (c : Cmd) (p : Bytes)
  /-- INTEGRITY_STATUS (R398): Returns per-cell state, transients and last test result for the masked cells. -/
  | integrityStatus (c : Cmd) (p : Bytes)
  /-- FENCE_CELL (R383): Fences the masked cells by command. -/
  | fenceCell (c : Cmd) (p : Bytes)
  /-- TEST_PACK_LOAD (R392): Verifies and loads a signed test pack, replacing its predecessor between tests. -/
  | testPackLoad (c : Cmd) (p : Bytes)
  /-- TEST_RUN (R393): Runs the whole test pack now on the masked cells one at a time. -/
  | testRun (c : Cmd) (p : Bytes)
  /-- SIGNATURE_READ (R394): Returns failure-signature records from the ring. -/
  | signatureRead (c : Cmd) (p : Bytes)
  /-- CAP_SET (R406): Sets the power cap and its window, answering CAP_UNREACHABLE if below the floor. -/
  | capSet (c : Cmd) (p : Bytes)
  /-- POWER_STATUS (R418): Returns the power register block and cluster power estimates. -/
  | powerStatus (c : Cmd) (p : Bytes)
  /-- PRIMER_RUN (R405): Starts primer passes on the masked clusters in ascending order. -/
  | primerRun (c : Cmd) (p : Bytes)
  /-- ENERGY_READ (R417): Returns module energy, or a job's tenure energy with its flags. -/
  | energyRead (c : Cmd) (p : Bytes)
  /-- CAP_PRIORITY_SET (R407): Sets the order in which load classes are protected from calms. -/
  | capPrioritySet (c : Cmd) (p : Bytes)
  /-- FREEZE (R424): Schedules a capture of all RO and RC registers into shadows on a named root beat, device- or group-wide. -/
  | freeze (c : Cmd) (p : Bytes)
  /-- COUNTER_READ (R426): Reads live registers or their shadows with FREEZE_ID. -/
  | counterRead (c : Cmd) (p : Bytes)
  /-- TRACE_ARM (R430): Opens, rearms or ends a stipple trace session with its sources, mode and trigger causes. -/
  | traceArm (c : Cmd) (p : Bytes)
  /-- TRACE_READ (R441): Returns trace records of one ring from a sequence index. -/
  | traceRead (c : Cmd) (p : Bytes)
  /-- DUMP_ARM (R437): Arms or disarms a one-shot dump of a job region at a step or swatch crossing. -/
  | dumpArm (c : Cmd) (p : Bytes)
  /-- SWATCH_SET (R435): Attaches or removes a per-step swatch on a job region. -/
  | swatchSet (c : Cmd) (p : Bytes)
  /-- WAITFOR_READ (R438): Builds a wait-for graph from two ledger reads 1 ms apart and returns its stable edges. -/
  | waitforRead (c : Cmd) (p : Bytes)
  /-- ATTEST (R461): Accepts an attestation request whose signed report follows by event. -/
  | attest (c : Cmd) (p : Bytes)
  /-- TENANT_CREATE (R446): Creates a tenant with quotas, credential and fresh data key, or updates its quotas. -/
  | tenantCreate (c : Cmd) (p : Bytes)
  /-- TENANT_DESTROY (R448): Starts the ordered destruction of a tenant's sessions, fences, jobs, models, rules, cells and queues. -/
  | tenantDestroy (c : Cmd) (p : Bytes)
  /-- KEY_INSTALL (R456): Installs a data key, tenant credential or owner credential. -/
  | keyInstall (c : Cmd) (p : Bytes)
  /-- SIGNER_REGISTER (R457): Sets or removes a tenant's model-signing key pair. -/
  | signerRegister (c : Cmd) (p : Bytes)
  /-- ZEROISE (R462): Destroys secrets by mode and resets the device without a reply. -/
  | zeroise (c : Cmd) (p : Bytes)
  /-- APPROVED_MODE_SET (R465): Selects approved or non-approved mode, closing all sessions and replacing the owner data key. -/
  | approvedModeSet (c : Cmd) (p : Bytes)
  /-- FW_STAGE (R478): Checks a signed firmware image and stages it without touching flash. -/
  | fwStage (c : Cmd) (p : Bytes)
  /-- FW_ACTIVATE (R479): Activates the staged image by handover or by flash write and reset. -/
  | fwActivate (c : Cmd) (p : Bytes)
  /-- FW_STATUS (R483): Returns firmware versions, stage, flags and boot results. -/
  | fwStatus (c : Cmd) (p : Bytes)
  /-- DEVICE_RESET (R483): Answers OK and resets the device within 10 ms. -/
  | deviceReset (c : Cmd) (p : Bytes)
  /-- COMMAND_PACKET_ARRIVE (R343): A command packet arrives and is checked, forwarded, held, executed in SEQ order, answered from cache or dropped. -/
  | commandPacketArrive (t : Nat) (transport : Transport) (peer : Nat) (packet : Checked Bytes)
  /-- EVENT_WINDOW_CLOSE (R503): A coalescing window of an event key closes and one event with COUNT is raised. -/
  | eventWindowClose (t : Nat) (opcode : Nat) (key : Nat)
  /-- SESSION_IDLE_EXPIRY (R342): A session with no authenticated packet for SESSION_IDLE closes. -/
  | sessionIdleExpiry (t : Nat) (session : Nat)
  /-- HANDSHAKE_EXPIRY (R453): A pending handshake is discarded 30 s after its SESSION_OPEN. -/
  | handshakeExpiry (t : Nat) (handshake : Nat)
  /-- LOCKOUT_EXPIRY (R455): A tenant's 60 s authentication lockout ends. -/
  | lockoutExpiry (t : Nat) (tenant : Nat)
  /-- BEAT_CTRL_WRITE (R39): A write of BEAT_CTRL that changes MODE takes effect at the next issued beat, setting or dropping the schedule. -/
  | beatCtrlWrite (c : Cmd) (v : W32)
  /-- BEAT_RATE_TARGET_WRITE (R39): A write of BEAT_RATE_TARGET sets a new schedule origin in FIXED mode, is stored in TRACKING and refused in GROUP. -/
  | beatRateTargetWrite (c : Cmd) (v : W32)
  /-- BEAT_ISSUE (R36): The beat root issues the next beat once every attached spoke has acknowledged and the earliest-issue instant is reached. -/
  | beatIssue (t : Nat) (lateSpokes : List Nat) (lateCells : List Nat)
  /-- SPOKE_TIMEOUT_EXPIRY (R37): A cluster or die spoke silent for SPOKE_TIMEOUT is detached and its launch domains halt. -/
  | spokeTimeoutExpiry (t : Nat) (spoke : Nat)
  /-- STREAM_HANG (R37): The stream spoke times out, EV_STREAM_HANG is raised and the beat keeps waiting. -/
  | streamHang (t : Nat)
  /-- SPOKE_REATTACH (R37): A write of 1 re-attaches a detached spoke from the next issued beat. -/
  | spokeReattach (c : Cmd) (v : W32)
  /-- HALT_MASK_WRITE (R47): A write of HALT_MASK arms a halt of the named clusters at HALT_AT, or is refused. -/
  | haltMaskWrite (c : Cmd) (v : W32)
  /-- CLUSTER_HALT (R47): On beat HALT_AT the armed clusters stop launching and freeze ZC_BULK. -/
  | clusterHalt (t : Nat)
  /-- RESUME_MASK_WRITE (R47): A write of RESUME_MASK arms a release of halted clusters at RESUME_AT, or is refused. -/
  | resumeMaskWrite (c : Cmd) (v : W32)
  /-- CLUSTER_RESUME (R47): On beat RESUME_AT the armed clusters not detached are released as a gust sequence. -/
  | clusterResume (t : Nat)
  /-- GUST_RELEASE (R49): On beat b + g × GUST_INTERVAL gust g of a release is released and begins its ramp. -/
  | gustRelease (t : Nat) (release : Nat)
  /-- SNAP (R56): A write of SNAP captures ZC_ROOT and the issue time of the next root beat as one pair. -/
  | snap (c : Cmd) (v : W32)
  /-- TIME_STEP_NS_WRITE (R60): A write steps the time base by a signed amount when STEP_EN permits. -/
  | timeStepNsWrite (c : Cmd) (v : W32)
  /-- TIME_SERVO_UPDATE (R55): A time-base servo update slews or steps the offset and advances TIME_STATE. -/
  | timeServoUpdate (t : Nat) (offsetNs : Int) (freqPpb : Int)
  /-- TIME_SOURCE_LOST (R55): Loss of the time source puts the time base into HOLDOVER. -/
  | timeSourceLost (t : Nat)
  /-- PPS_IN_EDGE (R498): A rising edge on PTP_1PPS_IN is time-stamped and used for discipline if in interval. -/
  | ppsInEdge (t : Nat) (widthNs : Nat)
  /-- PPS_OUT_PULSE (R55): PTP_1PPS_OUT pulses at each whole second of the time base when enabled. -/
  | ppsOutPulse (t : Nat)
  /-- GROUP_REF_SWITCH (R51): When the group reference port goes down, the member switches to the next port within 1 µs. -/
  | groupRefSwitch (t : Nat) (newPort : Nat)
  /-- ZC_JOIN (R51): At the manager's PTP instant the member steps ZC_ROOT forward to the group value. -/
  | zcJoin (t : Nat) (groupZc : Nat)
  /-- BARRIER_ARRIVE (R53): At a barrier job beat the member halts the job's clusters and sends ARRIVE to the manager. -/
  | barrierArrive (t : Nat) (tenant : Nat) (job : Nat)
  /-- MANAGER_RESUME (R53): When ARRIVE has come from every member the manager sends RESUME with time T. -/
  | managerResume (t : Nat) (job : Nat)
  /-- BARRIER_RELEASE (R53): On the first root beat at or after T the member releases gust 0 of the job on job beat B. -/
  | barrierRelease (t : Nat) (tenant : Nat) (job : Nat)
  /-- PORT_CTRL_WRITE (R64): A write of PORT_CTRL that changes MODE takes every sub-port down before the new mode applies. -/
  | portCtrlWrite (c : Cmd) (port : Nat) (v : W32)
  /-- LINK_STATE_CHANGE (R83): An Ethernet sub-port link comes up or goes down after training or loss of lock. -/
  | linkStateChange (t : Nat) (port : Nat) (sub : Nat) (up : Bool) (lanes : Nat)
  /-- HI_SER_UPDATE (R83): Each second HI_SER is set from the uncorrected-codeword count. -/
  | hiSerUpdate (t : Nat) (port : Nat) (codewords : Nat) (corrected : Nat) (symbols : List Nat)
  /-- FRAME_RECEIVE (R66): An intake frame is checked, paged into its intake FIFO and committed at its last word or rewound. -/
  | frameReceive (t : Nat) (lport : Nat) (frame : Bytes) (fin : FrameEnd) (pcsError : Option Nat)
  /-- PFC_REFRESH (R70): The pause time is sent again every 16,384 quanta while the count stays at or above XON_THRESH. -/
  | pfcRefresh (t : Nat) (lport : Nat) (prio : Nat)
  /-- PFC_FRAME_RECEIVE (R70): A received PFC or PAUSE frame is consumed by the MAC and pauses the matching queues. -/
  | pfcFrameReceive (t : Nat) (lport : Nat) (pause : Bool) (enables : Nat) (times : List Nat)
  /-- PAUSE_EXPIRY (R290): A received pause time runs out and the queue becomes eligible again. -/
  | pauseExpiry (t : Nat) (lport : Nat) (prio : Nat)
  /-- PACKET_COMMIT (R77): A packet's last word is committed and it becomes visible to its FIFO's consumer. -/
  | packetCommit (t : Nat) (fifo : Nat) (words : List W256)
  /-- DROP_REST (R80): A write of 1 discards the unread rest of the packet the consumer is reading. -/
  | dropRest (c : Cmd) (fifo : Nat) (v : W32)
  /-- PACKET_ASSIGN (R86): An eligible packet is given to the lowest idle header core and its window is loaded and checked. -/
  | packetAssign (t : Nat) (group : Nat) (corrected : Nat) (badWord : Bool)
  /-- NOP (R100): Header-core instruction that does nothing. -/
  | hcNop (n : Nat)
  /-- LD (R93): Header-core load of 1 to 8 window bytes relative to the cursor. -/
  | hcLd (n : Nat) (d : Nat) (src : Nat) (sz : Nat) (x : Bool) (off : Nat)
  /-- MOVI (R100): Header-core move of a 16-bit immediate into one quarter of a register. -/
  | hcMovi (n : Nat) (d : Nat) (k : Nat) (imm : Nat)
  /-- ALU (R101): Header-core register-register arithmetic or logic. -/
  | hcAlu (n : Nat) (d : Nat) (src : Nat) (tgt : Nat) (fn : Nat)
  /-- ALUI (R101): Header-core register-immediate arithmetic or logic. -/
  | hcAlui (n : Nat) (d : Nat) (src : Nat) (fn : Nat) (imm : Nat)
  /-- EXT (R100): Header-core bit-field extract. -/
  | hcExt (n : Nat) (d : Nat) (src : Nat) (pos : Nat) (wid : Nat)
  /-- BR (R101): Header-core conditional branch on two registers. -/
  | hcBr (n : Nat) (src : Nat) (tgt : Nat) (cond : Nat) (target : Nat)
  /-- BRI (R101): Header-core conditional branch on a register and an 8-bit immediate. -/
  | hcBri (n : Nat) (src : Nat) (cond : Nat) (imm : Nat) (target : Nat)
  /-- JMP (R100): Header-core unconditional branch. -/
  | hcJmp (n : Nat) (target : Nat)
  /-- DISP (R102): Header-core branch through a dispatch table on a 16-bit value. -/
  | hcDisp (n : Nat) (src : Nat) (tbl : Nat) (dflt : Nat)
  /-- HDR (R94): Header-core instruction recording a header on the stack and advancing the cursor. -/
  | hcHdr (n : Nat) (src : Nat) (ty : Nat) (i : Bool) (immLen : Nat)
  /-- ADV (R94): Header-core cursor advance without recording a header. -/
  | hcAdv (n : Nat) (src : Nat) (i : Bool) (immLen : Nat)
  /-- LEN (R95): Header-core check of the top header's claimed length against the length limit. -/
  | hcLen (n : Nat) (src : Nat) (strict : Bool) (base : Bool)
  /-- FRAG (R96): Header-core marking of a packet as an IP fragment, ending the parse for later fragments. -/
  | hcFrag (n : Nat) (src : Nat) (tgt : Nat) (ipidx : Nat) (v6 : Bool)
  /-- META (R100): Header-core write of register bits into the program region of the metadata. -/
  | hcMeta (n : Nat) (src : Nat) (off : Nat) (wid : Nat)
  /-- DONE (R97): Header-core end of parse with PSTAT 0 and emission of the five-word result. -/
  | hcDone (n : Nat)
  /-- FAIL (R97): Header-core end of parse with a chosen failure status. -/
  | hcFail (n : Nat) (code : Nat)
  /-- PROG_VALIDATE (R103): A write of 1 validates the staging program bank and sets STAGE_VALID if it passes. -/
  | progValidate (c : Cmd) (group : Nat) (v : W32)
  /-- PROG_FLIP (R103): A write schedules an unlinked program-bank flip at least 64 beats on, or arms a linked one. -/
  | progFlip (c : Cmd) (group : Nat) (v : W32)
  /-- PARSE_BANK_FLIP (R103): On the flip beat the staging program bank becomes active for packets starting from then on. -/
  | parseBankFlip (t : Nat) (group : Nat)
  /-- STAGE_LOOKUP (R115): A match stage looks up a packet's pass in its exact and ternary tables and runs the hit or miss templates. -/
  | stageLookup (t : Nat) (pkt : Nat) (stage : Nat) (bad : Checked (List (Nat × Nat)))
  /-- RECIRC_PASS_START (R111): A packet waiting in the recirculation queue takes a first-pass slot for pass 3 or 4. -/
  | recircPassStart (t : Nat) (port : Nat)
  /-- ENTRY_READ (R139): ENTRY_CMD bit 0 reads the entry named by ENTRY_SEL into ENTRY_DATA. -/
  | entryRead (c : Cmd) (stage : Nat)
  /-- ENTRY_WRITE (R118): ENTRY_CMD bit 1 writes ENTRY_DATA atomically into the named entry under the write rules. -/
  | entryWrite (c : Cmd) (stage : Nat)
  /-- ENTRY_INVALIDATE (R118): ENTRY_CMD bit 2 invalidates the named entry. -/
  | entryInvalidate (c : Cmd) (stage : Nat)
  /-- RULE_EPOCH_FLIP_BEAT (R123): On the flip beat CURRENT advances, the lease ends and armed parse flips and linked swaps fire. -/
  | ruleEpochFlipBeat (t : Nat)
  /-- STAGING_COPY_DONE (R124): The background copy of the active bank into the staging bank completes and sets STAGE_READY. -/
  | stagingCopyDone (t : Nat)
  /-- EPOCH_DRAIN_SLOW (R124): DRAIN not at 0 100 µs after a flip raises EV_EPOCH_DRAIN_SLOW. -/
  | epochDrainSlow (t : Nat)
  /-- STAGE_LEASE_EXPIRY (R122): A staging lease ends after STAGE_LEASE_MAX and the staging bank is restored. -/
  | stageLeaseExpiry (t : Nat)
  /-- ACTION_RESOLVE (R127): At step 9 a packet's result is resolved, edits and labels applied, or it is sent to the exception path. -/
  | actionResolve (t : Nat) (pkt : Nat)
  /-- FRAG_LOOKUP (R134): A later fragment looks up the fragment table and takes the recorded result or enters the wait store. -/
  | fragLookup (t : Nat) (pkt : Checked Nat)
  /-- FRAG_WAIT_TIMEOUT (R134): A later fragment still waiting after FRAG_WAIT takes its port default action. -/
  | fragWaitTimeout (t : Nat) (pkt : Nat)
  /-- FRAG_RECORD_EXPIRE (R133): A fragment record expires FRAG_LIFE after its last use. -/
  | fragRecordExpire (t : Nat) (record : Nat)
  /-- FEATURE_ENCODE (R145): At step 5 the encoder looks up and updates the flow record and builds the feature vector. -/
  | featureEncode (t : Nat) (pkt : Nat) (bad : RecordBad)
  /-- COLD_FILL_COMPLETE (R149): The background fetch of a cached record's cold half completes. -/
  | coldFillComplete (t : Nat) (tenant : Nat) (fill : ColdFill)
  /-- FLOW_SCAN (R150): The ageing scanner reads a record and ends it or emits a periodic digest as due. -/
  | flowScan (t : Nat) (tenant : Nat) (slot : Nat) (coldBad : Bool)
  /-- LABEL_QUEUE_POLL (R152): Every 1 µs the encoder applies queued label records to matching flow records. -/
  | labelQueuePoll (t : Nat) (poll : LabelPoll)
  /-- INLINE_LAUNCH (R203): An INLINE cell launches the oldest vector of its input queue, exchanging slots on a new-slot vector. -/
  | inlineLaunch (t : Nat) (cell : Nat) (flaw : LaunchFlaw)
  /-- VERDICT_RELEASE (R371): A verdict whose checks pass leaves its hold, writes its state and goes to the verdict pass. -/
  | verdictRelease (t : Nat) (pkt : Nat)
  /-- INLINE_RECOAT (R377): A flagged verdict's retained vector is resent for recoat and repeat and the outcome classified. -/
  | inlineRecoat (t : Nat) (pkt : Nat) (runs : RecoatRuns)
  /-- RECOAT_DEADLINE (R378): A recoat not resolved within 2 µs gives the packet the default verdict and abandons its state write. -/
  | recoatDeadline (t : Nat) (pkt : Nat)
  /-- CELL_SLOT_EXCHANGE (R256): A placement cell with no new-slot vector exchanges registers on the beat after the old slot's drain ends. -/
  | cellSlotExchange (t : Nat) (cell : Nat)
  /-- MODEL_LOAD_COMPLETE (R251): An accepted package finishes installing and its slot enters READY. -/
  | modelLoadComplete (t : Nat) (tenant : Nat) (sel : Nat)
  /-- MODEL_SWAP_POINT (R255): On the swap point the new slot becomes ACTIVE and the old DRAINING. -/
  | modelSwapPoint (t : Nat) (tenant : Nat) (sel : Nat)
  /-- TM_ADMIT (R280): At step 10 the fence, mirrors, policer and queue admission are applied to a packet. -/
  | tmAdmit (t : Nat) (pkt : Nat)
  /-- FRAME_TRANSMIT (R289): A port's deficit round robin sends, or flushes on a down link, the head frame of an eligible queue. -/
  | frameTransmit (t : Nat) (lport : Checked Nat)
  /-- SH_APPLY (R292): A write applies SH_RATE_NEXT and SH_BURST_NEXT with tokens set full or zero. -/
  | shApply (c : Cmd) (shaper : Nat) (v : W32)
  /-- QUEUE_HISTOGRAM_SAMPLE (R295): Every 1 µs each queue's occupancy is sampled into its histogram. -/
  | queueHistogramSample (t : Nat)
  /-- STEP_LAUNCH (R210): A bulk step launches on the first beat meeting its beat, calm, wait and buffer conditions. -/
  | stepLaunch (t : Nat) (cell : Nat) (work : List StepOp)
  /-- STEP_CHECK_DONE (R211): A step's last residue check completes: it commits, replays on a skew, or becomes suspect. -/
  | stepCheckDone (t : Nat) (cell : Nat) (step : Nat) (check : StepCheck)
  /-- RECOAT_COMPARE (R374): A suspect step's recoat and repeat complete and are compared, with a third run or restart if needed. -/
  | recoatCompare (t : Nat) (cell : Nat) (step : Nat) (runs : RecoatRuns)
  /-- COPY_LAUNCH (R217): A queued copy launches after its beat, calm, commit and order conditions, checked against the tenant's memory. -/
  | copyLaunch (t : Nat) (queue : Nat)
  /-- COPY_COMPLETE (R218): A copy's last word lands and NOTIFY increments a counter or EV_COPY_DONE is raised. -/
  | copyComplete (t : Nat) (copy : Nat) (check : CopyCheck)
  /-- ZEROING_DONE (R205): A cell's 8,192-beat zeroing completes and ZEROING clears. -/
  | zeroingDone (t : Nat) (cell : Nat)
  /-- STORE_CMD (R224): A write reads 8 cell-store words for STORE_DATA read-out. -/
  | storeCmd (c : Cmd) (cell : Nat) (v : W32)
  /-- CHECKPOINT_WRITE_DONE (R263): A checkpoint slot's content and digest are written and its VALID header word is set. -/
  | checkpointWriteDone (t : Nat) (tenant : Nat) (job : Nat) (check : CkptCheck)
  /-- CKPT_DONE_LOG (R325): The manager logs a group checkpoint once every member has reported CKPT_DONE. -/
  | ckptDoneLog (t : Nat) (job : Nat) (barrier : Nat) (member : Nat)
  /-- JOB_RESTART (R388): A bulk job reloads its last VALID checkpoint and releases its cells. -/
  | jobRestart (t : Nat) (tenant : Nat) (job : Nat)
  /-- CELL_ACK_TIMEOUT (R383): A cell that has not acknowledged a beat within CELL_ACK_TIMEOUT is fenced. -/
  | cellAckTimeout (t : Nat) (cell : Nat)
  /-- CELL_FENCE (R383): A cell is fenced and its ledger records are reclaimed block by block. -/
  | cellFence (t : Nat) (cell : Nat) (kind : Nat)
  /-- FENCE_RECLAIM_DONE (R383): The reclaim loop of a fence ends and EV_FENCE_RECLAIMED is raised. -/
  | fenceReclaimDone (t : Nat) (cell : Nat)
  /-- FIELD_TEST_START (R390): Every TEST_INTERVAL the test pack starts on the eligible cell with the oldest test. -/
  | fieldTestStart (t : Nat)
  /-- TEST_KERNEL_DONE (R391): A test completes and the cell passes or is fenced with a failure signature. -/
  | testKernelDone (t : Nat) (cell : Nat) (crc : W32) (flagged : Bool) (beats : Nat)
  /-- TEST_STALE_CHECK (R390): Once a day a cell whose last passed test is older than TEST_MAX_AGE raises EV_TEST_STALE. -/
  | testStaleCheck (t : Nat)
  /-- SCRUB_READ (R368): An HBM controller scrub reads a word, writes back a corrected one or reports an uncorrectable one. -/
  | scrubRead (t : Nat) (stack : Nat) (offset : Nat) (error : Nat)
  /-- RULE_ENTRY_REWRITE (R367): Limik rewrites an uncorrectable rule entry from its journal. -/
  | ruleEntryRewrite (t : Nat) (stage : Nat) (bank : Nat) (table : Nat) (index : Nat)
  /-- LINK_FRAME_RECEIVE (R302): A Wyilern link frame is received, acknowledged or discarded to trigger replay. -/
  | linkFrameReceive (t : Nat) (port : Nat) (fseq : Nat) (ackseq : Nat) (corrected : Nat) (good : Bool)
  /-- FABRIC_PACKET_RECEIVE (R306): A fabric packet is accepted on its virtual channel, checked for credit and duplicates, and routed or consumed. -/
  | fabricPacketReceive (t : Nat) (port : Nat) (hdr : W256) (data : Checked Bytes)
  /-- WR_DATA (R314): A remote write packet is checked, written (pending if SPEC) and acknowledged. -/
  | wrData (t : Nat) (port : Nat) (hdr : W256) (data : Bytes)
  /-- RD_REQ (R314): A remote read request is checked and answered with RD_DATA packets. -/
  | rdReq (t : Nat) (port : Nat) (hdr : W256) (data : Bytes)
  /-- RD_DATA (R314): Read data is written locally into the reserved space. -/
  | rdData (t : Nat) (port : Nat) (hdr : W256) (data : Bytes)
  /-- ACK (R314): An acknowledgement of a write or REVOKE reaches the source engine. -/
  | fabAck (t : Nat) (port : Nat) (hdr : W256) (data : Bytes)
  /-- NOTIFY (R314): A NOTIFY packet increments a destination cell's arrival counter. -/
  | fabNotify (t : Nat) (port : Nat) (hdr : W256)
  /-- CONFIRM (R319): A CONFIRM token publishes every slot pending for its tuple and increments their counters. -/
  | fabConfirm (t : Nat) (port : Nat) (hdr : W256)
  /-- REVOKE (R319): A REVOKE token drops every pending half of its tuple and is acknowledged. -/
  | fabRevoke (t : Nat) (port : Nat) (hdr : W256)
  /-- CREDIT (R307): A CREDIT packet returns flit credits for each virtual channel and class. -/
  | fabCredit (t : Nat) (port : Nat) (fields : List Nat)
  /-- COPY_TIMEOUT_EXPIRY (R315): A remote copy not complete within COPY_TIMEOUT faults UNREACHABLE. -/
  | copyTimeoutExpiry (t : Nat) (xfer : Nat)
  /-- SPEC_TIMEOUT_EXPIRY (R320): A landing slot pending longer than SPEC_TIMEOUT is revoked and the receiving job fails back. -/
  | specTimeoutExpiry (t : Nat) (zone : Nat) (slot : Nat)
  /-- FABRIC_PORT_DOWN (R303): A Wyilern port goes down for a lane, error, retry, credit, spoke, software or partner cause. -/
  | fabricPortDown (t : Nat) (port : Nat) (cause : Nat)
  /-- FABRIC_PORT_TRAINED (R304): A Wyilern port completes training and partner check and comes up or is held MISCABLE. -/
  | fabricPortTrained (t : Nat) (port : Nat) (device : Nat) (partner : Nat)
  /-- MISCABLE_RECHECK (R303): A MISCABLE port retrains and repeats the partner check every 1 s. -/
  | miscableRecheck (t : Nat) (port : Nat) (device : Nat) (partner : Nat)
  /-- ROUTE_RECOMPUTE (R312): The manager recomputes and distributes member and group routes after a loss. -/
  | routeRecompute (t : Nat) (members : List Nat) (groups : List Nat)
  /-- LEASE_RENEWAL (R321): Every 10 ms the manager sends LEASE to every member. -/
  | leaseRenewal (t : Nat)
  /-- LEASE_RECEIVE (R322): A member takes a LEASE of the highest term seen and a follower acknowledges it. -/
  | leaseReceive (t : Nat) (term : Nat) (renewal : Nat) (sender : Nat)
  /-- MISSED_RENEWAL (R322): A member counts a missed renewal, and after three a follower takes over as manager. -/
  | missedRenewal (t : Nat) (otherLog : Nat)
  /-- MANAGER_STEPDOWN (R321): A manager without follower acknowledgement for 20 ms stops all manager actions. -/
  | managerStepdown (t : Nat)
  /-- LOG_COMMIT (R323): A configuration log record is committed once the followers have stored it. -/
  | logCommit (t : Nat) (acks : Nat)
  /-- MEMBER_LOST (R387): The manager declares a member lost and every member reclaims its records. -/
  | memberLost (t : Nat) (member : Nat)
  /-- PCIE_BAR0_DOORBELL (R328): A host write of MBX_DOORBELL passes the request buffer to command ingress. -/
  | pcieBar0Doorbell (t : Nat) (len : Nat) (request : Bar0Write)
  /-- PCIE_BAR2_ACCESS (R329): A host read or write through a BAR2 aperture becomes a checked copy. -/
  | pcieBar2Access (t : Nat) (write : Bool) (offset : Nat) (len : Nat) (data : Bytes) (inTime : Bool)
  /-- PCIE_FLR (R327): A function-level reset resets the bridge mailbox, apertures and MSI-X state only. -/
  | pcieFlr (t : Nat)
  /-- CAP_CONTROL_LOOP (R409): Every 1 ms the power estimate is formed and calm settings are raised or lowered against the cap. -/
  | capControlLoop (t : Nat) (loads : LoadEst)
  /-- EST_GAIN_UPDATE (R403): Every 100 ms EST_GAIN moves towards the measured-to-estimated energy ratio. -/
  | estGainUpdate (t : Nat)
  /-- POWER_SAMPLE (R402): Every 10 µs input voltage and current are sampled into ENERGY. -/
  | powerSample (t : Nat) (mv : Nat) (ma : Nat)
  /-- CALM_NEED_REPORT (R411): Every 1 ms a member sends its calm needs to the manager, which logs and distributes the group ratio. -/
  | calmNeedReport (t : Nat) (member : Nat) (bulk : Nat) (copy : Nat) (fabric : Nat)
  /-- GROUP_CALM_APPLY (R411): Members apply the group calm ratio from the named root beat. -/
  | groupCalmApply (t : Nat)
  /-- PRIMER_PHASE (R405): A primer pass advances through its timed kernels and finally stores coefficients and releases the cluster. -/
  | primerPhase (t : Nat) (margin : Int)
  /-- THERMAL_SAMPLE (R416): Every 1 ms die and stack temperatures are read and the thermal cap and alerts adjusted. -/
  | thermalSample (t : Nat) (dies : List Int) (hbms : List Int)
  /-- THERMAL_TRIP (R416): A junction at 125 °C or a stack at 105 °C removes the core rails and latches. -/
  | thermalTrip (t : Nat)
  /-- FREEZE_CAPTURE (R424): On root beat N every RO and RC register is copied into its shadow. -/
  | freezeCapture (t : Nat)
  /-- STIPPLE_SAMPLE (R427): On its sampling beat a source writes a trace record with its stall state. -/
  | stippleSample (t : Nat) (source : Nat)
  /-- TRACE_TRIGGER (R433): A trace session fires on an armed cause, writes TRIG records and propagates in a group. -/
  | traceTrigger (t : Nat) (cause : Nat) (origin : Nat) (detail : Nat)
  /-- DUMP_COPY_DONE (R437): An armed dump's copy completes and the job's writing steps may launch again. -/
  | dumpCopyDone (t : Nat) (tenant : Nat) (job : Nat) (dump : Nat) (fault : Nat)
  /-- HANG_TIMEOUT_EXPIRY (R440): A running job with no committed step for HANG_TIMEOUT raises EV_HANG_SUSPECT. -/
  | hangTimeoutExpiry (t : Nat) (tenant : Nat) (job : Nat)
  /-- ATTEST_REPORT_DONE (R461): The signed attestation report is sent in EV_ATTEST_REPORT. -/
  | attestReportDone (t : Nat)
  /-- TENANT_KEY_ZEROISE (R448): When no page or packet of a destroyed tenant remains, its key and credential are zeroised. -/
  | tenantKeyZeroise (t : Nat) (tenant : Nat)
  /-- TAMPER_DETECT (R463): A mesh break zeroises secrets, latches TAMPER_LATCHED and asserts ALERT_N. -/
  | tamperDetect (t : Nat)
  /-- PERIODIC_SELFTEST (R466): Every SELFTEST_PERIOD the known-answer tests rerun on one AES engine at a time. -/
  | periodicSelftest (t : Nat) (engine : Nat)
  /-- SELFTEST_FAILURE (R466): A self-test failure puts the device in the ERROR state. -/
  | selftestFailure (t : Nat) (cause : Nat)
  /-- BOOT_KEY_READY (R451): The boot key pairs are generated and certified, and sessions are answered. -/
  | bootKeyReady (t : Nat)
  /-- POWER_ON (R472): PWR_EN high with input in range starts the rails, reset release, boot ROM, training and boot test. -/
  | powerOn (t : Nat) (mv : Nat)
  /-- PIN_RESET (R471): RST_N held low for at least 1 µs resets the device. -/
  | pinReset (t : Nat) (lowNs : Nat)
  /-- POWER_REMOVE (R472): PWR_EN falling or input below 40 V makes outputs inert and removes the rails. -/
  | powerRemove (t : Nat) (mv : Nat)
  /-- BOOT_ROM_START (R459): After reset the boot ROM self-tests, checks and measures the flash image and starts firmware or recovery. -/
  | bootRomStart (t : Nat) (selftest : Nat)
  /-- HBM_TRAIN_DONE (R475): HBM training completes and the boot test and primer passes run. -/
  | hbmTrainDone (t : Nat) (hbms : Nat) (failedCells : List Nat)
  /-- RECOVERY_FETCH (R476): Every 10 s in recovery the boot ROM fetches and checks an image by TFTP. -/
  | recoveryFetch (t : Nat) (image : Bytes)
  /-- MGMT_ADDRESS_CONFIG (R474): The management port obtains addresses by SLAAC and DHCPv4. -/
  | mgmtAddressConfig (t : Nat) (prefixes : List Nat) (ipv4 : Option Nat)
  /-- HANDOVER_RESUME (R480): The new image reads the state record and resumes taking commands. -/
  | handoverResume (t : Nat)
  /-- HANDOVER_TIMEOUT (R482): A new image not resumed within 2 s is abandoned and the flash image resumes. -/
  | handoverTimeout (t : Nat)
  /-- FLASH_WRITE_DONE (R480): The handed-over image is written to flash and FUSE_SVN committed if asked. -/
  | flashWriteDone (t : Nat)
  /-- PRESENT_N_OPEN (R492): PRESENT_N opening turns the rails off within 50 µs. -/
  | presentNOpen (t : Nat)
  /-- OVERVOLTAGE (R494): Input above 66 V for 10 µs turns the rails off until it falls below 64 V. -/
  | overvoltage (t : Nat) (mv : Nat)
  /-- REVERSE_POLARITY (R494): Input below −1 V keeps every rail off. -/
  | reversePolarity (t : Nat) (mv : Int)
  /-- SENSE_FAULT (R494): An open or crossed VSENSE is replaced by the internal measurement. -/
  | senseFault (t : Nat) (crossed : Bool) (internalMv : Nat)
  /-- AUX_OVERLOAD (R494): An AUX_3V3 short folds the output back and retries every 100 ms. -/
  | auxOverload (t : Nat) (present : Bool)
  /-- TRIP_CLEAR (R495): A clearing action on a cooled module clears the trip latch and starts power-on. -/
  | tripClear (t : Nat) (how : ClearKind)
  /-- MB_FAULT_CLEAR (R496): An I3C write of 1 to an MB_FAULT bit clears it. -/
  | mbFaultClear (t : Nat) (mask : Nat)
  /-- FW_IMAGE_STAGED (R478): The copy of an accepted firmware image into the owner region completes, IMAGE_STAGED is set and EV_FW_STAGED is raised. -/
  | fwImageStaged (t : Nat)
  /-- REVOKE_RESEND (R319): A REVOKE whose ACK has not returned within COPY_TIMEOUT is sent again. -/
  | revokeResend (t : Nat) (token : Nat)
  /-- SHAPER_OPEN (R291): A closed shaper's tokens refill above 0, so it opens and its queue becomes eligible and rejoins the tail of active. -/
  | shaperOpen (t : Nat) (shaper : Nat)
  /-- REFCLK_SYS_LOSS (R497): REFCLK_SYS goes missing or out of tolerance and holds the device in reset with PWR_GOOD high, or returns and releases it. -/
  | refclkSysLoss (t : Nat) (good : Bool)
  /-- I3C_ADDRESS_ASSIGN (R496): An I3C SETDASA or ENTDAA command assigns the management target its dynamic address. -/
  | i3cAddressAssign (t : Nat) (entdaa : Bool) (addr : Nat)
deriving DecidableEq, Repr

end Sys2Proof
end

