-- ==== Sys2Proof/WellFormed.lean ====
section
/-!
DEFINITION. Which commands and events the hardware can be given: operands within the widths of the fields, indices and packet
lengths of the manual (R15, R61, R75, R100, R101, R295, R335, R337, R360). The meanings are defined on every term; a term that is not
well formed names something that does not exist, and changes nothing or is refused.
-/
namespace Sys2Proof

/-- The header fields of a sealed command and the length of its parameters (R335, R337). -/
def cmdOk (c : Cmd) (p : Bytes) : Bool :=
  decide (c.session < 2 ^ 32) && decide (c.tenant < 2 ^ 16) && decide (c.tag < 2 ^ 32) && decide (p.length ≤ 65456)

/-- The header fields of a session-0 packet and the length of its parameters (R335, R337). -/
def handOk (h : Hand) (p : Bytes) : Bool :=
  decide (h.tenant < 2 ^ 16) && decide (h.tag < 2 ^ 32) && decide (h.seq < 2 ^ 64) && decide (p.length ≤ 65472)

/-- Whether the operands of a row lie within what the hardware can be given. -/
def Instr.wf : Instr → Bool
  | .sessionOpen h p => handOk h p
  | .sessionKey h p => handOk h p
  | .sessionClose c p => cmdOk c p
  | .deviceInfo c p => cmdOk c p
  | .echo c p => cmdOk c p
  | .eventSubscribe c p => cmdOk c p
  | .eventSink c p => cmdOk c p
  | .csrRead c p => cmdOk c p
  | .csrWrite c p => cmdOk c p
  | .csrModify c p => cmdOk c p
  | .registerWrite c addr _ => cmdOk c [] && decide (addr < 4294967296)
  | .loRegisterRead c addr => cmdOk c [] && decide (addr < 4294967296)
  | .rcRegisterRead c addr => cmdOk c [] && decide (addr < 4294967296)
  | .occPktsRead c fifo => cmdOk c [] && decide (fifo < 2304)
  | .tsDataRead c port => cmdOk c [] && decide (port.item < 16)
  | .storeDataRead c cell => cmdOk c [] && decide (cell < 256)
  | .copySubmit c p => cmdOk c p
  | .copyStatus c p => cmdOk c p
  | .memWindowSet c p => cmdOk c p
  | .memMapRead c p => cmdOk c p
  | .hbmPageRetire c p => cmdOk c p
  | .ruleWrite c p => cmdOk c p
  | .ruleRead c p => cmdOk c p
  | .ruleEpochFlip c p => cmdOk c p
  | .ruleStageOpen c p => cmdOk c p
  | .ruleStageClose c p => cmdOk c p
  | .parseLoad c p => cmdOk c p
  | .parseFlip c p => cmdOk c p
  | .ruleTemplateWrite c p => cmdOk c p
  | .fragFlush c p => cmdOk c p
  | .modelLoad c p => cmdOk c p
  | .modelSwap c p => cmdOk c p
  | .modelUnload c p => cmdOk c p
  | .modelStatus c p => cmdOk c p
  | .jobStart c p => cmdOk c p
  | .jobCheckpoint c p => cmdOk c p
  | .jobCancel c p => cmdOk c p
  | .jobStatus c p => cmdOk c p
  | .cellAssign c p => cmdOk c p
  | .cellQuery c p => cmdOk c p
  | .policerSet c p => cmdOk c p
  | .queueSet c p => cmdOk c p
  | .shaperSet c p => cmdOk c p
  | .tmRead c p => cmdOk c p
  | .fenceSet c p => cmdOk c p
  | .mirrorSet c p => cmdOk c p
  | .flowRegionSet c p => cmdOk c p
  | .flowRemove c p => cmdOk c p
  | .flowRead c p => cmdOk c p
  | .flowFlush c p => cmdOk c p
  | .groupJoin c p _ => cmdOk c p
  | .groupLeave c p => cmdOk c p
  | .groupStatus c p => cmdOk c p
  | .fabricPortSet c p => cmdOk c p
  | .routeSet c p => cmdOk c p
  | .landingSet c p => cmdOk c p
  | .landingClear c p => cmdOk c p
  | .bridgeSet c p => cmdOk c p
  | .recoatSet c p => cmdOk c p
  | .integrityStatus c p => cmdOk c p
  | .fenceCell c p => cmdOk c p
  | .testPackLoad c p => cmdOk c p
  | .testRun c p => cmdOk c p
  | .signatureRead c p => cmdOk c p
  | .capSet c p => cmdOk c p
  | .powerStatus c p => cmdOk c p
  | .primerRun c p => cmdOk c p
  | .energyRead c p => cmdOk c p
  | .capPrioritySet c p => cmdOk c p
  | .freeze c p => cmdOk c p
  | .counterRead c p => cmdOk c p
  | .traceArm c p => cmdOk c p
  | .traceRead c p => cmdOk c p
  | .dumpArm c p => cmdOk c p
  | .swatchSet c p => cmdOk c p
  | .waitforRead c p => cmdOk c p
  | .attest c p => cmdOk c p
  | .tenantCreate c p => cmdOk c p
  | .tenantDestroy c p => cmdOk c p
  | .keyInstall c p => cmdOk c p
  | .signerRegister c p => cmdOk c p
  | .zeroise c p => cmdOk c p
  | .approvedModeSet c p => cmdOk c p
  | .fwStage c p => cmdOk c p
  | .fwActivate c p => cmdOk c p
  | .fwStatus c p => cmdOk c p
  | .deviceReset c p => cmdOk c p
  | .commandPacketArrive _ _ _ packet => decide (packet.item.length < 65536)
  | .eventWindowClose _ _ _ => true
  | .sessionIdleExpiry _ _ => true
  | .handshakeExpiry _ _ => true
  | .lockoutExpiry _ tenant => decide (tenant < 256)
  | .beatCtrlWrite c _ => cmdOk c []
  | .beatRateTargetWrite c _ => cmdOk c []
  | .beatIssue _ _ _ => true
  | .spokeTimeoutExpiry _ spoke => decide (spoke < 20)
  | .streamHang _ => true
  | .spokeReattach c _ => cmdOk c []
  | .haltMaskWrite c _ => cmdOk c []
  | .clusterHalt _ => true
  | .resumeMaskWrite c _ => cmdOk c []
  | .clusterResume _ => true
  | .gustRelease _ _ => true
  | .snap c _ => cmdOk c []
  | .timeStepNsWrite c _ => cmdOk c []
  | .timeServoUpdate _ _ _ => true
  | .timeSourceLost _ => true
  | .ppsInEdge _ _ => true
  | .ppsOutPulse _ => true
  | .groupRefSwitch _ newPort => decide (newPort < 12)
  | .zcJoin _ _ => true
  | .barrierArrive _ tenant _ => decide (tenant < 256)
  | .managerResume _ _ => true
  | .barrierRelease _ tenant _ => decide (tenant < 256)
  | .portCtrlWrite c port _ => cmdOk c [] && decide (port < 16)
  | .linkStateChange _ port sub _ _ => decide (port < 16) && decide (sub < 8)
  | .hiSerUpdate _ port _ _ symbols => decide (port < 16) && decide (symbols.length = 8)
  | .frameReceive _ lport _ _ _ => decide (lport < 64)
  | .pfcRefresh _ lport prio => decide (lport < 64) && decide (prio < 9)
  | .pfcFrameReceive _ lport _ _ _ => decide (lport < 64)
  | .pauseExpiry _ lport prio => decide (lport < 64) && decide (prio < 9)
  | .packetCommit _ fifo _ => decide (fifo < 2304)
  | .dropRest c fifo _ => cmdOk c [] && decide (fifo < 2304)
  | .packetAssign _ group _ _ => decide (group < 16)
  | .hcNop n => decide (n < 2048)
  | .hcLd n d src sz _ off => decide (n < 2048) && decide (d < 16) && decide (src < 16) && decide (sz < 4) && decide (off < 512)
  | .hcMovi n d k imm => decide (n < 2048) && decide (d < 16) && decide (k < 4) && decide (imm < 65536)
  | .hcAlu n d src tgt fn => decide (n < 2048) && decide (d < 16) && decide (src < 16) && decide (tgt < 16) && decide (fn < 8)
  | .hcAlui n d src fn imm => decide (n < 2048) && decide (d < 16) && decide (src < 16) && decide (fn < 8) && decide (imm < 16384)
  | .hcExt n d src pos wid => decide (n < 2048) && decide (d < 16) && decide (src < 16) && decide (pos < 64) && decide (wid < 64)
  | .hcBr n src tgt cond target => decide (n < 2048) && decide (src < 16) && decide (tgt < 16) && decide (cond < 4) && decide (target < 4096)
  | .hcBri n src cond imm target => decide (n < 2048) && decide (src < 16) && decide (cond < 4) && decide (imm < 256) && decide (target < 4096)
  | .hcJmp n target => decide (n < 2048) && decide (target < 4096)
  | .hcDisp n src tbl dflt => decide (n < 2048) && decide (src < 16) && decide (tbl < 16) && decide (dflt < 4096)
  | .hcHdr n src ty i immLen => decide (n < 2048) && decide (src < 16) && decide (1 ≤ ty ∧ ty < 128) && decide (immLen < 512) && (!i || decide (0 < immLen))
  | .hcAdv n src _ immLen => decide (n < 2048) && decide (src < 16) && decide (immLen < 512)
  | .hcLen n src _ _ => decide (n < 2048) && decide (src < 16)
  | .hcFrag n src tgt ipidx _ => decide (n < 2048) && decide (src < 16) && decide (tgt < 16) && decide (ipidx < 16)
  | .hcMeta n src off wid => decide (n < 2048) && decide (src < 16) && decide (384 ≤ off) && decide (wid < 64) && decide (off + (if wid = 0 then 64 else wid) ≤ 1024)
  | .hcDone n => decide (n < 2048)
  | .hcFail n code => decide (n < 2048) && decide (1 ≤ code ∧ code < 5)
  | .progValidate c group _ => cmdOk c [] && decide (group < 16)
  | .progFlip c group _ => cmdOk c [] && decide (group < 16)
  | .parseBankFlip _ group => decide (group < 16)
  | .stageLookup _ _ stage _ => decide (stage < 12)
  | .recircPassStart _ port => decide (port < 16)
  | .entryRead c stage => cmdOk c [] && decide (stage < 12)
  | .entryWrite c stage => cmdOk c [] && decide (stage < 12)
  | .entryInvalidate c stage => cmdOk c [] && decide (stage < 12)
  | .ruleEpochFlipBeat _ => true
  | .stagingCopyDone _ => true
  | .epochDrainSlow _ => true
  | .stageLeaseExpiry _ => true
  | .actionResolve _ _ => true
  | .fragLookup _ _ => true
  | .fragWaitTimeout _ _ => true
  | .fragRecordExpire _ _ => true
  | .featureEncode _ _ _ => true
  | .coldFillComplete _ tenant _ => decide (tenant < 256)
  | .flowScan _ tenant _ _ => decide (tenant < 256)
  | .labelQueuePoll _ poll => decide (poll.tenant < 256)
  | .inlineLaunch _ cell _ => decide (cell < 256)
  | .verdictRelease _ _ => true
  | .inlineRecoat _ _ _ => true
  | .recoatDeadline _ _ => true
  | .cellSlotExchange _ cell => decide (cell < 256)
  | .modelLoadComplete _ tenant sel => decide (tenant < 256) && decide (sel < 16)
  | .modelSwapPoint _ tenant sel => decide (tenant < 256) && decide (sel < 16)
  | .tmAdmit _ _ => true
  | .frameTransmit _ lport => decide (lport.item < 64)
  | .shApply c shaper _ => cmdOk c [] && decide (shaper < 4096)
  | .queueHistogramSample _ => true
  | .stepLaunch _ cell _ => decide (cell < 256)
  | .stepCheckDone _ cell _ _ => decide (cell < 256)
  | .recoatCompare _ cell _ _ => decide (cell < 256)
  | .copyLaunch _ _ => true
  | .copyComplete _ _ _ => true
  | .zeroingDone _ cell => decide (cell < 256)
  | .storeCmd c cell _ => cmdOk c [] && decide (cell < 256)
  | .checkpointWriteDone _ tenant _ _ => decide (tenant < 256)
  | .ckptDoneLog _ _ _ member => decide (member < 64)
  | .jobRestart _ tenant _ => decide (tenant < 256)
  | .cellAckTimeout _ cell => decide (cell < 256)
  | .cellFence _ cell _ => decide (cell < 256)
  | .fenceReclaimDone _ cell => decide (cell < 256)
  | .fieldTestStart _ => true
  | .testKernelDone _ cell _ _ _ => decide (cell < 256)
  | .testStaleCheck _ => true
  | .scrubRead _ stack _ _ => decide (stack < 16)
  | .ruleEntryRewrite _ stage bank table _ => decide (stage < 12) && decide (bank < 2) && decide (table < 6)
  | .linkFrameReceive _ port _ _ _ _ => decide (port < 24)
  | .fabricPacketReceive _ port _ _ => decide (port < 24)
  | .wrData _ port _ _ => decide (port < 24)
  | .rdReq _ port _ _ => decide (port < 24)
  | .rdData _ port _ _ => decide (port < 24)
  | .fabAck _ port _ _ => decide (port < 24)
  | .fabNotify _ port _ => decide (port < 24)
  | .fabConfirm _ port _ => decide (port < 24)
  | .fabRevoke _ port _ => decide (port < 24)
  | .fabCredit _ port _ => decide (port < 24)
  | .copyTimeoutExpiry _ _ => true
  | .specTimeoutExpiry _ _ _ => true
  | .fabricPortDown _ port _ => decide (port < 24)
  | .fabricPortTrained _ port device partner => decide (port < 24) && decide (device < 8192) && decide (partner < 8192)
  | .miscableRecheck _ port device partner => decide (port < 24) && decide (device < 8192) && decide (partner < 8192)
  | .routeRecompute _ _ _ => true
  | .leaseRenewal _ => true
  | .leaseReceive _ _ _ _ => true
  | .missedRenewal _ _ => true
  | .managerStepdown _ => true
  | .logCommit _ _ => true
  | .memberLost _ member => decide (member < 64)
  | .pcieBar0Doorbell _ _ _ => true
  | .pcieBar2Access _ _ _ _ _ _ => true
  | .pcieFlr _ => true
  | .capControlLoop _ _ => true
  | .estGainUpdate _ => true
  | .powerSample _ _ _ => true
  | .calmNeedReport _ member _ _ _ => decide (member < 64)
  | .groupCalmApply _ => true
  | .primerPhase _ _ => true
  | .thermalSample _ _ _ => true
  | .thermalTrip _ => true
  | .freezeCapture _ => true
  | .stippleSample _ _ => true
  | .traceTrigger _ _ _ _ => true
  | .dumpCopyDone _ tenant _ _ _ => decide (tenant < 256)
  | .hangTimeoutExpiry _ tenant _ => decide (tenant < 256)
  | .attestReportDone _ => true
  | .tenantKeyZeroise _ tenant => decide (tenant < 256)
  | .tamperDetect _ => true
  | .periodicSelftest _ engine => decide (engine < 64)
  | .selftestFailure _ _ => true
  | .bootKeyReady _ => true
  | .powerOn _ _ => true
  | .pinReset _ _ => true
  | .powerRemove _ _ => true
  | .bootRomStart _ _ => true
  | .hbmTrainDone _ _ _ => true
  | .recoveryFetch _ _ => true
  | .mgmtAddressConfig _ _ _ => true
  | .handoverResume _ => true
  | .handoverTimeout _ => true
  | .flashWriteDone _ => true
  | .presentNOpen _ => true
  | .overvoltage _ _ => true
  | .reversePolarity _ _ => true
  | .senseFault _ _ _ => true
  | .auxOverload _ _ => true
  | .tripClear _ _ => true
  | .mbFaultClear _ mask => decide (mask < 65536)
  | .fwImageStaged _ => true
  | .revokeResend _ _ => true
  | .shaperOpen _ shaper => decide (shaper < 4096)
  | .refclkSysLoss _ _ => true
  | .i3cAddressAssign _ _ addr => decide (addr < 128)

end Sys2Proof
end

