-- ==== Sys2Proof/Decode.lean ====
section
/-!
DEFINITION. The commands that the opcode table spells in bits: none. spec/opcode_table.json gives no row of this block any bits, so
no word spells a command; the bytes of a command packet are taken apart where it arrives (R335, Machine/Commands.lean) and the
instruction words of the header cores where they are loaded (R100, Machine/Header.lean).
-/
namespace Sys2Proof

/-- The command a word spells by the table's bits: none. -/
def decodeTableWord (_nbits _w : Nat) : Option Instr := none

end Sys2Proof
end

