-- ==== Sys2Proof/Machine/Operands.lean ====
section
/-!
DEFINITION. Operand forms: numeric fields of packets (network byte order) and of device memory (little-endian) (R7), bit
fields of registers and words, cell masks (R351), reserved bytes (R10).
-/
namespace Sys2Proof.Machine

/-- The byte at offset `o` of a byte string, 0 beyond its end. -/
def byteAt (p : Bytes) (o : Nat) : Nat := (p.getD o 0#8).toNat

/-- `n` bytes from offset `o`, zero-filled beyond the end. -/
def slice (p : Bytes) (o n : Nat) : Bytes := (List.range n).map (fun i => p.getD (o + i) 0#8)

/-- A numeric field in network byte order (R7): `n` bytes from offset `o`, most significant first. -/
def be (p : Bytes) (o : Nat) : (n : Nat) → Nat
  | 0 => 0
  | n + 1 => be p o n * 256 + byteAt p (o + n)

/-- A numeric field of device memory (R7): `n` bytes from offset `o`, least significant first. -/
def le (p : Bytes) (o : Nat) : (n : Nat) → Nat
  | 0 => 0
  | n + 1 => byteAt p o + 256 * le p (o + 1) n

/-- A number as `n` bytes in network byte order. -/
def toBE : (n v : Nat) → Bytes
  | 0, _ => []
  | n + 1, v => toBE n (v / 256) ++ [BitVec.ofNat 8 v]

/-- A number as `n` bytes, least significant first. -/
def toLE : (n v : Nat) → Bytes
  | 0, _ => []
  | n + 1, v => BitVec.ofNat 8 v :: toLE n (v / 256)

/-- `n` zero bytes. -/
def zeros (n : Nat) : Bytes := List.replicate n 0#8

/-- Whether the `n` bytes from offset `o` are 0, as reserved bytes must be (R351). -/
def zerosAt (p : Bytes) (o n : Nat) : Bool := (List.range n).all (fun i => byteAt p (o + i) == 0)

/-- Bits `[lo + w - 1 : lo]` of a number. -/
def bits (v lo w : Nat) : Nat := v / 2 ^ lo % 2 ^ w

/-- Bit `i` of a number. -/
def bitAt (v i : Nat) : Bool := v / 2 ^ i % 2 == 1

/-- `v` with bits `[lo + w - 1 : lo]` replaced by `x`. -/
def putBits (v lo w x : Nat) : Nat := v - bits v lo w * 2 ^ lo + x % 2 ^ w * 2 ^ lo

/-- 1 for true, 0 for false. -/
def b2n (b : Bool) : Nat := if b then 1 else 0

/-- The `w`-bit two's-complement number with bits `v`. -/
def signed (w v : Nat) : Int := if v % 2 ^ w < 2 ^ (w - 1) then ((v % 2 ^ w : Nat) : Int) else ((v % 2 ^ w : Nat) : Int) - ((2 ^ w : Nat) : Int)

/-- The `w`-bit two's-complement pattern of an integer. -/
def unsigned (w : Nat) (i : Int) : Nat := (i % ((2 ^ w : Nat) : Int)).toNat

/-- The numbers below `n` whose bits are set in `v`, ascending. -/
def setBits (v n : Nat) : List Nat := (List.range n).filter (fun i => bitAt v i)

/-- A number with exactly the bits of the list set. -/
def ofBits (l : List Nat) : Nat := l.eraseDups.foldl (fun a i => a + 2 ^ i) 0

/-- The cells named by the 32-byte mask at offset `o` (R351: cell c is bit c mod 8 of byte c div 8), ascending. -/
def cellMask (p : Bytes) (o : Nat) : List Nat := (List.range 256).filter (fun c => bitAt (byteAt p (o + c / 8)) (c % 8))

/-- The 32-bit words of a byte string, each least significant byte first. -/
def wordsLE (p : Bytes) : List Nat := (List.range (p.length / 4)).map (fun i => le p (4 * i) 4)

/-- Words as bytes, each least significant byte first. -/
def bytesOfWords (ws : List Nat) : Bytes := ws.flatMap (toLE 4)

/-- The big number of a byte string, byte 0 least significant. -/
def natLE (p : Bytes) : Nat := p.foldr (fun b a => b.toNat + 256 * a) 0

/-- The least multiple quotient: ⌈a ÷ b⌉. -/
def ceilDiv (a b : Nat) : Nat := (a + b - 1) / b

end Sys2Proof.Machine
end

