-- ==== Sys2Proof/Machine/Codes.lean ====
section
/-!
DEFINITION. The codes of the manual: CRC-32C (R116, R131, R142), the Internet checksum update of RFC 1624 (R128), and the
Reed–Solomon code C256 (R364, R365).
-/
namespace Sys2Proof.Machine

/-- One bit of the reflected CRC-32C register. -/
def crcBit (c : Nat) : Nat := if c % 2 = 1 then (c / 2) ^^^ 0x82F63B78 else c / 2

/-- One byte into the CRC-32C register (reflected form 0x82F6_3B78, R131). -/
def crcByte (c b : Nat) : Nat := crcBit (crcBit (crcBit (crcBit (crcBit (crcBit (crcBit (crcBit (c ^^^ b))))))))

/-- CRC-32C with a given initial value and final XOR 0xFFFF_FFFF. -/
def crcFrom (init : Nat) (p : Bytes) : Nat := (p.foldl (fun c b => crcByte c b.toNat) init) ^^^ 0xFFFFFFFF

/-- CRC-32C as RFC 3720 defines it (R131). -/
def crc32c (p : Bytes) : Nat := crcFrom 0xFFFFFFFF p

/-- The initial values of the four ways of the exact table (R116). -/
def waySeed (w : Nat) : Nat := [0xFFFFFFFF, 0x5A5A5A5A, 0xA5A5A5A5, 0x0F0F0F0F].getD w 0

/-- slot(w, k, t) of R116: the key zero-extended to 384 bits, then the tenant. -/
def exactSlot (w k t : Nat) : Nat := crcFrom (waySeed w) (toLE 48 k ++ toLE 1 t) % 65536

/-- The ones-complement sum of 16-bit words in network order, folded to 16 bits. -/
def onesFold (n : Nat) : Nat := let m := n % 65536 + n / 65536; m % 65536 + m / 65536

/-- The ones-complement sum of a byte string, padded with 0 to a whole word. -/
def onesSum (p : Bytes) : Nat :=
  onesFold (onesFold (((List.range (ceilDiv p.length 2)).map (fun i => byteAt p (2 * i) * 256 + byteAt p (2 * i + 1))).foldl (· + ·) 0))

/-- RFC 1624: the checksum field `hc` after the covered bytes change from sum `old` to sum `new` (R128). -/
def rfc1624 (hc old new : Nat) : Nat :=
  65535 - onesFold (onesFold ((65535 - hc) + (65535 - old) + new))

/-! C256 -/

/-- A multiplication by α in GF(2^8) with polynomial x^8 + x^4 + x^3 + x^2 + 1 (R364). -/
def gfDouble (a : Nat) : Nat := if 128 ≤ a then (2 * a) ^^^ 0x11D else 2 * a

/-- Multiplication in GF(2^8), bit by bit of `b` over `n` bits. -/
def gfMulN : (n a b : Nat) → Nat
  | 0, _, _ => 0
  | n + 1, a, b => (if b % 2 = 1 then a else 0) ^^^ gfMulN n (gfDouble a) (b / 2)

/-- Multiplication in GF(2^8). -/
def gfMul (a b : Nat) : Nat := gfMulN 8 a b

/-- α^n. -/
def gfPow : Nat → Nat
  | 0 => 1
  | n + 1 => gfDouble (gfPow n)

/-- The generator g(x) = (x + 1)(x + α)(x + α²)(x + α³), coefficients of x^0 to x^3 (R364). -/
def c256Gen : List Nat := [64, 120, 54, 15]

/-- One step of the division by g: the remainder register (x^0 to x^3) takes in the next data symbol, highest first. -/
def c256Step (r : List Nat) (d : Nat) : List Nat :=
  let f := (r.getD 3 0) ^^^ d
  [gfMul f (c256Gen.getD 0 0), (r.getD 0 0) ^^^ gfMul f (c256Gen.getD 1 0), (r.getD 1 0) ^^^ gfMul f (c256Gen.getD 2 0),
   (r.getD 2 0) ^^^ gfMul f (c256Gen.getD 3 0)]

/-- The four check symbols of a 256-bit word (R364). -/
def c256Checks (w : Bytes) : List Nat := ((List.range 32).map (fun i => byteAt w (31 - i))).foldl c256Step [0, 0, 0, 0]

/-- The syndrome S_i of a word and its checks: the code polynomial at α^i (R365), by Horner from x^35 down. -/
def c256Syndrome (w : Bytes) (checks : List Nat) (i : Nat) : Nat :=
  ((List.range 36).map (fun j => if j < 32 then byteAt w (31 - j) else checks.getD (35 - j) 0)).foldl (fun a c => gfMul a (gfPow i) ^^^ c) 0

/-- What a reader makes of a word (R365). -/
inductive C256Read where
  | good
  /-- Symbol `pos` (checks 0 to 3, data byte j at j + 4) corrected by adding `val`. -/
  | corrected (pos val : Nat)
  | uncorrectable
deriving DecidableEq, Repr

/-- The decision of R365 on the four syndromes. -/
def c256Decide (s0 s1 s2 s3 : Nat) : C256Read :=
  if s0 = 0 ∧ s1 = 0 ∧ s2 = 0 ∧ s3 = 0 then .good
  else if s0 = 0 ∨ s1 = 0 ∨ s2 = 0 ∨ s3 = 0 then .uncorrectable
  else match (List.range 36).find? (fun j => gfMul s0 (gfPow j) == s1 && gfMul s1 (gfPow j) == s2 && gfMul s2 (gfPow j) == s3) with
    | some j => .corrected j s0
    | none => .uncorrectable

/-- A word with its check symbols read (R365). -/
def c256Decode (w : Bytes) (checks : List Nat) : C256Read :=
  c256Decide (c256Syndrome w checks 0) (c256Syndrome w checks 1) (c256Syndrome w checks 2) (c256Syndrome w checks 3)

end Sys2Proof.Machine
end

