-- ==== Sys2Proof/Config.lean ====
section
/-!
DEFINITION. What an implementation fixes and the manual does not state, as constants WITHOUT a body: nothing in Lean can
evaluate them, so a statement that mentions one holds whatever its value is. Each is named in a log entry.
-/
namespace Sys2Proof

/-- A copy descriptor (R214), its two words taken apart. -/
structure CopyDesc where
  src : Nat
  dst : Nat
  launch : Nat
  length : Nat
  rows : Nat
  flags : Nat
  srcStride : Nat
  dstStride : Nat
  step : Nat
  copyTag : Nat
  reserved : Nat := 0
deriving DecidableEq, Repr, Inhabited

/-- A step header (R209). -/
structure StepHeader where
  step : Nat
  launch : Nat
  resultWords : Nat
  opStart : Nat
  opCount : Nat
  sendCount : Nat
  barrier : Bool
  waits : List (Nat × Nat)
deriving DecidableEq, Repr, Inhabited

/-- The program of one rank (R207, R209, R213): its mode, the two header words of each step and the descriptors of its two
queues. -/
structure CellProgram where
  mode : Nat
  heads : List (W256 × W256)
  queue0 : List CopyDesc
  queue1 : List CopyDesc
deriving DecidableEq, Repr, Inhabited

/-- A region of a job image (R188, R276, R435, R437): its descriptor word, where its data and its screed lie in each rank's
cell store (byte offset and length), and for each barrier the count of blocks a restart from it loads. -/
structure JobRegion where
  desc : Nat
  base : Nat
  bytes : Nat
  screedBase : Nat
  screedBytes : Nat
  hbm : Option (Nat × Nat) := none
  blocks : List (Nat × Nat)
deriving DecidableEq, Repr, Inhabited

/-- What a compiled job image holds (R260, R263, R264, R270, R272, R276): one program per rank, the regions, the operand
pairs its steps use, the OPT_UPDATE descriptors, the word addresses whose elements 0 and 1 are P1 and P2 in every rank's store,
the grid images of its compare-grid regions, the ranges listed as state (cell store: rank, byte offset, length; HBM: span offset, length), and the members of a group
job with the number of its cells there (none for a local job). -/
structure JobImage where
  ranks : List CellProgram
  regions : List JobRegion
  pairs : List (Nat × Nat)
  updates : List Nat
  powers : List Nat
  grids : List (List (BitVec 8))
  cellRanges : List (Nat × Nat × Nat)
  hbmRanges : List (Nat × Nat)
  members : List Nat
deriving DecidableEq, Repr, Inhabited

/-- A placement certificate (R249). -/
structure Certificate where
  w : BitVec 8
  ii : BitVec 8
  lat : BitVec 16
  nrep : BitVec 16
  rate : BitVec 64
  portMask : BitVec 16
  vecIn : BitVec 16
  vecOut : BitVec 16
  flowGap : BitVec 16
  certVer : BitVec 16
deriving DecidableEq, Repr, Inhabited

end Sys2Proof

namespace Sys2Proof.Config

/-- The reading of a CERTIFICATE section (R249): the widths of its fields are stated and their places are not, so the
reading is free; none is a malformed certificate (log 18). -/
opaque certificate : Bytes → Option Certificate
/-- The reading of a CAT_TABLES section (R157, R247): per table its number, DEFAULT and entries. Its layout is not stated, so
the reading is free; none is a malformed section (log 18). -/
opaque catTables : Bytes → Option (List (Nat × Nat × List Nat))
/-- The reading of a CTRL packet (R306): what it says, as `CtrlKind` numbers it, and its numbers. Its layout is not stated,
so the reading is free (log 19). -/
opaque ctrlMessage : (header : W256) → (data : Bytes) → Option (Nat × List Nat)
/-- The bytes of a CTRL packet that leaves (log 19). -/
opaque ctrlData : (kind : Nat) → (args : List Nat) → Bytes
/-- What the CELL_PROGRAMS and WEIGHTS sections say (R169, R207, R247): the operand pairs that the programs name; none is a section
that fails validation. Their layouts are not stated (log 18). -/
opaque programsValid : (programs weights : Bytes) → Option (List (Nat × Nat))

/-- The verdict that a STREAM or GEMM package's programs give on a vector and the MODEL_STATE they start from, and the bytes of the
MODEL_STATE they leave (R153, R202, R271): the same bits on every cell, hence functions of the package's sections and of the inputs. The
encoding of a program's operations is not stated (log 33). -/
opaque inlineVerdict : (programs weights : Bytes) → (vector : List Nat) → (state : Bytes) → BitVec 64
opaque inlineState : (programs weights : Bytes) → (vector : List Nat) → (state : Bytes) → (i : Nat) → Byte

/-- What a device learns of the group on the fabric when a GROUP_JOIN comes as a packet (R321; log 46): the row GROUP_JOIN carries
it as an operand, a packet's row does not. -/
opaque joinLink : (n : Nat) → JoinInfo

/-- The logical port over which Limik's ordinary clock speaks (R55): no register of the manual names it; none is the management port
(log 58). -/
opaque ptpPort : Option Nat

/-- The reading of a compiled job image (R260): its container layout is not stated, so the reading is free; none is an
image that fails validation (log 17). -/
opaque jobImage : Bytes → Option JobImage

/-- The reading of the kernel table of a test pack (R392): per kernel its expected CRC-32C and beat bound. The widths of the
table's fields are not stated, so the reading is free; none is a malformed table (log 18). -/
opaque testKernels : (count : Nat) → Bytes → Option (List (Nat × Nat))
/-- Nokuoc Silicon's public keys (R392, R452, R477), RSA-3072 then SLH-DSA: 0 firmware, 1 test packs, 2 ownership vouchers
(log 8). -/
opaque vendorKey : (purpose : Nat) → Bytes

/-- The FP32 code of an elementwise operator of one operand where the manual bounds the error or is silent (R259; log 37): the same bits
on every cell, hence a function of the operand. -/
opaque vec1 : VecFn1 → (x : Nat) → Nat
/-- REDUCE_MAX and the index of ARGMAX of a row with a NaN or without elements (R259; log 37). -/
opaque maxOpen : (row : List Nat) → Nat × Nat
/-- TOPK of a row with a NaN (R259; log 37). -/
opaque topkOpen : (k : Nat) → (row : List Nat) → List (Nat × Nat)
/-- The constant that LAYERNORM and RMSNORM add before RSQRT, as an FP32 code (R259 names none; log 37). -/
opaque normEps : Nat
/-- CROSS_ENTROPY of a class that is no index of the row (R259; log 37). -/
opaque lossOpen : (cls : Nat) → (row : List Nat) → Nat

/-- The bytes of an event's body (R352): the chapters name its fields and not their places, so the encoding is free (log 14). -/
opaque eventBody : (opcode : Nat) → (body : List Nat) → Bytes
/-- The free value drawn for topic `topic` on the `n`-th draw (log 7). `n` is the model's counter `State.fresh`, so two
draws are unrelated. Topics: see `Sys2Proof.Machine.Topic`. -/
opaque free : (topic n : Nat) → Nat
/-- A free string of bytes of length `len` (log 7): what the model cannot compute and the manual does not state. -/
opaque freeBytes : (topic n len : Nat) → Bytes
/-- SHA-384 of a byte string (R451, R460; log 8). -/
opaque sha384 : Bytes → Bytes
/-- Whether `sig` is a good RSA-3072 PSS signature of the message under the key (R445, R477; log 8). -/
opaque rsaVerify : (key msg sig : Bytes) → Bool
/-- Whether `sig` is a good SLH-DSA signature of the message under the key (R445, R477; log 8). -/
opaque slhVerify : (key msg sig : Bytes) → Bool
/-- AES-256-GCM open under a session key (R341): the plain parameters, or none when the tag fails (log 8). -/
opaque gcmOpen : (key nonce aad text tag : Bytes) → Option Bytes
/-- AES-256-GCM seal under a session key (R341): the ciphertext, then the 16-byte tag (log 8). -/
opaque gcmSeal : (key nonce aad text : Bytes) → Bytes
/-- The ECDH P-384 secret of the device's ephemeral key of this public share and a client's public key (R454; log 8). -/
opaque ecdhSecret : (share client : Bytes) → Bytes
/-- The ML-KEM-768 secret of a ciphertext encapsulated to the device's boot key of this public key (R454; log 8). -/
opaque kemSecret : (bootPublic ciphertext : Bytes) → Bytes
/-- HKDF-SHA-384 (R454; log 8). -/
opaque hkdf : (salt ikm info : Bytes) → (len : Nat) → Bytes
/-- HMAC-SHA-384 (R454; log 8). -/
opaque hmac : (key msg : Bytes) → Bytes
/-- The device's signatures and key shares in a handshake or a report (R453, R461): free content (log 8). -/
opaque deviceSign : (msg : Bytes) → Bytes
/-- The signatures of Nokuoc Silicon's device CA on an identity certificate (R451; log 8). -/
opaque caSign : (msg : Bytes) → Bytes
/-- The public identity pair of the module with a serial number: RSA-3072 modulus, then SLH-DSA key (R451; log 8). -/
opaque identityKey : (serial : Nat) → Bytes
/-- What the hardware extends MEAS_0 with (R460): the boot ROM's digest and the fuse configuration, of the module with this boot ROM and
serial number (log 8). -/
opaque romDigest : (bootrom serial fuseSvn : Nat) → Bytes
/-- The public boot keys of a boot: ECDH P-384 uncompressed, then ML-KEM-768 (R451; log 8). -/
opaque bootKey : (boot : Nat) → Bytes
/-- Whether an uncompressed public key lies on P-384 (R453; log 8). -/
opaque onCurve : Bytes → Bool
/-- A data key derived from key material (R449, R456): its identity (log 8). -/
opaque keyIdentity : (material : Bytes) → Nat
/-- The byte read at a module address from a word that was written under another data key (R449): noise, a function of
the address, the byte stored and the two key identities (log 9). -/
opaque noise : (addr : Nat) → (stored : Byte) → (written reading : Nat) → Byte

end Sys2Proof.Config
end

