-- ==== Sys2Proof/Machine/State.lean ====
section
/-!
DEFINITION. The state of the BVX-960 as plain data: the waiting commands, the CSR file, and one structure per chapter for
what the registers do not hold. The value of each field at reset is the field's default below; `State.reset` is the device
on the instant its reset is released (R471, R472). Values the manual does not state are named in logs 2, 3, 4, 6, 7 and 9.
-/
namespace Sys2Proof.Machine

/-- A sparse table: pairs of key and value with rising keys, no value equal to the table's unlisted value. -/
abbrev Tab (α : Type) := List (Nat × α)

/-- Why a step stops with a fault. -/
inductive Fault where
  /-- The board exceeded an absolute maximum rating (R493): "permanent damage can follow". Raised by OVERVOLTAGE above
  80 V and by REVERSE_POLARITY beyond −64 V. Safe: the manual gives no behaviour beyond them. -/
  | beyondAbsoluteRatings
deriving DecidableEq, Repr

/-- Why a step is refused. -/
inductive Refusal where
  /-- A row of the opcode table without a meaning yet. Safe: nothing is claimed of it. -/
  | notModelled (mnemonic : String)
deriving DecidableEq, Repr

/-- A reply's status and parameters (R346, R347). -/
structure Reply where
  status : Nat
  params : Bytes
deriving DecidableEq, Repr

/-- An event raised or coalesced (R352): its opcode, ETENANT, STATUS and TAG, the session whose command it completes (0
none), the prefix fields, and its body as the fields its chapter names, in their order. -/
structure Event where
  opcode : Nat
  tenant : Nat
  status : Nat := 0
  tag : Nat := 0
  session : Nat := 0
  sec : Nat := 0
  ns : Nat := 0
  zc : Nat := 0
  region : Nat := 0
  device : Nat := 0
  count : Nat := 1
  body : List Nat := []
deriving DecidableEq, Repr

/-- A packet on a transport: a reply or an event, with the fields of its header (R335, R346, R352). -/
structure SentPacket where
  transport : Transport
  peer : Nat
  session : Nat
  opcode : Nat
  tag : Nat
  tenant : Nat
  seq : Nat
  status : Nat
  isSealed : Bool
  params : Bytes
  /-- The whole packet as it leaves (R335). -/
  packet : Bytes := []
deriving DecidableEq, Repr

/-- What leaves the device (log 6). -/
inductive Output where
  /-- A reply (R346). -/
  | reply (p : SentPacket)
  /-- An event packet delivered to a session, and its bytes (R352, R354). -/
  | event (session seq : Nat) (e : Event) (packet : Bytes)
  /-- A reply or an event of a forwarded session, relayed to a peer of a transport unchanged (R339). -/
  | relay (transport : Transport) (peer : Nat) (packet : Bytes)
  /-- A frame on the wire of a logical port (R73). -/
  | frame (lport : Nat) (bytes : Bytes)
  /-- A PFC or PAUSE frame: enable vector and pause times (R70). -/
  | pfc (lport : Nat) (pause : Bool) (enables : Nat) (times : List Nat)
  /-- A fabric packet on a Wyilern port (R305, R306): kind, virtual channel, class, destination and fields. -/
  | fabric (port vc cls : Nat) (kind : Nat) (dst : Nat) (fields : List Nat) (data : Bytes)
  /-- A link-level acknowledgement or a replay of a Wyilern port (R302). -/
  | link (port : Nat) (ack : Nat) (replay : List Nat)
  /-- A completion to the host over PCIe (R328, R329): none is a Completer Abort. -/
  | host (data : Option Bytes)
  /-- A completion to the host with Unsupported Request (R327, R329). -/
  | unsupported
  /-- An MSI-X interrupt to the host (R328). -/
  | msix (vector : Nat)
  /-- An IEEE 1588 or management-network message of Limik's own (R55, R474, R476). -/
  | network (what : Nat) (fields : List Nat)
  /-- A pulse on PTP_1PPS_OUT (R498). -/
  | pps (width : Nat)
deriving DecidableEq, Repr

/-- A command held until its turn (R343), already opened; `bad` is the status its header is refused with (R348, steps 1 to 3),
0 for none. -/
structure HeldCommand where
  seq : Nat
  opcode : Nat
  tag : Nat
  tenant : Nat
  params : Bytes
  bad : Nat := 0
deriving DecidableEq, Repr

/-- An open session (R340 to R344, R354, R355). -/
structure Session where
  id : Nat
  tenant : Nat
  transport : Transport
  peer : Nat
  key : Bytes
  e : Nat := 0
  held : List HeldCommand := []
  cache : List (Nat × SentPacket) := []
  eseq : Nat := 0
  queue : List (Nat × Event) := []
  mask : BitVec 256 := 0#256
  lost : Nat := 0
  lostAt : Option (Nat × Nat) := none
  lastAuth : Nat
deriving DecidableEq, Repr

/-- An open coalescing window (R503): its length, the instant it opened, and the event it will raise. -/
structure Window where
  key : Nat
  opened : Nat
  length : Nat
  event : Event
deriving DecidableEq, Repr

/-- A release of cells in gusts (R49): the count it runs on (ZC_BULK of the job, or ZC_INLINE of the lead cluster for an inline
entry) on its release beat, the beats delivered since (`k`, calmed ones among them, R408) and how far the count has come
(`run`), the cells still unreleased and the next gust. The sequence counts for itself, so a spoke that is detached meanwhile
does not stop it (R59). -/
structure GustSequence where
  id : Nat
  cluster : Nat
  inl : Bool
  base : Nat
  k : Nat := 1
  run : Nat := 0
  next : Nat
  size : Nat
  interval : Nat
  cells : List Nat
deriving DecidableEq, Repr

/-- Why a cluster is halted (R47, R37, R405, R53). -/
inductive HaltCause where
  /-- A halt armed by HALT_MASK; RESUME_MASK ends it. -/
  | mask
  /-- Its spoke was detached; RESUME_MASK ends it once the spoke is re-attached. -/
  | spoke
  /-- A primer pass, until it ends. -/
  | primer
  /-- A barrier of its job, until the job is released or leaves the cluster. -/
  | barrier
deriving DecidableEq, Repr

/-- The beat root (R36 to R53) beyond its registers. `causes` are the causes for which each cluster is halted; `lastTime` is the
time base, in sixteenths of a nanosecond, at the latest issue. -/
structure BeatState where
  t0 : Nat := 0
  n0 : Nat := 0
  rate : Nat := 500
  lastIssue : Nat := 0
  lastTime : Nat := 0
  recent : List Nat := []
  modeWas : Option Nat := none
  newOrigin : Bool := false
  snapPending : Bool := false
  reattach : Nat := 0
  haltArm : Option (Nat × Nat) := none
  resumeArm : Option (Nat × Nat) := none
  gusts : List GustSequence := []
  nextGust : Nat := 1
  kBulk : Tab Nat := []
  kInline : Tab Nat := []
  kCopy : Tab Nat := []
  kSoft : Nat := 0
  released : List Nat := []
  ramps : Tab Nat := []
  causes : Tab (List HaltCause) := []
  calmBulk : Nat := 0
  calmCopy : Nat := 0
  calmFabric : Nat := 0
  calmInline : Nat := 0
deriving DecidableEq, Repr

/-- The time base (R54, R55): the time of day in units of 10⁻²¹ s, the offset still to slew in the same unit, the
same time with negative steps left out (R294), and the servo. -/
structure TimeState where
  tod : Int := 0
  fill : Int := 0
  slew : Int := 0
  good : Nat := 0
  lastPps : Option Nat := none
  ppsCount : Nat := 0
deriving DecidableEq, Repr

/-- What one tile of a step's attempt gathers of a region (R190, R435): the tile's coordinates, the counts, and the tile's
data bytes row by row, and dequantised values in row-major order. -/
structure Tally where
  region : Nat
  row : Nat := 0
  col : Nat := 0
  sat : Nat := 0
  nanConv : Nat := 0
  sqerr : Nat := 0
  sqsrc : Nat := 0
  elements : Nat := 0
  tern : Nat := 0
  accOvf : Nat := 0
  blocks : Nat := 0
  data : List Bytes := []
  values : List Nat := []
deriving DecidableEq, Repr

/-- A region's record (R184, R191, R192): blocks emitted, the step of word 0 (of an inline region, its windows recorded), the tiles
by step (by window) that word 0 may still describe, the totals, the current window, and older windows that commits may still fall
in: start, overflows, DRIFT_RAISED. -/
structure RegionRec where
  region : Nat
  blocks : Nat := 0
  step : Nat := 0
  tiles : List (Nat × List Tally) := []
  older : List (Nat × Nat × Bool) := []
  satTotal : Nat := 0
  nanTotal : Nat := 0
  elemTotal : Nat := 0
  skewTotal : Nat := 0
  winStart : Nat := 0
  winSat : Nat := 0
  drift : Bool := false
deriving DecidableEq, Repr

/-- A swatch of a job (R435, R436). -/
structure Swatch where
  index : Nat
  region : Nat
  lo : Nat
  hi : Nat
  nanMax : Nat
  sumsqMax : Nat
  base : Nat
  entries : Nat
  lost : Nat := 0
deriving DecidableEq, Repr

/-- A dump of a job (R437): armed for a step, or for the first bound crossing of a swatch; `fired` holds the step while its
copy is in progress. -/
structure Dump where
  num : Nat
  region : Nat
  bySwatch : Option Nat
  step : Nat
  dst : Nat
  len : Nat
  session : Nat
  tag : Nat
  fired : Option Nat := none
  /-- The region as it stood when the dump fired (R437). -/
  content : Bytes := []
deriving DecidableEq, Repr

/-- A job and its tenure (R260 to R264, R417). `state` is numbered as JOB_STATUS returns it. -/
structure Job where
  id : Nat
  tenant : Nat
  session : Nat
  tag : Nat
  cells : List Nat
  image : JobImage
  state : Nat := 0
  lastStatus : Nat := 0
  lastStep : Nat := 0
  lastBarrier : Nat := 0
  ckptBarrier : Nat := 0
  startBeat : Nat
  ckptBase : Nat
  ckptLen : Nat
  ckptEvery : Nat
  ckptAsked : Bool := false
  /-- The barrier at which the last checkpoint began; 0 is none since the start or restart. -/
  ckptAt : Nat := 0
  /-- The slot the next checkpoint writes (R263). -/
  nextSlot : Nat := 0
  /-- B of the barrier the job is at, the clusters halted there, and ZC_ROOT as the last of them halted (R262). -/
  barrierBeat : Nat := 0
  atBarrier : List Nat := []
  arrivedZc : Nat := 0
  /-- t_arrive of the barrier on the shared time base, sent again to a new manager (R53, R323). -/
  arrivedAt : Nat := 0
  /-- T of the manager's RESUME for this barrier, on the shared time base in sixteenths of a nanosecond (R53, R54). -/
  resumeAt : Option Nat := none
  /-- ARRIVEs received by the manager for the job's present barrier: member and t_arrive on the same time base (R53). -/
  arrivals : List (Nat × Nat) := []
  /-- Members whose CKPT_DONE the manager holds for a barrier, and the latest barrier logged (R325). -/
  ckptDone : List (Nat × Nat) := []
  loggedBarrier : Nat := 0
  restartFrom : Nat := 0
  restarts : Nat := 0
  energy0 : Nat := 0
  energyEnd : Nat := 0
  /-- Flags of its energy (R417): another job ran, a selector served, and one of them was of another tenant. -/
  shared : Bool := false
  inl : Bool := false
  foreign : Bool := false
  lastProgress : Nat := 0
  regions : List RegionRec := []
  swatches : List Swatch := []
  dumps : List Dump := []
deriving DecidableEq, Repr

/-- The intake descriptor (R67). -/
structure Desc where
  sec : Nat
  ns : Nat
  zc : Nat
  length : Nat
  lport : Nat
  tenant : Nat
  prio : Nat
  ptp : Bool
deriving DecidableEq, Repr

/-- An edit of a packet, applied at step 9 in the order written (R126, R128). -/
inductive Edit where
  | rewrite (k boff wid val : Nat)
  | csum (k kind stage : Nat)
  | push (kind k encap : Nat)
  | pop (a b : Nat)
deriving DecidableEq, Repr

/-- A packet's result so far (R126, R127): the last value of each single-valued setting, the mirror mask and the edits. -/
structure PktResult where
  egress : Option (Bool × Nat) := none
  queue : Option Nat := none
  policer : Option Nat := none
  mirror : Nat := 0
  cls : Nat := 0
  label : Option Nat := none
  tag : Option Nat := none
  drop : Bool := false
  exc : Option Nat := none
  recirc : Bool := false
  edits : List Edit := []
deriving DecidableEq, Repr

/-- Where a packet stands on the inline path (R19). -/
inductive PktAt where
  /-- Being written into its intake FIFO. -/
  | receiving
  /-- Committed in its intake FIFO. -/
  | intake
  /-- In a header core. -/
  | core
  /-- Parsed, in its core's header-to-stage FIFO. -/
  | parsed
  /-- In a pass, next at this stage. -/
  | stage (n : Nat)
  /-- In its port's recirculation queue. -/
  | recirc
  /-- A later fragment before its lookup of the fragment table. -/
  | fragment
  /-- A later fragment in the wait store. -/
  | fragWait
  /-- After stage 11 of pass 1, at step 5. -/
  | encode
  /-- Waiting for an earlier packet of its flow (R148). -/
  | chain
  /-- In a cell's input queue or launch, step 6. -/
  | infer
  /-- Its verdict held, step 7. -/
  | hold
  /-- Its verdict flagged and recoated (R377). -/
  | recoat
  /-- At step 9. -/
  | resolve
  /-- At step 10. -/
  | admission
  /-- In egress queues. -/
  | queued
  /-- Admitted to the exception path while a handover holds its event (R357, R481). -/
  | exception
deriving DecidableEq, Repr

/-- A packet of the packet buffer: its frame without FCS, its pages by source (R68), and what it carries along the path. -/
structure Pkt where
  id : Nat
  desc : Desc
  bytes : Bytes
  at_ : PktAt := .receiving
  reserved : Nat := 0
  shared : Nat := 0
  headroom : Nat := 0
  /-- The group and sub-port of the mode under which it was committed, and ZC_ROOT on the beat of the commit (R64, R86, R107). -/
  group : Nat := 0
  sub : Nat := 0
  commitZc : Nat := 0
  core : Nat := 0
  since : Nat := 0
  bus : W1024 := 0#1024
  /-- The recorded headers: type, offset, length (R94). -/
  hdrs : List (Nat × Nat × Nat) := []
  tenant : Nat := 0
  epoch : Nat := 0
  stamped : Bool := false
  /-- Begun on the old program bank before a linked flip: its epoch is already fixed and counted (R106, R124). -/
  preStamp : Bool := false
  pass : Nat := 0
  hit : Bool := false
  partialOk : Bool := false
  final : Bool := false
  labelValid : Bool := false
  vclass : Nat := 0
  model : Nat := 0
  vsrc : Nat := 0
  verdict : Nat := 0
  label : Nat := 0
  hash : Nat := 0
  result : PktResult := {}
  /-- The flow record, model slot (0 A, 1 B), first cell of the replica, vector and state the inference uses (R144, R153, R256). -/
  flow : Option Nat := none
  /-- KEY_TAG and FIRST_US of the record read at step 5: the life of the flow the packet belongs to (R142, R143). -/
  flowTag : Nat := 0
  flowFirst : Nat := 0
  slot : Option Nat := none
  replica : Nat := 0
  vector : List Nat := []
  mstate : Bytes := []
  newState : Option Bytes := none
  /-- The cells of the replica that have launched the vector, and the flaws met (R241, R369). -/
  launched : List Nat := []
  flaws : List (Nat × Nat) := []
  stateVer : Nat := 0
  flagged : Bool := false
  /-- Chosen for inline recoat sampling (R381). -/
  sampled : Bool := false
  deadline : Nat := 0
  verdictBeat : Nat := 0
  viaDefault : Bool := false
  /-- The merge of R147 has released the packet to the encoder. -/
  merged : Bool := false
  /-- The number of its launch among those of its model slot, from 1 (R191, R192). -/
  launchNo : Nat := 0
deriving DecidableEq, Repr

/-- A packet in a packet FIFO (R75 to R77): its words, its identity for FIFOs of the packet buffer, and for the others the
words themselves. -/
structure FifoPkt where
  words : Nat
  pkt : Option Nat := none
  data : List W256 := []
deriving DecidableEq, Repr

/-- A packet FIFO: committed packets in order, and the words the consumer has read of the first one (none when it is not
reading). -/
structure Fifo where
  pkts : List FifoPkt := []
  reading : Option Nat := none
deriving DecidableEq, Repr

/-- Ethernet ports, packet buffer and packet FIFOs beyond the registers. -/
structure PortState where
  packets : List Pkt := []
  nextPkt : Nat := 1
  fifos : Tab Fifo := []
  /-- XOFF outstanding and the instant it was last sent plus 1, by 16 × lport + priority (8 for PAUSE) (R70). -/
  xoff : Tab Nat := []
  /-- The instant a received pause runs out, by 16 × lport + priority (8 for PAUSE) (R290). -/
  paused : Tab Nat := []
deriving DecidableEq, Repr

/-- A header core at work (R89). -/
structure Core where
  n : Nat
  pkt : Nat
  bank : Nat
  regs : List W64
  c : Nat := 0
  pc : Nat := 0
  /-- Recorded headers: type, offset, length. -/
  stack : List (Nat × Nat × Nat) := []
  limit : Nat
  limitIsFrame : Bool := true
  bus : W1024 := 0#1024
  steps : Nat := 0
  frag : Nat := 0
  fragId : Nat := 0
  fragProto : Nat := 0
  fragIpidx : Nat := 0
  fragV6 : Bool := false
  finished : Bool := false
deriving DecidableEq, Repr

/-- The header cores beyond their registers: the busy cores, each group's assignment order, the program banks (word by
group × 8192 + bank × 4096 + address), the dispatch tables (by group × 1024 + bank × 512 + 32 × table + entry), and the
beat of an unlinked flip plus 1 by group (R103). -/
structure HcState where
  cores : List Core := []
  order : Tab (List Nat) := []
  prog : Tab W32 := []
  disp : Tab W32 := []
  flip : Tab Nat := []
deriving DecidableEq, Repr

/-- A fragment record (R133). -/
structure FragRecord where
  id : Nat
  key : List Nat
  tenant : Nat
  result : PktResult
  used : Nat
deriving DecidableEq, Repr

/-- The match stages beyond their registers. Tables are keyed by bank × 12 × 2^18 + stage × 2^18 + index; templates as 16
words, key selects by word, the two miss templates as one word and the hash selects as three. -/
structure MatchState where
  exact : Tab (BitVec 512) := []
  tern : Tab (BitVec 1152) := []
  templ : Tab (List W32) := []
  keysel : Tab W32 := []
  miss : Tab W32 := []
  hashSel : Tab W32 := []
  /-- Words found uncorrectable and not yet rewritten (R367): table (0 exact, 1 ternary, 2 template, 3 key select, 4 miss
  templates, 5 hash selects) and the key there. -/
  lost : List (Nat × Nat) := []
  /-- ZC_ROOT plus 1 of the beat of the latest entry write, and the entry tables before that beat's writes (R138). -/
  writeBeat : Nat := 0
  wasExact : Tab (BitVec 512) := []
  wasTern : Tab (BitVec 1152) := []
  /-- ZC_ROOT plus 1 of the beat of the latest write of an egress group, and the registers it wrote as they were before (R132). -/
  groupBeat : Nat := 0
  wasGroup : List (Nat × Nat) := []
  leaseUntil : Nat := 0
  flipAt : Option Nat := none
  copying : Bool := false
  lastFlip : Option Nat := none
  drainReported : Bool := false
  recircQ : Tab (List Nat) := []
  frags : List FragRecord := []
  nextFrag : Nat := 1
  fragWait : List Nat := []
  /-- Exception buckets by logical port: 10^-12 packets short of EXC_BURST, and the instant of the last refill (R135). -/
  bucket : Tab (Nat × Nat) := []
deriving DecidableEq, Repr

/-- A frame in an egress queue: a reference to a packet's pages and the bytes to send (R284, R288). -/
structure QFrame where
  pkt : Nat
  bytes : Bytes
  pages : Nat
  tag : Option Nat := none
  mirror : Bool := false
deriving DecidableEq, Repr

/-- The traffic manager beyond its registers: policer buckets and shaper tokens in 2^-32 bytes with the time of day of the
last refill, the queues, and per logical port the active list and whether its head is credited (R285 to R291). -/
structure TmState where
  /-- The beat of the latest POLICER_SET or SHAPER_SET, plus 1, with the policers as they were before it, and the shapers applied on it
  (R294). -/
  setZc : Nat := 0
  /-- The fence registers that a FENCE_SET changed: its beat, the register and the value before, while a packet that completed step 9 by
  that beat may still meet it (R294). -/
  fenceWas : List (Nat × Nat × Nat) := []
  polWas : List (Nat × List Nat × Nat × Nat) := []
  applied : List Nat := []
  tc : Tab Nat := []
  te : Tab Nat := []
  polAt : Tab Int := []
  tokens : Tab Int := []
  shAt : Tab Int := []
  queues : Tab (List QFrame) := []
  active : Tab (List Nat) := []
  credited : Tab Nat := []
deriving DecidableEq, Repr

/-- An installed model package (R246 to R249). -/
structure Package where
  kind : Nat := 0
  stateVer : Nat := 0
  prevCompat : Nat := 0
  sampleLog2 : Nat := 0
  packageId : Nat := 0
  /-- The measurement (R248): SHA-384 of bytes 0 to TOTAL_LEN − 1. -/
  measurement : Bytes := []
  f : Nat := 0
  lmin : Nat := 0
  w : Nat := 1
  ii : Nat := 0
  lat : Nat := 0
  nrep : Nat := 0
  rate : Nat := 0
  portMask : Nat := 0
  vecIn : Nat := 0
  vecOut : Nat := 0
  flowGap : Nat := 0
  certVer : Nat := 0
  /-- Feature descriptors, 64 bits each (R155). -/
  features : List Nat := []
  /-- Categorical tables: number, DEFAULT and entries (R157). -/
  cats : List (Nat × Nat × List Nat) := []
  initState : Bytes := []
  /-- Grid images, one per rank (R236). -/
  grids : List Bytes := []
  /-- The CELL_PROGRAMS and WEIGHTS sections (R247). -/
  programs : Bytes := []
  weights : Bytes := []
  /-- Region descriptors (R188). -/
  regions : List Nat := []
deriving DecidableEq, Repr, Inhabited

/-- A slot of a selector (R245): its state as R266 numbers it, package, placed replicas (their cells by rank), log2 N, and
whether it serves (R254). -/
structure Slot where
  state : Nat := 0
  pkg : Package := {}
  replicas : List (List Nat) := []
  log2N : Nat := 0
  serves : Bool := true
  /-- Whether it has been ACTIVE (R254). -/
  was : Bool := false
  /-- Whether its placement is in the shadow registers of the ACTIVE placement's cells (R252). -/
  shadow : Bool := false
  /-- The session and TAG of the MODEL_LOAD that fills it. -/
  session : Nat := 0
  tag : Nat := 0
  /-- Launches since its activation, and the records of its regions (R184, R191, R192). -/
  launches : Nat := 0
  recs : List RegionRec := []
deriving DecidableEq, Repr, Inhabited

/-- A selector (R245, R255, R257): slots A and B, the armed flag, the beat of an accepted unlinked swap (its flags: 1 a
swap, 2 an unload at a swap point), the epoch from which a linked swap serves, SWAP_ZC, and the next replica in turn. -/
structure Selector where
  a : Slot := {}
  b : Slot := {}
  armed : Bool := false
  swapAt : Option Nat := none
  unloading : Bool := false
  linkEpoch : Option Nat := none
  swapZc : Nat := 0
  turn : Nat := 0
deriving DecidableEq, Repr, Inhabited

/-- A line of the flow cache (R149): its record, whether the cold half is resident, and its last use. Records are numbers
as they lie in memory, byte 0 least significant. -/
structure FlowLine where
  tenant : Nat
  slot : Nat
  hot : W1024
  cold : W1024 := 0#1024
  coldIn : Bool := false
  /-- A background fetch of the cold half is in progress. -/
  filling : Bool := false
  /-- The cold half was uncorrectable (R151). -/
  coldBad : Bool := false
  dirty : Bool := false
  /-- The cold half differs from what HBM holds. -/
  coldDirty : Bool := false
  used : Nat := 0
deriving DecidableEq, Repr

/-- Flow memory beyond the registers and HBM (R141 to R160): cache lines by 16 × set + way, the clock of their use, and per
tenant the time base in µs at its latest FLOW_FLUSH, plus 1. -/
structure FlowState where
  lines : Tab FlowLine := []
  clock : Nat := 0
  flushing : Tab Nat := []
deriving DecidableEq, Repr

/-- A weight tile register (R195, R197): the words loaded, and the column sums that the loader formed of an integer tile (R182). -/
structure WeightTile where
  words : List W256 := []
  sums : List Int := []
deriving DecidableEq, Repr, Inhabited

/-- An accumulator bank (R195, R199): whether it holds INT32, its columns, and its accumulators row by row. -/
structure AccBank where
  int : Bool := false
  cols : Nat := 0
  vals : List Nat := []
deriving DecidableEq, Repr, Inhabited

/-- The working registers of a cell (R195): active and shadow weight tiles, the two accumulator banks, and the lanes of the 32
vector registers by register × 64 + lane. -/
structure CellRegs where
  active : WeightTile := {}
  shadow : WeightTile := {}
  acc0 : AccBank := {}
  acc1 : AccBank := {}
  lanes : Tab Nat := []
deriving DecidableEq, Repr, Inhabited

/-- The content of one bank of a program store (R207): its mode, and the program of a job's rank or the CELL_PROGRAMS section of a
package. -/
structure ProgBank where
  mode : Nat := 0
  prog : Option CellProgram := none
  image : Bytes := []
deriving DecidableEq, Repr, Inhabited

/-- A step launched and not committed (R210, R211): its place in the program, what its attempt does and leaves in the commit
buffer, and what its checks found. -/
structure OpenStep where
  index : Nat
  step : Nat
  work : List StepOp := []
  results : List (Nat × W256) := []
  tallies : List Tally := []
  /-- The first screed skew of the attempt: region, expected tag, received tag (R185). -/
  skew : Option (Nat × Nat × Nat) := none
  /-- OPT_UPDATEs skipped: master region and non-finite elements (R273). -/
  skipped : List (Nat × Nat) := []
  /-- Vectors judged on a grid: the NaN features met with their trees, and the outputs that overflowed and that became NaN (R244). -/
  judged : List (List (Nat × Nat) × Nat × Nat) := []
  /-- Outputs that overflowed and that became NaN as ranks were reduced (R242). -/
  reduced : List (Nat × Nat) := []
  attempt : Nat := 0
  skews : Nat := 0
  /-- Why the step is suspect: 0 it is not, 1 residue, 2 commit buffer, 3 sampled (R372). -/
  suspect : Nat := 0
  row : Nat := 0
  /-- Waiting to launch again after a skew (R185), and ZC_BULK when the replay was due (R46). -/
  replay : Bool := false
  due : Nat := 0
  /-- The blocks each region had emitted when the step first launched (R184). -/
  firsts : List (Nat × Nat) := []
  /-- Its commit-buffer space has been freed by a failed check (R211). -/
  freed : Bool := false
deriving DecidableEq, Repr

/-- What a cell holds beyond its registers and store (R195, R202, R203, R207, R209, R213, R224). -/
structure CellX where
  /-- The last tenant that held the cell plus 1 (R205). -/
  lastTenant : Nat := 0
  /-- Packets whose vectors wait in the input queue, oldest first (R203). -/
  inQ : List Nat := []
  /-- ZC_INLINE of the last launch plus 1. -/
  lastLaunch : Nat := 0
  /-- The placements in the active and shadow registers, as (tenant × 16 + selector, slot, rank) (R240, R256). -/
  active : Option (Nat × Nat × Nat) := none
  standby : Option (Nat × Nat × Nat) := none
  /-- The program of the active bank of a BULK cell (R207). -/
  prog : Option CellProgram := none
  /-- The next step of the program to launch, and the ZC_BULK from which the launch is late (R210). -/
  next : Nat := 0
  opens : List OpenStep := []
  /-- Descriptors not launched of queues 0 and 1, with their numbers (R213). -/
  q0 : List (Nat × CopyDesc) := []
  q1 : List (Nat × CopyDesc) := []
  /-- Descriptors of the program beyond the 64 that each queue holds (R213). -/
  more0 : List (Nat × CopyDesc) := []
  more1 : List (Nat × CopyDesc) := []
  /-- Inbound copies a replay re-issues (R185), and speculative sends to be resent (R319): they go first. -/
  again : List (Nat × CopyDesc) := []
  /-- Copies of queue 1 that the replay of another cell's step re-issues (R185): they go first too. -/
  again1 : List (Nat × CopyDesc) := []
  resend : List (Nat × CopyDesc) := []
  /-- The working registers and the two banks of the program store (R195, R207). -/
  regs : CellRegs := {}
  banks : Tab ProgBank := []
  /-- Words that STORE_DATA has still to return (R224). -/
  readOut : List W256 := []
  /-- Instants of the transients of the cell (R375). -/
  transients : List Nat := []
  /-- Field tests (R390, R391, R398): last result (0 none, 1 pass, 2 fail), its instant, seconds and nanoseconds, the
  instant of the last pass, whether it has passed since its fence, the kernel being run, and the day of its last
  EV_TEST_STALE. -/
  testResult : Nat := 0
  testAt : Nat := 0
  testSec : Nat := 0
  testNs : Nat := 0
  lastPass : Nat := 0
  qualified : Bool := false
  kernel : Nat := 0
  staleAt : Option Nat := none
  /-- The reclaim of a fence is in progress, with the records reclaimed so far in each block (R383). -/
  reclaim : Option (List Nat) := none
  /-- Launches, for inline sampling (R381). -/
  launches : Nat := 0
deriving DecidableEq, Repr, Inhabited

/-- A copy launched and not complete (R217, R218, R314): its number (XFER), its queue (2c + q for queue q of cell c, 512 + k
for the software queue of cluster k), the number of its descriptor, whom it serves, and how far it has come. -/
structure Flight where
  id : Nat
  queue : Nat
  slot : Nat
  tenant : Nat
  job : Nat
  session : Nat
  tag : Nat
  desc : CopyDesc
  /-- Re-issued by a replay: it increments no counter (R222). -/
  quiet : Bool := false
  attempt : Nat := 0
  /-- The commit-buffer words a speculative copy reads (R318). -/
  held : List (Nat × W256) := []
  /-- The other device of a remote copy. -/
  peer : Option Nat := none
  launched : Nat
  /-- SEQs not yet acknowledged, or words not yet received. -/
  awaiting : List Nat := []
deriving DecidableEq, Repr

/-- A software queue of a cluster copy engine (R213): descriptors with tenant, session and TAG, and the last fault. -/
structure SoftCopy where
  tenant : Nat
  session : Nat
  tag : Nat
  slot : Nat
  desc : CopyDesc
deriving DecidableEq, Repr

/-- The send list of a step (R318, R319): its copies, the verdict on the attempt (none while open, true committed), whether
a clean result was committed after it, and the devices that have not answered the REVOKE with the instant it was last sent. -/
structure SendList where
  id : Nat
  cell : Nat
  step : Nat
  job : Nat
  tenant : Nat
  attempt : Nat := 0
  size : Nat
  sent : List (Nat × CopyDesc) := []
  verdict : Option Bool := none
  /-- The clean result has been committed after a failed attempt (R376). -/
  clean : Bool := false
  revoking : List (Nat × Nat) := []
  /-- The step is abandoned (R384, R388): 0 it is not, 1 its halves are still to be revoked, 2 they are being revoked. -/
  dead : Nat := 0
deriving DecidableEq, Repr

/-- A slot of a landing zone (R317, R318): the published half, and the pending state (SRC, STEP, ATTEMPT) with the instant
it began, its notices (counters) and whether its CONFIRM has come. -/
structure LandSlot where
  cur : Nat := 0
  pending : Option (Nat × Nat × Nat) := none
  since : Nat := 0
  notices : List Nat := []
  confirmed : Bool := false
deriving DecidableEq, Repr, Inhabited

/-- A landing zone (R317). -/
structure Zone where
  num : Nat
  tenant : Nat
  job : Nat
  base : Nat
  slots : Nat
  slotBytes : Nat
  cell : Nat
  entries : Tab LandSlot := []
deriving DecidableEq, Repr

/-- Copies, stores and landing zones (R195, R213, R317): cell stores by cell × 2^18 + word, software queues by cluster, the
writes of the present beat (word and source cell) and what the words written held before, for R222. -/
structure CopyState where
  store : Tab W256 := []
  flights : List Flight := []
  nextXfer : Nat := 1
  nextSlot : Nat := 0
  soft : Tab (List SoftCopy) := []
  lastFault : Tab (Nat × Nat) := []
  sends : List SendList := []
  nextSend : Nat := 1
  zones : List Zone := []
  /-- The speculative reads of slots in progress: zone, slot, flight. -/
  readers : List (Nat × Nat × Nat) := []
  beatOf : Nat := 0
  beatWrites : Tab Nat := []
  beatOld : List (Nat × W256) := []
deriving DecidableEq, Repr

/-- A fabric packet (R306): its virtual channel, class and destination, the header flit and the data flits. -/
structure FabPkt where
  vc : Nat
  cls : Nat
  dst : Nat
  hdr : Nat
  data : List W256 := []
  /-- The port it arrived on (none for one this device sends), for the credits it holds. -/
  from_ : Option Nat := none
  /-- Its credits are returned already: it is sent again after its port went down (R312). -/
  paid : Bool := false
deriving DecidableEq, Repr

/-- Fabric state beyond the registers (R302, R306, R307, R313): next SEQ by channel, accepted SEQs by source × 4 + channel,
credits held of the partner and credits granted to it by port × 32 + channel × 8 + class, flits sent, frames not
acknowledged with the packets that end in them, the next frame expected, the last ACKSEQ and the replays without progress by
port, and the packets held for want of a port, a route or credit. -/
structure FabricState where
  seq : Tab Nat := []
  window : Tab (List Nat) := []
  credit : Tab Nat := []
  granted : Tab Nat := []
  flits : Tab Nat := []
  unacked : Tab (List (Nat × FabPkt)) := []
  rxNext : Tab Nat := []
  acked : Tab Nat := []
  stuck : Tab Nat := []
  held : List FabPkt := []
  /-- When the uncorrectable codewords of the last millisecond came, by port (R303). -/
  errors : Tab (List Nat) := []
  /-- Forwarded sessions: device, SESSION and, before it has one, TAG, with the transport and the peer their packets come from (R339). -/
  relays : List ((Nat × Nat × Nat) × Transport × Nat) := []
deriving DecidableEq, Repr

/-- A record of the group configuration log (R323): index, term, type (0 membership, 1 schedule, 2 calm ratio, 3 routes,
4 landing zone, 5 checkpoint, 6 freeze) and body. -/
structure LogRecord where
  index : Nat
  term : Nat
  kind : Nat
  body : List Nat
deriving DecidableEq, Repr

/-- The group (R51, R308, R321 to R325, R387) beyond its registers: live members, MGR_ORDER, bridge member, the pending
Zephyr step, the lease (last renewal, missed renewals, last follower acknowledgement), the log with the records not yet
committed, the calm needs of the members, and routes of the group as installed. -/
structure GroupState where
  live : List Nat := []
  order : List Nat := []
  bridge : Nat := 0
  joinAt : Option (Nat × Nat × Nat) := none
  renewal : Nat := 0
  lastRenewal : Nat := 0
  missed : Nat := 0
  lastAck : Nat := 0
  leaseHeld : Bool := false
  log : List LogRecord := []
  pendingLog : List LogRecord := []
  needs : Tab Nat := []
  calm : List Nat := []
  /-- The length of the committed log of the other follower, as it has sent it (R322). -/
  peerLog : Option Nat := none
  /-- The landing zones of group jobs that the log holds: device, zone, tenant, job, base, slots, KiB and cell (R323). -/
  landings : List (List Nat) := []
  /-- The delays of the links to each member as the manager has measured them, in sixteenths of a nanosecond (R52). -/
  delays : Tab Nat := []
deriving DecidableEq, Repr

/-- A host access to BAR2 (R329). -/
structure HostAccess where
  write : Bool
  offset : Nat
  len : Nat
  data : Bytes := []
  /-- Whether a read completes within 8 ms, and the read of a partly covered word finds it correctable. -/
  inTime : Bool := true
deriving DecidableEq, Repr

/-- A host access to another device that is not complete (R314, R329): its XFER, the device, the tenant, the span address and length, the
bytes written, the words read so far, the words still to come, and whether a write waits for words to merge. -/
structure RemoteAccess where
  xfer : Nat
  peer : Nat
  tenant : Nat
  addr : Nat
  len : Nat
  write : Bool
  data : Bytes := []
  words : Tab W256 := []
  missing : List Nat := []
  /-- SEQs of WR_DATA packets not yet acknowledged. -/
  unacked : List Nat := []
deriving DecidableEq, Repr

/-- An MSI-X entry at reset: its Vector Control masks it (PRESUMED, the PCI specification; log 48). -/
def msixMasked : Nat := 2 ^ 96

/-- The host bridge (R328, R329): the mailbox, the event ring and the MSI-X table. -/
structure BridgeState where
  busy : Bool := false
  replyReady : Bool := false
  overrun : Nat := 0
  prod : Nat := 0
  cons : Nat := 0
  request : Bytes := []
  reply : Bytes := []
  /-- The event packets in the ring by their first slot (R328). -/
  ring : Tab Bytes := []
  /-- The packets that waited in ingress when a function-level reset came, whose replies are discarded, and whether the reply of the
  command that runs is one (R332). -/
  stale : List (List W256) := []
  mute : Bool := false
  /-- The MSI-X table, 128 bits to an entry, and the vectors of the pending bit array (R328). -/
  msix : Tab Nat := []
  msixPending : List Nat := []
  /-- The accesses to other devices that are not complete, oldest first, and those that wait for a read-modify-write (R329). -/
  remote : List RemoteAccess := []
  waiting : List HostAccess := []
deriving DecidableEq, Repr

/-- An open trace session (R427 to R433): its session and tenant, the sources, the armed causes and what they name. -/
structure TraceSession where
  session : Nat
  tenant : Nat
  cells : List Nat
  groups : List Nat
  causes : Nat
  eventOp : Nat
  pcCell : Nat
  pc : Nat
  swatchJob : Nat
  swatch : Nat
  beat : Nat
  group : Bool
  /-- Causes met since arming (R433). -/
  met : Nat := 0
  /-- Cells that have left a tenant's session (R430). -/
  left : List Nat := []
deriving DecidableEq, Repr

/-- A die's stipple ring (R431, R432): its records, the sequence number of the first, what was overwritten, and the records
still to be written after a trigger. -/
structure StippleRing where
  recs : List W256 := []
  first : Nat := 0
  excess : Nat := 0
  overAt : Nat := 0
  post : Option Nat := none
  stopped : Bool := false
  behind : Nat := 0
  behindZc : Nat := 0
  dropped : Nat := 0
  dropAt : Nat := 0
deriving DecidableEq, Repr, Inhabited

/-- Observation (R424 to R444) beyond the registers: the pending freeze, the trace session with its rings by die, and the
wait-for graph last built per tenant and job. -/
structure ObsState where
  freezeAt : Option (Nat × Bool) := none
  freezeBy : Nat × Nat × Nat := (0, 0, 0)
  trace : Option TraceSession := none
  rings : Tab StippleRing := []
  /-- SEND records that are on their way to the ring of a die (R434). -/
  sends : List (Nat × W256) := []
deriving DecidableEq, Repr

/-- What a failure signature says of its failure (R394, keys 5 to 10). -/
structure Failure where
  kind : Nat
  cell : Nat
  work : Nat := 0
  step : Nat := 0
  row : Nat := 0
  crc : Nat × Nat := (0, 0)
deriving DecidableEq, Repr

/-- Integrity (R364 to R401) beyond the registers: the failure signatures kept, oldest first (R394), the kernels of the
loaded test pack (expected CRC and beat bound), a pack waiting for the test to end, the cell under test, the cells TEST_RUN
still names, the instant of the last field test started, the stacks the present scrub pass has read, and the last detach of
each cluster plus 1 (R386). -/
structure IntegState where
  sigs : List Bytes := []
  kernels : List (Nat × Nat) := []
  nextPack : Option (Nat × List (Nat × Nat)) := none
  testing : Option Nat := none
  queue : List Nat := []
  lastStart : Option Nat := none
  scrubbed : List Nat := []
  detachedAt : Tab Nat := []
  heldFences : List (Bool × Failure) := []
deriving DecidableEq, Repr

/-- A memory window of a tenant, in units of 64 KiB (R220). -/
structure MemWindow where
  base : Nat := 0
  length : Nat := 0
  read : Bool := false
  write : Bool := false
deriving DecidableEq, Repr

/-- Device memory (HBM, by module address, R216), the data key each 32-byte word was written under plus 1 (R449), the
windows by tenant × 16 + window, and the retired pages as (stack, page) (R160). -/
structure MemState where
  bytes : List Host.Cell := []
  keyOf : Tab Nat := []
  windows : Tab MemWindow := []
  retired : List (Nat × Nat) := []
deriving DecidableEq, Repr

/-- Power control beyond the registers (R402 to R416): the estimates of the last W − 1 ms, newest first (R409); the samples of
the present millisecond (their sum in µW and their number) and the remainder of ENERGY in 10⁻⁵ µJ; the successive updates
whose ratio was off by more than 10 % (R403); the group ratio in force (R411); the clusters waiting for a primer pass, the
pass running (cluster, kernels done, instant of its present kernel) with its margin and whether the kernel is void (R405). -/
structure PowerState where
  hist : List Nat := []
  /-- The first millisecond's estimate, which fills the history (R409). -/
  histFill : Nat := 0
  msSum : Nat := 0
  msCount : Nat := 0
  frac : Nat := 0
  drift : Nat := 0
  /-- ENERGY at the latest update of EST_GAIN (R403). -/
  energyAt : Nat := 0
  lastLoop : Nat := 0
  ratio : Option (Nat × Nat × Nat) := none
  primers : List Nat := []
  primer : Option (Nat × Nat × Nat) := none
  margin : Int := 0
  voided : Bool := false
deriving DecidableEq, Repr

/-- A firmware image (R477): its version, SVN, lowest boot ROM and lowest MAJOR for a handover, its digest, and whether it is
whole. -/
structure FwImage where
  version : Nat := 0
  svn : Nat := 0
  minBootrom : Nat := 0
  minMajor : Nat := 0
  digest : Bytes := []
  good : Bool := true
deriving DecidableEq, Repr, Inhabited

/-- What outlives a reset (R471): the flash image and the owner credential in it, the identity of the module, blown fuses,
and the power stage (R492 to R496): whether its rails are up, PWR_EN and PRESENT_N, the latched trip, MB_FAULT, the input
as measured and sensed, the faults whose condition persists, a REVERSE still to be recorded, and what holds the reset
(bit 0 RST_N, bit 1 REFCLK_SYS); the dynamic address of the I3C target. -/
structure ModuleState where
  flash : FwImage := {}
  ownerCred : Option Bytes := none
  erased : Bool := false
  rails : Bool := true
  /-- Whether PRESENT_N is closed (R492). -/
  present : Bool := true
  hold : Nat := 0
  tripped : Bool := false
  mbFault : Nat := 0
  persists : Nat := 0
  reverse : Bool := false
  aux : Bool := true
  vin : Nat := 0
  iin : Nat := 0
  coolIn : Int := 0
  coolOut : Int := 0
  tj : Int := 0
  hbmT : Int := 0
  /-- THERM_N is asserted (R416, R502). -/
  thermN : Bool := false
  tamperReport : Bool := false
  i3c : Option Nat := none
deriving DecidableEq, Repr

/-- Firmware (R475 to R483): the running and staged images, the handover in progress (its start, COMMIT_SVN, and whether its
image has resumed and waits for the flash), the duration of the last one, FLAGS of FW_STATUS, the cells fenced by the boot
test, the stacks trained, the exception events held during a handover (R481), and the addresses of the management port. -/
structure FwState where
  running : FwImage := {}
  staged : Option FwImage := none
  handover : Option (Nat × Bool) := none
  writing : Option Bool := none
  lastNs : Nat := 0
  lastFailed : Bool := false
  recovered : Bool := false
  hbmFailed : Bool := false
  bootFenced : Nat := 0
  trained : Nat := 0
  heldExc : List (Event × Nat) := []
  lastFetch : Option Nat := none
  prefixes : List Nat := []
  ipv4 : Option Nat := none
deriving DecidableEq, Repr

/-- A handshake in progress (R453): its identifier, tenant, transport and peer, the instant of its SESSION_OPEN, and the
transcript so far. -/
structure Handshake where
  id : Nat
  tenant : Nat
  transport : Transport
  peer : Nat
  opened : Nat
  transcript : Bytes
deriving DecidableEq, Repr

/-- A report in progress (R461). -/
structure AttestReport where
  session : Nat
  tag : Nat
  tenant : Nat
  body : Bytes
deriving DecidableEq, Repr

/-- The security controller (R445 to R466) beyond the registers: handshakes pending, identifiers used, credentials of tenants
1 to 255, the instants of failed handshakes and the ends of lockouts by tenant, reports in progress, data keys installed or
generated so far, the epoch a destruction waits for by tenant plus 1, and engines under a periodic test. -/
structure SecState where
  handshakes : List Handshake := []
  usedIds : List Nat := []
  creds : Tab Bytes := []
  failed : Tab (List Nat) := []
  lockUntil : Tab Nat := []
  reports : List AttestReport := []
  nextKey : Nat := 1
  waitFlip : List Nat := []
  lastTest : Nat := 0
deriving DecidableEq, Repr

/-- The state of the device. -/
structure State where
  /-- The commands that are waiting, first in, first out (log 1). -/
  pending : List Instr := []
  /-- The model's counter of free values drawn (log 7): no statement rests on its value. -/
  fresh : Nat := 0
  /-- The model's record of what left the device, oldest first (log 6). -/
  out : List Output := []
  /-- True time in picoseconds (log 4). -/
  now : Nat := 0
  /-- The CSR file (R360), each register under its address, a pair whole under its `_LO` address. -/
  regs : Tab W64 := []
  /-- The latches of `_HI` words, TIME and OCC_WORDS (R60, R81, R359). -/
  latch : Tab W32 := []
  /-- The shadows of a FREEZE (R424). -/
  shadow : Tab W64 := []
  beat : BeatState := {}
  time : TimeState := {}
  sessions : List Session := []
  windows : List Window := []
  jobs : List Job := []
  ports : PortState := {}
  hc : HcState := {}
  mt : MatchState := {}
  tm : TmState := {}
  mem : MemState := {}
  /-- The identity of each tenant's data key (R449). -/
  dataKey : Tab Nat := []
  /-- The model-signing pair registered for each tenant: RSA-3072 modulus then SLH-DSA key, empty for none (R457). -/
  signer : Tab Bytes := []
  /-- The selectors, by tenant × 16 + selector (R245). -/
  models : Tab Selector := []
  flow : FlowState := {}
  /-- The cells beyond their registers and stores. -/
  cells : Tab CellX := []
  copies : CopyState := {}
  fabric : FabricState := {}
  group : GroupState := {}
  bridge : BridgeState := {}
  obs : ObsState := {}
  integ : IntegState := {}
  power : PowerState := {}
  module : ModuleState := {}
  fw : FwState := {}
  secure : SecState := {}
deriving DecidableEq, Repr

/-- The device as its reset leaves it (R471, R472, R473), with the values of logs 2 and 3 where the manual gives none. -/
def State.reset : State := {}

end Sys2Proof.Machine
end

