-- ==== Sys2Proof/Machine/Flags.lean ====
section
/-!
DEFINITION. Status codes (R347), region codes (R353), the owner's tenant number, and the named bits and fields of the
status registers that the other files read and write.
-/
namespace Sys2Proof.Machine

namespace St
/-- Done. -/
def OK : Nat := 0x0000
/-- Checks passed; the work completes later. -/
def ACCEPTED : Nat := 0x0001
def BAD_OPCODE : Nat := 0x0100
def BAD_PARAM : Nat := 0x0101
def NOT_PERMITTED : Nat := 0x0102
def AUTH_FAIL : Nat := 0x0103
def SIG_FAIL : Nat := 0x0104
def BUSY : Nat := 0x0200
def EPOCH_BUSY : Nat := 0x0201
def NO_FIT : Nat := 0x0300
def RATE_SHORTFALL : Nat := 0x0301
def CAP_UNREACHABLE : Nat := 0x0400
def SCREED_SKEW : Nat := 0x0500
def JOB_FAILED : Nat := 0x0501
end St

/-- Tenant 0 is the owner (R445). -/
def owner : Nat := 0

/-- A reply of one status without parameters. -/
def st (c : Nat) : Reply := ⟨c, []⟩
/-- OK without parameters. -/
def ok : Reply := ⟨St.OK, []⟩

/-- Region codes (R353). -/
def regionRoot : Nat := 0
def regionBulk (k : Nat) : Nat := 0x10 + k
def regionInline (k : Nat) : Nat := 0x20 + k

/-- The number of a transport in arbitration order (R345). -/
def Transport.num : Transport → Nat
  | .mgmt => 0
  | .fabric => 1
  | .mailbox => 2

end Sys2Proof.Machine
end

