-- ==== Sys2Proof/Machine/RegMap.lean ====
section
/-!
DEFINITION. The CSR map (R360) as a table: every block and every register of R60, R83, R84, R108, R139, R140, R163, R224,
R225, R244, R295 to R299, R333, R334, R361, R362, R401, R421, R444 and R470, with its access code (R9), its reset value,
the bits that hold a value (reserved bits read 0 and ignore writes, R10) and the range a write accepts. `Addr` names each
register's address, `_LO` and `_HI` pairs by their `_LO` word.
-/
namespace Sys2Proof.Machine

/-- The access codes of R9. -/
inductive Acc where
  | ro
  | rw
  | wo
  | w1c
  | rc
  | mixed
deriving DecidableEq, Repr

/-- One row of a register table: items `k < n` at distance `step`, each of `m` words (or `_LO`, `_HI` pairs) `j < m`. -/
structure RegRow where
  off : Nat
  n : Nat
  step : Nat
  m : Nat
  pair : Bool
  acc : Acc
  reset : Nat
  mask : Nat
  lo : Nat
  hi : Nat
deriving DecidableEq, Repr

/-- The blocks of R360, the common, flow, group and bridge registers named apart. -/
inductive BlockId where
  | identity
  | beat
  | power
  | integrity
  | observe
  | security
  | port
  | fifo
  | headerCore
  | stage
  | rule
  | flow
  | flowTenant
  | tm
  | fabric
  | group
  | bridge
  | hbm
  | cluster
  | cell
deriving DecidableEq, Repr

/-- A block of the CSR map. -/
structure Block where
  id : BlockId
  base : Nat
  inst : Nat
  stride : Nat
  rows : List RegRow
deriving DecidableEq, Repr

/-- Rows of the register tables: DEVICE_ID to DLINK_BULK_AVAIL. -/
def idRegs : List RegRow := [
  ⟨0x0, 1, 0x0, 1, false, .ro, 0x0, 0xffffffff, 0x0, 0xffffffff⟩,
  ⟨0x4, 1, 0x0, 1, false, .ro, 0xc42100, 0xffffffff, 0x0, 0xffffffff⟩,
  ⟨0x8, 1, 0x0, 1, true, .ro, 0x0, 0xffffffffffffffff, 0x0, 0xffffffffffffffff⟩,
  ⟨0x10, 1, 0x0, 1, false, .ro, 0x0, 0xffffffff, 0x0, 0xffffffff⟩,
  ⟨0x14, 1, 0x0, 1, false, .ro, 0x0, 0xffffffff, 0x0, 0xffffffff⟩,
  ⟨0x18, 1, 0x0, 1, false, .ro, 0x0, 0xffffffff, 0x0, 0xffffffff⟩,
  ⟨0x1c, 1, 0x0, 1, false, .ro, 0x0, 0xffffffff, 0x0, 0xffffffff⟩,
  ⟨0x20, 1, 0x0, 1, true, .ro, 0x0, 0xffffffffffffffff, 0x0, 0xffffffffffffffff⟩,
  ⟨0x28, 1, 0x0, 1, false, .ro, 0x0, 0xffffffff, 0x0, 0xffffffff⟩,
  ⟨0x30, 1, 0x0, 1, false, .rw, 0x4, 0x7, 0x0, 0x7⟩,
  ⟨0x34, 1, 0x0, 1, false, .rw, 0x0, 0xffffffff, 0x0, 0xffffffff⟩,
  ⟨0x38, 1, 0x0, 1, false, .rw, 0x40, 0x7f, 0x8, 0x40⟩,
  ⟨0x3c, 1, 0x0, 1, false, .rw, 0x12c, 0xfff, 0xa, 0xe10⟩,
  ⟨0x40, 1, 0x0, 1, false, .ro, 0x0, 0xffffffff, 0x0, 0xffffffff⟩,
  ⟨0x44, 1, 0x0, 1, false, .ro, 0x0, 0xffffffff, 0x0, 0xffffffff⟩,
  ⟨0x48, 1, 0x0, 1, false, .rw, 0x100, 0x3fff, 0x40, 0x2600⟩,
  ⟨0x50, 1, 0x0, 1, true, .ro, 0x0, 0xffffffffffffffff, 0x0, 0xffffffffffffffff⟩,
  ⟨0x58, 1, 0x0, 1, false, .ro, 0x0, 0xffffffff, 0x0, 0xffffffff⟩,
  ⟨0x5c, 1, 0x0, 1, false, .ro, 0x0, 0xffffffff, 0x0, 0xffffffff⟩,
  ⟨0x60, 1, 0x0, 1, false, .ro, 0x0, 0xffffffff, 0x0, 0xffffffff⟩,
  ⟨0x64, 1, 0x0, 1, false, .ro, 0x0, 0xffffffff, 0x0, 0xffffffff⟩,
  ⟨0x68, 1, 0x0, 1, false, .ro, 0x0, 0xffffffff, 0x0, 0xffffffff⟩,
  ⟨0x70, 1, 0x0, 1, true, .ro, 0x0, 0xffffffffffffffff, 0x0, 0xffffffffffffffff⟩,
  ⟨0x78, 1, 0x0, 1, false, .ro, 0x0, 0xffffffff, 0x0, 0xffffffff⟩,
  ⟨0x80, 4, 0x8, 1, false, .ro, 0x0, 0xffffffff, 0x0, 0xffffffff⟩,
  ⟨0x84, 4, 0x8, 1, false, .ro, 0x1f40, 0xffffffff, 0x0, 0xffffffff⟩]

/-- Rows of the register tables: BEAT_CTRL to SNAP_ZC. -/
def beatRegs0 : List RegRow := [
  ⟨0x0, 1, 0x0, 1, false, .rw, 0x9, 0xf, 0x0, 0xf⟩,
  ⟨0x4, 1, 0x0, 1, false, .rw, 0x1f4, 0xfff, 0x1f4, 0x7d0⟩,
  ⟨0x8, 1, 0x0, 1, false, .ro, 0x0, 0xffffffff, 0x0, 0xffffffff⟩,
  ⟨0xc, 1, 0x0, 1, false, .mixed, 0x0, 0xf, 0x0, 0xf⟩,
  ⟨0x10, 1, 0x0, 1, true, .ro, 0x0, 0xffffffffffffffff, 0x0, 0xffffffffffffffff⟩,
  ⟨0x18, 1, 0x0, 1, false, .ro, 0x0, 0xffffffff, 0x0, 0xffffffff⟩,
  ⟨0x20, 1, 0x0, 1, true, .ro, 0x0, 0xffffffffffffffff, 0x0, 0xffffffffffffffff⟩,
  ⟨0x28, 1, 0x0, 1, false, .ro, 0x0, 0xffffffff, 0x0, 0xffffffff⟩,
  ⟨0x2c, 1, 0x0, 1, false, .ro, 0x0, 0xffffffff, 0x0, 0xffffffff⟩,
  ⟨0x30, 1, 0x0, 1, false, .rw, 0xa, 0x3ff, 0x1, 0x3e8⟩,
  ⟨0x34, 1, 0x0, 1, false, .ro, 0x0, 0xffffffff, 0x0, 0xffffffff⟩,
  ⟨0x38, 1, 0x0, 1, false, .wo, 0x0, 0xfffff, 0x0, 0xfffff⟩,
  ⟨0x40, 1, 0x0, 1, true, .rw, 0x0, 0xffffffffffffffff, 0x0, 0xffffffffffffffff⟩,
  ⟨0x48, 1, 0x0, 1, false, .rw, 0x0, 0xffff, 0x0, 0xffff⟩,
  ⟨0x4c, 1, 0x0, 1, false, .ro, 0x0, 0xffffffff, 0x0, 0xffffffff⟩,
  ⟨0x50, 1, 0x0, 1, true, .rw, 0x0, 0xffffffffffffffff, 0x0, 0xffffffffffffffff⟩,
  ⟨0x58, 1, 0x0, 1, false, .rw, 0x0, 0xffff, 0x0, 0xffff⟩,
  ⟨0x60, 1, 0x0, 1, false, .rw, 0x80000a, 0x7ff000f, 0x0, 0x7ff000f⟩,
  ⟨0x70, 1, 0x0, 1, false, .ro, 0x0, 0xffffffff, 0x0, 0xffffffff⟩,
  ⟨0x74, 1, 0x0, 1, false, .rw, 0x100, 0x10f, 0x0, 0x10f⟩,
  ⟨0x78, 1, 0x0, 1, false, .rw, 0x40, 0xffff, 0x0, 0xffff⟩,
  ⟨0x7c, 1, 0x0, 1, false, .rw, 0x2, 0x7f, 0x1, 0x64⟩,
  ⟨0x80, 1, 0x0, 1, false, .mixed, 0x0, 0x7f, 0x0, 0x7f⟩,
  ⟨0x84, 1, 0x0, 1, true, .ro, 0x0, 0xffffffffffffffff, 0x0, 0xffffffffffffffff⟩,
  ⟨0x8c, 1, 0x0, 1, false, .ro, 0x0, 0xffffffff, 0x0, 0xffffffff⟩,
  ⟨0x90, 1, 0x0, 1, false, .rw, 0x0, 0xffffffff, 0x0, 0xffffffff⟩,
  ⟨0x94, 1, 0x0, 1, false, .wo, 0x0, 0xffffffff, 0x0, 0xffffffff⟩,
  ⟨0x98, 1, 0x0, 1, false, .rw, 0x0, 0xffff, 0x0, 0xffff⟩,
  ⟨0xa0, 1, 0x0, 1, false, .wo, 0x0, 0x1, 0x0, 0x1⟩,
  ⟨0xa4, 1, 0x0, 1, true, .ro, 0x0, 0xffffffffffffffff, 0x0, 0xffffffffffffffff⟩]

/-- Rows of the register tables: SNAP_SEC to SNAP_NS. -/
def beatRegs1 : List RegRow := [
  ⟨0xac, 1, 0x0, 1, true, .ro, 0x0, 0xffffffffffffffff, 0x0, 0xffffffffffffffff⟩,
  ⟨0xb4, 1, 0x0, 1, false, .ro, 0x0, 0xffffffff, 0x0, 0xffffffff⟩]

/-- All rows of the block. -/
def beatRegs : List RegRow := beatRegs0 ++ beatRegs1

/-- Rows of the register tables: CAP to CL_ACK_MARGIN. -/
def powerRegs0 : List RegRow := [
  ⟨0x0, 1, 0x0, 1, false, .ro, 0x960, 0xffffffff, 0x0, 0xffffffff⟩,
  ⟨0x4, 1, 0x0, 1, false, .ro, 0x4, 0xffffffff, 0x0, 0xffffffff⟩,
  ⟨0x8, 1, 0x0, 1, false, .ro, 0x24, 0xffffffff, 0x0, 0xffffffff⟩,
  ⟨0xc, 1, 0x0, 1, false, .ro, 0x40, 0xffffffff, 0x0, 0xffffffff⟩,
  ⟨0x10, 1, 0x0, 1, false, .ro, 0x0, 0xffffffff, 0x0, 0xffffffff⟩,
  ⟨0x14, 1, 0x0, 1, false, .ro, 0x0, 0xffffffff, 0x0, 0xffffffff⟩,
  ⟨0x18, 1, 0x0, 1, false, .ro, 0x0, 0xffffffff, 0x0, 0xffffffff⟩,
  ⟨0x1c, 1, 0x0, 1, false, .ro, 0x0, 0xffffffff, 0x0, 0xffffffff⟩,
  ⟨0x20, 1, 0x0, 1, false, .ro, 0x960, 0xffffffff, 0x0, 0xffffffff⟩,
  ⟨0x24, 1, 0x0, 1, false, .ro, 0xbb8, 0xffffffff, 0x0, 0xffffffff⟩,
  ⟨0x28, 1, 0x0, 1, false, .ro, 0x0, 0xffffffff, 0x0, 0xffffffff⟩,
  ⟨0x2c, 1, 0x0, 1, false, .ro, 0x0, 0xffffffff, 0x0, 0xffffffff⟩,
  ⟨0x30, 1, 0x0, 1, false, .ro, 0x0, 0xffffffff, 0x0, 0xffffffff⟩,
  ⟨0x34, 1, 0x0, 1, false, .ro, 0x0, 0xffffffff, 0x0, 0xffffffff⟩,
  ⟨0x38, 1, 0x0, 1, false, .ro, 0x0, 0xffffffff, 0x0, 0xffffffff⟩,
  ⟨0x3c, 1, 0x0, 1, false, .ro, 0x0, 0xffffffff, 0x0, 0xffffffff⟩,
  ⟨0x40, 1, 0x0, 1, false, .ro, 0x0, 0xffffffff, 0x0, 0xffffffff⟩,
  ⟨0x44, 1, 0x0, 1, false, .rw, 0x14, 0xff, 0xa, 0x64⟩,
  ⟨0x48, 1, 0x0, 1, false, .ro, 0x4000, 0xffffffff, 0x0, 0xffffffff⟩,
  ⟨0x4c, 1, 0x0, 1, false, .ro, 0x0, 0xffffffff, 0x0, 0xffffffff⟩,
  ⟨0x50, 1, 0x0, 1, true, .ro, 0x0, 0xffffffffffffffff, 0x0, 0xffffffffffffffff⟩,
  ⟨0x58, 1, 0x0, 1, false, .ro, 0x0, 0xffffffff, 0x0, 0xffffffff⟩,
  ⟨0x5c, 1, 0x0, 1, false, .ro, 0x0, 0xffffffff, 0x0, 0xffffffff⟩,
  ⟨0x60, 1, 0x0, 1, false, .rw, 0x64, 0xff, 0x55, 0x69⟩,
  ⟨0x64, 1, 0x0, 1, false, .rw, 0x6e, 0xff, 0x69, 0x73⟩,
  ⟨0x68, 1, 0x0, 1, false, .ro, 0x0, 0xffffffff, 0x0, 0xffffffff⟩,
  ⟨0x6c, 1, 0x0, 1, false, .ro, 0x0, 0xffffffff, 0x0, 0xffffffff⟩,
  ⟨0x70, 1, 0x0, 1, true, .ro, 0x0, 0xffffffffffffffff, 0x0, 0xffffffffffffffff⟩,
  ⟨0x80, 1, 0x0, 8, false, .rw, 0x0, 0xffffffff, 0x0, 0xffffffff⟩,
  ⟨0x100, 1, 0x0, 16, false, .ro, 0x0, 0xffffffff, 0x0, 0xffffffff⟩]

/-- Rows of the register tables: CL_POWER to CL_POWER. -/
def powerRegs1 : List RegRow := [
  ⟨0x140, 1, 0x0, 16, false, .ro, 0x0, 0xffffffff, 0x0, 0xffffffff⟩]

/-- All rows of the block. -/
def powerRegs : List RegRow := powerRegs0 ++ powerRegs1

/-- Rows of the register tables: INT_CTRL to SIGNATURES. -/
def integRegs : List RegRow := [
  ⟨0x0, 1, 0x0, 1, false, .rw, 0x3, 0x7f, 0x0, 0x7f⟩,
  ⟨0x4, 1, 0x0, 1, false, .rw, 0x4, 0xff, 0x1, 0xff⟩,
  ⟨0x8, 1, 0x0, 1, false, .rw, 0x18, 0xff, 0x1, 0xa8⟩,
  ⟨0xc, 1, 0x0, 1, false, .rw, 0x2, 0x3ff, 0x1, 0x3e7⟩,
  ⟨0x10, 1, 0x0, 1, false, .rw, 0x3, 0xf, 0x1, 0xf⟩,
  ⟨0x14, 1, 0x0, 1, false, .rw, 0x18, 0xff, 0x1, 0xa8⟩,
  ⟨0x18, 1, 0x0, 1, false, .ro, 0x0, 0xffffffff, 0x0, 0xffffffff⟩,
  ⟨0x1c, 1, 0x0, 1, false, .rw, 0x1, 0xfff, 0x1, 0xe10⟩,
  ⟨0x20, 1, 0x0, 1, false, .rw, 0x18, 0x3ff, 0x1, 0x2d0⟩,
  ⟨0x24, 1, 0x0, 1, false, .rw, 0x0, 0x1, 0x0, 0x1⟩,
  ⟨0x28, 1, 0x0, 1, false, .ro, 0x0, 0xffffffff, 0x0, 0xffffffff⟩,
  ⟨0x2c, 1, 0x0, 1, true, .ro, 0x0, 0xffffffffffffffff, 0x0, 0xffffffffffffffff⟩,
  ⟨0x40, 1, 0x0, 8, false, .ro, 0x0, 0xffffffff, 0x0, 0xffffffff⟩,
  ⟨0x60, 1, 0x0, 8, false, .ro, 0x0, 0xffffffff, 0x0, 0xffffffff⟩,
  ⟨0x100, 1, 0x0, 1, true, .ro, 0x0, 0xffffffffffffffff, 0x0, 0xffffffffffffffff⟩,
  ⟨0x108, 1, 0x0, 1, false, .ro, 0x0, 0xffffffff, 0x0, 0xffffffff⟩,
  ⟨0x10c, 1, 0x0, 1, false, .ro, 0x0, 0xffffffff, 0x0, 0xffffffff⟩,
  ⟨0x110, 1, 0x0, 1, false, .ro, 0x0, 0xffffffff, 0x0, 0xffffffff⟩,
  ⟨0x114, 1, 0x0, 1, false, .ro, 0x0, 0xffffffff, 0x0, 0xffffffff⟩,
  ⟨0x118, 1, 0x0, 1, false, .ro, 0x0, 0xffffffff, 0x0, 0xffffffff⟩,
  ⟨0x11c, 1, 0x0, 1, false, .ro, 0x0, 0xffffffff, 0x0, 0xffffffff⟩,
  ⟨0x120, 1, 0x0, 1, false, .ro, 0x0, 0xffffffff, 0x0, 0xffffffff⟩,
  ⟨0x124, 1, 0x0, 1, false, .ro, 0x0, 0xffffffff, 0x0, 0xffffffff⟩,
  ⟨0x128, 1, 0x0, 1, false, .ro, 0x0, 0xffffffff, 0x0, 0xffffffff⟩,
  ⟨0x12c, 1, 0x0, 1, false, .ro, 0x0, 0xffffffff, 0x0, 0xffffffff⟩,
  ⟨0x130, 1, 0x0, 1, false, .ro, 0x0, 0xffffffff, 0x0, 0xffffffff⟩,
  ⟨0x134, 1, 0x0, 1, false, .ro, 0x0, 0xffffffff, 0x0, 0xffffffff⟩,
  ⟨0x138, 1, 0x0, 1, false, .ro, 0x0, 0xffffffff, 0x0, 0xffffffff⟩,
  ⟨0x13c, 1, 0x0, 1, false, .ro, 0x0, 0xffffffff, 0x0, 0xffffffff⟩]

/-- Rows of the register tables: FREEZE_STATUS to DUMPS_FIRED. -/
def obsRegs : List RegRow := [
  ⟨0x0, 1, 0x0, 1, false, .ro, 0x0, 0xffffffff, 0x0, 0xffffffff⟩,
  ⟨0x4, 1, 0x0, 1, false, .ro, 0x0, 0xffffffff, 0x0, 0xffffffff⟩,
  ⟨0x8, 1, 0x0, 1, true, .ro, 0x0, 0xffffffffffffffff, 0x0, 0xffffffffffffffff⟩,
  ⟨0x10, 1, 0x0, 1, true, .ro, 0x0, 0xffffffffffffffff, 0x0, 0xffffffffffffffff⟩,
  ⟨0x18, 1, 0x0, 1, false, .ro, 0x0, 0xffffffff, 0x0, 0xffffffff⟩,
  ⟨0x20, 1, 0x0, 1, false, .ro, 0x0, 0xffffffff, 0x0, 0xffffffff⟩,
  ⟨0x24, 1, 0x0, 1, false, .ro, 0x0, 0xffffffff, 0x0, 0xffffffff⟩,
  ⟨0x28, 1, 0x0, 1, false, .ro, 0x0, 0xffffffff, 0x0, 0xffffffff⟩,
  ⟨0x2c, 1, 0x0, 1, false, .ro, 0x0, 0xffffffff, 0x0, 0xffffffff⟩,
  ⟨0x30, 1, 0x0, 1, true, .ro, 0x0, 0xffffffffffffffff, 0x0, 0xffffffffffffffff⟩,
  ⟨0x38, 1, 0x0, 1, false, .ro, 0x0, 0xffffffff, 0x0, 0xffffffff⟩,
  ⟨0x40, 1, 0x0, 4, false, .ro, 0x0, 0xffffffff, 0x0, 0xffffffff⟩,
  ⟨0x50, 1, 0x0, 4, false, .ro, 0x0, 0xffffffff, 0x0, 0xffffffff⟩,
  ⟨0x60, 1, 0x0, 1, true, .ro, 0x0, 0xffffffffffffffff, 0x0, 0xffffffffffffffff⟩,
  ⟨0x68, 1, 0x0, 1, false, .ro, 0x0, 0xffffffff, 0x0, 0xffffffff⟩,
  ⟨0x70, 1, 0x0, 1, false, .rw, 0x64, 0x3fff, 0xa, 0x2710⟩,
  ⟨0x74, 1, 0x0, 1, false, .ro, 0x0, 0xffffffff, 0x0, 0xffffffff⟩,
  ⟨0x78, 1, 0x0, 1, false, .ro, 0x0, 0xffffffff, 0x0, 0xffffffff⟩,
  ⟨0x7c, 1, 0x0, 1, false, .ro, 0x0, 0xffffffff, 0x0, 0xffffffff⟩]

/-- Rows of the register tables: SEC_STATUS to T_AUTH_FAILS. -/
def secRegs : List RegRow := [
  ⟨0x0, 1, 0x0, 1, false, .ro, 0x0, 0xffffffff, 0x0, 0xffffffff⟩,
  ⟨0x4, 1, 0x0, 1, false, .ro, 0x0, 0xffffffff, 0x0, 0xffffffff⟩,
  ⟨0x8, 1, 0x0, 1, false, .ro, 0x0, 0xffffffff, 0x0, 0xffffffff⟩,
  ⟨0xc, 1, 0x0, 1, false, .ro, 0x0, 0xffffffff, 0x0, 0xffffffff⟩,
  ⟨0x10, 1, 0x0, 1, false, .rw, 0x0, 0x1, 0x0, 0x1⟩,
  ⟨0x14, 1, 0x0, 1, false, .rw, 0x18, 0xff, 0x0, 0xa8⟩,
  ⟨0x18, 1, 0x0, 1, false, .ro, 0x0, 0xffffffff, 0x0, 0xffffffff⟩,
  ⟨0x1c, 1, 0x0, 1, false, .ro, 0x0, 0xffffffff, 0x0, 0xffffffff⟩,
  ⟨0x20, 1, 0x0, 1, false, .ro, 0x0, 0xffffffff, 0x0, 0xffffffff⟩,
  ⟨0x100, 1, 0x0, 48, false, .ro, 0x0, 0xffffffff, 0x0, 0xffffffff⟩,
  ⟨0x200, 1, 0x0, 8, false, .ro, 0x0, 0xffffffff, 0x0, 0xffffffff⟩,
  ⟨0x1000, 256, 0x10, 1, false, .ro, 0x0, 0xffffffff, 0x0, 0xffffffff⟩,
  ⟨0x1004, 256, 0x10, 1, false, .ro, 0x0, 0xffffffff, 0x0, 0xffffffff⟩,
  ⟨0x1008, 256, 0x10, 1, false, .ro, 0x0, 0xffffffff, 0x0, 0xffffffff⟩,
  ⟨0x100c, 256, 0x10, 1, false, .ro, 0x0, 0xffffffff, 0x0, 0xffffffff⟩]

/-- Rows of the register tables: PORT_CTRL to PFC_TX. -/
def portRegs : List RegRow := [
  ⟨0x0, 1, 0x0, 1, false, .rw, 0x0, 0x7f, 0x0, 0xffffffff⟩,
  ⟨0x4, 1, 0x0, 1, false, .ro, 0x0, 0xffffffff, 0x0, 0xffffffff⟩,
  ⟨0x8, 1, 0x0, 1, false, .rw, 0x0, 0xffff, 0x0, 0xffff⟩,
  ⟨0xc, 1, 0x0, 1, false, .rw, 0x0, 0xffff, 0x0, 0xffff⟩,
  ⟨0x10, 1, 0x0, 1, false, .rw, 0x3e8, 0xffffffff, 0x0, 0xffffffff⟩,
  ⟨0x20, 1, 0x0, 1, true, .ro, 0x0, 0xffffffffffffffff, 0x0, 0xffffffffffffffff⟩,
  ⟨0x28, 1, 0x0, 1, true, .ro, 0x0, 0xffffffffffffffff, 0x0, 0xffffffffffffffff⟩,
  ⟨0x30, 1, 0x0, 8, false, .ro, 0x0, 0xffffffff, 0x0, 0xffffffff⟩,
  ⟨0x50, 1, 0x0, 1, false, .ro, 0x0, 0xffffffff, 0x0, 0xffffffff⟩,
  ⟨0x1000, 8, 0x400, 1, false, .rw, 0x0, 0xff3f, 0x0, 0xffffffff⟩,
  ⟨0x1004, 8, 0x400, 1, false, .rw, 0x5f2, 0x3fff, 0x40, 0x2600⟩,
  ⟨0x1008, 8, 0x400, 1, false, .rw, 0x0, 0xff, 0x0, 0xff⟩,
  ⟨0x1010, 8, 0x400, 1, false, .rw, 0x0, 0xfffff, 0x0, 0xfffff⟩,
  ⟨0x1014, 8, 0x400, 1, false, .rw, 0x0, 0xfffff, 0x0, 0xfffff⟩,
  ⟨0x1018, 8, 0x400, 1, false, .rw, 0x0, 0xfffff, 0x0, 0xfffff⟩,
  ⟨0x101c, 8, 0x400, 1, false, .rw, 0x0, 0xfffff, 0x0, 0xfffff⟩,
  ⟨0x1020, 8, 0x400, 1, false, .rw, 0x0, 0xfffff, 0x0, 0xfffff⟩,
  ⟨0x1040, 8, 0x400, 7, false, .rw, 0x0, 0x3fffffff, 0x0, 0x3fffffff⟩,
  ⟨0x1100, 8, 0x400, 1, true, .ro, 0x0, 0xffffffffffffffff, 0x0, 0xffffffffffffffff⟩,
  ⟨0x1108, 8, 0x400, 1, true, .ro, 0x0, 0xffffffffffffffff, 0x0, 0xffffffffffffffff⟩,
  ⟨0x1110, 8, 0x400, 1, true, .ro, 0x0, 0xffffffffffffffff, 0x0, 0xffffffffffffffff⟩,
  ⟨0x1118, 8, 0x400, 1, true, .ro, 0x0, 0xffffffffffffffff, 0x0, 0xffffffffffffffff⟩,
  ⟨0x1120, 8, 0x400, 1, true, .ro, 0x0, 0xffffffffffffffff, 0x0, 0xffffffffffffffff⟩,
  ⟨0x1128, 8, 0x400, 1, true, .ro, 0x0, 0xffffffffffffffff, 0x0, 0xffffffffffffffff⟩,
  ⟨0x1130, 8, 0x400, 1, true, .ro, 0x0, 0xffffffffffffffff, 0x0, 0xffffffffffffffff⟩,
  ⟨0x1138, 8, 0x400, 1, true, .ro, 0x0, 0xffffffffffffffff, 0x0, 0xffffffffffffffff⟩,
  ⟨0x1180, 8, 0x400, 8, false, .ro, 0x0, 0xffffffff, 0x0, 0xffffffff⟩,
  ⟨0x11a0, 8, 0x400, 8, false, .ro, 0x0, 0xffffffff, 0x0, 0xffffffff⟩]

/-- Rows of the register tables: FIFO_ID to TS_DATA. -/
def fifoRegs : List RegRow := [
  ⟨0x0, 1, 0x0, 1, false, .ro, 0x0, 0xffffffff, 0x0, 0xffffffff⟩,
  ⟨0x4, 1, 0x0, 1, false, .ro, 0x0, 0xffffffff, 0x0, 0xffffffff⟩,
  ⟨0x8, 1, 0x0, 1, false, .ro, 0x0, 0xffffffff, 0x0, 0xffffffff⟩,
  ⟨0xc, 1, 0x0, 1, false, .rc, 0x0, 0xffffffff, 0x0, 0xffffffff⟩,
  ⟨0x10, 1, 0x0, 1, false, .rw, 0x0, 0x1, 0x0, 0x1⟩,
  ⟨0x14, 1, 0x0, 1, false, .wo, 0x0, 0x1, 0x0, 0x1⟩,
  ⟨0x18, 1, 0x0, 1, false, .ro, 0x0, 0xffffffff, 0x0, 0xffffffff⟩,
  ⟨0x1c, 1, 0x0, 1, false, .ro, 0x0, 0xffffffff, 0x0, 0xffffffff⟩,
  ⟨0x20, 1, 0x0, 1, false, .ro, 0x0, 0xffffffff, 0x0, 0xffffffff⟩,
  ⟨0x24, 1, 0x0, 1, false, .ro, 0x0, 0xffffffff, 0x0, 0xffffffff⟩,
  ⟨0x28, 1, 0x0, 1, false, .ro, 0x0, 0xffffffff, 0x0, 0xffffffff⟩,
  ⟨0x30, 1, 0x0, 1, true, .ro, 0x0, 0xffffffffffffffff, 0x0, 0xffffffffffffffff⟩,
  ⟨0x38, 1, 0x0, 2, false, .ro, 0x0, 0x0, 0x0, 0xffffffff⟩,
  ⟨0x40, 1, 0x0, 8, false, .ro, 0x0, 0xffffffff, 0x0, 0xffffffff⟩,
  ⟨0x60, 1, 0x0, 40, false, .ro, 0x0, 0x0, 0x0, 0xffffffff⟩]

/-- Rows of the register tables: HC_ID to DISP_STAGE. -/
def hcRegs : List RegRow := [
  ⟨0x0, 1, 0x0, 1, false, .ro, 0x0, 0xffffffff, 0x0, 0xffffffff⟩,
  ⟨0x4, 1, 0x0, 1, false, .rw, 0x0, 0x3, 0x0, 0xffffffff⟩,
  ⟨0x8, 1, 0x0, 1, false, .ro, 0x0, 0xffffffff, 0x0, 0xffffffff⟩,
  ⟨0xc, 1, 0x0, 1, false, .wo, 0x0, 0x1, 0x0, 0x1⟩,
  ⟨0x10, 1, 0x0, 1, false, .ro, 0x0, 0xffffffff, 0x0, 0xffffffff⟩,
  ⟨0x14, 1, 0x0, 1, false, .wo, 0x0, 0x1, 0x0, 0x1⟩,
  ⟨0x18, 1, 0x0, 1, false, .rw, 0x200, 0x7ff, 0x40, 0x7ff⟩,
  ⟨0x1c, 1, 0x0, 1, false, .ro, 0x0, 0xffffffff, 0x0, 0xffffffff⟩,
  ⟨0x20, 1, 0x0, 1, true, .ro, 0x0, 0xffffffffffffffff, 0x0, 0xffffffffffffffff⟩,
  ⟨0x28, 1, 0x0, 1, false, .ro, 0x0, 0xffffffff, 0x0, 0xffffffff⟩,
  ⟨0x2c, 1, 0x0, 1, false, .ro, 0x0, 0xffffffff, 0x0, 0xffffffff⟩,
  ⟨0x30, 1, 0x0, 1, false, .ro, 0x0, 0xffffffff, 0x0, 0xffffffff⟩,
  ⟨0x34, 1, 0x0, 1, false, .ro, 0x0, 0xffffffff, 0x0, 0xffffffff⟩,
  ⟨0x38, 1, 0x0, 1, false, .ro, 0x0, 0xffffffff, 0x0, 0xffffffff⟩,
  ⟨0x3c, 1, 0x0, 1, false, .ro, 0x0, 0xffffffff, 0x0, 0xffffffff⟩,
  ⟨0x40, 1, 0x0, 1, true, .ro, 0x0, 0xffffffffffffffff, 0x0, 0xffffffffffffffff⟩,
  ⟨0x48, 1, 0x0, 1, false, .rc, 0x0, 0xffffffff, 0x0, 0xffffffff⟩,
  ⟨0x50, 1, 0x0, 1, true, .ro, 0x0, 0xffffffffffffffff, 0x0, 0xffffffffffffffff⟩,
  ⟨0x4000, 1, 0x0, 4096, false, .ro, 0x0, 0xffffffff, 0x0, 0xffffffff⟩,
  ⟨0x8000, 1, 0x0, 4096, false, .rw, 0x0, 0xffffffff, 0x0, 0xffffffff⟩,
  ⟨0xc000, 1, 0x0, 512, false, .ro, 0x0, 0xffffffff, 0x0, 0xffffffff⟩,
  ⟨0xc800, 1, 0x0, 512, false, .rw, 0x0, 0xffffffff, 0x0, 0xffffffff⟩]

/-- Rows of the register tables: STG_ID to ENTRY_DATA. -/
def stageRegs : List RegRow := [
  ⟨0x0, 1, 0x0, 1, false, .ro, 0x0, 0xffffffff, 0x0, 0xffffffff⟩,
  ⟨0x4, 1, 0x0, 1, false, .ro, 0x0, 0xffffffff, 0x0, 0xffffffff⟩,
  ⟨0x10, 1, 0x0, 1, true, .ro, 0x0, 0xffffffffffffffff, 0x0, 0xffffffffffffffff⟩,
  ⟨0x18, 1, 0x0, 1, true, .ro, 0x0, 0xffffffffffffffff, 0x0, 0xffffffffffffffff⟩,
  ⟨0x20, 1, 0x0, 1, true, .ro, 0x0, 0xffffffffffffffff, 0x0, 0xffffffffffffffff⟩,
  ⟨0x28, 1, 0x0, 1, true, .ro, 0x0, 0xffffffffffffffff, 0x0, 0xffffffffffffffff⟩,
  ⟨0x30, 1, 0x0, 1, false, .ro, 0x0, 0xffffffff, 0x0, 0xffffffff⟩,
  ⟨0x34, 1, 0x0, 1, false, .ro, 0x0, 0xffffffff, 0x0, 0xffffffff⟩,
  ⟨0x40, 1, 0x0, 1, false, .ro, 0x0, 0xffffffff, 0x0, 0xffffffff⟩,
  ⟨0x44, 1, 0x0, 1, false, .rw, 0x0, 0x8fff8fff, 0x0, 0xffffffff⟩,
  ⟨0x50, 1, 0x0, 1, false, .rw, 0x0, 0x1fffff, 0x0, 0x1fffff⟩,
  ⟨0x54, 1, 0x0, 1, false, .wo, 0x0, 0x7, 0x0, 0x7⟩,
  ⟨0x58, 1, 0x0, 1, false, .ro, 0x0, 0xffffffff, 0x0, 0xffffffff⟩,
  ⟨0x400, 1, 0x0, 32, false, .ro, 0x0, 0xffffffff, 0x0, 0xffffffff⟩,
  ⟨0x500, 1, 0x0, 32, false, .rw, 0x0, 0xffffffff, 0x0, 0xffffffff⟩,
  ⟨0x800, 1, 0x0, 256, false, .rw, 0x0, 0x1fffffff, 0x0, 0x1fffffff⟩,
  ⟨0x1000, 1, 0x0, 48, false, .rw, 0x0, 0xffffffff, 0x0, 0xffffffff⟩]

/-- Rows of the register tables: RULE_EPOCH to EGROUP. -/
def ruleRegs0 : List RegRow := [
  ⟨0x80000, 1, 0x0, 1, false, .ro, 0x0, 0xffffffff, 0x0, 0xffffffff⟩,
  ⟨0x80004, 1, 0x0, 1, false, .ro, 0x4, 0xffffffff, 0x0, 0xffffffff⟩,
  ⟨0x80008, 1, 0x0, 1, true, .ro, 0x0, 0xffffffffffffffff, 0x0, 0xffffffffffffffff⟩,
  ⟨0x80010, 1, 0x0, 1, false, .ro, 0x0, 0xffffffff, 0x0, 0xffffffff⟩,
  ⟨0x80014, 1, 0x0, 1, false, .ro, 0x0, 0xffffffff, 0x0, 0xffffffff⟩,
  ⟨0x80018, 1, 0x0, 1, false, .ro, 0x0, 0xffffffff, 0x0, 0xffffffff⟩,
  ⟨0x8001c, 1, 0x0, 1, false, .ro, 0x0, 0xffffffff, 0x0, 0xffffffff⟩,
  ⟨0x80020, 1, 0x0, 1, false, .rw, 0xa, 0xfff, 0x1, 0xe10⟩,
  ⟨0x80030, 1, 0x0, 1, false, .rw, 0x0, 0x3ff03ff, 0x0, 0xffffffff⟩,
  ⟨0x80034, 1, 0x0, 1, false, .rw, 0x0, 0x3ff03ff, 0x0, 0xffffffff⟩,
  ⟨0x80038, 1, 0x0, 1, false, .rw, 0x0, 0x3ff, 0x0, 0x3ff⟩,
  ⟨0x80040, 1, 0x0, 3, false, .ro, 0x0, 0xffffffff, 0x0, 0xffffffff⟩,
  ⟨0x80050, 1, 0x0, 1, false, .rw, 0x1e8480, 0xffffff, 0x0, 0x7a1200⟩,
  ⟨0x80054, 1, 0x0, 1, false, .rw, 0x100, 0xffff, 0x1, 0xffff⟩,
  ⟨0x80058, 1, 0x0, 1, true, .ro, 0x0, 0xffffffffffffffff, 0x0, 0xffffffffffffffff⟩,
  ⟨0x80060, 1, 0x0, 1, true, .ro, 0x0, 0xffffffffffffffff, 0x0, 0xffffffffffffffff⟩,
  ⟨0x80068, 1, 0x0, 1, false, .ro, 0x0, 0xffffffff, 0x0, 0xffffffff⟩,
  ⟨0x8006c, 1, 0x0, 1, false, .ro, 0x0, 0xffffffff, 0x0, 0xffffffff⟩,
  ⟨0x80070, 1, 0x0, 1, false, .rw, 0x20, 0x3ff, 0x1, 0x3e8⟩,
  ⟨0x80074, 1, 0x0, 1, false, .rw, 0x7d0, 0x1ffff, 0x64, 0x186a0⟩,
  ⟨0x80078, 1, 0x0, 1, false, .ro, 0x0, 0xffffffff, 0x0, 0xffffffff⟩,
  ⟨0x8007c, 1, 0x0, 1, false, .ro, 0x0, 0xffffffff, 0x0, 0xffffffff⟩,
  ⟨0x80080, 1, 0x0, 1, false, .ro, 0x0, 0xffffffff, 0x0, 0xffffffff⟩,
  ⟨0x80084, 1, 0x0, 1, false, .ro, 0x0, 0xffffffff, 0x0, 0xffffffff⟩,
  ⟨0x80088, 1, 0x0, 1, false, .ro, 0x0, 0xffffffff, 0x0, 0xffffffff⟩,
  ⟨0x8008c, 1, 0x0, 1, false, .ro, 0x0, 0xffffffff, 0x0, 0xffffffff⟩,
  ⟨0x80100, 1, 0x0, 64, false, .rw, 0x0, 0xffffff, 0x0, 0xffffff⟩,
  ⟨0x80200, 1, 0x0, 64, false, .rw, 0x0, 0xfffff07, 0x0, 0xffffffff⟩,
  ⟨0x80800, 1, 0x0, 256, true, .rw, 0x0, 0xffffffffffffffff, 0x0, 0xffffffffffffffff⟩,
  ⟨0x81000, 256, 0x80, 17, false, .rw, 0x0, 0xffffffff, 0x0, 0xffffffff⟩]

/-- Rows of the register tables: ENCAP to ENCAP. -/
def ruleRegs1 : List RegRow := [
  ⟨0x90000, 1024, 0x80, 32, false, .rw, 0x0, 0xffffffff, 0x0, 0xffffffff⟩]

/-- All rows of the block. -/
def ruleRegs : List RegRow := ruleRegs0 ++ ruleRegs1

/-- Rows of the register tables: SCAN_PERIOD to EVICTIONS. -/
def flowRegs : List RegRow := [
  ⟨0xc0000, 1, 0x0, 1, false, .rw, 0xa, 0x3ff, 0x1, 0x258⟩,
  ⟨0xc0004, 1, 0x0, 1, false, .rw, 0xc8, 0xfff, 0xa, 0x7d0⟩,
  ⟨0xc0008, 1, 0x0, 1, false, .ro, 0x0, 0xffffffff, 0x0, 0xffffffff⟩,
  ⟨0xc000c, 1, 0x0, 1, false, .rc, 0x0, 0xffffffff, 0x0, 0xffffffff⟩,
  ⟨0xc0010, 1, 0x0, 1, true, .ro, 0x0, 0xffffffffffffffff, 0x0, 0xffffffffffffffff⟩,
  ⟨0xc0018, 1, 0x0, 1, true, .ro, 0x0, 0xffffffffffffffff, 0x0, 0xffffffffffffffff⟩,
  ⟨0xc0020, 1, 0x0, 1, true, .ro, 0x0, 0xffffffffffffffff, 0x0, 0xffffffffffffffff⟩,
  ⟨0xc0028, 1, 0x0, 1, true, .ro, 0x0, 0xffffffffffffffff, 0x0, 0xffffffffffffffff⟩]

/-- Rows of the register tables: FLOW_TCTRL to FLOWS_LIVE. -/
def flowTenantRegs : List RegRow := [
  ⟨0xd0000, 256, 0x80, 1, false, .rw, 0x0, 0x7, 0x0, 0x7⟩,
  ⟨0xd0004, 256, 0x80, 1, false, .rw, 0x0, 0xfffff, 0x0, 0xfffff⟩,
  ⟨0xd0008, 256, 0x80, 1, false, .rw, 0x0, 0xfffff, 0x1, 0x80000⟩,
  ⟨0xd000c, 256, 0x80, 1, false, .rw, 0x0, 0xffff, 0x0, 0xffff⟩,
  ⟨0xd0010, 256, 0x80, 1, false, .rw, 0xffff, 0xffff, 0x1, 0xffff⟩,
  ⟨0xd0014, 256, 0x80, 1, false, .rw, 0x78, 0xfff, 0x1, 0xe10⟩,
  ⟨0xd0018, 256, 0x80, 1, false, .rw, 0x7d0, 0xffff, 0x1, 0xea60⟩,
  ⟨0xd001c, 256, 0x80, 1, false, .rw, 0x0, 0xfff, 0x0, 0xfff⟩,
  ⟨0xd0020, 256, 0x80, 1, true, .rw, 0x0, 0x7fffffffffff, 0x0, 0x7fffffffffff⟩,
  ⟨0xd0028, 256, 0x80, 1, false, .rw, 0x0, 0xffffff, 0x0, 0xffffff⟩,
  ⟨0xd0030, 256, 0x80, 1, true, .rw, 0x0, 0x7fffffffffff, 0x0, 0x7fffffffffff⟩,
  ⟨0xd0038, 256, 0x80, 1, false, .rw, 0x0, 0xffffff, 0x0, 0xffffff⟩,
  ⟨0xd003c, 256, 0x80, 1, false, .rw, 0x0, 0x103ff, 0x0, 0xffffffff⟩,
  ⟨0xd0040, 256, 0x80, 1, false, .rw, 0x0, 0xff03ff, 0x0, 0xffffffff⟩,
  ⟨0xd0044, 256, 0x80, 1, false, .rw, 0x0, 0x3ff, 0x0, 0x3ff⟩,
  ⟨0xd0048, 256, 0x80, 1, false, .ro, 0x0, 0xffffffff, 0x0, 0xffffffff⟩,
  ⟨0xd004c, 256, 0x80, 1, false, .ro, 0x0, 0xffffffff, 0x0, 0xffffffff⟩,
  ⟨0xd0050, 256, 0x80, 1, false, .ro, 0x0, 0xffffffff, 0x0, 0xffffffff⟩,
  ⟨0xd0054, 256, 0x80, 1, false, .ro, 0x0, 0xffffffff, 0x0, 0xffffffff⟩,
  ⟨0xd0058, 256, 0x80, 1, false, .ro, 0x0, 0xffffffff, 0x0, 0xffffffff⟩,
  ⟨0xd005c, 256, 0x80, 1, false, .ro, 0x0, 0xffffffff, 0x0, 0xffffffff⟩,
  ⟨0xd0060, 256, 0x80, 1, false, .ro, 0x0, 0xffffffff, 0x0, 0xffffffff⟩,
  ⟨0xd0064, 256, 0x80, 1, false, .ro, 0x0, 0xffffffff, 0x0, 0xffffffff⟩,
  ⟨0xd0068, 256, 0x80, 1, false, .ro, 0x0, 0xffffffff, 0x0, 0xffffffff⟩,
  ⟨0xd006c, 256, 0x80, 1, false, .ro, 0x0, 0xffffffff, 0x0, 0xffffffff⟩,
  ⟨0xd0070, 256, 0x80, 1, false, .ro, 0x0, 0xffffffff, 0x0, 0xffffffff⟩,
  ⟨0xd0074, 256, 0x80, 1, false, .ro, 0x0, 0xffffffff, 0x0, 0xffffffff⟩,
  ⟨0xd0078, 256, 0x80, 1, false, .ro, 0x0, 0x0, 0x0, 0xffffffff⟩,
  ⟨0xd007c, 256, 0x80, 1, false, .ro, 0x0, 0x0, 0x0, 0xffffffff⟩]

/-- Rows of the register tables: TM_ID to SH_BURST. -/
def tmRegs0 : List RegRow := [
  ⟨0x0, 1, 0x0, 1, false, .ro, 0x960, 0xffffffff, 0x0, 0xffffffff⟩,
  ⟨0x4, 1, 0x0, 1, false, .ro, 0x0, 0xffffffff, 0x0, 0xffffffff⟩,
  ⟨0x1000, 256, 0x10, 1, true, .rw, 0x0, 0xffffffffffffffff, 0x0, 0xffffffffffffffff⟩,
  ⟨0x1008, 256, 0x10, 1, false, .rw, 0x0, 0xffff, 0x0, 0xffff⟩,
  ⟨0x100c, 256, 0x10, 1, false, .ro, 0x0, 0xffffffff, 0x0, 0xffffffff⟩,
  ⟨0x2000, 64, 0x20, 1, false, .rw, 0x0, 0x7fffff, 0x0, 0x7fffff⟩,
  ⟨0x2004, 64, 0x20, 1, false, .rw, 0x1000, 0x1fff, 0x0, 0x1fff⟩,
  ⟨0x2008, 64, 0x20, 1, false, .rw, 0x0, 0xffff, 0x0, 0xffff⟩,
  ⟨0x200c, 64, 0x20, 1, false, .ro, 0x0, 0xffffffff, 0x0, 0xffffffff⟩,
  ⟨0x2010, 64, 0x20, 1, false, .ro, 0x0, 0xffffffff, 0x0, 0xffffffff⟩,
  ⟨0x3000, 16, 0x10, 1, false, .rw, 0x0, 0x1ffffff, 0x0, 0x1ffffff⟩,
  ⟨0x3004, 16, 0x10, 1, false, .rw, 0x0, 0x3fff, 0x0, 0x3fff⟩,
  ⟨0x3008, 16, 0x10, 1, false, .ro, 0x0, 0xffffffff, 0x0, 0xffffffff⟩,
  ⟨0x300c, 16, 0x10, 1, false, .ro, 0x0, 0xffffffff, 0x0, 0xffffffff⟩,
  ⟨0x10000, 1024, 0x40, 1, false, .rw, 0x0, 0x7ffff, 0x0, 0x7ffff⟩,
  ⟨0x10004, 1024, 0x40, 1, false, .rw, 0x600, 0x1fffff, 0x40, 0x100000⟩,
  ⟨0x10008, 1024, 0x40, 1, false, .rw, 0x0, 0xfffff, 0x0, 0xfffff⟩,
  ⟨0x1000c, 1024, 0x40, 1, false, .rw, 0x0, 0xfffff, 0x0, 0xfffff⟩,
  ⟨0x10010, 1024, 0x40, 1, false, .rw, 0x0, 0xfffff, 0x0, 0xfffff⟩,
  ⟨0x10014, 1024, 0x40, 1, false, .rw, 0x1000, 0x1fff, 0x0, 0x1fff⟩,
  ⟨0x10018, 1024, 0x40, 1, false, .ro, 0x0, 0xffffffff, 0x0, 0xffffffff⟩,
  ⟨0x1001c, 1024, 0x40, 1, false, .rc, 0x0, 0xffffffff, 0x0, 0xffffffff⟩,
  ⟨0x10020, 1024, 0x40, 1, false, .ro, 0x0, 0xffffffff, 0x0, 0xffffffff⟩,
  ⟨0x10024, 1024, 0x40, 1, false, .ro, 0x0, 0xffffffff, 0x0, 0xffffffff⟩,
  ⟨0x10028, 1024, 0x40, 1, true, .ro, 0x0, 0xffffffffffffffff, 0x0, 0xffffffffffffffff⟩,
  ⟨0x10030, 1024, 0x40, 1, true, .ro, 0x0, 0xffffffffffffffff, 0x0, 0xffffffffffffffff⟩,
  ⟨0x10038, 1024, 0x40, 1, false, .ro, 0x0, 0xffffffff, 0x0, 0xffffffff⟩,
  ⟨0x1003c, 1024, 0x40, 1, false, .ro, 0x0, 0xffffffff, 0x0, 0xffffffff⟩,
  ⟨0x20000, 4096, 0x20, 1, false, .ro, 0x0, 0xffffffff, 0x0, 0xffffffff⟩,
  ⟨0x20004, 4096, 0x20, 1, false, .ro, 0x0, 0xffffffff, 0x0, 0xffffffff⟩]

/-- Rows of the register tables: SH_RATE_NEXT to Q_HIST. -/
def tmRegs1 : List RegRow := [
  ⟨0x20008, 4096, 0x20, 1, false, .rw, 0x0, 0xffffffff, 0x0, 0xffffffff⟩,
  ⟨0x2000c, 4096, 0x20, 1, false, .rw, 0x0, 0xfffffff, 0x0, 0xfffffff⟩,
  ⟨0x20010, 4096, 0x20, 1, false, .wo, 0x0, 0x3, 0x0, 0x3⟩,
  ⟨0x20014, 4096, 0x20, 1, false, .rw, 0x14, 0x1ffff, 0x0, 0x1ffff⟩,
  ⟨0x20018, 4096, 0x20, 1, false, .ro, 0x0, 0xffffffff, 0x0, 0xffffffff⟩,
  ⟨0x2001c, 4096, 0x20, 1, false, .ro, 0x0, 0xffffffff, 0x0, 0xffffffff⟩,
  ⟨0x40000, 65536, 0x20, 1, false, .rw, 0x20, 0xffffff7f, 0x0, 0xffffffff⟩,
  ⟨0x40004, 65536, 0x20, 1, false, .rw, 0x0, 0xffffffff, 0x0, 0xffffffff⟩,
  ⟨0x40008, 65536, 0x20, 1, false, .rw, 0x0, 0xffffffff, 0x0, 0xffffffff⟩,
  ⟨0x4000c, 65536, 0x20, 1, false, .rw, 0x0, 0xfffffff, 0x0, 0xfffffff⟩,
  ⟨0x40010, 65536, 0x20, 1, false, .rw, 0x0, 0xfffffff, 0x0, 0xfffffff⟩,
  ⟨0x40014, 65536, 0x20, 1, false, .ro, 0x0, 0xffffffff, 0x0, 0xffffffff⟩,
  ⟨0x40018, 65536, 0x20, 1, false, .ro, 0x0, 0xffffffff, 0x0, 0xffffffff⟩,
  ⟨0x4001c, 65536, 0x20, 1, false, .ro, 0x0, 0xffffffff, 0x0, 0xffffffff⟩,
  ⟨0x400000, 65536, 0x20, 1, true, .ro, 0x0, 0xffffffffffffffff, 0x0, 0xffffffffffffffff⟩,
  ⟨0x400008, 65536, 0x20, 1, true, .ro, 0x0, 0xffffffffffffffff, 0x0, 0xffffffffffffffff⟩,
  ⟨0x400010, 65536, 0x20, 1, true, .ro, 0x0, 0xffffffffffffffff, 0x0, 0xffffffffffffffff⟩,
  ⟨0x400018, 65536, 0x20, 1, true, .ro, 0x0, 0xffffffffffffffff, 0x0, 0xffffffffffffffff⟩,
  ⟨0x600000, 1024, 0x40, 16, false, .ro, 0x0, 0xffffffff, 0x0, 0xffffffff⟩]

/-- All rows of the block. -/
def tmRegs : List RegRow := tmRegs0 ++ tmRegs1

/-- Rows of the register tables: FP_CTRL to CMD_DROPS. -/
def fabRegs : List RegRow := [
  ⟨0x0, 1, 0x0, 1, false, .rw, 0x0, 0xff07, 0x0, 0xffffffff⟩,
  ⟨0x4, 1, 0x0, 1, false, .ro, 0x0, 0xffffffff, 0x0, 0xffffffff⟩,
  ⟨0x8, 1, 0x0, 1, false, .ro, 0x0, 0xffffffff, 0x0, 0xffffffff⟩,
  ⟨0xc, 1, 0x0, 1, false, .rw, 0x8, 0xff, 0x1, 0xff⟩,
  ⟨0x10, 1, 0x0, 1, false, .rw, 0x40, 0xffff, 0x0, 0xffff⟩,
  ⟨0x14, 1, 0x0, 1, false, .rw, 0x40101010, 0xffffffff, 0x0, 0xffffffff⟩,
  ⟨0x20, 1, 0x0, 1, true, .ro, 0x0, 0xffffffffffffffff, 0x0, 0xffffffffffffffff⟩,
  ⟨0x28, 1, 0x0, 1, true, .ro, 0x0, 0xffffffffffffffff, 0x0, 0xffffffffffffffff⟩,
  ⟨0x30, 1, 0x0, 1, true, .ro, 0x0, 0xffffffffffffffff, 0x0, 0xffffffffffffffff⟩,
  ⟨0x38, 1, 0x0, 1, true, .ro, 0x0, 0xffffffffffffffff, 0x0, 0xffffffffffffffff⟩,
  ⟨0x40, 1, 0x0, 1, false, .ro, 0x0, 0xffffffff, 0x0, 0xffffffff⟩,
  ⟨0x44, 1, 0x0, 1, false, .ro, 0x0, 0xffffffff, 0x0, 0xffffffff⟩,
  ⟨0x48, 1, 0x0, 1, false, .ro, 0x0, 0xffffffff, 0x0, 0xffffffff⟩,
  ⟨0x4c, 1, 0x0, 1, false, .ro, 0x0, 0xffffffff, 0x0, 0xffffffff⟩]

/-- Rows of the register tables: DEVICE_NUMBER to GROUP_ROUTE. -/
def groupRegs : List RegRow := [
  ⟨0x8000, 1, 0x0, 1, false, .ro, 0x0, 0xffffffff, 0x0, 0xffffffff⟩,
  ⟨0x8004, 1, 0x0, 1, false, .ro, 0x0, 0xffffffff, 0x0, 0xffffffff⟩,
  ⟨0x8008, 1, 0x0, 1, false, .ro, 0x0, 0xffffffff, 0x0, 0xffffffff⟩,
  ⟨0x800c, 1, 0x0, 1, false, .ro, 0x0, 0xffffffff, 0x0, 0xffffffff⟩,
  ⟨0x8010, 1, 0x0, 1, false, .rw, 0x3e8, 0x1ffff, 0x64, 0x186a0⟩,
  ⟨0x8014, 1, 0x0, 1, false, .rw, 0x64, 0x3fff, 0xa, 0x2710⟩,
  ⟨0x8100, 1, 0x0, 64, false, .ro, 0x3f, 0xffffffff, 0x0, 0xffffffff⟩,
  ⟨0x8200, 1, 0x0, 128, true, .ro, 0x7f, 0xffffffffffffffff, 0x0, 0xffffffffffffffff⟩]

/-- Rows of the register tables: APERTURE_BASE to EVQ_LOST. -/
def bridgeRegs : List RegRow := [
  ⟨0x8000, 1, 0x0, 16, true, .rw, 0x0, 0xffffffffffffffff, 0x0, 0xffffffffffffffff⟩,
  ⟨0x8080, 1, 0x0, 16, false, .rw, 0x0, 0xff01, 0x0, 0xffffffff⟩,
  ⟨0x80c0, 1, 0x0, 1, false, .ro, 0x0, 0xffffffff, 0x0, 0xffffffff⟩,
  ⟨0x80c4, 1, 0x0, 1, false, .ro, 0x0, 0xffffffff, 0x0, 0xffffffff⟩]

/-- Rows of the register tables: HBM_ID to LAST_UNCORR. -/
def hbmRegs : List RegRow := [
  ⟨0x0, 1, 0x0, 1, false, .ro, 0x0, 0xffffffff, 0x0, 0xffffffff⟩,
  ⟨0x4, 1, 0x0, 1, false, .ro, 0x0, 0xffffffff, 0x0, 0xffffffff⟩,
  ⟨0x8, 1, 0x0, 1, false, .ro, 0x0, 0xffffffff, 0x0, 0xffffffff⟩,
  ⟨0xc, 1, 0x0, 1, false, .ro, 0x668, 0xffffffff, 0x0, 0xffffffff⟩,
  ⟨0x10, 1, 0x0, 1, true, .ro, 0x0, 0xffffffffffffffff, 0x0, 0xffffffffffffffff⟩,
  ⟨0x18, 1, 0x0, 1, true, .ro, 0x0, 0xffffffffffffffff, 0x0, 0xffffffffffffffff⟩,
  ⟨0x20, 1, 0x0, 1, false, .ro, 0x0, 0xffffffff, 0x0, 0xffffffff⟩,
  ⟨0x24, 1, 0x0, 1, false, .ro, 0x0, 0xffffffff, 0x0, 0xffffffff⟩,
  ⟨0x28, 1, 0x0, 1, false, .ro, 0x0, 0xffffffff, 0x0, 0xffffffff⟩,
  ⟨0x30, 1, 0x0, 1, true, .ro, 0x0, 0xffffffffffffffff, 0x0, 0xffffffffffffffff⟩]

/-- Rows of the register tables: CL_ID to PRIMER_STATUS. -/
def clusterRegs : List RegRow := [
  ⟨0x0, 1, 0x0, 1, false, .ro, 0x0, 0xffffffff, 0x0, 0xffffffff⟩,
  ⟨0x4, 1, 0x0, 1, false, .ro, 0x0, 0xffffffff, 0x0, 0xffffffff⟩,
  ⟨0x8, 1, 0x0, 1, false, .ro, 0x0, 0xffffffff, 0x0, 0xffffffff⟩,
  ⟨0xc, 1, 0x0, 1, false, .ro, 0x0, 0xffffffff, 0x0, 0xffffffff⟩,
  ⟨0x10, 1, 0x0, 1, false, .ro, 0x0, 0xffffffff, 0x0, 0xffffffff⟩,
  ⟨0x18, 1, 0x0, 1, true, .ro, 0x0, 0xffffffffffffffff, 0x0, 0xffffffffffffffff⟩,
  ⟨0x20, 1, 0x0, 1, true, .ro, 0x0, 0xffffffffffffffff, 0x0, 0xffffffffffffffff⟩,
  ⟨0x28, 1, 0x0, 1, true, .ro, 0x0, 0xffffffffffffffff, 0x0, 0xffffffffffffffff⟩,
  ⟨0x30, 1, 0x0, 1, false, .ro, 0x0, 0xffffffff, 0x0, 0xffffffff⟩,
  ⟨0x40, 1, 0x0, 1, true, .ro, 0x0, 0xffffffffffffffff, 0x0, 0xffffffffffffffff⟩,
  ⟨0x48, 1, 0x0, 1, true, .ro, 0x0, 0xffffffffffffffff, 0x0, 0xffffffffffffffff⟩,
  ⟨0x50, 1, 0x0, 1, true, .ro, 0x0, 0xffffffffffffffff, 0x0, 0xffffffffffffffff⟩,
  ⟨0x58, 1, 0x0, 1, false, .ro, 0x0, 0xffffffff, 0x0, 0xffffffff⟩,
  ⟨0x60, 1, 0x0, 1, true, .ro, 0x0, 0xffffffffffffffff, 0x0, 0xffffffffffffffff⟩,
  ⟨0x68, 1, 0x0, 1, false, .ro, 0x0, 0xffffffff, 0x0, 0xffffffff⟩]

/-- Rows of the register tables: CELL_ID to PATH_MISMATCH. -/
def cellRegs : List RegRow := [
  ⟨0x0, 1, 0x0, 1, false, .ro, 0x0, 0xffffffff, 0x0, 0xffffffff⟩,
  ⟨0x4, 1, 0x0, 1, false, .ro, 0x0, 0xffffffff, 0x0, 0xffffffff⟩,
  ⟨0x10, 1, 0x0, 1, true, .ro, 0x0, 0xffffffffffffffff, 0x0, 0xffffffffffffffff⟩,
  ⟨0x18, 1, 0x0, 1, true, .ro, 0x0, 0xffffffffffffffff, 0x0, 0xffffffffffffffff⟩,
  ⟨0x20, 1, 0x0, 1, true, .ro, 0x0, 0xffffffffffffffff, 0x0, 0xffffffffffffffff⟩,
  ⟨0x28, 1, 0x0, 1, false, .ro, 0x0, 0xffffffff, 0x0, 0xffffffff⟩,
  ⟨0x2c, 1, 0x0, 1, false, .ro, 0x0, 0xffffffff, 0x0, 0xffffffff⟩,
  ⟨0x30, 1, 0x0, 1, false, .ro, 0x0, 0xffffffff, 0x0, 0xffffffff⟩,
  ⟨0x34, 1, 0x0, 1, false, .ro, 0x0, 0xffffffff, 0x0, 0xffffffff⟩,
  ⟨0x38, 1, 0x0, 1, false, .ro, 0x0, 0xffffffff, 0x0, 0xffffffff⟩,
  ⟨0x40, 1, 0x0, 16, false, .ro, 0x0, 0xffffffff, 0x0, 0xffffffff⟩,
  ⟨0x100, 1, 0x0, 1, true, .ro, 0x0, 0xffffffffffffffff, 0x0, 0xffffffffffffffff⟩,
  ⟨0x108, 1, 0x0, 1, true, .ro, 0x0, 0xffffffffffffffff, 0x0, 0xffffffffffffffff⟩,
  ⟨0x110, 1, 0x0, 1, true, .ro, 0x0, 0xffffffffffffffff, 0x0, 0xffffffffffffffff⟩,
  ⟨0x118, 1, 0x0, 1, true, .ro, 0x0, 0xffffffffffffffff, 0x0, 0xffffffffffffffff⟩,
  ⟨0x120, 1, 0x0, 1, false, .ro, 0x0, 0xffffffff, 0x0, 0xffffffff⟩,
  ⟨0x124, 1, 0x0, 1, false, .ro, 0x0, 0xffffffff, 0x0, 0xffffffff⟩,
  ⟨0x128, 1, 0x0, 1, false, .ro, 0x0, 0xffffffff, 0x0, 0xffffffff⟩,
  ⟨0x200, 1, 0x0, 1, false, .rw, 0x0, 0x3ffff, 0x0, 0x3ffff⟩,
  ⟨0x204, 1, 0x0, 1, false, .wo, 0x0, 0x1, 0x0, 0x1⟩,
  ⟨0x208, 1, 0x0, 1, false, .ro, 0x0, 0xffffffff, 0x0, 0xffffffff⟩,
  ⟨0x220, 1, 0x0, 8, false, .ro, 0x0, 0xffffffff, 0x0, 0xffffffff⟩,
  ⟨0x400, 1, 0x0, 1, false, .ro, 0x0, 0xffffffff, 0x0, 0xffffffff⟩,
  ⟨0x408, 1, 0x0, 1, true, .ro, 0x0, 0xffffffffffffffff, 0x0, 0xffffffffffffffff⟩,
  ⟨0x410, 1, 0x0, 1, true, .ro, 0x0, 0xffffffffffffffff, 0x0, 0xffffffffffffffff⟩,
  ⟨0x418, 1, 0x0, 1, false, .ro, 0x0, 0xffffffff, 0x0, 0xffffffff⟩,
  ⟨0x41c, 1, 0x0, 1, false, .ro, 0x0, 0xffffffff, 0x0, 0xffffffff⟩,
  ⟨0x420, 1, 0x0, 1, false, .ro, 0x0, 0xffffffff, 0x0, 0xffffffff⟩,
  ⟨0x424, 1, 0x0, 1, false, .ro, 0x0, 0xffffffff, 0x0, 0xffffffff⟩,
  ⟨0x428, 1, 0x0, 54, false, .ro, 0x0, 0x0, 0x0, 0xffffffff⟩]

/-- The blocks in address order (R360). -/
def blocks : List Block := [
  ⟨.identity, 0x0, 1, 0x10000, idRegs⟩,
  ⟨.beat, 0x10000, 1, 0x10000, beatRegs⟩,
  ⟨.power, 0x20000, 1, 0x10000, powerRegs⟩,
  ⟨.integrity, 0x30000, 1, 0x10000, integRegs⟩,
  ⟨.observe, 0x40000, 1, 0x10000, obsRegs⟩,
  ⟨.security, 0x50000, 1, 0x10000, secRegs⟩,
  ⟨.port, 0x100000, 16, 0x10000, portRegs⟩,
  ⟨.fifo, 0x200000, 4096, 0x100, fifoRegs⟩,
  ⟨.headerCore, 0x300000, 16, 0x10000, hcRegs⟩,
  ⟨.stage, 0x400000, 12, 0x100000, stageRegs⟩,
  ⟨.rule, 0x400000, 1, 0x100000, ruleRegs⟩,
  ⟨.flow, 0x400000, 1, 0x100000, flowRegs⟩,
  ⟨.flowTenant, 0x400000, 1, 0x100000, flowTenantRegs⟩,
  ⟨.tm, 0x1000000, 1, 0x610000, tmRegs⟩,
  ⟨.fabric, 0x2000000, 24, 0x10000, fabRegs⟩,
  ⟨.group, 0x2000000, 1, 0x10000, groupRegs⟩,
  ⟨.bridge, 0x2160000, 1, 0x10000, bridgeRegs⟩,
  ⟨.hbm, 0x3000000, 16, 0x10000, hbmRegs⟩,
  ⟨.cluster, 0x8000000, 16, 0x10000, clusterRegs⟩,
  ⟨.cell, 0x10000000, 256, 0x100000, cellRegs⟩]

/-- Where an address falls: its block and instance, the row, the item and word within it, whether it is the `_HI` word of
a pair, and the address its value is kept under. -/
structure Loc where
  block : BlockId
  inst : Nat
  row : RegRow
  k : Nat
  j : Nat
  hiHalf : Bool
  key : Nat
deriving DecidableEq, Repr

/-- The width in bytes of one value of a row. -/
def RegRow.width (r : RegRow) : Nat := if r.pair then 8 else 4

/-- The place of offset `o` in row `r`, if `r` has one. -/
def RegRow.place (r : RegRow) (o : Nat) : Option (Nat × Nat × Bool) :=
  if o < r.off then none else
  let d := o - r.off
  let k := if r.step = 0 then 0 else d / r.step
  let e := d - k * r.step
  if k < r.n && e < r.m * r.width then some (k, e / r.width, r.pair && (e % 8 == 4)) else none

/-- The first row of a list that holds offset `o`. -/
def placeIn (o : Nat) : List RegRow → Option (RegRow × Nat × Nat × Bool)
  | [] => none
  | r :: rs =>
    match r.place o with
    | some p => some (r, p)
    | none => placeIn o rs

/-- The register at address `a`, searching the blocks in order. -/
def locateIn (a : Nat) : List Block → Option Loc
  | [] => none
  | b :: bs =>
    if b.base ≤ a ∧ a < b.base + b.inst * b.stride then
      let i := (a - b.base) / b.stride
      match placeIn ((a - b.base) % b.stride) b.rows with
      | some (r, k, j, h) => some ⟨b.id, i, r, k, j, h, if h then a - 4 else a⟩
      | none => locateIn a bs
    else locateIn a bs

/-- The register at address `a` (R360). -/
def locate (a : Nat) : Option Loc := locateIn a blocks

/-- The block an address lies in, register or not. -/
def blockIn (a : Nat) : List Block → Option (BlockId × Nat)
  | [] => none
  | b :: bs => if b.base ≤ a ∧ a < b.base + b.inst * b.stride then some (b.id, (a - b.base) / b.stride) else blockIn a bs

/-- The kind of packet FIFO `f` (R75), none for a reserved index. -/
def fifoKind (f : Nat) : Option Nat :=
  if f < 0x40 then some 0 else if f < 0x80 then some 1 else if f < 0x880 then some 2 else if f < 0x8E0 then some 3
  else if f < 0x8E3 then some 4 else if 0x8F0 ≤ f ∧ f < 0x900 then some 5 else none

/-- The capacity of a packet FIFO in units of 256 words (R75), 0 for FIFOs held in packet-buffer pages. -/
def fifoUnits (f : Nat) : Nat :=
  match fifoKind f with
  | some 2 => 1
  | some 3 => 64
  | some 4 => 16
  | some 5 => 1
  | _ => 0

/-- Reset values that the tables give "per instance": the identity registers, and FIFO_CTRL of kinds 1 to 5. -/
def instanceReset (l : Loc) : Option Nat :=
  let i := l.inst
  match l.block with
  | .fifo =>
    match fifoKind i with
    | none => some 0
    | some kd =>
      if l.row.off = 0 then some (i + kd * 0x1000 + fifoUnits i * 0x10000)
      else if l.row.off = 0x10 then some (if kd = 0 then 0 else 1) else none
  | .headerCore => if l.row.off = 0 then some (i + 128 * 16) else none
  | .stage => if l.row.off = 0 then some i else none
  | .cell => if l.row.off = 0 then some (i + i / 64 * 0x100 + i / 16 % 4 * 0x400 + i % 16 * 0x1000 + i / 16 * 0x10000) else none
  | .cluster => if l.row.off = 0 then some (i + i / 4 * 0x10 + i % 4 * 0x40 + 16 * i * 0x100) else none
  | .hbm => if l.row.off = 0 then some (i + i / 4 * 0x10 + 48 * 0x100) else none
  | .identity => if l.row.off = 0 then some 0x960 else none
  | _ => none

/-- The reset value of the register kept at address `a` (R9 and the tables). -/
def regReset (a : Nat) : Nat :=
  match locate a with
  | none => 0
  | some l => (instanceReset l).getD l.row.reset

namespace Addr
/-- DEVICE_ID. -/
def DEVICE_ID : Nat := 0x0
/-- CAPS. -/
def CAPS : Nat := 0x4
/-- SERIAL_LO, _HI. -/
def SERIAL : Nat := 0x8
/-- FW_VERSION. -/
def FW_VERSION : Nat := 0x10
/-- BOOTROM_VERSION. -/
def BOOTROM_VERSION : Nat := 0x14
/-- FW_STATE. -/
def FW_STATE : Nat := 0x18
/-- BOARD_ID. -/
def BOARD_ID : Nat := 0x1c
/-- MGMT_MAC_LO, _HI. -/
def MGMT_MAC : Nat := 0x20
/-- LAST_RESET. -/
def LAST_RESET : Nat := 0x28
/-- GLOBAL_CTRL. -/
def GLOBAL_CTRL : Nat := 0x30
/-- SCRATCH. -/
def SCRATCH : Nat := 0x34
/-- SESSION_MAX. -/
def SESSION_MAX : Nat := 0x38
/-- SESSION_IDLE. -/
def SESSION_IDLE : Nat := 0x3c
/-- SESSION_STATUS. -/
def SESSION_STATUS : Nat := 0x40
/-- EVENT_SINK. -/
def EVENT_SINK : Nat := 0x44
/-- EXC_SNAP. -/
def EXC_SNAP : Nat := 0x48
/-- CMD_EXECUTED_LO, _HI. -/
def CMD_EXECUTED : Nat := 0x50
/-- CMD_REPLAYED. -/
def CMD_REPLAYED : Nat := 0x58
/-- WINDOW_DROPS. -/
def WINDOW_DROPS : Nat := 0x5c
/-- AUTH_DROPS. -/
def AUTH_DROPS : Nat := 0x60
/-- MALFORMED_DROPS. -/
def MALFORMED_DROPS : Nat := 0x64
/-- FWD_DROPS. -/
def FWD_DROPS : Nat := 0x68
/-- EVENTS_SENT_LO, _HI. -/
def EVENTS_SENT : Nat := 0x70
/-- EVENTS_LOST. -/
def EVENTS_LOST : Nat := 0x78
/-- DLINK_INLINE_RESV. -/
def DLINK_INLINE_RESV (k : Nat) : Nat := 0x80 + k * 0x8
/-- DLINK_BULK_AVAIL. -/
def DLINK_BULK_AVAIL (k : Nat) : Nat := 0x84 + k * 0x8
/-- BEAT_CTRL. -/
def BEAT_CTRL : Nat := 0x10000
/-- BEAT_RATE_TARGET. -/
def BEAT_RATE_TARGET : Nat := 0x10004
/-- BEAT_RATE_NOW. -/
def BEAT_RATE_NOW : Nat := 0x10008
/-- BEAT_STATUS. -/
def BEAT_STATUS : Nat := 0x1000c
/-- ZC_ROOT_LO, _HI. -/
def ZC_ROOT : Nat := 0x10010
/-- ZC_LAG. -/
def ZC_LAG : Nat := 0x10018
/-- STRETCH_COUNT_LO, _HI. -/
def STRETCH_COUNT : Nat := 0x10020
/-- BELOW_FLOOR_COUNT. -/
def BELOW_FLOOR_COUNT : Nat := 0x10028
/-- REBASE_COUNT. -/
def REBASE_COUNT : Nat := 0x1002c
/-- SPOKE_TIMEOUT. -/
def SPOKE_TIMEOUT : Nat := 0x10030
/-- SPOKE_DETACHED. -/
def SPOKE_DETACHED : Nat := 0x10034
/-- SPOKE_REATTACH. -/
def SPOKE_REATTACH : Nat := 0x10038
/-- HALT_AT_LO, _HI. -/
def HALT_AT : Nat := 0x10040
/-- HALT_MASK. -/
def HALT_MASK : Nat := 0x10048
/-- HALTED. -/
def HALTED : Nat := 0x1004c
/-- RESUME_AT_LO, _HI. -/
def RESUME_AT : Nat := 0x10050
/-- RESUME_MASK. -/
def RESUME_MASK : Nat := 0x10058
/-- GUST_CTRL. -/
def GUST_CTRL : Nat := 0x10060
/-- GROUP_ALIGN. -/
def GROUP_ALIGN : Nat := 0x10070
/-- GROUP_REF_PORT. -/
def GROUP_REF_PORT : Nat := 0x10074
/-- LAG_LIMIT. -/
def LAG_LIMIT : Nat := 0x10078
/-- RESUME_MARGIN. -/
def RESUME_MARGIN : Nat := 0x1007c
/-- TIME_CTRL. -/
def TIME_CTRL : Nat := 0x10080
/-- TIME_SEC_LO, _HI. -/
def TIME_SEC : Nat := 0x10084
/-- TIME_NS. -/
def TIME_NS : Nat := 0x1008c
/-- TIME_FREQ_ADJ. -/
def TIME_FREQ_ADJ : Nat := 0x10090
/-- TIME_STEP_NS. -/
def TIME_STEP_NS : Nat := 0x10094
/-- UTC_OFFSET. -/
def UTC_OFFSET : Nat := 0x10098
/-- SNAP. -/
def SNAP : Nat := 0x100a0
/-- SNAP_ZC_LO, _HI. -/
def SNAP_ZC : Nat := 0x100a4
/-- SNAP_SEC_LO, _HI. -/
def SNAP_SEC : Nat := 0x100ac
/-- SNAP_NS. -/
def SNAP_NS : Nat := 0x100b4
/-- CAP. -/
def CAP : Nat := 0x20000
/-- CAP_WINDOW. -/
def CAP_WINDOW : Nat := 0x20004
/-- CAP_PRIORITY. -/
def CAP_PRIORITY : Nat := 0x20008
/-- PWR_STATUS. -/
def PWR_STATUS : Nat := 0x2000c
/-- P_IN_MEAS. -/
def P_IN_MEAS : Nat := 0x20010
/-- P_EST. -/
def P_EST : Nat := 0x20014
/-- P_AVG. -/
def P_AVG : Nat := 0x20018
/-- FLOOR_EST. -/
def FLOOR_EST : Nat := 0x2001c
/-- CAP_EFFECTIVE. -/
def CAP_EFFECTIVE : Nat := 0x20020
/-- THERMAL_CAP. -/
def THERMAL_CAP : Nat := 0x20024
/-- VIN. -/
def VIN : Nat := 0x20028
/-- IIN. -/
def IIN : Nat := 0x2002c
/-- CALM_BULK. -/
def CALM_BULK : Nat := 0x20030
/-- CALM_COPY. -/
def CALM_COPY : Nat := 0x20034
/-- CALM_FABRIC. -/
def CALM_FABRIC : Nat := 0x20038
/-- CALM_INLINE. -/
def CALM_INLINE : Nat := 0x2003c
/-- CALM_NEED. -/
def CALM_NEED : Nat := 0x20040
/-- CALM_HYST. -/
def CALM_HYST : Nat := 0x20044
/-- EST_GAIN. -/
def EST_GAIN : Nat := 0x20048
/-- EST_ERR. -/
def EST_ERR : Nat := 0x2004c
/-- ENERGY_LO, _HI. -/
def ENERGY : Nat := 0x20050
/-- TJ_MAX. -/
def TJ_MAX : Nat := 0x20058
/-- HBM_TMAX. -/
def HBM_TMAX : Nat := 0x2005c
/-- TJ_LIMIT. -/
def TJ_LIMIT : Nat := 0x20060
/-- TJ_ALERT. -/
def TJ_ALERT : Nat := 0x20064
/-- UNREACHABLE_COUNT. -/
def UNREACHABLE_COUNT : Nat := 0x20068
/-- SUSPEND_COUNT. -/
def SUSPEND_COUNT : Nat := 0x2006c
/-- SHED_COUNT_LO, _HI. -/
def SHED_COUNT : Nat := 0x20070
/-- SHED_BYPASS. -/
def SHED_BYPASS (j : Nat) : Nat := 0x20080 + j * 4
/-- CL_ACK_MARGIN. -/
def CL_ACK_MARGIN (j : Nat) : Nat := 0x20100 + j * 4
/-- CL_POWER. -/
def CL_POWER (j : Nat) : Nat := 0x20140 + j * 4
/-- INT_CTRL. -/
def INT_CTRL : Nat := 0x30000
/-- TRANSIENT_LIMIT. -/
def TRANSIENT_LIMIT : Nat := 0x30004
/-- TRANSIENT_WINDOW. -/
def TRANSIENT_WINDOW : Nat := 0x30008
/-- CELL_ACK_TIMEOUT. -/
def CELL_ACK_TIMEOUT : Nat := 0x3000c
/-- RESTART_LIMIT. -/
def RESTART_LIMIT : Nat := 0x30010
/-- SCRUB_PERIOD. -/
def SCRUB_PERIOD : Nat := 0x30014
/-- SCRUB_PASSES. -/
def SCRUB_PASSES : Nat := 0x30018
/-- TEST_INTERVAL. -/
def TEST_INTERVAL : Nat := 0x3001c
/-- TEST_MAX_AGE. -/
def TEST_MAX_AGE : Nat := 0x30020
/-- TEST_CTRL. -/
def TEST_CTRL : Nat := 0x30024
/-- TEST_STATUS. -/
def TEST_STATUS : Nat := 0x30028
/-- PACK_ID_LO, _HI. -/
def PACK_ID : Nat := 0x3002c
/-- FENCED. -/
def FENCED (j : Nat) : Nat := 0x30040 + j * 4
/-- STALE. -/
def STALE (j : Nat) : Nat := 0x30060 + j * 4
/-- INT_RESIDUE_FLAGS_LO, _HI. -/
def INT_RESIDUE_FLAGS : Nat := 0x30100
/-- PATH_MISMATCHES. -/
def PATH_MISMATCHES : Nat := 0x30108
/-- RECOATS. -/
def RECOATS : Nat := 0x3010c
/-- TRANSIENTS. -/
def TRANSIENTS : Nat := 0x30110
/-- PERMANENTS. -/
def PERMANENTS : Nat := 0x30114
/-- DISAGREE. -/
def DISAGREE : Nat := 0x30118
/-- SILENT_MISMATCH. -/
def SILENT_MISMATCH : Nat := 0x3011c
/-- RECOAT_MISSED. -/
def RECOAT_MISSED : Nat := 0x30120
/-- RECOAT_SKIPPED. -/
def RECOAT_SKIPPED : Nat := 0x30124
/-- FENCES. -/
def FENCES : Nat := 0x30128
/-- RESTARTS. -/
def RESTARTS : Nat := 0x3012c
/-- RULE_ENTRY_LOST. -/
def RULE_ENTRY_LOST : Nat := 0x30130
/-- TEST_PASSES. -/
def TEST_PASSES : Nat := 0x30134
/-- TEST_FAILS. -/
def TEST_FAILS : Nat := 0x30138
/-- SIGNATURES. -/
def SIGNATURES : Nat := 0x3013c
/-- FREEZE_STATUS. -/
def FREEZE_STATUS : Nat := 0x40000
/-- FREEZE_ID. -/
def FREEZE_ID : Nat := 0x40004
/-- FREEZE_ZC_LO, _HI. -/
def FREEZE_ZC : Nat := 0x40008
/-- FREEZE_SEC_LO, _HI. -/
def FREEZE_SEC : Nat := 0x40010
/-- FREEZE_NS. -/
def FREEZE_NS : Nat := 0x40018
/-- TRACE_CTRL. -/
def TRACE_CTRL : Nat := 0x40020
/-- TRACE_SP. -/
def TRACE_SP : Nat := 0x40024
/-- FAB_SAMPLE. -/
def FAB_SAMPLE : Nat := 0x40028
/-- POST_COUNT. -/
def POST_COUNT : Nat := 0x4002c
/-- TRACE_BASE_LO, _HI. -/
def TRACE_BASE : Nat := 0x40030
/-- TRACE_LEN. -/
def TRACE_LEN : Nat := 0x40038
/-- RING_WRITTEN. -/
def RING_WRITTEN (j : Nat) : Nat := 0x40040 + j * 4
/-- LOST. -/
def LOST (j : Nat) : Nat := 0x40050 + j * 4
/-- TRIG_ZC_LO, _HI. -/
def TRIG_ZC : Nat := 0x40060
/-- TRIG_CAUSE. -/
def TRIG_CAUSE : Nat := 0x40068
/-- HANG_TIMEOUT. -/
def HANG_TIMEOUT : Nat := 0x40070
/-- HANG_SUSPECTS. -/
def HANG_SUSPECTS : Nat := 0x40074
/-- SWATCHES_ARMED. -/
def SWATCHES_ARMED : Nat := 0x40078
/-- DUMPS_FIRED. -/
def DUMPS_FIRED : Nat := 0x4007c
/-- SEC_STATUS. -/
def SEC_STATUS : Nat := 0x50000
/-- BOOT_COUNT. -/
def BOOT_COUNT : Nat := 0x50004
/-- FUSE_SVN. -/
def FUSE_SVN : Nat := 0x50008
/-- IMAGE_SVN. -/
def IMAGE_SVN : Nat := 0x5000c
/-- JTAG_CTRL. -/
def JTAG_CTRL : Nat := 0x50010
/-- SELFTEST_PERIOD. -/
def SELFTEST_PERIOD : Nat := 0x50014
/-- SEC_ERR_CAUSE. -/
def SEC_ERR_CAUSE : Nat := 0x50018
/-- HANDSHAKES. -/
def HANDSHAKES : Nat := 0x5001c
/-- LOCKOUTS. -/
def LOCKOUTS : Nat := 0x50020
/-- MEAS. -/
def MEAS (j : Nat) : Nat := 0x50100 + j * 4
/-- TENANT_EXISTS. -/
def TENANT_EXISTS (j : Nat) : Nat := 0x50200 + j * 4
/-- T_STATE. -/
def T_STATE (k : Nat) : Nat := 0x51000 + k * 0x10
/-- EXACT_QUOTA. -/
def EXACT_QUOTA (k : Nat) : Nat := 0x51004 + k * 0x10
/-- SESSION_QUOTA. -/
def SESSION_QUOTA (k : Nat) : Nat := 0x51008 + k * 0x10
/-- T_AUTH_FAILS. -/
def T_AUTH_FAILS (k : Nat) : Nat := 0x5100c + k * 0x10
/-- PORT_CTRL. -/
def PORT_CTRL (i : Nat) : Nat := 0x100000 + i * 0x10000
/-- PORT_STATUS. -/
def PORT_STATUS (i : Nat) : Nat := 0x100004 + i * 0x10000
/-- LANE_POLARITY. -/
def LANE_POLARITY (i : Nat) : Nat := 0x100008 + i * 0x10000
/-- PTP_LATENCY_ADJ. -/
def PTP_LATENCY_ADJ (i : Nat) : Nat := 0x10000c + i * 0x10000
/-- HI_SER_THRESH. -/
def HI_SER_THRESH (i : Nat) : Nat := 0x100010 + i * 0x10000
/-- FEC_CORR_CW_LO, _HI. -/
def FEC_CORR_CW (i : Nat) : Nat := 0x100020 + i * 0x10000
/-- FEC_UNCORR_CW_LO, _HI. -/
def FEC_UNCORR_CW (i : Nat) : Nat := 0x100028 + i * 0x10000
/-- FEC_SYMBOL_ERR. -/
def FEC_SYMBOL_ERR (i j : Nat) : Nat := 0x100030 + i * 0x10000 + j * 4
/-- TS_LOST. -/
def TS_LOST (i : Nat) : Nat := 0x100050 + i * 0x10000
/-- SUB_CTRL. -/
def SUB_CTRL (i k : Nat) : Nat := 0x101000 + i * 0x10000 + k * 0x400
/-- MAX_FRAME. -/
def MAX_FRAME (i k : Nat) : Nat := 0x101004 + i * 0x10000 + k * 0x400
/-- INTAKE_TENANT. -/
def INTAKE_TENANT (i k : Nat) : Nat := 0x101008 + i * 0x10000 + k * 0x400
/-- RESERVED_PAGES. -/
def RESERVED_PAGES (i k : Nat) : Nat := 0x101010 + i * 0x10000 + k * 0x400
/-- SHARED_LIMIT. -/
def SHARED_LIMIT (i k : Nat) : Nat := 0x101014 + i * 0x10000 + k * 0x400
/-- XOFF_THRESH. -/
def XOFF_THRESH (i k : Nat) : Nat := 0x101018 + i * 0x10000 + k * 0x400
/-- XON_THRESH. -/
def XON_THRESH (i k : Nat) : Nat := 0x10101c + i * 0x10000 + k * 0x400
/-- HEADROOM_PAGES. -/
def HEADROOM_PAGES (i k : Nat) : Nat := 0x101020 + i * 0x10000 + k * 0x400
/-- DSCP_PRIO. -/
def DSCP_PRIO (i k j : Nat) : Nat := 0x101040 + i * 0x10000 + k * 0x400 + j * 4
/-- RX_FRAMES_LO, _HI. -/
def RX_FRAMES (i k : Nat) : Nat := 0x101100 + i * 0x10000 + k * 0x400
/-- RX_BYTES_LO, _HI. -/
def RX_BYTES (i k : Nat) : Nat := 0x101108 + i * 0x10000 + k * 0x400
/-- RX_FCS_ERR_LO, _HI. -/
def RX_FCS_ERR (i k : Nat) : Nat := 0x101110 + i * 0x10000 + k * 0x400
/-- RX_RUNT_LO, _HI. -/
def RX_RUNT (i k : Nat) : Nat := 0x101118 + i * 0x10000 + k * 0x400
/-- RX_OVERSIZE_LO, _HI. -/
def RX_OVERSIZE (i k : Nat) : Nat := 0x101120 + i * 0x10000 + k * 0x400
/-- RX_BUF_DROP_LO, _HI. -/
def RX_BUF_DROP (i k : Nat) : Nat := 0x101128 + i * 0x10000 + k * 0x400
/-- TX_FRAMES_LO, _HI. -/
def TX_FRAMES (i k : Nat) : Nat := 0x101130 + i * 0x10000 + k * 0x400
/-- TX_BYTES_LO, _HI. -/
def TX_BYTES (i k : Nat) : Nat := 0x101138 + i * 0x10000 + k * 0x400
/-- PFC_RX. -/
def PFC_RX (i k j : Nat) : Nat := 0x101180 + i * 0x10000 + k * 0x400 + j * 4
/-- PFC_TX. -/
def PFC_TX (i k j : Nat) : Nat := 0x1011a0 + i * 0x10000 + k * 0x400 + j * 4
/-- FIFO_ID. -/
def FIFO_ID (i : Nat) : Nat := 0x200000 + i * 0x100
/-- OCC_PKTS. -/
def OCC_PKTS (i : Nat) : Nat := 0x200004 + i * 0x100
/-- OCC_WORDS. -/
def OCC_WORDS (i : Nat) : Nat := 0x200008 + i * 0x100
/-- HIGH_WATER. -/
def HIGH_WATER (i : Nat) : Nat := 0x20000c + i * 0x100
/-- FIFO_CTRL. -/
def FIFO_CTRL (i : Nat) : Nat := 0x200010 + i * 0x100
/-- DROP_REST. -/
def DROP_REST (i : Nat) : Nat := 0x200014 + i * 0x100
/-- CORR_COUNT. -/
def CORR_COUNT (i : Nat) : Nat := 0x200018 + i * 0x100
/-- UNCORR_COUNT. -/
def UNCORR_COUNT (i : Nat) : Nat := 0x20001c + i * 0x100
/-- REWIND_COUNT. -/
def REWIND_COUNT (i : Nat) : Nat := 0x200020 + i * 0x100
/-- OVERFLOW_COUNT. -/
def OVERFLOW_COUNT (i : Nat) : Nat := 0x200024 + i * 0x100
/-- DROP_REST_COUNT. -/
def DROP_REST_COUNT (i : Nat) : Nat := 0x200028 + i * 0x100
/-- COMMIT_COUNT_LO, _HI. -/
def COMMIT_COUNT (i : Nat) : Nat := 0x200030 + i * 0x100
/-- TS_DATA. -/
def TS_DATA (i j : Nat) : Nat := 0x200040 + i * 0x100 + j * 4
/-- HC_ID. -/
def HC_ID (i : Nat) : Nat := 0x300000 + i * 0x10000
/-- HC_CTRL. -/
def HC_CTRL (i : Nat) : Nat := 0x300004 + i * 0x10000
/-- PROG_STATUS. -/
def PROG_STATUS (i : Nat) : Nat := 0x300008 + i * 0x10000
/-- PROG_VALIDATE. -/
def PROG_VALIDATE (i : Nat) : Nat := 0x30000c + i * 0x10000
/-- HC_VALIDATE_ERR. -/
def HC_VALIDATE_ERR (i : Nat) : Nat := 0x300010 + i * 0x10000
/-- PROG_FLIP. -/
def PROG_FLIP (i : Nat) : Nat := 0x300014 + i * 0x10000
/-- STEP_CAP. -/
def STEP_CAP (i : Nat) : Nat := 0x300018 + i * 0x10000
/-- CORES_BUSY. -/
def CORES_BUSY (i : Nat) : Nat := 0x30001c + i * 0x10000
/-- PARSED_LO, _HI. -/
def PARSED (i : Nat) : Nat := 0x300020 + i * 0x10000
/-- ST_DEPTH. -/
def ST_DEPTH (i : Nat) : Nat := 0x300028 + i * 0x10000
/-- ST_LEN_CONFLICT. -/
def ST_LEN_CONFLICT (i : Nat) : Nat := 0x30002c + i * 0x10000
/-- ST_STEPS. -/
def ST_STEPS (i : Nat) : Nat := 0x300030 + i * 0x10000
/-- ST_FAULT. -/
def ST_FAULT (i : Nat) : Nat := 0x300034 + i * 0x10000
/-- ABORTED. -/
def ABORTED (i : Nat) : Nat := 0x300038 + i * 0x10000
/-- OVER_BUDGET. -/
def OVER_BUDGET (i : Nat) : Nat := 0x30003c + i * 0x10000
/-- STEPS_SUM_LO, _HI. -/
def STEPS_SUM (i : Nat) : Nat := 0x300040 + i * 0x10000
/-- MAX_STEPS. -/
def MAX_STEPS (i : Nat) : Nat := 0x300048 + i * 0x10000
/-- HC_FLIP_ZC_LO, _HI. -/
def HC_FLIP_ZC (i : Nat) : Nat := 0x300050 + i * 0x10000
/-- PROG_ACTIVE. -/
def PROG_ACTIVE (i j : Nat) : Nat := 0x304000 + i * 0x10000 + j * 4
/-- PROG_STAGE. -/
def PROG_STAGE (i j : Nat) : Nat := 0x308000 + i * 0x10000 + j * 4
/-- DISP_ACTIVE. -/
def DISP_ACTIVE (i j : Nat) : Nat := 0x30c000 + i * 0x10000 + j * 4
/-- DISP_STAGE. -/
def DISP_STAGE (i j : Nat) : Nat := 0x30c800 + i * 0x10000 + j * 4
/-- STG_ID. -/
def STG_ID (i : Nat) : Nat := 0x400000 + i * 0x100000
/-- STG_VALIDATE_ERR. -/
def STG_VALIDATE_ERR (i : Nat) : Nat := 0x400004 + i * 0x100000
/-- FIRST_LOOKUPS_LO, _HI. -/
def FIRST_LOOKUPS (i : Nat) : Nat := 0x400010 + i * 0x100000
/-- VERDICT_LOOKUPS_LO, _HI. -/
def VERDICT_LOOKUPS (i : Nat) : Nat := 0x400018 + i * 0x100000
/-- EXACT_HITS_LO, _HI. -/
def EXACT_HITS (i : Nat) : Nat := 0x400020 + i * 0x100000
/-- TERN_HITS_LO, _HI. -/
def TERN_HITS (i : Nat) : Nat := 0x400028 + i * 0x100000
/-- OPS_SUPPRESSED. -/
def OPS_SUPPRESSED (i : Nat) : Nat := 0x400030 + i * 0x100000
/-- EXACT_DUAL. -/
def EXACT_DUAL (i : Nat) : Nat := 0x400034 + i * 0x100000
/-- MISS_TMPL_ACTIVE. -/
def MISS_TMPL_ACTIVE (i : Nat) : Nat := 0x400040 + i * 0x100000
/-- MISS_TMPL_STAGE. -/
def MISS_TMPL_STAGE (i : Nat) : Nat := 0x400044 + i * 0x100000
/-- ENTRY_SEL. -/
def ENTRY_SEL (i : Nat) : Nat := 0x400050 + i * 0x100000
/-- ENTRY_CMD. -/
def ENTRY_CMD (i : Nat) : Nat := 0x400054 + i * 0x100000
/-- ENTRY_STATUS. -/
def ENTRY_STATUS (i : Nat) : Nat := 0x400058 + i * 0x100000
/-- KEYSEL_ACTIVE. -/
def KEYSEL_ACTIVE (i j : Nat) : Nat := 0x400400 + i * 0x100000 + j * 4
/-- KEYSEL_STAGE. -/
def KEYSEL_STAGE (i j : Nat) : Nat := 0x400500 + i * 0x100000 + j * 4
/-- TERN_RANGE. -/
def TERN_RANGE (i j : Nat) : Nat := 0x400800 + i * 0x100000 + j * 4
/-- ENTRY_DATA. -/
def ENTRY_DATA (i j : Nat) : Nat := 0x401000 + i * 0x100000 + j * 4
/-- RULE_EPOCH. -/
def RULE_EPOCH : Nat := 0x480000
/-- EPOCH_STATUS. -/
def EPOCH_STATUS : Nat := 0x480004
/-- RULE_FLIP_ZC_LO, _HI. -/
def RULE_FLIP_ZC : Nat := 0x480008
/-- INFLIGHT_0. -/
def INFLIGHT_0 : Nat := 0x480010
/-- INFLIGHT_1. -/
def INFLIGHT_1 : Nat := 0x480014
/-- DRAIN. -/
def DRAIN : Nat := 0x480018
/-- STAGE_HOLDER. -/
def STAGE_HOLDER : Nat := 0x48001c
/-- STAGE_LEASE_MAX. -/
def STAGE_LEASE_MAX : Nat := 0x480020
/-- HASH_SEL_ADDR_STAGE. -/
def HASH_SEL_ADDR_STAGE : Nat := 0x480030
/-- HASH_SEL_PORT_STAGE. -/
def HASH_SEL_PORT_STAGE : Nat := 0x480034
/-- HASH_SEL_PROTO_STAGE. -/
def HASH_SEL_PROTO_STAGE : Nat := 0x480038
/-- HASH_SEL_ACTIVE. -/
def HASH_SEL_ACTIVE (j : Nat) : Nat := 0x480040 + j * 4
/-- EXC_RATE. -/
def EXC_RATE : Nat := 0x480050
/-- EXC_BURST. -/
def EXC_BURST : Nat := 0x480054
/-- EXC_ADMITTED_LO, _HI. -/
def EXC_ADMITTED : Nat := 0x480058
/-- EXC_OVER_RATE_LO, _HI. -/
def EXC_OVER_RATE : Nat := 0x480060
/-- RECIRC_LIMIT. -/
def RECIRC_LIMIT : Nat := 0x480068
/-- RECIRC_FULL. -/
def RECIRC_FULL : Nat := 0x48006c
/-- FRAG_WAIT. -/
def FRAG_WAIT : Nat := 0x480070
/-- FRAG_LIFE. -/
def FRAG_LIFE : Nat := 0x480074
/-- FRAG_OCC. -/
def FRAG_OCC : Nat := 0x480078
/-- FRAG_WAITING. -/
def FRAG_WAITING : Nat := 0x48007c
/-- FRAG_STORED. -/
def FRAG_STORED : Nat := 0x480080
/-- FRAG_HITS. -/
def FRAG_HITS : Nat := 0x480084
/-- FRAG_TIMEOUTS. -/
def FRAG_TIMEOUTS : Nat := 0x480088
/-- FRAG_FULL. -/
def FRAG_FULL : Nat := 0x48008c
/-- EXC_PORT_RATE. -/
def EXC_PORT_RATE (j : Nat) : Nat := 0x480100 + j * 4
/-- PORT_DEFAULT. -/
def PORT_DEFAULT (j : Nat) : Nat := 0x480200 + j * 4
/-- VCLASS_DEFAULT_LO, _HI. -/
def VCLASS_DEFAULT (j : Nat) : Nat := 0x480800 + j * 8
/-- EGROUP. -/
def EGROUP (k j : Nat) : Nat := 0x481000 + k * 0x80 + j * 4
/-- ENCAP. -/
def ENCAP (k j : Nat) : Nat := 0x490000 + k * 0x80 + j * 4
/-- SCAN_PERIOD. -/
def SCAN_PERIOD : Nat := 0x4c0000
/-- BG_LIMIT. -/
def BG_LIMIT : Nat := 0x4c0004
/-- RETIRED_PAGES. -/
def RETIRED_PAGES : Nat := 0x4c0008
/-- SEQ_MAX_HOLD. -/
def SEQ_MAX_HOLD : Nat := 0x4c000c
/-- CACHE_HITS_LO, _HI. -/
def CACHE_HITS : Nat := 0x4c0010
/-- CACHE_MISSES_LO, _HI. -/
def CACHE_MISSES : Nat := 0x4c0018
/-- COLD_FILLS_LO, _HI. -/
def COLD_FILLS : Nat := 0x4c0020
/-- EVICTIONS_LO, _HI. -/
def EVICTIONS : Nat := 0x4c0028
/-- FLOW_TCTRL. -/
def FLOW_TCTRL (k : Nat) : Nat := 0x4d0000 + k * 0x80
/-- FLOW_BASE. -/
def FLOW_BASE (k : Nat) : Nat := 0x4d0004 + k * 0x80
/-- FLOW_RECORDS. -/
def FLOW_RECORDS (k : Nat) : Nat := 0x4d0008 + k * 0x80
/-- FLOW_PPS. -/
def FLOW_PPS (k : Nat) : Nat := 0x4d000c + k * 0x80
/-- WAY_MASK. -/
def WAY_MASK (k : Nat) : Nat := 0x4d0010 + k * 0x80
/-- IDLE_TIMEOUT. -/
def IDLE_TIMEOUT (k : Nat) : Nat := 0x4d0014 + k * 0x80
/-- END_LINGER. -/
def END_LINGER (k : Nat) : Nat := 0x4d0018 + k * 0x80
/-- DIGEST_PERIOD. -/
def DIGEST_PERIOD (k : Nat) : Nat := 0x4d001c + k * 0x80
/-- DIGEST_BASE_LO, _HI. -/
def DIGEST_BASE (k : Nat) : Nat := 0x4d0020 + k * 0x80
/-- DIGEST_ENTRIES. -/
def DIGEST_ENTRIES (k : Nat) : Nat := 0x4d0028 + k * 0x80
/-- LABEL_BASE_LO, _HI. -/
def LABEL_BASE (k : Nat) : Nat := 0x4d0030 + k * 0x80
/-- LABEL_ENTRIES. -/
def LABEL_ENTRIES (k : Nat) : Nat := 0x4d0038 + k * 0x80
/-- ZONE_SEL. -/
def ZONE_SEL (k : Nat) : Nat := 0x4d003c + k * 0x80
/-- END_SEL. -/
def END_SEL (k : Nat) : Nat := 0x4d0040 + k * 0x80
/-- HIST_SEL. -/
def HIST_SEL (k : Nat) : Nat := 0x4d0044 + k * 0x80
/-- FLOWS_CREATED. -/
def FLOWS_CREATED (k : Nat) : Nat := 0x4d0048 + k * 0x80
/-- FLOWS_ENDED. -/
def FLOWS_ENDED (k : Nat) : Nat := 0x4d004c + k * 0x80
/-- FLOW_COLLIDE. -/
def FLOW_COLLIDE (k : Nat) : Nat := 0x4d0050 + k * 0x80
/-- FLOW_RESET. -/
def FLOW_RESET (k : Nat) : Nat := 0x4d0054 + k * 0x80
/-- FLOW_RETIRED. -/
def FLOW_RETIRED (k : Nat) : Nat := 0x4d0058 + k * 0x80
/-- STATE_REINIT. -/
def STATE_REINIT (k : Nat) : Nat := 0x4d005c + k * 0x80
/-- STATE_SKIP. -/
def STATE_SKIP (k : Nat) : Nat := 0x4d0060 + k * 0x80
/-- LABEL_APPLIED. -/
def LABEL_APPLIED (k : Nat) : Nat := 0x4d0064 + k * 0x80
/-- LABEL_STALE. -/
def LABEL_STALE (k : Nat) : Nat := 0x4d0068 + k * 0x80
/-- DIGEST_LOST. -/
def DIGEST_LOST (k : Nat) : Nat := 0x4d006c + k * 0x80
/-- HIST_SKIP. -/
def HIST_SKIP (k : Nat) : Nat := 0x4d0070 + k * 0x80
/-- FLOWS_LIVE. -/
def FLOWS_LIVE (k : Nat) : Nat := 0x4d0074 + k * 0x80
/-- TM_ID. -/
def TM_ID : Nat := 0x1000000
/-- NO_QUEUE_DROPS_SUM. -/
def NO_QUEUE_DROPS_SUM : Nat := 0x1000004
/-- TPORTS_LO, _HI. -/
def TPORTS (k : Nat) : Nat := 0x1001000 + k * 0x10
/-- TCLASSES. -/
def TCLASSES (k : Nat) : Nat := 0x1001008 + k * 0x10
/-- FENCE_DROPS. -/
def FENCE_DROPS (k : Nat) : Nat := 0x100100c + k * 0x10
/-- PQ_CFG. -/
def PQ_CFG (k : Nat) : Nat := 0x1002000 + k * 0x20
/-- PORT_SHAPER. -/
def PORT_SHAPER (k : Nat) : Nat := 0x1002004 + k * 0x20
/-- PORT_CLASSES. -/
def PORT_CLASSES (k : Nat) : Nat := 0x1002008 + k * 0x20
/-- PAUSED. -/
def PAUSED (k : Nat) : Nat := 0x100200c + k * 0x20
/-- NO_QUEUE_DROPS. -/
def NO_QUEUE_DROPS (k : Nat) : Nat := 0x1002010 + k * 0x20
/-- MIR_CFG. -/
def MIR_CFG (k : Nat) : Nat := 0x1003000 + k * 0x10
/-- TRUNCATE. -/
def TRUNCATE (k : Nat) : Nat := 0x1003004 + k * 0x10
/-- MIR_COPIES. -/
def MIR_COPIES (k : Nat) : Nat := 0x1003008 + k * 0x10
/-- MIR_DROPS. -/
def MIR_DROPS (k : Nat) : Nat := 0x100300c + k * 0x10
/-- Q_CFG. -/
def Q_CFG (k : Nat) : Nat := 0x1010000 + k * 0x40
/-- QUANTUM. -/
def QUANTUM (k : Nat) : Nat := 0x1010004 + k * 0x40
/-- GREEN_LIMIT. -/
def GREEN_LIMIT (k : Nat) : Nat := 0x1010008 + k * 0x40
/-- YELLOW_LIMIT. -/
def YELLOW_LIMIT (k : Nat) : Nat := 0x101000c + k * 0x40
/-- RED_LIMIT. -/
def RED_LIMIT (k : Nat) : Nat := 0x1010010 + k * 0x40
/-- Q_SHAPER. -/
def Q_SHAPER (k : Nat) : Nat := 0x1010014 + k * 0x40
/-- OCC_PAGES. -/
def OCC_PAGES (k : Nat) : Nat := 0x1010018 + k * 0x40
/-- OCC_HIGH. -/
def OCC_HIGH (k : Nat) : Nat := 0x101001c + k * 0x40
/-- DEFICIT. -/
def DEFICIT (k : Nat) : Nat := 0x1010020 + k * 0x40
/-- Q_STATUS. -/
def Q_STATUS (k : Nat) : Nat := 0x1010024 + k * 0x40
/-- TX_PKTS_LO, _HI. -/
def TX_PKTS (k : Nat) : Nat := 0x1010028 + k * 0x40
/-- Q_TX_BYTES_LO, _HI. -/
def Q_TX_BYTES (k : Nat) : Nat := 0x1010030 + k * 0x40
/-- TAIL_DROP. -/
def TAIL_DROP (k : Nat) : Nat := 0x1010038 + k * 0x40
/-- FLUSH_DROP. -/
def FLUSH_DROP (k : Nat) : Nat := 0x101003c + k * 0x40
/-- SH_RATE. -/
def SH_RATE (k : Nat) : Nat := 0x1020000 + k * 0x20
/-- SH_BURST. -/
def SH_BURST (k : Nat) : Nat := 0x1020004 + k * 0x20
/-- SH_RATE_NEXT. -/
def SH_RATE_NEXT (k : Nat) : Nat := 0x1020008 + k * 0x20
/-- SH_BURST_NEXT. -/
def SH_BURST_NEXT (k : Nat) : Nat := 0x102000c + k * 0x20
/-- SH_APPLY. -/
def SH_APPLY (k : Nat) : Nat := 0x1020010 + k * 0x20
/-- SH_CFG. -/
def SH_CFG (k : Nat) : Nat := 0x1020014 + k * 0x20
/-- SH_TOKENS. -/
def SH_TOKENS (k : Nat) : Nat := 0x1020018 + k * 0x20
/-- SH_APPLIES. -/
def SH_APPLIES (k : Nat) : Nat := 0x102001c + k * 0x20
/-- POL_CFG. -/
def POL_CFG (k : Nat) : Nat := 0x1040000 + k * 0x20
/-- CIR. -/
def CIR (k : Nat) : Nat := 0x1040004 + k * 0x20
/-- PIR. -/
def PIR (k : Nat) : Nat := 0x1040008 + k * 0x20
/-- CBS. -/
def CBS (k : Nat) : Nat := 0x104000c + k * 0x20
/-- EBS_PBS. -/
def EBS_PBS (k : Nat) : Nat := 0x1040010 + k * 0x20
/-- TC. -/
def TC (k : Nat) : Nat := 0x1040014 + k * 0x20
/-- TE_TP. -/
def TE_TP (k : Nat) : Nat := 0x1040018 + k * 0x20
/-- COLOUR_INVALID. -/
def COLOUR_INVALID (k : Nat) : Nat := 0x104001c + k * 0x20
/-- POL_GREEN_LO, _HI. -/
def POL_GREEN (k : Nat) : Nat := 0x1400000 + k * 0x20
/-- POL_YELLOW_LO, _HI. -/
def POL_YELLOW (k : Nat) : Nat := 0x1400008 + k * 0x20
/-- POL_RED_LO, _HI. -/
def POL_RED (k : Nat) : Nat := 0x1400010 + k * 0x20
/-- POL_DROPPED_LO, _HI. -/
def POL_DROPPED (k : Nat) : Nat := 0x1400018 + k * 0x20
/-- Q_HIST. -/
def Q_HIST (k j : Nat) : Nat := 0x1600000 + k * 0x40 + j * 4
/-- FP_CTRL. -/
def FP_CTRL (i : Nat) : Nat := 0x2000000 + i * 0x10000
/-- FP_STATUS. -/
def FP_STATUS (i : Nat) : Nat := 0x2000004 + i * 0x10000
/-- PARTNER. -/
def PARTNER (i : Nat) : Nat := 0x2000008 + i * 0x10000
/-- RETRY_LIMIT. -/
def RETRY_LIMIT (i : Nat) : Nat := 0x200000c + i * 0x10000
/-- ERR_THRESH. -/
def ERR_THRESH (i : Nat) : Nat := 0x2000010 + i * 0x10000
/-- CREDIT_ALLOT. -/
def CREDIT_ALLOT (i : Nat) : Nat := 0x2000014 + i * 0x10000
/-- FP_FEC_CORR_CW_LO, _HI. -/
def FP_FEC_CORR_CW (i : Nat) : Nat := 0x2000020 + i * 0x10000
/-- FP_FEC_UNCORR_CW_LO, _HI. -/
def FP_FEC_UNCORR_CW (i : Nat) : Nat := 0x2000028 + i * 0x10000
/-- FLITS_TX_LO, _HI. -/
def FLITS_TX (i : Nat) : Nat := 0x2000030 + i * 0x10000
/-- FLITS_RX_LO, _HI. -/
def FLITS_RX (i : Nat) : Nat := 0x2000038 + i * 0x10000
/-- REPLAYS. -/
def REPLAYS (i : Nat) : Nat := 0x2000040 + i * 0x10000
/-- DUP_DROPS. -/
def DUP_DROPS (i : Nat) : Nat := 0x2000044 + i * 0x10000
/-- NO_ROUTE. -/
def NO_ROUTE (i : Nat) : Nat := 0x2000048 + i * 0x10000
/-- CMD_DROPS. -/
def CMD_DROPS (i : Nat) : Nat := 0x200004c + i * 0x10000
/-- DEVICE_NUMBER. -/
def DEVICE_NUMBER : Nat := 0x2008000
/-- MANAGER. -/
def MANAGER : Nat := 0x2008004
/-- TERM. -/
def TERM : Nat := 0x2008008
/-- LOG_INDEX. -/
def LOG_INDEX : Nat := 0x200800c
/-- COPY_TIMEOUT. -/
def COPY_TIMEOUT : Nat := 0x2008010
/-- SPEC_TIMEOUT. -/
def SPEC_TIMEOUT : Nat := 0x2008014
/-- MEMBER_ROUTE. -/
def MEMBER_ROUTE (j : Nat) : Nat := 0x2008100 + j * 4
/-- GROUP_ROUTE_LO, _HI. -/
def GROUP_ROUTE (j : Nat) : Nat := 0x2008200 + j * 8
/-- APERTURE_BASE_LO, _HI. -/
def APERTURE_BASE (j : Nat) : Nat := 0x2168000 + j * 8
/-- APERTURE_CFG. -/
def APERTURE_CFG (j : Nat) : Nat := 0x2168080 + j * 4
/-- BAR2_ABORTS. -/
def BAR2_ABORTS : Nat := 0x21680c0
/-- EVQ_LOST. -/
def EVQ_LOST : Nat := 0x21680c4
/-- HBM_ID. -/
def HBM_ID (i : Nat) : Nat := 0x3000000 + i * 0x10000
/-- HBM_STATUS. -/
def HBM_STATUS (i : Nat) : Nat := 0x3000004 + i * 0x10000
/-- INLINE_RESV. -/
def INLINE_RESV (i : Nat) : Nat := 0x3000008 + i * 0x10000
/-- BULK_AVAIL. -/
def BULK_AVAIL (i : Nat) : Nat := 0x300000c + i * 0x10000
/-- RD_BYTES_LO, _HI. -/
def RD_BYTES (i : Nat) : Nat := 0x3000010 + i * 0x10000
/-- WR_BYTES_LO, _HI. -/
def WR_BYTES (i : Nat) : Nat := 0x3000018 + i * 0x10000
/-- HBM_C256_CORR. -/
def HBM_C256_CORR (i : Nat) : Nat := 0x3000020 + i * 0x10000
/-- C256_UNCORR. -/
def C256_UNCORR (i : Nat) : Nat := 0x3000024 + i * 0x10000
/-- RETIRED. -/
def RETIRED (i : Nat) : Nat := 0x3000028 + i * 0x10000
/-- LAST_UNCORR_LO, _HI. -/
def LAST_UNCORR (i : Nat) : Nat := 0x3000030 + i * 0x10000
/-- CL_ID. -/
def CL_ID (i : Nat) : Nat := 0x8000000 + i * 0x10000
/-- CL_STATE. -/
def CL_STATE (i : Nat) : Nat := 0x8000004 + i * 0x10000
/-- POOL_INLINE. -/
def POOL_INLINE (i : Nat) : Nat := 0x8000008 + i * 0x10000
/-- POOL_BULK. -/
def POOL_BULK (i : Nat) : Nat := 0x800000c + i * 0x10000
/-- POOL_FENCED. -/
def POOL_FENCED (i : Nat) : Nat := 0x8000010 + i * 0x10000
/-- ZC_BULK_LO, _HI. -/
def ZC_BULK (i : Nat) : Nat := 0x8000018 + i * 0x10000
/-- ZC_INLINE_LO, _HI. -/
def ZC_INLINE (i : Nat) : Nat := 0x8000020 + i * 0x10000
/-- BULK_JOB_LO, _HI. -/
def BULK_JOB (i : Nat) : Nat := 0x8000028 + i * 0x10000
/-- SWQ_STATUS. -/
def SWQ_STATUS (i : Nat) : Nat := 0x8000030 + i * 0x10000
/-- CE_WORDS_OUT_LO, _HI. -/
def CE_WORDS_OUT (i : Nat) : Nat := 0x8000040 + i * 0x10000
/-- CE_WORDS_IN_LO, _HI. -/
def CE_WORDS_IN (i : Nat) : Nat := 0x8000048 + i * 0x10000
/-- ROUTER_WORDS_LO, _HI. -/
def ROUTER_WORDS (i : Nat) : Nat := 0x8000050 + i * 0x10000
/-- COPY_LATE. -/
def COPY_LATE (i : Nat) : Nat := 0x8000058 + i * 0x10000
/-- PRIMER_LAST_LO, _HI. -/
def PRIMER_LAST (i : Nat) : Nat := 0x8000060 + i * 0x10000
/-- PRIMER_STATUS. -/
def PRIMER_STATUS (i : Nat) : Nat := 0x8000068 + i * 0x10000
/-- CELL_ID. -/
def CELL_ID (i : Nat) : Nat := 0x10000000 + i * 0x100000
/-- CELL_STATE. -/
def CELL_STATE (i : Nat) : Nat := 0x10000004 + i * 0x100000
/-- HOLDER_LO, _HI. -/
def HOLDER (i : Nat) : Nat := 0x10000010 + i * 0x100000
/-- STEP_COMMITTED_LO, _HI. -/
def STEP_COMMITTED (i : Nat) : Nat := 0x10000018 + i * 0x100000
/-- STEP_LAUNCHED_LO, _HI. -/
def STEP_LAUNCHED (i : Nat) : Nat := 0x10000020 + i * 0x100000
/-- COMMIT_OCC. -/
def COMMIT_OCC (i : Nat) : Nat := 0x10000028 + i * 0x100000
/-- PROG_BANK. -/
def PROG_BANK (i : Nat) : Nat := 0x1000002c + i * 0x100000
/-- COPYQ_STATUS. -/
def COPYQ_STATUS (i : Nat) : Nat := 0x10000030 + i * 0x100000
/-- COPY_FAULT_INFO. -/
def COPY_FAULT_INFO (i : Nat) : Nat := 0x10000034 + i * 0x100000
/-- INLINE_Q. -/
def INLINE_Q (i : Nat) : Nat := 0x10000038 + i * 0x100000
/-- ARRIVE. -/
def ARRIVE (i j : Nat) : Nat := 0x10000040 + i * 0x100000 + j * 4
/-- BUSY_BEATS_LO, _HI. -/
def BUSY_BEATS (i : Nat) : Nat := 0x10000100 + i * 0x100000
/-- CALMED_BEATS_LO, _HI. -/
def CALMED_BEATS (i : Nat) : Nat := 0x10000108 + i * 0x100000
/-- STRETCH_BEATS_LO, _HI. -/
def STRETCH_BEATS (i : Nat) : Nat := 0x10000110 + i * 0x100000
/-- STALL_BEATS_LO, _HI. -/
def STALL_BEATS (i : Nat) : Nat := 0x10000118 + i * 0x100000
/-- CELL_C256_CORR. -/
def CELL_C256_CORR (i : Nat) : Nat := 0x10000120 + i * 0x100000
/-- CELL_RESIDUE_FLAGS. -/
def CELL_RESIDUE_FLAGS (i : Nat) : Nat := 0x10000124 + i * 0x100000
/-- COPY_FAULTS. -/
def COPY_FAULTS (i : Nat) : Nat := 0x10000128 + i * 0x100000
/-- STORE_ADDR. -/
def STORE_ADDR (i : Nat) : Nat := 0x10000200 + i * 0x100000
/-- STORE_CMD. -/
def STORE_CMD (i : Nat) : Nat := 0x10000204 + i * 0x100000
/-- STORE_STATUS. -/
def STORE_STATUS (i : Nat) : Nat := 0x10000208 + i * 0x100000
/-- STORE_DATA. -/
def STORE_DATA (i j : Nat) : Nat := 0x10000220 + i * 0x100000 + j * 4
/-- GRID_STATUS. -/
def GRID_STATUS (i : Nat) : Nat := 0x10000400 + i * 0x100000
/-- GRID_LAUNCHES_LO, _HI. -/
def GRID_LAUNCHES (i : Nat) : Nat := 0x10000408 + i * 0x100000
/-- NAN_FEATURE_LO, _HI. -/
def NAN_FEATURE (i : Nat) : Nat := 0x10000410 + i * 0x100000
/-- NAN_LAST. -/
def NAN_LAST (i : Nat) : Nat := 0x10000418 + i * 0x100000
/-- OUT_OVF. -/
def OUT_OVF (i : Nat) : Nat := 0x1000041c + i * 0x100000
/-- OUT_NAN. -/
def OUT_NAN (i : Nat) : Nat := 0x10000420 + i * 0x100000
/-- PATH_MISMATCH. -/
def PATH_MISMATCH (i : Nat) : Nat := 0x10000424 + i * 0x100000
end Addr

end Sys2Proof.Machine
end

