-- ==== Sys2Proof/Machine/Base.lean ====
section
/-!
DEFINITION. The first of the operations every family shares: sparse tables, registers and counters, true time and time of day,
free values and outputs.
-/
namespace Sys2Proof.Machine

variable {α : Type}

/-- The listed value of a key. -/
def tabFind (k : Nat) : Tab α → Option α
  | [] => none
  | (a, v) :: l => if a = k then some v else tabFind k l

/-- The table without a key. -/
def tabErase (k : Nat) : Tab α → Tab α
  | [] => []
  | (a, v) :: l => if a = k then tabErase k l else (a, v) :: tabErase k l

/-- The table with a key listed at its place. -/
def tabPut (k : Nat) (v : α) : Tab α → Tab α
  | [] => [(k, v)]
  | (a, w) :: l => if k < a then (k, v) :: (a, w) :: l else if a = k then (k, v) :: l else (a, w) :: tabPut k v l

/-- The value of a key, `d` where it is not listed. -/
def tabGet (d : α) (k : Nat) (l : Tab α) : α := (tabFind k l).getD d

/-- The table with a key set, keeping it canonical: the unlisted value `d` is not listed. -/
def tabSet [DecidableEq α] (d : α) (k : Nat) (v : α) (l : Tab α) : Tab α := if v = d then tabErase k l else tabPut k v l

/-- Canonical form of a table whose unlisted values are `d k`: keys strictly rising, no unlisted value listed. -/
def tabWf [DecidableEq α] (d : Nat → α) : Tab α → Bool
  | [] => true
  | [(a, v)] => decide (v ≠ d a)
  | (a, v) :: (b, w) :: l => decide (v ≠ d a) && decide (a < b) && tabWf d ((b, w) :: l)

/-! Sorting -/

/-- An element put before the first one it does not come after. -/
def insertBy (le : α → α → Bool) (a : α) : List α → List α
  | [] => [a]
  | b :: l => if le a b then a :: b :: l else b :: insertBy le a l

/-- A list in the order `le`, equal elements in their order. -/
def sortBy (le : α → α → Bool) : List α → List α
  | [] => []
  | a :: l => insertBy le a (sortBy le l)

/-! Registers -/

/-- The register kept at address `a`: its stored value or its reset value. -/
def State.reg (s : State) (a : Nat) : Nat := (tabGet (BitVec.ofNat 64 (regReset a)) a s.regs).toNat

/-- `s` with the register at `a` set. -/
def State.setReg (s : State) (a v : Nat) : State :=
  { s with regs := tabSet (BitVec.ofNat 64 (regReset a)) a (BitVec.ofNat 64 v) s.regs }

/-- The 32-bit word at address `a` as it is kept: half of a pair, or a register; 0 where there is none. -/
def State.wordAt (s : State) (a : Nat) : Nat :=
  match locate a with
  | none => 0
  | some l => if l.hiHalf then s.reg l.key / 2 ^ 32 else s.reg l.key % 2 ^ 32

/-- Bits `[lo + w - 1 : lo]` of a register. -/
def State.field (s : State) (a lo w : Nat) : Nat := bits (s.reg a) lo w

/-- `s` with a field of a register set. -/
def State.setField (s : State) (a lo w x : Nat) : State := s.setReg a (putBits (s.reg a) lo w x)

/-- Bit `i` of a register. -/
def State.flag (s : State) (a i : Nat) : Bool := bitAt (s.reg a) i

/-- `s` with a bit of a register set or cleared. -/
def State.setFlag (s : State) (a i : Nat) (b : Bool) : State := s.setField a i 1 (b2n b)

/-- A 32-bit counter, modulo 2^32 (R361). -/
def State.bump32 (s : State) (a : Nat) (n : Nat := 1) : State := s.setReg a ((s.reg a + n) % 2 ^ 32)

/-- A 64-bit counter, modulo 2^64 (R361). -/
def State.bump64 (s : State) (a : Nat) (n : Nat := 1) : State := s.setReg a ((s.reg a + n) % 2 ^ 64)

/-- A register that keeps the largest value seen (RC high-water marks). -/
def State.raise (s : State) (a v : Nat) : State := if s.reg a < v then s.setReg a v else s

/-- ZC_ROOT (R43). -/
def State.zc (s : State) : Nat := s.reg Addr.ZC_ROOT
/-- ZC_BULK of module cluster k (R43). -/
def State.zcBulk (s : State) (k : Nat) : Nat := s.reg (Addr.ZC_BULK k)
/-- ZC_INLINE of module cluster k (R43). -/
def State.zcInline (s : State) (k : Nat) : Nat := s.reg (Addr.ZC_INLINE k)

/-! Free values and outputs -/

/-- A free value of a topic (log 7). -/
def State.draw (s : State) (topic : Nat) : Nat × State := (Config.free topic s.fresh, { s with fresh := s.fresh + 1 })

/-- A free byte string of a topic (log 7). -/
def State.drawBytes (s : State) (topic len : Nat) : Bytes × State :=
  (Config.freeBytes topic s.fresh len, { s with fresh := s.fresh + 1 })

/-- Topics of free values. -/
inductive Topic where
  | handshake
  | nonce
  | deviceBeat
  | key
  | result
  | power
  | jitter
  | encoded
  | certificate
  /-- What the check of a word finds where no row says it (R366). -/
  | integrity
deriving DecidableEq, Repr

/-- The number of a topic. -/
def Topic.num : Topic → Nat
  | .handshake => 0
  | .nonce => 1
  | .deviceBeat => 2
  | .key => 3
  | .result => 4
  | .power => 5
  | .jitter => 6
  | .encoded => 7
  | .certificate => 8
  | .integrity => 9

/-- A device-chosen beat at least `least` beats after the present root beat (R103, R123, R255; log 10). -/
def State.deviceBeat (s : State) (least : Nat := 64) : Nat × State :=
  let (f, s') := s.draw Topic.deviceBeat.num
  (s.zc + least + f, s')

/-- `s` after putting out `o`. -/
def State.emit (s : State) (o : Output) : State := { s with out := s.out ++ [o] }

/-! Time -/

/-- The most an offset is slewed over `dt` ps at 500 ppm (R55). -/
def slewStep (slew : Int) (dt : Nat) : Int := max (-(500000 * (dt : Int))) (min (500000 * (dt : Int)) slew)

/-- Whether the core runs: the rails are up and nothing holds the reset (R472, R494, R497). -/
def State.on (s : State) : Bool := s.module.rails && s.module.hold == 0

/-- True time moves to `t` (never back): while the device is out of reset the time of day moves with it at the rate
TIME_FREQ_ADJ and the slew give (R54, R55). -/
def advance (t : Nat) (s : State) : State :=
  let dt := if s.on then t - s.now else 0
  let adj := signed 32 (s.reg Addr.TIME_FREQ_ADJ)
  let sl := slewStep s.time.slew dt
  { s with now := max s.now t
           time.tod := s.time.tod + (dt : Int) * (1000000000 + adj) + sl
           time.fill := s.time.fill + (dt : Int) * (1000000000 + adj) + sl
           time.slew := s.time.slew - sl }

/-- The time base in sixteenths of a nanosecond, its internal resolution (R54). -/
def State.timeBase (s : State) : Nat := (s.time.tod / 62500000000).toNat

/-- Seconds of the time of day, 48 bits (R54). -/
def State.sec (s : State) : Nat := (s.time.tod / 1000000000000000000000 % 281474976710656).toNat
/-- Nanoseconds of the time of day, truncated (R54). -/
def State.ns (s : State) : Nat := (s.time.tod / 1000000000000 % 1000000000).toNat

/-- The 80-bit time stamp: 32 bits of nanoseconds below 48 bits of seconds (R67 and R73 give it as one field). -/
def State.stamp80 (s : State) : Nat := s.sec * 2 ^ 32 + s.ns

/-- Microseconds, milliseconds and seconds in picoseconds. -/
def us (n : Nat) : Nat := n * 1000000
def ms (n : Nat) : Nat := n * 1000000000
def secs (n : Nat) : Nat := n * 1000000000000

/-- The device's own number (R308). -/
def State.device (s : State) : Nat := s.field Addr.DEVICE_NUMBER 0 13

end Sys2Proof.Machine
end

