-- ==== Sys2Proof/Machine/Route.lean ====
section
/-!
DEFINITION. The sending side of the Wyilern fabric (R300 to R312): the header flit, dimension-order and group routing, virtual
channels, classes and credits, and the packets a device sends, holds and forwards. Logs 36 and 47 name what the manual leaves open here.
-/
namespace Sys2Proof.Machine

/-! Packet types (R306) -/
def tyCmd : Nat := 1
def tyRdReq : Nat := 2
def tyWrData : Nat := 3
def tyRdData : Nat := 4
def tyAck : Nat := 5
def tyNotify : Nat := 6
def tyConfirm : Nat := 7
def tyRevoke : Nat := 8
def tyCtrl : Nat := 9
def tyCredit : Nat := 10

/-- The fields of a header flit (R306) that a sender fills; SEQ is added as it is sent. -/
structure Header where
  ty : Nat
  vc : Nat
  spec : Bool := false
  notify : Bool := false
  ctr : Nat := 0
  dst : Nat
  src : Nat
  len : Nat := 0
  cell : Nat := 0xFF
  seq : Nat := 0
  addr : Nat := 0
  job : Nat := 0
  step : Nat := 0
  attempt : Nat := 0
  xfer : Nat := 0
  tenant : Nat := 0
deriving DecidableEq, Repr

/-- A header as the flit it is, at class `cls`. -/
def Header.word (h : Header) (cls : Nat) : Nat :=
  h.ty + h.vc * 2 ^ 4 + cls * 2 ^ 6 + b2n h.spec * 2 ^ 9 + b2n h.notify * 2 ^ 10 + h.ctr % 16 * 2 ^ 11 + h.dst % 2 ^ 13 * 2 ^ 16
    + h.src % 2 ^ 13 * 2 ^ 29 + h.len % 2 ^ 12 * 2 ^ 42 + h.cell % 256 * 2 ^ 54 + h.seq % 2 ^ 32 * 2 ^ 64 + h.addr % 2 ^ 64 * 2 ^ 96
    + h.job % 2 ^ 32 * 2 ^ 160 + h.step % 2 ^ 32 * 2 ^ 192 + h.attempt % 16 * 2 ^ 224 + h.xfer % 2 ^ 16 * 2 ^ 228 + h.tenant % 256 * 2 ^ 248

/-- A header flit taken apart. -/
def headerOf (w : Nat) : Header :=
  { ty := bits w 0 4, vc := bits w 4 2, spec := bitAt w 9, notify := bitAt w 10, ctr := bits w 11 4, dst := bits w 16 13,
    src := bits w 29 13, len := bits w 42 12, cell := bits w 54 8, seq := bits w 64 32, addr := bits w 96 64, job := bits w 160 32,
    step := bits w 192 32, attempt := bits w 224 4, xfer := bits w 228 16, tenant := bits w 248 8 }

/-- Whether the type, channel and length of a header flit agree (R305, R306); its reserved bits are ignored (R10). -/
def headerValid (w : Nat) : Bool :=
  let h := headerOf w
  let vc := if h.ty = tyCmd then 0 else if h.ty = tyRdReq then 1 else if h.ty = tyWrData ∨ h.ty = tyRdData then 2 else 3
  decide (1 ≤ h.ty ∧ h.ty ≤ 10) && h.vc == vc && (h.ty == tyCtrl || decide (h.len ≤ if h.ty = tyCmd then 2049 else 32))

/-! Ports (R300, R303) -/

/-- Whether a Wyilern port is up. -/
def State.portUp (s : State) (p : Nat) : Bool := s.flag (Addr.FP_STATUS p) 8

/-- The port of a pair that a packet uses (R309): 2j + ((SRC + DST) mod 2), or the other one when that is down. -/
def State.pairPort (s : State) (j src dst : Nat) : Option Nat :=
  let a := 2 * j + (src + dst) % 2
  let b := 2 * j + (src + dst + 1) % 2
  if s.portUp a then some a else if s.portUp b then some b else none

/-- The member and group of this device (R308). -/
def State.member (s : State) : Nat := s.device % 64
def State.groupNum (s : State) : Nat := s.device / 64

/-- A member's coordinate in dimension 0 X, 1 Y, 2 Z (R308). -/
def coord (m dim : Nat) : Nat := if dim = 0 then m % 4 else if dim = 1 then m / 4 % 4 else m / 16 % 4

/-- The dimension and pair of the next torus hop from member `m` to member `d` (R309): the first dimension that differs,
in the + direction for δ of 1 and 2 and in the − direction for 3. -/
def torusPair (m d : Nat) : Option Nat :=
  match (List.range 3).find? (fun i => coord m i != coord d i) with
  | none => none
  | some i => some (2 * i + (if (coord d i + 4 - coord m i) % 4 = 3 then 1 else 0))

/-- Where a packet goes next. -/
inductive Hop where
  /-- It is for this device. -/
  | here
  /-- By this port. -/
  | port (p : Nat)
  /-- Its route exists but every port of it is down: it is held (R312). -/
  | cut
  /-- No route (R315). -/
  | none
deriving DecidableEq, Repr

/-- The dimension of a torus port, 3 for a global port. -/
def portDim (p : Nat) : Nat := if p < 12 then p / 4 else 3

/-- The pair of the opposite direction (R300): j xor 1. -/
def otherWay (j : Nat) : Nat := if j % 2 = 0 then j + 1 else j - 1

/-- The exits of a GROUP_ROUTE entry (R310, R334): member and global pair. -/
def routeExits (w : Nat) : List (Nat × Nat) :=
  (([8, 18, 32, 42] : List Nat).filter (fun o => bitAt w (o + 9))).map (fun o => (bits w o 6, 6 + bits w (o + 6) 3))

/-- The exits towards a group whose ports are up (R310): of exits at other members the device knows no more than that they are named
(log 47). -/
def State.exitsUp (s : State) (src dst : Nat) : List (Nat × Nat) :=
  (routeExits (s.reg (Addr.GROUP_ROUTE (dst / 64)))).filter (fun e => e.1 != s.member || (s.pairPort e.2 src dst).isSome)

/-- The exit that a packet for another group takes (R310): the one numbered (SRC + DST) mod n. -/
def State.exitFor (s : State) (src dst : Nat) : Option (Nat × Nat) :=
  let up := s.exitsUp src dst
  up[(src + dst) % max 1 up.length]?

/-- The member of this group that a packet goes to (R310): its destination, or the exit towards its group. -/
def State.goal (s : State) (src dst : Nat) : Option Nat :=
  if dst / 64 = s.groupNum then some (dst % 64) else (s.exitFor src dst).map Prod.fst

/-- The VIA member of a destination member (R310). -/
def State.viaOf (s : State) (m : Nat) : Option Nat :=
  let v := s.reg (Addr.MEMBER_ROUTE m) % 64
  if v = 0x3F then none else some v

/-- Whether the hop into member `m` by port `q` is one of those by which R309 goes from member `v` to member `d`, or, where `long` is set,
one by the opposite direction of a ring that is cut (R312). -/
def onWay (v d m q : Nat) (long : Bool) : Bool :=
  let i := portDim q
  -- a packet that goes in the + direction arrives by a − port
  let plus := q / 2 % 2 == 1
  let steps (a b : Nat) : Nat := if plus then (coord b i + 4 - coord a i) % 4 else (coord a i + 4 - coord b i) % 4
  let δ := (coord d i + 4 - coord v i) % 4
  decide (q < 12) && (List.range 3).all (fun k => k == i || coord m k == coord (if k < i then d else v) k) && δ != 0 &&
    (if plus then δ != 3 else δ == 3) != long && decide (1 ≤ steps v m ∧ steps v m ≤ steps v d)

/-- Whether a packet at this member has passed VIA member `v` on its way to member `d` (R310, R311): it began there; or, from a device
of this group, it is past segment 0; or, from another group, it came in by a hop of the way from `v` to `d` (log 47). -/
def State.pastVia (s : State) (src v d : Nat) (from_ : Option Nat) (cls : Nat) : Bool :=
  if src / 64 = s.groupNum then src % 64 == v || (from_.isSome && decide (2 ≤ cls))
  else from_.any (fun q => onWay v d s.member q false || (decide (4 ≤ cls) && onWay v d s.member q true))

/-- The hop towards a member of this group (R309, R310, R312) of a packet that came by port `from_`, if it came by one. It goes to a VIA
member that it has not passed first. A packet on its way in a dimension keeps its direction, which is the other way round the ring where
the short one was cut; it turns only where it meets a cut on the short way. -/
def State.hopMember (s : State) (src dst d : Nat) (from_ : Option Nat) (cls : Nat) : Hop :=
  let via := s.viaOf d
  let there := match via with
    | some v => if v = s.member ∨ s.pastVia src v d from_ cls then d else v
    | Option.none => d
  match torusPair s.member there with
  | Option.none => .here
  | some j =>
    let keeps := via != some s.member && from_.any (fun q => decide (q < 12) && portDim q == j / 2)
    let way := if keeps then otherWay (from_.getD 0 / 2) else j
    match s.pairPort way src dst with
    | some p => .port p
    | Option.none =>
      if way != j || (keeps && (coord there (j / 2) + 4 - coord s.member (j / 2)) % 4 != 1) then .cut
      else match s.pairPort (otherWay j) src dst with
        | some p => .port p
        | Option.none => .cut

/-- Whether the device has joined a group (R308). -/
def State.joined (s : State) : Bool := s.flag Addr.DEVICE_NUMBER 13
/-- Whether this device manages its group (R334). -/
def State.isManager (s : State) : Bool := s.flag Addr.MANAGER 6

/-- The lowest port that is up and whose partner is a device (R304). -/
def State.neighbourPort (s : State) (device : Nat) : Option Nat :=
  (List.range 24).find? (fun p => s.portUp p && bitAt (s.reg (Addr.PARTNER p)) 18 && s.field (Addr.PARTNER p) 0 13 == device)

/-- The hop of a packet (R308 to R310). A device that has not joined forwards nothing, and answers a cabled neighbour on the port of that
neighbour (log 47). -/
def State.hop (s : State) (src dst : Nat) (from_ : Option Nat := Option.none) (cls : Nat := 0) : Hop :=
  if !s.joined ∧ from_.isNone then
    match s.neighbourPort dst with
    | some p => .port p
    | Option.none => .none
  else if dst = s.device then .here
  else if !s.joined then .none
  else if dst / 64 = s.groupNum then s.hopMember src dst (dst % 64) from_ cls
  else
    match s.exitFor src dst with
    | Option.none => if (routeExits (s.reg (Addr.GROUP_ROUTE (dst / 64)))).isEmpty then .none else .cut
    | some e =>
      if e.1 = s.member then
        match s.pairPort e.2 src dst with
        | some p => .port p
        | Option.none => .cut
      else s.hopMember src dst e.1 from_ cls

/-- Whether a hop by torus port `p` from member `m` crosses the dateline of its dimension (R311). -/
def crossesDateline (m p : Nat) : Bool :=
  decide (p < 12) && (if p / 2 % 2 = 0 then coord m (portDim p) == 3 else coord m (portDim p) == 0)

/-- Whether this member is the VIA member on a packet's way (R310). -/
def State.atVia (s : State) (src dst : Nat) : Bool := (s.goal src dst).any (fun d => d != s.member && s.viaOf d == some s.member)

/-- The class of a packet on its next hop, by port `p` (R311): a new segment begins after a global link and at a VIA member; D is 1 from
the dateline on, until the dimension or the segment changes. -/
def State.nextClass (s : State) (k : FabPkt) (p : Nat) : Nat :=
  let cross := b2n (crossesDateline s.member p)
  match k.from_ with
  | Option.none => cross
  | some q =>
    let seg := k.cls / 2
    if portDim q = 3 ∨ s.atVia (bits k.hdr 29 13) k.dst then 2 * min 3 (seg + 1) + cross
    else if portDim q = portDim p then 2 * seg + max (k.cls % 2) cross
    else 2 * seg + cross

/-! The records of packets that leave (R429, R434) -/

/-- A trace record (R429): kind, the stamp, and the kind's own bits. -/
def traceRecord (kind stamp zc region own : Nat) : W256 :=
  BitVec.ofNat 256 (kind + stamp % 2 ^ 80 * 2 ^ 4 + zc % 2 ^ 64 * 2 ^ 84 + region * 2 ^ 148 + own * 2 ^ 156)

/-- The die of a Wyilern port (R17, R300): pair j lies on C(j mod 4). -/
def portDie (p : Nat) : Nat := p / 2 % 4

/-- Whether an open session samples a fabric packet of a tenant and SEQ (R430, R434). -/
def State.samplesFabric (s : State) (tenant seq : Nat) : Bool :=
  match s.obs.trace with
  | none => false
  | some x => s.reg Addr.FAB_SAMPLE != 0 && seq % s.reg Addr.FAB_SAMPLE == 0 && (x.tenant == owner || x.tenant == tenant)

/-- A SEND or RECV record (R434) as its word: kind 3 or 4, the peer device, and the packet's fields. -/
def State.fabricWord (s : State) (kind peer port vc seq tenant xfer ty : Nat) : W256 :=
  traceRecord kind s.stamp80 s.zc regionRoot
    (peer % 2 ^ 13 + port * 2 ^ 13 + vc * 2 ^ 18 + seq % 2 ^ 32 * 2 ^ 20 + tenant % 256 * 2 ^ 52 + xfer % 2 ^ 16 * 2 ^ 60 + ty * 2 ^ 76)

/-- The SEND record of a packet of this device's own waits for its ring, stamped as the header flit leaves (R434). -/
def recordSend (p : Nat) (k : FabPkt) (s : State) : State :=
  let h := headerOf k.hdr
  if k.from_.isNone ∧ !k.paid ∧ s.samplesFabric h.tenant h.seq then
    { s with obs.sends := s.obs.sends ++ [(portDie p, s.fabricWord 3 h.dst p h.vc h.seq h.tenant h.xfer h.ty)] }
  else s

/-! Credits (R307) -/

/-- The key of a port, channel and class. -/
def creditKey (p vc cls : Nat) : Nat := p * 32 + vc * 8 + cls

/-- Flits of a packet. -/
def FabPkt.flits (k : FabPkt) : Nat := 1 + k.data.length

/-- How far frame `a` lies after frame `b`, mod 1,024. -/
def frameAfter (a b : Nat) : Nat := (a + 1024 - b) % 1024

/-- The frame of a port in which its next `n` flits end (R301). -/
def State.frameOf (s : State) (p n : Nat) : Nat := (tabGet 0 p s.fabric.flits + n - 1) / 20 % 1024

/-- Whether the replay buffer of a port has room for the frames of `n` more flits (R302): it keeps 512 frames. -/
def State.replayRoom (s : State) (p n : Nat) : Bool :=
  match tabGet [] p s.fabric.unacked with
  | [] => true
  | f :: _ => decide (frameAfter (s.frameOf p n) f.1 < 512)

/-- The flits of a packet leave by a port (R301, R302, R333): they are counted, and the packet, as it was routed, is kept for replay under
the frame in which it ends. -/
def putOut (p : Nat) (k routed : FabPkt) (s : State) : State :=
  let s1 := { s with
    fabric.flits := tabSet 0 p (tabGet 0 p s.fabric.flits + k.flits) s.fabric.flits
    fabric.unacked := tabSet [] p (tabGet [] p s.fabric.unacked ++ [(s.frameOf p k.flits, { routed with paid := true })]) s.fabric.unacked }
  (recordSend p k (s1.bump64 (Addr.FLITS_TX p) k.flits)).emit
    (.fabric p k.vc k.cls (bits k.hdr 0 4) k.dst [k.hdr] (k.data.flatMap (fun w => toLE 32 w.toNat)))

/-- A header takes the next SEQ of its channel (R306). -/
def takeSeq (h : Header) (n : Nat) (s : State) : Header × State :=
  let q := tabGet 0 h.vc s.fabric.seq
  ({ h with seq := q, len := n }, { s with fabric.seq := tabSet 0 h.vc ((q + 1) % 2 ^ 32) s.fabric.seq })

/-- A CREDIT packet with its 32 fields goes to the partner of a port (R306, R307). -/
def sendCredit (p : Nat) (fields : List Nat) (s : State) : State :=
  let r := takeSeq { ty := tyCredit, vc := 3, dst := s.field (Addr.PARTNER p) 0 13, src := s.device } 1 s
  let k : FabPkt := ⟨3, 0, r.1.dst, r.1.word 0, [BitVec.ofNat 256 (natLE (fields.map (BitVec.ofNat 8)))], none, false⟩
  putOut p k k r.2

/-- Credits of port `p` are returned to its partner in CREDIT packets, at most 255 to a field (R307); those of a port that is down
lapsed with it. -/
def returnCredit (p vc cls n : Nat) (s : State) : State :=
  let key := creditKey p vc cls
  if !s.portUp p then s
  else
    (List.range (ceilDiv n 255)).foldl (fun s k =>
        sendCredit p ((List.range 32).map (fun i => if i = vc * 8 + cls then min 255 (n - 255 * k) else 0)) s)
      { s with fabric.granted := tabSet 0 key (tabGet 0 key s.fabric.granted + n) s.fabric.granted }

/-- A packet leaves by a port: its credits are spent, and those of the class in which it arrived returned (R307). -/
def transmit (p : Nat) (k routed : FabPkt) (s : State) : State :=
  let key := creditKey p k.vc k.cls
  let s1 := putOut p k routed { s with fabric.credit := tabSet 0 key (tabGet 0 key s.fabric.credit - k.flits) s.fabric.credit }
  match k.from_ with
  | some q => if k.paid then s1 else returnCredit q k.vc routed.cls k.flits s1
  | none => s1

/-- A packet of device `src` is sent, or held until its port, route or credit allows it (R307, R312). -/
def routeFrom (src : Nat) (k : FabPkt) (s : State) : State :=
  match s.hop src k.dst k.from_ k.cls with
  | .port p =>
    let cls := s.nextClass k p
    if k.flits ≤ tabGet 0 (creditKey p k.vc cls) s.fabric.credit ∧ s.replayRoom p k.flits then
      transmit p { k with cls, hdr := putBits k.hdr 6 3 cls } k s
    else { s with fabric.held := s.fabric.held ++ [k] }
  | .cut => { s with fabric.held := s.fabric.held ++ [k] }
  | .none =>
    match k.from_ with
    | some q => if k.paid then s.bump32 (Addr.NO_ROUTE q) else returnCredit q k.vc k.cls k.flits (s.bump32 (Addr.NO_ROUTE q))
    | none => s.bump32 (Addr.NO_ROUTE 0)
  | .here => s

/-- A packet goes its way from the device its header names as its source (R306). -/
def route (k : FabPkt) (s : State) : State := routeFrom (bits k.hdr 29 13) k s

/-- The packets held are tried again, oldest first. -/
def routeHeld (s : State) : State := s.fabric.held.foldl (fun s k => route k s) { s with fabric.held := [] }

/-- This device sends a packet with the next SEQ of its channel (R306); its SEND record waits (R434). -/
def sendRaw (h : Header) (data : List W256) (s : State) : State :=
  let r := takeSeq h data.length s
  routeFrom h.src ⟨h.vc, 0, h.dst, r.1.word 0, data, none, false⟩ r.2

/-- A packet's bytes as words, zero-padded after the last byte (R338). -/
def wordsOf (data : Bytes) : List W256 := (List.range (ceilDiv data.length 32)).map (fun i => BitVec.ofNat 256 (le data (32 * i) 32))

/-- A command packet goes to another device on virtual channel 0 (R305, R338). -/
def sendCmd (dst : Nat) (packet : Bytes) (s : State) : State :=
  sendRaw { ty := tyCmd, vc := 0, dst, src := s.device } (wordsOf packet) s

end Sys2Proof.Machine
end

