-- ==== Sys2Proof/Machine/Ops.lean ====
section
/-!
DEFINITION. The operations every family shares beside those of Base.lean: sessions, and the raising, coalescing and delivery of
events (R352 to R355, R503). The BVX-960 is a block: it takes no processor exception, so there is none to take here.
-/
namespace Sys2Proof.Machine

/-! Sessions and events -/

/-- The open session with an identifier. -/
def State.session (s : State) (id : Nat) : Option Session := s.sessions.find? (fun x => x.id == id)

/-- `s` with one session changed. -/
def State.updSession (s : State) (id : Nat) (f : Session → Session) : State :=
  { s with sessions := s.sessions.map (fun x => if x.id = id then f x else x) }

/-- Whether the PCIe endpoint exists (R327): BRIDGE_EN, and ENABLE of ports 22 and 23; in a group, on the bridge member (R321). -/
def State.bridgeUp (s : State) : Bool :=
  s.flag (Addr.FP_CTRL 22) 2 && s.flag (Addr.FP_CTRL 22) 0 && s.flag (Addr.FP_CTRL 23) 0 && (!s.joined || s.group.bridge == s.member)

/-- Whether a transport's commands, replies and events pass (R327, R338, R361). -/
def State.transportOn (s : State) : Transport → Bool
  | .mgmt => true
  | .fabric => s.flag Addr.GLOBAL_CTRL 0
  | .mailbox => s.flag Addr.GLOBAL_CTRL 1 && s.bridgeUp

/-- The Zephyr count of a region (R353). -/
def State.regionZc (s : State) (r : Nat) : Nat :=
  if r = 0 then s.zc else if r < 0x20 then s.zcBulk (r - 0x10) else s.zcInline (r - 0x20)

/-- An event stamped with the present time and the count of its region (R56, R352). -/
def State.mkEvent (s : State) (opcode tenant : Nat) (body : List Nat := []) (region : Nat := 0) : Event :=
  { opcode, tenant, sec := s.sec, ns := s.ns, zc := s.regionZc region, region, device := s.device, body }

/-- Whether the error sink receives an opcode whatever its mask (R354). -/
def sinkOpcode (o : Nat) : Bool := (0xFF10 ≤ o && o ≤ 0xFF1F) || (0xFF60 ≤ o && o ≤ 0xFF8F) || o == 0xFFB3

/-- Whether session `x` receives event `e` (R354). -/
def receives (sink : Nat) (e : Event) (x : Session) : Bool :=
  ((x.tenant == e.tenant || x.tenant == owner) && x.mask.getLsbD (e.opcode - 0xFF00)) ||
  (e.session != 0 && x.id == e.session) || (sink != 0 && x.id == sink && sinkOpcode e.opcode)

/-- Places in a session's event queue (R355). -/
def eventPlaces : Nat := 4096

/-- EV_EVENTS_LOST (R355). -/
def evEventsLost : Nat := 0xFF02

/-- The session after `e` is queued or lost at PTP time `now` (R355). -/
def enqueueEvent (now : Nat × Nat) (e : Event) (x : Session) : Session :=
  let free := eventPlaces - x.queue.length
  if x.lost = 0 then
    if free = 0 then { x with lost := 1, lostAt := some now }
    else { x with queue := x.queue ++ [(x.eseq + 1, e)], eseq := x.eseq + 1 }
  else if free < 2 then { x with lost := x.lost + 1 }
  else
    let at' := x.lostAt.getD (0, 0)
    let notice : Event := { e with opcode := evEventsLost, body := [x.lost, at'.1, at'.2], count := 1, session := 0, tag := 0, status := 0 }
    { x with queue := x.queue ++ [(x.eseq + 1, notice), (x.eseq + 2, e)], eseq := x.eseq + 2, lost := 0, lostAt := none }

/-- Whether `e` is lost at a session. -/
def losesEvent (x : Session) : Bool :=
  let free := eventPlaces - x.queue.length
  if x.lost = 0 then free == 0 else free < 2

/-- The bytes of an event's body (R352): that of EV_EXCEPTION_PACKET in the layout of R357, a report's own bytes; of the other events the
chapters name the fields and not their places (log 14). -/
def Event.bodyBytes (e : Event) : Bytes :=
  match e.opcode, e.body with
  | 0xFF00, reason :: lport :: pstat :: len :: snap :: hash :: summary :: frame =>
    toBE 1 reason ++ toBE 1 lport ++ toBE 1 pstat ++ zeros 1 ++ toBE 2 len ++ toBE 2 snap ++ toBE 4 hash ++ toBE 16 summary ++ zeros 4 ++
      frame.map (BitVec.ofNat 8)
  | 0xFFA2, report => report.map (BitVec.ofNat 8)
  | op, body => Config.eventBody op body

/-- The parameters of an event packet (R352): the 32-byte prefix, then the body. -/
def Event.params (e : Event) : Bytes :=
  toBE 6 e.sec ++ toBE 4 e.ns ++ toBE 8 e.zc ++ toBE 1 e.region ++ toBE 1 e.tenant ++ toBE 2 e.device ++ toBE 2 e.count ++ zeros 8 ++ e.bodyBytes

/-- A packet sealed under a session key (R335, R341): its header, which is authenticated with it, the ciphertext of its parameters and
the 16-byte tag; KIND is 1 for a reply and 2 for an event. -/
def sealPacket (key : Bytes) (kind seq : Nat) (header params : Bytes) : Bytes :=
  header ++ slice (Config.gcmSeal key (toBE 4 kind ++ toBE 8 seq) header params) 0 (params.length + 16)

/-- The header of a command packet (R335) of VERSION 1. -/
def packetHeader (flags opcode tag tenant target len status session seq : Nat) : Bytes :=
  toBE 1 1 ++ toBE 1 flags ++ toBE 2 opcode ++ toBE 4 tag ++ toBE 2 tenant ++ toBE 2 target ++ toBE 4 len ++ toBE 2 status ++ zeros 2 ++
    toBE 4 session ++ toBE 8 seq

/-- An event packet for a session of tenant `t` (R335, R352): EVENT and TAGGED are set, and it is sealed with KIND 2. -/
def Event.packet (e : Event) (key : Bytes) (session t seq : Nat) : Bytes :=
  sealPacket key 2 seq (packetHeader 6 e.opcode e.tag t e.device e.params.length e.status session seq) e.params

/-- An MSI-X vector is signalled (R328): its interrupt leaves, or waits in the pending bit array while the vector is masked. -/
def signal (v : Nat) (s : State) : State :=
  if bitAt (tabGet msixMasked v s.bridge.msix) 96 then { s with bridge.msixPending := (s.bridge.msixPending ++ [v]).eraseDups }
  else s.emit (.msix v)

/-- An event packet is written to the event ring of the host bridge, and its vector signalled; without room it is dropped and counted
(R328). -/
def ringPacket (opcode : Nat) (packet : Bytes) (out : Output) (s : State) : State :=
  let n := packet.length
  let b := s.bridge
  let used := (b.prod + 2 ^ 32 - b.cons) % 2 ^ 32
  if 256 < used + ceilDiv n 256 then s.bump32 Addr.EVQ_LOST
  else
    signal (1 + (opcode - 0xFF00) % 63)
      ({ s with bridge := { b with ring := tabPut (b.prod % 256) packet b.ring, prod := (b.prod + ceilDiv n 256) % 2 ^ 32 } }.emit out)

/-- One event leaves a session's queue on its transport (R328, R338, R352). -/
def sendEvent (x : Session) (s : State) (q : Nat × Event) : State :=
  let packet := q.2.packet x.key x.id x.tenant q.1
  let out : Output := .event x.id q.1 q.2 packet
  (match x.transport with
   | .mailbox => ringPacket q.2.opcode packet out s
   | .fabric => sendCmd x.peer packet (s.emit out)
   | .mgmt => s.emit out).bump64 Addr.EVENTS_SENT

/-- FW_STATE.STAGE: 0 BOOT_ROM, 1 RUNNING, 2 HANDOVER, 3 RECOVERY (R361). -/
def State.stage (s : State) : Nat := s.field Addr.FW_STATE 0 3

/-- Whether firmware runs on Limik (R361, R481). -/
def State.limik (s : State) : Bool := s.on && s.stage == 1

/-- Whether a tenant exists (R445). -/
def State.tenantExists (s : State) (t : Nat) : Bool := s.flag (Addr.TENANT_EXISTS (t / 32)) (t % 32)

/-- Whether the security controller is in the ERROR state (R466): LIFECYCLE 2. -/
def State.secError (s : State) : Bool := s.field Addr.SEC_STATUS 0 2 == 2

/-- The events of every session whose transport is on leave its queue, oldest first; a handover holds them (R355, R481; log 14). -/
def sendEvents (s : State) : State :=
  let goes (x : Session) : Bool := s.transportOn x.transport && s.stage != 2
  (s.sessions.filter goes).foldl (fun s x => x.queue.foldl (sendEvent x) s)
    { s with sessions := s.sessions.map (fun x => if goes x then { x with queue := [] } else x) }

/-- An event meets cause 1 of an armed trace session that names its opcode (R433). -/
def traceEvent (opcode : Nat) (s : State) : State :=
  match s.obs.trace with
  | some x => if x.eventOp = opcode then { s with obs.trace := some { x with met := x.met ||| 1 } } else s
  | none => s

/-- An event is queued to the sessions of `sel` and sent (R354, R355). -/
def deliverTo (sel : Session → Bool) (e : Event) (s : State) : State :=
  let lost := (s.sessions.filter (fun x => sel x && losesEvent x)).length
  let s1 := { s with sessions := s.sessions.map (fun x => if sel x then enqueueEvent (s.sec, s.ns) e x else x) }
  sendEvents (s1.bump32 Addr.EVENTS_LOST lost)

/-- A raised event is queued to each recipient and sent (R354, R355). -/
def deliver (e : Event) (s : State) : State := deliverTo (receives (s.reg Addr.EVENT_SINK) e) e (traceEvent e.opcode s)

/-- An event of the present instant is raised (R352). -/
def State.raiseEvent (s : State) (opcode tenant : Nat) (body : List Nat := []) (region : Nat := 0) : State :=
  deliver (s.mkEvent opcode tenant body region) s

/-- An event of the owner that is also raised for tenants, each of which receives its own body (R419): the owner's sessions
have the one for the whole device. -/
def State.raiseAmong (s : State) (opcode : Nat) (body : List Nat) (tenants : List (Nat × List Nat)) : State :=
  (tenants.filter (fun t => t.1 != owner)).foldl (fun s t =>
    deliverTo (fun x => x.tenant == t.1 && x.mask.getLsbD (opcode - 0xFF00)) (s.mkEvent opcode t.1 t.2) s) (s.raiseEvent opcode owner body)

/-- A completion event of a command's background work, with its TAG, STATUS and session (R352, R354). -/
def State.raiseFor (s : State) (opcode tenant session tag status : Nat) (body : List Nat := []) (region : Nat := 0) : State :=
  deliver { s.mkEvent opcode tenant body region with session, tag, status } s

/-- The windows of `s` other than one of an opcode and key. -/
def windowsWithout (opcode key : Nat) (l : List Window) : List Window :=
  l.filter (fun w => !(w.event.opcode == opcode && w.key == key))

/-- The window of an opcode and key. -/
def State.window (s : State) (opcode key : Nat) : Option Window :=
  s.windows.find? (fun w => w.event.opcode == opcode && w.key == key)

/-- A coalescing window closes: its event is raised (R503). -/
def closeWindow (opcode key : Nat) (s : State) : State :=
  match s.window opcode key with
  | none => s
  | some w => deliver w.event { s with windows := windowsWithout opcode key s.windows }

/-- A happening of a coalesced event (R503), which COUNT counts up to its largest value (log 14): it joins the open window of its key, its body merged into the first one's by
`merge`, or opens a window of `length` ps. A window already over is closed first. -/
def coalesce (e : Event) (key length : Nat) (merge : List Nat → List Nat → List Nat) (s : State) : State :=
  match s.window e.opcode key with
  | some w =>
    if s.now < w.opened + w.length then
      { s with windows := s.windows.map (fun v =>
          if v.event.opcode = e.opcode ∧ v.key = key then
            { v with event := { v.event with count := min 65535 (v.event.count + 1), body := merge v.event.body e.body } } else v) }
    else
      let s1 := closeWindow e.opcode key s
      { s1 with windows := s1.windows ++ [⟨key, s.now, length, e⟩] }
  | none => { s with windows := s.windows ++ [⟨key, s.now, length, e⟩] }

/-- The first happening's body stands for the window (R503). -/
def keepFirst (a _b : List Nat) : List Nat := a

/-- A coalesced event of the present instant whose body is the first happening's. -/
def State.coalesceEvent (s : State) (opcode tenant key length : Nat) (body : List Nat := []) (region : Nat := 0) : State :=
  coalesce (s.mkEvent opcode tenant body region) key length keepFirst s

/-- EV_C256_UNCORRECTABLE (R366, R399): an uncorrectable word met in a place of R366's table, by the number of its row from 0, and
which of them; coalesced per place (R503). The rows of match entries and of HBM have events of their own. -/
def State.noteUncorr (s : State) (place index : Nat) : State := s.coalesceEvent 0xFF77 owner (place * 2 ^ 16 + index) (ms 1) [place, index]

/-! Commands -/

/-- Who sends a command: the session, its tenant, the TENANT its header names and its TAG (R349). -/
structure Env where
  session : Nat
  sessTenant : Nat
  tenant : Nat
  tag : Nat
  transport : Transport
deriving DecidableEq, Repr

/-- Whether the command comes from an owner session, which acts with the owner's rights (R349). -/
def Env.owner (e : Env) : Bool := e.sessTenant == Sys2Proof.Machine.owner

/-- The action of a command on its parameters (R351): its reply and the state after it. -/
abbrev CmdFn := Env → Bytes → State → Reply × State

/-- A command refused with a status, having changed nothing (R347). -/
def refuse (c : Nat) (s : State) : Reply × State := (st c, s)

/-- A command permitted to the owner only (R349, and the table of its chapter). -/
def ownerOnly (f : CmdFn) : CmdFn := fun e p s => if e.owner then f e p s else refuse St.NOT_PERMITTED s

/-- Whether both signatures of a signature block verify over the SHA-384 of a message under a signing pair (R105, R248). -/
def verifyPair (pair msg sig : Bytes) : Bool :=
  !pair.isEmpty && Config.rsaVerify (pair.take 384) (Config.sha384 msg) (sig.take 384) &&
    Config.slhVerify (pair.drop 384) (Config.sha384 msg) (sig.drop 384)

/-- Bytes of the signature block: RSA-3072 384 B and SLH-DSA-SHA2-192s 16,224 B (R105). -/
def sigBytes : Nat := 16608

/-- How many sessions of the owner are open (R342). -/
def State.ownerSessions (s : State) : Nat := (s.sessions.filter (fun x => x.tenant == owner)).length

end Sys2Proof.Machine
end

