-- ==== Sys2Proof/Machine/Memory.lean ====
section
/-!
DEFINITION. Device memory: HBM by module address (R215, R216), its words' data keys (R449), memory windows (R220) and
retired blocks (R221). Log 9 names what the manual leaves open here.
-/
namespace Sys2Proof.Machine

/-- Bytes of HBM (R28, R215): 768 GiB. -/
def hbmBytes : Nat := 824633720832

/-- The byte stored at a module address: an unlisted byte reads 0 (log 9). -/
def memByte (m : MemState) (a : Nat) : Byte := tabGet 0#8 a m.bytes

/-- Canonical form of memory: addresses strictly rising, no listed byte equal to what an unlisted one reads as. -/
def Memory.wf (m : MemState) : Bool := tabWf (fun _ => 0#8) m.bytes

/-- The data key of a tenant (R449). -/
def State.keyOfTenant (s : State) (t : Nat) : Nat := tabGet 0 t s.dataKey

/-- A byte as tenant `t` reads it: what is stored, or noise where the word was written under another key (R449, log 9). -/
def State.readByte (s : State) (t a : Nat) : Byte :=
  let w := tabGet 0 (a / 32) s.mem.keyOf
  let b := memByte s.mem a
  if w = 0 ∨ w = s.keyOfTenant t + 1 then b else Config.noise a b (w - 1) (s.keyOfTenant t)

/-- `n` bytes from address `a` as tenant `t` reads them. -/
def State.readBytes (s : State) (t a n : Nat) : Bytes := (List.range n).map (fun i => s.readByte t (a + i))

/-- One byte of memory set. -/
def memPut (m : MemState) (a : Nat) (b : Byte) : MemState := { m with bytes := tabSet 0#8 a b m.bytes }

/-- Consecutive bytes of memory set. -/
def memWrite (m : MemState) (a : Nat) : Bytes → MemState
  | [] => m
  | b :: bs => memWrite (memPut m a b) (a + 1) bs

/-- The words of `n` bytes from `a` marked as written under a key. -/
def memMark (m : MemState) (a n key : Nat) : MemState :=
  { m with keyOf := (List.range (ceilDiv (a % 32 + n) 32)).foldl (fun k i => tabSet 0 (a / 32 + i) (key + 1) k) m.keyOf }

/-- The key under which the words of a lost page count as written: that of no tenant, so that their contents are noise (R221). -/
def lostKey : Nat := 2 ^ 64

/-- The contents of a page of a stack at a stack offset are lost (R221): its 16 chunks of HBM_ILV (R216). -/
def losePage (stack off : Nat) (m : MemState) : MemState :=
  (List.range 16).foldl (fun m i => memMark m ((off / 256 + i) * 4096 + stack * 256) 256 lostKey) m

/-- Bytes written by tenant `t` at address `a`, under its data key (R449). -/
def State.writeBytes (s : State) (t a : Nat) (bs : Bytes) : State :=
  { s with mem := memMark (memWrite s.mem a bs) a bs.length (s.keyOfTenant t) }

/-- The window `w` of tenant `t`. -/
def State.memWindow (s : State) (t w : Nat) : MemWindow := tabGet {} (16 * t + w) s.mem.windows

/-- Whether a window covers a 64 KiB block with the permission asked. -/
def MemWindow.covers (w : MemWindow) (block : Nat) (write : Bool) : Bool :=
  decide (w.base ≤ block ∧ block < w.base + w.length) && (if write then w.write else w.read)

/-- The 64 KiB blocks of `n` bytes from `a`. -/
def blocksOf (a n : Nat) : List Nat := if n = 0 then [] else (List.range ((a + n - 1) / 65536 - a / 65536 + 1)).map (fun i => a / 65536 + i)

/-- Whether every block of a range lies in some window of tenant `t` (R219, R220). -/
def State.inWindows (s : State) (t a n : Nat) (write : Bool) : Bool :=
  decide (a + n ≤ hbmBytes) && (blocksOf a n).all (fun b => (List.range 16).any (fun w => (s.memWindow t w).covers b write))

/-- Whether a 64 KiB block contains part of a retired page (R221): page `p` of any stack lies in block `p` of HBM_ILV. -/
def State.blockRetired (s : State) (b : Nat) : Bool := s.mem.retired.any (fun r => r.2 == b)

/-- Whether a range touches a retired block. -/
def State.touchesRetired (s : State) (a n : Nat) : Bool := (blocksOf a n).any s.blockRetired

/-- The stack and stack offset of a module address (R216). -/
def stackOf (a : Nat) : Nat × Nat := (a / 256 % 16, a / 4096 * 256 + a % 256)

/-- The module address of a stack offset (R216). -/
def moduleAddr (stack o : Nat) : Nat := o / 256 * 4096 + stack * 256 + o % 256

/-- The stacks of `n` bytes from a module address with the bytes of each chunk (R216). -/
def chunksOf (a n : Nat) : List (Nat × Nat) :=
  if n = 0 then [] else
  (List.range ((a + n - 1) / 256 - a / 256 + 1)).map (fun i =>
    let c := a / 256 + i
    (c % 16, min (a + n) (256 * c + 256) - max a (256 * c)))

/-- The HBM controllers of `n` bytes from a module address count them (R362). -/
def countHbm (write : Bool) (a n : Nat) (s : State) : State :=
  (chunksOf a n).foldl (fun s x => s.bump64 (if write then Addr.WR_BYTES x.1 else Addr.RD_BYTES x.1) x.2) s

/-- Bytes written to HBM by an engine of the device, and counted (R362, R449). -/
def State.storeBytes (s : State) (t a : Nat) (bs : Bytes) : State := countHbm true a bs.length (s.writeBytes t a bs)

end Sys2Proof.Machine
end

