-- ==== Sys2Proof/Machine/Beat.lean ====
section
/-!
DEFINITION. The Zephyr beat and the time base (R36 to R60): issue, stretches, catch-up and rebase, Zephyr counts and calms
(R43 to R45, R408), halts, gust releases, the time of day and its disciplines.
Logs 16 and 20 name what the manual leaves open here.
-/
namespace Sys2Proof.Machine

/-! Event opcodes of this chapter (R356). -/
def evSpokeDetached : Nat := 0xFF10
def evStreamHang : Nat := 0xFF11
def evBeatStretch : Nat := 0xFF12
def evBeatRebase : Nat := 0xFF13
def evGroupBeatLag : Nat := 0xFF14
def evBeatBelowFloor : Nat := 0xFF15
def evGroupRefChange : Nat := 0xFF16
def evZcJoin : Nat := 0xFF17
def evTimeHoldover : Nat := 0xFF18
def evTimeStep : Nat := 0xFF19

/-! Cells and clusters -/

/-- The cells of module cluster k (R5). -/
def clusterCells (k : Nat) : List Nat := (List.range 16).map (fun i => 16 * k + i)
/-- CELL_STATE.STATE of cell c (R25): 0 UNCONFIGURED, 1 INLINE, 2 BULK, 3 FENCED. -/
def State.cellState (s : State) (c : Nat) : Nat := s.field (Addr.CELL_STATE c) 0 2
/-- The tenant holding cell c (R224). -/
def State.cellTenant (s : State) (c : Nat) : Nat := s.field (Addr.CELL_STATE c) 8 8
/-- The cells of a cluster in a state. -/
def State.cellsIn (s : State) (k st : Nat) : List Nat := (clusterCells k).filter (fun c => s.cellState c == st)
/-- Whether a cluster's spoke is detached (R37). -/
def State.detached (s : State) (k : Nat) : Bool := s.flag Addr.SPOKE_DETACHED k
/-- Whether a cluster is halted (R47). -/
def State.halted (s : State) (k : Nat) : Bool := s.flag Addr.HALTED k

/-- Whether a job is live (R261). -/
def Job.live (j : Job) : Bool := j.state < 5
/-- The clusters of a job. -/
def Job.clusters (j : Job) : List Nat := (j.cells.map (· / 16)).eraseDups
/-- The job with an identifier, of any tenant. -/
def State.job (s : State) (tenant id : Nat) : Option Job := s.jobs.find? (fun j => j.tenant == tenant && j.id == id)
/-- `s` with one job changed. -/
def State.updJob (s : State) (tenant id : Nat) (f : Job → Job) : State :=
  { s with jobs := s.jobs.map (fun j => if j.tenant = tenant ∧ j.id = id then f j else j) }
/-- The live job holding a cell. -/
def State.jobOfCell (s : State) (c : Nat) : Option Job := s.jobs.find? (fun j => j.live && j.cells.contains c)

/-- Whether beat `k` of a domain is calmed at setting `n` (R408). -/
def calmed (k n : Nat) : Bool := k * n / 256 < (k + 1) * n / 256

/-- The calm setting of a cluster's inline domain on the present beat (R408, R414). -/
def State.inlineCalm (s : State) (k : Nat) : Nat :=
  if bitAt s.beat.calmInline (16 + k) then bits s.beat.calmInline 0 9 else 0

/-- The calm settings in force become those of the beat that is delivered (R408). -/
def latchCalms (s : State) : State :=
  { s with beat.calmBulk := s.field Addr.CALM_BULK 0 9, beat.calmCopy := s.field Addr.CALM_COPY 0 9
           beat.calmFabric := s.field Addr.CALM_FABRIC 0 9, beat.calmInline := s.reg Addr.CALM_INLINE }

/-! The root's schedule -/

/-- BEAT_CTRL.MODE: 0 TRACKING, 1 FIXED, 2 GROUP. -/
def State.beatMode (s : State) : Nat := s.field Addr.BEAT_CTRL 0 2
/-- The mode in force until the next issued beat (R39). -/
def State.modeInForce (s : State) : Nat := s.beat.modeWas.getD s.beatMode

/-- The schedule instant of beat `n` in FIXED and GROUP modes (R38): t0 + (n − n0) × P. -/
def scheduleOf (b : BeatState) (n : Nat) : Nat := b.t0 + ceilDiv ((n - b.n0) * 1000000) b.rate

/-- Whether early beats may exceed the rated rate (R38): the BVX-960-LC with BOOST_EN. -/
def State.boost (s : State) : Bool := s.flag Addr.BEAT_CTRL 2 && s.field Addr.DEVICE_ID 16 4 == 0

/-- Whether the root is catching up (R41). -/
def State.catchingUp (s : State) : Bool := s.flag Addr.BEAT_STATUS 3

/-- The earliest-issue instant of the next beat (R38, R41). -/
def State.earliest (s : State) : Nat :=
  let b := s.beat
  if s.modeInForce = 0 then b.lastIssue + (if s.boost then 417 else 500)
  else if s.catchingUp then max (scheduleOf b (s.zc + 1)) (b.lastIssue + 500)
  else scheduleOf b (s.zc + 1)

/-- The due instant of the next beat (R40). -/
def State.due (s : State) : Nat :=
  if s.modeInForce = 0 then s.beat.lastIssue + 500 else s.earliest

/-- ZC_LAG at instant `t` under a schedule: the scheduled beat number less the count (R41). -/
def lagAt (b : BeatState) (zc t : Nat) : Int := ((b.n0 + (t - b.t0) * b.rate / 1000000 : Nat) : Int) - (zc : Int)

/-- ZC_LAG now (R41): it grows while a beat waits, and is 0 in TRACKING mode, which has no schedule (R39). -/
def State.lagNow (s : State) : Int := if s.modeInForce = 0 then 0 else lagAt s.beat s.zc s.now

/-- LAGGING: ZC_LAG is above LAG_LIMIT (R60). -/
def State.lagging (s : State) : Bool := decide (((s.reg Addr.LAG_LIMIT : Nat) : Int) < s.lagNow)

/-- BEAT_RATE_NOW (R60): the beats issued in the last 1 µs. -/
def State.rateNow (s : State) : Nat := (s.beat.recent.filter (fun x => decide (s.now < x + 1000000))).length

/-- The body of EV_BEAT_STRETCH over a window: first and last ZC_ROOT and the late spokes (R40). -/
def mergeStretch (a b : List Nat) : List Nat := [a.getD 0 0, b.getD 1 0, a.getD 2 0 ||| b.getD 2 0]

/-! Zephyr counts of the clusters -/

/-- One cell counter of the beat. -/
def bumpCells (f : Nat → Nat) (cs : List Nat) (s : State) : State := cs.foldl (fun s c => s.bump64 (f c)) s

/-- A beat is delivered to a cluster's bulk domain (R43, R45): it is calmed, or ZC_BULK advances. -/
def deliverBulk (k : Nat) (s : State) : State :=
  let cells := s.beat.released.filter (fun c => c / 16 == k && s.cellState c == 2)
  if cells.isEmpty || s.halted k || s.detached k then s else
  let kb := tabGet 0 k s.beat.kBulk
  let kc := tabGet 0 k s.beat.kCopy
  let s1 := { s with beat.kBulk := tabSet 0 k (kb + 1) s.beat.kBulk, beat.kCopy := tabSet 0 k (kc + 1) s.beat.kCopy }
  if calmed kb s.beat.calmBulk then bumpCells Addr.CALMED_BEATS cells s1 else s1.bump64 (Addr.ZC_BULK k)

/-- A beat is delivered to a cluster's inline domain (R43, R45, R414). -/
def deliverInline (k : Nat) (s : State) : State :=
  let cells := s.cellsIn k 1
  if cells.isEmpty || s.detached k then s else
  let ki := tabGet 0 k s.beat.kInline
  let s1 := { s with beat.kInline := tabSet 0 k (ki + 1) s.beat.kInline }
  if calmed ki (s.inlineCalm k) then bumpCells Addr.CALMED_BEATS cells s1 else s1.bump64 (Addr.ZC_INLINE k)

/-- A beat is delivered to the domain a gust sequence counts on (R49, R408): it is calmed, or the sequence's count advances. -/
def countGust (s : State) (g : GustSequence) : GustSequence :=
  let n := if g.inl then s.inlineCalm g.cluster else s.beat.calmBulk
  { g with k := g.k + 1, run := if calmed g.k n then g.run else g.run + 1 }

/-- Cells whose ramp has run its R beats leave it (R49). -/
def endRamps (s : State) : State :=
  let excess := s.beat.ramps.filter (fun r => r.2 ≤ (if s.cellState r.1 = 1 then s.zcInline (r.1 / 16) else s.zcBulk (r.1 / 16)))
  let left := s.beat.ramps.filter (fun r => !(excess.map Prod.fst).contains r.1)
  let s1 := excess.foldl (fun s r => s.setFlag (Addr.CELL_STATE r.1) 4 false) { s with beat.ramps := left }
  (excess.map (fun r => r.1 / 16)).eraseDups.foldl
    (fun s k => s.setFlag (Addr.CL_STATE k) 3 (left.any (fun r => r.1 / 16 == k))) s1

/-- The beat reaches every cluster. -/
def deliverBeat (s : State) : State :=
  let s0 := { s with beat := { s.beat with kSoft := s.beat.kSoft + 1, gusts := s.beat.gusts.map (countGust s) } }
  let s1 := (List.range 16).foldl (fun s k => deliverInline k (deliverBulk k s)) s0
  let running := (s1.beat.released).filter (fun c => s1.flag (Addr.CELL_STATE c) 2)
  endRamps (bumpCells Addr.BUSY_BEATS running s1)

/-- Spokes named for re-attachment rejoin from this beat (R37, R44): their clusters stay halted, and ZC_INLINE is loaded
from ZC_ROOT, which this beat has just reached. -/
def reattachSpokes (s : State) : State :=
  let m := setBits s.beat.reattach 20
  let s1 := { s with beat.reattach := 0 }
  m.foldl (fun s i =>
    let s := s.setFlag Addr.SPOKE_DETACHED i false
    if i < 16 then
      (s.setFlag (Addr.CL_STATE i) 1 false).setReg (Addr.ZC_INLINE i) s.zc
    else s) s1

/-- GROUP_ALIGN.OFFSET after a beat issued at `t` in GROUP mode (R52): the beat's distance from its schedule instant in units
of 125 ps. -/
def alignGroup (t : Nat) (s : State) : State :=
  let off : Int := ((t : Int) - (scheduleOf s.beat s.zc : Int)) / 125
  s.setField Addr.GROUP_ALIGN 0 16 (unsigned 16 (max (-32768) (min 32767 off)))

/-- The schedule after a beat is issued at `t` (R39, R41): a new origin, catch-up, a rebase. Bit 1 of the stored BEAT_STATUS
says that EV_GROUP_BEAT_LAG has been raised for the present lag; LAGGING itself is read from the lag (`State.lagging`). -/
def reschedule (t : Nat) (stretched : Bool) (s : State) : State :=
  let mode := s.beatMode
  if mode = 0 then
    ({ s with beat.modeWas := none, beat.newOrigin := false }.setFlag Addr.BEAT_STATUS 3 false).setFlag Addr.BEAT_STATUS 1 false
  else if s.beat.newOrigin ∨ (s.beat.modeWas.isSome ∧ mode = 1) then
    let rate := s.reg Addr.BEAT_RATE_TARGET
    let s1 := { s with beat.t0 := t, beat.n0 := s.zc, beat.rate := rate, beat.modeWas := none, beat.newOrigin := false }
    (s1.setFlag Addr.BEAT_STATUS 3 false).setFlag Addr.BEAT_STATUS 1 false
  else
    let s := { s with beat.modeWas := none }
    let lag := lagAt s.beat s.zc t
    let behind := (stretched || s.catchingUp) && scheduleOf s.beat (s.zc + 1) < t + 500
    let s1 := ((if mode = 2 then alignGroup t s else s).setFlag Addr.BEAT_STATUS 3 behind).setFlag Addr.BEAT_STATUS 1
      (decide (((s.reg Addr.LAG_LIMIT : Nat) : Int) < lag))
    if mode = 1 ∧ lag > 1024 then
      let s2 := { s1 with beat.t0 := t, beat.n0 := s1.zc }
      let s3 := ((s2.setFlag Addr.BEAT_STATUS 1 false).setFlag Addr.BEAT_STATUS 2 true).bump32 Addr.REBASE_COUNT
      (s3.setFlag Addr.BEAT_STATUS 3 false).raiseEvent evBeatRebase owner [lag.toNat]
    else if mode = 2 ∧ ((s.reg Addr.LAG_LIMIT : Nat) : Int) < lag ∧ !s.flag Addr.BEAT_STATUS 1 then s1.raiseEvent evGroupBeatLag owner [lag.toNat]
    else s1

/-- The spokes of a list that the root still waits for (R36, R37): 0 stream, 1 to 4 dies C0 to C3, 5 to 20 clusters 0 to 15, those
not detached. -/
def State.attachedSpokes (s : State) (late : List Nat) : List Nat :=
  late.filter (fun i => i < 21 && !(1 ≤ i && s.flag Addr.SPOKE_DETACHED (if i < 5 then 15 + i else i - 5)))

/-- The next beat is issued at `t` (R36 to R45): late acknowledgements stretch it, the counts advance, and what waits for
the next issued beat takes effect. -/
def issueBeat (t : Nat) (late lateCells : List Nat) (s : State) : State :=
  let stretched := decide (s.due < t)
  let mode := s.modeInForce
  let interval := t - s.beat.lastIssue
  let spokes := ofBits (s.attachedSpokes late)
  let s := s.bump64 Addr.ZC_ROOT
  let recent := t :: s.beat.recent.filter (fun x => decide (t < x + 1000000))
  let s := { s with beat.lastIssue := t, beat.lastTime := s.timeBase, beat.recent := recent }
  let s := if stretched then
      let s := bumpCells Addr.STRETCH_BEATS (lateCells.filter (· < 256)) (s.bump64 Addr.STRETCH_COUNT)
      if mode ≠ 0 ∨ s.flag Addr.BEAT_CTRL 3 then
        coalesce (s.mkEvent evBeatStretch owner [s.zc, s.zc, spokes]) 0 (us 1) mergeStretch s
      else s
    else s
  let s := if interval > 2000 then
      ((s.bump32 Addr.BELOW_FLOOR_COUNT).setFlag Addr.BEAT_STATUS 0 true).coalesceEvent evBeatBelowFloor owner 0 (us 1) [interval]
    else s
  let s := reschedule t stretched s
  let s := if s.beat.snapPending then
      (((({ s with beat.snapPending := false }).setReg Addr.SNAP_ZC s.zc).setReg Addr.SNAP_SEC s.sec).setReg Addr.SNAP_NS s.ns)
    else s
  reattachSpokes (deliverBeat (latchCalms s))

/-- Whether a beat may be issued at `t`: the earliest-issue instant is reached, and it is no later than due unless the
acknowledgement of an attached spoke was late (R36, R40). The capture of a freeze on this beat goes before it (R424; log 51). -/
def State.mayIssue (s : State) (t : Nat) (late : List Nat) : Bool :=
  s.on && decide (s.earliest ≤ t) && (decide (t ≤ s.due) || !(s.attachedSpokes late).isEmpty) && s.obs.freezeAt.all (fun f => f.1 != s.zc + 1)

/-- BEAT_ISSUE (R36). -/
def execBeatIssue (t : Nat) (late lateCells : List Nat) (s : State) : Host.Outcome State Fault Refusal :=
  .next (if s.mayIssue t late then issueBeat t late lateCells (advance t s) else s)

/-- STREAM_HANG (R37): the stream spoke is silent for SPOKE_TIMEOUT; the beat keeps waiting. -/
def execStreamHang (t : Nat) (s : State) : Host.Outcome State Fault Refusal :=
  .next (if s.on ∧ s.beat.lastIssue + us (s.reg Addr.SPOKE_TIMEOUT) ≤ t then (advance t s).raiseEvent evStreamHang owner else s)

/-! Halt, release and resume -/

/-- The causes for which a cluster is halted. -/
def State.haltCauses (s : State) (k : Nat) : List HaltCause := tabGet [] k s.beat.causes

/-- HALTED, CL_STATE and CELL_STATE of a cluster as its causes say: halted for any cause (R60, R224, R225). -/
def showHalt (k : Nat) (s : State) : State :=
  let h := !(s.haltCauses k).isEmpty
  let s := (s.setFlag Addr.HALTED k h).setFlag (Addr.CL_STATE k) 0 h
  (clusterCells k).foldl (fun s c => s.setFlag (Addr.CELL_STATE c) 3 h) s

/-- The causes of a cluster set. -/
def setCauses (k : Nat) (l : List HaltCause) (s : State) : State :=
  showHalt k { s with beat.causes := tabSet [] k l s.beat.causes }

/-- Clusters halt for a cause (R47): their counts freeze and their gusts not yet released stay unreleased (R59). A detach halts
every launch domain, the inline one included (R37); every other cause halts the BULK cells. -/
def haltClusters (why : HaltCause) (ks : List Nat) (s : State) : State :=
  let s1 := ks.foldl (fun s k => setCauses k (if (s.haltCauses k).contains why then s.haltCauses k else s.haltCauses k ++ [why]) s) s
  let stops (c : Nat) : Bool := ks.contains (c / 16) && (s1.cellState c == 2 || why == .spoke)
  { s1 with
    beat.gusts := if why = .spoke then s1.beat.gusts else
      (s1.beat.gusts.map (fun (g : GustSequence) => { g with cells := g.cells.filter (fun c => !stops c) })).filter (fun g => !g.cells.isEmpty)
    beat.released := s1.beat.released.filter (fun c => !stops c) }

/-- Clusters leave the halt for some causes; one that another cause holds stays halted. -/
def unhaltClusters (whys : List HaltCause) (ks : List Nat) (s : State) : State :=
  ks.foldl (fun s k => setCauses k ((s.haltCauses k).filter (fun w => !whys.contains w)) s) s

/-- The gust size, interval and ramp of GUST_CTRL (R49, R60). -/
def State.gustSize (s : State) : Nat := 4 * 2 ^ s.field Addr.GUST_CTRL 0 2
def State.gustInterval (s : State) : Nat := s.field Addr.GUST_CTRL 16 11
def State.gustRamp (s : State) : Nat := 8 * 2 ^ s.field Addr.GUST_CTRL 2 2

/-- The count a gust sequence runs on (R49), as far as it has come. -/
def GustSequence.count (g : GustSequence) : Nat := g.base + g.run

/-- The beat on which a sequence's next gust is due (R49): b + g × I. -/
def GustSequence.due (g : GustSequence) : Nat := g.base + g.next * g.interval

/-- One gust of a sequence is released (R49): its cells begin their ramp; the slot of a detached cluster passes empty
(R59). A bulk cluster joins the job's one beat frame at its first release (R43, R47), and takes the calm phase of the sequence,
which counts from the release beat of gust 0 (DESIGN CHOICE, log 16). -/
def releaseGust (g : GustSequence) (s : State) : State :=
  let cells := (g.cells.take g.size).filter (fun c => !s.detached (c / 16) && !(s.haltCauses (c / 16)).contains .spoke && !s.beat.released.contains c)
  let left := g.cells.drop g.size
  let frame := g.count
  let s1 := if g.inl then s else
    ((cells.map (· / 16)).eraseDups).foldl (fun s k =>
      if s.beat.released.any (fun c => c / 16 == k && s.cellState c == 2) then s
      else
        let s := s.setReg (Addr.ZC_BULK k) frame
        { s with beat.kBulk := tabSet 0 k g.k s.beat.kBulk, beat.kCopy := tabSet 0 k g.k s.beat.kCopy }) s
  let s2 := cells.foldl (fun s c => (s.setFlag (Addr.CELL_STATE c) 4 true).setFlag (Addr.CL_STATE (c / 16)) 3 true) s1
  let others := s2.beat.gusts.filter (fun (x : GustSequence) => x.id != g.id)
  { s2 with
    beat.released := (s2.beat.released ++ cells).eraseDups
    beat.ramps := cells.foldl (fun r c => tabPut c ((if g.inl then s2.zcInline (c / 16) else frame) + s2.gustRamp) r) s2.beat.ramps
    beat.gusts := if left.isEmpty then others else others ++ [{ g with cells := left, next := g.next + 1 }] }

/-- A release begins (R49): the cells taking part are ranked in ascending number, and gust 0 leaves on the release beat,
which is beat 0 of every calmed domain (R408). An inline entry over several clusters, whose counts and calms may differ, counts
its interval on ZC_INLINE of the lowest-numbered one (DESIGN CHOICE, log 16). -/
def startRelease (inl : Bool) (cells : List Nat) (s : State) : State :=
  match sortBy (fun a b => decide (a ≤ b)) cells with
  | [] => s
  | c0 :: cs =>
    let k := c0 / 16
    let g : GustSequence := { id := s.beat.nextGust, cluster := k, inl, base := if inl then s.zcInline k else s.zcBulk k, next := 0,
                              size := s.gustSize, interval := s.gustInterval, cells := c0 :: cs }
    let ks := (cells.map (· / 16)).eraseDups
    let b := s.beat
    let b1 : BeatState := if inl then { b with kInline := ks.foldl (fun t k => tabSet 0 k 1 t) b.kInline }
      else { b with kBulk := ks.foldl (fun t k => tabSet 0 k 1 t) b.kBulk, kCopy := ks.foldl (fun t k => tabSet 0 k 1 t) b.kCopy }
    releaseGust g { s with beat := { b1 with nextGust := b.nextGust + 1, gusts := b1.gusts ++ [g] } }

/-- The state of a job whose cells are released (R261): HALTED while HALT_MASK holds a cluster of it, else RUNNING. -/
def State.runState (s : State) (j : Job) : Nat := if j.clusters.any (fun k => (s.haltCauses k).contains .mask) then 3 else 0

/-- The state a job shows (R261): one at a barrier or being checkpointed is HALTED while HALT_MASK holds a cluster of it. -/
def State.shownState (s : State) (j : Job) : Nat := if j.state = 1 ∨ j.state = 2 then (if s.runState j = 3 then 3 else j.state) else j.state

/-- The bank of a BULK cell's program store that JOB_START wrote becomes the active one (R207). -/
def activateBank (c : Nat) (s : State) : State :=
  let b := s.reg (Addr.PROG_BANK c)
  if s.cellState c = 2 ∧ bitAt b 1 then
    s.setReg (Addr.PROG_BANK c) (1 - b % 2 + (tabGet {} (1 - b % 2) (tabGet {} c s.cells).banks).mode * 4)
  else s

/-- The cells of a job in the clusters of `ks` that nothing halts are released as one gust sequence (R49); with the first gust of a job
the banks that its start wrote become active in all its cells (R207). -/
def releaseJob (j : Job) (ks : List Nat) (s : State) : State :=
  let cells := j.cells.filter (fun c => ks.contains (c / 16) && s.cellState c == 2 && !s.halted (c / 16))
  startRelease false cells (if cells.isEmpty then s else j.cells.foldl (fun s c => activateBank c s) s)

/-- GUST_RELEASE (R49): the next gust of sequence `id` is released once its count reaches b + g × I. -/
def execGustRelease (t id : Nat) (s : State) : Host.Outcome State Fault Refusal :=
  .next (match s.beat.gusts.find? (fun (g : GustSequence) => g.id == id) with
    | some g => if g.due ≤ g.count then releaseGust g (advance t s) else s
    | none => s)

/-- Whether a mask names a cluster of a live job but omits another cluster of it (R47). -/
def splitsJob (mask : Nat) (s : State) : Bool :=
  s.jobs.any (fun j => j.live && j.clusters.any (fun k => bitAt mask k) && j.clusters.any (fun k => !bitAt mask k))

/-- A write of HALT_MASK (R47): the halt is armed, or refused. HALT_AT is taken as it stands at the write, and a second arming
replaces a first whose beat has not come (DESIGN CHOICE, log 57). -/
def wrHaltMask (v : Nat) (s : State) : Nat × State :=
  let mask := v % 2 ^ 16
  if (setBits mask 16).any (fun k => !(s.cellsIn k 1).isEmpty) then (St.NOT_PERMITTED, s)
  else if splitsJob mask s ∨ s.reg Addr.HALT_AT ≤ s.zc then (St.BAD_PARAM, s)
  else (St.OK, { s.setReg Addr.HALT_MASK mask with beat.haltArm := some (mask, s.reg Addr.HALT_AT) })

/-- A write of RESUME_MASK (R47): as HALT_MASK, RESUME_AT is taken at the write and the later arming replaces the earlier one
(DESIGN CHOICE, log 57). -/
def wrResumeMask (v : Nat) (s : State) : Nat × State :=
  let mask := v % 2 ^ 16
  if s.reg Addr.RESUME_AT ≤ s.zc ∨ splitsJob mask s then (St.BAD_PARAM, s)
  else (St.OK, { s.setReg Addr.RESUME_MASK mask with beat.resumeArm := some (mask, s.reg Addr.RESUME_AT) })

/-- EV_JOB_STATE (R261). -/
def evJobState : Nat := 0xFF45

/-- A job enters a state, which EV_JOB_STATE reports (R261); that of ENDED notes a checkpoint request that lapses (R267). -/
def setJobState (tenant id st status : Nat) (s : State) : State :=
  match s.job tenant id with
  | none => s
  | some j =>
    let s1 := s.updJob tenant id (fun j => { j with state := st, lastStatus := status, energyEnd := if 5 ≤ st then s.reg Addr.ENERGY else j.energyEnd })
    let new := s1.shownState { j with state := st }
    if s.shownState j = new then s1 else s1.raiseEvent evJobState tenant ([id, new, j.lastStep, status] ++ (if st = 5 then [b2n j.ckptAsked] else []))

/-- Jobs at a barrier or being checkpointed that HALT_MASK has halted, or has let go, since `before` say so (R261). -/
def tellHalted (before s : State) : State :=
  (s.jobs.filter (fun j => (j.state == 1 || j.state == 2) && before.shownState j != s.shownState j)).foldl (fun s j =>
    s.raiseEvent evJobState j.tenant [j.id, s.shownState j, j.lastStep, j.lastStatus]) s

/-- Jobs with a cluster in `ks` and in state `a` enter state `b`. -/
def moveJobs (ks : List Nat) (a b : Nat) (s : State) : State :=
  (s.jobs.filter (fun j => j.state == a && j.clusters.any ks.contains)).foldl (fun s j => setJobState j.tenant j.id b 0 s) s

/-- CLUSTER_HALT (R47): on beat HALT_AT the armed clusters halt and their jobs report HALTED (R261). -/
def execClusterHalt (t : Nat) (s : State) : Host.Outcome State Fault Refusal :=
  .next (match s.beat.haltArm with
    | some (mask, n) =>
      if n ≤ s.zc then
        let ks := setBits mask 16
        moveJobs ks 0 3 (tellHalted s (haltClusters .mask ks { advance t s with beat.haltArm := none }))
      else s
    | none => s)

/-- The clusters `ks` resume (R47): those not detached leave the halts of HALT_MASK and of a detach, and the cells of each job
there, and the INLINE cells that a detach halted, are released in gusts (R49). A cluster that a primer pass or a barrier holds
stays halted until that ends. -/
def resumeClusters (ks : List Nat) (s : State) : State :=
  let up := ks.filter (fun k => !s.detached k)
  let back := up.filter (fun k => (s.haltCauses k).all (fun w => w == .mask || w == .spoke))
  let s1 := moveJobs up 3 0 (tellHalted s (unhaltClusters [.mask, .spoke] up s))
  let s2 := (s1.jobs.filter (fun j => j.live && j.clusters.any back.contains)).foldl (fun s j => releaseJob j back s) s1
  startRelease true ((back.flatMap (fun k => s2.cellsIn k 1)).filter (fun c =>
    !s2.beat.released.contains c && !s2.beat.gusts.any (fun (g : GustSequence) => g.cells.contains c))) s2

/-- CLUSTER_RESUME (R47): on beat RESUME_AT. -/
def execClusterResume (t : Nat) (s : State) : Host.Outcome State Fault Refusal :=
  .next (match s.beat.resumeArm with
    | some (mask, n) =>
      if n ≤ s.zc then resumeClusters ((setBits mask 16).filter s.halted) { advance t s with beat.resumeArm := none } else s
    | none => s)

/-! Writes of the beat registers -/

/-- A write of BEAT_CTRL (R38, R39, R331). -/
def wrBeatCtrl (v : Nat) (s : State) : Nat × State :=
  let m := v % 4
  if m = 3 then (St.BAD_PARAM, s)
  else if m ≠ s.beatMode ∧ (s.joined ∨ m = 2) then (St.NOT_PERMITTED, s)
  else
    let s1 := s.setReg Addr.BEAT_CTRL (v % 16)
    if m = s.beatMode then (St.OK, s1)
    else (St.OK, { s1 with beat.modeWas := some s.modeInForce })

/-- A write of BEAT_RATE_TARGET (R39, R331). -/
def wrBeatRateTarget (v : Nat) (s : State) : Nat × State :=
  let r := v % 4096
  if s.joined ∨ s.beatMode = 2 then (St.NOT_PERMITTED, s)
  else if r < 500 ∨ 2000 < r then (St.BAD_PARAM, s)
  else
    let s1 := s.setReg Addr.BEAT_RATE_TARGET r
    (St.OK, if s.beatMode = 1 then { s1 with beat.newOrigin := true } else s1)

/-- A write of SPOKE_REATTACH (R37): from the next issued beat. -/
def wrSpokeReattach (v : Nat) (s : State) : Nat × State :=
  (St.OK, { s with beat.reattach := s.beat.reattach ||| (v % 2 ^ 20 &&& s.reg Addr.SPOKE_DETACHED) })

/-- A write of SNAP (R56): the pair is taken at the next root beat. -/
def wrSnap (v : Nat) (s : State) : Nat × State := (St.OK, if bitAt v 0 then { s with beat.snapPending := true } else s)

/-- A write of GUST_CTRL (R49, R50, R60). -/
def wrGustCtrl (v : Nat) (s : State) : Nat × State :=
  let i := bits v 16 11
  let r := 8 * 2 ^ bits v 2 2
  if i < 32 ∨ 1024 < i ∨ i < r then (St.BAD_PARAM, s) else (St.OK, s.setReg Addr.GUST_CTRL (putBits (v % 16) 16 11 i))



/-! The time base -/

/-- TIME_CTRL.SOURCE: 0 FREE, 1 PTP, 2 PPS, 3 GROUP. -/
def State.timeSource (s : State) : Nat := s.field Addr.TIME_CTRL 0 2
/-- TIME_CTRL.TIME_STATE: 0 FREE_RUN, 1 ACQUIRING, 2 LOCKED, 3 HOLDOVER. -/
def State.timeState (s : State) : Nat := s.field Addr.TIME_CTRL 4 3

/-- A write of TIME_CTRL (R55, R331): SOURCE, PPS_OUT_EN, STEP_EN; TIME_STATE is read-only. -/
def wrTimeCtrl (v : Nat) (s : State) : Nat × State :=
  let src := v % 4
  if src ≠ s.timeSource ∧ s.joined ∧ (!s.isManager ∨ src = 3) then (St.NOT_PERMITTED, s)
  else
    let st' := if src = s.timeSource then s.timeState else 0
    let s1 := s.setReg Addr.TIME_CTRL (v % 16 + st' * 16)
    (St.OK, if src = s.timeSource then s1 else { s1 with time.good := 0, time.lastPps := none })

/-- A step of the time base by a signed number of nanoseconds, which EV_TIME_STEP reports (R55). -/
def stepTime (dns : Int) (s : State) : State :=
  let s1 := { s with time.tod := s.time.tod + dns * 1000000000000, time.fill := s.time.fill + max 0 (dns * 1000000000000) }
  s1.raiseEvent evTimeStep owner [s.sec, s.ns, s1.sec, s1.ns, s.zc]

/-- A write of TIME_STEP_NS (R60). -/
def wrTimeStepNs (v : Nat) (s : State) : Nat × State :=
  if s.flag Addr.TIME_CTRL 3 then (St.OK, stepTime (signed 32 v) s) else (St.NOT_PERMITTED, s)

/-- A write of TIME_FREQ_ADJ: ±500,000 ppb (R60). -/
def wrTimeFreqAdj (v : Nat) (s : State) : Nat × State :=
  let i := signed 32 v
  if i < -500000 ∨ 500000 < i then (St.BAD_PARAM, s) else (St.OK, s.setReg Addr.TIME_FREQ_ADJ (v % 2 ^ 32))

/-- TIME_STATE after a servo update (R55): LOCKED once the offset has been at most 50 ns for 16 successive updates. -/
def servoState (offsetNs : Int) (s : State) : State :=
  let good := if offsetNs.natAbs ≤ 50 then s.time.good + 1 else 0
  let st := if 16 ≤ good then 2 else if s.timeState = 2 then 2 else 1
  { s.setField Addr.TIME_CTRL 4 3 st with time.good := good }

/-- An offset is slewed, or stepped where it is above 1 ms and STEP_EN is 1 (R55). -/
def correctTime (offsetNs : Int) (s : State) : State :=
  if 1000000 < offsetNs.natAbs ∧ s.flag Addr.TIME_CTRL 3 then stepTime offsetNs { s with time.slew := 0 }
  else { s with time.slew := offsetNs * 1000000000000 }

/-- The time base enters HOLDOVER with its last frequency correction (R55). -/
def holdover (s : State) : State :=
  { (s.setField Addr.TIME_CTRL 4 3 3).raiseEvent evTimeHoldover owner with time.good := 0 }

/-- TIME_SOURCE_LOST (R55). -/
def execTimeSourceLost (t : Nat) (s : State) : Host.Outcome State Fault Refusal :=
  .next (if s.timeSource = 0 ∨ s.timeState = 3 then s else holdover (advance t s))

/-- The offset of a PPS edge from the nearest whole second of the time base, in ns. -/
def ppsOffset (s : State) : Int := if s.ns < 500000000 then -(s.ns : Int) else 1000000000 - (s.ns : Int)

/-- PPS_IN_EDGE (R498): a pulse of at least 100 ns is time-stamped; one second ± 100 µs after the last, it disciplines the
time base under SOURCE PPS. -/
def execPpsInEdge (t widthNs : Nat) (s : State) : Host.Outcome State Fault Refusal :=
  .next (if !s.on ∨ widthNs < 100 then s else
    let s1 := advance t s
    let fits := match s.time.lastPps with
      | some p => decide (secs 1 ≤ t - p + us 100 ∧ t - p ≤ secs 1 + us 100)
      | none => false
    let s2 := { s1 with time.lastPps := some t, time.ppsCount := s1.time.ppsCount + 1 }
    if fits && s.timeSource == 2 then correctTime (ppsOffset s2) (servoState (ppsOffset s2) s2) else s2)

/-- PPS_OUT_PULSE (R55, R498): within 4 ns of each whole second of the time base, high for 100 µs. -/
def execPpsOutPulse (t : Nat) (s : State) : Host.Outcome State Fault Refusal :=
  let s1 := advance t s
  .next (if s.flag Addr.TIME_CTRL 2 ∧ (s1.ns ≤ 4 ∨ 999999996 ≤ s1.ns) then s1.emit (.pps 100000) else s)

end Sys2Proof.Machine
end

