-- ==== Sys2Proof/Machine/Queues.lean ====
section
/-!
DEFINITION. Egress queues: their frames, the shapers and pauses that make a queue eligible, and the active list of each port that
eligible queues join (R282, R289 to R291).
-/
namespace Sys2Proof.Machine

/-- The key of flow-control state of a logical port: a priority, or 8 for PAUSE. -/
def fcKey (L prio : Nat) : Nat := 16 * L + prio

/-- QBASE, QCOUNT and DEFAULT_RANK of logical port `L` (R282). -/
def State.qRange (s : State) (L : Nat) : Nat × Nat × Nat :=
  let v := s.reg (Addr.PQ_CFG L)
  (bits v 0 10, bits v 10 7, bits v 17 6)

/-- The frames of queue `q`. -/
def State.queue (s : State) (q : Nat) : List QFrame := tabGet [] q s.tm.queues

/-- `s` with a queue set. -/
def State.setQueue (s : State) (q : Nat) (fs : List QFrame) : State := { s with tm.queues := tabSet [] q fs s.tm.queues }

/-- The active list of logical port `L` (R289). -/
def State.activeQ (s : State) (L : Nat) : List Nat := tabGet [] L s.tm.active

/-- `s` with an active list set. -/
def State.setActiveQ (s : State) (L : Nat) (l : List Nat) : State := { s with tm.active := tabSet [] L l s.tm.active }

/-- Bytes of 2^-32 that accrue at `rate` kb/s over `dt` units of 10^-21 s. -/
def accrue (rate : Nat) (dt : Int) : Nat := rate * 125 * dt.toNat * 2 ^ 32 / 1000000000000000000000

/-- The tokens of a shaper at the present instant, in 2^-32 bytes (R291). -/
def State.shTokens (s : State) (i : Nat) : Int :=
  min ((s.reg (Addr.SH_BURST i) * 2 ^ 32 : Nat) : Int)
    (tabGet 0 i s.tm.tokens + (accrue (s.reg (Addr.SH_RATE i)) (s.time.fill - tabGet 0 i s.tm.shAt) : Int))

/-- Whether the shaper that a register names is open (R291): none, disabled, or tokens above 0. -/
def State.shaperOpen (s : State) (w : Nat) : Bool :=
  bitAt w 12 || !s.flag (Addr.SH_CFG (w % 4096)) 6 || decide (0 < s.shTokens (w % 4096))

/-- Whether logical port `L` is paused at priority `prio` (8: PAUSE) (R290). -/
def State.pausedAt (s : State) (L prio : Nat) : Bool := decide (s.now < tabGet 0 (fcKey L prio) s.ports.paused)

/-- Whether queue `q` of logical port `L` is paused (R290). -/
def State.queuePaused (s : State) (L q : Nat) : Bool := s.pausedAt L 8 || s.pausedAt L (s.field (Addr.Q_CFG q) 16 3)

/-- Whether queue `q` of port `L` is eligible (R289). -/
def State.eligible (s : State) (L q : Nat) : Bool := !s.queuePaused L q && s.shaperOpen (s.reg (Addr.Q_SHAPER q))

/-- The non-empty eligible queues of port `L` outside its active list join its tail, in ascending order (R289). -/
def rejoin (L : Nat) (s : State) : State :=
  let r := s.qRange L
  let new := ((List.range r.2.1).map (· + r.1)).filter (fun q => !(s.queue q).isEmpty && !(s.activeQ L).contains q && s.eligible L q)
  if new.isEmpty then s else s.setActiveQ L (s.activeQ L ++ new)

/-- Every port looks again at its queues. -/
def rejoinAll (s : State) : State := (List.range 64).foldl (fun s L => rejoin L s) s

end Sys2Proof.Machine
end

