-- ==== Sys2Proof/Machine/Ports.lean ====
section
/-!
DEFINITION. Ethernet ports, intake, the packet buffer and the packet FIFOs (R61 to R84).
Log 21 names what the manual leaves open here.
-/
namespace Sys2Proof.Machine

/-! Ports and logical ports -/

/-- PORT_CTRL.MODE of physical port p (R62). -/
def State.portMode (s : State) (p : Nat) : Nat := s.field (Addr.PORT_CTRL p) 0 3
/-- The sub-ports a mode creates (R62). -/
def subPortsOf (mode : Nat) : Nat := [0, 1, 2, 4, 8].getD mode 0
/-- Lanes per sub-port of a mode (R62). -/
def lanesOf (mode : Nat) : Nat := [0, 8, 4, 2, 1].getD mode 0
/-- The partner of a physical port (R63). -/
def partner (p : Nat) : Nat := if p % 2 = 0 then p + 1 else p - 1

/-- The logical port of sub-port `k` of port `p` (R62). -/
def lportOf (p k : Nat) : Nat := if k < 4 then 4 * p + k else 4 * partner p + (k - 4)

/-- The physical port and sub-port whose frames use logical port `L`, if one exists (R62, R63). -/
def State.placeOf (s : State) (L : Nat) : Option (Nat × Nat) :=
  let p := L / 4
  let k := L % 4
  if k < subPortsOf (s.portMode p) then some (p, k)
  else if s.portMode (partner p) = 4 then some (partner p, 4 + k) else none

/-- The group whose cores serve frames of logical port `L` committed now (R85), and the sub-port number within it. -/
def State.groupOf (s : State) (L : Nat) : Nat × Nat := (s.placeOf L).getD (L / 4, L % 4)

/-- SUB_CTRL.FLOW: 0 none, 1 PAUSE, 2 PFC. -/
def State.flowMode (s : State) (p k : Nat) : Nat := s.field (Addr.SUB_CTRL p k) 0 2
/-- SUB_CTRL.PFC_EN. -/
def State.pfcEn (s : State) (p k : Nat) : Nat := s.field (Addr.SUB_CTRL p k) 8 8
/-- PORT_STATUS.SUB_UP of a sub-port. -/
def State.subUp (s : State) (p k : Nat) : Bool := s.flag (Addr.PORT_STATUS p) (8 + k)

/-! The packet buffer -/

/-- Pages of the packet buffer (R68). -/
def bufferPages : Nat := 786432
/-- Pages of a packet of `len` bytes (R68): ⌈(LENGTH + 32) ÷ 256⌉. -/
def pagesOf (len : Nat) : Nat := ceilDiv (len + 32) 256

/-- The headroom allotment of a sub-port (R68). -/
def State.headroomAllot (s : State) (p k : Nat) : Nat :=
  let h := s.reg (Addr.HEADROOM_PAGES p k)
  if s.flowMode p k = 2 then h * (setBits (s.pfcEn p k) 8).length else if s.flowMode p k = 1 then h else 0

/-- The sub-ports that the modes create. -/
def State.subPorts (s : State) : List (Nat × Nat) :=
  (List.range 16).flatMap (fun p => (List.range (subPortsOf (s.portMode p))).map (fun k => (p, k)))

/-- The sum of the reservations and headroom allotments that R68 bounds. -/
def State.reservedSum (s : State) : Nat :=
  (s.subPorts.map (fun x => s.reg (Addr.RESERVED_PAGES x.1 x.2) + s.headroomAllot x.1 x.2)).foldl (· + ·) 0

/-- The packet of an identity. -/
def State.packet (s : State) (id : Nat) : Option Pkt := s.ports.packets.find? (fun (q : Pkt) => q.id == id)
/-- `s` with one packet changed. -/
def State.updPacket (s : State) (id : Nat) (f : Pkt → Pkt) : State :=
  { s with ports.packets := s.ports.packets.map (fun q => if q.id = id then f q else q) }

/-- A sum over the packets. -/
def State.sumPackets (s : State) (f : Pkt → Nat) : Nat := (s.ports.packets.map f).foldl (· + ·) 0
/-- Pages of logical port `L` taken from its reservation. -/
def State.reservedUsed (s : State) (L : Nat) : Nat := s.sumPackets (fun q => if q.desc.lport = L then q.reserved else 0)
/-- Pages of the shared pool that logical port `L` uses. -/
def State.sharedUsed (s : State) (L : Nat) : Nat := s.sumPackets (fun q => if q.desc.lport = L then q.shared else 0)
/-- Headroom pages of logical port `L` and, under PFC, priority `prio`. -/
def State.headroomUsed (s : State) (L : Nat) (prio : Option Nat) : Nat :=
  s.sumPackets (fun q => if q.desc.lport = L ∧ (prio.isNone ∨ prio = some q.desc.prio) then q.headroom else 0)
/-- All pages held by frames of logical port `L` and, under PFC, priority `prio` (R70). -/
def State.pagesHeld (s : State) (L : Nat) (prio : Option Nat) : Nat :=
  s.sumPackets (fun q => if q.desc.lport = L ∧ (prio.isNone ∨ prio = some q.desc.prio) then q.reserved + q.shared + q.headroom else 0)

/-! Flow control sent -/

/-- Received PFC or PAUSE (R70, R290): each enabled pause restarts or, with time 0, ends. Quanta are 512 bit times at the
sub-port's rate, 2,560 ps on one lane. Queues that a pause time of 0 frees join the tail of active (R289). -/
def receivePause (p k L : Nat) (pause : Bool) (enables : Nat) (times : List Nat) (s : State) : State :=
  let quantum := 2560 / lanesOf (s.portMode p)
  let set (prio q : Nat) (s : State) : State := { s with ports.paused := tabSet 0 (fcKey L prio) (if q = 0 then 0 else s.now + q * quantum) s.ports.paused }
  rejoin L (if pause then
      let s1 := s.bump32 (Addr.PFC_RX p k 0)
      if s.flowMode p k = 1 then set 8 (times.getD 0 0) s1 else s1
    else
      (setBits enables 8).foldl (fun s i =>
        let s1 := s.bump32 (Addr.PFC_RX p k i)
        if s.flowMode p k = 2 ∧ bitAt (s.pfcEn p k) i then set i (times.getD i 0) s1 else s1) s)

/-- A PFC or PAUSE frame of the MAC's own goes the way of every frame sent (R83): looped back, on the wire, or squelched. -/
def putPause (p k L : Nat) (pause : Bool) (enables : Nat) (times : List Nat) (s : State) : State :=
  if s.flag (Addr.PORT_CTRL p) 6 then receivePause p k L pause enables times s
  else if s.flag (Addr.PORT_CTRL p) 3 && !s.secError then s.emit (.pfc L pause enables times) else s

/-- A PFC or PAUSE frame of time `q` is sent and counted (R70); a link that is down carries none. -/
def sendPfc (p k L prio q : Nat) (s : State) : State :=
  if !s.subUp p k then s
  else if prio = 8 then putPause p k L true 0 [q] (s.bump32 (Addr.PFC_TX p k 0))
  else putPause p k L false (2 ^ prio) ((List.range 8).map (fun i => if i = prio then q else 0)) (s.bump32 (Addr.PFC_TX p k prio))

/-- The count that flow control watches: the pages of a priority's frames, or (8) all pages of the port (R70). -/
def State.fcCount (s : State) (L prio : Nat) : Nat := s.pagesHeld L (if prio = 8 then none else some prio)

/-- The count has risen by a page (R70): XOFF is sent where it has come to XOFF_THRESH, or stands above it with none outstanding, as
after a threshold was lowered or a priority entered PFC_EN (DESIGN CHOICE, log 21). A threshold of 0 is met by the first page, and a
count of 0 sends none (DESIGN CHOICE, log 21). -/
def xoffRise (p k L prio : Nat) (s : State) : State :=
  let n := s.fcCount L prio
  let x := s.reg (Addr.XOFF_THRESH p k)
  if n = x ∨ (x < n ∧ tabGet 0 (fcKey L prio) s.ports.xoff = 0) then
    let s1 := sendPfc p k L prio 0xFFFF s
    { s1 with ports.xoff := tabSet 0 (fcKey L prio) (s.now + 1) s1.ports.xoff }
  else s

/-- The count has fallen (R70): a pause time of 0 is sent where it is below XON_THRESH, if an XOFF is
outstanding that it can end (DESIGN CHOICE, log 21). -/
def xonFall (p k L prio : Nat) (s : State) : State :=
  if tabGet 0 (fcKey L prio) s.ports.xoff ≠ 0 ∧ s.fcCount L prio < s.reg (Addr.XON_THRESH p k) then
    let s1 := sendPfc p k L prio 0 s
    { s1 with ports.xoff := tabSet 0 (fcKey L prio) 0 s1.ports.xoff }
  else s

/-- What flow control watches on a sub-port (R70): the priorities of PFC_EN under PFC, the port (8) under PAUSE. -/
def State.fcWatched (s : State) (p k : Nat) : List Nat :=
  if s.flowMode p k = 2 then setBits (s.pfcEn p k) 8 else if s.flowMode p k = 1 then [8] else []

/-- The checks of R70 at logical port `L` when a page of priority `prio` has come, or (none) pages have gone. -/
def pfcUpdate (L : Nat) (prio : Option Nat) (s : State) : State :=
  match s.placeOf L with
  | none => s
  | some (p, k) =>
    (s.fcWatched p k).foldl (fun s i => match prio with
      | some q => if i = q ∨ i = 8 then xoffRise p k L i s else s
      | none => xonFall p k L i s) s

/-- Whether an XOFF that lends headroom to priority `prio` is outstanding (R68). -/
def State.xoffOut (s : State) (p k L prio : Nat) : Bool :=
  if s.flowMode p k = 2 then bitAt (s.pfcEn p k) prio && tabGet 0 (fcKey L prio) s.ports.xoff != 0
  else s.flowMode p k == 1 && tabGet 0 (fcKey L 8) s.ports.xoff != 0

/-- One page for packet `id` from the first source that has one (R68): its logical port's reservation, the shared pool,
headroom. No source has one while all 786,432 pages are held. -/
def takePage (p k L prio id : Nat) (s : State) : Option State :=
  let pool := bufferPages - s.reservedSum
  let hr := s.reg (Addr.HEADROOM_PAGES p k)
  if bufferPages ≤ s.sumPackets (fun q => q.reserved + q.shared + q.headroom) then none
  else if s.reservedUsed L < s.reg (Addr.RESERVED_PAGES p k) then
    some (pfcUpdate L (some prio) (s.updPacket id (fun q => { q with reserved := q.reserved + 1 })))
  else if s.sharedUsed L < s.reg (Addr.SHARED_LIMIT p k) ∧ s.sumPackets (fun q => q.shared) < pool then
    some (pfcUpdate L (some prio) (s.updPacket id (fun q => { q with shared := q.shared + 1 })))
  else if s.xoffOut p k L prio ∧ s.headroomUsed L (if s.flowMode p k = 2 then some prio else none) < hr then
    some (pfcUpdate L (some prio) (s.updPacket id (fun q => { q with headroom := q.headroom + 1 })))
  else none

/-- `n` pages in turn: the state after them, and the number of the first page that could not be had. -/
def takePages (p k L prio id : Nat) : (n : Nat) → (done : Nat) → State → State × Option Nat
  | 0, _, s => (s, none)
  | n + 1, d, s =>
    match takePage p k L prio id s with
    | some s' => takePages p k L prio id n (d + 1) s'
    | none => (s, some d)

/-! Rule epochs, as far as packets are counted against them (R121, R124) -/

/-- RULE_EPOCH.CURRENT (R121). -/
def State.epoch (s : State) : Nat := s.field Addr.RULE_EPOCH 0 16
/-- RULE_EPOCH.PREVIOUS. -/
def State.prevEpoch (s : State) : Nat := s.field Addr.RULE_EPOCH 16 16
/-- The active rule bank (R121). -/
def State.ruleBank (s : State) : Nat := s.epoch % 2
/-- The staging (inactive) rule bank. -/
def State.stagingBank (s : State) : Nat := 1 - s.ruleBank
/-- Whether a packet counts in INFLIGHT (R124, R134): stamped, or fixed to an epoch by a linked parse flip; a later fragment is never
stamped and never counted. -/
def Pkt.counted (q : Pkt) : Bool := q.stamped || (q.preStamp && bits q.bus.toNat 50 2 != 2)
/-- INFLIGHT of a bank (R124). -/
def State.inflight (s : State) (bank : Nat) : Nat := (s.ports.packets.filter (fun (q : Pkt) => q.counted && q.epoch % 2 == bank)).length
/-- DRAIN: INFLIGHT of the inactive bank (R124). -/
def State.ruleDrain (s : State) : Nat := s.inflight s.stagingBank

/-- The inactive bank retires when DRAIN is 0 after a flip: its background copy begins (R124). -/
def checkRetire (s : State) : State :=
  if s.flag Addr.EPOCH_STATUS 1 && s.ruleDrain == 0 then { s.setFlag Addr.EPOCH_STATUS 1 false with mt.copying := true } else s

/-- A packet leaves the packet buffer, its pages return (R68), and it is counted against no epoch any more (R124). -/
def freePacket (id : Nat) (s : State) : State :=
  match s.packet id with
  | none => s
  | some q => checkRetire (pfcUpdate q.desc.lport none { s with ports.packets := s.ports.packets.filter (fun (x : Pkt) => x.id != id) })

/-! Packet FIFOs -/

/-- The packet FIFO of an index. -/
def State.fifo (s : State) (f : Nat) : Fifo := tabGet {} f s.ports.fifos
/-- `s` with a packet FIFO set. -/
def State.setFifo (s : State) (f : Nat) (x : Fifo) : State := { s with ports.fifos := tabSet {} f x s.ports.fifos }
/-- Words held in a FIFO: those of its committed packets, less those the consumer has read (R77, R81). -/
def Fifo.wordsHeld (x : Fifo) : Nat := (x.pkts.map FifoPkt.words).foldl (· + ·) 0 - x.reading.getD 0

/-- A packet's last word is committed (R77): it becomes visible and counts in OCC_PKTS. -/
def commitPacket (f : Nat) (q : FifoPkt) (s : State) : State :=
  let x := s.fifo f
  let x' := { x with pkts := x.pkts ++ [q] }
  ((s.setFifo f x').bump64 (Addr.COMMIT_COUNT f)).raise (Addr.HIGH_WATER f) x'.wordsHeld

/-- A packet is rewound before its commit (R78), `n` words of it having been written beside those held; `full` marks a lack
of space. A fabric packet turned away for want of a credit is no lack of space of the FIFO, whose credits are fewer than its words
(R307; DESIGN CHOICE, log 21). -/
def rewindPacket (f : Nat) (full : Bool) (n : Nat) (s : State) : State :=
  let s1 := (s.bump32 (Addr.REWIND_COUNT f)).raise (Addr.HIGH_WATER f) ((s.fifo f).wordsHeld + n)
  if full then s1.bump32 (Addr.OVERFLOW_COUNT f) else s1

/-- A packet that does not fit a FIFO with a word capacity is rewound at the word without room (R78, R79). -/
def overflowPacket (f : Nat) (s : State) : State := rewindPacket f true (fifoUnits f * 256 - (s.fifo f).wordsHeld) s

/-- What a consumer's C256 check finds in the words of a packet it reads (R76): words corrected are counted; an uncorrectable
word ends the packet, whose rest is discarded as by DROP_REST. -/
def noteRead (f : Nat) (r : FifoRead) (s : State) : State :=
  let s1 := s.bump32 (Addr.CORR_COUNT f) r.corrected
  if r.bad then ((s1.bump32 (Addr.UNCORR_COUNT f)).bump32 (Addr.DROP_REST_COUNT f)).noteUncorr 0 f else s1

/-- Whether a packet of `n` words fits a FIFO with a word capacity (R75, R79). -/
def State.fifoFits (s : State) (f n : Nat) : Bool := fifoUnits f == 0 || (s.fifo f).wordsHeld + n ≤ fifoUnits f * 256

/-- The consumer takes the head packet whole. -/
def popFifo (f : Nat) (s : State) : State :=
  let x := s.fifo f
  s.setFifo f { pkts := x.pkts.drop 1, reading := none }

/-- The rest of the packet being read is discarded (R80, R76). -/
def dropRest (f : Nat) (s : State) : State :=
  if (s.fifo f).reading.isSome then (popFifo f s).bump32 (Addr.DROP_REST_COUNT f) else s

/-- A write of DROP_REST (R80). -/
def wrDropRest (f v : Nat) (s : State) : Nat × State := (St.OK, if bitAt v 0 then dropRest f s else s)

/-! Intake -/

/-- The offset of the EtherType that the fixed extractor and the DSCP rule look at: after at most one tag (R67, R69). -/
def afterTag (fr : Bytes) : Nat :=
  let e := be fr 12 2
  if e = 0x8100 ∨ e = 0x88A8 then 16 else 12

/-- PTP_EVENT of the fixed extractor (R67). EtherType 0x86DD alone makes an IPv6 packet here: its version nibble is not looked at
(DESIGN CHOICE, log 21). -/
def ptpEvent (fr : Bytes) : Bool :=
  let o := afterTag fr
  let e := be fr o 2
  let b := o + 2
  if e = 0x88F7 then decide (byteAt fr b % 16 ≤ 3) && decide (b < fr.length)
  else if e = 0x0800 then
    let ihl := byteAt fr b % 16 * 4
    let frag := be fr (b + 6) 2 % 0x4000
    decide (byteAt fr b / 16 = 4 ∧ byteAt fr (b + 9) = 17 ∧ frag = 0 ∧ be fr (b + ihl + 2) 2 = 319
      ∧ byteAt fr (b + ihl + 8) % 16 ≤ 3 ∧ b + ihl + 8 < fr.length)
  else if e = 0x86DD then
    decide (byteAt fr (b + 6) = 17 ∧ be fr (b + 42) 2 = 319 ∧ byteAt fr (b + 48) % 16 ≤ 3 ∧ b + 48 < fr.length)
  else false

/-- The PCP of the outermost IEEE 802.1Q tag (R69): the first tag of type 0x8100 from offset `o`, behind any 802.1ad tags (DEDUCED,
log 21). -/
def outerPcp (fr : Bytes) : (fuel o : Nat) → Option Nat
  | 0, _ => none
  | n + 1, o => if be fr o 2 = 0x8100 then some (byteAt fr (o + 2) / 32) else if be fr o 2 = 0x88A8 then outerPcp fr n (o + 4) else none

/-- The flow-control priority of a frame (R69). -/
def intakePrio (s : State) (p k : Nat) (fr : Bytes) : Nat :=
  let dflt := s.field (Addr.SUB_CTRL p k) 3 3
  if s.flag (Addr.SUB_CTRL p k) 2 then
    let o := afterTag fr
    let e := be fr o 2
    let dscp : Option Nat :=
      if e = 0x0800 ∧ byteAt fr (o + 2) / 16 = 4 then some (byteAt fr (o + 3) / 4)
      else if e = 0x86DD ∧ byteAt fr (o + 2) / 16 = 6 then some (be fr (o + 2) 2 / 64 % 64) else none
    match dscp with
    | some d => bits (s.reg (Addr.DSCP_PRIO p k (d / 10))) (3 * (d % 10)) 3
    | none => dflt
  else (outerPcp fr (fr.length / 4) 12).getD dflt

/-- The frame word at which page `j` of a packet is first needed: word 0 of the packet is the descriptor (R67, R68). -/
def pageWord (j : Nat) : Nat := if j = 0 then 0 else 8 * j - 1

/-- The number of pages, of `n`, needed by words before frame word `w`. -/
def pagesBefore (n w : Nat) : Nat := ((List.range n).filter (fun j => pageWord j < w)).length

/-- The causes that end a frame at intake (R66). -/
inductive IntakeEnd where
  | oversize
  | noPage
  | bad
  | runt
deriving DecidableEq, Repr

/-- The counter of an intake end (R66). -/
def IntakeEnd.counter (e : IntakeEnd) (p k : Nat) : Nat :=
  match e with
  | .oversize => Addr.RX_OVERSIZE p k
  | .noPage => Addr.RX_BUF_DROP p k
  | .bad => Addr.RX_FCS_ERR p k
  | .runt => Addr.RX_RUNT p k

/-- The first condition that ends a frame, at the first word where any holds, in the order of R66; `short` is the page
that could not be had. A runt length and a wrong FCS are known at the frame's end only. -/
def intakeEnd (wireLen maxFrame : Nat) (fin : FrameEnd) (pcs short : Option Nat) : Option IntakeEnd :=
  let excess := if maxFrame < wireLen then some (maxFrame / 32) else none
  let none' := 1000000
  let o := excess.getD none'
  let b := (short.map pageWord).getD none'
  let c := pcs.getD none'
  if excess.isSome ∧ o ≤ b ∧ o ≤ c then some .oversize
  else if short.isSome ∧ b ≤ c then some .noPage
  else if pcs.isSome then some .bad
  else if fin = .partly then none
  else if wireLen < 64 then some .runt
  else if fin = .good then none else some .bad

/-- The intake time stamp (R67, R72): the time of day with PTP_LATENCY_ADJ, in units of 1/16 ns, added. -/
def State.rxTime (s : State) (p : Nat) : Nat × Nat :=
  let a := signed 16 (s.reg (Addr.PTP_LATENCY_ADJ p))
  let s1 := { s with time.tod := s.time.tod + a * 62500000000 }
  (s1.sec, s1.ns)

/-- The words of an intake packet written before frame word `w`, the descriptor first (R67). -/
def wordsBefore (len w : Nat) : Nat := 1 + min w (ceilDiv len 32)

/-- The words of a frame written before it ended (R66, R78): those before the word of its cause, all of them at its end. -/
def IntakeEnd.written (e : IntakeEnd) (len maxFrame : Nat) (pcs short : Option Nat) : Nat :=
  match e with
  | .oversize => wordsBefore len (maxFrame / 32)
  | .noPage => match short with
    | some j => if j = 0 then 0 else wordsBefore len (pageWord j)
    | none => 0
  | .bad => wordsBefore len (pcs.getD len)
  | .runt => wordsBefore len len

/-- Packet `id` of logical port `L`, wholly written in its pages, is committed on the present beat (R77): it counts as a frame
of sub-port `k` of port `p`, and keeps the group and sub-port that the mode gives it now (R64, R107). -/
def commitFrame (p k L id len : Nat) (s : State) : State :=
  let s1 := s.updPacket id (fun q => { q with at_ := .intake, since := s.now, commitZc := s.zc, group := p, sub := k })
  commitPacket L ⟨1 + ceilDiv len 32, some id, []⟩ ((s1.bump64 (Addr.RX_FRAMES p k)).bump64 (Addr.RX_BYTES p k) len)

/-- The frame that is being written into the intake FIFO of logical port `L`, if one is (R77). -/
def State.arriving (s : State) (L : Nat) : Option Pkt := s.ports.packets.find? (fun (q : Pkt) => q.at_ == .receiving && q.desc.lport == L)

/-- The words of the frame being written into intake FIFO `L`, which occupy it before their commit (R77). -/
def State.arrivingWords (s : State) (L : Nat) : Nat := (s.arriving L).elim 0 (fun q => 1 + ceilDiv q.bytes.length 32)

/-- A frame with sub-port `k` of port `p` up, after its checks: paged, committed at its last word or rewound (R66 to R70); in the
ERROR state every frame is rewound (R466). `fr` is the frame from its first byte, with its FCS once it has ended; a frame that came in
part keeps its time stamp and its pages, and stays in reception until a row brings its end. -/
def intakeFrame (p k L : Nat) (fr : Bytes) (fin : FrameEnd) (pcs : Option Nat) (s : State) : State :=
  let stored := if fin = .partly then fr else fr.take (fr.length - 4)
  let before := s.arriving L
  let rx := before.elim (s.rxTime p) (fun q => (q.desc.sec, q.desc.ns))
  let zc := before.elim s.zc (fun q => q.desc.zc)
  let desc : Desc := ⟨rx.1, rx.2, zc, stored.length, L, s.field (Addr.INTAKE_TENANT p k) 0 8, intakePrio s p k stored, ptpEvent stored⟩
  let maxFrame := s.reg (Addr.MAX_FRAME p k)
  let early := intakeEnd fr.length maxFrame .partly pcs none
  if !s.flag (Addr.FIFO_CTRL L) 0 then s
  else if s.secError then rewindPacket L false (wordsBefore stored.length stored.length) (before.elim s (fun q => freePacket q.id s)) else
  let id := before.elim s.ports.nextPkt Pkt.id
  let taken := before.elim 0 (fun q => q.reserved + q.shared + q.headroom)
  let s1 := if before.isSome then s.updPacket id (fun q => { q with desc, bytes := stored })
    else { s with ports.packets := s.ports.packets ++ [{ id, desc, bytes := stored }], ports.nextPkt := id + 1 }
  let need := pagesOf stored.length
  let upTo := match early with
    | some .oversize => pagesBefore need (maxFrame / 32)
    | some .bad => pagesBefore need (pcs.getD 0 + 1)
    | _ => need
  let r := takePages p k L desc.prio id (upTo - taken) taken s1
  match intakeEnd fr.length maxFrame fin pcs r.2 with
  | some e => rewindPacket L (e == .noPage) (e.written stored.length maxFrame pcs r.2) ((freePacket id r.1).bump64 (e.counter p k))
  | none =>
    if fin = .partly then r.1.raise (Addr.HIGH_WATER L) ((r.1.fifo L).wordsHeld + r.1.arrivingWords L)
    else commitFrame p k L id stored.length r.1

/-- Whether a frame is a MAC control frame of PAUSE or PFC (R70). -/
def isPauseFrame (fr : Bytes) : Bool := be fr 12 2 == 0x8808 && (be fr 14 2 == 0x0001 || be fr 14 2 == 0x0101)

/-- Whether a frame is of a length a sub-port accepts (R66). -/
def lengthOk (s : State) (p k : Nat) (fr : Bytes) : Bool := decide (64 ≤ fr.length ∧ fr.length ≤ s.reg (Addr.MAX_FRAME p k))

/-- Frame reception on a logical port (R66, R84): nothing is received on a link that is down; PAUSE and PFC frames that pass the
checks are consumed. -/
def receiveFrame (L : Nat) (fr : Bytes) (fin : FrameEnd) (pcs : Option Nat) (s : State) : State :=
  match s.placeOf L with
  | none => s
  | some (p, k) =>
    if !s.subUp p k then s
    else if isPauseFrame fr && fin == .partly then s
    else if isPauseFrame fr && fin == .good && pcs.isNone && lengthOk s p k fr then
      if be fr 14 2 = 1 then receivePause p k L true 0 [be fr 16 2] s
      else receivePause p k L false (be fr 16 2) ((List.range 8).map (fun i => be fr (18 + 2 * i) 2)) s
    else intakeFrame p k L fr fin pcs s

/-- FRAME_RECEIVE (R66, R77, R82). `pcs` is the frame word of a PCS or FEC uncorrectable error; a frame that came in part is brought
again from its first byte, with more of its words, by a later row (DESIGN CHOICE, log 21). -/
def execFrameReceive (t L : Nat) (fr : Bytes) (fin : FrameEnd) (pcs : Option Nat) (s : State) : Host.Outcome State Fault Refusal :=
  .next (receiveFrame L fr fin pcs (advance t s))

/-- PFC_REFRESH (R70): the pause time of what is watched is sent again every 16,384 quanta while the count stays at or above
XON_THRESH. -/
def execPfcRefresh (t L prio : Nat) (s : State) : Host.Outcome State Fault Refusal :=
  .next (match s.placeOf L with
    | none => s
    | some (p, k) =>
      let last := tabGet 0 (fcKey L prio) s.ports.xoff
      if prio ∈ s.fcWatched p k ∧ last ≠ 0 ∧ s.reg (Addr.XON_THRESH p k) ≤ s.fcCount L prio ∧
          last - 1 + 16384 * 2560 / lanesOf (s.portMode p) ≤ t then
        let s1 := sendPfc p k L prio 0xFFFF (advance t s)
        { s1 with ports.xoff := tabSet 0 (fcKey L prio) (s1.now + 1) s1.ports.xoff }
      else s)

/-- PFC_FRAME_RECEIVE (R70, R290). -/
def execPfcFrameReceive (t L : Nat) (pause : Bool) (enables : Nat) (times : List Nat) (s : State) : Host.Outcome State Fault Refusal :=
  .next (match s.placeOf L with
    | none => s
    | some (p, k) => if s.subUp p k then receivePause p k L pause enables times (advance t s) else s)

/-- The intake descriptor of a descriptor word (R67). -/
def descOfWord (w : Nat) : Desc :=
  ⟨bits w 32 48, bits w 0 32, bits w 80 64, bits w 144 14, bits w 158 6, bits w 164 8, bits w 172 3, bitAt w 175⟩

/-- The descriptor word of an intake descriptor (R67). -/
def wordOfDesc (d : Desc) : W256 :=
  BitVec.ofNat 256 (d.ns + d.sec * 2 ^ 32 + d.zc * 2 ^ 80 + d.length * 2 ^ 144 + d.lport * 2 ^ 158 + d.tenant * 2 ^ 164
    + d.prio * 2 ^ 172 + b2n d.ptp * 2 ^ 175)

/-- A packet of the given words, the descriptor word and the frame, is written into intake FIFO `f` page by page, and committed or
rewound for want of a page (R67, R68, R78); nothing is received on a link that is down. -/
def commitIntake (f : Nat) (words : List W256) (s : State) : State :=
  match s.placeOf f with
  | none => s
  | some (p, k) =>
    if !s.subUp p k then s else
    let bytes := (words.drop 1).flatMap (fun w => toLE 32 w.toNat)
    let w := descOfWord ((words.getD 0 0#256).toNat)
    let d := { w with lport := f, length := min w.length bytes.length }
    let q : Pkt := { id := s.ports.nextPkt, desc := d, bytes := bytes.take d.length }
    let r := takePages p k f d.prio q.id (pagesOf d.length) 0 { s with ports.packets := s.ports.packets ++ [q], ports.nextPkt := q.id + 1 }
    match r.2 with
    | some j => rewindPacket f true (IntakeEnd.noPage.written d.length 0 none (some j)) ((freePacket q.id r.1).bump64 (Addr.RX_BUF_DROP p k))
    | none => commitFrame p k f q.id d.length r.1

/-- The frames that are partly written into intake FIFO `f` are rewound (R64, R82); `fcs` counts their cause as RX_FCS_ERR of the
sub-port. -/
def rewindReceiving (p k f : Nat) (fcs : Bool) (s : State) : State :=
  (s.ports.packets.filter (fun (q : Pkt) => q.at_ == .receiving && q.desc.lport == f)).foldl (fun s q =>
    let s1 := rewindPacket f false (1 + ceilDiv q.bytes.length 32) (freePacket q.id s)
    if fcs then s1.bump64 (Addr.RX_FCS_ERR p k) else s1) s

/-- Whether every sub-port that the mode of port `p` creates is up: training has ended on all lanes in use (R83). -/
def State.allSubsUp (s : State) (p : Nat) : Bool := (List.range (subPortsOf (s.portMode p))).all (fun k => s.subUp p k)

/-- LINK_STATE_CHANGE (R65, R82, R83): a sub-port's link comes up after training or goes down. Going down ends no committed packet,
and rewinds a frame partly received. AN_DONE and LT_DONE, where enabled, hold once every sub-port of the mode is up (DEDUCED, log 21). -/
def execLinkStateChange (t p k : Nat) (up : Bool) (lanes : Nat) (s : State) : Host.Outcome State Fault Refusal :=
  .next (if k < subPortsOf (s.portMode p) then
      let s0 := if up then advance t s else rewindReceiving p k (lportOf p k) true (advance t s)
      let s1 := (s0.setFlag (Addr.PORT_STATUS p) (8 + k) up).setField (Addr.PORT_STATUS p) 0 8 lanes
      let s2 := s1.setFlag (Addr.PORT_STATUS p) 16 (s1.allSubsUp p && s.flag (Addr.PORT_CTRL p) 4)
      s2.setFlag (Addr.PORT_STATUS p) 17 (s1.allSubsUp p && s.flag (Addr.PORT_CTRL p) 5)
    else s)

/-- The symbols corrected on each lane (R83). -/
def countSymbols (p : Nat) (symbols : List Nat) (s : State) : State :=
  (List.range 8).foldl (fun s j => s.bump32 (Addr.FEC_SYMBOL_ERR p j) (symbols.getD j 0)) s

/-- HI_SER_UPDATE (R83): the codewords of the last second, `n` uncorrected and `m` corrected, and the symbols corrected by lane are
counted, and HI_SER compares the uncorrected ones with HI_SER_THRESH. -/
def execHiSerUpdate (t p n m : Nat) (symbols : List Nat) (s : State) : Host.Outcome State Fault Refusal :=
  .next (if !s.on then s else
    let s1 := ((advance t s).bump64 (Addr.FEC_UNCORR_CW p) n).bump64 (Addr.FEC_CORR_CW p) m
    (countSymbols p symbols s1).setFlag (Addr.PORT_STATUS p) 18 (decide (s.reg (Addr.HI_SER_THRESH p) < n)))

/-! Register writes -/

/-- A write of PORT_CTRL (R62 to R64, R68). A change of MODE takes every sub-port down first, and rewinds frames partly received;
LANE_LOCK, AN_DONE, LT_DONE and HI_SER clear with SUB_UP, all of them being of the mode that ends (DESIGN CHOICE, log 21). An XOFF
that is out and a received pause outlast the change, and a link that goes down (DESIGN CHOICE, log 21). HC_CTRL.ENABLE of a partner
whose numbers are borrowed is cleared, and stays 0 when they are given back (DESIGN CHOICE, log 22). -/
def wrPortCtrl (p v : Nat) (s : State) : Nat × State :=
  let m := v % 8
  let q := partner p
  if 4 < m then (St.BAD_PARAM, s)
  else if (m = 4 ∧ s.portMode q ≠ 0) ∨ (m ≠ 0 ∧ s.portMode q = 4) then (St.BAD_PARAM, s)
  else
    let s1 := s.setReg (Addr.PORT_CTRL p) (v % 128)
    if m = s.portMode p then (St.OK, s1)
    else if bufferPages < s1.reservedSum then (St.NO_FIT, s)
    else
      let s2 := (List.range (subPortsOf (s.portMode p))).foldl (fun s k => rewindReceiving p k (lportOf p k) true s)
        (s1.setField (Addr.PORT_STATUS p) 0 19 0)
      (St.OK, if m = 4 then s2.setFlag (Addr.HC_CTRL q) 0 false else s2)

/-- A write of a sub-port register (R83): the sub-port and the tenant it names must exist (R449), and the page sum of R68
must hold. XON_THRESH must be below XOFF_THRESH as it is written; a write of XOFF_THRESH is not held to the XON_THRESH in force, since
R83 states the refusal for XON_THRESH alone (DESIGN CHOICE, log 21). -/
def wrSubPort (p k a v0 : Nat) (s : State) : Nat × State :=
  let v := if a = Addr.DSCP_PRIO p k 6 then v0 % 2 ^ 12 else v0
  if subPortsOf (s.portMode p) ≤ k then (St.BAD_PARAM, s)
  else
    let s1 := s.setReg a v
    if a = Addr.SUB_CTRL p k ∧ v % 4 = 3 then (St.BAD_PARAM, s)
    else if a = Addr.INTAKE_TENANT p k ∧ !s.tenantExists (v % 256) then (St.NOT_PERMITTED, s)
    else if a = Addr.XON_THRESH p k ∧ s.reg (Addr.XOFF_THRESH p k) ≤ v then (St.BAD_PARAM, s)
    else if (a = Addr.RESERVED_PAGES p k ∨ a = Addr.HEADROOM_PAGES p k ∨ a = Addr.SUB_CTRL p k) ∧ bufferPages < s1.reservedSum then
      (St.NO_FIT, s)
    else (St.OK, s1)

/-- A write of FIFO_CTRL (R84): ENABLE acts in intake FIFOs only, whose INTAKE_TENANT must exist (R449); cleared, it rewinds a
packet partly written (R82). -/
def wrFifoCtrl (f v : Nat) (s : State) : Nat × State :=
  let g := s.groupOf f
  if fifoKind f = some 0 ∧ bitAt v 0 ∧ !s.tenantExists (s.field (Addr.INTAKE_TENANT g.1 g.2) 0 8) then (St.NOT_PERMITTED, s)
  else if fifoKind f ≠ some 0 then (St.OK, s)
  else
    let s1 := s.setReg (Addr.FIFO_CTRL f) (v % 2)
    (St.OK, if bitAt v 0 then s1 else rewindReceiving g.1 g.2 f false s1)

end Sys2Proof.Machine
end

