-- ==== Sys2Proof/Machine/Header.lean ====
section
/-!
DEFINITION. Header cores and parse programs (R85 to R108): assignment, the seventeen instructions, the emitted metadata,
program banks, validation, flips and the parse image. Log 22 names what the manual leaves open here.
-/
namespace Sys2Proof.Machine

/-! Program banks -/

/-- The key of an instruction word. -/
def progKey (g bank a : Nat) : Nat := g * 8192 + bank * 4096 + a
/-- The key of a dispatch entry. -/
def dispKey (g bank i : Nat) : Nat := g * 1024 + bank * 512 + i
/-- Instruction word `a` of a bank (R103). -/
def State.progWord (s : State) (g bank a : Nat) : Nat := (tabGet 0#32 (progKey g bank a) s.hc.prog).toNat
/-- Dispatch entry `i` = 32t + e of a bank (R102). -/
def State.dispWord (s : State) (g bank i : Nat) : Nat := (tabGet 0#32 (dispKey g bank i) s.hc.disp).toNat
/-- The active bank of a group (PROG_STATUS.ACTIVE_BANK). -/
def State.activeBank (s : State) (g : Nat) : Nat := s.field (Addr.PROG_STATUS g) 0 1
/-- The staging bank of a group. -/
def State.stageBank (s : State) (g : Nat) : Nat := 1 - s.activeBank g

/-- Whether the beat of an accepted rule flip has come and its row has not (R123, R138). -/
def State.flipDue (s : State) : Bool := s.mt.flipAt.any (fun b => b ≤ s.zc)

/-- The bank on which a packet of group `g` starts now (R103, R106, R107): from the beat of an unlinked flip, or of the rule flip that
fires an armed one, it is the new one, whether or not the row of the flip has come yet. -/
def State.bankNow (s : State) (g : Nat) : Nat :=
  let b := tabGet 0 g s.hc.flip
  if s.flag (Addr.PROG_STATUS g) 12 && b != 0 && decide (b - 1 ≤ s.zc) || s.flag (Addr.PROG_STATUS g) 2 && s.flipDue then 1 - s.activeBank g
  else s.activeBank g

/-- The header core of a number, if it is not idle. -/
def State.core (s : State) (n : Nat) : Option Core := s.hc.cores.find? (fun (c : Core) => c.n == n)
/-- `s` with one core changed. -/
def State.updCore (s : State) (n : Nat) (f : Core → Core) : State :=
  { s with hc.cores := s.hc.cores.map (fun c => if c.n = n then f c else c) }

/-- PROG_STATUS.DRAIN: cores still parsing on the bank that is not active (R103). -/
def State.progDrain (s : State) (g : Nat) : Nat :=
  (s.hc.cores.filter (fun c => c.n / 128 == g && !c.finished && c.steps != 0 && c.bank != s.bankNow g)).length

/-- Whether the staging bank of a group is closed to writes (R103): DRAIN not 0, FLIP_PENDING or FLIP_ARMED. -/
def State.stagingClosed (s : State) (g : Nat) : Bool :=
  s.progDrain g != 0 || s.flag (Addr.PROG_STATUS g) 12 || s.flag (Addr.PROG_STATUS g) 2

/-! Encodings (R100) -/

/-- An instruction word: opcode and the fields below it. -/
def hcWord (op rest : Nat) : Nat := op % 64 * 2 ^ 26 + rest % 2 ^ 26
def encNop : Nat := hcWord 0x00 0
def encLd (d src sz : Nat) (x : Bool) (off : Nat) : Nat :=
  hcWord 0x01 (d % 16 * 2 ^ 22 + src % 16 * 2 ^ 18 + sz % 4 * 2 ^ 16 + b2n x * 2 ^ 15 + off % 512)
def encMovi (d k imm : Nat) : Nat := hcWord 0x02 (d % 16 * 2 ^ 22 + k % 4 * 2 ^ 20 + imm % 2 ^ 16)
def encAlu (d src tgt fn : Nat) : Nat := hcWord 0x03 (d % 16 * 2 ^ 22 + src % 16 * 2 ^ 18 + tgt % 16 * 2 ^ 14 + fn % 16)
def encAlui (d src fn imm : Nat) : Nat := hcWord 0x04 (d % 16 * 2 ^ 22 + src % 16 * 2 ^ 18 + fn % 16 * 2 ^ 14 + imm % 2 ^ 14)
def encExt (d src pos wid : Nat) : Nat := hcWord 0x05 (d % 16 * 2 ^ 22 + src % 16 * 2 ^ 18 + pos % 64 * 2 ^ 12 + wid % 64 * 2 ^ 6)
def encBr (src tgt cond target : Nat) : Nat :=
  hcWord 0x08 (src % 16 * 2 ^ 22 + tgt % 16 * 2 ^ 18 + cond % 8 * 2 ^ 15 + target % 4096)
def encBri (src cond imm target : Nat) : Nat :=
  hcWord 0x09 (src % 16 * 2 ^ 22 + cond % 4 * 2 ^ 20 + imm % 256 * 2 ^ 12 + target % 4096)
def encJmp (target : Nat) : Nat := hcWord 0x0A (target % 4096)
def encDisp (src tbl dflt : Nat) : Nat := hcWord 0x0B (src % 16 * 2 ^ 22 + tbl % 16 * 2 ^ 18 + dflt % 4096)
def encHdr (src ty : Nat) (i : Bool) (immLen : Nat) : Nat :=
  hcWord 0x10 (src % 16 * 2 ^ 22 + ty % 128 * 2 ^ 15 + b2n i * 2 ^ 14 + immLen % 512)
def encAdv (src : Nat) (i : Bool) (immLen : Nat) : Nat := hcWord 0x11 (src % 16 * 2 ^ 22 + b2n i * 2 ^ 14 + immLen % 512)
def encLen (src : Nat) (strict base : Bool) : Nat := hcWord 0x12 (src % 16 * 2 ^ 22 + b2n strict * 2 ^ 21 + b2n base * 2 ^ 20)
def encFrag (src tgt ipidx : Nat) (v6 : Bool) : Nat :=
  hcWord 0x13 (src % 16 * 2 ^ 22 + tgt % 16 * 2 ^ 18 + ipidx % 16 * 2 ^ 14 + b2n v6 * 2 ^ 13)
def encMeta (src off wid : Nat) : Nat := hcWord 0x18 (src % 16 * 2 ^ 22 + off % 1024 * 2 ^ 12 + wid % 64 * 2 ^ 6)
def encDone : Nat := hcWord 0x3E 0
def encFail (code : Nat) : Nat := hcWord 0x3F (code % 8)

/-! Parse statuses (R97) -/
def psOk : Nat := 0
def psDepth : Nat := 1
def psLenConflict : Nat := 2
def psSteps : Nat := 3
def psFault : Nat := 4

/-- What one instruction does to its core: go on at the next address, branch, or end the parse with a status. -/
inductive HcOut where
  | next (c : Core)
  | jump (c : Core) (pc : Nat)
  | stop (c : Core) (pstat : Nat)
deriving DecidableEq, Repr

/-- Register `i` of a core. -/
def Core.reg (c : Core) (i : Nat) : Nat := (c.regs.getD i 0#64).toNat
/-- A core with a register set, modulo 2^64. -/
def Core.setReg (c : Core) (i v : Nat) : Core := { c with regs := c.regs.set i (BitVec.ofNat 64 v) }

/-- The frame length in the intake descriptor of the core's packet. -/
def frameLength (s : State) (c : Core) : Nat := ((s.packet c.pkt).map (fun q => q.desc.length)).getD 0
/-- The frame bytes of the core's packet. -/
def frameBytes (s : State) (c : Core) : Bytes := ((s.packet c.pkt).map Pkt.bytes).getD []

/-- A load of `k` bytes at window address `a` (R93). -/
def hcLoad (len : Nat) (fr : Bytes) (c : Core) (d a k : Nat) : HcOut :=
  if len < a + k then .stop c psLenConflict
  else if 512 < a + k then .stop c psDepth
  else .next (c.setReg d (be fr a k))

/-- The bounds HDR and ADV share (R94, conditions 3 and 4). -/
def hcAdvance (len : Nat) (c : Core) (n : Nat) : Option Nat :=
  if len < c.c + n then some psLenConflict else if 512 < c.c + n then some psDepth else none

/-- HDR of a header of type `ty` and length `n` (R94). -/
def hcHeader (len : Nat) (c : Core) (ty n : Nat) : HcOut :=
  if c.stack.length = 16 then .stop c psDepth
  else if n = 0 then .stop c psFault
  else match hcAdvance len c n with
    | some e => .stop c e
    | none => .next { c with stack := c.stack ++ [(ty, c.c, n)], c := c.c + n }

/-- The result of FN (R101). -/
def hcFn (fn a b : Nat) : Nat :=
  match fn with
  | 0 => a + b
  | 1 => a + 2 ^ 64 - b % 2 ^ 64
  | 2 => a &&& b
  | 3 => a ||| b
  | 4 => a ^^^ b
  | 5 => a * 2 ^ (b % 64)
  | 6 => a / 2 ^ (b % 64)
  | _ => a

/-- The outcome of COND (R101), unsigned. -/
def hcCond (cond a b : Nat) : Bool :=
  match cond with
  | 0 => a == b
  | 1 => a != b
  | 2 => decide (a < b)
  | _ => decide (b ≤ a)

/-- LEN (R95): the claimed length `v` of the top header against the limit. -/
def hcLen (len : Nat) (c : Core) (v : Nat) (strict base : Bool) : HcOut :=
  match c.stack.getLast? with
  | none => .stop c psFault
  | some (_, o, n) =>
    let claim := (if base then o + n else o) + v
    if c.limit < claim then .stop c psLenConflict
    else if !base && decide (claim < o + n) then .stop c psLenConflict
    else if strict && decide (claim < c.limit) && !(c.limitIsFrame && decide (len ≤ 64)) then .stop c psLenConflict
    else .next { c with limit := claim, limitIsFrame := false }

/-- FRAG (R96). -/
def hcFrag (c : Core) (sv tv ipidx : Nat) (v6 : Bool) : HcOut :=
  let off := bits sv 0 13
  let mf := bitAt sv 13
  if off = 0 ∧ mf = false then .next c
  else if c.stack.length ≤ ipidx then .stop c psFault
  else
    let c1 := { c with frag := if off = 0 then 1 else 2, fragId := bits tv 0 32, fragProto := bits tv 32 8, fragIpidx := ipidx, fragV6 := v6 }
    if off = 0 then .next c1 else .stop c1 psOk

/-- A field width in which 0 means 64 (R100). -/
def width64 (w : Nat) : Nat := if w = 0 then 64 else w

/-- A field of the metadata bus set. -/
def setBus (b : W1024) (off w v : Nat) : W1024 := BitVec.ofNat 1024 (putBits b.toNat off w v)

/-- A field of the metadata bus. -/
def busBits (b : W1024) (off w : Nat) : Nat := bits b.toNat off w

/-- The dispatch target (R102): the lowest-indexed valid entry whose VALUE matches. -/
def dispTarget (entries : List Nat) (v : Nat) : Option Nat :=
  (entries.find? (fun e => bitAt e 28 && bits e 0 16 == v % 2 ^ 16)).map (fun e => bits e 16 12)

/-! Emission -/

/-- The parse summary and header stack of an ended parse (R99), under the program region that META wrote. -/
def emitBus (d : Desc) (c : Core) (pstat failPc : Nat) : W1024 :=
  let fields : List (Nat × Nat × Nat) :=
    [(0, 3, pstat), (3, 5, c.stack.length), (8, 10, c.c), (18, 14, d.length), (32, 6, d.lport), (38, 8, d.tenant),
     (46, 3, d.prio), (49, 1, b2n d.ptp), (50, 2, c.frag), (52, 1, c.bank), (53, 11, c.steps), (64, 32, c.fragId),
     (96, 8, c.fragProto), (104, 4, c.fragIpidx), (108, 1, b2n c.fragV6), (109, 12, failPc)]
  let stack := (List.range c.stack.length).map (fun k =>
    let e := c.stack.getD k (0, 0, 0)
    (128 + 16 * k, 16, e.1 * 512 + e.2.1 % 512))
  (fields ++ stack).foldl (fun b f => setBus b f.1 f.2.1 f.2.2) c.bus

/-- The counter of a parse status (R108). -/
def pstatCounter (g pstat : Nat) : Option Nat :=
  match pstat with
  | 1 => some (Addr.ST_DEPTH g)
  | 2 => some (Addr.ST_LEN_CONFLICT g)
  | 3 => some (Addr.ST_STEPS g)
  | 4 => some (Addr.ST_FAULT g)
  | _ => none

/-- The five words of a parsed packet (R98): the metadata bus, and the intake descriptor word with the packet-buffer reference, which
is the packet's identity here (DESIGN CHOICE, log 22). -/
def parsedWords (bus : W1024) (d : Desc) (id : Nat) : List W256 :=
  (List.range 4).map (fun i => BitVec.ofNat 256 (busBits bus (256 * i) 256)) ++ [BitVec.ofNat 256 (putBits (wordOfDesc d).toNat 176 32 id)]

/-- A core's parsed packet is committed into its header-to-stage FIFO with its metadata (R97 to R99). -/
def emitParsed (c : Core) (pstat : Nat) (bus : W1024) (q : Pkt) (s : State) : State :=
  let g := c.n / 128
  let s1 := s.updPacket c.pkt (fun q => { q with bus, hdrs := c.stack, core := c.n, at_ := .parsed })
  let s2 := s1.updCore c.n (fun _ => { c with finished := true })
  let s3 := commitPacket (0x80 + c.n) ⟨5, some c.pkt, parsedWords bus q.desc c.pkt⟩ s2
  let s4 := (s3.bump64 (Addr.PARSED g)).bump64 (Addr.STEPS_SUM g) c.steps
  let s5 := (s4.raise (Addr.MAX_STEPS g) c.steps)
  let s6 := if 128 * (q.desc.length + 24) / 100 < c.steps then s5.bump32 (Addr.OVER_BUDGET g) else s5
  -- a parse that ends as a later fragment leaves the count of a linked flip (R134)
  checkRetire (match pstatCounter g pstat with
    | some a => s6.bump32 a
    | none => s6)

/-- The parse of a core ends (R97, R98): its five words are committed into its header-to-stage FIFO, and the group counts
it. The core stays busy until stage 0 takes the packet (R87); it waits while the FIFO has no room (R79). -/
def finishParse (c : Core) (pstat failPc : Nat) (s : State) : State :=
  if !s.fifoFits (0x80 + c.n) 5 then s else
  match s.packet c.pkt with
  | none => s
  | some q => emitParsed c pstat (emitBus q.desc c pstat failPc) q s

/-- One instruction of core `n` (R89 to R97): it runs where the word at the core's program counter is `word`; the
STEP_CAP bound is met first (R91), and a step past address 4095 is a PARSE_FAULT there. The bank is the one active when
the first instruction issues (R103). -/
def hcRun (n word : Nat) (act : State → Core → HcOut) (s : State) : State :=
  match s.core n with
  | none => s
  | some c0 =>
    let g := n / 128
    let c := if c0.steps = 0 then { c0 with bank := s.bankNow g } else c0
    if c.finished ∨ s.progWord g c.bank c.pc ≠ word then s
    else if s.reg (Addr.STEP_CAP g) ≤ c.steps then finishParse c psSteps c.pc s
    else
      match act s { c with steps := c.steps + 1 } with
      | .next c2 => if c2.pc = 4095 then finishParse c2 psFault 4095 s else s.updCore n (fun _ => { c2 with pc := c2.pc + 1 })
      | .jump c2 pc => s.updCore n (fun _ => { c2 with pc })
      | .stop c2 e => finishParse c2 e (if e = 0 then 0 else c.pc) s

/-- NOP (R100). -/
def execHcNop (n : Nat) (s : State) : Host.Outcome State Fault Refusal := .next (hcRun n encNop (fun _ c => .next c) s)
/-- LD (R93, R100): SZ codes 0 to 3 load 1, 2, 4 and 8 bytes. -/
def execHcLd (n d src sz : Nat) (x : Bool) (off : Nat) (s : State) : Host.Outcome State Fault Refusal :=
  .next (hcRun n (encLd d src sz x off) (fun s c =>
    hcLoad (frameLength s c) (frameBytes s c) c (d % 16) (c.c + off % 512 + (if x then c.reg (src % 16) % 1024 else 0)) (2 ^ (sz % 4))) s)
/-- MOVI (R100). -/
def execHcMovi (n d k imm : Nat) (s : State) : Host.Outcome State Fault Refusal :=
  .next (hcRun n (encMovi d k imm) (fun _ c => .next (c.setReg (d % 16) (putBits (c.reg (d % 16)) (16 * (k % 4)) 16 imm))) s)
/-- ALU (R100, R101). -/
def execHcAlu (n d src tgt fn : Nat) (s : State) : Host.Outcome State Fault Refusal :=
  .next (hcRun n (encAlu d src tgt fn) (fun _ c => .next (c.setReg (d % 16) (hcFn (fn % 16) (c.reg (src % 16)) (c.reg (tgt % 16))))) s)
/-- ALUI (R100, R101). -/
def execHcAlui (n d src fn imm : Nat) (s : State) : Host.Outcome State Fault Refusal :=
  .next (hcRun n (encAlui d src fn imm) (fun _ c => .next (c.setReg (d % 16) (hcFn (fn % 16) (c.reg (src % 16)) (imm % 2 ^ 14)))) s)
/-- EXT (R100). -/
def execHcExt (n d src pos wid : Nat) (s : State) : Host.Outcome State Fault Refusal :=
  .next (hcRun n (encExt d src pos wid) (fun _ c => .next (c.setReg (d % 16) (bits (c.reg (src % 16)) (pos % 64) (width64 (wid % 64))))) s)
/-- BR (R100, R101). -/
def execHcBr (n src tgt cond target : Nat) (s : State) : Host.Outcome State Fault Refusal :=
  .next (hcRun n (encBr src tgt cond target) (fun _ c =>
    if hcCond (cond % 8) (c.reg (src % 16)) (c.reg (tgt % 16)) then .jump c (target % 4096) else .next c) s)
/-- BRI (R100, R101). -/
def execHcBri (n src cond imm target : Nat) (s : State) : Host.Outcome State Fault Refusal :=
  .next (hcRun n (encBri src cond imm target) (fun _ c =>
    if hcCond (cond % 4) (c.reg (src % 16)) (imm % 256) then .jump c (target % 4096) else .next c) s)
/-- JMP (R100). -/
def execHcJmp (n target : Nat) (s : State) : Host.Outcome State Fault Refusal :=
  .next (hcRun n (encJmp target) (fun _ c => .jump c (target % 4096)) s)
/-- DISP (R100, R102). -/
def execHcDisp (n src tbl dflt : Nat) (s : State) : Host.Outcome State Fault Refusal :=
  .next (hcRun n (encDisp src tbl dflt) (fun s c =>
    let es := (List.range 32).map (fun e => s.dispWord (n / 128) c.bank (32 * (tbl % 16) + e))
    .jump c ((dispTarget es (c.reg (src % 16))).getD (dflt % 4096))) s)
/-- HDR (R94, R100). -/
def execHcHdr (n src ty : Nat) (i : Bool) (immLen : Nat) (s : State) : Host.Outcome State Fault Refusal :=
  .next (hcRun n (encHdr src ty i immLen) (fun s c =>
    hcHeader (frameLength s c) c (ty % 128) (if i then immLen % 512 else c.reg (src % 16))) s)
/-- ADV (R94, R100). -/
def execHcAdv (n src : Nat) (i : Bool) (immLen : Nat) (s : State) : Host.Outcome State Fault Refusal :=
  .next (hcRun n (encAdv src i immLen) (fun s c =>
    let k := if i then immLen % 512 else c.reg (src % 16)
    match hcAdvance (frameLength s c) c k with
    | some e => .stop c e
    | none => .next { c with c := c.c + k }) s)
/-- LEN (R95, R100). -/
def execHcLen (n src : Nat) (strict base : Bool) (s : State) : Host.Outcome State Fault Refusal :=
  .next (hcRun n (encLen src strict base) (fun s c => hcLen (frameLength s c) c (c.reg (src % 16)) strict base) s)
/-- FRAG (R96, R100). -/
def execHcFrag (n src tgt ipidx : Nat) (v6 : Bool) (s : State) : Host.Outcome State Fault Refusal :=
  .next (hcRun n (encFrag src tgt ipidx v6) (fun _ c => hcFrag c (c.reg (src % 16)) (c.reg (tgt % 16)) (ipidx % 16) v6) s)
/-- META (R100). -/
def execHcMeta (n src off wid : Nat) (s : State) : Host.Outcome State Fault Refusal :=
  .next (hcRun n (encMeta src off wid) (fun _ c =>
    .next { c with bus := setBus c.bus (off % 1024) (width64 (wid % 64)) (c.reg (src % 16)) }) s)
/-- DONE (R97, R100). -/
def execHcDone (n : Nat) (s : State) : Host.Outcome State Fault Refusal := .next (hcRun n encDone (fun _ c => .stop c psOk) s)
/-- FAIL (R97, R100). -/
def execHcFail (n code : Nat) (s : State) : Host.Outcome State Fault Refusal :=
  .next (hcRun n (encFail code) (fun _ c => .stop c (code % 8)) s)

/-! Assignment -/

/-- The head packets of the intake FIFOs that were committed for a group, in ascending logical port (R85, R107). -/
def eligibleHeads (s : State) (g : Nat) : List Pkt :=
  (List.range 64).filterMap (fun L => ((s.fifo L).pkts.head?.bind (fun q => q.pkt.bind s.packet)).filter (fun q => q.group == g))

/-- The first of the eligible packets in the order of their commit beats, those of one beat in ascending logical port (R86). -/
def firstCommitted : List Pkt → Option Pkt
  | [] => none
  | q :: qs => match firstCommitted qs with
    | some r => if r.commitZc < q.commitZc then some r else some q
    | none => some q

/-- The lowest-numbered idle core of a group (R86). -/
def idleCore (s : State) (g : Nat) : Option Nat := ((List.range 128).map (fun j => 128 * g + j)).find? (fun n => (s.core n).isNone)

/-- The start state of a parse (R89). -/
def startCore (n bank sub : Nat) (q : Pkt) : Core :=
  let d := q.desc
  let h14 := d.lport % 64 + d.tenant % 256 * 2 ^ 6 + d.prio % 8 * 2 ^ 14 + b2n d.ptp * 2 ^ 17 + sub % 8 * 2 ^ 18
  { n, pkt := q.id, bank, limit := d.length, pc := sub % 8
    regs := List.replicate 14 0#64 ++ [BitVec.ofNat 64 h14, BitVec.ofNat 64 d.length] }

/-- Whether a group takes packets (R85): HC_CTRL.ENABLE, or the partner's split, which clears it while frames that the group had
committed before still go on (R64, R107), even where ENABLE was 0 before the split too (DESIGN CHOICE, log 22). -/
def State.groupTakes (s : State) (g : Nat) : Bool := s.flag (Addr.HC_CTRL g) 0 || s.portMode (partner g) == 4

/-- A packet is given to core `n` (R86, R88, R89), or aborted where a window word is uncorrectable: the core emits
nothing and its pages are freed. -/
def assignPacket (g n : Nat) (q : Pkt) (bad : Bool) (s : State) : State :=
  let s1 := popFifo q.desc.lport s
  if bad then
    freePacket q.id (s1.bump32 (Addr.ABORTED g))
  else
    let s2 := s1.updPacket q.id (fun q => { q with at_ := .core, core := n })
    { s2 with
      hc.cores := s2.hc.cores ++ [startCore n (s.bankNow g) q.sub q]
      hc.order := tabSet [] g (tabGet [] g s2.hc.order ++ [n]) s2.hc.order }

/-- PACKET_ASSIGN (R76, R86, R88); `k` words of the window are corrected. -/
def execPacketAssign (t g k : Nat) (bad : Bool) (s : State) : Host.Outcome State Fault Refusal :=
  .next (if s.groupTakes g then
      match firstCommitted (eligibleHeads s g), idleCore s g with
      | some q, some n => assignPacket g n q bad (noteRead q.desc.lport ⟨k, bad⟩ (advance t s))
      | _, _ => s
    else s)

/-! Validation, staging writes and flips -/

/-- The reserved bits of an opcode's fields (R100), none for a reserved opcode. -/
def hcReserved (op : Nat) : Option Nat :=
  match op with
  | 0x00 => some 0x3FFFFFF
  | 0x01 => some 0x7E00
  | 0x02 => some 0xF0000
  | 0x03 => some 0x3FF0
  | 0x04 => some 0
  | 0x05 => some 0x3F
  | 0x08 => some 0x7000
  | 0x09 => some 0
  | 0x0A => some 0x3FFF000
  | 0x0B => some 0x3F000
  | 0x10 => some 0x3E00
  | 0x11 => some 0x3FBE00
  | 0x12 => some 0xFFFFF
  | 0x13 => some 0x1FFF
  | 0x18 => some 0x3F
  | 0x3E => some 0x3FFFFFF
  | 0x3F => some 0x3FFFFF8
  | _ => none

/-- The validation cause of an instruction word (R100, R101, R108), 0 for a valid one. Of several causes the one with the lowest code is
reported (DESIGN CHOICE, log 22). -/
def validateWord (w : Nat) : Nat :=
  let op := bits w 26 6
  match hcReserved op with
  | none => 1
  | some m =>
    if w &&& m ≠ 0 then 2
    else if (op = 3 ∧ 7 < w % 16) ∨ (op = 4 ∧ 7 < bits w 14 4) ∨ (op = 8 ∧ 3 < bits w 15 3) ∨ (op = 0x3F ∧ (w % 8 = 0 ∨ 4 < w % 8)) then 3
    else if op = 0x10 ∧ (bits w 15 7 = 0 ∨ (bitAt w 14 ∧ w % 512 = 0)) then 4
    else if op = 0x18 ∧ (bits w 12 10 < 384 ∨ 1024 < bits w 12 10 + width64 (bits w 6 6)) then 5 else 0

/-! Words and rows (R100) -/

/-- The header core and the instruction word of a header-core row. -/
def hcEncode : Instr → Option (Nat × Nat)
  | .hcNop n => some (n, encNop)
  | .hcLd n d src sz x off => some (n, encLd d src sz x off)
  | .hcMovi n d k imm => some (n, encMovi d k imm)
  | .hcAlu n d src tgt fn => some (n, encAlu d src tgt fn)
  | .hcAlui n d src fn imm => some (n, encAlui d src fn imm)
  | .hcExt n d src pos wid => some (n, encExt d src pos wid)
  | .hcBr n src tgt cond target => some (n, encBr src tgt cond target)
  | .hcBri n src cond imm target => some (n, encBri src cond imm target)
  | .hcJmp n target => some (n, encJmp target)
  | .hcDisp n src tbl dflt => some (n, encDisp src tbl dflt)
  | .hcHdr n src ty i immLen => some (n, encHdr src ty i immLen)
  | .hcAdv n src i immLen => some (n, encAdv src i immLen)
  | .hcLen n src strict base => some (n, encLen src strict base)
  | .hcFrag n src tgt ipidx v6 => some (n, encFrag src tgt ipidx v6)
  | .hcMeta n src off wid => some (n, encMeta src off wid)
  | .hcDone n => some (n, encDone)
  | .hcFail n code => some (n, encFail code)
  | _ => none

/-- The row that header core `n` runs on an instruction word, none for a word that validation refuses. -/
def hcDecode (n w : Nat) : Option Instr :=
  let a := bits w 22 4
  let b := bits w 18 4
  if validateWord w ≠ 0 then none
  else match bits w 26 6 with
    | 0x00 => some (.hcNop n)
    | 0x01 => some (.hcLd n a b (bits w 16 2) (bitAt w 15) (bits w 0 9))
    | 0x02 => some (.hcMovi n a (bits w 20 2) (bits w 0 16))
    | 0x03 => some (.hcAlu n a b (bits w 14 4) (bits w 0 4))
    | 0x04 => some (.hcAlui n a b (bits w 14 4) (bits w 0 14))
    | 0x05 => some (.hcExt n a b (bits w 12 6) (bits w 6 6))
    | 0x08 => some (.hcBr n a b (bits w 15 3) (bits w 0 12))
    | 0x09 => some (.hcBri n a (bits w 20 2) (bits w 12 8) (bits w 0 12))
    | 0x0A => some (.hcJmp n (bits w 0 12))
    | 0x0B => some (.hcDisp n a b (bits w 0 12))
    | 0x10 => some (.hcHdr n a (bits w 15 7) (bitAt w 14) (bits w 0 9))
    | 0x11 => some (.hcAdv n a (bitAt w 14) (bits w 0 9))
    | 0x12 => some (.hcLen n a (bitAt w 21) (bitAt w 20))
    | 0x13 => some (.hcFrag n a b (bits w 14 4) (bitAt w 13))
    | 0x18 => some (.hcMeta n a (bits w 12 10) (bits w 6 6))
    | 0x3E => some (.hcDone n)
    | 0x3F => some (.hcFail n (bits w 0 3))
    | _ => none

/-- The first failure of a staging bank, as VALIDATE_ERR reports it (R108). Unlisted words are NOP and empty entries. -/
def validateBank (s : State) (g bank : Nat) : Option Nat :=
  let lo := progKey g bank 0
  let progs := s.hc.prog.filter (fun e => decide (lo ≤ e.1 ∧ e.1 < lo + 4096))
  match progs.find? (fun e => validateWord e.2.toNat != 0) with
  | some e => some (e.1 - lo + validateWord e.2.toNat * 2 ^ 12)
  | none =>
    let dl := dispKey g bank 0
    match (s.hc.disp.filter (fun e => decide (dl ≤ e.1 ∧ e.1 < dl + 512))).find? (fun e => e.2.toNat / 2 ^ 29 != 0) with
    | some e => some (e.1 - dl + 6 * 2 ^ 12 + 2 ^ 16)
    | none => none

/-- A write of an instruction or dispatch word of the staging bank (R103). -/
def wrProgStage (g a v : Nat) (s : State) : Nat × State :=
  if s.stagingClosed g then (St.BUSY, s)
  else (St.OK, { s.setFlag (Addr.PROG_STATUS g) 1 false with
    hc.prog := tabSet 0#32 (progKey g (s.stageBank g) a) (BitVec.ofNat 32 v) s.hc.prog })

/-- A write of a dispatch entry of the staging bank (R103). -/
def wrDispStage (g i v : Nat) (s : State) : Nat × State :=
  if s.stagingClosed g then (St.BUSY, s)
  else (St.OK, { s.setFlag (Addr.PROG_STATUS g) 1 false with
    hc.disp := tabSet 0#32 (dispKey g (s.stageBank g) i) (BitVec.ofNat 32 v) s.hc.disp })

/-- The staging bank is validated: STAGE_VALID and VALIDATE_ERR (R103, R108). -/
def validateStage (g : Nat) (s : State) : State :=
  match validateBank s g (s.stageBank g) with
  | some e => (s.setReg (Addr.HC_VALIDATE_ERR g) e).setFlag (Addr.PROG_STATUS g) 1 false
  | none => (s.setReg (Addr.HC_VALIDATE_ERR g) 0).setFlag (Addr.PROG_STATUS g) 1 true

/-- A write of PROG_VALIDATE (R103): refused while the staging bank is closed, whatever it writes. -/
def wrProgValidate (g v : Nat) (s : State) : Nat × State :=
  if s.stagingClosed g then (St.BUSY, s) else if !bitAt v 0 then (St.OK, s) else (St.OK, validateStage g s)

/-- Whether a flip of a group is refused (R103), in the order of its checks. -/
def flipRefused (s : State) (g : Nat) : Option Nat :=
  if s.stagingClosed g then some St.EPOCH_BUSY else if s.flag (Addr.PROG_STATUS g) 1 then none else some St.BAD_PARAM

/-- A flip of a group is armed under LINK_EPOCH, or set for beat `b` (R103, R106). -/
def setFlip (g b : Nat) (s : State) : State :=
  if s.flag (Addr.HC_CTRL g) 1 then s.setFlag (Addr.PROG_STATUS g) 2 true
  else { s.setFlag (Addr.PROG_STATUS g) 12 true with hc.flip := tabSet 0 g (b + 1) s.hc.flip }

/-- A write of PROG_FLIP (R103, R106). -/
def wrProgFlip (g v : Nat) (s : State) : Nat × State :=
  if !bitAt v 0 then (St.OK, s) else
  match flipRefused s g with
  | some e => (e, s)
  | none => let d := s.deviceBeat; (St.OK, setFlip g d.1 d.2)

/-- The banks of a group change over on beat `b` (R103): the old active bank becomes the staging bank. -/
def flipBank (g b : Nat) (s : State) : State :=
  let v := s.reg (Addr.PROG_STATUS g)
  let v' := (1 - v % 2) + bits v 3 1 * 2 + bits v 1 1 * 8
  ({ s with hc.flip := tabSet 0 g 0 s.hc.flip }.setReg (Addr.PROG_STATUS g) v').setReg (Addr.HC_FLIP_ZC g) b

/-- PARSE_BANK_FLIP (R103): on the flip beat of an unlinked flip. -/
def execParseBankFlip (t g : Nat) (s : State) : Host.Outcome State Fault Refusal :=
  let b := tabGet 0 g s.hc.flip
  .next (if s.flag (Addr.PROG_STATUS g) 12 ∧ b ≠ 0 ∧ b - 1 ≤ s.zc then flipBank g (b - 1) (advance t s) else s)

/-- A write of HC_CTRL (R85, R104). -/
def wrHcCtrl (g v : Nat) (s : State) : Nat × State :=
  if bitAt v 0 ∧ (s.portMode (partner g) = 4 ∨ !s.flag (Addr.PROG_STATUS g) 3) then (St.BAD_PARAM, s)
  else (St.OK, s.setReg (Addr.HC_CTRL g) (v % 4))

/-! The parse image (R92, R104, R105) -/

/-- A parse image written into the staging bank of group `g`, unused words 0. -/
def writeParseImage (img : Bytes) (words g : Nat) (s : State) : State :=
  let bank := s.stageBank g
  let lo := progKey g bank 0
  let dl := dispKey g bank 0
  let keepP := s.hc.prog.filter (fun e => !(decide (lo ≤ e.1 ∧ e.1 < lo + 4096)))
  let keepD := s.hc.disp.filter (fun e => !(decide (dl ≤ e.1 ∧ e.1 < dl + 512)))
  let prog := (List.range words).foldl (fun t a => tabSet 0#32 (lo + a) (BitVec.ofNat 32 (le img (64 + 4 * a) 4)) t) keepP
  let disp := (List.range 512).foldl (fun t i => tabSet 0#32 (dl + i) (BitVec.ofNat 32 (le img (64 + 4 * words + 4 * i) 4)) t) keepD
  { s.setFlag (Addr.PROG_STATUS g) 1 false with hc.prog := prog, hc.disp := disp }

/-- Whether the header of a parse image and the length named are right (R105, check 1). -/
def parseHeaderOk (hd : Bytes) (len : Nat) : Bool :=
  let words := le hd 24 2
  let total := le hd 32 8
  le hd 0 4 == 0x42565052 && le hd 4 2 == 1 && decide (le hd 6 2 ≤ 1) && zerosAt hd 26 6 && zerosAt hd 40 24 &&
    decide (8 ≤ words ∧ words ≤ 4096) && total == 64 + 4 * words + 2048 && len == total + sigBytes

/-- PARSE_LOAD (R104, R105): checks 1 to 4 before any bank is written, 5 and 6 on the written banks. An empty group mask is answered
like any other and changes no group (DESIGN CHOICE, log 22). -/
def cmdParseLoad : CmdFn := fun env p s =>
  if !env.owner then refuse St.NOT_PERMITTED s
  else if p.length ≠ 20 ∨ !zerosAt p 2 6 then refuse St.BAD_PARAM s
  else
    let groups := setBits (be p 0 2) 16
    let off := be p 8 8
    let len := be p 16 4
    let hd := s.readBytes owner off 64
    if !parseHeaderOk hd len then refuse St.BAD_PARAM s
    else
      let total := le hd 32 8
      let img := s.readBytes owner off total
      if !verifyPair (tabGet [] owner s.signer) img (s.readBytes owner (off + total) sigBytes) then refuse St.SIG_FAIL s
      else if !s.inWindows owner off len false then refuse St.NOT_PERMITTED s
      else if groups.any s.stagingClosed then refuse St.BUSY s
      else
        let steps := (List.range 8).map (fun i => le hd (8 + 2 * i) 2)
        let s1 := groups.foldl (fun s g => writeParseImage img (le hd 24 2) g s) s
        let s2 := groups.foldl (fun s g => validateStage g s) s1
        let bad := groups.any (fun g => !s2.flag (Addr.PROG_STATUS g) 1 || steps.any (fun n => decide (s.reg (Addr.STEP_CAP g) < n)))
        let unset := groups.foldl (fun s g => s.setFlag (Addr.PROG_STATUS g) 1 false) s2
        if bad then (st St.BAD_PARAM, unset)
        else if steps.any (fun n => decide (107 < n)) ∧ !bitAt (le hd 6 2) 0 then (st St.RATE_SHORTFALL, unset)
        else (ok, countHbm false off len s2)

/-- PARSE_FLIP (R104, R106): every group of the mask on one beat; the reply gives it, or 0 when armed. Where several groups refuse, the
lowest one's status is the reply; a mask of linked and unlinked groups is answered with the beat; an empty mask is answered with a beat
and changes no group (DESIGN CHOICES, log 22). -/
def cmdParseFlip : CmdFn := fun env p s =>
  if !env.owner then refuse St.NOT_PERMITTED s
  else if p.length ≠ 2 then refuse St.BAD_PARAM s
  else
    let groups := setBits (be p 0 2) 16
    match groups.findSome? (flipRefused s) with
    | some e => refuse e s
    | none =>
      let d := s.deviceBeat
      let armed := !groups.isEmpty && groups.all (fun g => s.flag (Addr.HC_CTRL g) 1)
      (⟨St.OK, toBE 8 (if armed then 0 else d.1)⟩, groups.foldl (fun s g => setFlip g d.1 s) d.2)

end Sys2Proof.Machine
end

