-- ==== Sys2Proof/Machine/Match.lean ====
section
/-!
DEFINITION. Match stages, rule epochs and templates (R109 to R131): keys, lookups, the operations of a template, passes,
stamping, live and staged entry writes, the staging lease, flips, drains and the staging copy.
Logs 12 and 23 name what the manual leaves open here.
-/
namespace Sys2Proof.Machine

/-! Event opcodes (R356, R399) -/
def evRuleEpochFlip : Nat := 0xFF30
def evStageLeaseLost : Nat := 0xFF31
def evEpochDrainSlow : Nat := 0xFF32
def evRuleEntryLost : Nat := 0xFF7D

/-! Epochs and banks -/

/-- EPOCH_STATUS.STAGE_READY. -/
def State.stageReady (s : State) : Bool := s.flag Addr.EPOCH_STATUS 2
/-- EPOCH_STATUS.LEASE_HELD. -/
def State.leaseHeld (s : State) : Bool := s.flag Addr.EPOCH_STATUS 3
/-- EPOCH_STATUS.FLIP_PENDING. -/
def State.flipPending (s : State) : Bool := s.flag Addr.EPOCH_STATUS 4
/-- Whether tenant `t` holds the staging lease (R122). -/
def State.holds (s : State) (t : Nat) : Bool := s.leaseHeld && s.field Addr.STAGE_HOLDER 0 8 == t

/-- A packet's final pass has left stage 11 (R124). -/
def retirePacket (id : Nat) (s : State) : State := checkRetire (s.updPacket id (fun q => { q with stamped := false, preStamp := false }))

/-! Tables -/

/-- The key of an exact or ternary entry. -/
def entryKey (stage bank index : Nat) : Nat := (bank * 12 + stage) * 2 ^ 18 + index
/-- The key of a template. -/
def templKey (stage bank i : Nat) : Nat := (bank * 12 + stage) * 4096 + i
/-- The key of a key-select word. -/
def keyselKey (stage bank i : Nat) : Nat := (bank * 12 + stage) * 32 + i
/-- The key of the miss-template word. -/
def missKey (stage bank : Nat) : Nat := bank * 12 + stage

/-- An exact entry's image, 0 for an empty slot. -/
def State.exactAt (s : State) (stage bank i : Nat) : Nat := (tabGet 0#512 (entryKey stage bank i) s.mt.exact).toNat
/-- A ternary entry's image, 0 for an empty slot. -/
def State.ternAt (s : State) (stage bank i : Nat) : Nat := (tabGet 0#1152 (entryKey stage bank i) s.mt.tern).toNat
/-- A template's sixteen words (R125). -/
def State.templAt (s : State) (stage bank i : Nat) : List Nat :=
  let ws := tabGet [] (templKey stage bank i) s.mt.templ
  if ws.isEmpty then List.replicate 16 0 else ws.map BitVec.toNat
/-- A key-select word (R139). -/
def State.keyselAt (s : State) (stage bank i : Nat) : Nat := (tabGet 0#32 (keyselKey stage bank i) s.mt.keysel).toNat
/-- The miss-template word (R139). -/
def State.missAt (s : State) (stage bank : Nat) : Nat := (tabGet 0#32 (missKey stage bank) s.mt.miss).toNat
/-- A hash-select word of a bank (R140). -/
def State.hashSelAt (s : State) (bank r : Nat) : Nat := (tabGet 0#32 (3 * bank + r) s.mt.hashSel).toNat

/-- An entry taken apart: its tenant, template, parameter, key (or value), mask and version (R116, R117). -/
structure Entry where
  tenant : Nat
  template : Nat
  param : Nat
  key : Nat
  mask : Nat
  ver : Nat
deriving DecidableEq, Repr

/-- An exact entry (R116). -/
def exactEntry (v : Nat) : Entry := ⟨bits v 384 8, bits v 392 12, bits v 406 96, bits v 0 384, 0, bits v 404 2⟩
/-- A ternary entry (R117). -/
def ternEntry (v : Nat) : Entry := ⟨bits v 1024 8, bits v 1032 12, bits v 1044 96, bits v 0 512, bits v 512 512, 0⟩

/-- Whether a template's header permits a tenant (R118, R125): it names the tenant, or ANY. -/
def permits (header t : Nat) : Bool := bits header 0 8 == t || bitAt header 8

/-! Keys and lookups -/

/-- The pass context of a packet (R113). -/
def passContext (q : Pkt) : Nat :=
  q.tenant + q.epoch * 2 ^ 8 + q.pass * 2 ^ 24 + b2n q.hit * 2 ^ 27 + b2n q.partialOk * 2 ^ 28 + b2n q.final * 2 ^ 29
    + b2n q.labelValid * 2 ^ 30 + q.vclass * 2 ^ 32 + q.model * 2 ^ 40 + q.vsrc * 2 ^ 48 + q.verdict * 2 ^ 64
    + q.label * 2 ^ 128 + q.hash * 2 ^ 160

/-- The 1280-bit key space (R114). -/
def keySpace (q : Pkt) : Nat := q.bus.toNat + passContext q * 2 ^ 1024

/-- The key of eight key-select words, field 0 least significant, with its width (R114). -/
def buildKey (space : Nat) : List Nat → Nat × Nat
  | [] => (0, 0)
  | w :: ws =>
    let wid := bits w 12 7
    let r := buildKey space ws
    (bits space (bits w 0 11) wid + r.1 * 2 ^ wid, wid + r.2)

/-- The slot kind of a pass: 1 for the verdict pass, 0 for first-pass slots (R111). -/
def slotKind (pass : Nat) : Nat := if pass = 2 then 1 else 0

/-- The key of lookup `l` (0 exact, 1 ternary) of a packet at a stage, none where the lookup is disabled (R114). -/
def lookupKey (s : State) (q : Pkt) (stage bank l : Nat) : Option Nat :=
  let ws := (List.range 8).map (fun f => s.keyselAt stage bank (16 * slotKind q.pass + 8 * l + f))
  let r := buildKey (keySpace q) ws
  if r.2 = 0 then none else some r.1

/-- The exact entries with a key and tenant, by way (R116). -/
def exactMatches (s : State) (stage bank k t : Nat) : List Nat :=
  ((List.range 4).map (fun w => 65536 * w + exactSlot w k t)).filter (fun i =>
    let v := s.exactAt stage bank i
    bitAt v 511 && (exactEntry v).tenant == t && (exactEntry v).key == k)

/-- Of two matching exact entries, whether the version of the second exceeds the first's by 1 mod 4 (R118). -/
def newer (a b : Nat) : Bool := (a + 1) % 4 == b

/-- The exact entry that hits, and whether the lookup was resolved by way (R118). -/
def exactHit (s : State) (stage bank k t : Nat) : Option Entry × Bool :=
  match (exactMatches s stage bank k t).map (fun i => exactEntry (s.exactAt stage bank i)) with
  | [] => (none, false)
  | [a] => (some a, false)
  | a :: b :: _ => if newer a.ver b.ver then (some b, false) else if newer b.ver a.ver then (some a, false) else (some a, true)

/-- The indices of the ternary entries listed in a stage and bank, ascending. -/
def ternIndices (s : State) (stage bank : Nat) : List Nat :=
  let lo := entryKey stage bank 0
  ((s.mt.tern.map Prod.fst).filter (fun a => decide (lo ≤ a ∧ a < lo + 2 ^ 18))).map (fun a => a - lo)

/-- Whether a ternary entry matches (R115, R117). -/
def ternMatch (e : Entry) (k t : Nat) : Bool := e.tenant == t && ((k ^^^ e.key) &&& e.mask) == 0

/-- The ternary entry that hits: the lowest matching valid index (R117). -/
def ternHit (s : State) (stage bank k t : Nat) : Option (Nat × Entry) :=
  ((ternIndices s stage bank).filter (fun i => bitAt (s.ternAt stage bank i) 1151 &&
    ternMatch (ternEntry (s.ternAt stage bank i)) k t)).head?.map (fun i => (i, ternEntry (s.ternAt stage bank i)))

/-! The operations of a template (R126) -/

/-- A packet with its result changed. -/
def Pkt.withResult (q : Pkt) (f : PktResult → PktResult) : Pkt := { q with result := f q.result }

/-- Parse status of a packet (R97), from its parse summary. -/
def Pkt.pstat (q : Pkt) : Nat := busBits q.bus 0 3

/-- The passes on which an operation runs (R126). -/
def opRuns (op pass : Nat) : Bool :=
  if op = 0x03 ∨ op = 0x04 ∨ op = 0x13 ∨ op = 0x14 then pass == 1 else if op = 0x0A ∨ op = 0x12 then pass != 1 else true

/-- One operation on a packet, none where it is suppressed (R126, R129). `free` says that SET_TENANT may act (an entry of
tenant 0 or a miss template), `param` is the entry's parameter. A SET_LABEL without LABEL_VALID and a SET_TENANT that takes no effect
run on their own pass and are not among the suppressed (DESIGN CHOICE, log 23). -/
def applyOp (tenantExists : Nat → Bool) (free : Bool) (param stage w : Nat) (q : Pkt) : Option Pkt :=
  let op := bits w 26 6
  if !opRuns op q.pass || (q.pass == 1 && decide (2 ≤ q.pstat ∧ q.pstat ≤ 4) && op != 0x03 && op != 0x10) then none
  else match op with
  | 0x01 =>
    let wid := width64 (bits w 10 6)
    some { q with bus := setBus q.bus (bits w 16 10) wid (bits param (bits w 0 7) wid) }
  | 0x02 =>
    let wid := width64 (bits w 0 6)
    some { q with bus := setBus q.bus (bits w 16 10) wid (busBits q.bus (bits w 6 10) wid) }
  | 0x03 => some (if free && tenantExists (w % 256) then { q with tenant := w % 256 } else q)
  | 0x04 => some { q with model := bits w 8 8, vclass := w % 256 }
  | 0x05 => some (q.withResult (fun r => { r with egress := some (bitAt w 25, w % 256) }))
  | 0x06 => some (q.withResult (fun r => { r with queue := some (w % 1024) }))
  | 0x07 => some (q.withResult (fun r => { r with policer := if bitAt w 16 then none else some (w % 65536) }))
  | 0x08 => some (q.withResult (fun r => { r with mirror := putBits r.mirror (w % 16) 1 (if bitAt w 4 then 0 else 1) }))
  | 0x09 => some (q.withResult (fun r => { r with cls := w % 16 }))
  | 0x0A => some (if q.labelValid then q.withResult (fun r => { r with label := some (bits param (bits w 0 7) 32) }) else q)
  | 0x0B =>
    let wid := width64 (bits w 7 6)
    some (q.withResult (fun r => { r with edits := r.edits ++ [.rewrite (bits w 22 4) (bits w 13 9) wid (bits param (bits w 0 7) wid)] }))
  | 0x0C => some (q.withResult (fun r => { r with edits := r.edits ++ [.csum (bits w 22 4) (bits w 20 2) stage] }))
  | 0x0D => some (q.withResult (fun r => { r with edits := r.edits ++ [.push (bits w 23 3) (bits w 19 4) (w % 1024)] }))
  | 0x0E => some (q.withResult (fun r => { r with edits := r.edits ++ [.pop (bits w 22 4) (bits w 18 4)] }))
  | 0x0F => some (q.withResult (fun r => { r with tag := some (w % 65536) }))
  | 0x10 => some (q.withResult (fun r => { r with exc := some (w % 256) }))
  | 0x11 => some (q.withResult (fun r => { r with drop := true }))
  | 0x12 => some (q.withResult (fun r => { r with recirc := true }))
  | 0x13 => some { q with final := true }
  | 0x14 => some { q with partialOk := true }
  | _ => some q

/-- The operations of a template in word order up to END (R125), with the number suppressed. -/
def runOps (ex : Nat → Bool) (free : Bool) (param stage : Nat) : List Nat → Pkt × Nat → Pkt × Nat
  | [], a => a
  | w :: ws, (q, n) =>
    if bits w 26 6 = 0 then (q, n)
    else match applyOp ex free param stage w q with
      | some q' => runOps ex free param stage ws (q', n)
      | none => runOps ex free param stage ws (q, n + 1)

/-- A template run on a packet; a miss template reads PARAM as 0 (R125). -/
def runTemplate (s : State) (stage bank templ param : Nat) (free : Bool) (a : Pkt × Nat) : Pkt × Nat :=
  runOps s.tenantExists free param stage ((s.templAt stage bank templ).drop 1) a

/-! Uncorrectable words (R367) -/

/-- The key of a word of a stage and bank in a table (0 exact, 1 ternary, 2 template, 3 key select, 4 miss, 5 hash). -/
def wordKey (table stage bank i : Nat) : Nat :=
  if table ≤ 1 then entryKey stage bank i else if table = 2 then templKey stage bank i
  else if table = 3 then keyselKey stage bank i else if table = 4 then missKey stage bank else 3 * bank + i

/-- A word is found uncorrectable: EV_RULE_ENTRY_LOST, once per entry until it is rewritten (R367). -/
def loseWord (stage bank : Nat) (s : State) (b : Nat × Nat) : State :=
  let k := wordKey b.1 stage bank b.2
  if s.mt.lost.contains (b.1, k) then s
  else { s with mt.lost := s.mt.lost ++ [(b.1, k)] }.raiseEvent evRuleEntryLost owner [stage, bank, b.1, b.2]

/-- What a stage's lookup reads (R367): table and index of each word. -/
def wordsRead (s : State) (q : Pkt) (stage bank : Nat) : List (Nat × Nat) :=
  let ks := (List.range 16).map (fun i => (3, 16 * slotKind q.pass + i))
  let ek := lookupKey s q stage bank 0
  let tk := lookupKey s q stage bank 1
  let ex := match ek with
    | some k => (List.range 4).map (fun w => (0, 65536 * w + exactSlot w k q.tenant))
    | none => []
  let eh := ek.bind (fun k => (exactHit s stage bank k q.tenant).1)
  let th := tk.bind (fun k => ternHit s stage bank k q.tenant)
  let lostTern := (s.mt.lost.filter (fun l => l.1 == 1 && decide (entryKey stage bank 0 ≤ l.2 ∧ l.2 < entryKey stage bank 0 + 2 ^ 18))).map
    (fun l => l.2 - entryKey stage bank 0)
  let tern := match tk with
    | some _ => (lostTern.filter (fun i => match th with | some h => decide (i ≤ h.1) | none => true)).map (fun i => (1, i))
    | none => []
  let miss := if (ek.isSome || tk.isSome) && eh.isNone && th.isNone then
      let w := bits (s.missAt stage bank) (16 * slotKind q.pass) 16
      (4, 0) :: (if bitAt w 15 then [(2, w % 4096)] else [])
    else []
  let templ := (eh.toList.map (fun (e : Entry) => (2, e.template))) ++ (th.toList.map (fun h => (2, h.2.template)))
  ks ++ ex ++ tern ++ templ ++ miss

/-- Whether a lookup reads an uncorrectable word. -/
def readsLost (s : State) (q : Pkt) (stage bank : Nat) : Bool :=
  (wordsRead s q stage bank).any (fun w => s.mt.lost.contains (w.1, wordKey w.1 stage bank w.2))

/-- A packet met an uncorrectable word: it is dropped at once, nothing it gathered takes effect (R367). -/
def dropLost (id : Nat) (s : State) : State :=
  freePacket id (s.bump32 Addr.RULE_ENTRY_LOST)

/-! Stamping -/

/-- Whether a packet that has left its core's parse is the next of its group for stage 0 (R87). -/
def nextOfGroup (s : State) (q : Pkt) : Bool := (tabGet [] (q.core / 128) s.hc.order).head? == some q.core

/-- Stage 0 takes a packet from its header-to-stage FIFO: its core is idle again (R87). -/
def takeFromCore (q : Pkt) (s : State) : State :=
  let g := q.core / 128
  popFifo (0x80 + q.core) { s with
    hc.cores := s.hc.cores.filter (fun (c : Core) => c.n != q.core)
    hc.order := tabSet [] g ((tabGet [] g s.hc.order).drop 1) s.hc.order }

/-- The epoch in force for a packet that starts pass 1 now (R106, R121, R138): on the flip beat the new one, but the old one for a packet
parsed on the bank that an armed parse flip of its group replaces. -/
def State.stampEpoch (s : State) (q : Pkt) : Nat :=
  if q.preStamp then q.epoch
  else if s.flipDue && !s.flag (Addr.PROG_STATUS (q.core / 128)) 2 then (s.epoch + 1) % 65536 else s.epoch

/-- PASS_STAMP (R113, R121): the pass context starts at zero with INTAKE_TENANT, the epoch and PASS 1. -/
def stampPacket (q : Pkt) (s : State) : State :=
  s.updPacket q.id (fun q => { q with
    tenant := q.desc.tenant, epoch := s.stampEpoch q, stamped := true, preStamp := false
    pass := 1, hit := false, partialOk := false, final := false, labelValid := false, vclass := 0, model := 0
    vsrc := 0, verdict := 0, label := 0, hash := 0, result := {}, at_ := .stage 0 })

/-! The end of a pass -/

/-- The symmetric hash of R131. -/
def symmetricHash (s : State) (q : Pkt) : Nat :=
  let bank := q.epoch % 2
  let fld (r lo w : Nat) : Nat := busBits q.bus (bits (s.hashSelAt bank r) lo 10) w
  let a := fld 0 0 128
  let b := fld 0 16 128
  let pa := fld 1 0 16
  let pb := fld 1 16 16
  crc32c (toBE 16 (min a b) ++ toBE 16 (max a b) ++ toBE 2 (min pa pb) ++ toBE 2 (max pa pb) ++ toBE 1 (fld 2 0 8) ++ toBE 1 q.tenant)

/-- The slot of a number. -/
def Selector.slot (x : Selector) (i : Nat) : Slot := if i = 0 then x.a else x.b
/-- A selector with a slot changed. -/
def Selector.setSlot (x : Selector) (i : Nat) (y : Slot) : Selector := if i = 0 then { x with a := y } else { x with b := y }
/-- The selector `sel` of tenant `t`. -/
def State.selector (s : State) (t sel : Nat) : Selector := tabGet {} (16 * t + sel) s.models
/-- `s` with a selector set. -/
def State.setSelector (s : State) (t sel : Nat) (x : Selector) : State := { s with models := tabSet {} (16 * t + sel) x s.models }
/-- The slot of a selector in a state. -/
def Selector.find (x : Selector) (state : Nat) : Option Nat := if x.a.state = state then some 0 else if x.b.state = state then some 1 else none

/-- Whether epoch `a` comes before epoch `b`, mod 65,536. -/
def epochBefore (a b : Nat) : Bool := let d := (b + 65536 - a % 65536) % 65536; decide (0 < d ∧ d < 32768)

/-- The standby slot of a selector: the one that is not ACTIVE; with no active one, the READY slot, or else slot A. -/
def Selector.standby (x : Selector) : Nat :=
  match x.find 4 with
  | some i => 1 - i
  | none => ((x.find 2).orElse (fun _ => x.find 3)).getD 0

/-- The slot that serves a packet of a selector (R22, R154, R255): the ACTIVE slot or, under a linked swap, the DRAINING
slot for a packet stamped earlier. From the swap point on it is the new slot, whether or not MODEL_SWAP_POINT came first on that
beat (R267). -/
def servingSlot (s : State) (t sel epoch : Nat) : Option Nat :=
  if 15 < sel then none else
  let x := s.selector t sel
  let due := x.swapAt.elim false (fun b => decide (b ≤ s.zc))
  let serving :=
    if x.linkEpoch.any (fun e => epochBefore epoch e) then x.find 5
    else if due && x.unloading then none
    else if due && (x.slot x.standby).state == 2 then some x.standby
    else x.find 4
  serving.filter (fun i => (x.slot i).serves)

/-- Whether the flow of a packet is inferred by a slot (R253). -/
def sampled (x : Slot) (hash : Nat) : Bool := hash % 2 ^ x.log2N == 0

/-- The default verdict of a verdict class (R130). -/
def State.defaultVerdict (s : State) (v : Nat) : Nat := s.reg (Addr.VCLASS_DEFAULT v)

/-- A packet enters its verdict pass with a verdict and its source (R20, R130). -/
def toVerdictPass (id verdict src : Nat) (s : State) : State :=
  s.updPacket id (fun q => { q with pass := 2, verdict, vsrc := src, at_ := .stage 0 })

/-- A packet takes its port default action (R136): its result is replaced, without edits, and it goes to step 10. A label its passes
set stays, and is written at step 9 first (R126). A first fragment whose result the default replaces is not recorded, no result of it
being resolved at step 9 (R133; DESIGN CHOICE, log 23). -/
def takePortDefault (id : Nat) (s : State) : State :=
  match s.packet id with
  | none => s
  | some q =>
    let v := s.reg (Addr.PORT_DEFAULT q.desc.lport)
    let fwd := v % 4 == 1
    let r : PktResult := {
      egress := if fwd then some (false, bits v 8 6) else none
      queue := if fwd then some (bits v 14 10) else none
      mirror := if bitAt v 2 then 2 ^ bits v 24 4 else 0
      drop := !fwd
      label := q.result.label }
    retirePacket id (s.updPacket id (fun q => { q with result := r, at_ := if q.result.label.isSome then .resolve else .admission, since := s.zc, viaDefault := true }))

/-- The end of pass 1 (R130, R131). -/
def endFirstPass (q : Pkt) (s : State) : State :=
  let h := symmetricHash s q
  let s1 := s.updPacket q.id (fun q => { q with hash := h })
  if (2 ≤ q.pstat ∧ q.pstat ≤ 4) ∨ q.final ∨ q.result.drop ∨ q.result.exc.isSome ∨ !q.hit then
    retirePacket q.id (s1.updPacket q.id (fun q => { q with at_ := .resolve }))
  else
    match servingSlot s q.tenant q.model q.epoch with
    | some i =>
      if sampled ((s.selector q.tenant q.model).slot i) h then s1.updPacket q.id (fun q => { q with at_ := .encode, since := s.zc })
      else toVerdictPass q.id (s.defaultVerdict q.vclass) 2 s1
    | none => toVerdictPass q.id (s.defaultVerdict q.vclass) 2 s1

/-- The end of passes 2 to 4 (R111): a further pass, the port default, or step 9. -/
def endLaterPass (q : Pkt) (s : State) : State :=
  let waiting := tabGet [] q.group s.mt.recircQ
  if q.result.recirc then
    if q.pass = 4 then takePortDefault q.id (s.bump32 Addr.RECIRC_LIMIT)
    else if 64 ≤ waiting.length then takePortDefault q.id (s.bump32 Addr.RECIRC_FULL)
    else { s.updPacket q.id (fun q => { q with at_ := .recirc, result := { q.result with recirc := false } }) with
      mt.recircQ := tabSet [] q.group (waiting ++ [q.id]) s.mt.recircQ }
  else retirePacket q.id (s.updPacket q.id (fun q => { q with at_ := .resolve }))

/-- The tables as a lookup of the present beat sees them: without the entry writes of this beat (R118, R138). -/
def State.beforeWrites (s : State) : State :=
  if s.mt.writeBeat = s.zc + 1 then { s with mt.exact := s.mt.wasExact, mt.tern := s.mt.wasTern } else s

/-- The tables are kept as they stand before the first entry write of a beat (R138). -/
def noteWrite (s : State) : State :=
  if s.mt.writeBeat = s.zc + 1 then s else { s with mt.writeBeat := s.zc + 1, mt.wasExact := s.mt.exact, mt.wasTern := s.mt.tern }

/-- One stage of one pass of a packet (R115): hits, templates, the miss template, and after stage 11 the end of the pass. -/
def runStage (q0 : Pkt) (stage : Nat) (bad : List (Nat × Nat)) (s0 : State) : State :=
  let bank := q0.epoch % 2
  let kind := slotKind q0.pass
  let s := bad.foldl (loseWord stage bank) (s0.bump64 (if kind = 1 then Addr.VERDICT_LOOKUPS stage else Addr.FIRST_LOOKUPS stage))
  if readsLost s q0 stage bank then dropLost q0.id s else
  let ek := lookupKey s q0 stage bank 0
  let tk := lookupKey s q0 stage bank 1
  let eh := match ek with
    | some k => exactHit s.beforeWrites stage bank k q0.tenant
    | none => (none, false)
  let th := tk.bind (fun k => ternHit s.beforeWrites stage bank k q0.tenant)
  let hit := eh.1.isSome || th.isSome
  let q1 := if hit && q0.pass == 1 then { q0 with hit := true } else q0
  let free := q0.tenant == owner
  let a1 := match eh.1 with
    | some e => runTemplate s stage bank e.template e.param free (q1, 0)
    | none => (q1, 0)
  let a2 := match th with
    | some h => runTemplate s stage bank h.2.template h.2.param free a1
    | none => a1
  let mw := bits (s.missAt stage bank) (16 * kind) 16
  let a3 := if (ek.isSome || tk.isSome) && !hit && bitAt mw 15 then runTemplate s stage bank (mw % 4096) 0 true a2 else a2
  let s1 := if eh.1.isSome then s.bump64 (Addr.EXACT_HITS stage) else s
  let s2 := if th.isSome then s1.bump64 (Addr.TERN_HITS stage) else s1
  let s3 := if eh.2 then s2.bump32 (Addr.EXACT_DUAL stage) else s2
  let s4 := if a3.2 = 0 then s3 else s3.bump32 (Addr.OPS_SUPPRESSED stage) a3.2
  let s5 := s4.updPacket q0.id (fun _ => { a3.1 with at_ := .stage (stage + 1) })
  if stage < 11 then s5
  else if q0.pass = 1 then
    if s5.mt.lost.any (fun l => l.1 == 5 && l.2 / 3 == bank) then dropLost q0.id s5 else endFirstPass a3.1 s5
  else endLaterPass a3.1 s5

/-- Whether stage 0 takes a packet from its core now (R87, R111): the next of its group, while no packet of its physical port waits
for its third or fourth pass. -/
def takesNew (s : State) (q : Pkt) : Bool := q.at_ == .parsed && nextOfGroup s q && (tabGet [] q.group s.mt.recircQ).isEmpty

/-- Stage 0 takes a packet from its core's header-to-stage FIFO, checking its words (R76): a packet with an uncorrectable word is
aborted. -/
def takeChecked (q : Pkt) (chk : FifoRead) (s : State) : State :=
  let s1 := noteRead (0x80 + q.core) chk (takeFromCore q s)
  if chk.bad then freePacket q.id s1 else s1

/-- STAGE_LOOKUP (R115): the packet's next stage. At stage 0 of pass 1 it is taken from its core and stamped; a later
fragment looks up the fragment table instead (R134). `bad` names the table words found uncorrectable in this lookup, with what the check of the packet's own words finds. -/
def execStageLookup (t id stage : Nat) (bad : Checked (List (Nat × Nat))) (s : State) : Host.Outcome State Fault Refusal :=
  .next (match s.packet id with
    | none => s
    | some q =>
      if stage < 12 ∧ q.at_ = .stage stage then runStage q stage bad.item (advance t s)
      else if stage = 0 ∧ takesNew s q ∧ busBits q.bus 50 2 ≠ 2 then
        let s1 := stampPacket q (takeChecked q bad.chk (advance t s))
        match s1.packet id with
        | some q1 => runStage q1 0 bad.item s1
        | none => s1
      else s)

/-- RECIRC_PASS_START (R111): the head of a physical port's recirculation queue starts its third or fourth pass. -/
def execRecircPassStart (t p : Nat) (s : State) : Host.Outcome State Fault Refusal :=
  .next (match tabGet [] p s.mt.recircQ with
    | [] => s
    | id :: rest =>
      { (advance t s).updPacket id (fun q => { q with pass := q.pass + 1, at_ := .stage 0 }) with mt.recircQ := tabSet [] p rest s.mt.recircQ })

/-! Entry writes (R116 to R120, R122) -/

/-- Valid exact entries of a tenant in a stage and bank (R120). -/
def exactCount (s : State) (stage bank t : Nat) : Nat :=
  let lo := entryKey stage bank 0
  (s.mt.exact.filter (fun e => decide (lo ≤ e.1 ∧ e.1 < lo + 2 ^ 18) && (exactEntry e.2.toNat).tenant == t)).length

/-- Entries of a table per stage and bank. -/
def tableSize (table : Nat) : Nat := if table = 0 then 2 ^ 18 else 2 ^ 14

/-- The image at an index of a table. -/
def State.entryAt (s : State) (table stage bank i : Nat) : Nat := if table = 0 then s.exactAt stage bank i else s.ternAt stage bank i
/-- An image taken apart. -/
def entryOf (table v : Nat) : Entry := if table = 0 then exactEntry v else ternEntry v
/-- VALID of an image. -/
def entryValid (table v : Nat) : Bool := bitAt v (if table = 0 then 511 else 1151)
/-- An image with its reserved bits 0 (R116, R117): the device ignores what is written there (R10). -/
def clearReserved (table v : Nat) : Nat := if table = 0 then putBits v 502 9 0 else putBits v 1140 11 0

/-- `s` with an image stored, 0 invalidating it; a fresh write carries fresh checks (R366). -/
def putEntry (table stage bank i v : Nat) (s0 : State) : State :=
  let s := noteWrite s0
  let k := entryKey stage bank i
  let lost := s.mt.lost.filter (fun l => l != (table, k))
  if table = 0 then { s with mt.exact := tabSet 0#512 k (BitVec.ofNat 512 v) s.mt.exact, mt.lost := lost }
  else { s with mt.tern := tabSet 0#1152 k (BitVec.ofNat 1152 v) s.mt.tern, mt.lost := lost }

/-- TERN_RANGE of a tenant in a stage: BASE and LIMIT (R117). -/
def State.ternRange (s : State) (stage t : Nat) : Nat × Nat :=
  let v := s.reg (Addr.TERN_RANGE stage t)
  (bits v 0 14, bits v 14 15)

/-- The banks a write of tenant `t` to `bank` applies to (R122): with the staging content of other tenants kept equal to
their active content, a live write by a tenant that is not the holder goes to both banks unless the inactive bank still
drains. -/
def banksWritten (s : State) (t bank : Nat) : List Nat :=
  if bank = s.stagingBank then [bank]
  else if s.holds t then [bank]
  else if s.leaseHeld || s.mt.copying || s.stageReady then [bank, 1 - bank] else [bank]

/-- The refusal of an entry write that concerns the image and the tenant alone (R116, R117, R118). -/
def imageRefused (s : State) (t stage table i img : Nat) : Option Nat :=
  let e := entryOf table img
  if !entryValid table img then some St.BAD_PARAM
  else if e.tenant ≠ t then some St.NOT_PERMITTED
  else if table = 0 ∧ i % 65536 ≠ exactSlot (i / 65536) e.key t then some St.BAD_PARAM
  else if table = 1 ∧ !(decide ((s.ternRange stage t).1 ≤ i ∧ i < (s.ternRange stage t).2)) then some St.NOT_PERMITTED
  else none

/-- The refusal of an entry write in one bank (R118, R120, R122); `other` marks the staging side of a live write. -/
def bankRefused (s : State) (t stage table i img : Nat) (target b : Nat) : Option Nat :=
  let e := entryOf table img
  let cur := s.entryAt table stage b i
  let during := s.mt.copying && b != target
  if !permits ((s.templAt stage b e.template).getD 0 0) t ∧ !during then some St.BAD_PARAM
  else if entryValid table cur ∧ !during then (if b ≠ target then some St.NO_FIT else some St.BUSY)
  else if table = 0 ∧ 2 ≤ (exactMatches s stage b e.key t).length ∧ !during then some St.BUSY
  else if table = 0 ∧ t ≠ owner ∧ s.reg (Addr.EXACT_QUOTA t) ≤ exactCount s stage b t ∧ !during then some St.NO_FIT
  else none

/-- One entry written (OP 0) or invalidated (OP 1) for tenant `t` (R118 to R122): its status and the state after it. -/
def applyEntry (t stage bank op table i img0 : Nat) (s : State) : Nat × State :=
  let img := clearReserved table img0
  if 11 < stage ∨ tableSize table ≤ i ∨ 1 < op ∨ 1 < table then (St.BAD_PARAM, s)
  else if bank = s.stagingBank ∧ !s.holds t then (St.NOT_PERMITTED, s)
  else if op = 1 then
    let cur := s.entryAt table stage bank i
    if entryValid table cur ∧ (entryOf table cur).tenant ≠ t then (St.NOT_PERMITTED, s)
    else
      (St.OK, (banksWritten s t bank).foldl (fun s b =>
        let c := s.entryAt table stage b i
        if entryValid table c && (entryOf table c).tenant == t then putEntry table stage b i 0 s else s) s)
  else
    match imageRefused s t stage table i img with
    | some e => (e, s)
    | none =>
      let bs := banksWritten s t bank
      match bs.findSome? (bankRefused s t stage table i img bank) with
      | some e => (e, s)
      | none => (St.OK, bs.foldl (fun s b => putEntry table stage b i img s) s)

/-! Templates, key selects, miss templates and hash selects (R125, R131, R139, R140) -/

/-- The reserved bits of a template operation's fields, none for a reserved OP (R126). -/
def opReserved (op : Nat) : Option Nat :=
  match op with
  | 0x00 => some 0x3FFFFFF
  | 0x01 => some 0x380
  | 0x02 => some 0
  | 0x03 => some 0x3FFFF00
  | 0x04 => some 0x3FF0000
  | 0x05 => some 0x1FFFF00
  | 0x06 => some 0x3FFFC00
  | 0x07 => some 0x3FE0000
  | 0x08 => some 0x3FFFFE0
  | 0x09 => some 0x3FFFFF0
  | 0x0A => some 0x3FFFF80
  | 0x0B => some 0
  | 0x0C => some 0xFFFFF
  | 0x0D => some 0x7FC00
  | 0x0E => some 0x3FFFF
  | 0x0F => some 0x3FF0000
  | 0x10 => some 0x3FFFF00
  | 0x11 => some 0x3FFFFFF
  | 0x12 => some 0x3FFFFFF
  | 0x13 => some 0x3FFFFFF
  | 0x14 => some 0x3FFFFFF
  | _ => none

/-- Whether an operation's fields lie in their stated ranges (R125, R126, R128, R245). -/
def opInRange (w : Nat) : Bool :=
  match bits w 26 6 with
  | 0x01 =>
    let wid := width64 (bits w 10 6)
    decide (384 ≤ bits w 16 10 ∧ bits w 16 10 + wid ≤ 1024 ∧ bits w 0 7 + wid ≤ 96)
  | 0x02 =>
    let wid := width64 (bits w 0 6)
    decide (384 ≤ bits w 16 10 ∧ bits w 16 10 + wid ≤ 1024 ∧ bits w 6 10 + wid ≤ 1024)
  | 0x04 => decide (bits w 8 8 ≤ 15)
  | 0x05 => bitAt w 25 || decide (w % 256 < 64)
  | 0x0A => decide (bits w 0 7 + 32 ≤ 96)
  | 0x0B => decide (bits w 0 7 + width64 (bits w 7 6) ≤ 96)
  | 0x0C => bits w 20 2 != 3
  | 0x0D => decide (bits w 23 3 ≤ 4)
  | 0x0E => decide (bits w 22 4 < bits w 18 4)
  | 0x10 => decide (0x80 ≤ w % 256)
  | _ => true

/-- The validation cause of one operation word, 0 for a valid one (R125, R139). -/
def validateOp (w : Nat) : Nat :=
  match opReserved (bits w 26 6) with
  | none => 1
  | some m => if w &&& m ≠ 0 then 2 else if opInRange w then 0 else 3

/-- The validation cause of a template (R125): all fifteen operation words count. -/
def validateTemplate (ws : List Nat) : Nat :=
  if (ws.getD 0 0) / 512 ≠ 0 then 2 else ((ws.drop 1).map validateOp).find? (· != 0) |>.getD 0

/-- The validation cause of a key-select word among the eight of its lookup (R114, R139). -/
def validateKeysel (i v : Nat) (others : List Nat) : Nat :=
  let total := (others.map (fun w => bits w 12 7)).foldl (· + ·) 0
  if v &&& 0xFFF80800 ≠ 0 then 2 else if 64 < bits v 12 7 then 3
  else if 1279 < bits v 0 11 ∨ 1280 < bits v 0 11 + bits v 12 7 then 5
  else if (if i / 8 % 2 = 0 then 384 else 512) < total then 4 else 0

/-- The validation cause of a hash-select word (R131, R140): all five fields lie in [1023:384]. -/
def validateHash (r v : Nat) : Nat :=
  let wid := [128, 16, 8].getD r 8
  let inside (o : Nat) : Bool := decide (384 ≤ o ∧ o + wid ≤ 1024)
  if v &&& (if r = 2 then 0xFFFFFC00 else 0xFC00FC00) ≠ 0 then 2
  else if inside (bits v 0 10) && (r == 2 || inside (bits v 16 10)) then 0 else 5

/-- A refused staging write: VALIDATE_ERR records its cause (R125, R139). -/
def stageInvalid (stage kind i cause : Nat) (s : State) : Nat × State :=
  (St.BAD_PARAM, s.setReg (Addr.STG_VALIDATE_ERR stage) (i + cause * 2 ^ 12 + kind * 2 ^ 16))

/-- A template written into the staging bank (R125). -/
def putTemplate (stage i : Nat) (ws : List Nat) (s : State) : Nat × State :=
  let c := validateTemplate ws
  if c ≠ 0 then stageInvalid stage 0 i c s
  else
    let v := if ws.all (· == 0) then [] else ws.map (BitVec.ofNat 32)
    (St.OK, { s with mt.templ := tabSet [] (templKey stage s.stagingBank i) v s.mt.templ })

/-- A key-select word written into the staging bank (R114). -/
def putKeysel (stage i v : Nat) (s : State) : Nat × State :=
  let b := s.stagingBank
  let group := (List.range 8).map (fun f => if i / 8 * 8 + f = i then v else s.keyselAt stage b (i / 8 * 8 + f))
  let c := validateKeysel i v group
  if c ≠ 0 then stageInvalid stage 1 i c s
  else (St.OK, { s with mt.keysel := tabSet 0#32 (keyselKey stage b i) (BitVec.ofNat 32 v) s.mt.keysel })

/-- The miss-template word written into the staging bank. -/
def putMiss (stage v : Nat) (s : State) : Nat × State :=
  if v &&& 0x70007000 ≠ 0 then stageInvalid stage 2 0 2 s
  else (St.OK, { s with mt.miss := tabSet 0#32 (missKey stage s.stagingBank) (BitVec.ofNat 32 v) s.mt.miss })

/-- A hash-select word written into the staging bank. -/
def putHash (r v : Nat) (s : State) : Nat × State :=
  let c := validateHash r v
  if c ≠ 0 then stageInvalid 0 3 r c s
  else (St.OK, { s with mt.hashSel := tabSet 0#32 (3 * s.stagingBank + r) (BitVec.ofNat 32 v) s.mt.hashSel })

/-- A staging write that only the owner holding the lease may make (R122). -/
def asHolder (f : State → Nat × State) (s : State) : Nat × State := if s.holds owner then f s else (St.NOT_PERMITTED, s)

/-- A write of KEYSEL_STAGE (R122, R139). -/
def wrKeyselStage (stage i v : Nat) (s : State) : Nat × State := asHolder (putKeysel stage i (v &&& 0x7F7FF)) s
/-- A write of MISS_TMPL_STAGE. -/
def wrMissStage (stage v : Nat) (s : State) : Nat × State := asHolder (putMiss stage (v &&& 0x8FFF8FFF)) s
/-- A write of a HASH_SEL_*_STAGE register. -/
def wrHashStage (r v : Nat) (s : State) : Nat × State := asHolder (putHash r (v &&& (if r = 2 then 0x3FF else 0x3FF03FF))) s

/-- A write of TERN_RANGE (R120). -/
def wrTernRange (stage t v : Nat) (s : State) : Nat × State :=
  let lo := bits v 0 14
  let hi := bits v 14 15
  if 16384 < hi then (St.BAD_PARAM, s)
  else if (List.range 256).any (fun u => u != t && decide (max lo (s.ternRange stage u).1 < min hi (s.ternRange stage u).2)) then (St.BUSY, s)
  else if [0, 1].any (fun b => (ternIndices s stage b).any (fun i =>
      (ternEntry (s.ternAt stage b i)).tenant == t && !(decide (lo ≤ i ∧ i < hi)))) then (St.BUSY, s)
  else (St.OK, s.setReg (Addr.TERN_RANGE stage t) (v % 2 ^ 29))

/-- ENTRY_DATA of a stage as one number. -/
def State.entryData (s : State) (stage n : Nat) : Nat :=
  ((List.range n).map (fun i => s.reg (Addr.ENTRY_DATA stage i) * 2 ^ (32 * i))).foldl (· + ·) 0

/-- ENTRY_CMD on the entry ENTRY_SEL names, for tenant `t` (R139): its status and the state after it. -/
def entryCmd (t stage cmd : Nat) (s : State) : Nat × State :=
  let sel := s.reg (Addr.ENTRY_SEL stage)
  let i := bits sel 0 18
  let table := bits sel 18 2
  let bank := bits sel 20 1
  if cmd = 1 then
    if table = 2 ∧ i < 4096 then
      (St.OK, (List.range 16).foldl (fun s j => s.setReg (Addr.ENTRY_DATA stage j) ((s.templAt stage bank i).getD j 0)) s)
    else if table ≤ 1 ∧ i < tableSize table then
      let v := s.entryAt table stage bank i
      (St.OK, (List.range (if table = 0 then 16 else 36)).foldl (fun s j => s.setReg (Addr.ENTRY_DATA stage j) (bits v (32 * j) 32)) s)
    else (St.BAD_PARAM, s)
  else if table ≤ 1 then applyEntry t stage bank (if cmd = 2 then 0 else 1) table i (s.entryData stage (if table = 0 then 16 else 36)) s
  else if table = 2 ∧ i < 4096 ∧ cmd = 2 then
    if bank ≠ s.stagingBank then (St.NOT_PERMITTED, s)
    else asHolder (putTemplate stage i ((List.range 16).map (fun j => s.reg (Addr.ENTRY_DATA stage j)))) s
  else (St.BAD_PARAM, s)

/-- A write of ENTRY_CMD (R139): the write completes, and ENTRY_STATUS holds the status of the entry command. A write that
sets no bit does nothing; one that sets several is a command refused with BAD_PARAM. -/
def wrEntryCmd (t stage v : Nat) (s : State) : Nat × State :=
  let c := v % 8
  if c = 0 then (St.OK, s)
  else
    let r := if c = 1 ∨ c = 2 ∨ c = 4 then entryCmd t stage c s else (St.BAD_PARAM, s)
    (St.OK, r.2.setReg (Addr.ENTRY_STATUS stage) r.1)

/-- A write of ENTRY_SEL: table code 3 is reserved (R10). -/
def wrEntrySel (stage v : Nat) (s : State) : Nat × State :=
  if bits v 18 2 = 3 then (St.BAD_PARAM, s) else (St.OK, s.setReg (Addr.ENTRY_SEL stage) (v % 2 ^ 21))

/-! The lease and flips (R122 to R124) -/

/-- The lease ends and the staging bank is restored by the copy (R122). -/
def endLease (s : State) : State :=
  let s1 := (s.setFlag Addr.EPOCH_STATUS 3 false).setFlag Addr.EPOCH_STATUS 2 false
  { s1.setReg Addr.STAGE_HOLDER 0 with mt.copying := true, mt.leaseUntil := 0 }

/-- RULE_STAGE_OPEN (R122). -/
def cmdRuleStageOpen : CmdFn := fun env p s =>
  if !p.isEmpty then refuse St.BAD_PARAM s
  else if !s.stageReady || s.leaseHeld then refuse St.BUSY s
  else (ok, { (s.setFlag Addr.EPOCH_STATUS 3 true).setReg Addr.STAGE_HOLDER env.tenant with
    mt.leaseUntil := s.now + secs (s.reg Addr.STAGE_LEASE_MAX) })

/-- RULE_STAGE_CLOSE (R122, R351). -/
def cmdRuleStageClose : CmdFn := fun env p s =>
  if !p.isEmpty then refuse St.BAD_PARAM s
  else if !(s.leaseHeld && (s.holds env.tenant || (env.owner && env.tenant == owner))) then refuse St.NOT_PERMITTED s
  else if s.flipPending then refuse St.BUSY s
  else (ok, endLease s)

/-- Whether a group's armed parse flip still drains (R106). -/
def armedBusy (s : State) : Bool := (List.range 16).any (fun g => s.flag (Addr.PROG_STATUS g) 2 && s.progDrain g != 0)
/-- Whether a parse flip is armed (R106). -/
def parseArmed (s : State) : Bool := (List.range 16).any (fun g => s.flag (Addr.PROG_STATUS g) 2)

/-- RULE_EPOCH_FLIP (R123). -/
def cmdRuleEpochFlip : CmdFn := fun env p s =>
  if !p.isEmpty then refuse St.BAD_PARAM s
  else if s.ruleDrain ≠ 0 ∨ s.flipPending ∨ armedBusy s then refuse St.EPOCH_BUSY s
  else if !s.holds env.tenant then refuse St.NOT_PERMITTED s
  else if parseArmed s ∧ env.tenant ≠ owner then refuse St.BUSY s
  else
    let d := s.deviceBeat
    (⟨St.OK, toBE 8 d.1 ++ toBE 2 (s.epoch + 1)⟩, { d.2.setFlag Addr.EPOCH_STATUS 4 true with mt.flipAt := some d.1 })

/-- The packets of a group begun on its present program bank, fixed to an epoch before a linked flip (R106, R124). -/
def fixEpochs (g e : Nat) (s : State) : State :=
  let ids := (s.hc.cores.filter (fun c => c.n / 128 == g && c.steps != 0 && c.bank == s.activeBank g)).map Core.pkt
  { s with ports.packets := s.ports.packets.map (fun q => if ids.contains q.id ∧ !q.stamped ∧ !q.preStamp then { q with preStamp := true, epoch := e } else q) }

/-- The armed parse flips take place on the beat of a rule flip (R106). -/
def fireLinked (e b : Nat) (s : State) : State :=
  ((List.range 16).filter (fun g => s.flag (Addr.PROG_STATUS g) 2)).foldl (fun s g => flipBank g b (fixEpochs g e s)) s

/-- A rule epoch flip on beat `b` (R123): CURRENT and PREVIOUS, the lease, the linked parse flips, the event, the drain. -/
def ruleFlip (b : Nat) (s : State) : State :=
  let holder := s.field Addr.STAGE_HOLDER 0 8
  let e := s.epoch
  let e' := (e + 1) % 65536
  let s1 := (s.setReg Addr.RULE_EPOCH (e' + e * 65536)).setReg Addr.RULE_FLIP_ZC b
  let s2 := s1.setReg Addr.EPOCH_STATUS (e' % 2 + 2)
  let s3 := { s2.setReg Addr.STAGE_HOLDER 0 with mt.flipAt := none, mt.leaseUntil := 0, mt.lastFlip := some s.now, mt.drainReported := false }
  checkRetire ((fireLinked e b s3).raiseEvent evRuleEpochFlip holder [e, e', b])

/-- The inactive bank becomes a copy of the active bank (R124). -/
def copyBank {α : Type} (a b size : Nat) (t : Tab α) : Tab α :=
  let lo (x : Nat) := x * size
  let keep := t.filter (fun e => !(decide (lo b ≤ e.1 ∧ e.1 < lo b + size)))
  (t.filter (fun e => decide (lo a ≤ e.1 ∧ e.1 < lo a + size))).foldr (fun e t => tabPut (e.1 - lo a + lo b) e.2 t) keep

/-- STAGING_COPY_DONE (R124): the staging bank equals the active bank, and STAGE_READY is set. -/
def execStagingCopyDone (t : Nat) (s : State) : Host.Outcome State Fault Refusal :=
  .next (if s.mt.copying then
      let s1 := advance t s
      let a := s.ruleBank
      let b := s.stagingBank
      let m := s1.mt
      let size (table : Nat) : Nat := if table ≤ 1 then 12 * 2 ^ 18 else if table = 2 then 12 * 4096 else if table = 3 then 12 * 32 else if table = 4 then 12 else 3
      ({ s1 with
         mt.exact := copyBank a b (12 * 2 ^ 18) m.exact
         mt.tern := copyBank a b (12 * 2 ^ 18) m.tern
         mt.templ := copyBank a b (12 * 4096) m.templ
         mt.keysel := copyBank a b (12 * 32) m.keysel
         mt.miss := copyBank a b 12 m.miss
         mt.hashSel := copyBank a b 3 m.hashSel
         mt.lost := m.lost.filter (fun l => l.2 / size l.1 == a)
         mt.copying := false }).setFlag Addr.EPOCH_STATUS 2 true
    else s)

/-- EPOCH_DRAIN_SLOW (R124): DRAIN has not reached 0 within 100 µs of a flip. -/
def execEpochDrainSlow (t : Nat) (s : State) : Host.Outcome State Fault Refusal :=
  .next (match s.mt.lastFlip with
    | some f =>
      if s.ruleDrain ≠ 0 ∧ f + us 100 ≤ t ∧ !s.mt.drainReported then
        { (advance t s).raiseEvent evEpochDrainSlow owner [s.prevEpoch, s.ruleDrain] with mt.drainReported := true }
      else s
    | none => s)

/-- STAGE_LEASE_EXPIRY (R122, R138): deferred to the flip once a flip was accepted. The lease ends on the beat after the one in which its
time runs out, so that a flip accepted on that beat proceeds. -/
def execStageLeaseExpiry (t : Nat) (s : State) : Host.Outcome State Fault Refusal :=
  .next (if s.leaseHeld ∧ !s.flipPending ∧ s.mt.leaseUntil ≤ t ∧ s.mt.leaseUntil ≤ s.beat.lastIssue then
      let h := s.field Addr.STAGE_HOLDER 0 8
      endLease ((advance t s).raiseEvent evStageLeaseLost h [h])
    else s)

/-- RULE_ENTRY_REWRITE (R367): Limik rewrites an uncorrectable word from its journal. -/
def execRuleEntryRewrite (t stage bank table i : Nat) (s : State) : Host.Outcome State Fault Refusal :=
  .next (let k := wordKey table stage bank i
    if s.limik ∧ s.mt.lost.contains (table, k) then { advance t s with mt.lost := s.mt.lost.filter (fun l => l != (table, k)) } else s)

/-! The rule commands (R137, R351) -/

/-- A record list refused at a record, with the records applied before it. -/
def partialReply (code done : Nat) (s : State) : Reply × State := (⟨code, toBE 2 done⟩, s)

/-- The records of RULE_WRITE from offset `o`, `n` left of COUNT. -/
def ruleRecords (t : Nat) (p : Bytes) : (n done o : Nat) → State → Reply × State
  | 0, done, o, s => partialReply (if o = p.length then St.OK else St.BAD_PARAM) done s
  | n + 1, done, o, s =>
    let b := byteAt p (o + 1)
    let op := bits b 1 2
    let table := bits b 3 2
    let size := if op = 0 then (if table = 0 then 64 else 144) else 0
    if p.length < o + 8 ∨ b / 32 ≠ 0 ∨ 1 < op ∨ 1 < table ∨ !zerosAt p (o + 2) 2 ∨ p.length < o + 8 + size then
      partialReply St.BAD_PARAM done s
    else
      let r := applyEntry t (byteAt p o) (b % 2) op table (be p (o + 4) 4) (le p (o + 8) size) s
      if r.1 = St.OK then ruleRecords t p n (done + 1) (o + 8 + size) r.2 else partialReply r.1 done r.2

/-- RULE_WRITE (R137). -/
def cmdRuleWrite : CmdFn := fun env p s =>
  if p.length < 4 ∨ !zerosAt p 2 2 then partialReply St.BAD_PARAM 0 s else ruleRecords env.tenant p (be p 0 2) 0 4 s

/-- RULE_READ (R137, R351): an entry of another tenant reads as zeros. Bits of byte 1 outside BANK and TABLE are refused as reserved bytes
are (DESIGN CHOICE, log 13). -/
def cmdRuleRead : CmdFn := fun env p s =>
  let stage := byteAt p 0
  let b := byteAt p 1
  let table := bits b 3 2
  let n := be p 2 2
  let i := be p 4 4
  if p.length ≠ 8 ∨ 11 < stage ∨ b &&& 0xE6 ≠ 0 ∨ 1 < table ∨ n = 0 ∨ 256 < n ∨ tableSize table < i + n then refuse St.BAD_PARAM s
  else
    let img (k : Nat) : Bytes :=
      let v := s.entryAt table stage (b % 2) (i + k)
      toLE (if table = 0 then 64 else 144) (if (entryOf table v).tenant = env.tenant then v else 0)
    (⟨St.OK, (List.range n).flatMap img⟩, s)

/-- One record of RULE_TEMPLATE_WRITE. -/
def templateRecord (stage kind i : Nat) (d : Bytes) (s : State) : Nat × State :=
  if 11 < stage then (St.BAD_PARAM, s)
  else match kind with
  | 0 => if 4095 < i then (St.BAD_PARAM, s) else putTemplate stage i (wordsLE d) s
  | 1 => if 31 < i then (St.BAD_PARAM, s) else putKeysel stage i (le d 0 4) s
  | 2 => if i ≠ 0 then (St.BAD_PARAM, s) else putMiss stage (le d 0 4) s
  | _ =>
    if i ≠ 0 ∨ stage ≠ 0 then (St.BAD_PARAM, s)
    else
      let ws := wordsLE d
      match (List.range 3).find? (fun r => validateHash r (ws.getD r 0) != 0) with
      | some r => stageInvalid 0 3 r (validateHash r (ws.getD r 0)) s
      | none => (St.OK, (List.range 3).foldl (fun s r => (putHash r (ws.getD r 0) s).2) s)

/-- The image bytes of a record kind of RULE_TEMPLATE_WRITE. -/
def templateSize (kind : Nat) : Nat := [64, 4, 4, 12].getD kind 0

/-- The records of RULE_TEMPLATE_WRITE from offset `o`. -/
def templateRecords (p : Bytes) : (n done o : Nat) → State → Reply × State
  | 0, done, o, s => partialReply (if o = p.length then St.OK else St.BAD_PARAM) done s
  | n + 1, done, o, s =>
    let kind := byteAt p (o + 1)
    let size := templateSize kind
    if p.length < o + 8 ∨ 3 < kind ∨ !zerosAt p (o + 4) 4 ∨ p.length < o + 8 + size then partialReply St.BAD_PARAM done s
    else
      let r := templateRecord (byteAt p o) kind (be p (o + 2) 2) (slice p (o + 8) size) s
      if r.1 = St.OK then templateRecords p n (done + 1) (o + 8 + size) r.2 else partialReply r.1 done r.2

/-- RULE_TEMPLATE_WRITE (R122, R137): the owner holding the lease. -/
def cmdRuleTemplateWrite : CmdFn := fun env p s =>
  if !(env.owner && env.tenant == owner && s.holds owner) then partialReply St.NOT_PERMITTED 0 s
  else if p.length < 4 ∨ !zerosAt p 2 2 then partialReply St.BAD_PARAM 0 s
  else templateRecords p (be p 0 2) 0 4 s

/-- The entries of a destroyed tenant are invalidated in both banks (R448). -/
def dropEntries (t : Nat) (s : State) : State :=
  { s with
    mt.exact := s.mt.exact.filter (fun e => !((exactEntry e.2.toNat).tenant == t))
    mt.tern := s.mt.tern.filter (fun e => !((ternEntry e.2.toNat).tenant == t)) }

end Sys2Proof.Machine
end

