-- ==== Sys2Proof/Machine/Flow.lean ====
section
/-!
DEFINITION. Flow memory and feature encoding (R141 to R163): flow regions, records, the flow cache, the ending of flows,
digests, labels, state versions, feature programs, and the flow commands. Log 26 names what the manual leaves open here.
-/
namespace Sys2Proof.Machine

/-- EV_FLOW_RESET (R146). -/
def evFlowReset : Nat := 0xFF51

/-! Regions and records -/

/-- Records of a tenant's region (R141). -/
def State.flowRecords (s : State) (t : Nat) : Nat := s.reg (Addr.FLOW_RECORDS t) * 4096
/-- The module address of record slot `r` (R141, R216). -/
def State.recordAddr (s : State) (t r : Nat) : Nat := s.reg (Addr.FLOW_BASE t) * 1048576 + 256 * r
/-- Whether a tenant's flow region is enabled. -/
def State.flowOn (s : State) (t : Nat) : Bool := s.flag (Addr.FLOW_TCTRL t) 0 && s.flowRecords t != 0
/-- HIST_EN of a tenant. -/
def State.histOn (s : State) (t : Nat) : Bool := s.flag (Addr.FLOW_TCTRL t) 2

/-- Whether a record slot lies in a retired page (R146, R160). -/
def State.slotRetired (s : State) (t r : Nat) : Bool :=
  s.mem.retired.contains (r % 16, (s.reg (Addr.FLOW_BASE t) * 65536 + r / 16 * 256) / 4096)

/-- The resident cache line of a record (R149), by its tag: the set of a line is that of the key it was allocated for, and a new flow
that takes over a resident slot stays in its line (DESIGN CHOICE, log 26). -/
def State.lineOf (s : State) (t r : Nat) : Option (Nat × FlowLine) :=
  s.flow.lines.find? (fun l => l.2.tenant == t && l.2.slot == r)

/-- The hot half of a record, from its line or HBM. -/
def State.hotOf (s : State) (t r : Nat) : Nat :=
  match s.lineOf t r with
  | some l => l.2.hot.toNat
  | none => natLE (s.readBytes t (s.recordAddr t r) 128)

/-- The cold half of a record, from its line when resident, otherwise from HBM. -/
def State.coldOf (s : State) (t r : Nat) : Nat :=
  match s.lineOf t r with
  | some l => if l.2.coldIn then l.2.cold.toNat else natLE (s.readBytes t (s.recordAddr t r + 128) 128)
  | none => natLE (s.readBytes t (s.recordAddr t r + 128) 128)

/-- `s` with one cache line changed. -/
def State.updLine (s : State) (key : Nat) (f : FlowLine → FlowLine) : State :=
  { s with flow.lines := s.flow.lines.map (fun l => if l.1 = key then (l.1, f l.2) else l) }

/-- `s` with the hot half of a record set, in its line, or in HBM where its line was evicted meanwhile (SET_LABEL at step 9 then writes
it a second time; DESIGN CHOICE, log 26). -/
def State.putHot (s : State) (t r hot : Nat) : State :=
  match s.lineOf t r with
  | some l => s.updLine l.1 (fun x => { x with hot := BitVec.ofNat 1024 hot, dirty := true })
  | none => s.storeBytes t (s.recordAddr t r) (toLE 128 hot)

/-! Fields of the hot half (R143) -/
def hotTag (h : Nat) : Nat := bits h 0 32
def hotTenant (h : Nat) : Nat := bits h 32 8
def hotStateVer (h : Nat) : Nat := bits h 40 8
def hotValid (h : Nat) : Bool := bitAt h 48
def hotInitHi (h : Nat) : Bool := bitAt h 49
def hotEnding (h : Nat) : Bool := bitAt h 50
def hotSeq (h : Nat) : Nat := bits h 56 8
def hotLabel (h : Nat) : Nat := bits h 64 32
def hotPkts (h : Nat) : Nat := bits h 96 32
def hotBytes (h : Nat) : Nat := bits h 128 40
/-- The first packet's time on 40 bits. -/
def hotFirst (h : Nat) : Nat := bits h 168 8 * 2 ^ 32 + bits h 176 32
def hotLast (h : Nat) : Nat := bits h 208 32
def hotIat (h : Nat) : Nat := bits h 240 16
/-- MODEL_STATE, 96 bytes. -/
def hotState (h : Nat) : Bytes := toLE 96 (bits h 256 768)

/-- The flow's age at `now` µs, on 40 bits (R143). -/
def hotAge (h now : Nat) : Nat := (now + 2 ^ 40 - hotFirst h) % 2 ^ 40
/-- The time since LAST_US, mod 2^32 (R143). -/
def hotIdle (h now : Nat) : Nat := (now % 2 ^ 32 + 2 ^ 32 - hotLast h) % 2 ^ 32

/-- The age that ends a flow (R150): 2^39 µs. -/
def agedAt : Nat := 549755813888

/-- The time base in whole microseconds (R143). -/
def State.nowUs (s : State) : Nat := s.sec * 1000000 + s.ns / 1000
/-- A packet's intake time in whole microseconds. -/
def Pkt.rxUs (q : Pkt) : Nat := q.desc.sec * 1000000 + q.desc.ns / 1000

/-! The flow key (R142) -/

/-- The five fields of the symmetric hash of a packet (R131). -/
def hashFields (s : State) (q : Pkt) : Nat × Nat × Nat × Nat × Nat :=
  let fld (r lo w : Nat) : Nat := busBits q.bus (bits (s.hashSelAt (q.epoch % 2) r) lo 10) w
  (fld 0 0 128, fld 0 16 128, fld 1 0 16, fld 1 16 16, fld 2 0 8)

/-- The 40-byte flow key of a packet (R142). -/
def flowKey (s : State) (q : Pkt) : Bytes :=
  let (a, b, pa, pb, pr) := hashFields s q
  let z := s.reg (Addr.ZONE_SEL q.tenant)
  let zone := if bitAt z 16 then busBits q.bus (bits z 0 10) 16 else 0
  toBE 16 (min a b) ++ toBE 16 (max a b) ++ toBE 2 (min pa pb) ++ toBE 2 (max pa pb) ++ toBE 1 pr ++ toBE 1 q.tenant ++ toBE 2 zone

/-- Whether a packet comes from the higher (address, port) of the key (R143, R144). -/
def fromHigher (s : State) (q : Pkt) : Bool :=
  let (a, b, pa, pb, _) := hashFields s q
  decide (b < a ∨ (a = b ∧ pb < pa))

/-- FLOW_HASH of a key. -/
def flowHash (key : Bytes) : Nat := crc32c key
/-- KEY_TAG of a key. -/
def keyTag (key : Bytes) : Nat := crcFrom 0x5A5A5A5A key
/-- The record slot of a key in a region of `n` records. -/
def flowSlot (key : Bytes) (n : Nat) : Nat := flowHash key * n / 2 ^ 32

/-! The cache (R149) -/

/-- Whether a chain is in progress on a record (R148, R149). -/
def State.inChain (s : State) (t r : Nat) : Bool :=
  s.ports.packets.any (fun (q : Pkt) => q.tenant == t && q.flow == some r && q.stateVer != 0 &&
    (q.at_ == .chain || q.at_ == .infer || q.at_ == .hold || q.at_ == .recoat))

/-- A line's halves are written back to HBM, each if it is dirty (R149). -/
def writeBack (l : FlowLine) (s : State) : State :=
  let s1 := if l.dirty then s.storeBytes l.tenant (s.recordAddr l.tenant l.slot) (toLE 128 l.hot.toNat) else s
  if l.coldIn && l.coldDirty then s1.storeBytes l.tenant (s.recordAddr l.tenant l.slot + 128) (toLE 128 l.cold.toNat) else s1

/-- The least recently used of some lines. -/
def leastUsed : List (Nat × FlowLine) → Option (Nat × FlowLine)
  | [] => none
  | x :: xs => match leastUsed xs with
    | some y => if y.2.used < x.2.used then some y else some x
    | none => some x

/-- A line is allocated for a record in the tenant's ways of its set, empty ways first, then the least recently used line
without a chain; none when every such line is busy (R149). -/
def allocLine (t r hash : Nat) (line : FlowLine) (s : State) : Option State :=
  let ways := setBits (s.reg (Addr.WAY_MASK t)) 16
  let key (w : Nat) : Nat := hash % 16384 * 16 + w
  match ways.find? (fun w => (tabFind (key w) s.flow.lines).isNone) with
  | some w => some { s with flow.lines := tabPut (key w) line s.flow.lines }
  | none =>
    let lines := (ways.filterMap (fun w => (tabFind (key w) s.flow.lines).map (fun l => (key w, l)))).filter
      (fun l => !s.inChain l.2.tenant l.2.slot)
    match leastUsed lines with
    | some v =>
      let s1 := (writeBack v.2 s).bump64 Addr.EVICTIONS
      some { s1 with flow.lines := tabPut v.1 { line with slot := r } s1.flow.lines }
    | none => none

/-! Ending and digests (R150, R151) -/

/-- The reasons a flow ends (R150). -/
def endIdle : Nat := 1
def endMarker : Nat := 2
def endRemoved : Nat := 3
def endDisplaced : Nat := 4
def endRetired : Nat := 5
def endFlushed : Nat := 6
def endAged : Nat := 7

/-- A digest of nine words is written to the tenant's ring, or lost when the ring is full (R151). -/
def writeDigest (t r reason : Nat) (coldBad : Bool) (s : State) : State :=
  let base := s.reg (Addr.DIGEST_BASE t)
  let n := s.reg (Addr.DIGEST_ENTRIES t)
  let hd := s.readBytes t base 8
  let prod := le hd 0 4
  let cons := le hd 4 4
  let bad := coldBad || (s.lineOf t r).any (fun l => l.2.coldBad)
  if n = 0 then s.bump32 (Addr.DIGEST_LOST t)
  else if (prod + 2 ^ 32 - cons) % 2 ^ 32 = n then (countHbm false base 8 s).bump32 (Addr.DIGEST_LOST t)
  else
    let w0 := reason + t * 2 ^ 8 + r * 2 ^ 16 + s.stamp80 * 2 ^ 48 + s.zc % 2 ^ 64 * 2 ^ 128 + b2n (!bad) * 2 ^ 192
    let s1 := (countHbm false base 8 s).storeBytes t (base + 32 + 288 * (prod % n)) (toLE 32 w0 ++ toLE 128 (s.hotOf t r) ++ toLE 128 (s.coldOf t r))
    s1.storeBytes t base (toLE 4 ((prod + 1) % 2 ^ 32))

/-- A cold half of a tenant's record is found uncorrectable (R366). -/
def noteCold (bad : Bool) (t : Nat) (s : State) : State := if bad then s.noteUncorr 3 t else s

/-- FLOW_END (R150, R151): a valid record ends for a reason with its digest, and VALID becomes 0. -/
def endFlow (t r reason : Nat) (coldBad : Bool) (s : State) : State :=
  let h := s.hotOf t r
  if !hotValid h then s
  else
    let s1 := noteCold coldBad t (writeDigest t r reason coldBad s)
    let s2 := (s1.putHot t r (putBits h 48 1 0)).bump32 (Addr.FLOWS_ENDED t)
    s2.setReg (Addr.FLOWS_LIVE t) (s2.reg (Addr.FLOWS_LIVE t) - 1)

/-- Whether a reader of a cold half that no row describes finds it uncorrectable: a free value (R366, log 26). -/
def readsColdBad (s : State) : Bool × State := let d := s.draw Topic.integrity.num; (decide (d.1 % 2 = 1), d.2)

/-- A flow in a retired page of a region, enabled or not, ends once no chain is on it (R160). -/
def endIfRetired (t r : Nat) (s : State) : State :=
  if decide (r < s.flowRecords t) && hotValid (s.hotOf t r) && s.slotRetired t r && !s.inChain t r then
    let d := readsColdBad s
    endFlow t r endRetired d.1 d.2
  else s

/-- A periodic digest where the flow's age has reached it (R151). -/
def periodicDigest (t r now : Nat) (coldBad : Bool) (s : State) : State :=
  let h := s.hotOf t r
  let p := s.reg (Addr.DIGEST_PERIOD t)
  if p ≠ 0 ∧ hotSeq h < 255 ∧ (hotSeq h + 1) * p * 1000000 ≤ hotAge h now then
    (noteCold coldBad t (writeDigest t r 0 coldBad s)).putHot t r (putBits h 56 8 (hotSeq h + 1))
  else s

/-! Step 5 (R145, R146) -/

/-- What the encoder sees of the record: the hot half after the counter update, the cold half before this packet is
appended (none where it is not resident), and the packet's part (R156). -/
structure FlowView where
  slot : Nat
  hot : Nat
  cold : Option Nat
  isNew : Bool
  iat : Nat
  reverse : Bool
deriving DecidableEq, Repr

/-- The hot half of a new record (R146). -/
def newHot (t tag now len : Nat) (hi : Bool) : Nat :=
  tag + t * 2 ^ 32 + 2 ^ 48 + b2n hi * 2 ^ 49 + 2 ^ 96 + min len (2 ^ 40 - 1) * 2 ^ 128 + now / 2 ^ 32 % 256 * 2 ^ 168
    + now % 2 ^ 32 * 2 ^ 176 + now % 2 ^ 32 * 2 ^ 208

/-- The cold half of a new record: the key and an empty ring (R146). -/
def newCold (key : Bytes) : Nat := natLE key

/-- ENDING set by a packet's end marker (R150). -/
def markEnding (s : State) (q : Pkt) (h : Nat) : Nat :=
  let e := s.reg (Addr.END_SEL q.tenant)
  if busBits q.bus (bits e 0 10) 8 &&& bits e 16 8 ≠ 0 then putBits h 50 1 1 else h

/-- The counter update of a hit (R143, R146). -/
def touchHot (h now len : Nat) : Nat :=
  let h1 := putBits h 96 32 (min (hotPkts h + 1) (2 ^ 32 - 1))
  let h2 := putBits h1 128 40 (min (hotBytes h + len) (2 ^ 40 - 1))
  putBits (putBits h2 240 16 (min (hotIdle h now) 0xFFFF)) 208 32 (now % 2 ^ 32)

/-- A ring entry appended (R144). -/
def appendRing (cold entry : Nat) : Nat :=
  let n := bits cold 320 4
  let hd := bits cold 324 3
  let c1 := putBits cold (384 + 80 * hd) 80 entry
  putBits c1 320 8 (min (n + 1) 8 + (hd + 1) % 8 * 16)

/-- The ring entry of a packet (R144). -/
def ringEntry (s : State) (q : Pkt) (iat : Nat) (rev : Bool) : Nat :=
  q.desc.length % 65536 + min iat 0xFFFF * 2 ^ 16 + b2n rev * 2 ^ 32 + q.desc.prio % 8 * 2 ^ 33
    + busBits q.bus (bits (s.reg (Addr.HIST_SEL q.tenant)) 0 10) 32 * 2 ^ 40

/-- The outcome of the lookup at step 5 (R146). -/
inductive FlowLookup where
  /-- Every line that could be taken is busy: the packet waits. -/
  | wait
  /-- No record. -/
  | absent (s : State)
  | found (s : State) (v : FlowView)

/-- The background fetch of a line's cold half starts, unless it is on its way (R149). -/
def startColdFill (t r : Nat) (s : State) : State :=
  match s.lineOf t r with
  | some l => if l.2.coldIn || l.2.filling then s else (s.updLine l.1 (fun x => { x with filling := true })).bump64 Addr.COLD_FILLS
  | none => s

/-- A line whose cold half its reader found uncorrectable: the half is no longer resident (R151, R366). -/
def dropCold (t r : Nat) (s : State) : State :=
  match s.lineOf t r with
  | some l => (noteCold true t s).updLine l.1 (fun x => { x with coldIn := false, coldBad := true })
  | none => s

/-- The cold half of a hit: the packet is appended to the ring of a resident one (R144, R145); with HIST_EN another is fetched,
and the packet that could not be appended is counted in HIST_SKIP (R149). The cold half as it was before this packet. -/
def touchCold (q : Pkt) (r iat : Nat) (rev coldBad : Bool) (s : State) : Option Nat × State :=
  let t := q.tenant
  let s0 := if coldBad then dropCold t r s else s
  match s0.lineOf t r with
  | some l =>
    if l.2.coldIn then
      (some l.2.cold.toNat, s0.updLine l.1 (fun x => { x with cold := BitVec.ofNat 1024 (appendRing l.2.cold.toNat (ringEntry s q iat rev)), coldDirty := true }))
    else (none, if s.histOn t then startColdFill t r (s0.bump32 (Addr.HIST_SKIP t)) else s0)
  | none => (none, s0)

/-- A record is created (R146), in the cache with both halves (R149). -/
def createRecord (q : Pkt) (key : Bytes) (r : Nat) (s : State) : State × FlowView :=
  let t := q.tenant
  let h := markEnding s q (newHot t (keyTag key) q.rxUs q.desc.length (fromHigher s q))
  let s1 := match s.lineOf t r with
    | some l => s.updLine l.1 (fun x => { x with hot := BitVec.ofNat 1024 h, cold := BitVec.ofNat 1024 (newCold key), coldIn := true, coldBad := false, filling := false, dirty := true, coldDirty := true })
    | none => s
  (s1, ⟨r, h, some (newCold key), true, 0, false⟩)

/-- The lookup and update at step 5 (R146, R149). -/
def flowLookup (q : Pkt) (hotBad coldBad : Bool) (s : State) : FlowLookup :=
  let t := q.tenant
  let key := flowKey s q
  let r := flowSlot key (s.flowRecords t)
  let now := q.rxUs
  if s.slotRetired t r then .absent (s.bump32 (Addr.FLOW_RETIRED t))
  else
    let clock := s.flow.clock + 1
    let resident := s.lineOf t r
    let s0 : Option State := match resident with
      | some l => some ({ s.updLine l.1 (fun x => { x with used := clock }) with flow.clock := clock }.bump64 Addr.CACHE_HITS)
      | none =>
        (allocLine t r (flowHash key) { tenant := t, slot := r, hot := BitVec.ofNat 1024 (s.hotOf t r), used := clock } s).map
          (fun s => (countHbm false (s.recordAddr t r) 128 { s with flow.clock := clock }).bump64 Addr.CACHE_MISSES)
    match s0 with
    | none => .wait
    | some s1 =>
      let h := s1.hotOf t r
      let fresh (s : State) : FlowLookup :=
        let n := (s.bump32 (Addr.FLOWS_CREATED t)).bump32 (Addr.FLOWS_LIVE t)
        let c := createRecord q key r n
        .found c.1 c.2
      if hotBad then
        let s2 := if hotValid h then s1 else s1.bump32 (Addr.FLOWS_LIVE t)
        let s3 := ((s2.bump32 (Addr.FLOW_RESET t)).coalesceEvent evFlowReset t t (ms 1) [t, r]).noteUncorr 2 t
        let c := createRecord q key r s3
        .found c.1 c.2
      else if !hotValid h then fresh s1
      else if hotTenant h = t ∧ hotTag h = keyTag key then
        let h' := markEnding s1 q (touchHot h now q.desc.length)
        let iat := hotIdle h now
        let rev := fromHigher s1 q != hotInitHi h
        let c := touchCold q r iat rev coldBad (s1.putHot t r h')
        .found c.2 ⟨r, h', c.1, false, iat, rev⟩
      else if s.reg (Addr.IDLE_TIMEOUT t) * 1000000 ≤ hotIdle h now then fresh (endFlow t r endIdle coldBad s1)
      else if s.flag (Addr.FLOW_TCTRL t) 1 then fresh (endFlow t r endDisplaced coldBad s1)
      else
        -- the line a miss filled has its cold half fetched, whose ever the record is
        let s2 := if s.histOn t then startColdFill t r s1 else s1
        .absent (s2.bump32 (Addr.FLOW_COLLIDE t))

/-! Feature programs (R155 to R158) -/

/-- LOG2 of R157. -/
def log2Feature (x : Nat) : Nat :=
  if x = 0 then 0
  else
    let e := Nat.log2 x
    let frac := if 8 ≤ e then x / 2 ^ (e - 8) % 256 else x * 2 ^ (8 - e) % 256
    (e + 1) * 256 + frac

/-- A transform (R157). -/
def transform (pkg : Package) (xform table shift x : Nat) : Nat :=
  match xform with
  | 0 => x % 65536
  | 1 => min x 0xFFFF
  | 2 => min (x / 2 ^ shift) 0xFFFF
  | 3 => log2Feature x
  | _ => match pkg.cats.find? (fun c => c.1 == table) with
    | some c => c.2.2.getD x c.2.1
    | none => 0

/-- A source value of a feature, none where the sentinel is taken (R156, R158). -/
def featureSource (q : Pkt) (view : Option FlowView) (src off wid : Nat) : Option Nat :=
  match src with
  | 0 => some (busBits q.bus off (wid + 1))
  | 1 => some (bits (passContext q) off (wid + 1))
  | 2 => some ([q.desc.length, q.desc.lport, q.desc.prio, q.rxUs].getD off 0)
  | 3 => view.map (fun v =>
      [hotPkts v.hot, min (hotBytes v.hot) (2 ^ 32 - 1), min (hotAge v.hot q.rxUs) (2 ^ 32 - 1), v.iat, hotIat v.hot, b2n v.reverse,
       hotLabel v.hot % 65536, hotLabel v.hot / 65536, b2n v.isNew, hotSeq v.hot].getD off 0)
  | 4 =>
    let k := off % 8
    (view.bind FlowView.cold).bind (fun c =>
      if bits c 320 4 ≤ k then none
      else
        let e := bits c (384 + 80 * ((bits c 324 3 + 15 - k) % 8)) 80
        some ([bits e 0 16, bits e 16 16, bits e 32 1, bits e 33 3, bits e 40 32].getD (off / 8 % 8) 0))
  | 5 => some off
  | 6 => (q.hdrs[off]?).map (fun h => h.2.1)
  | _ => some 0

/-- One feature of the vector (R155 to R158). -/
def feature (pkg : Package) (q : Pkt) (view : Option FlowView) (d : Nat) : Nat :=
  let miss := bits d 32 16
  let req := bits d 53 7
  if req ≠ 0 ∧ !(q.hdrs.any (fun h => h.1 == req)) then miss
  else match featureSource q view (bits d 0 4) (bits d 4 10) (bits d 14 5) with
    | some x => transform pkg (bits d 19 3) (bits d 22 10) (bits d 48 5) x
    | none => miss

/-! The chain and the state version (R148, R153) -/

/-- The state a model receives for a packet (R153), with whether it was re-initialised: the record's own while it is of the
packet's flow (`own`), and of a version the package takes. -/
def modelState (pkg : Package) (own : Bool) (h : Nat) : Bytes × Bool :=
  let v := hotStateVer h
  if own = true ∧ (v = pkg.stateVer ∨ (pkg.prevCompat ≠ 0 ∧ v = pkg.prevCompat)) then (hotState h, false) else (pkg.initState, true)

/-- A cell beyond its registers. -/
def State.cellx (s : State) (c : Nat) : CellX := tabGet default c s.cells
/-- `s` with a cell changed. -/
def State.updCell (s : State) (c : Nat) (f : CellX → CellX) : State := { s with cells := tabSet default c (f (s.cellx c)) s.cells }

/-- The replica next in turn of a slot (R256). -/
def nextReplica (x : Selector) (i : Nat) : List Nat :=
  let rs := (x.slot i).replicas
  rs.getD (x.turn % rs.length) []

/-- Whether every input queue of a replica has room (R195, R203). -/
def queuesFree (s : State) (cells : List Nat) : Bool := cells.all (fun c => decide ((s.cellx c).inQ.length < 64))

/-- A vector enters the input queues of the replica next in turn (R203, R238, R256). -/
def sendVector (id : Nat) (s : State) : State :=
  match s.packet id with
  | none => s
  | some q =>
    let x := s.selector q.tenant q.model
    let i := q.slot.getD 0
    let cells := nextReplica x i
    let s1 := s.setSelector q.tenant q.model { x with turn := x.turn + 1 }
    let s2 := s1.updPacket id (fun q => { q with at_ := .infer, replica := cells.headD 0, launchNo := 0, launched := [], flaws := [], flagged := false })
    cells.foldl (fun s c => s.updCell c (fun y => { y with inQ := y.inQ ++ [id] })) s2

/-- A packet's MODEL_STATE is read and its vector sent (R148, R153). -/
def startInference (id : Nat) (s : State) : State :=
  match s.packet id with
  | none => s
  | some q =>
    let pkg := ((s.selector q.tenant q.model).slot (q.slot.getD 0)).pkg
    if pkg.stateVer = 0 then sendVector id s
    else match q.flow with
      | some r =>
        let h := s.hotOf q.tenant r
        let m := modelState pkg (hotTag h == q.flowTag && hotFirst h % 2 ^ 32 == q.flowFirst) h
        let s1 := if m.2 then s.bump32 (Addr.STATE_REINIT q.tenant) else s
        sendVector id (s1.updPacket id (fun q => { q with mstate := m.1 }))
      | none => sendVector id (s.updPacket id (fun q => { q with mstate := pkg.initState }))

/-- Whether two packets belong to one life of one flow. -/
def sameFlow (a b : Pkt) : Bool := a.tenant == b.tenant && a.flow.isSome && a.flow == b.flow && a.flowTag == b.flowTag && a.flowFirst == b.flowFirst

/-- The packet joins the chain of its flow, starts its inference, or takes the default verdict (R148). -/
def chainOrInfer (id : Nat) (s : State) : State :=
  match s.packet id with
  | none => s
  | some q =>
    let others := s.ports.packets.filter (fun (x : Pkt) => x.id != id && q.stateVer != 0 && sameFlow x q && x.stateVer != 0 &&
      (x.at_ == .chain || x.at_ == .infer || x.at_ == .hold || x.at_ == .recoat))
    if others.isEmpty then startInference id s
    else if 16 ≤ (others.filter (fun x => x.at_ == .chain)).length then
      toVerdictPass id (s.defaultVerdict q.vclass) 2 ((s.bump32 (Addr.STATE_SKIP q.tenant)).updPacket id (fun q => { q with stateVer := 0, slot := none }))
    else s.updPacket id (fun q => { q with at_ := .chain })

/-- The order in which the encoder takes packets (R147): ascending (RX_ZC, LPORT), then order of commit. -/
def encodeBefore (a b : Pkt) : Bool :=
  decide (a.desc.zc < b.desc.zc ∨ (a.desc.zc = b.desc.zc ∧ (a.desc.lport < b.desc.lport ∨ (a.desc.lport = b.desc.lport ∧ a.id < b.id))))

/-- Whether a packet may still come to step 5. -/
def Pkt.beforeEncode (q : Pkt) : Bool :=
  match q.at_ with
  | .intake => true
  | .core => true
  | .parsed => true
  | .encode => true
  | .stage _ => q.pass == 1
  | _ => false

/-- Whether the merge lets a packet go (R147): no packet before it may still come, though one that was let go may wait at the encoder. -/
def mergeOpen (s : State) (q : Pkt) : Bool :=
  decide (q.desc.zc < s.zc) && !(s.ports.packets.any (fun (x : Pkt) => x.id != q.id && x.beforeEncode && !x.merged && encodeBefore x q))

/-- Whether a packet is next at the encoder (R147): the merge has let it go, and none before it waits there. -/
def mergeReady (s : State) (q : Pkt) : Bool :=
  decide (q.desc.zc < s.zc) && !(s.ports.packets.any (fun (x : Pkt) => x.id != q.id && x.beforeEncode && encodeBefore x q))

/-- A packet put in its place among packets in the order of the encoder. -/
def putEncoded (x : Pkt) : List Pkt → List Pkt
  | [] => [x]
  | y :: ys => if encodeBefore x y then x :: y :: ys else y :: putEncoded x ys

/-- Packets in the order in which the encoder takes them. -/
def encodeOrder (l : List Pkt) : List Pkt := l.foldr putEncoded []

/-- Whether the retention store has room (R377): 8,192 entries. -/
def retentionFree (s : State) : Bool :=
  decide ((s.ports.packets.filter (fun (q : Pkt) => q.at_ == .chain || q.at_ == .infer || q.at_ == .hold || q.at_ == .recoat)).length < 8192)

/-- Whether a tenant's packets shed to bypass now (R414): SHED_TO_BYPASS is set and the cap is unreachable. -/
def State.sheds (s : State) (t : Nat) : Bool := s.flag Addr.PWR_STATUS 0 && s.flag (Addr.SHED_BYPASS (t / 32)) (t % 32)

/-- The encoded packet starts, or with a full queue under SHED_TO_BYPASS takes the default verdict (R148, R414). -/
def startOrShed (id : Nat) (shed : Bool) (s : State) : State :=
  if shed then
    match s.packet id with
    | some q => toVerdictPass id (s.defaultVerdict q.vclass) 2 ((s.bump64 Addr.SHED_COUNT).updPacket id (fun q => { q with stateVer := 0, slot := none }))
    | none => s
  else chainOrInfer id s

/-- The encoder on a packet served by slot `i` (R145 to R158); none where it waits for a cache line, a queue or the retention
store. -/
def encodePacket (q : Pkt) (i : Nat) (hotBad coldBad : Bool) (s : State) : Option State :=
  let x := s.selector q.tenant q.model
  let pkg := (x.slot i).pkg
  let full := !queuesFree s (nextReplica x i)
  let shed := full && s.sheds q.tenant
  if (full && !shed) || !retentionFree s then none
  else
    let look : FlowLookup := if s.flowOn q.tenant then flowLookup q hotBad coldBad s else .absent s
    match look with
    | .wait => none
    | .absent s1 =>
      let q1 : Pkt := { q with labelValid := false, label := 0, flow := none, slot := some i, stateVer := 0 }
      let v := pkg.features.map (feature pkg q1 none)
      some (startOrShed q.id shed (s1.updPacket q.id (fun _ => { q1 with vector := v })))
    | .found s1 view =>
      let q1 : Pkt := { q with
        labelValid := true, label := hotLabel view.hot, flow := some view.slot, flowTag := hotTag view.hot
        flowFirst := hotFirst view.hot % 2 ^ 32, slot := some i, stateVer := pkg.stateVer }
      let s2 := periodicDigest q.tenant view.slot q.rxUs coldBad s1
      let v := pkg.features.map (feature pkg q1 (some view))
      some (startOrShed q.id shed (s2.updPacket q.id (fun _ => { q1 with vector := v })))

/-- The merge releases a packet (R147): its hold is measured once, whatever the packet waits for after it. -/
def releaseMerged (q : Pkt) (s : State) : State :=
  if q.merged then s
  else (s.raise Addr.SEQ_MAX_HOLD (min (s.zc - q.since) 65535)).updPacket q.id (fun q => { q with merged := true })

/-- FEATURE_ENCODE (R145): the packet next in the merge is encoded for the slot that serves it now (R22, R154), or takes
the default verdict where none does (R20). The row says whether the halves of the record read were uncorrectable (R366). -/
def execFeatureEncode (t id : Nat) (bad : RecordBad) (s : State) : Host.Outcome State Fault Refusal :=
  .next (match s.packet id with
    | none => s
    | some q =>
      if q.at_ = .encode ∧ mergeOpen s q then
        let s1 := releaseMerged q (advance t s)
        if !mergeReady s q then s1 else
        match servingSlot s q.tenant q.model q.epoch with
        | some i =>
          if sampled ((s.selector q.tenant q.model).slot i) q.hash then (encodePacket { q with merged := true } i bad.hot bad.cold s1).getD s1
          else toVerdictPass id (s.defaultVerdict q.vclass) 2 s1
        | none => toVerdictPass id (s.defaultVerdict q.vclass) 2 s1
      else s)

/-- COLD_FILL_COMPLETE (R149): the cold half of a resident record is filled from HBM, or is found uncorrectable and stays out
of the cache (R366). -/
def execColdFillComplete (t tenant : Nat) (fill : ColdFill) (s : State) : Host.Outcome State Fault Refusal :=
  .next (match s.lineOf tenant fill.slot with
    | some l =>
      if l.2.filling then
        (noteCold fill.bad tenant (countHbm false (s.recordAddr tenant fill.slot + 128) 128 (advance t s))).updLine l.1 (fun x =>
          if fill.bad then { x with coldBad := true, filling := false }
          else { x with
            cold := BitVec.ofNat 1024 (natLE (s.readBytes tenant (s.recordAddr tenant fill.slot + 128) 128)), coldIn := true, coldBad := false
            filling := false, coldDirty := false })
      else s
    | none => s)

/-- Whether a FLOW_FLUSH of a tenant concerns a record (R161): its flow, of the age it has now, began before the flush. -/
def flushes (s : State) (t h : Nat) : Bool :=
  let f := tabGet 0 t s.flow.flushing
  f != 0 && decide (s.nowUs ≤ f - 1 + hotAge h s.nowUs)

/-- FLOW_SCAN (R150): the scanner reads a record of an enabled region, and ends it or emits a periodic digest as due. -/
def execFlowScan (t tenant r : Nat) (coldBad : Bool) (s : State) : Host.Outcome State Fault Refusal :=
  .next (let s1 := advance t s
    let h := s1.hotOf tenant r
    let now := s1.nowUs
    if !s.flowOn tenant || decide (s.flowRecords tenant ≤ r) || !hotValid h then s
    else if s.slotRetired tenant r then (if s.inChain tenant r then s1 else endFlow tenant r endRetired coldBad s1)
    else if flushes s1 tenant h then endFlow tenant r endFlushed coldBad s1
    else if s.reg (Addr.IDLE_TIMEOUT tenant) * 1000000 ≤ hotIdle h now then endFlow tenant r endIdle coldBad s1
    else if hotEnding h ∧ s.reg (Addr.END_LINGER tenant) * 1000 ≤ hotIdle h now then endFlow tenant r endMarker coldBad s1
    else if agedAt ≤ hotAge h now then endFlow tenant r endAged coldBad s1
    else periodicDigest tenant r now coldBad s1)

/-- A record whose hot half a label application finds uncorrectable is reset (R162): with no packet to begin a flow from, the
slot is as before the first packet of one, not VALID (log 26). -/
def resetByLabel (t r : Nat) (s : State) : State :=
  let s1 := if hotValid (s.hotOf t r) then s.setReg (Addr.FLOWS_LIVE t) (s.reg (Addr.FLOWS_LIVE t) - 1) else s
  (((s1.putHot t r 0).bump32 (Addr.FLOW_RESET t)).coalesceEvent evFlowReset t t (ms 1) [t, r]).noteUncorr 2 t

/-- The hot half of a record that is not resident is read for a label (R149, R152, R163). The label record does not give the key, from
which a set would follow, so no line is allocated for it (DEDUCED, log 26). -/
def readForLabel (t r : Nat) (s : State) : State :=
  if decide (r < s.flowRecords t) && (s.lineOf t r).isNone then (countHbm false (s.recordAddr t r) 128 s).bump64 Addr.CACHE_MISSES else s

/-- One label record applied (R152), or met by an uncorrectable hot half (R162). -/
def applyLabel (t : Nat) (hotBad : List Nat) (rec : Bytes) (s0 : State) : State :=
  let r := le rec 0 4
  let s := readForLabel t r s0
  let h := s.hotOf t r
  if r < s.flowRecords t ∧ hotBad.contains r then (resetByLabel t r s).bump32 (Addr.LABEL_STALE t)
  else if r < s.flowRecords t ∧ hotValid h ∧ hotTenant h = t ∧ hotTag h = le rec 4 4 ∧ hotFirst h % 2 ^ 32 = le rec 8 4 then
    (s.putHot t r (putBits (putBits h 64 32 (le rec 12 4)) 51 1 1)).bump32 (Addr.LABEL_APPLIED t)
  else s.bump32 (Addr.LABEL_STALE t)

/-- LABEL_QUEUE_POLL (R152): the encoder reads the header of a tenant's label queue and applies its records in order. The row
names the record slots whose hot half it finds uncorrectable. -/
def execLabelQueuePoll (t : Nat) (poll : LabelPoll) (s : State) : Host.Outcome State Fault Refusal :=
  .next (let base := s.reg (Addr.LABEL_BASE poll.tenant)
    let n := s.reg (Addr.LABEL_ENTRIES poll.tenant)
    let hd := s.readBytes poll.tenant base 8
    let prod := le hd 0 4
    let cons := le hd 4 4
    let count := min ((prod + 2 ^ 32 - cons) % 2 ^ 32) n
    if !s.flowOn poll.tenant || count == 0 then s
    else
      let s1 := (List.range count).foldl (fun s i => applyLabel poll.tenant poll.hotBad (s.readBytes poll.tenant (base + 32 + 16 * ((cons + i) % n)) 16)
          (countHbm false (base + 32 + 16 * ((cons + i) % n)) 16 s)) (countHbm false base 8 (advance t s))
      s1.storeBytes poll.tenant (base + 4) (toLE 4 prod))

/-- SET_LABEL at step 9 (R126): the label reaches the life of the flow read at step 5. -/
def setLabel (q : Pkt) (label : Nat) (s : State) : State :=
  match q.flow with
  | some r =>
    let h := s.hotOf q.tenant r
    if q.labelValid && hotValid h && hotTag h == q.flowTag && hotFirst h % 2 ^ 32 == q.flowFirst then
      s.putHot q.tenant r (putBits (putBits h 64 32 label) 51 1 1)
    else s
  | none => s

/-- The state write of a verdict whose checks passed (R153): MODEL_STATE and STATE_VER of the life read at step 5. -/
def writeModelState (q : Pkt) (st : Bytes) (s : State) : State :=
  match q.flow with
  | some r =>
    let h := s.hotOf q.tenant r
    if q.stateVer ≠ 0 ∧ hotValid h ∧ hotTag h = q.flowTag ∧ hotFirst h % 2 ^ 32 = q.flowFirst then
      s.putHot q.tenant r (putBits (putBits h 40 8 q.stateVer) 256 768 (natLE st))
    else s
  | none => s

/-- Whether a packet in a chain is the next to start: no other of its flow is under way, and none before it waits (R148). -/
def chainOpen (s : State) (x : Pkt) : Bool :=
  !s.ports.packets.any (fun (y : Pkt) => y.id != x.id && y.stateVer != 0 && sameFlow y x &&
    (y.at_ == .infer || y.at_ == .hold || y.at_ == .recoat || (y.at_ == .chain && encodeBefore y x)))

/-- A packet whose turn in its chain has come starts; where its slot lost its last replica it takes the default verdict (R20, R254), and
while a queue of the replica next in turn is full it waits, or is shed (R195, R414). -/
def startChained (x : Pkt) (s : State) : State :=
  let y := (s.selector x.tenant x.model).slot (x.slot.getD 0)
  if !y.serves || y.replicas.isEmpty then
    toVerdictPass x.id (s.defaultVerdict x.vclass) 2 (s.updPacket x.id (fun q => { q with stateVer := 0, slot := none }))
  else if queuesFree s (nextReplica (s.selector x.tenant x.model) (x.slot.getD 0)) then startInference x.id s
  else if s.sheds x.tenant then startOrShed x.id true s
  else s

/-- The chains of some packets go on in the order of R147. -/
def startChains (some_ : Pkt → Bool) (s : State) : State :=
  (encodeOrder (s.ports.packets.filter (fun (x : Pkt) => x.at_ == .chain && some_ x))).foldl (fun s x => if chainOpen s x then startChained x s else s) s

/-- The chain of a packet's flow goes on once the packet's state write was made or abandoned (R148). -/
def advanceChain (q : Pkt) (s : State) : State :=
  let s1 := startChains (fun x => sameFlow x q) s
  match q.flow with
  | some r => if s1.inChain q.tenant r then s1 else endIfRetired q.tenant r s1
  | none => s1

/-! Regions, rings and queues set (R141) -/

/-- Whether two ranges of bytes overlap. -/
def rangesOverlap (a n b m : Nat) : Bool := decide (0 < n ∧ 0 < m ∧ a < b + m ∧ b < a + n)

/-- The module-address range of a tenant's flow region. -/
def State.regionOf (s : State) (t : Nat) : Nat × Nat := (s.reg (Addr.FLOW_BASE t) * 1048576, 256 * s.flowRecords t)
/-- The ranges of a tenant's digest ring and label queue. -/
def State.ringsOf (s : State) (t : Nat) : List (Nat × Nat) :=
  let n := s.reg (Addr.DIGEST_ENTRIES t)
  let m := s.reg (Addr.LABEL_ENTRIES t)
  [(s.reg (Addr.DIGEST_BASE t), if n = 0 then 0 else 32 + 288 * n), (s.reg (Addr.LABEL_BASE t), if m = 0 then 0 else 32 + 16 * m)]

/-- Tenants with a flow region, ring or queue. -/
def flowTenants (s : State) : List Nat := (List.range 256).filter (fun t => s.flowRecords t != 0 || (s.ringsOf t).any (fun r => r.2 != 0))

/-- Whether a range overlaps any tenant's memory window. -/
def overlapsWindow (s : State) (a n : Nat) : Bool :=
  s.mem.windows.any (fun w => rangesOverlap a n (w.2.base * 65536) (w.2.length * 65536))

/-- The refusal of a placement of tenant `t`'s flow memory in `s` (R141). -/
def placementRefused (s : State) (t : Nat) : Option Nat :=
  let reg := s.regionOf t
  let others := (flowTenants s).filter (· != t)
  let total := ((flowTenants s).map (fun u => (s.regionOf u).2)).foldl (· + ·) 0
  let rings := s.ringsOf t
  let taken := others.flatMap (fun u => s.regionOf u :: s.ringsOf u)
  if 549755813888 < total then some St.NO_FIT
  else if hbmBytes < reg.1 + reg.2 ∨ (taken ++ rings).any (fun r => rangesOverlap reg.1 reg.2 r.1 r.2) ∨ overlapsWindow s reg.1 reg.2 then some St.BAD_PARAM
  else if rings.any (fun r => r.2 != 0 && !(s.inWindows t r.1 r.2 true)) then some St.BAD_PARAM
  else if rings.any (fun r => taken.any (fun x => rangesOverlap r.1 r.2 x.1 x.2)) then some St.BAD_PARAM
  else if rangesOverlap (rings.getD 0 (0, 0)).1 (rings.getD 0 (0, 0)).2 (rings.getD 1 (0, 0)).1 (rings.getD 1 (0, 0)).2 then some St.BAD_PARAM
  else none

/-- The records with VALID 1 in a tenant's region (R163), none of them in the cache: those among the slots of listed bytes. -/
def State.liveRecords (s : State) (t : Nat) : Nat :=
  let base := s.reg (Addr.FLOW_BASE t) * 1048576
  let slots := s.mem.bytes.filterMap (fun e => if base ≤ e.1 ∧ (e.1 - base) % 256 = 6 ∧ (e.1 - base) / 256 < s.flowRecords t then some ((e.1 - base) / 256) else none)
  (slots.filter (fun r => hotValid (s.hotOf t r))).length

/-- A tenant's region moved or resized (R141), `base` being its former FLOW_BASE: its lines leave the cache and are written back where
they belonged, and FLOWS_LIVE counts the valid records of the region as it is now (log 26). -/
def moveRegion (t base : Nat) (s : State) : State :=
  let s1 := ((s.flow.lines.map Prod.snd).filter (fun l => l.tenant == t)).foldl (fun s l => writeBack l s) (s.setReg (Addr.FLOW_BASE t) base)
  let s2 := { s1 with flow.lines := s1.flow.lines.filter (fun l => l.2.tenant != t) }.setReg (Addr.FLOW_BASE t) (s.reg (Addr.FLOW_BASE t))
  s2.setReg (Addr.FLOWS_LIVE t) (s2.liveRecords t % 2 ^ 32)

/-- Changes of tenant `t`'s flow registers from `s` to `s'` are checked (R141, R150, R163, R449). -/
def flowChange (t : Nat) (s s' : State) : Nat × State :=
  let moved := s.regionOf t != s'.regionOf t
  if !s.tenantExists t then (St.NOT_PERMITTED, s)
  else if s'.reg (Addr.WAY_MASK t) = 0 ∨ 4200 < s'.reg (Addr.IDLE_TIMEOUT t) + s'.reg Addr.SCAN_PERIOD then (St.BAD_PARAM, s)
  else if 524288 < s'.reg (Addr.FLOW_RECORDS t) ∨ (s'.flag (Addr.FLOW_TCTRL t) 0 ∧ s'.flowRecords t = 0) then (St.BAD_PARAM, s)
  else if moved ∧ s.flag (Addr.FLOW_TCTRL t) 0 then (St.BUSY, s)
  else if moved ∨ s.ringsOf t ≠ s'.ringsOf t then
    match placementRefused s' t with
    | some e => (e, s)
    | none => (St.OK, if moved then moveRegion t (s.reg (Addr.FLOW_BASE t)) s' else s')
  else (St.OK, s')

/-- A write of a per-tenant flow register (R163): another value of FLOW_TCTRL.ENABLE is the owner's to write. -/
def wrFlowTenant (byOwner : Bool) (t a v : Nat) (s : State) : Nat × State :=
  if a = Addr.FLOW_TCTRL t ∧ !byOwner ∧ bits v 0 1 ≠ s.field a 0 1 then (St.NOT_PERMITTED, s)
  else flowChange t s (s.setReg a v)

/-- A write of SCAN_PERIOD (R150). -/
def wrScanPeriod (v : Nat) (s : State) : Nat × State :=
  if v < 1 ∨ 600 < v ∨ (List.range 256).any (fun t => decide (4200 < s.reg (Addr.IDLE_TIMEOUT t) + v)) then (St.BAD_PARAM, s)
  else (St.OK, s.setReg Addr.SCAN_PERIOD v)

/-! Commands (R161) -/

/-- FLOW_REGION_SET (R141, R351). -/
def cmdFlowRegionSet : CmdFn := fun env p s =>
  let t := byteAt p 0
  let f (o n : Nat) : Nat := be p o n
  if !env.owner then refuse St.NOT_PERMITTED s
  else if p.length ≠ 44 ∨ 1 < byteAt p 1 ∨ !zerosAt p 2 2 ∨ 2 ^ 20 ≤ f 4 4 ∨ 2 ^ 20 ≤ f 8 4 ∨ 2 ^ 16 ≤ f 12 4 ∨ 2 ^ 16 ≤ f 16 4 ∨ 2 ^ 47 ≤ f 20 8
      ∨ 2 ^ 24 ≤ f 28 4 ∨ 2 ^ 47 ≤ f 32 8 ∨ 2 ^ 24 ≤ f 40 4 then refuse St.BAD_PARAM s
  else
    let s1 := (((s.setFlag (Addr.FLOW_TCTRL t) 0 (byteAt p 1 == 1)).setReg (Addr.FLOW_BASE t) (f 4 4)).setReg (Addr.FLOW_RECORDS t) (f 8 4)).setReg (Addr.FLOW_PPS t) (f 12 4)
    let s2 := (((s1.setReg (Addr.WAY_MASK t) (f 16 4)).setReg (Addr.DIGEST_BASE t) (f 20 8)).setReg (Addr.DIGEST_ENTRIES t) (f 28 4)).setReg (Addr.LABEL_BASE t) (f 32 8)
    let r := flowChange t s (s2.setReg (Addr.LABEL_ENTRIES t) (f 40 4))
    (st r.1, r.2)

/-- FLOW_REMOVE (R161): ends the flow of a key. -/
def cmdFlowRemove : CmdFn := fun env p s =>
  let t := env.tenant
  if p.length ≠ 40 then refuse St.BAD_PARAM s
  else
    let r := flowSlot p (s.flowRecords t)
    let h := s.hotOf t r
    (ok, if s.flowOn t && hotValid h && hotTag h == keyTag p then (let d := readsColdBad s; endFlow t r endRemoved d.1 d.2) else s)

/-- FLOW_READ (R161, R351): the record of a key or slot. -/
def cmdFlowRead : CmdFn := fun env p s =>
  let t := env.tenant
  let kind := byteAt p 0
  if p.length ≠ 48 ∨ 1 < kind ∨ !zerosAt p 1 3 ∨ (kind = 0 ∧ be p 4 4 ≠ 0) ∨ (kind = 1 ∧ !zerosAt p 8 40) then refuse St.BAD_PARAM s
  else if kind = 1 ∧ s.flowRecords t ≤ be p 4 4 then refuse St.BAD_PARAM s
  else
    let key := slice p 8 40
    let r := if kind = 0 then flowSlot key (s.flowRecords t) else be p 4 4
    let h := s.hotOf t r
    let found := s.flowRecords t != 0 && hotValid h && (kind == 1 || hotTag h == keyTag key)
    (⟨St.OK, toBE 1 (b2n found) ++ toBE 3 0 ++ toBE 4 r ++ (if found then toLE 128 h ++ toLE 128 (s.coldOf t r) else List.replicate 256 0#8)⟩, s)

/-- FLOW_FLUSH (R161): every flow of the tenant ends at scanner pace. -/
def cmdFlowFlush : CmdFn := fun env p s =>
  if !p.isEmpty then refuse St.BAD_PARAM s
  else (ok, { s with flow.flushing := tabSet 0 env.tenant (s.nowUs + 1) s.flow.flushing })

/-- HBM_PAGE_RETIRE (R160): one 4 KiB page of a stack. -/
def cmdHbmPageRetire : CmdFn := fun env p s =>
  let stack := byteAt p 0
  let off := be p 8 8
  let page := off / 4096
  if !env.owner then refuse St.NOT_PERMITTED s
  else if p.length ≠ 16 ∨ 15 < stack ∨ !zerosAt p 1 7 ∨ off % 4096 ≠ 0 ∨ hbmBytes / 16 ≤ off then refuse St.BAD_PARAM s
  else if s.mem.retired.contains (stack, page) then (ok, s)
  else if 4096 ≤ s.mem.retired.length then refuse St.NO_FIT s
  else
    -- outside the flow regions the page's contents are lost (R221); the records of a region end first (R160)
    let flow := (flowTenants s).any (fun t => rangesOverlap (s.regionOf t).1 (s.regionOf t).2 (page * 65536) 65536)
    let m := { s.mem with retired := s.mem.retired ++ [(stack, page)] }
    let s1 := { s with mem := if flow then m else losePage stack off m }
    let s2 := (s1.bump32 Addr.RETIRED_PAGES).bump32 (Addr.RETIRED stack)
    let slots (t : Nat) : List Nat :=
      let base := s.reg (Addr.FLOW_BASE t) * 65536
      if off < base then [] else ((List.range 16).map (fun i => ((off - base) / 256 + i) * 16 + stack)).filter (fun r => decide (r < s.flowRecords t))
    (ok, (flowTenants s).foldl (fun s t => (slots t).foldl (fun s r => endIfRetired t r s) s) s2)

end Sys2Proof.Machine
end

