-- ==== Sys2Proof/Machine/Actions.lean ====
section
/-!
DEFINITION. Step 9 of the inline path (R127 to R136): resolving a packet's result, edits and checksums, egress groups, the
exception path, port defaults and fragments, with the registers of stage 0 that belong to them.
Logs 24 and 25 name what the manual leaves open here.
-/
namespace Sys2Proof.Machine

/-! Exception reasons (R129) -/
def reNoMatch : Nat := 1
def reParseDepth : Nat := 2
def reNoEgress : Nat := 6
def reEditOverflow : Nat := 7
def reEncapMismatch : Nat := 8

def evExceptionPacket : Nat := 0xFF00

/-- Why a packet goes to the exception path, none where it is forwarded or dropped (R127, R129). -/
def exceptionReason (q : Pkt) : Option Nat :=
  let r := q.result
  if r.drop then none
  else if 2 ≤ q.pstat ∧ q.pstat ≤ 4 then some (r.exc.getD (q.pstat + 1))
  else if q.pstat = 1 ∧ !q.partialOk then some (r.exc.getD reParseDepth)
  else if !q.hit then some (r.exc.getD reNoMatch)
  else if r.exc.isSome then r.exc
  else if r.egress.isNone then some reNoEgress
  else none

/-- A register of an egress group as packets of the present beat read it: a write takes effect on the beat after it (R132). -/
def State.groupReg (s : State) (a : Nat) : Nat :=
  if s.mt.groupBeat = s.zc + 1 then ((s.mt.wasGroup.find? (fun e => e.1 == a)).map Prod.snd).getD (s.reg a) else s.reg a

/-- A register of an egress group is written (R132). -/
def setGroupReg (a v : Nat) (s : State) : State :=
  let was := if s.mt.groupBeat = s.zc + 1 then s.mt.wasGroup else []
  { s.setReg a v with mt.groupBeat := s.zc + 1, mt.wasGroup := if was.any (fun e => e.1 == a) then was else was ++ [(a, s.reg a)] }

/-- The member of egress group `g` for a hash, none for a group that was never written (R132). -/
def groupMember (s : State) (g hash : Nat) : Option Nat :=
  let count := s.groupReg (Addr.EGROUP g 0) % 128
  if count = 0 then none
  else
    let m := hash / 65536 % 65536 * count / 65536
    some (bits (s.groupReg (Addr.EGROUP g (1 + m / 4))) (8 * (m % 4)) 6)

/-- The result with its egress group resolved to a logical port (R132, R281). -/
def resolveGroup (s : State) (q : Pkt) : Pkt :=
  match q.result.egress with
  | some (true, g) => { q with result := { q.result with egress := (groupMember s g q.hash).map (fun L => (false, L)) } }
  | _ => q

/-! Edits (R128) -/

/-- What the edits of a packet come to, at the offsets of the packet as parsed: rewrites (byte, width, value), removed
ranges, insertions (place, kind, bytes), checksums (header, kind, stage), the count of R128, the bytes pushed, and the
reason of a failing edit. -/
structure Edits where
  rewrites : List (Nat × Nat × Nat) := []
  pops : List (Nat × Nat) := []
  ins : List (Nat × Nat × Bytes) := []
  csums : List (Nat × Nat × Nat) := []
  count : Nat := 0
  pushed : Nat := 0
  fail : Option Nat := none
deriving DecidableEq, Repr

/-- Start of header `k` of a packet; HDR_COUNT means PAYLOAD_OFF (R126). -/
def Pkt.headerAt (q : Pkt) (k : Nat) : Nat := if k < q.hdrs.length then (q.hdrs.getD k (0, 0, 0)).2.1 else busBits q.bus 8 10

/-- The bytes of ENCAP entry `e`. -/
def encapBytes (s : State) (e : Nat) : Bytes := (List.range 32).flatMap (fun w => toLE 4 (s.reg (Addr.ENCAP e w)))

/-- The bytes a PUSH kind inserts (R128). -/
def pushSize (kind : Nat) : Nat := [4, 4, 4, 50, 70].getD kind 0

/-- One edit taken in (R128). Edits after a failing one do not apply; an edit that names an absent header does nothing. -/
def takeEdit (s : State) (q : Pkt) (a : Edits) (e : Edit) : Edits :=
  if a.fail.isSome then a else
  match e with
  | .csum k kind stage => { a with csums := a.csums ++ [(k, kind, stage)] }
  | .rewrite k boff wid v =>
    if a.count = 8 then { a with fail := some reEditOverflow }
    else if k < q.hdrs.length then { a with count := a.count + 1, rewrites := a.rewrites ++ [(q.headerAt k + boff, wid, v)] }
    else { a with count := a.count + 1 }
  | .pop x y =>
    if a.count = 8 then { a with fail := some reEditOverflow }
    else if y ≤ q.hdrs.length then { a with count := a.count + 1, pops := a.pops ++ [(q.headerAt x, q.headerAt y)] }
    else { a with count := a.count + 1 }
  | .push kind k en =>
    let b := encapBytes s en
    let size := pushSize kind
    if a.count = 8 then { a with fail := some reEditOverflow }
    else if le b 0 2 ≠ size then { a with fail := some reEncapMismatch }
    else if 128 < a.pushed + size then { a with fail := some reEditOverflow }
    else if kind < 3 ∧ q.hdrs.length ≤ k then { a with count := a.count + 1, pushed := a.pushed + size }
    else
      let place := if 3 ≤ kind then 0 else q.headerAt k + (if kind < 2 then 12 else (q.hdrs.getD k (0, 0, 0)).2.2)
      let et := le b 2 2
      { a with count := a.count + 1, pushed := a.pushed + size, ins := (place, kind, slice b 4 size) :: a.ins
               rewrites := if et = 0 ∨ q.hdrs.isEmpty then a.rewrites else a.rewrites ++ [(q.headerAt 0 + 12, 16, et)] }

/-- Whether byte `i` is removed by a POP. -/
def Edits.popped (a : Edits) (i : Nat) : Bool := a.pops.any (fun r => decide (r.1 ≤ i ∧ i < r.2))

/-- A rewrite of the first `wid` bits from byte `o`; one that touches a removed byte or leaves the frame is discarded. -/
def applyRewrite (a : Edits) (fr : Bytes) (r : Nat × Nat × Nat) : Bytes :=
  let n := (r.2.1 + 7) / 8
  if fr.length < r.1 + n ∨ (List.range n).any (fun i => a.popped (r.1 + i)) then fr
  else
    let sh := 8 * n - r.2.1
    fr.take r.1 ++ toBE n (putBits (be fr r.1 n) sh r.2.1 r.2.2) ++ fr.drop (r.1 + n)

/-- The edited frame as bytes marked with their place in the parsed frame; insertions carry none, and the first byte of a
VXLAN header is marked with its kind in the second component. Of two insertions at one place the later lies outside. An insertion whose
place lies inside bytes that a POP removes is still made, since the manual discards rewrites alone there (DESIGN CHOICE, log 23). -/
def buildFrame (a : Edits) (fr : Bytes) : List (Option Nat × Nat × Byte) :=
  (List.range (fr.length + 1)).flatMap (fun i =>
    (a.ins.filter (fun x => x.1 == i)).flatMap (fun x => x.2.2.mapIdx (fun j b => (none, if j = 0 then x.2.1 else 0, b)))
      ++ (if i < fr.length ∧ !a.popped i then [(some i, 0, fr.getD i 0#8)] else []))

/-- Bytes from `o` replaced by `b`. -/
def patch (fr : Bytes) (o : Nat) (b : Bytes) : Bytes := fr.take o ++ b ++ fr.drop (o + b.length)

/-- The offset of the checksum field in its header by KIND (R126). -/
def csumField (kind : Nat) : Nat := [10, 16, 6].getD kind 0

/-- The sum of the bytes a checksum covers in `buf`, its field taken as 0: header K at `ko`, header K−1 at `po`; lengths
and version are those of the parsed frame `src` at `sk` and `sp` (R128). -/
def coveredSum (buf : Bytes) (ko po kind : Nat) (src : Bytes) (sk sp : Nat) : Nat :=
  let body (n : Nat) : Bytes := patch ((buf.drop ko).take n) (csumField kind) [0#8, 0#8]
  if kind = 0 then onesSum (body (byteAt src sk % 16 * 4))
  else
    let v4 := byteAt src sp / 16 == 4
    let n := if v4 then be src (sp + 2) 2 - byteAt src sp % 16 * 4 else be src (sp + 4) 2
    let addr := if v4 then slice buf (po + 12) 8 else slice buf (po + 8) 32
    onesSum (addr ++ toBE 4 n ++ toBE 2 (if kind = 1 then 6 else 17) ++ body n)

/-- One CSUM over all the edits (R128): the edited frame, and whether it was suppressed. `at'` finds a parsed byte. -/
def applyCsum (q : Pkt) (at' : Nat → Option Nat) (c : Nat × Nat × Nat) (out : Bytes) : Bytes × Bool :=
  let k := c.1
  let kind := c.2.1
  if q.hdrs.length ≤ k then (out, false)
  else
    let sk := q.headerAt k
    let sp := if kind = 0 ∨ k = 0 then sk else q.headerAt (k - 1)
    let ver := byteAt q.bytes sp / 16
    match at' sk, at' sp with
    | some ko, some po =>
      if kind ≠ 0 ∧ (k = 0 ∨ (ver ≠ 4 ∧ ver ≠ 6)) then (out, true)
      else
        let old := coveredSum q.bytes sk sp kind q.bytes sk sp
        let new := coveredSum out ko po kind q.bytes sk sp
        let f := ko + csumField kind
        let hc := be out f 2
        if old = new ∨ out.length < f + 2 ∨ (kind = 2 ∧ hc = 0) then (out, false)
        else
          let r := rfc1624 hc old new
          (patch out f (toBE 2 (if kind = 2 ∧ r = 0 then 0xFFFF else r)), false)
    | _, _ => (out, kind != 0)

/-- The length, checksum and port fields of a VXLAN header pushed at `o` (R128). -/
def fillVxlan (hash kind o : Nat) (out : Bytes) : Bytes :=
  let ip := o + 14
  let total := out.length
  let udp := if kind = 3 then ip + 20 else ip + 40
  let a := if kind = 3 then
      let b := patch (patch out (ip + 2) (toBE 2 (total - ip))) (ip + 10) [0#8, 0#8]
      patch b (ip + 10) (toBE 2 (65535 - onesSum (slice b ip 20)))
    else patch out (ip + 4) (toBE 2 (total - ip - 40))
  patch (patch (patch a udp (toBE 2 (0xC000 + hash % 16384))) (udp + 4) (toBE 2 (total - udp))) (udp + 6) [0#8, 0#8]

/-- One CSUM of a packet in turn: the frame, the stages of suppressed ones, and the checksums kept so far, each of which is folded
once however many CSUMs name it. -/
def keepCsum (q : Pkt) (at' : Nat → Option Nat) (x : Bytes × List Nat × List (Nat × Nat)) (c : Nat × Nat × Nat) : Bytes × List Nat × List (Nat × Nat) :=
  let y := applyCsum q at' c x.1
  (if x.2.2.contains (c.1, c.2.1) then x.1 else y.1, if y.2 then x.2.1 ++ [c.2.2] else x.2.1, (c.1, c.2.1) :: x.2.2)

/-- The edited frame, the reason of a failing edit, and the stages of suppressed checksums (R128). -/
def editFrame (s : State) (q : Pkt) : Bytes × Option Nat × List Nat :=
  let a := q.result.edits.foldl (takeEdit s q) {}
  let cells := buildFrame a (a.rewrites.foldl (applyRewrite a) q.bytes)
  let at' (i : Nat) : Option Nat := cells.findIdx? (fun c => c.1 == some i)
  -- the checksums of inner headers first, so that an outer one folds in their change
  let r := (sortBy (fun (x y : Nat × Nat × Nat) => decide (y.1 ≤ x.1)) a.csums).foldl (keepCsum q at') (cells.map (fun c => c.2.2), [], [])
  let vx := (cells.mapIdx (fun i c => (i, c.2.1))).filter (fun c => decide (3 ≤ c.2))
  let out := vx.foldl (fun b c => fillVxlan q.hash c.2 c.1 b) r.1
  (out ++ List.replicate (60 - out.length) 0#8, a.fail, r.2.1)

/-! The exception path (R135) -/

/-- The rate of an exception bucket as a fraction of packets/s (R135). -/
def exceptionRate (s : State) (L : Nat) : Nat × Nat :=
  let r := s.reg (Addr.EXC_PORT_RATE L)
  if r ≠ 0 then (r, 1)
  else
    let sum := ((List.range 64).map (fun j => s.reg (Addr.EXC_PORT_RATE j))).foldl (· + ·) 0
    let n := ((List.range 64).filter (fun j => s.reg (Addr.EXC_PORT_RATE j) == 0 && (s.placeOf j).isSome)).length
    (s.reg Addr.EXC_RATE - sum, max 1 n)

/-- A packet in the unit of the exception buckets. -/
def exceptionUnit : Nat := 1000000000000

/-- An exception bucket refilled to the present instant (R135). -/
def refillException (L : Nat) (s : State) : State :=
  let b := tabGet (0, 0) L s.mt.bucket
  let r := exceptionRate s L
  let short := b.1 - r.1 * (s.now - b.2) / r.2
  { s with mt.bucket := tabSet (0, 0) L (if short = 0 then (0, 0) else (short, s.now)) s.mt.bucket }

/-- Every exception bucket refilled, before a rate changes. -/
def refillExceptions (s : State) : State := (List.range 64).foldl (fun s L => refillException L s) s

/-- EV_EXCEPTION_PACKET (R357): the prefix TIME and ZC are those of reception. -/
def exceptionEvent (s : State) (q : Pkt) (reason : Nat) : Event :=
  let snap := min q.bytes.length (s.reg Addr.EXC_SNAP)
  let hash := if 2 ≤ q.pstat ∧ q.pstat ≤ 4 then 0 else q.hash
  { s.mkEvent evExceptionPacket q.tenant
      ([reason, q.desc.lport, q.pstat, q.bytes.length, snap, hash, busBits q.bus 0 128] ++ (q.bytes.take snap).map BitVec.toNat) with
    sec := q.desc.sec, ns := q.desc.ns, zc := q.desc.zc }

/-- Exception events a handover may hold (R481). -/
def heldExceptions : Nat := 4096

/-- The event of an admitted packet is raised and its pages return; or a handover leaves the device without firmware, and both wait
(R357, R481). -/
def admitException (q : Pkt) (reason : Nat) (s : State) : State :=
  let e := exceptionEvent s q reason
  if s.stage = 2 then
    retirePacket q.id ({ s with fw.heldExc := s.fw.heldExc ++ [(e, q.id)] }.updPacket q.id (fun x => { x with at_ := .exception }))
  else freePacket q.id (deliver e s)

/-- A packet sent to the exception path (R135, R481): no edit is applied to it and it is not mirrored (R127). One that finds 4,096
held during a handover goes the way of one beyond its rate, and is counted with them (DESIGN CHOICE, log 23). -/
def toException (q : Pkt) (reason : Nat) (s0 : State) : State :=
  let L := q.desc.lport
  let s := refillException L s0
  let b := tabGet (0, 0) L s.mt.bucket
  let room := s.stage ≠ 2 ∨ s.fw.heldExc.length < heldExceptions
  if room ∧ b.1 + exceptionUnit ≤ s.reg Addr.EXC_BURST * exceptionUnit then
    let s1 := { s with mt.bucket := tabSet (0, 0) L (b.1 + exceptionUnit, s.now) s.mt.bucket }
    admitException q reason (s1.bump64 Addr.EXC_ADMITTED)
  else
    let s1 := s.bump64 Addr.EXC_OVER_RATE
    if 2 ≤ q.pstat ∧ q.pstat ≤ 4 then freePacket q.id s1 else takePortDefault q.id s1

/-! Fragments (R133, R134) -/

/-- FRAG of a packet's parse summary: 1 FIRST, 2 LATER. -/
def Pkt.frag (q : Pkt) : Nat := busBits q.bus 50 2

/-- The key of a fragment: addresses of header FRAG_IPIDX with its version, FRAG_PROTO, FRAG_ID and INTAKE_TENANT (R133). -/
def fragKey (q : Pkt) : List Nat :=
  let o := q.headerAt (busBits q.bus 104 4)
  let v6 := busBits q.bus 108 1
  [if v6 = 1 then be q.bytes (o + 8) 16 else be q.bytes (o + 12) 4, if v6 = 1 then be q.bytes (o + 24) 16 else be q.bytes (o + 16) 4,
   v6, busBits q.bus 96 8, busBits q.bus 64 32, q.desc.tenant]

/-- Whether an edit lies wholly within headers 0 to `n` (R133). -/
def editWithin (q : Pkt) (n : Nat) : Edit → Bool
  | .rewrite k boff wid _ => decide (k ≤ n ∧ q.headerAt k + boff + (wid + 7) / 8 ≤ q.headerAt n + (q.hdrs.getD n (0, 0, 0)).2.2)
  | .csum k _ _ => decide (k ≤ n)
  | .push kind k _ => decide (3 ≤ kind ∨ k ≤ n)
  | .pop _ b => decide (b ≤ n + 1)

/-- A later fragment takes a recorded result into step 9 (R134). -/
def takeRecord (r : FragRecord) (id : Nat) (s : State) : State :=
  let s1 := { s with mt.frags := s.mt.frags.map (fun (f : FragRecord) => if f.id = r.id then { f with used := s.now } else f) }
  (s1.bump32 Addr.FRAG_HITS).updPacket id (fun q => { q with tenant := r.tenant, result := r.result, hit := true, partialOk := true, at_ := .resolve })

/-- A first fragment records its resolved result and releases the waiting packets of its key (R133, R134). `reason` is the
exception reason of the resolved result. -/
def recordFragment (q : Pkt) (reason : Option Nat) (s : State) : State :=
  let key := fragKey q
  let old := s.mt.frags.find? (fun (f : FragRecord) => f.key == key)
  if old.isNone && decide (65536 ≤ s.mt.frags.length) then s.bump32 Addr.FRAG_FULL
  else
    let n := busBits q.bus 104 4
    let res := { q.result with label := none, tag := none, recirc := false, exc := reason, edits := q.result.edits.filter (editWithin q n) }
    let r : FragRecord := { id := s.mt.nextFrag, key, tenant := q.tenant, result := res, used := s.now }
    let s1 := { s with mt.frags := s.mt.frags.filter (fun (f : FragRecord) => f.key != key) ++ [r], mt.nextFrag := s.mt.nextFrag + 1 }
    let free := s1.mt.fragWait.filter (fun i => (s1.packet i).elim false (fun w => fragKey w == key))
    free.foldl (fun s i => takeRecord r i s)
      { s1.bump32 Addr.FRAG_STORED with mt.fragWait := s1.mt.fragWait.filter (fun i => !free.contains i) }

/-- FRAG_LOOKUP (R134): a later fragment, next of its group, takes a first-pass slot of stage 0 and looks up the fragment table. -/
def execFragLookup (t : Nat) (pkt : Checked Nat) (s : State) : Host.Outcome State Fault Refusal :=
  .next (match s.packet pkt.item with
    | none => s
    | some q =>
      if takesNew s q ∧ q.frag = 2 then
        if pkt.chk.bad then takeChecked q pkt.chk (advance t s) else
        let s1 := ((takeChecked q pkt.chk (advance t s)).bump64 (Addr.FIRST_LOOKUPS 0)).updPacket pkt.item
          (fun q => { q with tenant := q.desc.tenant, preStamp := false, at_ := .fragment })
        match s1.mt.frags.find? (fun (f : FragRecord) => f.key == fragKey q && decide (s1.now < f.used + us (s1.reg Addr.FRAG_LIFE))) with
        | some r => takeRecord r pkt.item s1
        | none =>
          if 4096 ≤ s1.mt.fragWait.length then takePortDefault pkt.item (s1.bump32 Addr.FRAG_TIMEOUTS)
          else { s1.updPacket pkt.item (fun q => { q with at_ := .fragWait, since := s1.now }) with mt.fragWait := s1.mt.fragWait ++ [pkt.item] }
      else s)

/-- FRAG_WAIT_TIMEOUT (R134). -/
def execFragWaitTimeout (t id : Nat) (s : State) : Host.Outcome State Fault Refusal :=
  .next (match s.packet id with
    | none => s
    | some q =>
      if q.at_ = .fragWait ∧ q.since + us (s.reg Addr.FRAG_WAIT) ≤ t then
        let s1 := advance t s
        takePortDefault id ({ s1 with mt.fragWait := s1.mt.fragWait.filter (· != id) }.bump32 Addr.FRAG_TIMEOUTS)
      else s)

/-- FRAG_RECORD_EXPIRE (R133). -/
def execFragRecordExpire (t record : Nat) (s : State) : Host.Outcome State Fault Refusal :=
  .next (if s.mt.frags.any (fun (f : FragRecord) => f.id == record && decide (f.used + us (s.reg Addr.FRAG_LIFE) ≤ t)) then
      { advance t s with mt.frags := s.mt.frags.filter (fun (f : FragRecord) => f.id != record) }
    else s)

/-- FRAG_FLUSH (R137, R351). -/
def cmdFragFlush : CmdFn := fun env p s =>
  if p.length ≠ 4 ∨ 1 < byteAt p 0 ∨ !zerosAt p 1 3 then refuse St.BAD_PARAM s
  else if byteAt p 0 = 1 then
    if env.owner then (ok, { s with mt.frags := [] }) else refuse St.NOT_PERMITTED s
  else (ok, { s with mt.frags := s.mt.frags.filter (fun (f : FragRecord) => f.tenant != env.tenant) })

/-! Step 9 -/

/-- Step 9 of a packet (R127): label, group, fragment record, exception or edits, then step 10. -/
def resolvePacket (q0 : Pkt) (s0 : State) : State :=
  let s1 := (match q0.result.label with
    | some l => setLabel q0 l s0
    | none => s0).updPacket q0.id (fun q => { q with result := { q.result with label := none } })
  -- a packet on its port default has no edits, and its label alone brought it here (R126, R136)
  if q0.viaDefault then s1.updPacket q0.id (fun q => { q with at_ := .admission, since := s0.zc }) else
  let q := resolveGroup s1 q0
  let r := editFrame s1 q
  let reason := match exceptionReason q with
    | some e => some e
    | none => if q.result.drop then none else r.2.1
  let s2 := if q.frag = 1 then recordFragment q reason s1 else s1
  match reason with
  | some e => toException q e (if (exceptionReason q).isSome then s2 else r.2.2.foldl (fun s n => s.bump32 (Addr.OPS_SUPPRESSED n)) s2)
  | none =>
    let s3 := r.2.2.foldl (fun s n => s.bump32 (Addr.OPS_SUPPRESSED n)) s2
    s3.updPacket q.id (fun _ => { q with bytes := r.1, at_ := .admission, since := s0.zc })

/-- ACTION_RESOLVE (R127). -/
def execActionResolve (t id : Nat) (s : State) : Host.Outcome State Fault Refusal :=
  .next (match s.packet id with
    | none => s
    | some q => if q.at_ = .resolve then resolvePacket q (advance t s) else s)

/-! Registers (R132, R135, R136, R140) -/

/-- A write of a word of EGROUP_g (R132). -/
def wrEgroup (g w v : Nat) (s : State) : Nat × State :=
  if w = 0 then (if v % 128 = 0 ∨ 64 < v % 128 then (St.BAD_PARAM, s) else (St.OK, setGroupReg (Addr.EGROUP g 0) (v % 128) s))
  else (St.OK, setGroupReg (Addr.EGROUP g w) (v &&& 0x3F3F3F3F) s)

/-- A write of a word of ENCAP_e (R128). -/
def wrEncap (e w v : Nat) (s : State) : Nat × State :=
  if w = 0 ∧ (v % 65536 = 0 ∨ 124 < v % 65536) then (St.BAD_PARAM, s) else (St.OK, s.setReg (Addr.ENCAP e w) v)

/-- A write of PORT_DEFAULT_L (R136): the reserved actions are refused (R10). -/
def wrPortDefault (L v : Nat) (s : State) : Nat × State :=
  if 1 < v % 4 then (St.BAD_PARAM, s) else (St.OK, s.setReg (Addr.PORT_DEFAULT L) (v &&& 0x0FFFFF07))

/-- The sum of the exception rates of the ports, with port `L`'s taken as `v`. -/
def portRateSum (s : State) (L v : Nat) : Nat :=
  ((List.range 64).map (fun j => if j = L then v else s.reg (Addr.EXC_PORT_RATE j))).foldl (· + ·) 0

/-- A write of EXC_RATE (R135, R140). -/
def wrExcRate (v0 : Nat) (s : State) : Nat × State :=
  let v := v0 % 2 ^ 24
  if 8000000 < v ∨ v < portRateSum s 64 0 then (St.BAD_PARAM, s) else (St.OK, (refillExceptions s).setReg Addr.EXC_RATE v)

/-- A write of EXC_PORT_RATE_L (R135). -/
def wrExcPortRate (L v0 : Nat) (s : State) : Nat × State :=
  let v := v0 % 2 ^ 24
  if s.reg Addr.EXC_RATE < portRateSum s L v then (St.BAD_PARAM, s) else (St.OK, (refillExceptions s).setReg (Addr.EXC_PORT_RATE L) v)

/-- A write of EXC_BURST (R140): each bucket keeps what it holds, up to its new depth. -/
def wrExcBurst (v0 : Nat) (s : State) : Nat × State :=
  let v := v0 % 2 ^ 16
  if v = 0 then (St.BAD_PARAM, s)
  else
    let s1 := refillExceptions s
    let old := s.reg Addr.EXC_BURST * exceptionUnit
    (St.OK, (List.range 64).foldl (fun s L =>
      let b := tabGet (0, 0) L s.mt.bucket
      let short := v * exceptionUnit - (old - b.1)
      { s with mt.bucket := tabSet (0, 0) L (if short = 0 then (0, 0) else (short, s.now)) s.mt.bucket }) (s1.setReg Addr.EXC_BURST v))

end Sys2Proof.Machine
end

