-- ==== Sys2Proof/Machine/Trace.lean ====
section
/-!
DEFINITION. The stipple rings of a trace session (R429 to R434): writing a record, the buffer modes, losses, and triggers.
Log 38 names what the manual leaves open here.
-/
namespace Sys2Proof.Machine

/-! Event opcodes of the chapter (R442). -/
def evFreezeDone : Nat := 0xFF90
def evTraceTriggered : Nat := 0xFF91
def evTraceStopped : Nat := 0xFF92
def evTraceGap : Nat := 0xFF93
def evSwatchBound : Nat := 0xFF94
def evDumpDone : Nat := 0xFF95
def evDumpFailed : Nat := 0xFF96
def evHangSuspect : Nat := 0xFF97

/-- MODE of the session: 0 CONTINUOUS, 1 FILL, 2 TRIGGER (R431). -/
def State.traceMode (s : State) : Nat := s.field Addr.TRACE_CTRL 0 2

/-- Records of a ring's spill share (R431): a quarter of TRACE_LEN MiB. -/
def State.spillRecords (s : State) : Nat := s.reg Addr.TRACE_LEN * 1048576 / 4 / 32

/-- The capacity C of a ring (R431). -/
def State.ringCapacity (s : State) : Nat := 131072 + s.spillRecords

/-- The ring of a die. -/
def State.ring (s : State) (d : Nat) : StippleRing := tabGet default d s.obs.rings

/-- `s` with the ring of a die set. -/
def State.setRing (s : State) (d : Nat) (r : StippleRing) : State := { s with obs.rings := tabSet default d r s.obs.rings }

/-- The memory a session spills as: the owner's for an owner session, else the tenant's (R430). -/
def TraceSession.memTenant (x : TraceSession) : Nat := x.tenant

/-- A record that lies in the spill share is written to HBM (R431): share d of TRACE_BASE, at its place in the ring. -/
def spill (d seq : Nat) (w : W256) (x : TraceSession) (s : State) : State :=
  let i := seq % s.ringCapacity
  if i < 131072 then s
  else s.storeBytes x.memTenant (s.reg Addr.TRACE_BASE + d * (32 * s.spillRecords) + 32 * (i - 131072)) (toLE 32 w.toNat)

/-- The room of a ring for the records before a trigger (R431). -/
def State.ringRoom (s : State) : Nat := if s.traceMode = 2 then s.ringCapacity - s.reg Addr.POST_COUNT else s.ringCapacity

/-- A ring stops recording; once every ring has, so has the session (R431). -/
def stopRing (d : Nat) (x : TraceSession) (s : State) : State :=
  let s1 := s.setRing d { s.ring d with stopped := true }
  if s1.traceMode = 1 ∨ (List.range 4).all (fun i => (s1.ring i).stopped || (s1.ring i).post.isNone) then
    (s1.setFlag Addr.TRACE_CTRL 4 true).raiseEvent evTraceStopped x.tenant [d]
  else s1

/-- The records of a ring's on-die store that are still to be spilled (R431): 8 leave it on each beat. -/
def State.backlog (s : State) (r : StippleRing) : Nat := r.behind - 8 * (s.zc - r.behindZc)

/-- A record is appended to a die's ring (R431, R432): the oldest one gives way where the mode keeps the latest. -/
def appendRecord (d : Nat) (w : W256) (s : State) : State :=
  match s.obs.trace with
  | none => s
  | some x =>
    let r0 := s.ring d
    let r : StippleRing := { r0 with behind := s.backlog r0 + 1, behindZc := s.zc }
    if s.flag Addr.TRACE_CTRL 4 ∨ r.stopped then s
    else
      let seq := r.first + r.recs.length
      let s1 := (spill d seq w x s).bump32 (Addr.RING_WRITTEN d)
      match r.post with
      | some n =>
        let s2 := s1.setRing d { r with recs := r.recs ++ [w], post := some (n - 1) }
        if n ≤ 1 then stopRing d x s2 else s2
      | none =>
        if r.recs.length < s.ringRoom then
          let s2 := s1.setRing d { r with recs := r.recs ++ [w] }
          if s.traceMode = 1 ∧ r.recs.length + 1 = s.ringCapacity then stopRing d x s2 else s2
        else
          let oldest := (r.recs.head?.map BitVec.toNat).getD 0
          let s2 := (s1.setRing d { r with recs := r.recs.tail ++ [w], first := r.first + 1, excess := r.excess + 1,
                                           overAt := if r.excess = 0 then bits oldest 4 144 else r.overAt }).bump32 (Addr.LOST d)
          s2.coalesceEvent evTraceGap x.tenant d (ms 1) [d, 1]

/-- A record that finds the on-die store full because the spill is behind is dropped (R432). -/
def dropRecord (d : Nat) (w : W256) (s : State) : State :=
  match s.obs.trace with
  | none => s
  | some x =>
    let r := s.ring d
    let r' : StippleRing := { r with dropped := r.dropped + 1, dropAt := if r.dropped = 0 then bits w.toNat 4 144 else r.dropAt }
    ((s.setRing d r').bump32 (Addr.LOST d)).coalesceEvent evTraceGap x.tenant d (ms 1) [d, 1]

/-- A record that a die's ring accepts, behind a GAP record for those dropped before it (R432). -/
def acceptRecord (d : Nat) (w : W256) (s : State) : State :=
  let r := s.ring d
  if r.dropped = 0 then appendRecord d w s
  else appendRecord d w (appendRecord d (traceRecord 6 (r.dropAt % 2 ^ 80) (r.dropAt / 2 ^ 80) 0 (r.dropped % 2 ^ 32)) (s.setRing d { r with dropped := 0 }))

/-- A sample for a die's ring (R431, R432): dropped, or accepted. -/
def writeRecord (d : Nat) (w : W256) (s : State) : State :=
  let r := s.ring d
  if s.spillRecords ≠ 0 ∧ 131072 ≤ s.backlog r ∧ !s.flag Addr.TRACE_CTRL 4 ∧ !r.stopped then dropRecord d w s else acceptRecord d w s

/-- A SEND or RECV record (R434): kind 3 or 4, the peer device, and the packet's fields. -/
def fabricRecord (kind peer port vc seq tenant xfer ty : Nat) (s : State) : State :=
  if s.samplesFabric tenant seq then
    writeRecord (portDie port) (s.fabricWord kind peer port vc seq tenant xfer ty) s
  else s

/-- An armed cause of the open session is met (R433). -/
def traceCause (cause : Nat) (s : State) : State :=
  match s.obs.trace with
  | some x => { s with obs.trace := some { x with met := x.met ||| 2 ^ (cause - 1) } }
  | none => s

/-- The open session fires (R431, R433): each ring takes a TRIG record and then POST further ones. -/
def fireTrigger (cause origin detail stamp zc : Nat) (s : State) : State :=
  match s.obs.trace with
  | none => s
  | some x =>
    let rec' := traceRecord 5 stamp zc regionRoot (cause + origin % 2 ^ 13 * 2 ^ 8 + detail % 2 ^ 32 * 2 ^ 21)
    let s1 := (List.range 4).foldl (fun s d =>
      let s := acceptRecord d rec' s
      s.setRing d { s.ring d with post := some (s.reg Addr.POST_COUNT) }) s
    let s2 := ((s1.setFlag Addr.TRACE_CTRL 3 true).setReg Addr.TRIG_ZC zc).setReg Addr.TRIG_CAUSE (cause + origin % 2 ^ 13 * 2 ^ 8)
    s2.raiseEvent evTraceTriggered x.tenant [cause, origin, detail]

end Sys2Proof.Machine
end

