-- ==== Sys2Proof/Machine/Link.lean ====
section
/-!
DEFINITION. What the fabric's senders call (R306 to R313): packets and their trace records, control messages, duplicates, and ports
going down and coming up. Logs 19 and 47 name what the manual leaves open here.
-/
namespace Sys2Proof.Machine

/-- The SEND records of the packets that have left go into their rings (R434). -/
def noteSends (s : State) : State := s.obs.sends.foldl (fun s r => writeRecord r.1 r.2 s) { s with obs.sends := [] }

/-- A packet is sent, or held until its port, route or credit allows it (R307, R312). -/
def dispatch (k : FabPkt) (s : State) : State := noteSends (route k s)

/-- The packets held are tried again, oldest first. -/
def retryHeld (s : State) : State := noteSends (routeHeld s)

/-- This device sends a packet with the next SEQ of its channel (R306). -/
def sendPacket (h : Header) (data : List W256) (s : State) : State := noteSends (sendRaw h data s)

/-- What a CTRL message says (R53, R325, R388): its kind, the numbers it carries following. -/
inductive CtrlKind where
  /-- ARRIVE: job, B, t_arrive. -/
  | arrive
  /-- RESUME: job, B, T. -/
  | resume
  /-- CKPT_DONE: job, barrier. -/
  | ckptDone
  /-- RESTART: job, barrier. -/
  | restart
  /-- The trigger of a trace session: cause, origin, detail, time, count (R433). -/
  | trigger
  /-- A member's calm needs: bulk, copy, fabric (R411). -/
  | calmNeed
  /-- A committed record of the log: index, term, type, body (R323). -/
  | record
  /-- LEASE: term, renewal (R321). -/
  | lease
  /-- A follower's acknowledgement of a renewal: term, renewal (R321). -/
  | leaseAck
  /-- The manager's time, and the delay of the links to the member, in sixteenths of a nanosecond (R52). -/
  | time
  /-- A measurement of the delay of the links: the manager's time as it asks (R52). -/
  | delayAsk
  /-- Its answer: the same time (R52). -/
  | delayAnswer
  /-- TRACE_ARM of a session with GROUP: its tenant, then the bytes of its parameters (R433). -/
  | traceArm
  /-- The length of a follower's committed log (R322). -/
  | logLength
  /-- A record that a follower is to store before it commits: index, term, type, body (R323). -/
  | store
  /-- A follower has stored it: index (R323). -/
  | stored
deriving DecidableEq, Repr

/-- The number of a CTRL message, as `Config.ctrlMessage` and `Config.ctrlData` take it (log 19). -/
def CtrlKind.code : CtrlKind → Nat
  | .arrive => 0
  | .resume => 1
  | .ckptDone => 2
  | .restart => 3
  | .trigger => 4
  | .calmNeed => 5
  | .record => 6
  | .lease => 7
  | .leaseAck => 8
  | .time => 9
  | .delayAsk => 10
  | .delayAnswer => 11
  | .traceArm => 12
  | .logLength => 13
  | .store => 14
  | .stored => 15

/-- Every member of the group but this one. -/
def allMembers : Nat := 0xFFFF

/-- A message to a member, or to every other live member, on virtual channel 3 (R305). The bytes of a CTRL packet are free (log 19). -/
def sendCtrl (k : CtrlKind) (dst : Nat) (args : List Nat) (s : State) : State :=
  (if dst = allMembers then s.group.live.filter (· != s.member) else [dst]).foldl (fun s m =>
    sendPacket { ty := tyCtrl, vc := 3, dst := 64 * s.groupNum + m, src := s.device } ((wordsOf (Config.ctrlData k.code args)).take 4095) s) s

/-! Roles (R321) and the log (R323) -/

/-- The live members of MGR_ORDER in its order. -/
def State.liveOrder (s : State) : List Nat := s.group.order.filter (fun m => s.group.live.contains m)

/-- The followers of manager `m`: the next two live members of MGR_ORDER after it, going round to its start. -/
def State.followersOf (s : State) (m : Nat) : List Nat :=
  let l := s.liveOrder
  let i := l.idxOf m
  ((l.drop (i + 1) ++ l.take i).filter (· != m)).take 2

/-- The manager member of MANAGER. -/
def State.manager (s : State) : Nat := s.field Addr.MANAGER 0 6

/-- A record is appended to the manager's log and sent to its followers, to be committed once they have stored it (R323). -/
def appendLog (kind : Nat) (body : List Nat) (s : State) : State :=
  let index := s.reg Addr.LOG_INDEX + s.group.pendingLog.length + 1
  (s.followersOf s.member).foldl (fun s m => sendCtrl .store m (index :: s.reg Addr.TERM :: kind :: body) s)
    { s with group.pendingLog := s.group.pendingLog ++ [⟨index, s.reg Addr.TERM, kind, body⟩] }

/-- A decision of this member for the log (R323): the manager appends it, and any other member sends it to the manager. -/
def logDecision (kind : Nat) (body : List Nat) (s : State) : State :=
  if s.isManager then appendLog kind body s
  else if s.joined then sendCtrl .record s.manager (0 :: 0 :: kind :: body) s
  else s

/-- The SEQ the next packet of a channel takes. -/
def State.nextSeq (s : State) (vc : Nat) : Nat := tabGet 0 vc s.fabric.seq

/-- Whether a packet's SEQ is new to this device for its source and channel (R313): it is missing from the window of the last 64 accepted;
and the window after it. -/
def acceptSeq (win : List Nat) (seq : Nat) : Option (List Nat) :=
  if win.contains seq then none else some ((seq :: win).take 64)

/-! Ports going down and coming up (R303, R312) -/

def evFabricPortDown : Nat := 0xFF60
def evFabricPortUp : Nat := 0xFF61

/-- A port goes down for a cause (R303): its partner's credits lapse, and every packet sent by it and not acknowledged goes
again on the new route in its original order (R312), CREDIT packets of the port apart (log 47). -/
def portDown (p cause : Nat) (s : State) : State :=
  let was := s.portUp p
  let old := ((tabGet [] p s.fabric.unacked).map Prod.snd).filter (fun k => bits k.hdr 0 4 != tyCredit)
  let s1 := ((s.setFlag (Addr.FP_STATUS p) 8 false).setField (Addr.FP_STATUS p) 9 4 cause)
  let s2 := { s1 with fabric := { s1.fabric with
    unacked := tabErase p s1.fabric.unacked
    credit := s1.fabric.credit.filter (fun c => c.1 / 32 != p)
    granted := s1.fabric.granted.filter (fun c => c.1 / 32 != p)
    stuck := tabErase p s1.fabric.stuck, acked := tabErase p s1.fabric.acked, rxNext := tabErase p s1.fabric.rxNext
    flits := tabErase p s1.fabric.flits
    held := old ++ s1.fabric.held } }
  let s3 := if was then s2.raiseEvent evFabricPortDown owner [p, cause, s.reg (Addr.PARTNER p)] else s2
  retryHeld s3

/-- The packets held in the receive FIFO of a port and channel. -/
def State.rxHeld (s : State) (p vc : Nat) : List FabPkt := s.fabric.held.filter (fun k => k.from_ == some p && k.vc == vc && !k.paid)

/-- The room of a class partition of a port (R307): CREDIT_ALLOT × 8 flits, less what it holds. -/
def State.partitionRoom (s : State) (p vc cls : Nat) : Nat :=
  8 * bits (s.reg (Addr.CREDIT_ALLOT p)) (8 * vc) 8 - (((s.rxHeld p vc).filter (fun k => k.cls == cls)).map FabPkt.flits).foldl (· + ·) 0

/-- The CREDIT packets that open a port (R307): the room of each class, at most 255 to a field. -/
def openCredits (p : Nat) (s : State) : State :=
  let room := (List.range 32).map (fun i => s.partitionRoom p (i / 8) (i % 8))
  let s1 := (List.range 32).foldl (fun s i => { s with fabric.granted := tabSet 0 (p * 32 + i) (room.getD i 0) s.fabric.granted }) s
  noteSends ((List.range 9).foldl (fun s n =>
    let f := room.map (fun r => min 255 (r - 255 * n))
    if f.all (· == 0) then s else sendCredit p f s) s1)

/-- A port comes up (R303). -/
def portTrained (p device partner : Nat) (s : State) : State :=
  let s1 := ((s.setField (Addr.FP_STATUS p) 9 4 0).setFlag (Addr.FP_STATUS p) 8 true).setReg (Addr.PARTNER p) (device % 8192 + partner % 32 * 8192 + 2 ^ 18)
  retryHeld ((openCredits p s1).raiseEvent evFabricPortUp owner [p, 0, s1.reg (Addr.PARTNER p)])

end Sys2Proof.Machine
end

