-- ==== Sys2Proof/Machine/Num.lean ====
section
/-!
DEFINITION. Number formats, rounding, accumulation, scales and statistics (R164 to R192). Every value is exact (a sign and a
quotient of natural numbers) until the one rounding its rule names. Log 37 names what the manual leaves open here.
-/
namespace Sys2Proof.Machine

/-- An exact value: a finite one is ± n ÷ d with d not 0. -/
inductive Num where
  | fin (neg : Bool) (n d : Nat)
  | inf (neg : Bool)
  | nan (neg : Bool)
deriving DecidableEq, Repr, Inhabited

/-- A float format (R165): exponent and mantissa bits, bias, code of the largest finite value, whether it has infinities,
the first NaN code and the canonical NaN, 0 for none. -/
structure FloatFmt where
  e : Nat
  m : Nat
  bias : Nat
  maxCode : Nat
  hasInf : Bool
  firstNan : Nat
  canonNan : Nat
deriving DecidableEq, Repr

/-- The float formats by code (R164, R165). -/
def floatFmt (code : Nat) : Option FloatFmt :=
  match code with
  | 0 => some ⟨8, 23, 127, 0x7F7FFFFF, true, 0x7F800001, 0x7FC00000⟩
  | 1 => some ⟨5, 10, 15, 0x7BFF, true, 0x7C01, 0x7E00⟩
  | 2 => some ⟨8, 7, 127, 0x7F7F, true, 0x7F81, 0x7FC0⟩
  | 3 => some ⟨4, 3, 7, 0x7E, false, 0x7F, 0x7F⟩
  | 4 => some ⟨5, 2, 15, 0x7B, true, 0x7D, 0x7E⟩
  | 5 => some ⟨3, 2, 3, 0x1F, false, 0, 0⟩
  | 6 => some ⟨2, 3, 1, 0x1F, false, 0, 0⟩
  | 7 => some ⟨2, 1, 1, 0x7, false, 0, 0⟩
  | _ => none

/-- The integer formats by code: width and whether signed (R166); TERN2 is 0xE. -/
def intFmt (code : Nat) : Option (Nat × Bool) :=
  match code with
  | 8 => some (32, true)
  | 9 => some (16, true)
  | 10 => some (8, true)
  | 11 => some (8, false)
  | 12 => some (4, true)
  | 13 => some (4, false)
  | _ => none

/-- Bits of an element of a format (R164). -/
def fmtWidth (code : Nat) : Nat := [32, 16, 16, 8, 8, 6, 6, 4, 32, 16, 8, 8, 4, 4, 2].getD code 0

/-- The sign bit's weight of a float format. -/
def FloatFmt.signAt (f : FloatFmt) : Nat := 2 ^ (f.e + f.m)

/-- The magnitude of a finite code without its sign, as a quotient (R165). -/
def FloatFmt.magnitude (f : FloatFmt) (c : Nat) : Nat × Nat :=
  let ex := c / 2 ^ f.m
  let man := c % 2 ^ f.m
  let sig := if ex = 0 then man else man + 2 ^ f.m
  let p := max ex 1
  -- sig × 2^(p − bias − m)
  if f.bias + f.m ≤ p then (sig * 2 ^ (p - (f.bias + f.m)), 1) else (sig, 2 ^ (f.bias + f.m - p))

/-- The value of a float code (R165, R167). -/
def FloatFmt.value (f : FloatFmt) (code : Nat) : Num :=
  let neg := f.signAt ≤ code % (2 * f.signAt)
  let c := code % f.signAt
  if c ≤ f.maxCode then let q := f.magnitude c; .fin neg q.1 q.2
  else if f.hasInf && c == f.maxCode + 1 then .inf neg else .nan neg

/-- The value of a code of any format; the TERN2 code 0b10 reads as 0 (R167). -/
def valueOf (fmt code : Nat) : Num :=
  match floatFmt fmt with
  | some f => f.value code
  | none => match intFmt fmt with
    | some (w, sg) =>
      let i := if sg then signed w code else ((code % 2 ^ w : Nat) : Int)
      .fin (decide (i < 0)) i.natAbs 1
    | none => if code % 4 = 1 then .fin false 1 1 else if code % 4 = 3 then .fin true 1 1 else .fin false 0 1

/-- ⌊log2 (n ÷ d)⌋ for positive n and d. -/
def floorLog2 (n d : Nat) : Int :=
  let k : Int := (Nat.log2 n : Int) - (Nat.log2 d : Int)
  if 0 ≤ k then (if n < d * 2 ^ k.toNat then k - 1 else k) else (if n * 2 ^ (-k).toNat < d then k - 1 else k)

/-- n ÷ d rounded to the nearest natural number, ties to even (R173). -/
def roundEven (n d : Nat) : Nat :=
  let q := n / d
  let r := n % d
  if 2 * r < d then q else if d < 2 * r then q + 1 else q + q % 2

/-- n ÷ d × 2^k as a quotient. -/
def scalePow (n d : Nat) (k : Int) : Nat × Nat := if 0 ≤ k then (n * 2 ^ k.toNat, d) else (n, d * 2 ^ (-k).toNat)

/-- The exponent whose unit in the last place a magnitude is rounded to, at least that of subnormals. -/
def FloatFmt.exponentOf (f : FloatFmt) (n d : Nat) : Int := max (floorLog2 n d) (1 - (f.bias : Int))

/-- The code, without sign, that a whole number of units in the last place of exponent `ex` stands for. -/
def FloatFmt.codeAt (f : FloatFmt) (ex : Int) (units : Nat) : Nat := ((ex + f.bias - 1) * 2 ^ f.m + units).toNat

/-- The nearest code of a magnitude, ties to even (R173). -/
def FloatFmt.nearest (f : FloatFmt) (n d : Nat) : Nat :=
  if n = 0 then 0
  else
    let ex := f.exponentOf n d
    let s := scalePow n d ((f.m : Int) - ex)
    f.codeAt ex (roundEven s.1 s.2)

/-- The overflow threshold (R165): the largest finite magnitude plus half a unit in the last place of the top binade. -/
def FloatFmt.threshold (f : FloatFmt) : Nat × Nat :=
  let a := f.magnitude f.maxCode
  let u := scalePow 1 2 ((f.maxCode / 2 ^ f.m : Nat) - (f.bias : Int) - f.m)
  (a.1 * u.2 + u.1 * a.2, a.2 * u.2)

/-- Whether a ÷ b ≤ c ÷ d. -/
def leQ (a b c d : Nat) : Bool := decide (a * d ≤ c * b)

/-- A conversion's outcome: the code, and what it counts (R174, R175). -/
structure Conv where
  code : Nat
  sat : Nat := 0
  nanConv : Nat := 0
deriving DecidableEq, Repr

/-- The limits of an integer format or TERN2 (R166). -/
def intLimits (fmt : Nat) : Int × Int :=
  match intFmt fmt with
  | some (w, true) => (-((2 ^ (w - 1) : Nat) : Int), ((2 ^ (w - 1) : Nat) : Int) - 1)
  | some (w, false) => (0, ((2 ^ w : Nat) : Int) - 1)
  | none => (-1, 1)

/-- Whether ± n ÷ d is at or beyond an overflow threshold of an integer format (R166, R174). -/
def intOverflows (fmt : Nat) (neg : Bool) (n d : Nat) : Bool :=
  let lim := intLimits fmt
  if neg then decide ((1 - 2 * lim.1) * (d : Int) ≤ 2 * (n : Int)) else decide ((2 * lim.2 + 1) * (d : Int) ≤ 2 * (n : Int))

/-- The code of an integer value in an integer format or TERN2. -/
def intCode (fmt : Nat) (i : Int) : Nat := unsigned (fmtWidth fmt) i

/-- The sign bit of a float code. -/
def FloatFmt.withSign (f : FloatFmt) (neg : Bool) (c : Nat) : Nat := c + b2n neg * f.signAt

/-- The conversion of an overflow or infinity into a float format (R174, R175). -/
def FloatFmt.overflowCode (f : FloatFmt) (ieee neg : Bool) : Nat :=
  f.withSign neg (if ieee && f.hasInf then f.maxCode + 1 else f.maxCode)

/-- Special sources of a conversion (R175): `z` is the code of zero. -/
def convSpecial (fmt : Nat) (ieee : Bool) (z : Nat) (v : Num) : Option Conv :=
  match floatFmt fmt, v with
  | some f, .inf neg => some (if ieee then ⟨f.withSign neg (f.maxCode + 1), 0, 0⟩ else ⟨f.overflowCode false neg, 1, 0⟩)
  | some f, .nan neg => some (if f.canonNan = 0 then ⟨0, 0, 1⟩ else ⟨f.withSign neg f.canonNan, 0, 0⟩)
  | none, .inf neg => some ⟨intCode fmt (if neg then (intLimits fmt).1 else (intLimits fmt).2), 1, 0⟩
  | none, .nan _ => some ⟨z, 0, 1⟩
  | _, .fin _ _ _ => none

/-- A conversion that overflows (R174), none where it does not. -/
def convOverflow (fmt : Nat) (ieee neg : Bool) (n d : Nat) : Option Conv :=
  match floatFmt fmt with
  | some f => let t := f.threshold; if leQ t.1 t.2 n d then some ⟨f.overflowCode ieee neg, 1, 0⟩ else none
  | none => if intOverflows fmt neg n d then some ⟨intCode fmt (if neg then (intLimits fmt).1 else (intLimits fmt).2), 1, 0⟩ else none

/-- Conversion to a format by R173 to R175: to nearest, ties to even. -/
def convert (fmt : Nat) (ieee : Bool) (z : Nat) (v : Num) : Conv :=
  match convSpecial fmt ieee z v with
  | some c => c
  | none => match v with
    | .fin neg n d =>
      match convOverflow fmt ieee neg n d with
      | some c => c
      | none => match floatFmt fmt with
        | some f => ⟨f.withSign neg (f.nearest n d), 0, 0⟩
        | none => ⟨intCode fmt (if neg then -(roundEven n d : Int) else roundEven n d), 0, 0⟩
    | _ => ⟨0, 0, 0⟩

/-- The mixing function of R177. -/
def mix (z0 : Nat) : Nat :=
  let z1 := (z0 ^^^ (z0 / 2 ^ 30)) * 0xBF58476D1CE4E5B9 % 2 ^ 64
  let z2 := (z1 ^^^ (z1 / 2 ^ 27)) * 0x94D049BB133111EB % 2 ^ 64
  z2 ^^^ (z2 / 2 ^ 31)

/-- The 16 random bits of element `i` of a tile (R177). -/
def stochBits (job step row col i : Nat) : Nat :=
  let key := mix (mix (mix (job % 2 ^ 64) ^^^ (step % 2 ^ 64)) ^^^ (row % 2 ^ 32 * 2 ^ 32 + col % 2 ^ 32))
  mix ((key + (i + 1) * 0x9E3779B97F4A7C15) % 2 ^ 64) / 2 ^ 48

/-- The stochastic choice between floor units `q` and `q + 1` of a magnitude with remainder r ÷ d of a unit (R178). -/
def stochUnits (neg : Bool) (u q r d : Nat) : Nat :=
  if r = 0 then q
  else
    let frac := if neg then 65536 * (d - r) / d else 65536 * r / d
    -- for a negative value the code above is the smaller magnitude
    if u < frac then (if neg then q else q + 1) else (if neg then q + 1 else q)

/-- Stochastic conversion (R178). -/
def convertStoch (fmt : Nat) (ieee : Bool) (z u : Nat) (v : Num) : Conv :=
  match v with
  | .fin neg n d =>
    match convOverflow fmt ieee neg n d with
    | some c => c
    | none => match floatFmt fmt with
      | some f =>
        if n = 0 then ⟨f.withSign neg 0, 0, 0⟩
        else
          let ex := f.exponentOf n d
          let s := scalePow n d ((f.m : Int) - ex)
          let c := f.codeAt ex (stochUnits neg u (s.1 / s.2) (s.1 % s.2) s.2)
          ⟨f.withSign neg (min c f.maxCode), 0, 0⟩
      | none =>
        let k : Int := stochUnits neg u (n / d) (n % d) d
        let i := if neg then -k else k
        ⟨intCode fmt (max (intLimits fmt).1 (min (intLimits fmt).2 i)), 0, 0⟩
  | _ => convert fmt ieee z v

/-! FP32 arithmetic (R167, R172) -/

/-- The value of an FP32 code. -/
def fp32 (c : Nat) : Num := valueOf 0 c
/-- An exact value rounded to FP32 under IEEE 754 (R172, R173); a NaN is the canonical one with sign 0 (R167). -/
def toFp32 (v : Num) : Nat :=
  match v with
  | .nan _ => 0x7FC00000
  | v => (convert 0 true 0 v).code

/-- An exact value widened to FP32, a conversion (R172, R175): a NaN keeps its sign. -/
def widen (v : Num) : Nat :=
  match v with
  | .nan neg => 0x7FC00000 + b2n neg * 2 ^ 31
  | v => toFp32 v

/-- Negation. -/
def Num.negate : Num → Num
  | .fin s n d => .fin (!s) n d
  | .inf s => .inf (!s)
  | .nan s => .nan s

/-- The exact sum of two values; opposite infinities give NaN, and an exact zero is +0 unless both are −0. -/
def Num.add (a b : Num) : Num :=
  match a, b with
  | .nan _, _ => .nan false
  | _, .nan _ => .nan false
  | .inf s, .inf t => if s = t then .inf s else .nan false
  | .inf s, _ => .inf s
  | _, .inf t => .inf t
  | .fin s n d, .fin t m e =>
    if s = t then .fin s (n * e + m * d) (d * e)
    else if n * e = m * d then .fin false 0 1
    else if m * d < n * e then .fin s (n * e - m * d) (d * e) else .fin t (m * d - n * e) (d * e)

/-- The exact product of two values. -/
def Num.mul (a b : Num) : Num :=
  match a, b with
  | .nan _, _ => .nan false
  | _, .nan _ => .nan false
  | .inf s, .inf t => .inf (s != t)
  | .inf s, .fin t m _ => if m = 0 then .nan false else .inf (s != t)
  | .fin s n _, .inf t => if n = 0 then .nan false else .inf (s != t)
  | .fin s n d, .fin t m e => .fin (s != t) (n * m) (d * e)

/-- The exact quotient of two values. -/
def Num.div (a b : Num) : Num :=
  match a, b with
  | .nan _, _ => .nan false
  | _, .nan _ => .nan false
  | .inf _, .inf _ => .nan false
  | .inf s, .fin t _ _ => .inf (s != t)
  | .fin s _ _, .inf t => .fin (s != t) 0 1
  | .fin s n d, .fin t m e => if m = 0 then (if n = 0 then .nan false else .inf (s != t)) else .fin (s != t) (n * e) (d * m)

/-- Whether a < b by value (R227, R228); a NaN is not less than anything. -/
def Num.lt (a b : Num) : Bool :=
  match a, b with
  | .nan _, _ => false
  | _, .nan _ => false
  | .inf s, .inf t => s && !t
  | .inf s, .fin _ _ _ => s
  | .fin _ _ _, .inf t => !t
  | .fin s n d, .fin t m e =>
    if s then (if t then decide (m * d < n * e) else decide (0 < n ∨ 0 < m)) else (if t then false else decide (n * e < m * d))

/-- Whether a value is a NaN. -/
def Num.isNan : Num → Bool
  | .nan _ => true
  | _ => false
/-- Whether a value is an infinity. -/
def Num.isInf : Num → Bool
  | .inf _ => true
  | _ => false

/-- FP32 addition, multiplication and division of codes, each rounded once (R172). -/
def addFp (a b : Nat) : Nat := toFp32 ((fp32 a).add (fp32 b))
def mulFp (a b : Nat) : Nat := toFp32 ((fp32 a).mul (fp32 b))
def divFp (a b : Nat) : Nat := toFp32 ((fp32 a).div (fp32 b))

/-! Accumulation (R169 to R171) -/

/-- Whether a GEMM operand pair is valid (R169). -/
def pairValid (act wgt : Nat) : Bool :=
  let narrow (c : Nat) : Bool := decide (3 ≤ c ∧ c ≤ 7)
  if narrow act then narrow wgt || wgt == 14
  else if act = 1 ∨ act = 2 then wgt == 1 || wgt == 2 || narrow wgt || wgt == 14
  else if act = 0 then wgt == 0
  else if 10 ≤ act ∧ act ≤ 13 then decide (10 ≤ wgt ∧ wgt ≤ 14)
  else if act = 9 then wgt == 9 || wgt == 10 || wgt == 14 else false

/-- Whether a pair accumulates in INT32 (R169). -/
def pairIsInt (act : Nat) : Bool := decide (9 ≤ act)

/-- The list cut in slices of 128 (R170). -/
def slices (n : Nat) (l : List α) : List (List α) := (List.range (ceilDiv n 128)).map (fun i => (l.drop (128 * i)).take 128)

/-- The pairwise tree of R170 over FP32 codes, level by level. -/
def pairTree : (fuel : Nat) → List Nat → Nat
  | 0, l => l.headD 0
  | n + 1, l =>
    if l.length ≤ 1 then l.headD 0
    else pairTree n ((List.range (l.length / 2)).map (fun j => addFp (l.getD (2 * j) 0) (l.getD (2 * j + 1) 0)))

/-- One slice of a float accumulation (R170): lanes beyond K are code 0 (R182). -/
def floatSlice (act wgt : Nat) (xs : List (Nat × Nat)) : Nat :=
  let prods := xs.map (fun p => (valueOf act p.1).mul (valueOf wgt p.2))
  if fmtWidth act ≤ 8 ∧ fmtWidth wgt ≤ 8 then toFp32 (prods.foldl Num.add (.fin false 0 1))
  else pairTree 7 ((prods.map toFp32) ++ List.replicate (128 - xs.length) 0)

/-- The float accumulation of one element, with whether it overflowed (R170). -/
def floatAcc (act wgt : Nat) (xs : List (Nat × Nat)) : Nat × Bool :=
  (slices xs.length xs).foldl (fun (a : Nat × Bool) sl =>
    let p := floatSlice act wgt sl
    let r := addFp a.1 p
    (r, a.2 || ((fp32 r).isInf && !(fp32 a.1).isInf && !(fp32 p).isInf))) (0, false)

/-- The integer value of a code. -/
def intValue (fmt code : Nat) : Int :=
  match valueOf fmt code with
  | .fin s n _ => if s then -(n : Int) else n
  | _ => 0

/-- The integer accumulation of one element, sticky once saturated, with whether it saturated (R171). -/
def intAcc (act wgt : Nat) (xs : List (Nat × Nat)) : Int × Bool :=
  (slices xs.length xs).foldl (fun (a : Int × Bool) sl =>
    if a.2 then a
    else
      let r := a.1 + (sl.map (fun p => intValue act p.1 * intValue wgt p.2)).foldl (· + ·) 0
      if 2147483647 < r then (2147483647, true) else if r < -2147483648 then (-2147483648, true) else (r, false)) (0, false)

/-- One GEMM output element (R182): operand formats, the codes of a row and a column over the K real lanes, zero points,
FP32 scale codes and bias code (none for no bias), INT32 for an integer pair and FP32 for another (R169). -/
structure Gemm where
  act : Nat
  wgt : Nat
  lanes : List (Nat × Nat)
  za : Int := 0
  zw : Int := 0
  sa : Nat := 0x3F800000
  sw : Nat := 0x3F800000
  bias : Option Nat := none
deriving DecidableEq, Repr

/-- T of R182, exact, as a value, with whether the accumulator overflowed. -/
def gemmT (g : Gemm) : Num × Bool :=
  if pairIsInt g.act then
    let r := intAcc g.act g.wgt g.lanes
    let ra := (g.lanes.map (fun p => intValue g.act p.1)).foldl (· + ·) 0
    let cw := (g.lanes.map (fun p => intValue g.wgt p.2)).foldl (· + ·) 0
    let t := r.1 - g.zw * ra - g.za * cw + (g.lanes.length : Int) * g.za * g.zw
    (.fin (decide (t < 0)) t.natAbs 1, r.2)
  else let r := floatAcc g.act g.wgt g.lanes; (fp32 r.1, r.2)

/-- The accumulator of an element as its bank holds it (R170, R171): an INT32 or FP32 code. -/
def gemmAcc (g : Gemm) : Nat :=
  if pairIsInt g.act then unsigned 32 (intAcc g.act g.wgt g.lanes).1 else (floatAcc g.act g.wgt g.lanes).1

/-- The FP32 code of a bias: an INT32 one is widened by R173 (R169, R172). -/
def biasFp (act b : Nat) : Nat := if pairIsInt act then widen (valueOf 8 b) else b

/-- The output of R182 in FP32: each product and the bias addition rounded once. -/
def gemmOut (g : Gemm) : Nat × Bool :=
  let t := gemmT g
  let y := mulFp (toFp32 t.1) (mulFp g.sa g.sw)
  ((match g.bias with
    | some b => addFp y (biasFp g.act b)
    | none => y), t.2)

/-! Scales (R179 to R181) -/

/-- EMAX of a format (R180). -/
def emaxOf (fmt : Nat) : Int :=
  match fmt with
  | 1 => 15
  | 2 => 127
  | 3 => 8
  | 4 => 15
  | 5 => 4
  | 6 => 2
  | 7 => 2
  | 9 => 14
  | 10 => 6
  | 11 => 7
  | 12 => 2
  | 13 => 3
  | _ => 0

/-- The finite values of a row of FP32 codes. -/
def finites (row : List Nat) : List Num := (row.map fp32).filter (fun v => !v.isNan && !v.isInf)

/-- The larger of two magnitudes. -/
def maxMag (a b : Nat × Nat) : Nat × Nat := if leQ a.1 a.2 b.1 b.2 then b else a

/-- The E8M0 code of a SHIFT row (R180). -/
def shiftCode (fmt bias : Nat) (row : List Nat) : Nat :=
  let amax := (finites row).foldl (fun a v => match v with | .fin _ n d => maxMag a (n, d) | _ => a) (0, 1)
  let e : Int := if amax.1 = 0 then 0 else floorLog2 amax.1 amax.2 - emaxOf fmt + bias
  (max (-127) (min 127 e) + 127).toNat

/-- A value times 2^k. -/
def Num.shift (v : Num) (k : Int) : Num :=
  match v with
  | .fin s n d => let q := scalePow n d k; .fin s q.1 q.2
  | v => v

/-- The scale and zero point of an AFFINE row (R181). -/
def affineScale (fmt : Nat) (row : List Nat) : Nat × Int :=
  let lim := intLimits fmt
  let zero : Num := .fin false 0 1
  let lo := (finites row).foldl (fun a v => if v.lt a then v else a) zero
  let hi := (finites row).foldl (fun a v => if a.lt v then v else a) zero
  let span := lim.2 - lim.1
  let s0 := divFp (toFp32 (hi.add lo.negate)) (toFp32 (.fin false span.natAbs 1))
  let s := if s0 % 2 ^ 31 = 0 then 0x3F800000 else s0
  let r : Int := match fp32 (divFp (toFp32 lo) s) with
    | .fin sg n d => if sg then -(roundEven n d : Int) else roundEven n d
    | _ => 0
  (s, max lim.1 (min lim.2 (lim.1 - r)))

/-- The fields of a region descriptor (R188). -/
structure Region where
  region : Nat
  fmt : Nat
  kind : Nat
  stoch : Bool
  ieee : Bool
  cls : Nat
  static : Bool
  bias : Nat
  rowLen : Nat
  screedBuf : Nat
  drift : Nat
  window : Nat
  stats : Nat
deriving DecidableEq, Repr

/-- A region descriptor taken apart (R188). -/
def regionOfWord (w : Nat) : Region :=
  ⟨bits w 0 16, bits w 16 4, bits w 20 2, bitAt w 22, bitAt w 23, bits w 24 2, bitAt w 26, bits w 27 2, bits w 32 32, bits w 64 8,
    bits w 80 32, bits w 112 16, bits w 128 64⟩

/-- Whether JOB_START or MODEL_LOAD takes a region descriptor (R164, R176, R187, R189). -/
def regionValid (isInline : Bool) (w : Nat) : Bool :=
  let r := regionOfWord w
  bits w 29 3 == 0 && bits w 72 8 == 0 && bits w 192 64 == 0 && r.fmt != 15 && r.kind != 3 && decide (1 ≤ r.rowLen) &&
    !(r.kind == 2 && !(decide (10 ≤ r.fmt ∧ r.fmt ≤ 13))) && !(r.kind == 1 && (r.fmt == 0 || r.fmt == 8)) &&
    !(r.fmt == 8 && r.kind != 0) && !(r.stoch && (isInline || r.cls < 2)) && !(r.ieee && !(r.fmt ≤ 2 || r.fmt == 4)) &&
    !(r.kind == 2 && isInline) && (if r.kind = 0 then r.screedBuf == 0 else decide (1 ≤ r.screedBuf ∧ r.screedBuf ≤ 128)) &&
    r.window != 0

/-- What narrowing a row counts (R190). -/
structure RowStats where
  sat : Nat := 0
  nanConv : Nat := 0
  sqerr : Nat := 0
  sqsrc : Nat := 0
  elements : Nat := 0
deriving DecidableEq, Repr

/-- One element narrowed (R173 to R178), given the row's scale: its code and counts. -/
def narrowElement (r : Region) (e : Nat) (s : Nat) (z : Int) (u : Nat) (x : Nat) : Conv × Num :=
  let zc := if r.kind = 2 then intCode r.fmt z else 0
  let v : Num := if r.kind = 1 then (fp32 x).shift (127 - (e : Int))
    else if r.kind = 2 then
      match fp32 (divFp x s) with
      | .nan b => .nan b
      | q => q.add (.fin (decide (z < 0)) z.natAbs 1)
    else fp32 x
  let c := if r.stoch then convertStoch r.fmt r.ieee zc u v else convert r.fmt r.ieee zc v
  let back : Num := if r.kind = 1 then (valueOf r.fmt c.code).shift ((e : Int) - 127)
    else if r.kind = 2 then ((valueOf r.fmt c.code).add (.fin (decide (0 < z)) z.natAbs 1)).mul (fp32 s)
    else valueOf r.fmt c.code
  (c, back)

/-- A row of FP32 codes narrowed into a region (R180, R181, R190): codes, scale code, zero point and counts; `u` gives the
random bits of element i, and the counts go on from `st0`, the tile's rows before this one. -/
def narrowRow (r : Region) (u : Nat → Nat) (row : List Nat) (st0 : RowStats := {}) : List Nat × Nat × Int × RowStats :=
  let e := if r.kind = 1 then shiftCode r.fmt r.bias row else 127
  let a := if r.kind = 2 then affineScale r.fmt row else (0x3F800000, 0)
  let conv := (List.range row.length).map (fun i => (row.getD i 0, narrowElement r e a.1 a.2 (u i) (row.getD i 0)))
  let stats := conv.foldl (fun (st : RowStats) c =>
    let x := fp32 c.1
    let sq := if x.isNan || x.isInf then st else
      let d := toFp32 (x.add c.2.2.negate)
      { st with sqerr := addFp st.sqerr (mulFp d d), sqsrc := addFp st.sqsrc (mulFp c.1 c.1) }
    { sq with sat := sq.sat + c.2.1.sat, nanConv := sq.nanConv + c.2.1.nanConv, elements := sq.elements + 1 }) st0
  (conv.map (fun c => c.2.1.code), if r.kind = 1 then e else a.1, a.2, stats)

/-- Elements packed into bytes, `w` bits each, element 0 least significant (R168). -/
def packElements (w : Nat) (codes : List Nat) : Nat := codes.foldr (fun c a => c % 2 ^ w + 2 ^ w * a) 0

/-- The words of a row (R168): every row starts at a word boundary, or for FP6 at a group of three words. -/
def rowWords (fmt : Nat) (codes : List Nat) : List W256 :=
  let w := fmtWidth fmt
  let bitsAll := w * codes.length
  let unit := if w = 6 then 3 else 1
  let n := ceilDiv bitsAll (256 * unit) * unit
  let v := packElements w codes
  (List.range n).map (fun i => BitVec.ofNat 256 (v / 2 ^ (256 * i)))

/-- Invalid TERN2 codes read (R167). -/
def ternInvalid (codes : List Nat) : Nat := (codes.filter (fun c => c % 4 == 2)).length

/-! Screed blocks (R183, R184) -/

/-- The words of a screed block: header, scales and for AFFINE zero points. -/
def screedBlock (r : Region) (block : Nat) (rows : List (Nat × Int)) : List W256 :=
  let hd := block % 256 + r.kind * 2 ^ 8 + r.fmt * 2 ^ 10 + (rows.length - 1) % 32 * 2 ^ 14 + r.region * 2 ^ 19
  let nth (i : Nat) : Nat × Int := rows.getD i (0, 0)
  if r.kind = 1 then
    [BitVec.ofNat 256 hd, BitVec.ofNat 256 (packElements 8 (rows.map Prod.fst))]
  else
    [BitVec.ofNat 256 hd] ++ (List.range 4).map (fun j => BitVec.ofNat 256 (packElements 32 ((List.range 8).map (fun i => (nth (8 * j + i)).1)))) ++
      [BitVec.ofNat 256 (packElements 8 (rows.map (fun x => unsigned (fmtWidth r.fmt) x.2)))]

/-- Whether a consumer of data block `b` meets a screed skew (R185). -/
def screedSkew (r : Region) (b : Nat) (header : Nat) : Bool :=
  !(bits header 0 8 == b % 256 && bits header 19 16 == r.region && bits header 8 2 == r.kind && bits header 10 4 == r.fmt)

end Sys2Proof.Machine
end

