-- ==== Sys2Proof/Machine/Grid.lean ====
section
/-!
DEFINITION. Tree ensembles on the compare grid (R226 to R241): the grid image and its validation, the tests and the walk of
one rank, aggregation, and the verdict of an ensemble of several ranks.
-/
namespace Sys2Proof.Machine

/-! The grid image (R236) -/

/-- Bytes of a grid image: 3,592 words. -/
def gridBytes : Nat := 114944

/-- The ensemble header. -/
def gridHeader (g : Bytes) : Nat := le g 0 32
/-- AGG: 0 SUM, 1 VOTE. -/
def gridAgg (g : Bytes) : Nat := bits (gridHeader g) 0 2
/-- Outputs. -/
def gridNout (g : Bytes) : Nat := bits (gridHeader g) 2 3 + 1
/-- The verdict form (R235). -/
def gridForm (g : Bytes) : Nat := bits (gridHeader g) 5 2
/-- Cut points. -/
def gridNcut (g : Bytes) : Nat := bits (gridHeader g) 7 3
/-- This image's rank. -/
def gridRank (g : Bytes) : Nat := bits (gridHeader g) 10 4
/-- Ranks of the ensemble. -/
def gridRanks (g : Bytes) : Nat := bits (gridHeader g) 14 4 + 1
/-- Classes. -/
def gridNclass (g : Bytes) : Nat := bits (gridHeader g) 18 4 + 1
/-- Features. -/
def gridFeatures (g : Bytes) : Nat := bits (gridHeader g) 22 8 + 1
/-- BASE[o], an FP32 code. -/
def gridBase (g : Bytes) (o : Nat) : Nat := le g (32 + 4 * o) 4
/-- CUT[j], an FP32 code. -/
def gridCut (g : Bytes) (j : Nat) : Nat := le g (64 + 4 * j) 4
/-- DEPTH of tree t, 0 for an absent one. -/
def gridDepth (g : Bytes) (t : Nat) : Nat := byteAt g (96 + t) % 16
/-- OUTPUT of tree t. -/
def gridOutput (g : Bytes) (t : Nat) : Nat := byteAt g (96 + t) / 16 % 8
/-- The kind of feature f (R227): 0 UINT16, 1 INT16, 2 FP16, 3 BF16. -/
def gridKind (g : Bytes) (f : Nat) : Nat := byteAt g (160 + f / 4) / 4 ^ (f % 4) % 4
/-- The threshold of element p. -/
def gridThreshold (g : Bytes) (p : Nat) : Nat := le g (256 + 2 * p) 2
/-- The feature selector of element p. -/
def gridSelector (g : Bytes) (p : Nat) : Nat := byteAt g (33024 + p)
/-- Leaf entry i of the accumulator bank. -/
def gridLeaf (g : Bytes) (i : Nat) : Nat := le g (49408 + 4 * i) 4
/-- The present trees, ascending. -/
def gridTrees (g : Bytes) : List Nat := (List.range 64).filter (fun t => gridDepth g t != 0)

/-! Comparison (R227, R228) -/

/-- The value of 16 bits under a float kind. -/
def featureValue (kind v : Nat) : Num := valueOf (if kind = 2 then 1 else 2) v

/-- Whether a feature is a NaN of its kind. -/
def featureNan (kind x : Nat) : Bool := decide (2 ≤ kind) && (featureValue kind x).isNan

/-- x < v under a kind (R228). -/
def featureLess (kind x v : Nat) : Bool :=
  match kind with
  | 0 => decide (x < v)
  | 1 => decide (signed 16 x < signed 16 v)
  | k => (featureValue k x).lt (featureValue k v)

/-! The walk (R230, R231) -/

/-- The walk of tree `t` from node `n` through `d` more levels: the last node and the (feature, tree) of NaN tests on the
path. -/
def treeWalk (g : Bytes) (vec : List Nat) (t : Nat) : (d n : Nat) → Nat × List (Nat × Nat)
  | 0, n => (n, [])
  | d + 1, n =>
    let p := 256 * t + n
    let f := gridSelector g p
    let kind := gridKind g f
    let x := vec.getD f 0
    let r := treeWalk g vec t d (2 * n + b2n (!featureLess kind x (gridThreshold g p)))
    (r.1, if featureNan kind x then (f, t) :: r.2 else r.2)

/-- The exit leaf of tree `t` (R230). -/
def exitLeaf (g : Bytes) (vec : List Nat) (t : Nat) : Nat × List (Nat × Nat) :=
  let d := gridDepth g t
  let r := treeWalk g vec t d 1
  (r.1 - 2 ^ d, r.2)

/-! Aggregation (R232 to R234) -/

/-- What one rank yields: partial outputs (SUM) or class counts (VOTE), NaN tests in tree order, and the outputs that
overflowed or became NaN. -/
structure RankResult where
  out : List Nat
  nans : List (Nat × Nat)
  ovf : List Nat
  nan : List Nat
deriving DecidableEq, Repr

/-- One FP32 addition to output `o` of a result, with the marks of R233. -/
def addOutput (r : RankResult) (o x : Nat) : RankResult :=
  let a := r.out.getD o 0
  let c := addFp a x
  { r with
    out := r.out.set o c
    ovf := if (fp32 c).isInf && !(fp32 a).isInf && !(fp32 x).isInf && !r.ovf.contains o then r.ovf ++ [o] else r.ovf
    nan := if (fp32 c).isNan && !(fp32 a).isNan && !(fp32 x).isNan && !r.nan.contains o then r.nan ++ [o] else r.nan }

/-- One rank on a vector, its trees ascending (R233, R234). -/
def rankResult (g : Bytes) (vec : List Nat) : RankResult :=
  let start : RankResult := {
    out := if gridAgg g = 0 then (List.range 8).map (fun o => if gridRank g = 0 ∧ o < gridNout g then gridBase g o else 0) else List.replicate 16 0
    nans := [], ovf := [], nan := [] }
  (gridTrees g).foldl (fun r t =>
    let x := exitLeaf g vec t
    let leaf := gridLeaf g (256 * t + x.1)
    let r1 := { r with nans := r.nans ++ x.2 }
    if gridAgg g = 0 then addOutput r1 (gridOutput g t) leaf else { r1 with out := r1.out.modify (leaf % 256) (· + 1) }) start

/-- Rank 0 takes in the partials of the other ranks, ascending (R238). -/
def combineRanks (agg nout : Nat) : List RankResult → RankResult
  | [] => ⟨[], [], [], []⟩
  | r0 :: rs => rs.foldl (fun a r =>
      if agg = 0 then (List.range nout).foldl (fun a o => addOutput a o (r.out.getD o 0)) a
      else { a with out := a.out.mapIdx (fun i c => c + r.out.getD i 0) }) r0

/-- The index of the largest output, ties to the lower index, NaN below every number (R235). -/
def argmax (out : List Nat) (n : Nat) : Nat :=
  (List.range n).foldl (fun b o =>
    let x := fp32 (out.getD o 0)
    let y := fp32 (out.getD b 0)
    if !x.isNan && (y.isNan || y.lt x) then o else b) 0

/-- The class with the most votes, ties to the lower class (R234). -/
def winner (out : List Nat) (n : Nat) : Nat := (List.range n).foldl (fun b c => if out.getD b 0 < out.getD c 0 then c else b) 0

/-- The verdict word of the combined outputs (R235), by rank 0's image. -/
def verdictWord (g : Bytes) (out : List Nat) : Nat :=
  if gridAgg g = 1 then
    let w := winner out (gridNclass g)
    w + out.getD w 0 * 2 ^ 8 + out.foldl (· + ·) 0 * 2 ^ 24
  else
    match gridForm g with
    | 0 => out.getD 0 0 + (if gridNout g = 1 then 0 else out.getD 1 0) * 2 ^ 32
    | 1 =>
      let o := argmax out (gridNout g)
      o + out.getD o 0 * 2 ^ 32
    | _ =>
      let v := fp32 (out.getD 0 0)
      let band := if v.isNan then 0 else ((List.range (gridNcut g)).filter (fun j => !v.lt (fp32 (gridCut g j)))).length
      band + out.getD 0 0 * 2 ^ 32

/-- The ranks of an ensemble on a vector: the result of each rank, rank 0's after combining, and the verdict (R238). -/
def ensembleVerdict (grids : List Bytes) (vec : List Nat) : List RankResult × Nat :=
  let rs := grids.map (fun g => rankResult g vec)
  let g0 := grids.headD []
  let c := combineRanks (gridAgg g0) (gridNout g0) rs
  (c :: rs.drop 1, verdictWord g0 c.out)

/-! Validation (R237) -/

/-- Whether an FP32 code is finite. -/
def finite32 (c : Nat) : Bool := !(fp32 c).isNan && !(fp32 c).isInf

/-- Whether the nodes and leaves of tree `t` obey R226 and R237. -/
def treeValid (g : Bytes) (t : Nat) : Bool :=
  let d := gridDepth g t
  let nodes := if d = 0 then 0 else 2 ^ d - 1
  let leaves := if d = 0 then 0 else 2 ^ d
  decide (d ≤ 8) && decide (gridOutput g t < gridNout g) && decide (byteAt g (96 + t) < 128) &&
  (List.range 256).all (fun n =>
    let p := 256 * t + n
    let sel := gridSelector g p
    let thr := gridThreshold g p
    let leaf := gridLeaf g p
    (if 1 ≤ n ∧ n ≤ nodes then decide (sel < gridFeatures g) && !featureNan (gridKind g sel) thr else sel == 0 && thr == 0) &&
    (if n < leaves then (if gridAgg g = 0 then finite32 leaf else decide (leaf < gridNclass g)) else leaf == 0))

/-- Whether a grid image is accepted by itself (R237). -/
def gridValid (g : Bytes) : Bool :=
  let h := gridHeader g
  decide (g.length = gridBytes) && decide (h < 2 ^ 30) && decide (gridAgg g ≤ 1) && gridForm g != 3 &&
  (if gridAgg g = 1 then gridNout g == 1 && gridForm g == 0 else gridNclass g == 1) &&
  decide (gridRank g < gridRanks g) &&
  le g 92 4 == 0 && le g 224 32 == 0 &&
  (List.range 8).all (fun o => finite32 (gridBase g o) && (gridRank g == 0 || gridBase g o % 2 ^ 31 == 0)) &&
  (List.range 7).all (fun j => finite32 (gridCut g j)) &&
  (gridAgg g == 1 || gridForm g != 2 || (gridNcut g != 0 &&
    (List.range (gridNcut g - 1)).all (fun j => (fp32 (gridCut g j)).lt (fp32 (gridCut g (j + 1)))))) &&
  (List.range 64).all (treeValid g)

/-- Whether the headers of images agree in every field other than RANK (R237). -/
def gridsAgree (grids : List Bytes) : Bool :=
  grids.all (fun g => putBits (gridHeader g) 10 4 0 == putBits (gridHeader (grids.headD [])) 10 4 0)

/-- Whether the images of one ensemble are accepted together (R237, R238): rank r is image r, and their headers agree. -/
def ensembleValid (grids : List Bytes) : Bool :=
  !grids.isEmpty && grids.length == gridRanks (grids.headD []) && grids.all gridValid && gridsAgree grids &&
  (grids.mapIdx (fun i g => gridRank g == i)).all id

/-- GRID_STATUS for a serving image, if any, and a standby (R244). -/
def gridStatus (serving : Option Bytes) (standby : Bool) : Nat :=
  match serving with
  | none => 2 * b2n standby
  | some g => 1 + 2 * b2n standby + gridAgg g % 2 * 4 + gridRank g * 8 + (gridRanks g - 1) * 128 + (gridTrees g).length * 2048

end Sys2Proof.Machine
end

