-- ==== Sys2Proof/Machine/Vector.lean ====
section
/-!
DEFINITION. The operator library of the vector unit on rows of FP32 codes (R200, R259): operators that the manual calls exact or
correctly rounded are computed, the others are opaque functions of their operands. Log 37 names what the manual leaves open here.
-/
namespace Sys2Proof.Machine

/-! Square root (R259: correctly rounded) -/

/-- The integer square root of `n`, bit by bit from bit `k`. -/
def isqrtBits : (k n r : Nat) → Nat
  | 0, _, r => r
  | k + 1, n, r => let c := r + 2 ^ k; isqrtBits k n (if c * c ≤ n then c else r)

/-- SQRT of an FP32 code, rounded once: the root is taken to 128 fraction bits with a sticky half unit, which rounds as the
exact root does. -/
def sqrtFp (c : Nat) : Nat :=
  match fp32 c with
  | .fin false n d =>
    if n = 0 then c else
    let v := n * 2 ^ 256 / d
    let q := isqrtBits 200 v 0
    let exact := decide (q * q * d = n * 2 ^ 256)
    toFp32 (.fin false (2 * q + b2n (!exact)) (2 ^ 129))
  | .fin true n _ => if n = 0 then c else 0x7FC00000
  | .inf false => c
  | _ => 0x7FC00000

/-- FP32 subtraction. -/
def subFp (a b : Nat) : Nat := toFp32 ((fp32 a).add (fp32 b).negate)

/-- A fused multiply-add, rounded once (R172). -/
def fmaFp (a b c : Nat) : Nat := toFp32 (((fp32 a).mul (fp32 b)).add (fp32 c))

/-- 1.0 as FP32. -/
def oneFp : Nat := 0x3F800000

/-! Elementwise operators -/

/-- Whether an FP32 code is a NaN. -/
def nanFp (c : Nat) : Bool := (fp32 c).isNan

/-- The canonical NaN in place of any NaN (R167). -/
def canonFp (c : Nat) : Nat := if nanFp c then 0x7FC00000 else c % 2 ^ 32

/-- The larger of two numbers; +0 is larger than −0 (IEEE 754-2019, maximum). -/
def maxFp (a b : Nat) : Nat :=
  if (fp32 a).lt (fp32 b) then b else if (fp32 b).lt (fp32 a) then a else if bitAt a 31 then b else a

/-- The smaller of two numbers; −0 is smaller than +0 (IEEE 754-2019, minimum). -/
def minFp (a b : Nat) : Nat :=
  if (fp32 a).lt (fp32 b) then a else if (fp32 b).lt (fp32 a) then b else if bitAt a 31 then a else b

/-- ADD, SUB, MUL, DIV, MAX and MIN (R259); MAX and MIN of a NaN are the canonical one (R167; IEEE 754-2019, maximum and minimum). -/
def vecFn2 (f : VecFn2) (a b : Nat) : Nat :=
  match f with
  | .add => addFp a b
  | .sub => subFp a b
  | .mul => mulFp a b
  | .div => divFp a b
  | .max => if nanFp a || nanFp b then 0x7FC00000 else maxFp a b
  | .min => if nanFp a || nanFp b then 0x7FC00000 else minFp a b

/-! Operators whose error is bounded (R259): the true result in fixed point, far finer than the bound -/

/-- Fraction bits of the fixed-point numbers. -/
def fracBits : Nat := 400

/-- 1 in fixed point. -/
def fixOne : Int := 2 ^ fracBits

/-- A product in fixed point. -/
def fixMul (a b : Int) : Int := a * b / fixOne

/-- A quotient in fixed point. -/
def fixDiv (a b : Int) : Int := a * fixOne / b

/-- 1 + x/k · (1 + x/(k+1) · …), `n` terms: the exponential series from term `k`. -/
def expSeries (x : Int) : (n k : Nat) → Int
  | 0, _ => fixOne
  | n + 1, k => fixOne + fixMul x (expSeries x n (k + 1)) / (k : Int)

/-- e^x: the series at x/1024, squared ten times; arguments beyond 300 count as 300, where FP32 has long run out. -/
def fixExp (x : Int) : Int :=
  let y := max (-(300 * fixOne)) (min (300 * fixOne) x)
  let e := (List.range 10).foldl (fun v _ => fixMul v v) (expSeries ((y.natAbs : Int) / 1024) 60 1)
  if y < 0 then fixDiv fixOne e else e

/-- The `n` terms from index `k` of the series of atanh of a number, given its square and the power of the first term. -/
def atanhSeries (sq : Int) : (n k : Nat) → (power : Int) → Int
  | 0, _, _ => 0
  | n + 1, k, power => power / (2 * k + 1 : Int) + atanhSeries sq n (k + 1) (fixMul power sq)

/-- The logarithm of a number from 1 to 2. -/
def fixLogUnit (m : Int) : Int := let t := fixDiv (m - fixOne) (m + fixOne); 2 * atanhSeries (fixMul t t) 130 0 t

/-- log of n / d, for n and d above 0. -/
def fixLog (n d : Nat) : Int :=
  let k : Int := (Nat.log2 n : Int) - (Nat.log2 d : Int)
  let m : Int := if 0 ≤ k then (n * 2 ^ fracBits / (d * 2 ^ k.toNat) : Nat) else (n * 2 ^ ((-k).toNat + fracBits) / d : Nat)
  k * fixLogUnit (2 * fixOne) + (if m < fixOne then fixLogUnit (2 * m) - fixLogUnit (2 * fixOne) else fixLogUnit m)

/-- 1 ÷ (1 + e^−x). -/
def fixSigmoid (x : Int) : Int := fixDiv fixOne (fixOne + fixExp (-x))

/-- The hyperbolic tangent. -/
def fixTanh (x : Int) : Int := let e := fixExp (2 * x); fixDiv (e - fixOne) (e + fixOne)

/-- The inverse tangent of 1 / k, `n` terms (π is 16 of that of 1/5, less 4 of that of 1/239). -/
def atanInv (k : Nat) (n : Nat) : Int :=
  (List.range n).foldl (fun (a : Int) (i : Nat) => a + (if i % 2 = 0 then 1 else -1) * (fixOne / ((k : Int) ^ (2 * i + 1) * (2 * (i : Int) + 1)))) 0

/-- √(2 ÷ π). -/
def fixGeluRoot : Int := (isqrtBits (fracBits + 8) (fixDiv (2 * fixOne) (16 * atanInv 5 180 - 4 * atanInv 239 60) * fixOne).toNat 0 : Nat)

/-- GELU in its tanh form: x ÷ 2 · (1 + tanh (√(2 ÷ π) · (x + 0.044715 · x³))). -/
def fixGelu (x : Int) : Int :=
  let u := fixMul fixGeluRoot (x + fixMul x (fixMul x x) * 44715 / 1000000)
  fixMul x (fixOne + fixTanh u) / 2

/-- A number in fixed point. -/
def fixOf (neg : Bool) (n d : Nat) : Int := let v : Int := (n * 2 ^ fracBits / d : Nat); if neg then -v else v

/-- The true result of a bounded operator at a finite argument, in fixed point; none where the manual states none (log and RSQRT of 0
and below). -/
def trueFn1 (f : VecFn1) (neg : Bool) (n d : Nat) : Option Int :=
  let x := fixOf neg n d
  match f with
  | .rsqrt => if neg ∨ n = 0 then none else some (isqrtBits (2 * fracBits) (d * 2 ^ (2 * fracBits) / n) 0 : Nat)
  | .exp => some (fixExp x)
  | .log => if neg ∨ n = 0 then none else some (fixLog n d)
  | .sigmoid => some (fixSigmoid x)
  | .tanh => some (fixTanh x)
  | .gelu => some (fixGelu x)
  | .silu => some (fixMul x (fixSigmoid x))
  | .sqrt => none
  | .relu => none

/-- A free FP32 code held to its error (R259): where it is within `ulps` units in the last place of the true result `y`, or within
2^−126 of it where `nearZero` allows that, it stands; else the nearest code of `y` does. -/
def heldTo (ulps : Nat) (nearZero : Bool) (y : Int) (free : Nat) : Nat :=
  let r := toFp32 (.fin (decide (y < 0)) y.natAbs (2 ^ fracBits))
  match fp32 free with
  | .fin neg n d =>
    let off := (fixOf neg n d - y).natAbs
    if off * 2 ^ 150 ≤ ulps * 2 ^ max (bits r 23 8) 1 * 2 ^ fracBits ∨ (nearZero ∧ off ≤ 2 ^ (fracBits - 126)) then free % 2 ^ 32 else r
  | _ => if (fp32 r).isNan ∨ fp32 r = fp32 free then free % 2 ^ 32 else r

/-- The results of the bounded operators that IEEE 754-2019, by which R172 has the vector unit compute, fixes at a NaN, an infinity, a
pole or outside the domain; none elsewhere. -/
def poleFn1 (f : VecFn1) (x : Nat) : Option Nat :=
  let nan := 0x7FC00000
  let inf := 0x7F800000
  match fp32 x, f with
  | .fin neg n _, .rsqrt => if n = 0 then some (if neg then 0xFF800000 else inf) else if neg then some nan else none
  | .fin neg n _, .log => if n = 0 then some 0xFF800000 else if neg then some nan else none
  | .fin _ _ _, _ => none
  | .inf false, .rsqrt => some 0
  | .inf false, .sigmoid => some oneFp
  | .inf false, .tanh => some oneFp
  | .inf false, _ => some inf
  | .inf true, .exp => some 0
  | .inf true, .sigmoid => some 0
  | .inf true, .tanh => some 0xBF800000
  | .inf true, .rsqrt => some nan
  | .inf true, .log => some nan
  | .inf true, _ => none
  | _, _ => some nan

/-- SQRT and RELU, which is MAX of its operand and +0, and the operators whose error is bounded: a free value within the error of the true
result (R259, log 37). GELU and SILU of −∞ are not stated. -/
def vecFn1 (f : VecFn1) (x : Nat) : Nat :=
  let free := canonFp (Config.vec1 f x % 2 ^ 32)
  match f with
  | .sqrt => sqrtFp x
  | .relu => vecFn2 .max x 0
  | _ => match poleFn1 f x, fp32 x with
    | some y, _ => y
    | none, .fin neg n d => (trueFn1 f neg n d).elim free (fun y =>
        heldTo (if f = .rsqrt then 1 else 2) (f == .sigmoid || f == .tanh || f == .gelu || f == .silu) y free)
    | none, _ => free

/-- CLAMP (R259): MAX with `lo`, then MIN with `hi`. -/
def clampFp (lo hi x : Nat) : Nat := vecFn2 .min (vecFn2 .max x lo) hi

/-! Row operators -/

/-- REDUCE_SUM (R259): slices of 128 by the pairwise tree of R170, the slice sums added in ascending order. -/
def sumRow (row : List Nat) : Nat :=
  (slices row.length row).foldl (fun a sl => addFp a (pairTree 7 (sl ++ List.replicate (128 - sl.length) 0))) 0

/-- The first largest of elements with their indices. -/
def firstMax (x : Nat × Nat) (xs : List (Nat × Nat)) : Nat × Nat :=
  xs.foldl (fun best y => if (fp32 best.1).lt (fp32 y.1) then y else best) x

/-- REDUCE_MAX and ARGMAX of a row (R259): ties go to the lower index. Of a row with a NaN the largest is the canonical NaN, as MAX has it,
and its index is free. -/
def maxRow (row : List Nat) : Nat × Nat :=
  match row.zipIdx with
  | [] => (canonFp (Config.maxOpen row).1, (Config.maxOpen row).2 % 2 ^ 32)
  | x :: xs => if row.any nanFp then (0x7FC00000, (Config.maxOpen row).2 % 2 ^ 32) else firstMax x xs

/-- The `k` largest elements with their indices, the largest first. -/
def largest : (k : Nat) → List (Nat × Nat) → List (Nat × Nat)
  | 0, _ => []
  | _ + 1, [] => []
  | k + 1, x :: xs => let b := firstMax x xs; b :: largest k ((x :: xs).erase b)

/-- TOPK of a row (R259): ties go to the lower index. -/
def topkRow (k : Nat) (row : List Nat) : List (Nat × Nat) :=
  if row.any nanFp then ((Config.topkOpen k row).take k).map (fun x => (canonFp x.1, x.2 % 2 ^ 32)) else largest k row.zipIdx

/-- SOFTMAX of a row (R259): the row maximum subtracted, EXP, REDUCE_SUM, and a multiplication by the correctly rounded
reciprocal of the sum. -/
def softmaxRow (row : List Nat) : List Nat :=
  let m := (maxRow row).1
  let es := row.map (fun x => vecFn1 .exp (subFp x m))
  let r := divFp oneFp (sumRow es)
  es.map (fun e => mulFp e r)

/-- CROSS_ENTROPY of a row of logits for a class (R259): SOFTMAX, then the negated LOG of the class's element. -/
def lossRow (row : List Nat) (cls : Nat) : Nat :=
  match (softmaxRow row)[cls]? with
  | some p => toFp32 (fp32 (vecFn1 .log p)).negate
  | none => canonFp (Config.lossOpen cls row)

/-- RMSNORM of a row, and LAYERNORM, which takes the row less its mean (R259): the mean and the mean square by REDUCE_SUM, then RSQRT; a
gain and a bias are MUL and ADD after it (log 37). -/
def normRow (rms : Bool) (row : List Nat) : List Nat :=
  let mean (l : List Nat) : Nat := divFp (sumRow l) (toFp32 (.fin false l.length 1))
  let xs := if rms then row else let m := mean row; row.map (fun x => subFp x m)
  let r := vecFn1 .rsqrt (addFp (mean (xs.map (fun x => mulFp x x))) (Config.normEps % 2 ^ 32))
  xs.map (fun x => mulFp x r)

/-- Rows of equal index combined element by element. -/
def zipRows (f : Nat → Nat → Nat) (a b : List (List Nat)) : List (List Nat) := (a.zip b).map (fun p => (p.1.zip p.2).map (fun x => f x.1 x.2))

/-- The rows a vector operator reads. -/
def vecReads : VecOp → List RowRef
  | .map2 _ a b => a ++ b
  | .fma a b c => a ++ b ++ c
  | .map1 _ a => a
  | .clamp _ _ a => a
  | .reduceSum a => a
  | .reduceMax a => a
  | .softmax a => a
  | .norm _ a => a
  | .crossEntropy a c => a ++ [c]
  | .allReduce _ _ p r => (p ++ r).map Prod.snd

/-- The ranks from which rank `r` of `n` receives in an ALL_REDUCE, in their order (R326). -/
def reduceRanks (n r : Nat) : List Nat :=
  ((List.range 13).filter (fun l => r % 2 ^ (l + 1) == 0 && decide (r + 2 ^ l < n))).map (fun l => r + 2 ^ l)

/-- Whether the sums of an ALL_REDUCE stand in the order of R326: its cells ascending, then the ranks it receives from. -/
def reduceInOrder (n r : Nat) (parts received : List (Nat × RowRef)) : Bool :=
  !parts.isEmpty && decide (r < n) && (parts.zip parts.tail).all (fun x => decide (x.1.1 < x.2.1)) && received.map Prod.fst == reduceRanks n r

/-- The result rows of a vector operator, from the FP32 codes of a row and the codes of an INT32 row (R259). -/
def vecRows (op : VecOp) (v codes : RowRef → List Nat) : List (List Nat) :=
  match op with
  | .map2 f a b => zipRows (vecFn2 f) (a.map v) (b.map v)
  | .fma a b c => ((a.zip b).zip c).map (fun r => (((v r.1.1).zip (v r.1.2)).zip (v r.2)).map (fun x => fmaFp x.1.1 x.1.2 x.2))
  | .map1 f a => a.map (fun r => (v r).map (vecFn1 f))
  | .clamp lo hi a => a.map (fun r => (v r).map (clampFp lo hi))
  | .reduceSum a => a.map (fun r => [sumRow (v r)])
  | .reduceMax a => a.map (fun r => [(maxRow (v r)).1])
  | .softmax a => a.map (fun r => softmaxRow (v r))
  | .norm rms a => a.map (fun r => normRow rms (v r))
  | .crossEntropy a c => (a.zip (codes c)).map (fun x => [lossRow (v x.1) x.2])
  | .allReduce _ _ p r =>
    match (p ++ r).map (fun x => v x.2) with
    | [] => []
    | x :: l => [l.foldl (fun a b => (a.zip b).map (fun y => addFp y.1 y.2)) x]

/-- One INT32 sum: sticky once it saturates (R171, R326). -/
def satAdd (a : Int × Bool) (x : Int) : Int × Bool :=
  if a.2 then a
  else if 2147483647 < a.1 + x then (2147483647, true)
  else if a.1 + x < -2147483648 then (-2147483648, true) else (a.1 + x, false)

/-- INT32 rows summed element by element, in their order (R326). -/
def intSumRows (rows : List (List Nat)) : List Nat :=
  (List.range ((rows.head?.map List.length).getD 0)).map (fun i =>
    unsigned 32 (rows.foldl (fun a r => satAdd a (signed 32 (r.getD i 0))) ((0 : Int), false)).1)

end Sys2Proof.Machine
end

