-- ==== Sys2Proof/Machine/Work.lean ====
section
/-!
DEFINITION. What a bulk step's operations compute from the cell store (R168, R182, R184, R185, R190, R197 to R201, R209, R242, R259,
R271 to R274): rows read with their screed checked, results narrowed tile by tile, the working registers, and the optimiser update.
Logs 28 and 37 name what the manual leaves open here.
-/
namespace Sys2Proof.Machine

/-! Step headers (R209) -/

/-- The header of a step, its two words taken apart. -/
def stepOfWords (a b : Nat) : StepHeader :=
  ⟨bits a 0 64, bits a 64 64, bits a 128 15, bits a 144 16, bits a 160 16, bits a 176 7, bitAt a 183,
    (List.range 4).filterMap (fun w => if bitAt b (64 * w + 4) then some (bits b (64 * w) 4, bits b (64 * w + 32) 32) else none)⟩

/-- Whether the reserved fields of a step's header words are 0 (R10, R209). -/
def stepWordsOk (a b : Nat) : Bool := !bitAt a 143 && bits a 184 72 == 0 && (List.range 4).all (fun w => bits b (64 * w + 5) 27 == 0)

end Sys2Proof.Machine

/-- The step headers of a program. -/
def Sys2Proof.CellProgram.steps (p : Sys2Proof.CellProgram) : List Sys2Proof.StepHeader :=
  p.heads.map (fun h => Sys2Proof.Machine.stepOfWords h.1.toNat h.2.toNat)

namespace Sys2Proof.Machine

/-! Reading rows (R168, R183, R185) -/

/-- A cell store as a step reads it: words by address. -/
abbrev Store := Nat → W256

/-- Element `i` of `w` bits of the words from `addr` on (R168). -/
def storeElement (m : Store) (addr w i : Nat) : Nat :=
  if w = 6 then
    let g := addr + 3 * (i / 128)
    bits ((m g).toNat + (m (g + 1)).toNat * 2 ^ 256 + (m (g + 2)).toNat * 2 ^ 512) (6 * (i % 128)) 6
  else bits ((m (addr + i * w / 256)).toNat) (i * w % 256) w

/-- The FP32 code of the E8M0 scale code e (R179, R182). -/
def scaleOfE8 (e : Nat) : Nat := if e = 255 then 0x7FC00000 else if e = 0 then 0x00400000 else e * 2 ^ 23

/-- A row read: its codes, FP32 scale and zero point, the skew its screed check finds (expected and received tag), and the
invalid TERN2 codes. -/
structure RowRead where
  fmt : Nat
  codes : List Nat
  scale : Nat
  zero : Int
  skew : Option (Nat × Nat × Nat)
  tern : Nat
deriving DecidableEq, Repr

/-- A row with its screed (R182, R183, R185). -/
def readRow (regions : List Region) (m : Store) (r : RowRef) : RowRead :=
  match regions.find? (fun x => x.region == r.region) with
  | none => ⟨0, [], oneFp, 0, none, 0⟩
  | some g =>
    let codes := (List.range r.len).map (storeElement m r.addr (fmtWidth g.fmt))
    let tern := if g.fmt = 14 then ternInvalid codes else 0
    if g.kind = 0 then ⟨g.fmt, codes, oneFp, 0, none, tern⟩
    else
      let hd := (m r.screed).toNat
      let skew := if screedSkew g r.block hd then some (g.region, r.block % 256, bits hd 0 8) else none
      if g.kind = 1 then ⟨g.fmt, codes, scaleOfE8 (bits (m (r.screed + 1)).toNat (8 * r.row) 8), 0, skew, tern⟩
      else
        let z := bits (m (r.screed + 5)).toNat (8 * r.row) 8 % 2 ^ fmtWidth g.fmt
        ⟨g.fmt, codes, bits (m (r.screed + 1 + r.row / 8)).toNat (32 * (r.row % 8)) 32,
          if g.fmt = 10 ∨ g.fmt = 12 then signed (fmtWidth g.fmt) z else z, skew, tern⟩

/-- The dequantised FP32 codes of a row: element less zero point, times the row scale (R182); the widening of an element is exact and
keeps the sign of a NaN (R172, R175). -/
def RowRead.values (r : RowRead) : List Nat :=
  r.codes.map (fun c =>
    let v := if r.fmt = 0 then c % 2 ^ 32 else if r.zero = 0 then widen (valueOf r.fmt c)
      else toFp32 ((valueOf r.fmt c).add (.fin (decide (0 < r.zero)) r.zero.natAbs 1))
    if r.scale = oneFp then v else mulFp v r.scale)

/-! Narrowing tiles (R180, R181, R184, R190, R199) -/

/-- What a step's work leaves: result words, tallies, the first skew, the skipped updates, the vectors judged, the outputs that
overflowed or became NaN as ranks were reduced, and the working registers. -/
structure WorkDone where
  results : List (Nat × W256) := []
  tallies : List Tally := []
  skew : Option (Nat × Nat × Nat) := none
  skipped : List (Nat × Nat) := []
  judged : List (List (Nat × Nat) × Nat × Nat) := []
  reduced : List (Nat × Nat) := []
  regs : CellRegs := {}
deriving DecidableEq, Repr

/-- Words placed from an address on. -/
def placeWords (a : Nat) (ws : List W256) : List (Nat × W256) := ws.mapIdx (fun i w => (a + i, w))

/-- A result word of the work, in place of one for the same address. -/
def WorkDone.put (d : WorkDone) (x : Nat × W256) : WorkDone :=
  { d with results := if d.results.any (fun r => r.1 == x.1) then d.results.map (fun r => if r.1 = x.1 then x else r) else d.results ++ [x] }

/-- Result words of the work. -/
def WorkDone.puts (d : WorkDone) (xs : List (Nat × W256)) : WorkDone := xs.foldl WorkDone.put d

/-- The blocks a region has emitted so far in this step. -/
def WorkDone.blocks (d : WorkDone) (region : Nat) : Nat :=
  ((d.tallies.filter (fun t => t.region == region)).map Tally.blocks).foldl (· + ·) 0

/-- The tally of a tile (R190, R435): its place, the counts of its rows narrowed, and their data and dequantised values. -/
def tileTally (g : Region) (row col accOvf blocks : Nat) (rows : List (List Nat × Nat × Int)) (st : RowStats) : Tally :=
  ⟨g.region, row, col, st.sat, st.nanConv, st.sqerr, st.sqsrc, st.elements, 0, accOvf, blocks,
    rows.map (fun c => (rowWords g.fmt c.1).flatMap (fun w => toLE 32 w.toNat)),
    rows.flatMap (fun c =>
      (⟨g.fmt, c.1, if g.kind = 1 then scaleOfE8 c.2.1 else if g.kind = 2 then c.2.1 else oneFp, c.2.2, none, 0⟩ : RowRead).values)⟩

/-- A tile of FP32 rows narrowed into a region: row by row, with a screed block for every 32 rows (R184). `first` is the
number of blocks the region emitted before this step. -/
def narrowTile (job step : Nat) (regions : List Region) (first : Nat → Nat) (out : OutRef) (rows : List (List Nat)) (accOvf : Nat)
    (d : WorkDone) : WorkDone :=
  match regions.find? (fun x => x.region == out.region) with
  | none => d
  | some g =>
    let n := (rows.head?.map List.length).getD 0
    let all := (rows.zipIdx).foldl (fun (a : List (List Nat × Nat × Int × RowStats) × RowStats) x =>
      let c := narrowRow g (fun e => stochBits job step out.tileRow out.tileCol (x.2 * n + e)) x.1 a.2
      (a.1 ++ [c], c.2.2.2)) ([], {})
    let conv := all.1
    let perRow := (rowWords g.fmt (List.replicate n 0)).length
    let words := conv.mapIdx (fun r c => placeWords (out.addr + r * perRow) (rowWords g.fmt c.1))
    let nb := if g.kind = 0 then 0 else ceilDiv rows.length 32
    let base := if g.static then out.tileRow / 32 else first g.region + d.blocks g.region
    let bw := if g.kind = 1 then 2 else 6
    let blocks := (List.range nb).flatMap (fun b =>
      placeWords (out.screed + b * bw) (screedBlock g (base + b) (((conv.drop (32 * b)).take 32).map (fun c => (c.2.1, c.2.2.1)))))
    { d with results := d.results ++ words.flatten ++ blocks
             tallies := d.tallies ++ [tileTally g out.tileRow out.tileCol accOvf nb (conv.map (fun c => (c.1, c.2.1, c.2.2.1))) all.2] }

/-- The skew and invalid codes of rows read join the work (R167, R185). -/
def noteRows (rows : List (RowRef × RowRead)) (d : WorkDone) : WorkDone :=
  rows.foldl (fun d x =>
    let d1 := if d.skew.isNone then { d with skew := x.2.skew } else d
    if x.2.tern = 0 then d1 else { d1 with tallies := d1.tallies ++ [{ region := x.1.region, tern := x.2.tern }] }) d

/-- Rows read by their references. -/
def readRows (regions : List Region) (m : Store) (l : List RowRef) : List (RowRef × RowRead) := l.map (fun r => (r, readRow regions m r))

/-- One row of a GEMM (R182): every output column, and how many accumulators overflowed. -/
def gemmRow (a : RowRead) (wgts : List RowRead) (bias : Option (List Nat)) : List Nat × Nat :=
  let ys := wgts.mapIdx (fun j w => gemmOut ⟨a.fmt, w.fmt, a.codes.zip w.codes, a.zero, w.zero, a.scale, w.scale, bias.map (fun b => b.getD j 0)⟩)
  (ys.map Prod.fst, (ys.filter (fun y => y.2)).length)

/-! Working registers (R195 to R201) -/

/-- Columns of a weight tile of a format (R197): 256 at 6 bits or narrower, else 128. -/
def tileColumns (fmt : Nat) : Nat := if fmtWidth fmt ≤ 6 then 256 else 128

/-- The weight tiles of a GEMM in the order they are loaded (R197): column tile by column tile, slice by slice, each with its column
sums for integer and TERN2 weights. -/
def weightTiles (w : List RowRead) : List WeightTile :=
  let fmt := (w.head?.map RowRead.fmt).getD 0
  let k := (w.head?.map (fun r => r.codes.length)).getD 0
  let n := tileColumns fmt
  (List.range (ceilDiv w.length n)).flatMap (fun ct => (List.range (ceilDiv k 128)).map (fun ks =>
    let cols := ((w.drop (n * ct)).take n).map (fun r => (r.codes.drop (128 * ks)).take 128)
    { words := cols.flatMap (rowWords fmt), sums := if 9 ≤ fmt then cols.map (fun c => (c.map (intValue fmt)).foldl (· + ·) 0) else [] }))

/-- A weight tile enters through the shadow register and becomes the active one (R197). -/
def loadTile (r : CellRegs) (t : WeightTile) : CellRegs := { r with active := t, shadow := r.active }

/-- An accumulator bank of the working registers. -/
def CellRegs.bank (r : CellRegs) (i : Nat) : AccBank := if i = 0 then r.acc0 else r.acc1
/-- An accumulator bank set. -/
def CellRegs.setBank (r : CellRegs) (i : Nat) (b : AccBank) : CellRegs := if i = 0 then { r with acc0 := b } else { r with acc1 := b }

/-- The registers after a GEMM (R197, R199): its last two tiles, and its output tile in the bank the step names, the columns of a
tile that the weights do not fill at 0. -/
def gemmRegs (bank : Nat) (a w : List RowRead) (r : CellRegs) : CellRegs :=
  let n := tileColumns ((w.head?.map RowRead.fmt).getD 0)
  let cols := ceilDiv w.length n * n
  let vals := a.flatMap (fun x => w.map (fun y => gemmAcc { act := x.fmt, wgt := y.fmt, lanes := x.codes.zip y.codes }) ++
    List.replicate (cols - w.length) 0)
  ((weightTiles w).foldl loadTile r).setBank bank ⟨pairIsInt ((a.head?.map RowRead.fmt).getD 0), cols, vals⟩

/-- Bytes as 256-bit words, byte 0 least significant. -/
def tileWords (b : Bytes) : List W256 := (List.range (ceilDiv b.length 32)).map (fun i => BitVec.ofNat 256 (natLE (slice b (32 * i) 32)))

/-- The registers after a grid image is loaded through the weight load port (R201, R240): its thresholds and selectors as a tile, its
leaf table in a bank. -/
def gridTile (g : Bytes) : WeightTile := { words := tileWords (slice g 256 49152) }
def gridBank (g : Bytes) : AccBank := ⟨gridAgg g == 1, 256, (List.range 16384).map (gridLeaf g)⟩
def gridRegs (g : Bytes) (r : CellRegs) : CellRegs := (loadTile r (gridTile g)).setBank 0 (gridBank g)

/-- The lanes of a vector register. -/
def CellRegs.lane (r : CellRegs) (reg i : Nat) : Nat := tabGet 0 (reg * 64 + i) r.lanes
/-- A vector register set, lane by lane. -/
def CellRegs.setLanes (r : CellRegs) (reg : Nat) (f : Nat → Nat) : CellRegs :=
  { r with lanes := (List.range 64).foldl (fun t i => tabSet 0 (reg * 64 + i) (f i % 2 ^ 32) t) r.lanes }

/-- One instruction of the vector unit (R172, R200). -/
def runLanes (m : Store) (d : WorkDone) : LaneOp → WorkDone
  | .load reg addr => { d with regs := d.regs.setLanes reg (storeElement m addr 32) }
  | .acc reg bank index =>
    let b := d.regs.bank bank
    { d with regs := d.regs.setLanes reg (fun i => let v := b.vals.getD (index + i) 0; if b.int then widen (valueOf 8 v) else v) }
  | .map1 f reg a => { d with regs := d.regs.setLanes reg (fun i => vecFn1 f (d.regs.lane a i)) }
  | .map2 f reg a b => { d with regs := d.regs.setLanes reg (fun i => vecFn2 f (d.regs.lane a i) (d.regs.lane b i)) }
  | .fma reg a b c => { d with regs := d.regs.setLanes reg (fun i => fmaFp (d.regs.lane a i) (d.regs.lane b i) (d.regs.lane c i)) }
  | .store addr reg => d.puts (placeWords addr (rowWords 0 ((List.range 64).map (d.regs.lane reg))))

/-! OPT_UPDATE (R272, R273) -/

/-- The fields of an OPT_UPDATE descriptor. -/
structure OptDesc where
  recipe : Nat
  master : Nat
  gradw : Nat
  mom1 : Nat
  mom2 : Nat
  copy : Nat
  lr : Nat
  beta1 : Nat
  beta2 : Nat
  eps : Nat
  wd : Nat
deriving DecidableEq, Repr

/-- An OPT_UPDATE descriptor taken apart. -/
def optDesc (w : Nat) : OptDesc :=
  ⟨bits w 0 4, bits w 16 16, bits w 32 16, bits w 48 16, bits w 64 16, bits w 80 16, bits w 96 32, bits w 128 32, bits w 160 32,
    bits w 192 32, bits w 224 32⟩

/-- Whether an FP32 code is neither NaN nor infinite and lies in [0, 1). -/
def betaOk (c : Nat) : Bool := finite32 c && !((fp32 c).lt (fp32 0)) && (fp32 c).lt (fp32 oneFp)

/-- Whether a region agrees with an entry of R270's table: format choices, class, kind, rounding, index and SCALE_BIAS. -/
def regionIs (regions : List Region) (n : Nat) (fmts : List Nat) (cls kind : Nat) (stoch static : Bool) (bias : Nat) : Bool :=
  match regions.find? (fun r => r.region == n) with
  | some r => fmts.contains r.fmt && r.cls == cls && r.kind == kind && r.stoch == stoch && r.static == static && (kind == 0 || r.bias == bias)
  | none => false

/-- Whether an OPT_UPDATE descriptor and the regions it names agree with its recipe (R270, R272). -/
def optValid (regions : List Region) (w : Nat) : Bool :=
  let o := optDesc w
  let fp (n cls : Nat) (st : Bool) := regionIs regions n [0] cls 0 false st 0
  bits w 4 12 == 0 && decide (o.recipe ≤ 3) && betaOk o.beta1 && betaOk o.beta2 && (fp32 0).lt (fp32 o.eps) &&
    !(fp32 o.wd).isNan && !((fp32 o.wd).lt (fp32 0)) && fp o.master 1 true && fp o.gradw 2 false &&
    (if o.recipe = 0 ∨ o.recipe = 1 then
      regionIs regions o.copy [3, 7, 10, 14] 1 1 false true 0 && regionIs regions o.mom1 [3] 3 1 true true 1
     else fp o.mom1 3 true && (if o.recipe = 2 then o.copy == 0xFFFF else fp o.copy 1 true)) &&
    (if o.recipe = 0 then regionIs regions o.mom2 [4] 3 1 true true 1
     else if o.recipe = 3 then fp o.mom2 3 true else o.mom2 == 0xFFFF && o.beta2 == 0)

/-- Whether the regions that no descriptor names, but a recipe's row does, agree with the recipes in use (R270, R271, log 37): gradients
are FP32 or, under recipes 0 and 1, narrow E5M2; activations are FP32 or, under recipes 0 and 1, E4M3 or INT8 with SHIFT; and recipes 0
and 1 admit no AFFINE region of weights. -/
def recipeRegions (regions : List Region) (updates : List Nat) : Bool :=
  let narrow := updates.any (fun w => decide ((optDesc w).recipe ≤ 1))
  updates.isEmpty || regions.all (fun r =>
    if r.cls = 2 then
      regionIs [r] r.region [0] 2 0 false false 0 || narrow && regionIs [r] r.region [4] 2 1 true false 0
    else if r.cls = 0 then
      regionIs [r] r.region [0] 0 0 false false 0 || narrow && regionIs [r] r.region [3, 10] 0 1 false false 0
    else !(narrow && r.cls == 1 && r.kind == 2))

/-- The new moments of a row before narrowing (R273). -/
def newMoment1 (o : OptDesc) (g m : Nat) : Nat := addFp (mulFp o.beta1 m) (mulFp (subFp oneFp o.beta1) g)
def newMoment2 (o : OptDesc) (g v : Nat) : Nat := addFp (mulFp o.beta2 v) (mulFp (subFp oneFp o.beta2) (mulFp g g))

/-- The new master element from the stored moments (R273): c1 and c2 are C1 and C2. -/
def newMaster (o : OptDesc) (c1 c2 m v w : Nat) : Nat :=
  let d := if o.recipe = 1 ∨ o.recipe = 2 then m else divFp (mulFp m c1) (addFp (sqrtFp (mulFp v c2)) o.eps)
  subFp w (mulFp o.lr (addFp d (mulFp o.wd w)))

/-- Non-finite elements of rows. -/
def nonFinite (rows : List (List Nat)) : Nat := (rows.flatten.filter (fun c => !finite32 c)).length

/-- A row of a region as a tile's row is narrowed (R273): the recipes whose moments are FP32 narrow nothing, so such a row stays as it
is, and its tally counts its elements. -/
def narrowMoment (g : Region) (u : Nat → Nat) (row : List Nat) (st : RowStats) : List Nat × Nat × Int × RowStats :=
  let c := narrowRow (if g.fmt = 0 then { g with ieee := true } else g) u row st
  if g.fmt = 0 then (row, c.2.1, c.2.2.1, c.2.2.2) else c

/-- The rows of a tile narrowed in their order (R177, R190). -/
def narrowRows (job step tileRow tileCol : Nat) (g : Region) (rows : List (List Nat)) : List (List Nat × Nat × Int) × RowStats :=
  let n := (rows.head?.map List.length).getD 0
  (rows.zipIdx).foldl (fun (a : List (List Nat × Nat × Int) × RowStats) x =>
    let c := narrowMoment g (fun e => stochBits job step tileRow tileCol (x.2 * n + e)) x.1 a.2
    (a.1 ++ [(c.1, c.2.1, c.2.2.1)], c.2.2.2)) ([], {})

/-- A narrowed row as it reads back (R273: the update uses the moments as they are stored). -/
def readBack (g : Region) (c : List Nat × Nat × Int) : List Nat :=
  (⟨g.fmt, c.1, if g.kind = 1 then scaleOfE8 c.2.1 else oneFp, c.2.2, none, 0⟩ : RowRead).values

/-- Rows of a tile as they are stored and read back. -/
def storedRows (job step tileRow tileCol : Nat) (regions : List Region) (region : Nat) (rows : List (List Nat)) : List (List Nat) :=
  match regions.find? (fun x => x.region == region) with
  | none => rows
  | some g => (narrowRows job step tileRow tileCol g rows).1.map (readBack g)

/-- A narrowed row of a tensor in its place (R183, R273): its words, and its scale in the screed block it shares with other rows, whose
scales stay. -/
def placeRow (m : Store) (g : Region) (d : WorkDone) (x : RowRef × List Nat × Nat × Int) : WorkDone :=
  let d1 := d.puts (placeWords x.1.addr (rowWords g.fmt x.2.1))
  if g.kind ≠ 1 then d1
  else
    let old (a : Nat) : Nat := ((d1.results.find? (fun r => r.1 == a)).elim (m a) Prod.snd).toNat
    let hd := x.1.block % 256 + g.kind * 2 ^ 8 + g.fmt * 2 ^ 10 + max (bits (old x.1.screed) 14 5) x.1.row * 2 ^ 14 + g.region * 2 ^ 19
    d1.puts [(x.1.screed, BitVec.ofNat 256 hd), (x.1.screed + 1, BitVec.ofNat 256 (putBits (old (x.1.screed + 1)) (8 * x.1.row) 8 x.2.2.1))]

/-- The rows of a tile of a tensor narrowed in place (R183, R273, R274), and the tile's tally. -/
def narrowInPlace (job step tileRow tileCol : Nat) (regions : List Region) (m : Store) (refs : List RowRef) (region : Nat) (rows : List (List Nat))
    (d : WorkDone) : WorkDone :=
  match regions.find? (fun g => g.region == region) with
  | none => d
  | some g =>
    let c := narrowRows job step tileRow tileCol g rows
    let d1 := (refs.zip c.1).foldl (placeRow m g) d
    { d1 with tallies := d1.tallies ++ [tileTally g tileRow tileCol 0 0 c.1 c.2] }

/-- The non-finite gradient elements of an operation that is an OPT_UPDATE, 0 of any other. -/
def badGradients (regions : List Region) (m : Store) : StepOp → Nat
  | .update _ rows _ _ _ => nonFinite (rows.map (fun r => (readRow regions m r.2.1).values))
  | _ => 0

/-- One OPT_UPDATE over the rows of a tile (R273, R274); `skip` says that some gradient of the step is not finite, and then every update of
the step is left out. -/
def runUpdate (job step : Nat) (regions : List Region) (m : Store) (skip : Bool) (desc : Nat)
    (rows : List (RowRef × RowRef × RowRef × RowRef)) (powers tileRow tileCol : Nat) (d : WorkDone) : WorkDone :=
  let o := optDesc desc
  let rd := readRow regions m
  let two := decide (o.mom2 ≠ 0xFFFF)
  let d1 := noteRows (rows.flatMap (fun r => [(r.1, rd r.1), (r.2.1, rd r.2.1), (r.2.2.1, rd r.2.2.1)] ++
    (if two then [(r.2.2.2, rd r.2.2.2)] else []))) d
  let bad := nonFinite (rows.map (fun r => (rd r.2.1).values))
  if 0 < bad then { d1 with skipped := d1.skipped ++ [(o.master, bad)] }
  else if skip then d1
  else
    let pw := (m powers).toNat
    let p1 := mulFp (bits pw 0 32) o.beta1
    let p2 := mulFp (bits pw 32 32) o.beta2
    let c1 := divFp oneFp (subFp oneFp p1)
    let c2 := divFp oneFp (subFp oneFp p2)
    let pw1 := putBits pw 0 32 p1
    let pw2 := if two then putBits pw1 32 32 p2 else pw1
    let grads := rows.map (fun r => (rd r.2.1).values)
    let ms := (grads.zip rows).map (fun x => (x.1.zip (rd x.2.2.2.1).values).map (fun y => newMoment1 o y.1 y.2))
    let vs := (grads.zip rows).map (fun x => (x.1.zip (rd x.2.2.2.2).values).map (fun y => newMoment2 o y.1 y.2))
    let mq := storedRows job step tileRow tileCol regions o.mom1 ms
    let vq := if two then storedRows job step tileRow tileCol regions o.mom2 vs else mq
    let ws := (rows.zip (mq.zip vq)).map (fun x => ((rd x.1.1).values.zip (x.2.1.zip x.2.2)).map (fun y => newMaster o c1 c2 y.2.1 y.2.2 y.1))
    let put (refs : List RowRef) (region : Nat) (l : List (List Nat)) (d : WorkDone) : WorkDone :=
      narrowInPlace job step tileRow tileCol regions m refs region l d
    let d2 := put (rows.map (fun r => r.2.2.1)) o.mom1 ms d1
    let d3 := if two then put (rows.map (fun r => r.2.2.2)) o.mom2 vs d2 else d2
    (put (rows.map (fun r => r.1)) o.master ws d3).put (powers, BitVec.ofNat 256 pw2)

/-! The operations of a step -/

/-- A feature vector of `f` features of 16 bits in the store (R201, R242). -/
def storeVector (m : Store) (addr f : Nat) : List Nat := (List.range f).map (storeElement m addr 16)

/-- The partial outputs of a rank as one word (R238, R242): 8 FP32 outputs, or under VOTE 16 class counts. -/
def packOutputs (agg : Nat) (o : List Nat) : W256 := BitVec.ofNat 256 (if agg = 1 then packElements 16 (o.take 16) else packElements 32 (o.take 8))

/-- A rank's word taken apart. -/
def unpackOutputs (agg w : Nat) : List Nat :=
  if agg = 1 then (List.range 16).map (fun i => bits w (16 * i) 16) else (List.range 8).map (fun i => bits w (32 * i) 32)

/-- Outputs in the layout of the program's region (R242): a word per vector, or verdict words four to a word. -/
def gridWords (g : Bytes) (outputs : Bool) (outs : List (List Nat)) : List W256 :=
  if outputs then outs.map (packOutputs (gridAgg g))
  else (List.range (ceilDiv outs.length 4)).map (fun i => BitVec.ofNat 256 (packElements 64 (((outs.drop (4 * i)).take 4).map (verdictWord g))))

/-- The rows an operation reads by their references, all of which are checked. -/
def opReads : StepOp → List RowRef
  | .gemm _ _ a w b => a ++ w ++ b.toList
  | .quantise _ r => r
  | .vector _ op => vecReads op
  | .topk _ _ _ rows => rows
  | .argmax _ rows => rows
  | .gather _ _ _ i => [i]
  | .intSum _ rows => rows
  | .grid _ _ _ _ leaves base => leaves ++ base.toList
  | .gridReduce _ _ _ _ => []
  | .lanes _ => []
  | .update _ rows _ _ _ => rows.flatMap (fun r => [r.1, r.2.1, r.2.2.1, r.2.2.2])

/-- The store words of a row and of the screed block it is read with (R168, R183). -/
def rowSpan (regions : List Region) (r : RowRef) : List Nat :=
  match regions.find? (fun g => g.region == r.region) with
  | none => [r.addr]
  | some g =>
    (List.range (rowWords g.fmt (List.replicate r.len 0)).length).map (r.addr + ·) ++
      (if g.kind = 0 then [] else (List.range (if g.kind = 1 then 2 else 6)).map (r.screed + ·))

/-- The store words an operation reads beside its rows: register loads, vectors, partial outputs, table rows and powers. -/
def looseWords (regions : List Region) (grids : List Bytes) (m : Store) : StepOp → List Nat
  | .lanes (.load _ addr) => (List.range 8).map (addr + ·)
  | .grid _ _ image vectors _ _ => vectors.flatMap (fun v => (List.range (ceilDiv (gridFeatures (grids.getD image [])) 16)).map (v + ·))
  | .gridReduce _ _ _ parts => parts.flatten
  | .gather _ base n i => (readRow regions m i).codes.flatMap (fun k => (List.range n).map (fun j => base + k * n + j))
  | .update _ _ powers _ _ => [powers]
  | _ => []

/-- Every store word that the operations of a step read (R185). -/
def stepReads (regions : List Region) (grids : List Bytes) (m : Store) (work : List StepOp) : List Nat :=
  (work.flatMap opReads).flatMap (rowSpan regions) ++ work.flatMap (looseWords regions grids m)

/-- A grid image with the leaf table and BASE that LEAF_REFIT's master rows hold (R236, R270); what the rows do not reach stays. -/
def refitImage (g : Bytes) (leaves base : List Nat) : Bytes :=
  let leaf := (List.range 16384).flatMap (fun i => toLE 4 (leaves.getD i (gridLeaf g i)))
  let b := (List.range 8).flatMap (fun o => toLE 4 (base.getD o (gridBase g o)))
  g.take 32 ++ b ++ slice g 64 (49408 - 64) ++ leaf

/-- The grid image an operation runs: the job's, or with the master leaves in it (R270). -/
def workingImage (rd : RowRef → RowRead) (g : Bytes) (leaves : List RowRef) (base : Option RowRef) : Bytes :=
  if leaves.isEmpty && base.isNone then g
  else refitImage g (leaves.flatMap (fun r => (rd r).values)) (base.elim [] (fun r => (rd r).values))

/-- One operation of a step. It reads the cell store, never what the step has written into the commit buffer (R212). -/
def runOp (job step : Nat) (regions : List Region) (grids : List Bytes) (first : Nat → Nat) (m : Store) (skip : Bool) (d : WorkDone) (op : StepOp) : WorkDone :=
  let rd := readRow regions m
  let noted := noteRows (readRows regions m (opReads op)) d
  match op with
  | .gemm out bank acts wgts bias =>
    let a := acts.map rd
    let w := wgts.map rd
    let ys := a.map (fun x => gemmRow x w (bias.map (fun r => (rd r).codes)))
    narrowTile job step regions first out (ys.map Prod.fst) ((ys.map Prod.snd).foldl (· + ·) 0) { noted with regs := gemmRegs bank a w d.regs }
  | .quantise out rows => narrowTile job step regions first out (rows.map (fun r => (rd r).values)) 0 noted
  | .vector out op => narrowTile job step regions first out (vecRows op (fun r => (rd r).values) (fun r => (rd r).codes)) 0 noted
  | .argmax addr rows => noted.puts (placeWords addr (rowWords 8 (rows.map (fun r => (maxRow (rd r).values).2))))
  | .topk out addr k rows =>
    let tops := rows.map (fun r => topkRow k (rd r).values)
    -- the index rows are rows of a tensor too: each starts at a word (R168)
    (narrowTile job step regions first out (tops.map (fun x => x.map Prod.fst)) 0 noted).puts
      (placeWords addr (tops.flatMap (fun x => rowWords 8 (x.map Prod.snd))))
  | .gather addr base n indices => noted.puts (placeWords addr ((rd indices).codes.flatMap (fun i => (List.range n).map (fun k => m (base + i * n + k)))))
  | .intSum addr rows => noted.puts (placeWords addr (rowWords 8 (intSumRows (rows.map (fun r => (rd r).codes)))))
  | .grid addr outputs image vectors leaves base =>
    let g := workingImage rd (grids.getD image []) leaves base
    let rs := vectors.map (fun v => rankResult g (storeVector m v (gridFeatures g)))
    let d1 := { noted with judged := noted.judged ++ rs.map (fun (r : RankResult) => (r.nans, r.ovf.length, r.nan.length)), regs := gridRegs g noted.regs }
    d1.puts (placeWords addr (gridWords g outputs (rs.map RankResult.out)))
  | .gridReduce addr outputs image parts =>
    let g := grids.getD image []
    let rs := parts.map (fun p => combineRanks (gridAgg g) (gridNout g) (p.map (fun a => ⟨unpackOutputs (gridAgg g) (m a).toNat, [], [], []⟩)))
    let d1 := { noted with reduced := noted.reduced ++ rs.map (fun (r : RankResult) => (r.ovf.length, r.nan.length)) }
    d1.puts (placeWords addr (gridWords g outputs (rs.map RankResult.out)))
  | .lanes op => runLanes m noted op
  | .update desc rows powers tr tc => runUpdate job step regions m skip desc rows powers tr tc d

/-- Whether a program's mode and the sizes of the cell's registers admit an operation (R195, R199, R201, R207): the grid works in
COMPARE mode only and GEMM does not, an output tile fits its bank, the vector registers are 32, and an update is by a descriptor of the
job image (R272). -/
def opFits (mode : Nat) (regions : List Region) (updates : List Nat) : StepOp → Bool
  | .gemm _ bank acts wgts _ =>
    let fmt := ((wgts.head?.bind (fun w => regions.find? (fun g => g.region == w.region))).map Region.fmt).getD 0
    mode != 1 && decide (bank < 2) && decide (acts.length * (ceilDiv wgts.length (tileColumns fmt) * tileColumns fmt) ≤ 65536)
  | .grid _ _ _ _ _ _ => mode == 1
  | .gridReduce _ _ _ _ => mode == 1
  | .lanes op =>
    (match op with
      | .load r _ => decide (r < 32)
      | .acc r b i => decide (r < 32 ∧ b < 2 ∧ i + 64 ≤ 65536)
      | .map1 _ r a => decide (r < 32 ∧ a < 32)
      | .map2 _ r a b => decide (r < 32 ∧ a < 32 ∧ b < 32)
      | .fma r a b c => decide (r < 32 ∧ a < 32 ∧ b < 32 ∧ c < 32)
      | .store _ r => decide (r < 32))
  | .quantise _ _ => true
  | .vector out (.allReduce n r parts received) =>
    -- the sums travel in FP32, and are narrowed once, at rank 0 (R326)
    reduceInOrder n r parts received && (r == 0 || (regions.find? (fun g => g.region == out.region)).any (fun g => g.fmt == 0))
  | .vector _ _ => true
  | .argmax _ _ => true
  | .topk _ _ _ _ => true
  | .gather _ _ _ _ => true
  | .intSum _ _ => true
  | .update desc _ _ _ _ => updates.contains desc

/-- The whole work of a step (R209): its operations in order, from the working registers as they stand. -/
def runWork (job step : Nat) (regions : List Region) (grids : List Bytes) (first : Nat → Nat) (store : Store) (regs : CellRegs) (work : List StepOp) : WorkDone :=
  work.foldl (runOp job step regions grids first store (work.any (fun op => badGradients regions store op != 0))) { regs }

end Sys2Proof.Machine
end

