-- ==== Sys2Proof/Machine/Cells.lean ====
section
/-!
DEFINITION. Cells (R25, R195 to R211, R224): states and tenancy, zeroing, stores and read-out, memory windows, and what
every end of a job does to its cells (R206, R261, R388). Log 35 names what the manual leaves open here.
-/
namespace Sys2Proof.Machine

/-- Words of a cell store (R195). -/
def storeWords : Nat := 262144
/-- Word `w` of the store of cell `c`. -/
def State.storeWord (s : State) (c w : Nat) : W256 := tabGet 0#256 (c * storeWords + w) s.copies.store
/-- `s` with a word of a cell store set. -/
def State.setStore (s : State) (c w : Nat) (v : W256) : State :=
  { s with copies.store := tabSet 0#256 (c * storeWords + w) v s.copies.store }

/-- The arrival counter CTR of a cell is incremented, modulo 2^32 (R218). -/
def bumpArrive (c ctr : Nat) (s : State) : State := s.bump32 (Addr.ARRIVE c ctr)

/-- The registers of a cell that zeroing clears (R205, R224, R244). -/
def zeroedRegs (c : Nat) : List Nat :=
  [Addr.STEP_COMMITTED c, Addr.STEP_LAUNCHED c, Addr.COMMIT_OCC c, Addr.PROG_BANK c, Addr.COPYQ_STATUS c, Addr.COPY_FAULT_INFO c,
    Addr.INLINE_Q c, Addr.BUSY_BEATS c, Addr.CALMED_BEATS c, Addr.STRETCH_BEATS c, Addr.STALL_BEATS c, Addr.CELL_C256_CORR c,
    Addr.CELL_RESIDUE_FLAGS c, Addr.COPY_FAULTS c, Addr.GRID_STATUS c, Addr.GRID_LAUNCHES c, Addr.NAN_FEATURE c, Addr.NAN_LAST c,
    Addr.OUT_OVF c, Addr.OUT_NAN c, Addr.PATH_MISMATCH c] ++ (List.range 16).map (Addr.ARRIVE c)

/-- A cell begins zeroing (R205): its store, commit buffer, accumulators, weight and vector registers and program banks hold
nothing, and its counters are cleared. -/
def zeroCell (c : Nat) (s : State) : State :=
  let s1 := (zeroedRegs c).foldl (fun s a => s.setReg a 0) s
  let s2 := { s1 with copies.store := s1.copies.store.filter (fun x => x.1 / storeWords != c) }
  (s2.updCell c (fun x => { x with inQ := [], lastLaunch := 0, active := none, standby := none, prog := none, next := 0, opens := [],
                                   q0 := [], q1 := [], more0 := [], more1 := [], again := [], again1 := [], resend := [], readOut := [], launches := 0
                                   regs := {}, banks := [] })).setFlag (Addr.CELL_STATE c) 5 true

/-- ZEROING_DONE (R205). -/
def execZeroingDone (t c : Nat) (s : State) : Host.Outcome State Fault Refusal :=
  .next (if c < 256 ∧ s.flag (Addr.CELL_STATE c) 5 then (advance t s).setFlag (Addr.CELL_STATE c) 5 false else s)

/-- A cell that leaves the tenant of the open session leaves the session (R430). -/
def leaveTrace (c st tenant : Nat) (s : State) : State :=
  match s.obs.trace with
  | some x => if x.tenant ≠ owner ∧ (st = 0 ∨ tenant ≠ x.tenant) ∧ x.cells.contains c then { s with obs.trace := some { x with left := x.left ++ [c] } } else s
  | none => s

/-- CELL_STATE.STATE and TENANT of a cell set. -/
def setCellState (c st tenant : Nat) (s : State) : State :=
  let s1 := leaveTrace c st tenant ((s.setField (Addr.CELL_STATE c) 0 2 st).setField (Addr.CELL_STATE c) 8 8 tenant)
  s1.setFlag (Addr.CELL_STATE c) 3 (s1.halted (c / 16))

/-- Whether an active or standby placement lies on a cell (R206). -/
def State.placedOn (s : State) (c : Nat) : Bool :=
  s.models.any (fun m => [m.2.a, m.2.b].any (fun x => x.state != 0 && x.replicas.any (fun r => r.contains c)))

/-- The refusal of one cell of CELL_ASSIGN (R204, R205, R400), none where its transition may be made. -/
def assignRefused (c target tenant : Nat) (s : State) : Option Nat :=
  let st := s.cellState c
  let legal := (st == 0 && target != 0) || (st != 0 && target == 0)
  if !legal then some St.BAD_PARAM
  else if s.flag (Addr.CELL_STATE c) 5 ∨ s.flag (Addr.CELL_STATE c) 6 then some St.BUSY
  else if st = 0 then (if s.tenantExists tenant then none else some St.BUSY)
  else if st = 1 then (if s.placedOn c then some St.BUSY else none)
  else if st = 2 then (if (s.jobOfCell c).isSome then some St.BUSY else none)
  else if (s.cellx c).qualified && (s.cellx c).reclaim.isNone then none else some St.BUSY

/-- A cell leaves every pool for UNCONFIGURED and is zeroed (R204, R205). -/
def unassignCell (c : Nat) (s : State) : State :=
  let s1 := ((setCellState c 0 0 s).setReg (Addr.HOLDER c) 0).setFlag (Addr.FENCED (c / 32)) (c % 32) false
  zeroCell c { s1 with beat.released := s1.beat.released.filter (· != c) }

/-- A cell enters INLINE or BULK for a tenant; it is zeroed where another tenant held it last (R205). -/
def enterPool (target tenant c : Nat) (s : State) : State :=
  let last := (s.cellx c).lastTenant
  let first := target = 1 ∧ (s.cellsIn (c / 16) 1).isEmpty
  let s1 := if last ≠ 0 ∧ last ≠ tenant + 1 then zeroCell c s else s
  let s2 := (setCellState c target tenant s1).updCell c (fun x => { x with lastTenant := tenant + 1 })
  if first then s2.setReg (Addr.ZC_INLINE (c / 16)) s2.zc else s2

/-- CELL_ASSIGN (R204). -/
def cmdCellAssign : CmdFn := fun e p s =>
  if !e.owner then refuse St.NOT_PERMITTED s
  else if p.length ≠ 36 ∨ !zerosAt p 34 2 ∨ 2 < byteAt p 32 then refuse St.BAD_PARAM s
  else
    let target := byteAt p 32
    let tenant := byteAt p 33
    let cells := cellMask p 0
    match cells.findSome? (fun c => (assignRefused c target tenant s).map (fun st => (c, st))) with
    | some (c, st) => (⟨st, toBE 1 c⟩, s)
    | none =>
      if target = 0 then (ok, cells.foldl (fun s c => unassignCell c s) s)
      else
        let s1 := cells.foldl (fun s c => enterPool target tenant c s) s
        (ok, if target = 1 then startRelease true cells s1 else s1)

/-- CELL_QUERY (R223, R351). -/
def cmdCellQuery : CmdFn := fun e p s =>
  if p.length ≠ 32 then refuse St.BAD_PARAM s
  else (⟨St.OK, (cellMask p 0).flatMap (fun c =>
    if e.owner || ((s.cellState c == 1 || s.cellState c == 2) && s.cellTenant c == e.tenant) then
      toBE 1 (s.field (Addr.CELL_STATE c) 0 8) ++ toBE 1 (s.field (Addr.PROG_BANK c) 2 2) ++ toBE 1 (s.cellTenant c) ++ [0#8]
    else List.replicate 4 0#8)⟩, s)

/-! Store read-out (R224) -/

/-- A write of STORE_CMD by the holding tenant `t` (R224): 8 words are read for STORE_DATA. -/
def wrStoreCmd (t c v : Nat) (s : State) : Nat × State :=
  if s.cellState c ≠ 2 ∨ s.cellTenant c ≠ t ∨ !s.halted (c / 16) then (St.NOT_PERMITTED, s)
  else if !bitAt v 0 then (St.OK, s)
  else
    let a := s.reg (Addr.STORE_ADDR c)
    let d := s.draw Topic.integrity.num
    let s1 := d.2.bump32 (Addr.CELL_C256_CORR c) (d.1 % 9)
    (St.OK, (s1.updCell c (fun x => { x with readOut := (List.range 8).map (fun i => s.storeWord c ((a + i) % storeWords)) })).setReg
      (Addr.STORE_STATUS c) St.OK)

/-- A read of STORE_DATA_i (R224): bits [32i+31:32i] of the current word; STORE_DATA_7 advances to the next. -/
def rdStoreData (c i : Nat) (s : State) : Nat × State :=
  let w := ((s.cellx c).readOut.head?.map BitVec.toNat).getD 0
  (bits w (32 * i) 32, if i = 7 then s.updCell c (fun x => { x with readOut := x.readOut.tail }) else s)

/-! Memory windows (R220, R221) -/

/-- The space type, device and offset of a span address (R215). -/
def spaceOf (a : Nat) : Nat := bits a 60 4
def deviceOf (a : Nat) : Nat := bits a 47 13
def offsetOf (a : Nat) : Nat := bits a 0 47

/-- Whether a range of this device's HBM_ILV space meets the statistics record at a STATS_ADDR (R191, R215, R216): of the HBM by its
module addresses, or in a stack of it word by word; none in a cell store or of another device. -/
def State.meetsRecord (s : State) (a n stats : Nat) : Bool :=
  deviceOf stats == s.device &&
    (if spaceOf stats = 0 then rangesOverlap a n (offsetOf stats) 96
    else spaceOf stats == 1 && (List.range 3).any (fun i =>
      rangesOverlap a n (moduleAddr (bits (offsetOf stats) 42 4) (bits (offsetOf stats) 0 42 + 32 * i)) 32))

/-- Whether a range of bytes meets what another tenant than `t` holds: windows, flow regions and rings of others, any flow
region, the statistics records of another's jobs and model slots, or the trace region of another's session (R220). -/
def windowRefused (t a n : Nat) (s : State) : Bool :=
  s.mem.windows.any (fun w => w.1 / 16 != t && rangesOverlap a n (w.2.base * 65536) (w.2.length * 65536)) ||
  (List.range 256).any (fun u => rangesOverlap a n (s.regionOf u).1 (s.regionOf u).2) ||
  s.jobs.any (fun j => j.live && j.tenant != t && j.image.regions.any (fun r => s.meetsRecord a n (bits r.desc 128 64))) ||
  s.models.any (fun m => m.1 / 16 != t && [m.2.a, m.2.b].any (fun y => y.state != 0 && y.pkg.regions.any (fun w => s.meetsRecord a n (bits w 128 64)))) ||
  (match s.obs.trace with
   | some x => x.tenant != t && rangesOverlap a n (s.reg Addr.TRACE_BASE) (s.reg Addr.TRACE_LEN * 1048576)
   | none => false)

/-- MEM_WINDOW_SET (R220). -/
def cmdMemWindowSet : CmdFn := fun e p s =>
  if !e.owner then refuse St.NOT_PERMITTED s
  else if p.length ≠ 12 ∨ !zerosAt p 2 2 ∨ 15 < byteAt p 0 ∨ 7 < byteAt p 1 then refuse St.BAD_PARAM s
  else
    let key := 16 * e.tenant + byteAt p 0
    let base := be p 4 4
    let len := be p 8 4
    let f := byteAt p 1
    if !bitAt f 0 then (ok, { s with mem.windows := tabSet {} key {} s.mem.windows })
    else if len = 0 ∨ hbmBytes < (base + len) * 65536 ∨ windowRefused e.tenant (base * 65536) (len * 65536) s then refuse St.BAD_PARAM s
    else (ok, { s with mem.windows := tabSet {} key ⟨base, len, bitAt f 1, bitAt f 2⟩ s.mem.windows })

/-- MEM_MAP_READ (R221, R351). -/
def cmdMemMapRead : CmdFn := fun e p s =>
  if p.length ≠ 0 then refuse St.BAD_PARAM s
  else
    let ws := (List.range 16).map (fun w => (w, s.memWindow e.tenant w))
    let one (x : Nat × MemWindow) : Bytes :=
      toBE 1 x.1 ++ toBE 1 (b2n (x.2.length != 0) + b2n x.2.read * 2 + b2n x.2.write * 4) ++ toBE 2 0 ++ toBE 4 x.2.base ++ toBE 4 x.2.length
    let blocks := (sortBy (fun a b => decide (a ≤ b)) (s.mem.retired.map Prod.snd).eraseDups).filter
      (fun b => ws.any (fun x => decide (x.2.base ≤ b ∧ b < x.2.base + x.2.length)))
    (⟨St.OK, ws.flatMap one ++ toBE 4 blocks.length ++ blocks.flatMap (toBE 4)⟩, s)

/-! The end of a job's tenure of its cells (R206, R261, R384, R388) -/

/-- A cell's sequencer stops: nothing is open, queued or released, and its arrival counters are cleared. -/
def stopCell (c : Nat) (s : State) : State :=
  let s1 := ((s.setReg (Addr.COMMIT_OCC c) 0).setReg (Addr.COPYQ_STATUS c) (s.reg (Addr.COPYQ_STATUS c) / 65536 * 65536)).setFlag
    (Addr.CELL_STATE c) 2 false
  let s2 := s1.updCell c (fun x => { x with opens := [], q0 := [], q1 := [], more0 := [], more1 := [], again := [], again1 := [], resend := [] })
  { s2 with beat.released := s2.beat.released.filter (· != c), beat.ramps := s2.beat.ramps.filter (fun r => r.1 != c)
            beat.gusts := s2.beat.gusts.map (fun (g : GustSequence) => { g with cells := g.cells.filter (· != c) }) }

/-- The send lists of abandoned steps (R384, R388): what they sent is to be revoked. -/
def killSends (p : SendList → Bool) (l : List SendList) : List SendList :=
  l.map (fun x => if p x ∧ x.dead = 0 ∧ x.verdict ≠ some true then { x with dead := if x.verdict = some false then 2 else 1, verdict := some false } else x)

/-- A job's cells are returned (R206): none is held or runs; clusters halted for its barrier leave the halt. -/
def returnCells (j : Job) (s : State) : State :=
  let s1 := j.cells.foldl (fun s c => ((stopCell c s).setReg (Addr.HOLDER c) 0).updCell c (fun x => { x with prog := none })) s
  { unhaltClusters [.barrier] j.atBarrier s1 with
    copies.sends := killSends (fun x => x.tenant == j.tenant && x.job == j.id) s1.copies.sends }

/-- A job ends in a state (5 ENDED, 6 FAILED, 7 CANCELLED) with a status (R261): its cells are returned; launched copies
run out. -/
def endJob (tenant id st status : Nat) (s : State) : State :=
  match s.job tenant id with
  | some j => if j.live then setJobState tenant id st status (returnCells j s) else s
  | none => s

/-- A job that is live fails with a status. -/
def failJob (tenant id status : Nat) (s : State) : State := endJob tenant id 6 status s

/-! Checkpoint slots (R263) -/

/-- The offset of slot `i` of a job. -/
def Job.slotAt (j : Job) (i : Nat) : Nat := j.ckptBase + i * (j.ckptLen / 2)

/-- The header of a slot as memory holds it: JOB_ID, BARRIER, B and VALID. -/
def State.slotHeader (s : State) (j : Job) (i : Nat) : Nat × Nat × Nat × Bool :=
  let w := natLE (s.readBytes j.tenant (j.slotAt i) 32)
  (bits w 0 64, bits w 64 64, bits w 128 64, bitAt w 255)

/-- The slots a restart may use: VALID and of this job; for a group job, of a barrier the manager has logged (R325). -/
def State.validSlots (s : State) (j : Job) : List (Nat × Nat × Nat) :=
  if j.ckptLen = 0 then [] else
  ((List.range 2).filterMap (fun i =>
    let h := s.slotHeader j i
    if h.2.2.2 && h.1 == j.id && (j.image.members.isEmpty || decide (h.2.1 ≤ j.loggedBarrier)) then some (i, h.2.1, h.2.2.1) else none))

/-- The last VALID slot: its index, BARRIER and B. -/
def State.lastSlot (s : State) (j : Job) : Option (Nat × Nat × Nat) :=
  (s.validSlots j).foldl (fun b x => match b with
    | some y => if y.2.1 < x.2.1 then some x else b
    | none => some x) none

/-- A job falls back to its last checkpoint with a status (R388): its steps and copies are abandoned and it is RESTARTING;
with no restartable checkpoint, or after RESTART_LIMIT restarts in a row, it ends FAILED (R261, R388). -/
def failBack (tenant id status : Nat) (s : State) : State :=
  match s.job tenant id with
  | none => s
  | some j =>
    if !j.live ∨ j.state = 4 then s
    else if (s.lastSlot j).isNone then failJob tenant id status s
    else if s.reg Addr.RESTART_LIMIT ≤ j.restarts then failJob tenant id St.JOB_FAILED s
    else
      let s1 := unhaltClusters [.barrier] j.atBarrier (j.cells.foldl (fun s c => stopCell c s) s)
      let s2 := { s1 with copies := { s1.copies with
        flights := s1.copies.flights.filter (fun f => !(f.tenant == tenant && f.job == id && f.queue < 512))
        sends := killSends (fun x => x.tenant == tenant && x.job == id) s1.copies.sends } }
      let s3 := s2.updJob tenant id (fun j => { j with restarts := j.restarts + 1, atBarrier := [], arrivals := [], resumeAt := none })
      setJobState tenant id 4 status s3

end Sys2Proof.Machine
end

