-- ==== Sys2Proof/Machine/Copy.lean ====
section
/-!
DEFINITION. Planned copies (R213 to R222) and their remote halves (R313 to R320): descriptors, span addresses and their
checks, launches, moves, notices, faults, landing zones, and the tokens of speculative sends.
Logs 29, 30, 44 and 45 name what the manual leaves open here.
-/
namespace Sys2Proof.Machine

/-! Events of the chapter (R356) -/
def evCopyDone : Nat := 0xFF20
def evCopyFault : Nat := 0xFF21
def evSpecTimeout : Nat := 0xFF62
def evHbmUncorrectable : Nat := 0xFF76

/-! Descriptors (R214) -/

/-- A descriptor image taken apart: 64 bytes, word 0 first. -/
def descOfImage (p : Bytes) : CopyDesc :=
  let w := natLE p
  { src := bits w 0 64, dst := bits w 64 64, launch := bits w 128 64, length := bits w 192 32, rows := bits w 224 16, flags := bits w 240 16,
    srcStride := bits w 256 32, dstStride := bits w 288 32, step := bits w 320 64, copyTag := bits w 384 16, reserved := bits w 400 112 }

namespace CopyFlag
def loc (d : CopyDesc) : Bool := bitAt d.flags 0
def spec (d : CopyDesc) : Bool := bitAt d.flags 1
def waitCommit (d : CopyDesc) : Bool := bitAt d.flags 2
def notify (d : CopyDesc) : Bool := bitAt d.flags 3
def ctr (d : CopyDesc) : Nat := bits d.flags 4 4
def kind (d : CopyDesc) : Nat := bits d.flags 8 2
end CopyFlag

/-- Whether a descriptor obeys R214 and the reserved fields of its addresses' spaces are known ones (R10). -/
def descOk (d : CopyDesc) : Bool :=
  decide (32 ≤ d.length) && d.length % 32 == 0 && d.srcStride % 32 == 0 && d.dstStride % 32 == 0 && d.src % 32 == 0 && d.dst % 32 == 0 &&
    d.reserved == 0 && decide (d.flags < 1024) && decide (CopyFlag.kind d ≤ 1) && (!CopyFlag.spec d || spaceOf d.dst == 3)

/-- Whether an address of a descriptor is on this device (R214, R215). -/
def State.localAddr (s : State) (d : CopyDesc) (a : Nat) : Bool := CopyFlag.loc d || deviceOf a == s.device

/-- The (source, destination) offsets of a copy's words, rows ascending and words ascending within a row (R217). -/
def copyPairs (d : CopyDesc) : List (Nat × Nat) :=
  (List.range (d.rows + 1)).flatMap (fun r =>
    (List.range (d.length / 32)).map (fun w => (offsetOf d.src + r * d.srcStride + 32 * w, offsetOf d.dst + r * d.dstStride + 32 * w)))

/-! Checks (R219, R314) -/

/-- The landing zone of an offset (R317). -/
def State.zoneOf (s : State) (off : Nat) : Option Zone := s.copies.zones.find? (fun z => z.num == off / 2 ^ 40)

/-- The live job of a tenant whose identifier ends in the given 32 bits (R306, R314). -/
def State.jobLow (s : State) (tenant low : Nat) : Option Job :=
  s.jobs.find? (fun j => j.live && j.tenant == tenant && j.id % 2 ^ 32 == low % 2 ^ 32)

/-- Whether cell `c` is held by the job a copy serves, or for a copy of no job by the tenant as a BULK cell (R219, R24). -/
def State.holdsCell (s : State) (tenant : Nat) (job : Option Nat) (c : Nat) : Bool :=
  match job with
  | some low => (match s.jobLow tenant low with | some j => j.cells.contains c | none => false)
  | none => s.cellState c == 2 && s.cellTenant c == tenant

/-- Where a half of a landing slot lies (R317; log 44): slot by slot, the two halves in order. -/
def Zone.halfAt (z : Zone) (slot half : Nat) : Nat := z.base + (2 * slot + half) * (z.slotBytes * 1024)

/-- The cause of R219 for `n` bytes of this device at a space and offset, 0 where the access may be made. A LANDING
destination takes speculative sends only (R212, R318). In the ERROR state every HBM access faults (R466). -/
def State.spanCause (s : State) (tenant : Nat) (job : Option Nat) (write spec : Bool) (ty off n : Nat) : Nat :=
  if s.secError ∧ ty ≤ 1 then 5
  else if ty = 0 then
    if hbmBytes < off + n then 4 else if !s.inWindows tenant off n write then 1 else if s.touchesRetired off n then 3 else 0
  else if ty = 1 then
    if bitAt off 46 ∨ 2 ^ 47 ≤ off ∨ 51539607552 < bits off 0 42 + n then 4
    else
      let ws := (List.range (n / 32)).map (fun i => moduleAddr (bits off 42 4) (bits off 0 42 + 32 * i))
      if ws.any (fun a => !s.inWindows tenant a 32 write) then 1 else if ws.any (fun a => s.touchesRetired a 32) then 3 else 0
  else if ty = 2 then
    if 2 ^ 31 ≤ off ∨ 2 ^ 23 < off % 2 ^ 23 + n then 4 else if !s.holdsCell tenant job (off / 2 ^ 23) then 2 else 0
  else if ty = 3 then
    match s.zoneOf off with
    | none => 4
    | some z =>
      if z.tenant ≠ tenant ∨ job ≠ some (z.job % 2 ^ 32) ∨ (write && !spec) ∨ z.slots ≤ bits off 28 12 ∨ z.slotBytes * 1024 < off % 2 ^ 28 + n then 4
      else
        let e := tabGet default (bits off 28 12) z.entries
        if s.touchesRetired (z.halfAt (bits off 28 12) (if write then 1 - e.cur else e.cur) + off % 2 ^ 28) n then 3 else 0
  else 4

/-- The first cause met by the rows of a copy at one of its ends. -/
def State.endCause (s : State) (tenant : Nat) (job : Option Nat) (write : Bool) (d : CopyDesc) : Nat :=
  let a := if write then d.dst else d.src
  let stride := if write then d.dstStride else d.srcStride
  ((List.range (d.rows + 1)).map (fun r => s.spanCause tenant job write (CopyFlag.spec d) (spaceOf a) (offsetOf a + r * stride) d.length)).foldl
    (fun c x => if c = 0 then x else c) 0

/-- The cause met by the ends of a copy that lie on this device, and by a route that is missing (R215, R219, R315). -/
def State.copyCause (s : State) (tenant : Nat) (job : Option Nat) (d : CopyDesc) : Nat :=
  let ls := s.localAddr d d.src
  let ld := s.localAddr d d.dst
  if !descOk d ∨ 3 < spaceOf d.src ∨ 3 < spaceOf d.dst ∨ (!ls ∧ !ld) ∨ (job.isNone ∧ CopyFlag.spec d) then 4
  else
    let a := if ls then s.endCause tenant job false d else 0
    let b := if ld then s.endCause tenant job true d else 0
    if a ≠ 0 then a else if b ≠ 0 then b
    else
      let peer := if ls then deviceOf d.dst else deviceOf d.src
      if ls ∧ ld then 0 else if !s.joined ∨ s.hop s.device peer = .none then 6 else 0

/-- Whether a STATS_ADDR lies outside the memory of the tenant of a bulk job (R189): of this device, its windows and the cells its job holds; another
device checks its own (R314). -/
def State.statsRefused (s : State) (tenant : Nat) (job : Option Nat) (stats : Nat) : Bool :=
  if 3 ≤ spaceOf stats then true
  else deviceOf stats == s.device && s.spanCause tenant job true false (spaceOf stats) (offsetOf stats) 96 != 0

/-- Whether the STATS_ADDR of an inline region lies outside its tenant's windows of this device's HBM (R23, R189): the inline path
writes nothing else. -/
def State.inlineStatsRefused (s : State) (tenant stats : Nat) : Bool :=
  deviceOf stats != s.device || decide (2 ≤ spaceOf stats) || s.statsRefused tenant none stats

/-! Words of the span -/

/-- The state of a landing slot. -/
def Zone.slot (z : Zone) (i : Nat) : LandSlot := tabGet default i z.entries

/-- `s` with a landing slot changed. -/
def State.updSlot (s : State) (zone slot : Nat) (f : LandSlot → LandSlot) : State :=
  { s with copies.zones := s.copies.zones.map (fun z =>
      if z.num = zone then { z with entries := tabSet default slot (f (z.slot slot)) z.entries } else z) }

/-- The module address of an HBM or LANDING offset; `pend` names the unpublished half. -/
def State.hbmAddr (s : State) (ty off : Nat) (pend : Bool) : Nat :=
  if ty = 1 then moduleAddr (bits off 42 4) (bits off 0 42)
  else if ty = 3 then
    match s.zoneOf off with
    | some z => z.halfAt (bits off 28 12) (if pend then 1 - (z.slot (bits off 28 12)).cur else (z.slot (bits off 28 12)).cur) + off % 2 ^ 28
    | none => 0
  else off

/-- A word of this device as tenant `t` reads it (R220, R449): a cell-store word is not encrypted (R205). -/
def State.readSpan (s : State) (t ty off : Nat) : W256 :=
  if ty = 2 then s.storeWord (off / 2 ^ 23) (off % 2 ^ 23 / 32)
  else BitVec.ofNat 256 (natLE (s.readBytes t (s.hbmAddr ty off false) 32))

/-- The words that copies have written on the present beat, with their highest source cell plus 1 (R58): a word of the cell stores
by cell and place, and after them those of the HBM. -/
def State.beatWrites (s : State) : Tab Nat := if s.copies.beatOf = s.zc then s.copies.beatWrites else []

/-- A cell-store word written by a copy whose source is cell `src` (R58, R222): of copies that write one word on one beat,
the highest-numbered source cell's data remains. What the word held before the beat is kept for a step that reads it. -/
def copyStore (src c w : Nat) (v : W256) (s : State) : State :=
  let same := s.copies.beatOf = s.zc
  let writes := s.beatWrites
  let old := if same then s.copies.beatOld else []
  let key := c * storeWords + w
  if src + 1 < tabGet 0 key writes then s
  else
    let s1 := s.setStore c w v
    { s1 with copies := { s1.copies with
      beatOf := s.zc, beatWrites := tabSet 0 key (src + 1) writes
      beatOld := if old.any (fun x => x.1 == key) then old else old ++ [(key, s.storeWord c w)] } }

/-- A word of a cell store as a step reads it (R222): what it held before the copies of the present beat wrote it. -/
def State.stepWord (s : State) (c w : Nat) : W256 :=
  match (if s.copies.beatOf = s.zc then s.copies.beatOld else []).find? (fun x => x.1 == c * storeWords + w) with
  | some x => x.2
  | none => s.storeWord c w

/-- A word written by a copy of tenant `t` whose source is cell `src` (R58, R220, R317, R449). -/
def State.writeSpan (s : State) (t src ty off : Nat) (v : W256) : State :=
  if ty = 2 then copyStore src (off / 2 ^ 23) (off % 2 ^ 23 / 32) v s
  else
    let a := s.hbmAddr ty off true
    let key := 256 * storeWords + a / 32
    if src + 1 < min 256 (tabGet 0 key s.beatWrites) then s
    else
      let s1 := s.storeBytes t a (toLE 32 v.toNat)
      { s1 with copies := { s1.copies with
        beatOf := s.zc, beatWrites := tabSet 0 key (src + 1) s.beatWrites
        beatOld := if s.copies.beatOf = s.zc then s.copies.beatOld else [] } }

/-- The cell of an offset of space CELL. -/
def cellOf (ty off : Nat) : Option Nat := if ty = 2 then some (off / 2 ^ 23 % 256) else none

/-- The words a copy engine or router moves for one word (R225): `k` is the issuing cluster of a copy without a cell. -/
def countWords (k : Nat) (src dst : Option Nat) (n : Nat) (s : State) : State :=
  match src, dst with
  | some a, some b =>
    if a / 16 = b / 16 then s.bump64 (Addr.ROUTER_WORDS (a / 16)) n
    else (s.bump64 (Addr.CE_WORDS_OUT (a / 16)) n).bump64 (Addr.CE_WORDS_IN (b / 16)) n
  | some a, none => s.bump64 (Addr.CE_WORDS_OUT (a / 16)) n
  | none, some b => s.bump64 (Addr.CE_WORDS_IN (b / 16)) n
  | none, none => (s.bump64 (Addr.CE_WORDS_OUT k) n).bump64 (Addr.CE_WORDS_IN k) n

/-! Flights -/

/-- The cell of a compiled queue and the cluster whose engine carries a queue (R213). -/
def queueCell (q : Nat) : Option Nat := if q < 512 then some (q / 2) else none
def queueCluster (q : Nat) : Nat := if q < 512 then q / 32 else q - 512

/-- The job a flight serves, as the checks name it. -/
def Flight.own (f : Flight) : Option Nat := if f.queue < 512 then some (f.job % 2 ^ 32) else none

/-- The word of the source that a flight reads: a speculative copy reads the commit buffer where its step's results lie
(R212, R318). -/
def State.sourceWord (s : State) (f : Flight) (off : Nat) : W256 :=
  match f.held.find? (fun h => h.1 == off) with
  | some h => h.2
  | none => s.readSpan f.tenant (spaceOf f.desc.src) off

/-- One word of a local copy moves. -/
def moveWord (f : Flight) (s : State) (p : Nat × Nat) : State :=
  let v := s.sourceWord f p.1
  let sty := spaceOf f.desc.src
  let dty := spaceOf f.desc.dst
  let s1 := if sty = 2 then s else countHbm false (s.hbmAddr sty p.1 false) 32 s
  countWords (queueCluster f.queue) (cellOf sty p.1) (cellOf dty p.2) 1
    (s1.writeSpan f.tenant ((cellOf sty p.1).getD 0) dty p.2 v)

/-- The first `n` words of a local copy move (R217). -/
def moveWords (f : Flight) (n : Nat) (s : State) : State := ((copyPairs f.desc).take n).foldl (moveWord f) s

/-- `s` without a flight. -/
def dropFlight (id : Nat) (s : State) : State := { s with copies.flights := s.copies.flights.filter (fun f => f.id != id) }

/-- The held counts of a cell's copy queues (R224): at most 64 of a queue's descriptors are loaded at a time (R213). -/
def syncQueues (c : Nat) (s : State) : State :=
  let x := s.cellx c
  (s.setField (Addr.COPYQ_STATUS c) 0 7 (min 64 (x.again.length + x.q0.length))).setField (Addr.COPYQ_STATUS c) 8 7 (min 64 (x.again1.length + x.resend.length + x.q1.length))

/-- The held count of a cluster's software queue (R225). -/
def syncSoft (k : Nat) (s : State) : State := s.setField (Addr.SWQ_STATUS k) 0 7 (tabGet [] k s.copies.soft).length

/-- The status of a copy fault cause (R219). -/
def causeStatus (cause : Nat) : Nat := if cause ≤ 2 then St.NOT_PERMITTED else if cause ≤ 4 then St.BAD_PARAM else St.JOB_FAILED

/-- A copy faults with a cause (R219, R388). In a compiled queue the job fails, for causes 5 and 6 back to its checkpoint;
in a software queue the completion event carries the status. -/
def copyFault (f : Flight) (cause : Nat) (s0 : State) : State :=
  let s := dropFlight f.id s0
  match queueCell f.queue with
  | some c =>
    let q := f.queue % 2
    let info := cause + q * 8 + f.slot % 64 * 16 + f.desc.copyTag % 2 ^ 16 * 2 ^ 16
    let s1 := (((s.setFlag (Addr.COPYQ_STATUS c) (16 + q) true).setReg (Addr.COPY_FAULT_INFO c) info).bump32 (Addr.COPY_FAULTS c)).raiseEvent
      evCopyFault f.tenant [f.job, c, q, f.desc.copyTag, cause]
    if cause ≤ 4 then failJob f.tenant f.job St.JOB_FAILED s1 else failBack f.tenant f.job St.JOB_FAILED s1
  | none =>
    let k := f.queue - 512
    let s1 := (s.setFlag (Addr.SWQ_STATUS k) 8 true).setField (Addr.SWQ_STATUS k) 9 3 cause
    { s1 with copies.lastFault := tabSet (0, 0) (k * 256 + f.tenant) (cause, f.desc.copyTag) s1.copies.lastFault }.raiseFor
      evCopyDone f.tenant f.session f.tag (causeStatus cause) [f.desc.copyTag]

/-! Landing zones and tokens (R317 to R319) -/

/-- A slot publishes its pending half (R317, R319): CUR flips and its notices count in NOTIFY_CELL. -/
def publish (z : Zone) (i : Nat) (s : State) : State :=
  let e := z.slot i
  let s1 := e.notices.foldl (fun s n => bumpArrive z.cell (n % 16) s) s
  s1.updSlot z.num i (fun e => { e with cur := 1 - e.cur, pending := none, notices := [], confirmed := false })

/-- Whether a copy is reading a slot. -/
def State.slotRead (s : State) (zone slot : Nat) : Bool := s.copies.readers.any (fun r => r.1 == zone && r.2.1 == slot)

/-- The slots pending for a tuple, with their zones. -/
def State.pendingSlots (s : State) (src job step attempt : Nat) : List (Zone × Nat) :=
  (s.copies.zones.filter (fun z => z.job % 2 ^ 32 == job % 2 ^ 32)).flatMap (fun z =>
    (z.entries.filter (fun e => e.2.pending == some (src, step, attempt))).map (fun e => (z, e.1)))

/-- CONFIRM for a tuple (R319): each slot pending for it publishes, once no copy reads it (R317, R332). -/
def confirmTuple (src job step attempt : Nat) (s : State) : State :=
  (s.pendingSlots src job step attempt).foldl (fun s x =>
    if s.slotRead x.1.num x.2 then s.updSlot x.1.num x.2 (fun e => { e with confirmed := true }) else publish x.1 x.2 s) s

/-- A pending half is dropped and CUR kept (R319). -/
def dropPending (zone slot : Nat) (s : State) : State :=
  s.updSlot zone slot (fun e => { e with pending := none, notices := [], confirmed := false })

/-- REVOKE for a tuple (R319). -/
def revokeTuple (src job step attempt : Nat) (s : State) : State :=
  (s.pendingSlots src job step attempt).foldl (fun s x => dropPending x.1.num x.2 s) s

/-- A reader of a slot finishes (R317): a confirmed slot with no reader left publishes. -/
def endReads (flight : Nat) (s : State) : State :=
  let mine := s.copies.readers.filter (fun r => r.2.2 == flight)
  let s1 := { s with copies.readers := s.copies.readers.filter (fun r => r.2.2 != flight) }
  mine.foldl (fun s r =>
    match s.copies.zones.find? (fun z => z.num == r.1) with
    | some z => if (z.slot r.2.1).confirmed && !s.slotRead r.1 r.2.1 then publish z r.2.1 s else s
    | none => s) s1

/-- The cause with which a speculative packet is refused at its slot (R318), 0 where it may be taken. -/
def State.specCause (s : State) (off src step : Nat) : Nat :=
  match s.zoneOf off with
  | none => 4
  | some z =>
    match (z.slot (bits off 28 12)).pending with
    | some p => if p.1 = src ∧ p.2.1 = step then 0 else 4
    | none => 0

/-- A slot becomes PENDING for a tuple (R318, R319): a higher attempt of the same source and step drops the lower half. -/
def markPending (off src step attempt notice : Nat) (notify : Bool) (s : State) : State :=
  match s.zoneOf off with
  | none => s
  | some z =>
    s.updSlot z.num (bits off 28 12) (fun e =>
      let fresh := e.pending ≠ some (src, step, attempt)
      let old := if fresh then [] else e.notices
      { e with pending := some (src, step, attempt), since := if fresh then s.now else e.since
               notices := if notify && !old.contains notice then old ++ [notice] else old })

/-- The devices a send list has sent to. -/
def State.sendDevices (s : State) (x : SendList) : List Nat :=
  ((x.sent.map (fun d => if s.localAddr d.2 d.2.dst then s.device else deviceOf d.2.dst))).eraseDups

/-- Whether a copy of a send list's attempt is still in flight. -/
def State.sendsOut (s : State) (x : SendList) : Bool :=
  s.copies.flights.any (fun f => f.queue == 2 * x.cell + 1 && CopyFlag.spec f.desc && f.desc.step == x.step)

/-- A token to a device (R319). -/
def sendToken (ty : Nat) (x : SendList) (dev : Nat) (s : State) : State :=
  sendPacket { ty, vc := 3, dst := dev, src := s.device, cell := x.cell, job := x.job, step := x.step, attempt := x.attempt, tenant := x.tenant } [] s

/-- A send list changed. -/
def State.updSend (s : State) (id : Nat) (f : SendList → SendList) : State :=
  { s with copies.sends := s.copies.sends.map (fun x => if x.id = id then f x else x) }

/-- After a failed attempt's halves are all dropped and the clean result is committed, the same list is sent again with
ATTEMPT + 1 (R319, R376). -/
def resendList (x : SendList) (s : State) : State :=
  let s1 := s.updSend x.id (fun x => { x with attempt := x.attempt + 1, sent := [], verdict := some true, clean := false, revoking := [] })
  syncQueues x.cell (s1.updCell x.cell (fun c => { c with resend := c.resend ++ x.sent }))

/-- A send list advances (R319): with its verdict known and every packet of it acknowledged, the tokens go out. -/
def advanceSend (id : Nat) (s : State) : State :=
  match s.copies.sends.find? (fun x => x.id == id) with
  | none => s
  | some x =>
    if s.sendsOut x then s
    else
      match x.verdict with
      | none => s
      | some true =>
        if x.sent.length < x.size then s
        else
          let s1 := (s.sendDevices x).foldl (fun s d =>
            if d = s.device then confirmTuple d x.job (x.step % 2 ^ 32) (x.attempt % 16) s else sendToken tyConfirm x d s) s
          { s1 with copies.sends := s1.copies.sends.filter (fun y => y.id != id) }
      | some false =>
        if !x.revoking.isEmpty then s
        else if x.dead ≠ 0 then { s with copies.sends := s.copies.sends.filter (fun y => y.id != id) }
        else if x.clean then resendList x s else s

/-- The REVOKEs of a send list whose packets are all acknowledged go out (R319); this device's own halves drop at once. -/
def sendRevokes (id : Nat) (s : State) : State :=
  match s.copies.sends.find? (fun x => x.id == id) with
  | none => s
  | some x0 =>
    let x := if x0.dead = 1 then { x0 with dead := 2, revoking := (s.sendDevices x0).map (fun d => (d, 0)) } else x0
    let s := s.updSend x.id (fun _ => x)
    if x.verdict ≠ some false ∨ s.sendsOut x then s
    else
      let todo := (x.revoking.filter (fun r => r.2 == 0)).map Prod.fst
      let s1 := todo.foldl (fun s d =>
        if d = s.device then revokeTuple d x.job (x.step % 2 ^ 32) (x.attempt % 16) s else sendToken tyRevoke x d s) s
      s1.updSend id (fun y => { y with revoking := (y.revoking.filter (fun r => r.1 != s.device)).map (fun r => (r.1, if r.2 = 0 then s.now + 1 else r.2)) })

/-- Every send list advances as far as it can. -/
def advanceSends (s : State) : State := s.copies.sends.foldl (fun s x => advanceSend x.id (sendRevokes x.id s)) s

/-- The verdict on a step's attempt reaches its send list (R319): a failed attempt is revoked at every device it reached. -/
def settleSend (cell step : Nat) (good : Bool) (s : State) : State :=
  match s.copies.sends.find? (fun x => x.cell == cell && x.step == step && x.dead == 0) with
  | none => s
  | some x =>
    if good then
      advanceSends (s.updSend x.id (fun x => if x.verdict = some false then { x with clean := true } else { x with verdict := some true }))
    else
      advanceSends (s.updSend x.id (fun y => { y with verdict := some false, revoking := (s.sendDevices x).map (fun d => (d, 0)) }))

/-! Completion (R218) -/

/-- The notice of a copy that completed on this device (R218). -/
def notifyCopy (f : Flight) (s : State) : State :=
  match queueCell f.queue with
  | none => s.raiseFor evCopyDone f.tenant f.session f.tag St.OK [f.desc.copyTag]
  | some c =>
    if !CopyFlag.notify f.desc ∨ f.quiet ∨ CopyFlag.spec f.desc then s
    else
      match cellOf (spaceOf f.desc.dst) (offsetOf f.desc.dst) with
      | some d =>
        match f.peer with
        | some p => if s.localAddr f.desc f.desc.dst then bumpArrive d (CopyFlag.ctr f.desc) s
                    else sendPacket { ty := tyNotify, vc := 3, dst := p, src := s.device, notify := true, ctr := CopyFlag.ctr f.desc, cell := c,
                                      addr := f.desc.dst, job := f.job, step := f.desc.step, xfer := f.id, tenant := f.tenant } [] s
        | none => bumpArrive d (CopyFlag.ctr f.desc) s
      | none => bumpArrive c (CopyFlag.ctr f.desc) s

/-- A flight completes. -/
def finishFlight (f : Flight) (s : State) : State := advanceSends (endReads f.id (notifyCopy f (dropFlight f.id s)))

/-- Marks the landing slots that a copy begins to read (R317). -/
def beginReads (f : Flight) (s : State) : State :=
  if spaceOf f.desc.src ≠ 3 ∨ !s.localAddr f.desc f.desc.src then s
  else { s with copies.readers := s.copies.readers ++
    ((copyPairs f.desc).map (fun p => (p.1 / 2 ^ 40, bits p.1 28 12))).eraseDups.map (fun x => (x.1, x.2, f.id)) }

/-! Launch (R217) -/

/-- The settings of the copy-engine and fabric-launch domains (R408, R409). -/
def State.copyCalm (s : State) : Nat := s.beat.calmCopy
def State.fabricCalm (s : State) : Nat := s.beat.calmFabric

/-- Whether the present beat of a domain is calmed: `k` beats have been delivered, the present one being k − 1 (R408). -/
def beatCalmed (k n : Nat) : Bool := calmed (k - 1) n

/-- Whether the present beat of cluster `k`'s bulk domain lets its cells launch (R37, R45, R47, R390, R410). -/
def State.bulkLaunches (s : State) (k : Nat) : Bool :=
  !s.halted k && !s.detached k && !beatCalmed (tabGet 0 k s.beat.kBulk) s.beat.calmBulk

/-- Packets of a remote write (R306, R314): runs of at most 32 words within a row, as first destination offset and words. -/
def writePackets (s : State) (f : Flight) : List (Nat × List W256) :=
  let d := f.desc
  (List.range (d.rows + 1)).flatMap (fun r =>
    (List.range (ceilDiv d.length 1024)).map (fun i =>
      let n := min 32 (d.length / 32 - 32 * i)
      (offsetOf d.dst + r * d.dstStride + 1024 * i,
        (List.range n).map (fun w => s.sourceWord f (offsetOf d.src + r * d.srcStride + 1024 * i + 32 * w)))))

/-- The span address with another offset. -/
def withOffset (a off : Nat) : Nat := a / 2 ^ 47 * 2 ^ 47 + off % 2 ^ 47

/-- Words corrected as a copy reads its source (R196, R366): counted at the cell, or at the controller of the first word (R362). -/
def countCorrected (f : Flight) (n : Nat) (s : State) : State :=
  let ty := spaceOf f.desc.src
  match cellOf ty (offsetOf f.desc.src) with
  | some c => s.bump32 (Addr.CELL_C256_CORR c) n
  | none => if n = 0 then s else s.bump32 (Addr.HBM_C256_CORR (stackOf (s.hbmAddr ty (offsetOf f.desc.src) false)).1) n

/-- The uncorrectable word of a copy is reported by its controller (R366, R362). -/
def reportUncorr (f : Flight) (s : State) : State :=
  let ty := spaceOf f.desc.src
  if ty = 2 then s
  else
    let a := s.hbmAddr ty (offsetOf f.desc.src) false
    let so := stackOf a
    ((s.bump32 (Addr.C256_UNCORR so.1)).setReg (Addr.LAST_UNCORR so.1) so.2).raiseEvent evHbmUncorrectable owner [so.1, so.2]

/-- What the checks of the source words of a remote copy find (R196, R366): words corrected, which are counted, and whether one is
uncorrectable, which is reported. No row says it: a free value (log 30). -/
def checkSource (f : Flight) (s : State) : Bool × State :=
  let d := s.draw Topic.integrity.num
  let s1 := countCorrected f (d.1 / 2 % ((copyPairs f.desc).length + 1)) d.2
  if d.1 % 2 = 1 then (true, reportUncorr f s1) else (false, s1)

/-- The packets of a remote copy leave (R314): WR_DATA for a write, one RD_REQ for a read. -/
def launchRemote (f : Flight) (peer : Nat) (s : State) : State :=
  let cell := (queueCell f.queue).getD 0xFF
  let base : Header := { ty := tyWrData, vc := 2, dst := peer, src := s.device, spec := CopyFlag.spec f.desc, notify := CopyFlag.notify f.desc,
                         ctr := CopyFlag.ctr f.desc, cell, job := f.job, step := f.desc.step, attempt := f.attempt, xfer := f.id, tenant := f.tenant }
  if s.localAddr f.desc f.desc.src then
    let x := checkSource f s
    let s := x.2
    if x.1 then copyFault f 5 s else
    let ps := writePackets s f
    let q0 := s.nextSeq 2
    let f1 := { f with peer := some peer, awaiting := (List.range ps.length).map (fun i => (q0 + i) % 2 ^ 32) }
    let s1 := { s with copies.flights := s.copies.flights ++ [f1] }
    ps.foldl (fun s p => countWords (queueCluster f.queue) (cellOf (spaceOf f.desc.src) (offsetOf f.desc.src)) none p.2.length
      (sendPacket { base with addr := withOffset f.desc.dst p.1 } p.2 s)) s1
  else
    let words := (copyPairs f.desc).length
    let f1 := { f with peer := some peer, awaiting := [words] }
    let ret := withOffset (f.desc.dst % 2 ^ 47 + s.device * 2 ^ 47 + spaceOf f.desc.dst * 2 ^ 60) (offsetOf f.desc.dst)
    let flit := ret + f.desc.srcStride * 2 ^ 64 + f.desc.dstStride * 2 ^ 96 + f.desc.length * 2 ^ 192 + f.desc.rows * 2 ^ 224
    sendPacket { base with ty := tyRdReq, vc := 1, addr := f.desc.src } [BitVec.ofNat 256 flit]
      { s with copies.flights := s.copies.flights ++ [f1] }

/-- The other device of a copy. -/
def State.copyPeer (s : State) (d : CopyDesc) : Option Nat :=
  if s.localAddr d d.src then (if s.localAddr d d.dst then none else some (deviceOf d.dst)) else some (deviceOf d.src)

/-- A checked copy is under way. -/
def launchFlight (f : Flight) (s : State) : State :=
  let s1 := { s with copies.nextXfer := (s.copies.nextXfer + 1) % 65536 }
  let c := s.copyCause f.tenant f.own f.desc
  let c1 := if c = 0 ∧ CopyFlag.spec f.desc ∧ s.localAddr f.desc f.desc.dst then
      ((copyPairs f.desc).map (fun p => s.specCause p.2 s.device (f.desc.step % 2 ^ 32))).foldl (fun a b => if a = 0 then b else a) 0
    else c
  if c1 ≠ 0 then copyFault f c1 s1
  else
    match s.copyPeer f.desc with
    | some p => launchRemote f p s1
    | none => beginReads f { s1 with copies.flights := s1.copies.flights ++ [f] }

/-- Whether two copies write a word in common of one device. -/
def State.sameTarget (s : State) (a b : CopyDesc) : Bool :=
  let dev (d : CopyDesc) : Nat := if s.localAddr d d.dst then s.device else deviceOf d.dst
  dev a == dev b && spaceOf a.dst == spaceOf b.dst && (copyPairs a).any (fun x => (copyPairs b).any (fun y => x.2 == y.2))

/-- Whether a remote copy must wait for an earlier copy of its queue to an overlapping destination that has not completed (R217,
R313). -/
def State.mustFollow (s : State) (queue : Nat) (d : CopyDesc) : Bool :=
  (s.copyPeer d).isSome && s.copies.flights.any (fun f => f.queue == queue && s.sameTarget f.desc d)

/-- Whether a local copy in flight waits for an earlier one of its queue to an overlapping destination (R217). -/
def State.mustWait (s : State) (f : Flight) : Bool :=
  (s.copies.flights.takeWhile (fun g => g.id != f.id)).any (fun g => g.queue == f.queue && s.sameTarget g.desc f.desc)

/-- Whether the cell at an offset of a space, if it is one, is a BULK cell of a tenant. -/
def State.cellStays (s : State) (tenant ty off : Nat) : Bool :=
  (cellOf ty off).elim true (fun c => s.cellState c == 2 && s.cellTenant c == tenant)

/-- Whether the cell stores that the rows of a copy reach here are still BULK cells of its tenant (R24, R206): a cell that a job or CELL_ASSIGN
has given up takes no more words of it. -/
def State.cellsStay (s : State) (f : Flight) : Bool :=
  let stays (a off : Nat) : Bool := !s.localAddr f.desc a || s.cellStays f.tenant (spaceOf a) off
  (copyPairs f.desc).all (fun p => stays f.desc.src p.1 && stays f.desc.dst p.2)

/-- Whether the calms let a launch be made now (R45, R217, R408): `k` is the domain's beats since its release. -/
def State.copyBeatOpen (s : State) (k : Nat) (d : CopyDesc) : Bool :=
  !beatCalmed k s.copyCalm && ((s.copyPeer d).isNone || !beatCalmed k s.fabricCalm)

/-- Whether a cell has committed a step (R212): STEP_COMMITTED has reached it, which it also has before any commit where the step is
0, and the cell has the step neither open nor before it. -/
def State.stepDone (s : State) (c step : Nat) : Bool :=
  let x := s.cellx c
  decide (step ≤ s.reg (Addr.STEP_COMMITTED c)) && !x.opens.any (fun o => o.step == step) &&
    !(x.prog.any (fun p => (p.steps.drop x.next).any (fun h => h.step == step)))

/-- Whether a WAIT_COMMIT copy of cell `c` may go (R212, R214): the source cell has committed the step. -/
def State.commitReached (s : State) (c : Nat) (d : CopyDesc) : Bool :=
  !CopyFlag.waitCommit d || s.stepDone (if s.localAddr d d.src then (cellOf (spaceOf d.src) (offsetOf d.src)).getD c else c) d.step

/-- Whether a speculative send of cell `c` may go (R318, R319): its step has launched and its send list is not being
revoked. -/
def State.specReady (s : State) (c : Nat) (d : CopyDesc) : Bool :=
  !CopyFlag.spec d || s.copies.sends.any (fun x => x.cell == c && x.step == d.step && (x.verdict != some false))

/-- The commit-buffer words a speculative send of a cell reads: byte offsets of space CELL with the open step's results. -/
def State.heldWords (s : State) (c : Nat) (d : CopyDesc) : List (Nat × W256) :=
  if !CopyFlag.spec d then [] else
  match (s.cellx c).opens.find? (fun o => o.step == d.step && !o.freed) with
  | some o => o.results.map (fun r => (c * 2 ^ 23 + 32 * r.1, r.2))
  | none => []

/-- Whether the launch of a descriptor at the head of a cell's queue may be made (R210, R217, R373, R313). -/
def State.cellCopyReady (s : State) (c q : Nat) (d : CopyDesc) : Bool :=
  let k := c / 16
  s.beat.released.contains c && !s.halted k && !s.detached k && decide (d.launch ≤ s.zcBulk k) && s.copyBeatOpen (tabGet 0 k s.beat.kCopy) d &&
    s.commitReached c d && s.specReady c d && !s.mustFollow (2 * c + q) d && !(q == 0 && (s.cellx c).opens.any (fun o => o.suspect != 0))

/-- A copy of a cell's queue launches. -/
def launchCellCopy (j : Job) (c q slot : Nat) (d : CopyDesc) (quiet : Bool) (s : State) : State :=
  let send := s.copies.sends.find? (fun x => x.cell == c && x.step == d.step && CopyFlag.spec d && x.dead == 0)
  let f : Flight := { id := s.copies.nextXfer, queue := 2 * c + q, slot, tenant := j.tenant, job := j.id, session := j.session, tag := 0, desc := d,
                      quiet, attempt := (send.map SendList.attempt).getD 0, held := s.heldWords c d, launched := s.now }
  let s1 := match send with
    | some x => s.updSend x.id (fun x => { x with sent := x.sent ++ [(slot, d)] })
    | none => s
  let s2 := if d.launch < s.zcBulk (c / 16) ∧ !quiet then s1.bump32 (Addr.COPY_LATE (c / 16)) else s1
  launchFlight f (syncQueues c s2)

/-- The head of a cell's queue and the queue without it: re-issued and resent copies go first, and a descriptor that leaves is
followed by the next of the program (R213). -/
def CellX.headCopy (x : CellX) (q : Nat) : Option (Nat × CopyDesc × Bool × CellX) :=
  if q = 0 then
    match x.again, x.q0 with
    | a :: l, _ => some (a.1, a.2, true, { x with again := l })
    | [], a :: l => some (a.1, a.2, false, { x with q0 := l ++ x.more0.take 1, more0 := x.more0.drop 1 })
    | [], [] => none
  else
    match x.again1, x.resend, x.q1 with
    | a :: l, _, _ => some (a.1, a.2, true, { x with again1 := l })
    | [], a :: l, _ => some (a.1, a.2, false, { x with resend := l })
    | [], [], a :: l => some (a.1, a.2, false, { x with q1 := l ++ x.more1.take 1, more1 := x.more1.drop 1 })
    | [], [], [] => none

/-- COPY_LAUNCH (R217): the head of a queue launches once every condition holds. -/
def copyLaunch (q : Nat) (s : State) : State :=
  if q < 512 then
    let c := q / 2
    match (s.cellx c).headCopy (q % 2), s.jobOfCell c with
    | some (slot, d, quiet, x), some j =>
      if s.cellCopyReady c (q % 2) d && (j.state == 0 || j.state == 1) then launchCellCopy j c (q % 2) slot d quiet (s.updCell c (fun _ => x)) else s
    | _, _ => s
  else
    let k := q - 512
    match tabGet [] k s.copies.soft with
    | [] => s
    | x :: l =>
      if !s.copyBeatOpen s.beat.kSoft x.desc || s.mustFollow q x.desc || !s.commitReached 0 x.desc then s
      else
        let f : Flight := { id := s.copies.nextXfer, queue := q, slot := x.slot, tenant := x.tenant, job := 0, session := x.session, tag := x.tag,
                            desc := x.desc, launched := s.now }
        launchFlight f (syncSoft k { s with copies.soft := tabSet [] k l s.copies.soft })

/-- COPY_LAUNCH (R217). -/
def execCopyLaunch (t q : Nat) (s : State) : Host.Outcome State Fault Refusal := .next (if q < 528 then copyLaunch q (advance t s) else s)

/-- A local speculative copy marks its slots (R318). -/
def markLocal (f : Flight) (s : State) : State :=
  if !CopyFlag.spec f.desc then s
  else (copyPairs f.desc).foldl (fun s p =>
    markPending p.2 s.device (f.desc.step % 2 ^ 32) (f.attempt % 16) (CopyFlag.ctr f.desc + 16 * f.id) (CopyFlag.notify f.desc) s) s

/-- COPY_COMPLETE (R218): a local copy's last word lands, or a word of it is uncorrectable or retired (R219, R221): the words
already written, a free number of them, stay. The row says how many words were corrected. -/
def copyComplete (id : Nat) (bad : Bool) (corrected : Nat) (s : State) : State :=
  match s.copies.flights.find? (fun f => f.id == id && f.peer.isNone) with
  | none => s
  | some f =>
    let n := (copyPairs f.desc).length
    let retired := s.endCause f.tenant f.own false f.desc == 3 || s.endCause f.tenant f.own true f.desc == 3
    if s.mustWait f then s
    else if !s.cellsStay f then
      -- the words find no cell of the tenant any more: none is written
      if f.queue < 512 then advanceSends (endReads f.id (dropFlight f.id s)) else copyFault f 2 (endReads f.id s)
    else
    let s0 := countCorrected f corrected (markLocal f s)
    if bad ∨ retired then
      let (x, s1) := s0.draw Topic.jitter.num
      let s2 := endReads f.id (moveWords f (x % n) s1)
      if retired then copyFault f 3 s2 else copyFault f 5 (reportUncorr f s2)
    else finishFlight f (moveWords f n s0)

/-- COPY_COMPLETE (R218). -/
def execCopyComplete (t id : Nat) (check : CopyCheck) (s : State) : Host.Outcome State Fault Refusal :=
  .next (copyComplete id check.bad check.corrected (advance t s))

/-- COPY_TIMEOUT_EXPIRY (R315): a remote copy not complete within COPY_TIMEOUT faults UNREACHABLE. -/
def execCopyTimeoutExpiry (t id : Nat) (s : State) : Host.Outcome State Fault Refusal :=
  .next (match s.copies.flights.find? (fun f => f.id == id && f.peer.isSome) with
    | some f => if f.launched + us (s.reg Addr.COPY_TIMEOUT) ≤ t then advanceSends (endReads f.id (copyFault f 6 (advance t s))) else s
    | none => s)

/-! What a packet does at its destination (R314, R318, R319) -/

/-- The job a packet names: none for a software-queue copy (R306). -/
def Header.own (h : Header) : Option Nat := if h.job = 0 then none else some h.job

/-- An ACK for a packet (R314): it carries XFER, and in ADDR the SEQ acknowledged and the cause of R219 (log 45). -/
def sendAck (h : Header) (cause : Nat) (s : State) : State :=
  sendPacket { ty := tyAck, vc := 3, dst := h.src, src := s.device, cell := h.cell, addr := h.seq + cause * 2 ^ 32, job := h.job, step := h.step,
               attempt := h.attempt, xfer := h.xfer, tenant := h.tenant } [] s

/-- WR_DATA at its destination (R314, R318). -/
def takeWrData (h : Header) (data : List W256) (s : State) : State :=
  let ty := spaceOf h.addr
  let off := offsetOf h.addr
  let n := 32 * data.length
  let c := if h.spec ∧ ty ≠ 3 then 4 else s.spanCause h.tenant h.own true h.spec ty off n
  let c1 := if c = 0 ∧ h.spec then s.specCause off h.src h.step else c
  if c1 ≠ 0 then sendAck h c1 s
  else
    let s1 := if h.spec then markPending off h.src h.step h.attempt (h.ctr + 16 * h.xfer) h.notify s else s
    let s2 := (data.zipIdx).foldl (fun s x => s.writeSpan h.tenant (if h.cell < 256 then h.cell else 0) ty (off + 32 * x.2) x.1) s1
    sendAck h 0 (countWords 0 none (cellOf ty off) data.length s2)

/-- The copy that an RD_REQ asks for by its header and data flit (R314; log 19). -/
def readDesc (h : Header) (flit : Nat) : CopyDesc :=
  { src := h.addr, dst := bits flit 0 64, launch := 0, length := bits flit 192 32, rows := bits flit 224 16, flags := 0,
    srcStride := bits flit 64 32, dstStride := bits flit 96 32, step := h.step, copyTag := 0 }

/-- RD_REQ at its destination (R314): the words go to the return address in RD_DATA packets of at most 1 KiB. -/
def takeRdReq (h : Header) (data : List W256) (s : State) : State :=
  let d := readDesc h ((data.head?.map BitVec.toNat).getD 0)
  let c := if d.length = 0 ∨ d.length % 32 ≠ 0 then 4 else s.endCause h.tenant h.own false d
  if c ≠ 0 then sendAck h c s
  else
    let f : Flight := { id := 0, queue := 512, slot := 0, tenant := h.tenant, job := h.job, session := 0, tag := 0, desc := d, launched := s.now }
    let x := checkSource f s
    if x.1 then sendAck h 5 x.2 else
    (writePackets s f).foldl (fun s p =>
      sendPacket { ty := tyRdData, vc := 2, dst := h.src, src := s.device, cell := h.cell, addr := withOffset d.dst p.1, job := h.job, step := h.step,
                   xfer := h.xfer, tenant := h.tenant } p.2 s) x.2

/-- RD_DATA at the reader (R314): the words are written, to a cell that is still one of the tenant's (R24); the last one completes the
copy. A word of a block retired meanwhile faults (R221, R222). -/
def takeRdData (h : Header) (data : List W256) (s : State) : State :=
  match s.copies.flights.find? (fun f => f.id == h.xfer && f.peer == some h.src && !s.localAddr f.desc f.desc.src) with
  | none => s
  | some f =>
    let ty := spaceOf f.desc.dst
    let off := offsetOf h.addr
    let src := (cellOf (spaceOf f.desc.src) (offsetOf f.desc.src)).getD 0
    if s.spanCause f.tenant f.own true (CopyFlag.spec f.desc) ty off (32 * data.length) = 3 then advanceSends (copyFault f 3 (endReads f.id s)) else
    let s1 := (data.zipIdx).foldl (fun s x =>
      if s.cellStays f.tenant ty (off + 32 * x.2) then s.writeSpan f.tenant src ty (off + 32 * x.2) x.1 else s) s
    let s2 := countWords (queueCluster f.queue) none (cellOf ty off) data.length s1
    let left := f.awaiting.headD 0 - data.length
    if left = 0 then finishFlight f s2
    else { s2 with copies.flights := s2.copies.flights.map (fun g => if g.id = f.id then { g with awaiting := [left] } else g) }

/-- ACK at the source (R314, R319): of a REVOKE (XFER 0 and SPEC set; log 45), or of one packet of a copy. -/
def takeAck (h : Header) (s : State) : State :=
  if h.spec then
    match s.copies.sends.find? (fun x => x.job % 2 ^ 32 == h.job && x.step % 2 ^ 32 == h.step && x.attempt % 16 == h.attempt && x.cell == h.cell) with
    | some x => advanceSends (s.updSend x.id (fun x => { x with revoking := x.revoking.filter (fun r => r.1 != h.src) }))
    | none => s
  else
    match s.copies.flights.find? (fun f => f.id == h.xfer && f.peer == some h.src) with
    | none => s
    | some f =>
      let cause := bits h.addr 32 3
      if cause ≠ 0 then advanceSends (copyFault f cause (endReads f.id s))
      else
        let left := f.awaiting.filter (· != bits h.addr 0 32)
        if !s.localAddr f.desc f.desc.src then s
        else if left.isEmpty then finishFlight f s
        else { s with copies.flights := s.copies.flights.map (fun g => if g.id = f.id then { g with awaiting := left } else g) }

/-- NOTIFY at its destination (R314): counter CTR of the destination cell, which the copy's job must hold. -/
def takeNotify (h : Header) (s : State) : State :=
  match cellOf (spaceOf h.addr) (offsetOf h.addr) with
  | some c => if s.holdsCell h.tenant h.own c then bumpArrive c h.ctr s else s
  | none => s

/-- CONFIRM (R319). -/
def takeConfirm (h : Header) (s : State) : State := confirmTuple h.src h.job h.step h.attempt s

/-- REVOKE (R319): every half of the tuple is dropped and the REVOKE answered. -/
def takeRevoke (h : Header) (s : State) : State :=
  let s1 := revokeTuple h.src h.job h.step h.attempt s
  sendPacket { ty := tyAck, vc := 3, spec := true, dst := h.src, src := s1.device, cell := h.cell, job := h.job, step := h.step,
               attempt := h.attempt, tenant := h.tenant } [] s1

/-- REVOKE_RESEND (R319): a REVOKE whose ACK has not returned within COPY_TIMEOUT is sent again. -/
def execRevokeResend (t id : Nat) (s : State) : Host.Outcome State Fault Refusal :=
  .next (match s.copies.sends.find? (fun x => x.id == id) with
    | some x =>
      let late := x.revoking.filter (fun r => r.2 != 0 && decide (r.2 - 1 + us (s.reg Addr.COPY_TIMEOUT) ≤ t))
      if late.isEmpty then s
      else
        let s1 := late.foldl (fun s r => sendToken tyRevoke x r.1 s) (advance t s)
        s1.updSend id (fun y => { y with revoking := y.revoking.map (fun r => if (late.map Prod.fst).contains r.1 then (r.1, s1.now + 1) else r) })
    | none => s)

/-- SPEC_TIMEOUT_EXPIRY (R320): a slot pending too long is treated as revoked, and the receiving job fails back. -/
def execSpecTimeoutExpiry (t zone slot : Nat) (s : State) : Host.Outcome State Fault Refusal :=
  .next (match s.copies.zones.find? (fun z => z.num == zone) with
    | some z =>
      match (z.slot slot).pending with
      | some p =>
        if !(z.slot slot).confirmed ∧ (z.slot slot).since + us (s.reg Addr.SPEC_TIMEOUT) ≤ t then
          let s1 := dropPending zone slot (advance t s)
          failBack z.tenant z.job St.JOB_FAILED (s1.raiseEvent evSpecTimeout z.tenant [zone, slot, p.1, p.2.1])
        else s
      | none => s
    | none => s)

/-! Commands (R223, R330) -/

/-- COPY_SUBMIT (R213, R214, R351): up to 64 descriptors join a cluster's software queue. -/
def cmdCopySubmit : CmdFn := fun e p s =>
  let n := byteAt p 1
  if p.length < 4 ∨ p.length ≠ 4 + 64 * n ∨ !zerosAt p 2 2 ∨ 15 < byteAt p 0 ∨ n = 0 ∨ 64 < n then refuse St.BAD_PARAM s
  else
    let ds := (List.range n).map (fun i => descOfImage (slice p (4 + 64 * i) 64))
    let k := byteAt p 0
    let q := tabGet [] k s.copies.soft
    if ds.any (fun d => !descOk d || 3 < spaceOf d.src || 3 < spaceOf d.dst) then refuse St.BAD_PARAM s
    else if 64 < q.length + n then refuse St.BUSY s
    else
      let new := ds.mapIdx (fun i d => (⟨e.tenant, e.session, e.tag, (s.copies.nextSlot + i) % 64, d⟩ : SoftCopy))
      (st St.ACCEPTED, syncSoft k { s with copies.soft := tabSet [] k (q ++ new) s.copies.soft, copies.nextSlot := s.copies.nextSlot + n })

/-- COPY_STATUS (R223, R351): each tenant sees its own copies of the queue, the owner those of all (R423). -/
def cmdCopyStatus : CmdFn := fun e p s =>
  if p.length ≠ 4 ∨ !zerosAt p 1 3 ∨ 15 < byteAt p 0 then refuse St.BAD_PARAM s
  else
    let k := byteAt p 0
    let q := (tabGet [] k s.copies.soft).filter (fun x => e.tenant == owner || x.tenant == e.tenant)
    let f := tabGet (0, 0) (k * 256 + e.tenant) s.copies.lastFault
    (⟨St.OK, toBE 1 q.length ++ toBE 1 f.1 ++ toBE 2 f.2⟩, s)

/-- LANDING_SET (R317): a zone for a live job of the tenant. -/
def cmdLandingSet : CmdFn := fun e p s =>
  if p.length ≠ 28 ∨ !zerosAt p 2 2 ∨ !zerosAt p 26 2 then refuse St.BAD_PARAM s
  else
    let kib := be p 4 4
    let slots := be p 24 2
    let base := be p 16 8
    let bytes := 2 * slots * kib * 1024
    if 127 < byteAt p 0 ∨ slots = 0 ∨ 4096 < slots ∨ kib = 0 ∨ 16384 < kib ∨ base % 32 ≠ 0 then refuse St.BAD_PARAM s
    else
      match s.job e.tenant (be p 8 8) with
      | none => refuse St.BAD_PARAM s
      | some j =>
        if !j.live ∨ !j.cells.contains (byteAt p 1) then refuse St.BAD_PARAM s
        else if !s.inWindows e.tenant base bytes true then refuse St.NOT_PERMITTED s
        else if s.copies.zones.any (fun z => z.num == byteAt p 0) then refuse St.BUSY s
        else
          let s1 := { s with copies.zones := s.copies.zones ++ [⟨byteAt p 0, e.tenant, j.id, base, slots, kib, byteAt p 1, []⟩] }
          (ok, if !j.image.members.isEmpty then logDecision 4 [0, s.device, byteAt p 0, e.tenant, j.id, base, slots, kib, byteAt p 1] s1 else s1)

/-- LANDING_CLEAR (R330): refused with BUSY while any slot is PENDING. -/
def cmdLandingClear : CmdFn := fun e p s =>
  if p.length ≠ 4 ∨ !zerosAt p 1 3 ∨ 127 < byteAt p 0 then refuse St.BAD_PARAM s
  else
    match s.copies.zones.find? (fun z => z.num == byteAt p 0) with
    | none => (ok, s)
    | some z =>
      if z.tenant ≠ e.tenant ∧ !e.owner then refuse St.NOT_PERMITTED s
      else if z.entries.any (fun x => x.2.pending.isSome) then refuse St.BUSY s
      else
        let s1 := { s with copies.zones := s.copies.zones.filter (fun y => y.num != z.num) }
        (ok, if s.jobs.any (fun (j : Job) => j.tenant == z.tenant && j.id == z.job && !j.image.members.isEmpty) then logDecision 4 [1, s.device, z.num] s1 else s1)

end Sys2Proof.Machine
end

