-- ==== Sys2Proof/Machine/Aperture.lean ====
section
/-!
DEFINITION. The apertures of the host bridge (R327, R329): a host access to this device's memory or to another device's, the
read-modify-write of words that a write covers in part, and what another device answers. Log 48 names what the manual leaves open here.
-/
namespace Sys2Proof.Machine

/-- Bytes of an aperture and of BAR2 (R329). -/
def apertureBytes : Nat := 2 ^ 32

/-- A word with the bytes a host write covers replaced: byte i of the word lies at `at_ + i`, and the write covers
`[lo, lo + data.length)`. -/
def mergeWord (old : W256) (at_ lo : Nat) (data : Bytes) : W256 :=
  BitVec.ofNat 256 (natLE ((List.range 32).map (fun i =>
    if lo ≤ at_ + i ∧ at_ + i < lo + data.length then data.getD (at_ + i - lo) 0#8 else BitVec.ofNat 8 (bits old.toNat (8 * i) 8))))

/-- A host write to this device's own memory (R329): whole words, and parts of words as read-modify-writes. -/
def hostWrite (tenant ty off : Nat) (data : Bytes) (s : State) : State :=
  (List.range (ceilDiv (off % 32 + data.length) 32)).foldl (fun s i =>
    let a := off / 32 * 32 + 32 * i
    s.writeSpan tenant 255 ty a (mergeWord (s.readSpan tenant ty a) a off data)) s

/-- A host read of this device's own memory. -/
def hostRead (tenant ty off len : Nat) (s : State) : Bytes :=
  let a := off / 32 * 32
  (((List.range (ceilDiv (off % 32 + len) 32)).flatMap (fun i => toLE 32 (s.readSpan tenant ty (a + 32 * i)).toNat)).drop (off % 32)).take len

/-- The words a host read takes are counted (R362). -/
def countRead (ty off len : Nat) (s : State) : State :=
  (List.range (ceilDiv (off % 32 + len) 32)).foldl (fun s i => countHbm false (s.hbmAddr ty (off / 32 * 32 + 32 * i) false) 32 s) s

/-- An access that ends in Completer Abort (R329). -/
def bar2Abort (s : State) : State := (s.bump32 Addr.BAR2_ABORTS).emit (.host none)

/-! Other devices (R314, R329) -/

/-- The word offsets of an access. -/
def RemoteAccess.wordsOf (x : RemoteAccess) : List Nat :=
  let o := offsetOf x.addr
  (List.range (ceilDiv (o % 32 + x.len) 32)).map (fun i => o / 32 * 32 + 32 * i)

/-- The word offsets that a write covers in part. -/
def RemoteAccess.partlyCovered (x : RemoteAccess) : List Nat :=
  let o := offsetOf x.addr
  x.wordsOf.filter (fun a => a < o || decide (o + x.len < a + 32))

/-- The header of a packet of an access (R306): SRC_CELL names the bridge. -/
def RemoteAccess.header (x : RemoteAccess) (device ty vc off : Nat) : Header :=
  { ty, vc, dst := x.peer, src := device, cell := 0xFF, addr := withOffset x.addr off, xfer := x.xfer, tenant := x.tenant }

/-- An RD_REQ of the bridge for `n` words from a word offset, which is its return address too (R306, R314). -/
def askWords (x : RemoteAccess) (off n : Nat) (s : State) : State :=
  sendPacket (x.header s.device tyRdReq 1 off) [BitVec.ofNat 256 (withOffset x.addr off + 32 * n * 2 ^ 192)] s

/-- The WR_DATA packets of a host write leave (R314): the words the write covers in part are those read, with its bytes merged in. -/
def writeRemote (x : RemoteAccess) (s : State) : State :=
  let ws := x.wordsOf.map (fun a => mergeWord (tabGet 0#256 a x.words) a (offsetOf x.addr) x.data)
  let n := ceilDiv ws.length 32
  let x1 := { x with missing := [], unacked := (List.range n).map (fun i => (s.nextSeq 2 + i) % 2 ^ 32) }
  (List.range n).foldl (fun s k => sendPacket (x.header s.device tyWrData 2 (x.wordsOf.headD 0 + 1024 * k)) ((ws.drop (32 * k)).take 32) s)
    { s with bridge.remote := s.bridge.remote.filter (fun y => y.xfer != x.xfer) ++ [x1] }

/-- A host access to another device begins (R314, R329): a read asks for its words, and a write for those it covers in part. -/
def startRemote (write : Bool) (tenant addr len : Nat) (data : Bytes) (s0 : State) : State :=
  let s := { s0 with copies.nextXfer := s0.copies.nextXfer % 65535 + 1 }
  let x : RemoteAccess := { xfer := s0.copies.nextXfer, peer := deviceOf addr, tenant, addr, len, write, data }
  if !write then
    askWords x (x.wordsOf.headD 0) x.wordsOf.length { s with bridge.remote := s.bridge.remote ++ [{ x with missing := x.wordsOf }] }
  else if x.partlyCovered.isEmpty then writeRemote x s
  else x.partlyCovered.foldl (fun s a => askWords x a 1 s) { s with bridge.remote := s.bridge.remote ++ [{ x with missing := x.partlyCovered }] }

/-- Whether a write waits for words to merge: no access passes it (R329). -/
def State.mergeWaits (s : State) : Bool := s.bridge.remote.any (fun x => x.write && !x.missing.isEmpty)

/-- A host access of BAR2 (R329), checked as R314 says. -/
def hostAccess (x : HostAccess) (s : State) : State :=
  let a := x.offset / apertureBytes
  if apertureBytes < x.offset % apertureBytes + x.len then bar2Abort s
  else
    let tenant := s.field (Addr.APERTURE_CFG a) 8 8
    let addr := s.reg (Addr.APERTURE_BASE a) + x.offset % apertureBytes
    let off := offsetOf addr
    let cause := if deviceOf addr = s.device then
        s.spanCause tenant none x.write false (spaceOf addr) (off / 32 * 32) (ceilDiv (off % 32 + x.len) 32 * 32)
      else if !s.joined ∨ s.hop s.device (deviceOf addr) = .none then 6 else 0
    if cause ≠ 0 ∨ !x.inTime then bar2Abort s
    else if deviceOf addr ≠ s.device then startRemote x.write tenant addr x.len x.data s
    else if x.write then hostWrite tenant (spaceOf addr) off x.data s
    else (countRead (spaceOf addr) off x.len s).emit (.host (some (hostRead tenant (spaceOf addr) off x.len s)))

/-- The accesses that waited for a read-modify-write go on in their order (R329), until one is a read-modify-write itself. -/
def resumeAccesses : (n : Nat) → State → State
  | 0, s => s
  | n + 1, s =>
    match s.bridge.waiting with
    | [] => s
    | x :: rest => if s.mergeWaits then s else resumeAccesses n (hostAccess x { s with bridge.waiting := rest })

/-- An access to another device has ended, and those that waited for it go on. -/
def endAccess (xfer : Nat) (s : State) : State :=
  resumeAccesses s.bridge.waiting.length { s with bridge.remote := s.bridge.remote.filter (fun y => y.xfer != xfer) }

/-- The access of the bridge that a packet answers. -/
def State.accessOf (s : State) (h : Header) : Option RemoteAccess :=
  if h.cell ≠ 0xFF then none else s.bridge.remote.find? (fun x => x.xfer == h.xfer && x.peer == h.src)

/-- RD_DATA for the bridge (R314, R329): once every word is there, a read completes, and a write goes on with the words merged. -/
def takeBridgeData (x : RemoteAccess) (h : Header) (data : List W256) (s : State) : State :=
  let off := offsetOf h.addr
  let got := (data.zipIdx).map (fun p => (off + 32 * p.2, p.1))
  let x1 := { x with words := got.foldl (fun t p => tabPut p.1 p.2 t) x.words, missing := x.missing.filter (fun a => !(got.map Prod.fst).contains a) }
  if !x1.missing.isEmpty then { s with bridge.remote := s.bridge.remote.map (fun y => if y.xfer = x.xfer then x1 else y) }
  else if x.write then
    let s1 := writeRemote x1 s
    resumeAccesses s1.bridge.waiting.length s1
  else
    let all := x.wordsOf.flatMap (fun a => toLE 32 (tabGet 0#256 a x1.words).toNat)
    (endAccess x.xfer s).emit (.host (some ((all.drop (offsetOf x.addr % 32)).take x.len)))

/-- ACK for the bridge (R314, R329): a refused access is aborted and counted; the last packet acknowledged ends a write. -/
def takeBridgeAck (x : RemoteAccess) (h : Header) (s : State) : State :=
  if bits h.addr 32 3 ≠ 0 then bar2Abort (endAccess x.xfer s)
  else
    let left := x.unacked.filter (· != bits h.addr 0 32)
    if left.isEmpty ∧ x.missing.isEmpty then endAccess x.xfer s
    else { s with bridge.remote := s.bridge.remote.map (fun y => if y.xfer = x.xfer then { y with unacked := left } else y) }

end Sys2Proof.Machine
end

