-- ==== Sys2Proof/Machine/Model.lean ====
section
/-!
DEFINITION. Model packages, placement, sampling and live swaps (R245 to R258, R265, R266), and the rule epoch flip with the
swaps linked to it (R123, R255). Logs 18 and 32 name what the manual leaves open here.
-/
namespace Sys2Proof.Machine

/-! Event opcodes of the chapter (R356). -/
def evModelReady : Nat := 0xFF40
def evModelSwap : Nat := 0xFF41
def evModelDrained : Nat := 0xFF42
def evModelDegraded : Nat := 0xFF43

/-! Reading a package (R246, R247, R249) -/

/-- An entry of the section table (R246). -/
structure Section where
  ty : Nat
  off : Nat
  len : Nat
  digest : Bytes
  clean : Bool
deriving DecidableEq, Repr

/-- Entry `i` of the section table. -/
def sectionAt (p : Bytes) (i : Nat) : Section :=
  let o := 256 + 80 * i
  ⟨le p o 2, le p (o + 8) 8, le p (o + 16) 8, slice p (o + 24) 48, zerosAt p (o + 2) 6 && zerosAt p (o + 72) 8⟩

/-- The section table of a package. -/
def sectionsOf (p : Bytes) : List Section := (List.range (le p 24 2)).map (sectionAt p)

/-- The bytes of the section of a type, none where the package has none. -/
def sectionBytes (p : Bytes) (ty : Nat) : Option Bytes :=
  ((sectionsOf p).find? (fun x => x.ty == ty)).map (fun x => slice p x.off x.len)

/-- The section types a package of a kind must hold (R247). -/
def requiredSections (kind stateVer : Nat) : List Nat :=
  [0x01, 0x02] ++ (if stateVer = 0 then [] else [0x04]) ++ (if kind = 0 then [0x06] else [0x05, 0x07, 0x08])

/-- Whether the header of a package is well formed (R246). -/
def packageHeaderOk (p : Bytes) (len : Nat) : Bool :=
  le p 0 4 == 0x42564D50 && le p 4 2 == 1 && decide (byteAt p 6 ≤ 2) && decide (byteAt p 8 ≤ 15) && decide (byteAt p 11 ≤ 8) &&
    decide (1 ≤ le p 20 2 ∧ le p 20 2 ≤ 256) && decide (1 ≤ le p 24 2 ∧ le p 24 2 ≤ 64) && zerosAt p 26 6 && zerosAt p 40 216 &&
    len == le p 32 8 + sigBytes && decide (256 + 80 * le p 24 2 ≤ le p 32 8)

/-- Whether the section table is well formed and every required type is there exactly once (R246, R247). -/
def sectionsOk (p : Bytes) : Bool :=
  let ss := sectionsOf p
  let count (ty : Nat) : Nat := (ss.filter (fun x => x.ty == ty)).length
  ss.all (fun x => decide (1 ≤ x.ty ∧ x.ty ≤ 0x0B) && x.clean && decide (256 + 80 * le p 24 2 ≤ x.off ∧ x.off + x.len ≤ le p 32 8) && count x.ty == 1) &&
    (requiredSections (byteAt p 6) (byteAt p 9)).all (fun ty => count ty == 1)

/-- A feature descriptor obeys R155 to R157; `tables` are the numbers of the package's categorical tables. -/
def featureOk (tables : List Nat) (d : Nat) : Bool :=
  let off := bits d 4 10
  let wid := bits d 14 5
  let x := bits d 19 3
  bits d 60 4 == 0 && decide (x ≤ 4) && (x != 4 || tables.contains (bits d 22 10)) &&
    match bits d 0 4 with
    | 0 => decide (off + wid ≤ 1023)
    | 1 => decide (off + wid ≤ 255)
    | 2 => decide (off ≤ 3)
    | 3 => decide (off ≤ 9)
    | 4 => decide (off < 40)
    | 5 => true
    | 6 => true
    | _ => false

/-- A categorical table has 2^k entries of 16 bits, k from 1 to 16 (R157). -/
def catOk (c : Nat × Nat × List Nat) : Bool :=
  decide (c.1 < 1024 ∧ c.2.1 < 65536) && (List.range 16).any (fun k => c.2.2.length == 2 ^ (k + 1)) && c.2.2.all (fun e => decide (e < 65536))

/-- Grid images laid one after another (R236). -/
def gridImages (b : Bytes) : List Bytes := (List.range (b.length / gridBytes)).map (fun i => slice b (i * gridBytes) gridBytes)

/-- A package taken apart; none where it is malformed (R251, check 1). -/
def readPackage (p : Bytes) (len : Nat) : Option Package :=
  if !packageHeaderOk p len || !sectionsOk p then none
  else
    let kind := byteAt p 6
    let ver := byteAt p 9
    let f := le p 20 2
    let sec (ty : Nat) : Bytes := (sectionBytes p ty).getD []
    let cats := match sectionBytes p 0x03 with
      | some b => Config.catTables b
      | none => some []
    match Config.certificate (sec 0x01), cats with
    | some c, some ts =>
      let fp := sec 0x02
      let features := (List.range f).map (fun i => le fp (8 * i) 8)
      let grids := gridImages (sec 0x06)
      let rw := sec 0x05
      let regions := (List.range (rw.length / 32)).map (fun i => le rw (32 * i) 32)
      let statics := regions.any (fun w => (regionOfWord w).static && (regionOfWord w).kind != 0)
      let ok :=
        fp.length == 8 * f && features.all (featureOk (ts.map Prod.fst)) && ts.all catOk && (ts.map Prod.fst).eraseDups.length == ts.length &&
        (ver == 0 || (sec 0x04).length == 96) &&
        (sec 0x06).length == grids.length * gridBytes && grids.all gridValid && gridsAgree grids && grids.all (fun g => gridFeatures g == f) &&
        (if kind = 0 then c.w.toNat == grids.length && (decide (16 < grids.length) || ensembleValid grids)
          else rw.length % 32 == 0 && regions.all (regionValid true) && (regions.map (fun w => w % 65536)).eraseDups.length == regions.length &&
            (!statics || (sectionBytes p 0x0A).isSome) &&
            (Config.programsValid (sec 0x07) (sec 0x08)).elim false (fun ps => ps.all (fun x => pairValid x.1 x.2))) &&
        decide (1 ≤ c.w.toNat ∧ (c.w.toNat ≤ 16 ∨ kind = 0) ∧ 1 ≤ c.ii.toNat) && c.vecIn.toNat == 2 * f + (if ver = 0 then 0 else 96) &&
        c.vecOut.toNat == 8 + (if ver = 0 then 0 else 96) && decide (c.rate.toNat * c.ii.toNat ≤ c.nrep.toNat * 2000000000)
      if ok then
        some { kind, stateVer := ver, prevCompat := byteAt p 10, sampleLog2 := byteAt p 11, packageId := le p 12 8, measurement := slice (Config.sha384 (p.take (le p 32 8))) 0 48, f, lmin := le p 22 2
               w := c.w.toNat, ii := c.ii.toNat, lat := c.lat.toNat, nrep := c.nrep.toNat, rate := c.rate.toNat, portMask := c.portMask.toNat
               vecIn := c.vecIn.toNat, vecOut := c.vecOut.toNat, flowGap := c.flowGap.toNat, certVer := c.certVer.toNat, features, cats := ts, initState := sec 0x04, grids, regions
               programs := sec 0x07, weights := sec 0x08 }
      else none
    | _, _ => none

/-- Whether every section agrees with its digest and both signatures verify under a pair of the tenant or the owner's
(R248). -/
def packageSigned (p sig : Bytes) (tenant : Nat) (s : State) : Bool :=
  (sectionsOf p).all (fun x => Config.sha384 (slice p x.off x.len) == x.digest) &&
    [tenant, owner].any (fun t => verifyPair (tabGet [] t s.signer) p sig)

/-! Placement (R252, R253) -/

/-- The slots of every selector that hold something: key, slot number, slot. -/
def State.slots (s : State) : List (Nat × Nat × Slot) :=
  s.models.flatMap (fun m => [(m.1, 0, m.2.a), (m.1, 1, m.2.b)].filter (fun x => x.2.2.state != 0))

/-- The cells of cluster `k` on which a replica of tenant `t` may be placed, ascending (R252); the cells of a detached cluster are
treated as fenced (R386). -/
def State.candidates (s : State) (t k : Nat) : List Nat :=
  if s.detached k then [] else
  (s.cellsIn k 1).filter (fun c => s.cellTenant c == t && !s.flag (Addr.CELL_STATE c) 5 && !s.placedOn c)

/-- Up to `need` replicas of `w` cells from the candidates of one cluster. -/
def placeCluster (w : Nat) : (fuel need : Nat) → List Nat → List (List Nat)
  | 0, _, _ => []
  | n + 1, need, cs => if need = 0 ∨ w = 0 ∨ cs.length < w then [] else cs.take w :: placeCluster w n (need - 1) (cs.drop w)

/-- The placement of R252 for a package of a selector, and whether it is in the shadow registers of the active one. -/
def placeReplicas (t sel : Nat) (pkg : Package) (s : State) : List (List Nat) × Bool :=
  let x := s.selector t sel
  let active := (x.find 4).map x.slot
  match active with
  | some a =>
    if pkg.kind = 0 ∧ a.pkg.kind = 0 ∧ a.pkg.w = pkg.w ∧ pkg.nrep ≤ a.replicas.length then (a.replicas.take pkg.nrep, true)
    else ((List.range 16).foldl (fun ps k => ps ++ placeCluster pkg.w 16 (pkg.nrep - ps.length) (s.candidates t k)) [], false)
  | none => ((List.range 16).foldl (fun ps k => ps ++ placeCluster pkg.w 16 (pkg.nrep - ps.length) (s.candidates t k)) [], false)

/-- log2 N of `placed` replicas (R253): 0 where all are placed, none where sampling cannot make up for them. -/
def samplingLog2 (pkg : Package) (placed : Nat) : Option Nat :=
  if pkg.nrep ≤ placed then some 0
  else if pkg.sampleLog2 = 0 ∨ placed = 0 then none
  else (List.range (pkg.sampleLog2 + 1)).find? (fun k => decide (pkg.nrep ≤ placed * 2 ^ k))

/-! Cells of placements (R206, R207, R224, R240, R244) -/

/-- The slot a placement names. -/
def State.slotOf (s : State) (p : Nat × Nat × Nat) : Slot := (tabGet {} p.1 s.models).slot p.2.1

/-- MODE of a package's programs: 0 GEMM, 1 COMPARE, 2 STREAM. -/
def Package.mode (p : Package) : Nat := [1, 2, 0].getD p.kind 0

/-- The two tiles that a placement keeps resident (R201, R202, R240; log 33): its rank's grid, or the WEIGHTS section, which STREAM mode
lays over both weight registers. -/
def State.placedTiles (s : State) (p : Nat × Nat × Nat) : WeightTile × Option WeightTile :=
  let pkg := (s.slotOf p).pkg
  match pkg.grids[p.2.2]? with
  | some g => (gridTile g, none)
  | none =>
    let w := tileWords pkg.weights
    if pkg.mode = 2 then ({ words := w.take (w.length / 2) }, some { words := w.drop (w.length / 2) }) else ({ words := w }, none)

/-- The working registers of an INLINE cell as its placements fill them (R202, R240): the serving grid's leaves in a bank, the standby
grid's in the other. -/
def State.placedRegs (s : State) (active standby : Option (Nat × Nat × Nat)) (r : CellRegs) : CellRegs :=
  let leaves (p : Option (Nat × Nat × Nat)) : AccBank := (p.bind (fun p => (s.slotOf p).pkg.grids[p.2.2]?)).elim {} gridBank
  let a := active.map s.placedTiles
  let b := standby.map s.placedTiles
  { r with active := (a.map Prod.fst).getD {}, shadow := ((a.bind Prod.snd).orElse (fun _ => b.map Prod.fst)).getD {}
           acc0 := leaves active, acc1 := leaves standby }

/-- What a placement writes into a bank of the program store (R203, R207). -/
def State.placedBank (s : State) (p : Nat × Nat × Nat) : ProgBank := { mode := (s.slotOf p).pkg.mode, image := (s.slotOf p).pkg.programs }

/-- The registers of an INLINE cell follow its placements: HOLDER, PROG_BANK and GRID_STATUS, the working registers and the program
banks. -/
def syncCell (c : Nat) (s : State) : State :=
  let y := s.cellx c
  let grid (p : Nat × Nat × Nat) : Option Bytes := (s.slotOf p).pkg.grids[p.2.2]?
  let s1 := s.setReg (Addr.HOLDER c) (b2n y.active.isSome + b2n y.standby.isSome)
  let mode := (y.active.map (fun p => (s.slotOf p).pkg.mode)).getD 0
  let now := s.reg (Addr.PROG_BANK c) % 2
  let s2 := s1.setReg (Addr.PROG_BANK c) (now + b2n y.standby.isSome * 2 + mode * 4)
  let s3 := s2.updCell c (fun x => { x with
    regs := s.placedRegs y.active y.standby x.regs
    banks := tabSet {} (1 - now) ((y.standby.map s.placedBank).getD {}) (tabSet {} now ((y.active.map s.placedBank).getD {}) x.banks) })
  s3.setReg (Addr.GRID_STATUS c) (gridStatus (y.active.bind grid) ((y.standby.bind grid).isSome))

/-- A cell holds nothing more of slot `i` of selector `key` (R254, R257). -/
def dropCell (key i c : Nat) (s : State) : State :=
  let of (p : Option (Nat × Nat × Nat)) : Option (Nat × Nat × Nat) := p.bind (fun q => if q.1 = key ∧ q.2.1 = i then none else some q)
  syncCell c (s.updCell c (fun y => { y with active := of y.active, standby := of y.standby }))

/-- Cells hold nothing more of a slot. -/
def dropCells (key i : Nat) (cells : List Nat) (s : State) : State := cells.foldl (fun s c => dropCell key i c s) s

/-- `s` with slot `i` of selector `key` changed. -/
def State.updModelSlot (s : State) (key i : Nat) (f : Slot → Slot) : State :=
  let x : Selector := tabGet {} key s.models
  { s with models := tabSet {} key (x.setSlot i (f (x.slot i))) s.models }

/-- A slot's placement is freed: its replicas and their cells' registers. -/
def freePlacement (key i : Nat) (s : State) : State :=
  let cells := ((tabGet {} key s.models).slot i).replicas.flatten
  dropCells key i cells (s.updModelSlot key i (fun y => { y with replicas := [], shadow := false }))

/-- The registers of a cell are exchanged (R256): the standby placement becomes the active one. -/
def exchangeCell (c : Nat) (s : State) : State :=
  let s1 := s.updCell c (fun y => { y with active := y.standby, standby := y.active })
  syncCell c (s1.setReg (Addr.PROG_BANK c) (putBits (s1.reg (Addr.PROG_BANK c)) 0 1 (1 - s1.reg (Addr.PROG_BANK c) % 2)))

/-- The placement of slot `i` of selector `key` is written into the standby registers of its cells (R240, R252); a cell whose standby
registers hold what serves exchanges first (R256). -/
def putPlacement (key i : Nat) (s : State) : State :=
  ((tabGet {} key s.models).slot i).replicas.foldl (fun s r =>
    (r.zipIdx).foldl (fun s x =>
      let s1 := if ((s.cellx x.1).standby.any (fun p => (s.slotOf p).state == 4)) then exchangeCell x.1 s else s
      syncCell x.1 (s1.updCell x.1 (fun y => { y with standby := some (key, i, x.2) }))) s) s

/-- A placement on cells of its own becomes the active one of each at the swap (R207, R256). -/
def activateOwn (key i : Nat) (s : State) : State :=
  ((tabGet {} key s.models).slot i).replicas.flatten.foldl (fun s c =>
    if (s.cellx c).active.isNone ∧ (s.cellx c).standby.isSome then exchangeCell c s else s) s

/-! Reserved bandwidth (R31, R32, R145, R252) -/

/-- Replicas of a slot on die `d`. -/
def Slot.onDie (x : Slot) (d : Nat) : Nat := (x.replicas.filter (fun r => r.headD 0 / 64 == d)).length

/-- Bytes per second of a slot's vectors of `n` bytes over the link of die `d` (R250, R252): RATE ÷ N shared evenly. -/
def Slot.load (x : Slot) (n d : Nat) : Nat :=
  if x.replicas.length = 0 then 0 else ceilDiv (n * x.pkg.rate * x.onDie d) (2 ^ x.log2N * x.replicas.length)

/-- FLOW_PPS of all tenants, in packets per second (R145). -/
def State.flowPps (s : State) : Nat := 1000000 * ((List.range 256).map (fun t => s.reg (Addr.FLOW_PPS t))).foldl (· + ·) 0

/-- GB/s reserved on the link of die `d`, towards the die or towards S (R31). -/
def State.linkReserved (s : State) (d : Nat) (toDie : Bool) : Nat :=
  let m := (s.slots.map (fun x => x.2.2.load (if toDie then x.2.2.pkg.vecIn else x.2.2.pkg.vecOut) d)).foldl (· + ·) 0
  ceilDiv (m + s.flowPps * 32) 1000000000

/-- GB/s reserved on each HBM controller (R31, R32, R145): a sixteenth of the flow-record traffic, 256 bytes a packet. The vectors of a
placement pass between the stream die and its cells, over the die links alone. -/
def State.hbmReserved (s : State) : Nat := ceilDiv (s.flowPps * 16) 1000000000

/-- Whether every link and controller carries its reservation (R32): 8 TB/s and 1,640 GB/s. -/
def State.reservationsFit (s : State) : Bool :=
  (List.range 4).all (fun d => decide (s.linkReserved d true ≤ 8000 ∧ s.linkReserved d false ≤ 8000)) &&
    decide (s.hbmReserved ≤ 1640)

/-! The drain (R255, R257) -/

/-- DRAIN of a selector: packets served by the DRAINING slot whose verdicts have not passed their checks (R257). -/
def State.modelDrain (s : State) (t sel : Nat) : Nat :=
  match (s.selector t sel).find 5 with
  | none => 0
  | some i => (s.ports.packets.filter (fun (q : Pkt) => q.tenant == t && q.model == sel && q.slot == some i &&
      (q.at_ == .chain || q.at_ == .infer || q.at_ == .hold || q.at_ == .recoat))).length

/-- Packets that the DRAINING slot of a linked swap may still have to serve (R22, R255): stamped earlier, not yet encoded, and of the tenant
or such that a SET_TENANT may still make them so. -/
def State.oldEpochLeft (s : State) (t e : Nat) : Bool :=
  s.ports.packets.any (fun (q : Pkt) => (q.tenant == t || q.at_ != .encode) && (q.stamped || q.preStamp) && q.beforeEncode && epochBefore q.epoch e)

/-- MODEL_DRAIN_DONE (R257): when DRAIN is 0 the old slot becomes READY, or EMPTY after an unload at a swap point (R265). -/
def checkDrain (t sel : Nat) (s : State) : State :=
  let x := s.selector t sel
  match x.find 5 with
  | none => if x.linkEpoch.elim false (fun e => !s.oldEpochLeft t e) then s.setSelector t sel { x with linkEpoch := none } else s
  | some i =>
    if s.modelDrain t sel ≠ 0 ∨ (x.linkEpoch.elim false (s.oldEpochLeft t)) then s
    else
      let y := x.slot i
      let s1 := s.setSelector t sel { x.setSlot i { y with state := 2 } with linkEpoch := none, unloading := false }
      let s2 := s1.raiseEvent evModelDrained t [sel, y.pkg.packageId]
      if x.unloading then (freePlacement (16 * t + sel) i s2).updModelSlot (16 * t + sel) i (fun _ => {}) else s2

/-- Every selector's drain is looked at. -/
def checkDrains (s : State) : State := s.models.foldl (fun s m => checkDrain (m.1 / 16) (m.1 % 16) s) s

/-! MODEL_LOAD (R251) -/

/-- Entries of the categorical tables of all loaded packages (R157). -/
def State.catEntries (s : State) : Nat := (s.slots.map (fun x => (x.2.2.pkg.cats.map (fun c => c.2.2.length)).foldl (· + ·) 0)).foldl (· + ·) 0

/-- Whether a program of F features keeps line rate on the ports of its tenant (R159). -/
def laneFits (pkg : Package) : Bool := pkg.portMask == 0 || decide (pkg.f ≤ 128) || decide (pkg.f * 100 ≤ 160 * (pkg.lmin + 20))

/-- The slot a load goes to: the first that is EMPTY or STALE; none where the selector is busy (R251, check 4). -/
def loadSlot (x : Selector) : Option Nat :=
  if (x.find 5).isSome then none else match x.find 0, x.find 3 with
  | some 0, _ => some 0
  | _, some 0 => some 0
  | some i, _ => some i
  | none, j => j

/-- A package that passed checks 1 to 4 is placed in slot `i` (R251 checks 5 and 6, R252, R253). -/
def loadInto (e : Env) (t sel i : Nat) (sampling : Bool) (pkg : Package) (s : State) : Reply × State :=
  let key := 16 * t + sel
  let s0 := (freePlacement key i s).updModelSlot key i (fun _ => {})
  let pl := placeReplicas t sel pkg s0
  let n := samplingLog2 pkg pl.1.length
  let cats := (pkg.cats.map (fun c => c.2.2.length)).foldl (· + ·) 0
  if 4194304 < s0.catEntries + cats ∨ 16 < pkg.grids.length ∨ pl.1.isEmpty then refuse St.NO_FIT s
  else if !laneFits pkg ∨ (pl.1.length < pkg.nrep ∧ (!sampling ∨ n.isNone)) then refuse St.RATE_SHORTFALL s
  else
    let slot : Slot := { state := 1, pkg, replicas := pl.1, log2N := n.getD 0, shadow := pl.2, session := e.session, tag := e.tag
                         recs := pkg.regions.map (fun w => { region := w % 65536 }) }
    let s1 := putPlacement key i (s0.updModelSlot key i (fun _ => slot))
    if !s1.reservationsFit then refuse St.RATE_SHORTFALL s
    else (⟨St.ACCEPTED, toBE 1 i ++ toBE 1 slot.log2N ++ toBE 2 pl.1.length⟩, s1)

/-- MODEL_LOAD (R251). -/
def cmdModelLoad : CmdFn := fun e p s0 =>
  let s := checkDrains s0
  if p.length ≠ 24 ∨ 1 < byteAt p 1 ∨ !zerosAt p 2 6 then refuse St.BAD_PARAM s
  else
    let from_ := e.sessTenant
    let off := be p 8 8
    let len := be p 16 8
    let img := s.readBytes from_ off (min len hbmBytes)
    match readPackage img len with
    | none => refuse St.BAD_PARAM s
    | some pkg =>
      let t := byteAt img 7
      let sel := byteAt img 8
      let total := le img 32 8
      if sel ≠ byteAt p 0 then refuse St.BAD_PARAM s
      else if !packageSigned (img.take total) (img.drop total) t s then refuse St.SIG_FAIL s
      else if (t ≠ e.tenant ∧ !e.owner) ∨ !s.tenantExists t ∨ !s.inWindows from_ off len false ∨
          pkg.regions.any (fun w => s.inlineStatsRefused t (bits w 128 64)) then refuse St.NOT_PERMITTED s
      else match loadSlot (s.selector t sel) with
        | none => refuse St.BUSY s
        | some i =>
          let r := loadInto e t sel i (byteAt p 1 == 1) pkg s
          if r.1.status = St.ACCEPTED then (r.1, countHbm false off len r.2) else r

/-- MODEL_LOAD_COMPLETE (R251, R267): the package is installed and its slot enters READY, or STALE where a fence took its
placement meanwhile. -/
def execModelLoadComplete (t tenant sel : Nat) (s : State) : Host.Outcome State Fault Refusal :=
  .next (match (s.selector tenant sel).find 1 with
    | none => s
    | some i =>
      let key := 16 * tenant + sel
      let y := (s.selector tenant sel).slot i
      if y.replicas.isEmpty then ((advance t s).updModelSlot key i (fun y => { y with state := 3 })).raiseEvent evModelDegraded tenant [sel, y.pkg.packageId, 0, 0]
      else ((advance t s).updModelSlot key i (fun y => { y with state := 2 })).raiseFor evModelReady tenant y.session y.tag St.OK
        [sel, i, y.pkg.packageId, 2 ^ y.log2N, y.replicas.length])

/-! MODEL_SWAP (R255) -/

/-- A slot that left service and returns is placed again by R252 (R254); none where that fails. -/
def replaceSlot (t sel i : Nat) (s : State) : Option State :=
  let key := 16 * t + sel
  let y := (s.selector t sel).slot i
  let s0 := freePlacement key i s
  let pl := placeReplicas t sel y.pkg s0
  match samplingLog2 y.pkg pl.1.length with
  | some n => if pl.1.isEmpty then none else
      some (putPlacement key i (s0.updModelSlot key i (fun y => { y with replicas := pl.1, shadow := pl.2, log2N := n, serves := true })))
  | none => none

/-- MODEL_SWAP (R255, R351). A swap accepted while one is armed or waits for its beat takes its place (log 32). -/
def cmdModelSwap : CmdFn := fun e p s0 =>
  let s := checkDrains s0
  let t := e.tenant
  let sel := byteAt p 0
  let f := byteAt p 1
  if p.length ≠ 4 ∨ 15 < sel ∨ 3 < f ∨ !zerosAt p 2 2 then refuse St.BAD_PARAM s
  else
    let x := s.selector t sel
    if bitAt f 1 then (⟨St.OK, toBE 8 0⟩, s.setSelector t sel { x with armed := false })
    else
      let i := x.standby
      let st := (x.slot i).state
      if (x.find 5).isSome then refuse St.EPOCH_BUSY s
      else if st = 3 then refuse St.NO_FIT s
      else if st ≠ 2 then refuse St.BUSY s
      else match (if (x.slot i).was then replaceSlot t sel i s else some s) with
        | none => refuse St.NO_FIT s
        | some s1 =>
          let x1 := s1.selector t sel
          if bitAt f 0 then (⟨St.ACCEPTED, toBE 8 0⟩, s1.setSelector t sel { x1 with armed := true, swapAt := none, unloading := false })
          else
            let d := s1.deviceBeat
            (⟨St.ACCEPTED, toBE 8 d.1⟩, d.2.setSelector t sel { x1 with armed := false, swapAt := some d.1, unloading := false })

/-- The swap point (R255): the standby slot becomes ACTIVE and the old slot DRAINING; an unload has no new slot (R265). -/
def swapNow (t sel beat : Nat) (link : Option Nat) (s : State) : State :=
  let x := s.selector t sel
  let key := 16 * t + sel
  let i := x.standby
  let old := x.find 4
  let id (j : Option Nat) : Nat := j.elim 0 (fun j => (x.slot j).pkg.packageId)
  let x1 := match old with
    | some j => x.setSlot j { x.slot j with state := 5 }
    | none => x
  let x2 := if x.unloading then x1 else x1.setSlot i { x1.slot i with state := 4, was := true, launches := 0, recs := (x1.slot i).recs.map (fun r => { region := r.region }) }
  let s1 := s.setSelector t sel { x2 with armed := false, swapAt := none, linkEpoch := link, swapZc := beat, turn := 0 }
  let s2 := if x.unloading then s1 else activateOwn key i s1
  checkDrain t sel (s2.raiseEvent evModelSwap t [sel, id old, id (if x.unloading then none else some i), beat])

/-- MODEL_SWAP_POINT (R255): an accepted swap takes place on its beat, if its standby slot is still READY. -/
def execModelSwapPoint (t tenant sel : Nat) (s : State) : Host.Outcome State Fault Refusal :=
  .next (let x := s.selector tenant sel
    match x.swapAt with
    | some b =>
      if b ≤ s.zc then
        if x.unloading ∨ (x.slot x.standby).state = 2 then swapNow tenant sel b none (advance t s)
        else (advance t s).setSelector tenant sel { x with swapAt := none }
      else s
    | none => s)

/-- An accepted rule epoch flip whose beat has come (R123, R255): CURRENT advances, and the armed swaps of the tenant whose
lease it ends fire. -/
def flipBeat (t : Nat) (s : State) : State :=
  match s.mt.flipAt with
  | some b =>
    if b ≤ s.zc then
      let holder := s.field Addr.STAGE_HOLDER 0 8
      let s1 := ruleFlip b (advance t s)
      let fire := (s1.models.filter (fun m => m.1 / 16 == holder && m.2.armed && (m.2.slot m.2.standby).state == 2)).map Prod.fst
      fire.foldl (fun s key => swapNow (key / 16) (key % 16) b (some s1.epoch) s) s1
    else s
  | none => s

/-- CELL_SLOT_EXCHANGE (R256): a cell that launched no vector of the new slot exchanges once the old slot has drained. -/
def execCellSlotExchange (t c : Nat) (s : State) : Host.Outcome State Fault Refusal :=
  .next (match (s.cellx c).active, (s.cellx c).standby with
    | some a, some b => if (s.slotOf a).state ≠ 5 ∧ (s.slotOf a).state ≠ 4 ∧ (s.slotOf b).state = 4 then exchangeCell c (advance t s) else s
    | none, some b => if (s.slotOf b).state = 4 then exchangeCell c (advance t s) else s
    | _, none => s)

/-! MODEL_UNLOAD and MODEL_STATUS (R257, R265, R266) -/

/-- MODEL_UNLOAD (R257, R265, R351). A swap to the slot it empties, armed or accepted, is withdrawn (log 32). -/
def cmdModelUnload : CmdFn := fun e p s0 =>
  let s := checkDrains s0
  let t := e.tenant
  let sel := byteAt p 0
  let i := byteAt p 1
  if p.length ≠ 4 ∨ 15 < sel ∨ 1 < i ∨ !zerosAt p 2 2 then refuse St.BAD_PARAM s
  else
    let x := s.selector t sel
    let key := 16 * t + sel
    match (x.slot i).state with
    | 0 => refuse St.BAD_PARAM s
    | 4 =>
      if x.armed ∨ x.swapAt.isSome ∨ (x.find 5).isSome then refuse St.BUSY s
      else
        let d := s.deviceBeat
        (st St.ACCEPTED, d.2.setSelector t sel { x with swapAt := some d.1, unloading := true })
    | 2 =>
      let s1 := if i = x.standby then s.setSelector t sel { x with armed := false, swapAt := if x.unloading then x.swapAt else none } else s
      (ok, (freePlacement key i s1).updModelSlot key i (fun _ => {}))
    | 3 => (ok, (freePlacement key i s).updModelSlot key i (fun _ => {}))
    | _ => refuse St.BUSY s

/-- The status word of a selector (R266). -/
def selectorWord (t sel : Nat) (s : State) : Nat :=
  let x := s.selector t sel
  let a := (x.find 4).map x.slot
  let of (f : Slot → Nat) : Nat := a.elim 0 f
  x.a.state + x.b.state * 2 ^ 3 + b2n x.armed * 2 ^ 6 + of Slot.log2N * 2 ^ 7 + of (fun y => y.replicas.length) * 2 ^ 11 +
    min (s.modelDrain t sel) 65535 * 2 ^ 27 + of (fun y => y.pkg.stateVer) * 2 ^ 43 + x.a.pkg.packageId * 2 ^ 64 +
    x.b.pkg.packageId * 2 ^ 128 + x.swapZc % 2 ^ 64 * 2 ^ 192

/-- MODEL_STATUS (R266, R351). -/
def cmdModelStatus : CmdFn := fun e p s0 =>
  let s := checkDrains s0
  if !p.isEmpty then refuse St.BAD_PARAM s
  else (⟨St.OK, (List.range 16).flatMap (fun sel => toLE 32 (selectorWord e.tenant sel s))⟩, s)

/-! After a fence (R27, R254, R267) -/

/-- A slot that lost the replicas of a fenced cell (R254): an ACTIVE or DRAINING one goes on with the rest, sampling or not
serving; a READY or LOADING one is placed again, or becomes STALE. -/
def degradeSlot (t sel i c : Nat) (s : State) : State :=
  let key := 16 * t + sel
  let y := (s.selector t sel).slot i
  let lost := y.replicas.filter (fun r => r.contains c)
  if lost.isEmpty then s
  else
    let s1 := dropCells key i lost.flatten (s.updModelSlot key i (fun y => { y with replicas := y.replicas.filter (fun r => !r.contains c) }))
    let left := y.replicas.length - lost.length
    let tell (n placed : Nat) (s : State) : State := s.raiseEvent evModelDegraded t [sel, y.pkg.packageId, placed, n]
    if y.state = 4 ∨ y.state = 5 then
      match samplingLog2 y.pkg left with
      | some n => tell (2 ^ max n y.log2N) left (s1.updModelSlot key i (fun y => { y with log2N := max n y.log2N }))
      | none => tell 0 left (s1.updModelSlot key i (fun y => { y with serves := false }))
    else match replaceSlot t sel i s1 with
      | some s2 =>
        let z := (s2.selector t sel).slot i
        tell (2 ^ z.log2N) z.replicas.length s2
      | none => tell 0 0 ((freePlacement key i s1).updModelSlot key i (fun y => { y with state := if y.state = 1 then 1 else 3 }))

/-- The slots of every selector after the fence of cell `c`, the ACTIVE ones first (R27, R254). -/
def degradeModels (c : Nat) (s : State) : State :=
  let ks := s.models.map Prod.fst
  let run (p : Slot → Bool) (s : State) : State :=
    ks.foldl (fun s k => [0, 1].foldl (fun s i => if p ((tabGet {} k s.models).slot i) then degradeSlot (k / 16) (k % 16) i c s else s) s) s
  run (fun y => y.state == 1 || y.state == 2) (run (fun y => y.state == 4 || y.state == 5) s)

/-- Every selector of a destroyed tenant is emptied (R448). -/
def dropModels (t : Nat) (s : State) : State :=
  (s.models.filter (fun m => m.1 / 16 == t)).foldl (fun s m =>
    let s1 := freePlacement m.1 1 (freePlacement m.1 0 s)
    { s1 with models := tabSet {} m.1 {} s1.models }) s

end Sys2Proof.Machine
end

