-- ==== Sys2Proof/Machine/Stats.lean ====
section
/-!
DEFINITION. Statistics of regions (R190 to R193): tallies combined in tile order, the statistics record, windows and drift.
Log 37 names what the manual leaves open here.
-/
namespace Sys2Proof.Machine

/-- EV_SATURATION_DRIFT and EV_SCREED_SKEW (R193). -/
def evSaturationDrift : Nat := 0xFF49
def evScreedSkew : Nat := 0xFF48

/-- Whether a tile comes before another (R190: ascending tile coordinate, row first). -/
def tileBefore (a b : Tally) : Bool := decide (a.row < b.row ∨ (a.row = b.row ∧ a.col ≤ b.col))

/-- Two tallies together, the second after the first. -/
def Tally.add (a b : Tally) : Tally :=
  { a with sat := a.sat + b.sat, nanConv := a.nanConv + b.nanConv, sqerr := addFp a.sqerr b.sqerr, sqsrc := addFp a.sqsrc b.sqsrc
           elements := a.elements + b.elements, tern := a.tern + b.tern, accOvf := a.accOvf + b.accOvf, blocks := a.blocks + b.blocks
           data := [], values := [] }

/-- The tallies of a region combined in ascending order of tile coordinate (R190). -/
def combineTallies (region : Nat) (l : List Tally) : Tally :=
  match sortBy tileBefore l with
  | [] => { region }
  | x :: xs => xs.foldl Tally.add { x with data := [], values := [] }

/-- A tally without what only the commit needs. -/
def Tally.bare (a : Tally) : Tally := { a with data := [], values := [] }

/-- WINDOW_SAT and DRIFT_RAISED of the window of a region that starts at `start` (R192). -/
def RegionRec.window (r : RegionRec) (start : Nat) : Nat × Bool :=
  if r.winStart = start then (r.winSat, r.drift) else ((r.older.find? (fun x => x.1 == start)).map Prod.snd).getD (0, false)

/-- A window of a region set (R192): a later one than the current becomes the current one, and those from `floor` on are kept. -/
def RegionRec.setWindow (r : RegionRec) (start floor : Nat) (v : Nat × Bool) : RegionRec :=
  if r.winStart = start then { r with winSat := v.1, drift := v.2 }
  else if r.winStart < start then
    { r with older := (r.older ++ [(r.winStart, r.winSat, r.drift)]).filter (fun x => decide (floor ≤ x.1)), winStart := start, winSat := v.1, drift := v.2 }
  else { r with older := r.older.filter (fun x => x.1 != start) ++ [(start, v.1, v.2)] }

/-- The tiles gathered of a step, or of an inline window. -/
def RegionRec.tilesOf (r : RegionRec) (step : Nat) : List Tally := ((r.tiles.find? (fun x => x.1 == step)).map Prod.snd).getD []

/-- A region's record after committed work of a step, or of an inline window (R184, R190 to R192): `start` is the first step or launch
of its window, and `floor` and `floorStart` the first step and window that commits may still fall in. -/
def RegionRec.commit (r : RegionRec) (step start floor floorStart : Nat) (new : List Tally) : RegionRec :=
  let t := combineTallies r.region new
  let w := r.window start
  let r1 := { r with
    blocks := r.blocks + t.blocks
    tiles := r.tiles.filter (fun (x : Nat × List Tally) => x.1 != step && decide (floor ≤ x.1)) ++ [(step, r.tilesOf step ++ new.map Tally.bare)]
    satTotal := r.satTotal + t.sat, nanTotal := r.nanTotal + t.nanConv, elemTotal := r.elemTotal + t.elements }
  r1.setWindow start floorStart (w.1 + t.sat, w.2)

/-- The three words of a statistics record (R191): word 0 of a tally, word 2 of the window that starts at `start`. -/
def recordWords (r : RegionRec) (step start : Nat) (t : Tally) : List W256 :=
  let lim (n w : Nat) : Nat := min n (2 ^ w - 1)
  let v := r.window start
  [BitVec.ofNat 256 (step % 2 ^ 64 + t.sat % 2 ^ 32 * 2 ^ 64 + t.nanConv % 2 ^ 32 * 2 ^ 96 + t.sqerr * 2 ^ 128 + t.sqsrc * 2 ^ 160 +
      lim t.elements 32 * 2 ^ 192 + lim t.tern 16 * 2 ^ 224 + lim t.accOvf 16 * 2 ^ 240),
    BitVec.ofNat 256 (r.satTotal % 2 ^ 64 + r.nanTotal % 2 ^ 64 * 2 ^ 64 + r.elemTotal % 2 ^ 64 * 2 ^ 128 + r.skewTotal % 2 ^ 32 * 2 ^ 192),
    BitVec.ofNat 256 (start % 2 ^ 64 + v.1 % 2 ^ 32 * 2 ^ 64 + b2n v.2 * 2 ^ 96)]

/-- A statistics record is written in this device's memory, after the copies of the beat (log 37). -/
def writeRecordHere (tenant stats : Nat) (ws : List W256) (s : State) : State :=
  (ws.zipIdx).foldl (fun s x => s.writeSpan tenant 255 (spaceOf stats) (offsetOf stats + 32 * x.2) x.1) s

/-- A statistics record is written at STATS_ADDR (R188, R191): in this device's memory, or by a WR_DATA packet of the tenant where
the address names another device (log 37). -/
def writeRecordAt (tenant job stats : Nat) (ws : List W256) (s : State) : State :=
  if deviceOf stats = s.device then writeRecordHere tenant stats ws s
  else sendPacket { ty := tyWrData, vc := 2, dst := deviceOf stats, src := s.device, cell := 0xFF, addr := stats, job, tenant } ws s

/-- EV_SATURATION_DRIFT where a commit takes WINDOW_SAT of its window above DRIFT_THRESH, once a window (R192, R193): the record
with DRIFT_RAISED, and the state. `id` is the job or the model slot. -/
def checkDrift (tenant id start : Nat) (g : Region) (r : RegionRec) (s : State) : RegionRec × State :=
  let w := r.window start
  if g.drift ≠ 0 ∧ g.drift < w.1 ∧ !w.2 then
    (r.setWindow start 0 (w.1, true), s.raiseEvent evSaturationDrift tenant [tenant, id, g.region, start, w.1, g.drift])
  else (r, s)

/-! Inline regions (R186, R191, R192) -/

/-- The number of a model slot in an event (R193; log 37): selector × 2, plus 1 for slot B. -/
def slotId (sel i : Nat) : Nat := 2 * sel + i

/-- The record of a region of a slot. -/
def Slot.recOf (y : Slot) (region : Nat) : RegionRec := (y.recs.find? (fun r => r.region == region)).getD { region }

/-- `s` with the record of a region of a slot set. -/
def State.putRec (s : State) (key i : Nat) (r : RegionRec) : State :=
  s.updModelSlot key i (fun y => { y with recs := y.recs.map (fun x => if x.region = r.region then r else x) })

/-- Launches of a window of an inline region (R192). -/
def windowLen (g : Region) : Nat := g.window * 65536

/-- A tally of one inline launch of a region (R190): the manual does not encode a cell program, so its counts are free. -/
def drawTally (region : Nat) (s : State) : Tally × State :=
  let n := Topic.result.num
  let at_ (i : Nat) : Nat := Config.free n (s.fresh + i)
  ({ region, sat := at_ 0, nanConv := at_ 1, sqerr := at_ 2 % 2 ^ 32, sqsrc := at_ 3 % 2 ^ 32, elements := at_ 4, tern := at_ 5, accOvf := at_ 6, blocks := at_ 7 },
    { s with fresh := s.fresh + 8 })

/-- Launch `n` of slot `i` of a selector is served: one region's totals and window (R191, R192). -/
def inlineRegion (t sel i n w : Nat) (s : State) : State :=
  let key := 16 * t + sel
  let g := regionOfWord w
  let d := drawTally g.region s
  let start := (n - 1) / windowLen g * windowLen g
  let r0 := ((tabGet {} key s.models).slot i).recOf g.region
  let floor := r0.step * windowLen g
  let c := checkDrift t (slotId sel i) start g (r0.commit start start floor floor [d.1]) d.2
  c.2.putRec key i c.1

/-- Whether no launch of a slot up to number `n` still waits for its checks. -/
def State.launchesSettled (s : State) (t sel i n : Nat) : Bool :=
  !s.ports.packets.any (fun (q : Pkt) => q.tenant == t && q.model == sel && q.slot == some i && (q.at_ == .infer || q.at_ == .hold || q.at_ == .recoat) &&
    q.launchNo != 0 && decide (q.launchNo ≤ n))

/-- The record of an inline region at the end of its window (R191): once the window's launches have all been served or defaulted. -/
def recordWindow (t sel i w : Nat) (s : State) : State :=
  let key := 16 * t + sel
  let g := regionOfWord w
  let y := (tabGet {} key s.models).slot i
  let r := y.recOf g.region
  let start := r.step * windowLen g
  let last := start + windowLen g
  if g.window ≠ 0 ∧ last ≤ y.launches ∧ s.launchesSettled t sel i last then
    (writeRecordHere t g.stats (recordWords r last start (combineTallies g.region (r.tilesOf start))) s).putRec key i { r with step := r.step + 1 }
  else s

/-- The windows of a packet's slot are looked at as the packet is served or defaulted. -/
def closeWindows (q : Pkt) (s : State) : State :=
  match q.slot with
  | none => s
  | some i => (((tabGet {} (16 * q.tenant + q.model) s.models).slot i).pkg.regions).foldl (fun s w => recordWindow q.tenant q.model i w s) s

/-- A screed skew in a launch (R186, R193): SKEW_TOTAL of the region, and the event. -/
def inlineSkew (q : Pkt) (c : Nat) (k : Nat × Nat × Nat) (s : State) : State :=
  match q.slot with
  | none => s
  | some i =>
    let key := 16 * q.tenant + q.model
    let r := ((tabGet {} key s.models).slot i).recOf k.1
    (s.putRec key i { r with skewTotal := r.skewTotal + 1 }).raiseEvent evScreedSkew q.tenant
      [q.tenant, slotId q.model i, k.1, q.launchNo, c, k.2.1, k.2.2, 1]

end Sys2Proof.Machine
end

