-- ==== Sys2Proof/Machine/Fence.lean ====
section
/-!
DEFINITION. Fences (R37, R375, R382 to R386), failure signatures (R394), and the commands RECOAT_SET, INTEGRITY_STATUS,
FENCE_CELL and SIGNATURE_READ (R379, R398). Log 34 names what the manual leaves open here.
-/
namespace Sys2Proof.Machine

/-! Event opcodes of the chapter (R399). -/
def evResidueFlag : Nat := 0xFF70
def evRecoatResult : Nat := 0xFF71
def evCellFenced : Nat := 0xFF72
def evFenceReclaimed : Nat := 0xFF73
def evJobRestart : Nat := 0xFF74
def evRecoatMissed : Nat := 0xFF75
def evTestResult : Nat := 0xFF78
def evTestStale : Nat := 0xFF79
def evTestPackLoaded : Nat := 0xFF7A
def evFailureSignature : Nat := 0xFF7B
def evSilentMismatch : Nat := 0xFF7C

/-! Failure signatures (R394): CBOR in the core deterministic encoding -/

/-- The head of a CBOR item of a major type: the shortest form (RFC 8949, 4.2.1). -/
def cborHead (major n : Nat) : Bytes :=
  if n < 24 then toBE 1 (major * 32 + n)
  else if n < 2 ^ 8 then toBE 1 (major * 32 + 24) ++ toBE 1 n
  else if n < 2 ^ 16 then toBE 1 (major * 32 + 25) ++ toBE 2 n
  else if n < 2 ^ 32 then toBE 1 (major * 32 + 26) ++ toBE 4 n
  else toBE 1 (major * 32 + 27) ++ toBE 8 n

/-- An unsigned integer. -/
def cborUint (n : Nat) : Bytes := cborHead 0 n
/-- An integer: unsigned, or negative as −1 − n. -/
def cborInt (i : Int) : Bytes := if i < 0 then cborHead 1 (-1 - i).toNat else cborHead 0 i.toNat
/-- A byte string. -/
def cborBytes (b : Bytes) : Bytes := cborHead 2 b.length ++ b
/-- An array of unsigned integers. -/
def cborArray (l : List Nat) : Bytes := cborHead 4 l.length ++ l.flatMap cborUint

/-- The Zephyr count of a cell and its region (R353). -/
def State.cellZc (s : State) (c : Nat) : Nat × Nat :=
  let k := c / 16
  match s.cellState c with
  | 1 => (s.zcInline k, regionInline k)
  | 2 => (s.zcBulk k, regionBulk k)
  | _ => (s.zc, regionRoot)

/-- The CBOR bytes of a failure signature; `mv` is the core voltage of the die. -/
def signatureBytes (f : Failure) (mv : Nat) (s : State) : Bytes :=
  let z := s.cellZc f.cell
  cborHead 5 14 ++
    cborUint 1 ++ cborUint 1 ++
    cborUint 2 ++ cborBytes (toBE 8 (s.reg Addr.SERIAL)) ++
    cborUint 3 ++ cborArray [s.sec, s.ns] ++
    cborUint 4 ++ cborArray [z.1, z.2] ++
    cborUint 5 ++ cborUint f.kind ++
    cborUint 6 ++ cborUint f.cell ++
    cborUint 7 ++ cborUint f.work ++
    cborUint 8 ++ cborUint f.step ++
    cborUint 9 ++ cborUint f.row ++
    cborUint 10 ++ cborArray [f.crc.1, f.crc.2] ++
    cborUint 11 ++ cborUint s.rateNow ++
    cborUint 12 ++ cborUint mv ++
    cborUint 13 ++ cborInt (signed 8 (s.field Addr.TJ_MAX 0 8)) ++
    cborUint 14 ++ cborArray [s.reg Addr.FW_VERSION, s.reg Addr.PACK_ID]

/-- A failure signature is written to the ring of 256 records and announced (R394). The core voltage is a measurement of
the device: a free value (log 7). -/
def writeSignature (f : Failure) (s : State) : State :=
  let d := s.draw Topic.power.num
  let b := signatureBytes f (d.1 % 65536) s
  let ring := s.integ.sigs ++ [b]
  let s1 := { d.2 with integ.sigs := ring.drop (ring.length - 256) }
  (s1.bump32 Addr.SIGNATURES).raiseEvent evFailureSignature owner [f.kind, f.cell]

/-- SIGNATURE_READ (R351, R398): records of the ring from an index, as many as it holds. -/
def cmdSignatureRead : CmdFn := fun e p s =>
  if !e.owner then refuse St.NOT_PERMITTED s
  else if p.length ≠ 2 ∨ byteAt p 1 = 0 ∨ 64 < byteAt p 1 then refuse St.BAD_PARAM s
  else
    let n := s.reg Addr.SIGNATURES
    let held := s.integ.sigs.length
    -- record `i` of the ring is the one written as number i mod 256
    let at_ (i : Nat) : Option Bytes := (List.range held).findSome? (fun k => if (n - held + k) % 256 = i % 256 then s.integ.sigs[k]? else none)
    let recs := (List.range (byteAt p 1)).filterMap (fun i => at_ (byteAt p 0 + i))
    (⟨St.OK, toBE 1 recs.length ++ toBE 3 0 ++ recs.flatMap (fun r => toBE 2 r.length ++ r)⟩, s)

/-! Fences (R383 to R386) -/

/-- Retained and queued vectors of a cell's replicas (R384). -/
def State.vectorsOf (s : State) (c : Nat) : List Pkt :=
  s.ports.packets.filter (fun (q : Pkt) => (q.at_ == .infer || q.at_ == .recoat || q.at_ == .hold) &&
    (q.slot.elim false (fun i => ((s.selector q.tenant q.model).slot i).replicas.any (fun r => r.headD 0 == q.replica && r.contains c))))

/-- A packet takes the default verdict of its class: its vector leaves every queue and its state write is abandoned (R26,
R153); a SET_LABEL of its verdict pass still reaches its record (R152). -/
def defaultVector (src : Nat) (q : Pkt) (s : State) : State :=
  let cells := (s.cells.filter (fun c => c.2.inQ.contains q.id)).map Prod.fst
  let s1 := cells.foldl (fun s c => s.updCell c (fun x => { x with inQ := x.inQ.filter (· != q.id) })) s
  let s2 := toVerdictPass q.id (s.defaultVerdict q.vclass) src (s1.updPacket q.id (fun q => { q with newState := none, stateVer := 0 }))
  checkDrains (advanceChain q (closeWindows q s2))

/-- Whether a copy runs between cells of one cluster, and so through its router node (R213). -/
def State.inCluster (s : State) (d : CopyDesc) : Bool :=
  s.localAddr d d.src && s.localAddr d d.dst && match cellOf (spaceOf d.src) (offsetOf d.src), cellOf (spaceOf d.dst) (offsetOf d.dst) with
  | some a, some b => a / 16 == b / 16
  | _, _ => false

/-- The ledger records of a cell are reclaimed, block by block (R383, R384): the copies in the router, the other launched and
waiting copies, the halves its sends left pending, fabric transfers, and the vectors given. The counts by block in that order. -/
def reclaimCell (c : Nat) (vectors : List Pkt) (s : State) : State × List Nat :=
  let mine (f : Flight) : Bool := f.queue / 2 == c && decide (f.queue < 512)
  let into (f : Flight) : Bool := cellOf (spaceOf f.desc.dst) (offsetOf f.desc.dst) == some c && s.localAddr f.desc f.desc.dst && !mine f
  let x := s.cellx c
  let flights := s.copies.flights.filter mine
  let waiting := x.q0.length + x.q1.length + x.more0.length + x.more1.length + x.again.length + x.again1.length + x.resend.length
  let inbound := s.copies.flights.filter into
  let sends := s.copies.sends.filter (fun l => l.cell == c && l.dead == 0)
  let remote := flights.filter (fun f => f.peer.isSome)
  let routed := (flights ++ inbound).filter (fun f => s.inCluster f.desc)
  let s1 := { s with copies := { s.copies with
    flights := s.copies.flights.filter (fun f => !mine f && !into f)
    sends := killSends (fun l => l.cell == c) s.copies.sends } }
  let s2 := (s1.updCell c (fun x => { x with q0 := [], q1 := [], more0 := [], more1 := [], again := [], again1 := [], resend := [], opens := [] })).setReg (Addr.COMMIT_OCC c) 0
  let s3 := advanceSends ((flights ++ inbound).foldl (fun s f => endReads f.id s) (syncQueues c s2))
  let s4 := vectors.foldl (fun s q => defaultVector 2 q s) s3
  (s4, [routed.length, flights.length + waiting + inbound.length - routed.length, sends.length, remote.length, vectors.length, vectors.length])

/-- A job that held a cell goes back to its checkpoint (R385, R388). -/
def restartHolder (c : Nat) (s : State) : State :=
  match s.jobOfCell c with
  | some j => advanceSends (failBack j.tenant j.id St.JOB_FAILED s)
  | none => s

/-- A loaded pack takes its predecessor's place (R392). -/
def takePack (pack : Nat × List (Nat × Nat)) (s : State) : State :=
  ({ s with integ.kernels := pack.2, integ.nextPack := none }.setReg Addr.PACK_ID pack.1).raiseEvent evTestPackLoaded owner [pack.1]

/-- A pack that waited for the test takes effect. -/
def applyNextPack (s : State) : State :=
  match s.integ.nextPack with
  | some pack => takePack pack s
  | none => s

/-- The test of a cell, where one runs on it, is abandoned without a result (R400). -/
def abandonTest (c : Nat) (s : State) : State :=
  let s1 := s.setFlag (Addr.CELL_STATE c) 6 false
  if s.integ.testing = some c then applyNextPack { s1 with integ.testing := none } else s1

/-- The cell itself as it is fenced (R383): its state, launch gate, programs and qualification. -/
def closeFenced (c : Nat) (s : State) : State :=
  let s1 := (s.setReg (Addr.HOLDER c) 0).setFlag (Addr.CELL_STATE c) 2 false
  { s1 with beat.released := s1.beat.released.filter (· != c), beat.ramps := s1.beat.ramps.filter (fun r => r.1 != c) }.updCell c
    (fun x => { x with qualified := false, prog := none, active := none, standby := none })

/-- A fence decided during a handover (R481, R488): the cell's launch gate is closed at once, and the rest waits for the resume. -/
def holdFence (keep : Bool) (f : Failure) (s : State) : State :=
  if s.integ.heldFences.any (fun h => h.2.cell == f.cell) then s
  else { s with integ.heldFences := s.integ.heldFences ++ [(keep, f)], beat.released := s.beat.released.filter (· != f.cell) }

/-- The fence of a cell (R383): on the beat it is decided the cell is FENCED and its launch gate closed, then its records
are reclaimed, its job restarts and its placements are looked at again (R385, R254). A cell of a cluster that is detached is
treated the same, but keeps its state and its store (R386). -/
def fenceAs (keep : Bool) (f : Failure) (s0 : State) : State :=
  let c := f.cell
  if s0.cellState c = 3 then s0
  else if s0.stage = 2 then holdFence keep f s0
  else
    let s := writeSignature f s0
    let tenant := s.cellTenant c
    let s1 := restartHolder c (if keep then s else (setCellState c 3 tenant s).setFlag (Addr.FENCED (c / 32)) (c % 32) true)
    let s2 := reclaimCell c (s.vectorsOf c) (degradeModels c s1)
    let s3 := checkDrains (startChains (fun _ => true) (abandonTest c (if keep then s2.1 else closeFenced c s2.1)))
    ((s3.updCell c (fun x => { x with reclaim := some s2.2 })).bump32 Addr.FENCES).raiseEvent evCellFenced owner [c, f.kind, tenant, s.zc]

/-- The fence of a cell (R383). -/
def fenceCell (f : Failure) (s : State) : State := fenceAs false f s

/-- The fences that waited for the end of a handover (R481). -/
def runHeldFences (s : State) : State :=
  s.integ.heldFences.foldl (fun s h => fenceAs h.1 h.2 s) { s with integ.heldFences := [] }

/-- FENCE_RECLAIM_DONE (R383): EV_FENCE_RECLAIMED carries the records reclaimed in each block. -/
def execFenceReclaimDone (t c : Nat) (s : State) : Host.Outcome State Fault Refusal :=
  .next (match (s.cellx c).reclaim with
    | some counts => if !s.limik then s else ((advance t s).updCell c (fun x => { x with reclaim := none })).raiseEvent evFenceReclaimed owner (c :: counts)
    | none => s)

/-- CELL_FENCE (R383): the fence of a cell for a cause of R394. -/
def execCellFence (t c kind : Nat) (s : State) : Host.Outcome State Fault Refusal :=
  .next (if s.on ∧ c < 256 ∧ 1 ≤ kind ∧ kind ≤ 7 ∧ s.cellState c ≠ 3 then fenceCell { kind, cell := c } (advance t s) else s)

/-- CELL_ACK_TIMEOUT (R383): a cell of an attached cluster has not acknowledged within the limit. -/
def execCellAckTimeout (t c : Nat) (s : State) : Host.Outcome State Fault Refusal :=
  .next (if c < 256 ∧ s.cellState c ≠ 3 ∧ s.cellState c ≠ 0 ∧ !s.detached (c / 16) ∧ s.beat.lastIssue + us (s.reg Addr.CELL_ACK_TIMEOUT) ≤ t then
      fenceCell { kind := 4, cell := c } (advance t s)
    else s)

/-- FENCE_CELL (R383, R400): the cells of a mask are fenced by command. -/
def cmdFenceCell : CmdFn := fun e p s =>
  if !e.owner then refuse St.NOT_PERMITTED s
  else if p.length ≠ 32 then refuse St.BAD_PARAM s
  else (ok, (cellMask p 0).foldl (fun s c => fenceCell { kind := 6, cell := c } s) s)

/-- The transients of a cell within TRANSIENT_WINDOW (R375). -/
def State.transientsOf (s : State) (c : Nat) : List Nat :=
  (s.cellx c).transients.filter (fun x => decide (s.now ≤ x + secs (3600 * s.reg Addr.TRANSIENT_WINDOW)))

/-- A TRANSIENT outcome of a cell is counted (R375); TRANSIENT_LIMIT of them within the window fence it as PERMANENT. -/
def countTransient (c work step row : Nat) (s : State) : State :=
  let l := s.transientsOf c ++ [s.now]
  let s1 := (s.updCell c (fun x => { x with transients := l })).bump32 Addr.TRANSIENTS
  if s.reg Addr.TRANSIENT_LIMIT ≤ l.length then fenceCell { kind := 5, cell := c, work, step, row } (s1.bump32 Addr.PERMANENTS) else s1

/-- A PERMANENT outcome of a cell (R374, R375): it is counted and the cell fenced. -/
def permanent (f : Failure) (s : State) : State := if s.cellState f.cell = 3 then s else fenceCell f (s.bump32 Addr.PERMANENTS)

/-! Detached spokes (R37, R386) -/

/-- A cluster's spoke is detached (R37, R386): its domains halt, and each of its cells that is not UNCONFIGURED is treated
as fenced, but keeps its state and store; a second detach within TRANSIENT_WINDOW fences all of its cells. -/
def detachCluster (k : Nat) (s : State) : State :=
  let last := tabGet 0 k s.integ.detachedAt
  let again := decide (last ≠ 0 ∧ s.now ≤ last - 1 + secs (3600 * s.reg Addr.TRANSIENT_WINDOW))
  let s1 := (haltClusters .spoke [k] ((s.setFlag Addr.SPOKE_DETACHED k true).setFlag (Addr.CL_STATE k) 1 true))
  let s2 := { s1 with integ.detachedAt := tabSet 0 k (s.now + 1) s1.integ.detachedAt }.raiseEvent evSpokeDetached owner [k]
  let cells := (clusterCells k).filter (fun c => again || s2.cellState c != 0)
  cells.foldl (fun s c => fenceAs (!again) { kind := 4, cell := c } s) s2

/-- SPOKE_TIMEOUT_EXPIRY (R37): cluster spokes 0 to 15, and spokes 16 to 19 of the compute dies, whose six Wyilern ports go
down. -/
def execSpokeTimeoutExpiry (t i : Nat) (s : State) : Host.Outcome State Fault Refusal :=
  .next (if !s.on ∨ 20 ≤ i ∨ s.flag Addr.SPOKE_DETACHED i ∨ t < s.beat.lastIssue + us (s.reg Addr.SPOKE_TIMEOUT) then s
    else
      let s1 := advance t s
      if i < 16 then detachCluster i s1
      else
        let s2 := (s1.setFlag Addr.SPOKE_DETACHED i true).raiseEvent evSpokeDetached owner [i]
        ((List.range 24).filter (fun p => portDie p == i - 16)).foldl (fun s p => portDown p 5 s) s2)

/-! Commands (R379, R398) -/

/-- RECOAT_SET (R379): a fraction code of a pool. -/
def cmdRecoatSet : CmdFn := fun e p s =>
  let code := byteAt p 1
  if !e.owner then refuse St.NOT_PERMITTED s
  else if p.length ≠ 4 ∨ !zerosAt p 2 2 ∨ 1 < byteAt p 0 ∨ (byteAt p 0 = 0 ∧ 5 < code) ∨ (byteAt p 0 = 1 ∧ 3 < code) then refuse St.BAD_PARAM s
  else (ok, s.setField Addr.INT_CTRL (if byteAt p 0 = 0 then 1 else 4) 3 code)

/-- A write of INT_CTRL (R379, R401): the bulk code is at most 5 and the inline code at most 3. -/
def wrIntCtrl (v : Nat) (s : State) : Nat × State :=
  if 5 < bits v 1 3 ∨ 3 < bits v 4 3 then (St.BAD_PARAM, s) else (St.OK, s.setReg Addr.INT_CTRL (v % 128))

/-- A write of CELL_ACK_TIMEOUT: 1 to 999 µs and below SPOKE_TIMEOUT (R383). -/
def wrCellAckTimeout (v : Nat) (s : State) : Nat × State :=
  let n := v % 1024
  if n = 0 ∨ 999 < n ∨ s.reg Addr.SPOKE_TIMEOUT ≤ n then (St.BAD_PARAM, s) else (St.OK, s.setReg Addr.CELL_ACK_TIMEOUT n)

/-- INTEGRITY_STATUS (R351, R398). -/
def cmdIntegrityStatus : CmdFn := fun e p s =>
  if !e.owner then refuse St.NOT_PERMITTED s
  else if p.length ≠ 32 then refuse St.BAD_PARAM s
  else (⟨St.OK, (cellMask p 0).flatMap (fun c =>
    let x := s.cellx c
    toBE 1 c ++ toBE 1 (s.field (Addr.CELL_STATE c) 0 8) ++ toBE 1 (min (s.transientsOf c).length 255) ++ toBE 1 x.testResult ++
      toBE 6 x.testSec ++ toBE 4 x.testNs ++ toBE 2 0)⟩, s)

/-- The fraction of a code as 256 × f (R379). -/
def fraction256 (code : Nat) : Nat := [0, 1, 4, 16, 64, 256].getD code 0

end Sys2Proof.Machine
end

