-- ==== Sys2Proof/Machine/Recoat.lean ====
section
/-!
DEFINITION. The outcome of a recoat (R374), shared by suspect bulk steps and flagged inline verdicts.
Log 28 names what the manual leaves open here.
-/
namespace Sys2Proof.Machine

/-- What a recoat yields (R374): whether a result stands, whether it is the recoat's (else the repeat's), whether the cell
is TRANSIENT, which parties are PERMANENT (0 the cell itself, 1 its peer, 2 the third), and whether a third run was made. -/
structure Verdict374 where
  stands : Bool
  fromPeer : Bool
  transient : Bool
  permanent : List Nat
  thirdRun : Bool
deriving DecidableEq, Repr

/-- The decision of R374 on the clean and equal marks of the recoat and the repeat, and on the third run where one is
made. -/
def decide374 (r : RecoatRuns) : Verdict374 :=
  if r.recoatClean ∧ r.repeatClean ∧ r.equal then ⟨true, true, true, [], false⟩
  else if r.recoatClean ∧ !r.repeatClean then ⟨true, true, false, [0], false⟩
  else if !r.recoatClean ∧ r.repeatClean then ⟨true, false, false, [1], false⟩
  else if r.recoatClean ∧ r.repeatClean then
    -- unequal: the third run decides
    if r.thirdClean ∧ r.third = 1 then ⟨true, true, false, [0], true⟩
    else if r.thirdClean ∧ r.third = 2 then ⟨true, false, false, [1], true⟩
    else ⟨false, false, false, if r.thirdClean then [] else [2], true⟩
  else
    -- both flagged: no two clean results can agree
    ⟨false, false, false, [0, 1] ++ (if r.thirdClean then [] else [2]), true⟩

/-- The decision for a party without a peer (R374, R377): its repeat alone decides. -/
def decideAlone (repeatClean : Bool) : Verdict374 :=
  if repeatClean then ⟨true, false, true, [], false⟩ else ⟨false, false, false, [0], false⟩

/-- The decision for a sampled result (R380, R381): the first result stands as the repeat; where recoat and first are clean
and unequal, the third run decides. -/
def decideSampled (r : RecoatRuns) : Verdict374 :=
  if r.recoatClean ∧ r.firstEqual then ⟨true, false, false, [], false⟩
  else if !r.recoatClean then ⟨true, false, false, [1], false⟩
  else if r.thirdClean ∧ r.third = 1 then ⟨true, true, false, [0], true⟩
  else if r.thirdClean ∧ r.third = 2 then ⟨true, false, false, [1], true⟩
  else ⟨false, false, false, if r.thirdClean then [] else [2], true⟩

/-- The number EV_RECOAT_RESULT carries for an outcome: 0 TRANSIENT, 1 PERMANENT, 2 neither. -/
def Verdict374.code (v : Verdict374) : Nat := if v.transient then 0 else if v.permanent.isEmpty then 2 else 1

/-- The cells fenced by an outcome, among the parties given in order (R375). -/
def Verdict374.fences (v : Verdict374) (parties : List (Option Nat)) : List Nat := v.permanent.filterMap (fun i => (parties.getD i none))

/-- What the checks of a run flag is counted on the cell that ran it (R241, R369, R371). -/
def countFlags (c : Nat) (f : RunFlags) (s : State) : State :=
  let s1 := if f.residue = 0 then s else
    ((s.bump32 (Addr.CELL_RESIDUE_FLAGS c) f.residue).bump64 Addr.INT_RESIDUE_FLAGS f.residue).coalesceEvent evResidueFlag owner c (ms 1) [c, f.residue]
  (s1.bump32 (Addr.PATH_MISMATCH c) f.walks).bump32 Addr.PATH_MISMATCHES f.walks

/-- The flags of the runs of a recoat are counted: the repeat's on the cell itself, the recoat's on its peer, and those of a third run
on the cell that made it. -/
def countRuns (parties : List (Option (List Nat))) (r : RecoatRuns) (third : Bool) (s : State) : State :=
  let on (i : Nat) (f : RunFlags) (s : State) : State := (parties.getD i none).elim s (fun cells =>
    (f.others.filter (fun x => x.1 != f.rank)).foldl (fun s x => (cells[x.1]?).elim s (fun c => countFlags c { residue := x.2.1, walks := x.2.2 } s))
      ((cells[if cells.length = 1 then 0 else f.rank]?).elim s (fun c => countFlags c f s)))
  let s1 := on 1 r.recoatFlags (on 0 r.repeatFlags s)
  if third then on 2 r.thirdFlags s1 else s1

/-- EV_RECOAT_RESULT (R375) and the counters of the runs; a sample whose recoat agrees has no outcome to report. -/
def reportRecoat (tenant : Nat) (v : Verdict374) (work step : Nat) (parties : List (Option Nat)) (row : Nat) (s : State) : State :=
  let s1 := s.bump32 Addr.RECOATS
  let s2 := if v.thirdRun then s1.bump32 Addr.DISAGREE else s1
  if v.code = 2 ∧ v.stands then s2 else s2.raiseEvent evRecoatResult tenant ([work, step, v.code, row] ++ parties.filterMap id)

end Sys2Proof.Machine
end

