-- ==== Sys2Proof/Machine/Job.lean ====
section
/-!
DEFINITION. Bulk jobs (R209 to R212, R260 to R265, R372 to R380, R388, R435 to R437): JOB_START and its checks, the launch, check,
commit, replay and recoat of steps, barriers, checkpoints and restarts. Logs 17, 28 and 31 name what the manual leaves open here.
-/
namespace Sys2Proof.Machine

/-! Event opcodes of the chapters (R193, R261, R263, R273). -/
def evJobStarted : Nat := 0xFF44
def evJobCheckpoint : Nat := 0xFF46
def evUpdateSkipped : Nat := 0xFF47

/-! Programs and images -/

/-- The regions of a job, read from its descriptors. -/
def imageRegions (m : JobImage) : List Region := m.regions.map (fun r => regionOfWord r.desc)

/-- The rank of a cell in its job. -/
def Job.rank (j : Job) (c : Nat) : Nat := j.cells.idxOf c

/-- The step headers of a program that end at barriers, with their places. -/
def progBarriers (p : CellProgram) : List Nat := (List.range p.steps.length).filter (fun i => (p.steps.getD i default).barrier)

/-- Whether step headers obey R209: reserved fields 0 (R10, R207), rising steps, sizes, and send lists that the program holds. -/
def stepsOk (p : CellProgram) : Bool :=
  p.heads.all (fun h => stepWordsOk h.1.toNat h.2.toNat) && (List.range p.steps.length).all (fun i =>
    let h := p.steps.getD i default
    decide (1 ≤ h.resultWords ∧ h.resultWords ≤ 16384 ∧ h.sendCount ≤ 64) &&
      (i == 0 || decide ((p.steps.getD (i - 1) default).step < h.step)) &&
      h.sendCount == (p.queue1.filter (fun d => CopyFlag.spec d && d.step == h.step)).length)

/-- The bytes an image lists as state, over all its ranks and HBM (R263). -/
def imageStateBytes (m : JobImage) : Nat := (m.cellRanges.map (fun r => r.2.2)).foldl (· + ·) 0 + (m.hbmRanges.map Prod.snd).foldl (· + ·) 0

/-- Whether ranges, one after another, cover the bytes from one offset to another. -/
def covered (rs : List (Nat × Nat)) : (fuel off stop : Nat) → Bool
  | 0, off, stop => decide (stop ≤ off)
  | k + 1, off, stop => decide (stop ≤ off) || (match rs.find? (fun r => decide (r.1 ≤ off ∧ off < r.1 + r.2)) with
    | some r => covered rs k (r.1 + r.2) stop
    | none => false)

/-- No range of a list meets a region at `base` unless the list covers its screed. -/
def screedWith (rs : List (Nat × Nat)) (base bytes screed screedBytes : Nat) : Bool :=
  !rs.any (fun x => rangesOverlap x.1 x.2 base bytes) || covered rs rs.length screed (screed + screedBytes)

/-- No narrow region is listed without its screed (R275). -/
def screedsListed (m : JobImage) : Bool :=
  let ranks := (m.cellRanges.map Prod.fst).eraseDups
  m.regions.all (fun r => (regionOfWord r.desc).kind == 0 ||
    (ranks.all (fun k => screedWith ((m.cellRanges.filter (fun x => x.1 == k)).map Prod.snd) r.base r.bytes r.screedBase r.screedBytes) &&
      (r.hbm.all (fun h => screedWith m.hbmRanges h.1 r.bytes h.2 r.screedBytes))))

/-- Grid images taken as ensembles (R237, R238): an image of R ranks and the images after it, R in all. -/
def ensemblesOk : (fuel : Nat) → List Bytes → Bool
  | 0, l => l.isEmpty
  | n + 1, l =>
    match l with
    | [] => true
    | g :: _ => ensembleValid (l.take (gridRanks g)) && ensemblesOk n (l.drop (gridRanks g))

/-- Whether an image passes the validation of R207, R237 and R260 by itself. -/
def imageOk (m : JobImage) : Bool :=
  let regions := imageRegions m
  m.ranks.all (fun p => decide (p.mode ≤ 2) && stepsOk p && (p.queue0 ++ p.queue1).all descOk) &&
    m.regions.all (fun r => regionValid false r.desc) && (regions.map Region.region).eraseDups.length == regions.length &&
    m.pairs.all (fun x => pairValid x.1 x.2) && m.updates.all (optValid regions) && recipeRegions regions m.updates && ensemblesOk m.grids.length m.grids && screedsListed m

/-- Whether the checkpoint region is laid out as R263 and R275 ask. -/
def ckptOk (m : JobImage) (base len every : Nat) : Bool :=
  base % 32 == 0 && len % 64 == 0 && decide (base + len ≤ hbmBytes) &&
    ((len == 0 && every == 0 && m.updates.isEmpty && imageStateBytes m == 0) || decide (2 * (imageStateBytes m + 96) ≤ len) || (len == 0 && every == 0 && m.updates.isEmpty))

/-- Whether the static descriptors of a job in `s` would fault (R219): each end on this device in a space whose owners do not change
while the job runs; a landing zone is set for a job that exists. -/
def staticFault (j : Job) (s : State) : Bool :=
  let own := some (j.id % 2 ^ 32)
  j.image.ranks.any (fun p => (p.queue0 ++ p.queue1).any (fun d =>
    (let c := s.copyCause j.tenant own d; spaceOf d.dst != 3 && spaceOf d.src != 3 && decide (1 ≤ c ∧ c ≤ 4)) ||
      decide (3 < spaceOf d.dst ∨ 3 < spaceOf d.src) ||
      (s.localAddr d d.src && spaceOf d.src != 3 && s.endCause j.tenant own false d != 0) ||
      (s.localAddr d d.dst && spaceOf d.dst != 3 && s.endCause j.tenant own true d != 0)))

/-- Whether the descriptors of each rank stand in the queue that carries them (R213): queue 0 writes the cell's own store, queue 1
reads the cell's own store or commit buffer. -/
def queuesOk (j : Job) (s : State) : Bool :=
  (j.cells.zip j.image.ranks).all (fun x =>
    x.2.queue0.all (fun d => s.localAddr d d.dst && cellOf (spaceOf d.dst) (offsetOf d.dst) == some x.1) &&
    x.2.queue1.all (fun d => s.localAddr d d.src && cellOf (spaceOf d.src) (offsetOf d.src) == some x.1))

/-! JOB_START (R260) -/

/-- 1.0 twice: P1 and P2 at JOB_START (R273). -/
def onePowers (w : W256) : W256 := BitVec.ofNat 256 (putBits (putBits w.toNat 0 32 oneFp) 32 32 oneFp)

/-- A rank's program is loaded into its cell from a step index and a job beat on (R207, R213, R264). -/
def loadProgram (j : Job) (c next from_ : Nat) (s : State) : State :=
  let p := j.image.ranks.getD (j.rank c) default
  let number (q : List CopyDesc) : List (Nat × CopyDesc) := ((List.range q.length).zip q).filter (fun d => decide (from_ ≤ d.2.launch))
  let last := if next = 0 then 0 else (p.steps.getD (next - 1) default).step
  let s1 := (List.range 16).foldl (fun s i => s.setReg (Addr.ARRIVE c i) 0) s
  let s2 := ((s1.setReg (Addr.STEP_COMMITTED c) last).setReg (Addr.STEP_LAUNCHED c) last).setReg (Addr.COMMIT_OCC c) 0
  -- the inactive bank is written and becomes the active one at the release of the job's first gust; no grid is in the registers yet
  let bank := 1 - s2.reg (Addr.PROG_BANK c) % 2
  let s3 := ((s2.setFlag (Addr.PROG_BANK c) 1 true).setReg (Addr.HOLDER c) j.id).setReg (Addr.GRID_STATUS c) 0
  syncQueues c (s3.updCell c (fun x => { x with
    prog := some p, next, opens := [], again := [], again1 := [], resend := [], banks := tabSet {} bank { mode := p.mode, prog := some p } x.banks
    q0 := (number p.queue0).take 64, more0 := (number p.queue0).drop 64, q1 := (number p.queue1).take 64, more1 := (number p.queue1).drop 64 }))

/-- The job's cells take its programs and are released from a job beat (R44, R49, R260). -/
def startCells (j : Job) (nexts : Nat → Nat) (beat : Nat) (s : State) : State :=
  let s1 := j.cells.foldl (fun s c => loadProgram j c (nexts c) (if nexts c = 0 then 0 else beat) s) s
  let s2 := j.clusters.foldl (fun s k => s.setReg (Addr.ZC_BULK k) beat) s1
  releaseJob j j.clusters s2

/-- The cells of a job return to service under its present state (R261). -/
def runJob (tenant id : Nat) (s : State) : State :=
  match s.job tenant id with
  | some j => setJobState tenant id (s.runState j) 0 s
  | none => s

/-- Ended jobs beyond the last 1,024 are forgotten (R417). -/
def trimJobs (l : List Job) : List Job :=
  let ended := (l.filter (fun j => !j.live)).length
  (l.foldl (fun (a : List Job × Nat) j => if !j.live ∧ a.2 ≠ 0 then (a.1, a.2 - 1) else (a.1 ++ [j], a.2)) ([], ended - 1024)).1

/-- The job that a JOB_START with parameters `p` and image `m` makes. -/
def newJob (e : Env) (p : Bytes) (m : JobImage) (s : State) : Job :=
  let others := s.jobs.filter Job.live
  { id := be p 0 8, tenant := e.tenant, session := e.session, tag := e.tag, cells := cellMask p 8, image := m, startBeat := be p 56 8
    ckptBase := be p 64 8, ckptLen := be p 72 8, ckptEvery := be p 80 2, energy0 := s.reg Addr.ENERGY, shared := !others.isEmpty
    foreign := others.any (fun x => x.tenant != e.tenant), lastProgress := s.now
    regions := (imageRegions m).map (fun g => { region := g.region }) }

/-- `s` with a job entered: an ended job of its tenant and number is replaced, and the live jobs share their tenure (R417). -/
def enterJob (j : Job) (s : State) : State :=
  let kept := (s.jobs.filter (fun x => !(x.tenant == j.tenant && x.id == j.id))).map (fun x =>
    if x.live then { x with shared := true, foreign := x.foreign || x.tenant != j.tenant } else x)
  { s with jobs := trimJobs (kept ++ [j]) }

/-- The refusal of a job by the checks of R260, in their order. -/
def jobRefused (e : Env) (p : Bytes) (j : Job) (s : State) : Option Nat :=
  if !imageOk j.image ∨ !ckptOk j.image j.ckptBase j.ckptLen j.ckptEvery ∨ j.image.ranks.length ≠ j.cells.length ∨ j.cells.isEmpty ∨
      !queuesOk j s ∨ staticFault j (enterJob j s) then some St.BAD_PARAM
  else if j.cells.any (fun c => s.cellState c != 2 || s.cellTenant c != e.tenant) ∨ j.image.hbmRanges.any (fun r => !s.inWindows e.tenant r.1 r.2 true) ∨ !s.inWindows e.tenant (be p 40 8) (be p 48 4) false ∨
      (j.ckptLen ≠ 0 ∧ !s.inWindows e.tenant j.ckptBase j.ckptLen true) ∨
      (imageRegions j.image).any (fun g => (enterJob j s).statsRefused e.tenant (some (j.id % 2 ^ 32)) g.stats) then some St.NOT_PERMITTED
  else if j.cells.any (fun c => (s.jobOfCell c).isSome || s.flag (Addr.CELL_STATE c) 5) then some St.BUSY
  else none

/-- JOB_START (R260, R351). A field test that runs on one of its cells is abandoned: a cell held by a job has no lull (R390, log 28). -/
def cmdJobStart : CmdFn := fun e p s =>
  let id := be p 0 8
  if p.length ≠ 88 ∨ !zerosAt p 52 4 ∨ !zerosAt p 82 6 ∨ id = 0 ∨ s.jobs.any (fun j => j.live && j.tenant == e.tenant && j.id == id) then
    refuse St.BAD_PARAM s
  else match Config.jobImage (s.readBytes e.tenant (be p 40 8) (min (be p 48 4) hbmBytes)) with
    | none => refuse St.BAD_PARAM s
    | some m =>
      let j := newJob e p m s
      match jobRefused e p j s with
      | some code => refuse code s
      | none =>
        let s := countHbm false (be p 40 8) (be p 48 4) s
        let s2 := j.cells.foldl (fun s c => m.powers.foldl (fun s a => s.setStore c a (onePowers (s.storeWord c a))) (abandonTest c s)) (enterJob j s)
        (st St.ACCEPTED, runJob e.tenant id ((startCells j (fun _ => 0) j.startBeat s2).raiseEvent evJobStarted e.tenant [id]))

/-! Launching a step (R210) -/

/-- The regions a step's operations write. -/
def opWrites (regions : List Region) : StepOp → List Nat
  | .gemm out _ _ _ _ => [out.region]
  | .quantise out _ => [out.region]
  | .vector out _ => [out.region]
  | .topk out _ _ _ => [out.region]
  | .argmax _ _ => []
  | .gather _ _ _ _ => []
  | .intSum _ _ => []
  | .grid _ _ _ _ _ _ => []
  | .gridReduce _ _ _ _ => []
  | .lanes _ => []
  | .update d _ _ _ _ => let o := optDesc d; ([o.master, o.mom1] ++ if o.mom2 = 0xFFFF then [] else [o.mom2]).filter (fun r => regions.any (fun g => g.region == r))

/-- The blocks a region has emitted before a step launches (R184): those committed, and those of the open steps of every rank. -/
def Job.blocksBefore (j : Job) (s : State) (region : Nat) : Nat :=
  ((j.regions.find? (fun r => r.region == region)).elim 0 RegionRec.blocks) +
    (((j.cells.flatMap (fun c => (s.cellx c).opens)).flatMap OpenStep.tallies).filter (fun t => t.region == region)).foldl (fun a t => a + t.blocks) 0

/-- What an attempt of a step computes from the store now; the blocks of a region count from what they were as the step first
launched (R184). -/
def runStep (j : Job) (c step : Nat) (firsts : List (Nat × Nat)) (work : List StepOp) (s : State) : WorkDone :=
  runWork j.id step (imageRegions j.image) j.image.grids (fun g => ((firsts.find? (fun x => x.1 == g)).map Prod.snd).getD 0) (s.stepWord c)
    (s.cellx c).regs work

/-- An open step with what its attempt left. -/
def OpenStep.withWork (o : OpenStep) (work : List StepOp) (d : WorkDone) : OpenStep :=
  { o with work, results := d.results, tallies := d.tallies, skew := d.skew, skipped := d.skipped, judged := d.judged, reduced := d.reduced
           suspect := 0, replay := false, freed := false }

/-- Whether the beat of a cell's bulk domain lets a step of the job launch (R210, R410). -/
def State.bulkOpen (s : State) (j : Job) (c : Nat) : Bool :=
  s.beat.released.contains c && s.bulkLaunches (c / 16) && (j.state == 0 || j.state == 1)

/-- Whether a dump in progress holds back a step that writes its region (R437). -/
def Job.dumpHolds (j : Job) (work : List StepOp) : Bool :=
  j.dumps.any (fun d => d.fired.isSome && work.any (fun op => (opWrites (imageRegions j.image) op).contains d.region))

/-- A cell launches the operation words of a step, the one of cause 2 of a trace session perhaps among them (R433). -/
def tracePc (c : Nat) (h : StepHeader) (s : State) : State :=
  match s.obs.trace with
  | some t => if t.pcCell = c ∧ h.opStart ≤ t.pc ∧ t.pc < h.opStart + h.opCount then traceCause 2 s else s
  | none => s

/-- GRID_STATUS of a cell after its step's grid operations (R240, R244): the last image loaded serves, and the one before it is in the
shadow register. -/
def showGrids (j : Job) (c : Nat) (work : List StepOp) (s : State) : State :=
  work.foldl (fun s op => match op with
    | .grid _ _ i _ _ _ => (j.image.grids[i]?).elim s (fun g =>
        s.setReg (Addr.GRID_STATUS c) (gridStatus (some g) (bitAt (s.reg (Addr.GRID_STATUS c)) 0)))
    | _ => s) s

/-- The next step of a cell's program launches (R210). -/
def launchNext (j : Job) (c : Nat) (p : CellProgram) (work : List StepOp) (s : State) : State :=
  let x := s.cellx c
  let k := c / 16
  match p.steps[x.next]? with
  | none => s
  | some h =>
    let barrier := ((progBarriers p).filter (fun i => decide (i < x.next))).length
    let firsts := j.image.regions.map (fun g => (g.desc % 65536, j.blocksBefore s (g.desc % 65536)))
    if h.launch ≤ s.zcBulk k ∧ h.waits.all (fun w => decide (w.2 ≤ s.reg (Addr.ARRIVE c w.1))) ∧ s.reg (Addr.COMMIT_OCC c) + h.resultWords ≤ 16384 ∧
        barrier ≤ j.lastBarrier ∧ !j.dumpHolds work ∧ work.all (opFits p.mode (imageRegions j.image) j.image.updates) ∧
        (runStep j c h.step firsts work s).results.length ≤ h.resultWords then
      let d := runStep j c h.step firsts work s
      let o : OpenStep := ({ index := x.next, step := h.step, firsts } : OpenStep).withWork work d
      let s1 := ((s.setReg (Addr.STEP_LAUNCHED c) h.step).setReg (Addr.COMMIT_OCC c) (s.reg (Addr.COMMIT_OCC c) + h.resultWords)).bump64
        (Addr.STALL_BEATS c) (s.zcBulk k - h.launch)
      let s2 := (s1.updCell c (fun x => { x with next := x.next + 1, opens := x.opens ++ [o], regs := d.regs })).setFlag (Addr.CELL_STATE c) 2 true
      let s3 := if h.sendCount = 0 then s2 else
        { s2 with copies := { s2.copies with
          sends := s2.copies.sends ++ [{ id := s2.copies.nextSend, cell := c, step := h.step, job := j.id, tenant := j.tenant, size := h.sendCount }]
          nextSend := s2.copies.nextSend + 1 } }
      tracePc c h (showGrids j c work s3)
    else s

/-- The commit-buffer words of an open step of a cell. -/
def State.stepWords (s : State) (c : Nat) (o : OpenStep) : Nat := (((s.cellx c).prog.bind (fun p => p.steps[o.index]?)).map StepHeader.resultWords).getD 0

/-- A step waiting for its replay launches again once its inbound copies have been re-issued and its words are free in the commit
buffer (R185, R210); the beats it waited are a stall (R46). -/
def relaunch (j : Job) (c : Nat) (p : CellProgram) (o : OpenStep) (work : List StepOp) (s : State) : State :=
  let into (d : CopyDesc) : Bool := s.localAddr d d.dst && cellOf (spaceOf d.dst) (offsetOf d.dst) == some c
  let quiet := s.copies.flights.any (fun f => f.quiet && (f.queue == 2 * c || into f.desc)) ||
    j.cells.any (fun x => (s.cellx x).again1.any (fun d => into d.2))
  let words := if o.freed then s.stepWords c o else 0
  if !(s.cellx c).again.isEmpty ∨ quiet ∨ 16384 < s.reg (Addr.COMMIT_OCC c) + words ∨
      !work.all (opFits p.mode (imageRegions j.image) j.image.updates) ∨ s.stepWords c o < (runStep j c o.step o.firsts work s).results.length then s
  else
    let d := runStep j c o.step o.firsts work s
    let s1 := (s.setReg (Addr.COMMIT_OCC c) (s.reg (Addr.COMMIT_OCC c) + words)).bump64 (Addr.STALL_BEATS c) (s.zcBulk (c / 16) - o.due)
    let s2 := showGrids j c work (s1.updCell c (fun x => { x with
      regs := d.regs, opens := x.opens.map (fun y => if y.step = o.step then y.withWork work d else y) }))
    (((s.cellx c).prog.bind (fun p => p.steps[o.index]?))).elim s2 (fun h => tracePc c h s2)

/-- STEP_LAUNCH (R210, R373): a cell with a suspect step launches nothing; a replay goes before the next step. -/
def execStepLaunch (t c : Nat) (work : List StepOp) (s : State) : Host.Outcome State Fault Refusal :=
  .next (match s.jobOfCell c, (s.cellx c).prog with
    | some j, some p =>
      let x := s.cellx c
      if s.bulkOpen j c ∧ !x.opens.any (fun o => o.suspect != 0) then
        match x.opens.find? OpenStep.replay with
        | some o => relaunch j c p o work (advance t s)
        | none => launchNext j c p work (advance t s)
      else s
    | _, _ => s)

/-! Committing a step (R190, R191, R211, R435 to R437) -/

/-- Numeric order of FP32 codes for a swatch, and the extremes of finite values (R435): the canonical NaN when there is none. -/
def extreme (less : Nat → Nat → Bool) (l : List Nat) : Nat :=
  match l.filter finite32 with
  | [] => 0x7FC00000
  | x :: xs => xs.foldl (fun a b => if less b a then b else a) x

/-- x < y on FP32 codes. -/
def lessFp (x y : Nat) : Bool := (fp32 x).lt (fp32 y)

/-- What a swatch computes of a committed attempt's tiles of its region (R435). -/
structure SwatchValue where
  min : Nat
  max : Nat
  mean : Nat
  sumsq : Nat
  nan : Nat
  crc : Nat
  elements : Nat
deriving DecidableEq, Repr

/-- The data bytes of tiles in ascending coordinate, row by row across the tiles that share their rows (R435). -/
def rowBytes (ts : List Tally) : Bytes :=
  ((ts.map Tally.row).eraseDups).flatMap (fun r =>
    let beside := ts.filter (fun t => t.row == r)
    (List.range ((beside.map (fun t => t.data.length)).foldl max 0)).flatMap (fun i => beside.flatMap (fun t => t.data.getD i [])))

/-- The swatch of a region over tiles in ascending coordinate (R435). -/
def swatchValue (tiles : List Tally) : SwatchValue :=
  let ts := sortBy tileBefore tiles
  let vs := ts.flatMap Tally.values
  let fin := vs.filter finite32
  let n := vs.length
  { min := extreme lessFp vs, max := extreme (fun a b => lessFp b a) vs
    mean := divFp (fin.foldl addFp 0) (toFp32 (.fin false n 1))
    sumsq := fin.foldl (fun a v => addFp a (mulFp v v)) 0
    nan := (vs.filter (fun v => (fp32 v).isNan)).length, crc := crc32c (rowBytes ts), elements := n }

/-- BOUNDS crossed (R436). -/
def Swatch.crossed (w : Swatch) (v : SwatchValue) : Nat :=
  let on (b : Nat) : Bool := b != 0xFFFFFFFF && !(fp32 b).isNan
  b2n (on w.lo && lessFp v.min w.lo) + b2n (on w.hi && lessFp w.hi v.max) * 2 + b2n (w.nanMax != 0xFFFFFFFF && decide (w.nanMax < v.nan)) * 4 +
    b2n (on w.sumsqMax && lessFp w.sumsqMax v.sumsq) * 8

/-- A record on a swatch's ring, or lost when it is full (R436): the swatch with its lost count. -/
def writeSwatch (t : Nat) (w : Swatch) (step : Nat) (v : SwatchValue) (crossed : Nat) (s : State) : Swatch × State :=
  let hd := s.readBytes t w.base 8
  let prod := le hd 0 4
  let cons := le hd 4 4
  if w.entries = 0 then ({ w with lost := w.lost + 1 }, s)
  else if (prod + 2 ^ 32 - cons) % 2 ^ 32 = w.entries then ({ w with lost := w.lost + 1 }, countHbm false w.base 8 s)
  else
    let w0 := step % 2 ^ 64 + v.min * 2 ^ 64 + v.max * 2 ^ 96 + v.mean * 2 ^ 128 + v.sumsq * 2 ^ 160 + v.nan % 2 ^ 32 * 2 ^ 192 + v.crc * 2 ^ 224
    let w1 := w.region + w.index * 2 ^ 16 + crossed * 2 ^ 20 + v.elements % 2 ^ 32 * 2 ^ 24
    let s1 := (countHbm false w.base 8 s).storeBytes t (w.base + 32 + 64 * (prod % w.entries)) (toLE 32 w0 ++ toLE 32 w1)
    (w, s1.storeBytes t w.base (toLE 4 ((prod + 1) % 2 ^ 32)))

/-- The region of a job's image by its number. -/
def Job.imageRegion (j : Job) (region : Nat) : Option JobRegion := j.image.regions.find? (fun r => r.desc % 65536 == region)

/-- A region as it stands, with its screed, rank by rank (R437). -/
def State.regionContent (s : State) (j : Job) (r : JobRegion) : Bytes :=
  let byte (c a : Nat) : Byte := BitVec.ofNat 8 (bits (s.storeWord c (a / 32)).toNat (8 * (a % 32)) 8)
  j.cells.flatMap (fun c => (List.range r.bytes).map (fun i => byte c (r.base + i)) ++ (List.range r.screedBytes).map (fun i => byte c (r.screedBase + i)))

/-- Armed dumps of a job fire at the commit of a step (R437): each takes its region as it stands. -/
def fireDumps (tenant id step : Nat) (which : Dump → Bool) (s : State) : State :=
  match s.job tenant id with
  | none => s
  | some j =>
    let hit (d : Dump) : Bool := d.fired.isNone && which d
    (s.bump32 Addr.DUMPS_FIRED (j.dumps.filter hit).length).updJob tenant id (fun j => { j with
      dumps := j.dumps.map (fun d => if hit d then { d with fired := some step, content := (j.imageRegion d.region).elim [] (s.regionContent j) } else d) })

/-- A swatch after a step commits elements of its region (R435, R436): the record, the event, the trigger, and the dumps
armed on its first crossing. -/
def commitSwatch (tenant id step : Nat) (tiles : List Tally) (s : State) (w : Swatch) : State :=
  let mine := tiles.filter (fun t => t.region == w.region && t.elements != 0)
  if mine.isEmpty then s
  else
    let v := swatchValue mine
    let x := w.crossed v
    let r := writeSwatch tenant w step v x s
    let s1 := r.2.updJob tenant id (fun j => { j with swatches := j.swatches.map (fun y => if y.index = w.index then r.1 else y) })
    if x = 0 then s1
    else
      let s2 := s1.coalesceEvent evSwatchBound tenant (id * 16 + w.index) (ms 1) [id, w.index, w.region, step, x, r.1.lost]
      let s3 := match s2.obs.trace with
        | some t => if t.swatchJob = id ∧ t.swatch = w.index then traceCause 3 s2 else s2
        | none => s2
      fireDumps tenant id step (fun d => d.bySwatch == some w.index) s3

/-- The last step committed on every rank (R261). -/
def State.lastCommon (s : State) (j : Job) : Nat :=
  match j.cells with
  | [] => 0
  | c :: cs => cs.foldl (fun a c => min a (s.reg (Addr.STEP_COMMITTED c))) (s.reg (Addr.STEP_COMMITTED c))

/-- A region's record after a commit (R190 to R192): it is written with each step's commit. -/
def commitRegion (tenant id step : Nat) (tiles : List Tally) (s : State) (g : Region) : State :=
  match s.job tenant id with
  | none => s
  | some j =>
    let mine := tiles.filter (fun t => t.region == g.region)
    let r0 := (j.regions.find? (fun r => r.region == g.region)).getD { region := g.region }
    let of (n : Nat) : Nat := if g.window = 0 then 0 else n / g.window * g.window
    let c := checkDrift tenant id (of step) g ({ r0 with step }.commit step (of step) (s.lastCommon j) (of (s.lastCommon j)) mine) s
    let s1 := c.2.updJob tenant id (fun j => { j with regions := j.regions.map (fun r => if r.region = g.region then c.1 else r) })
    writeRecordAt tenant id g.stats (recordWords c.1 step c.1.winStart (combineTallies g.region (c.1.tilesOf step))) s1

/-- The compare-grid counters of a committed bulk step (R242, R244). -/
def commitJudged (c : Nat) (o : OpenStep) (s : State) : State :=
  o.judged.foldl (fun s v =>
    let s1 := (s.bump64 (Addr.GRID_LAUNCHES c)).bump64 (Addr.NAN_FEATURE c) v.1.length
    let s2 := match v.1.getLast? with
      | some n => s1.setReg (Addr.NAN_LAST c) (n.1 % 256 + n.2 % 64 * 256)
      | none => s1
    (s2.bump32 (Addr.OUT_OVF c) v.2.1).bump32 (Addr.OUT_NAN c) v.2.2)
    (o.reduced.foldl (fun s r => (s.bump32 (Addr.OUT_OVF c) r.1).bump32 (Addr.OUT_NAN c) r.2) s)

/-- Whether every rank has committed its last step. -/
def State.jobDone (s : State) (j : Job) : Bool :=
  j.cells.all (fun c => (s.cellx c).opens.isEmpty && (match (s.cellx c).prog with | some p => decide (p.steps.length ≤ (s.cellx c).next) | none => false))

/-- A step commits (R211): its results enter the store as one, its statistics, swatches and dumps follow, its send list is
confirmed; the job ends with its last step. -/
def commitStep (tenant id c : Nat) (o : OpenStep) (s : State) : State :=
  match s.job tenant id with
  | none => s
  | some j =>
    let words := if o.freed then 0 else s.stepWords c o
    let s1 := o.results.foldl (fun s r => s.setStore c (r.1 % storeWords) r.2) s
    let s2 := ((s1.setReg (Addr.STEP_COMMITTED c) o.step).setReg (Addr.COMMIT_OCC c) (s1.reg (Addr.COMMIT_OCC c) - words)).updCell c
      (fun x => { x with opens := x.opens.filter (fun y => y.step != o.step) })
    let s3 := if (s2.cellx c).opens.isEmpty then s2.setFlag (Addr.CELL_STATE c) 2 false else s2
    let s4 := (imageRegions j.image).foldl (commitRegion tenant id o.step o.tallies) s3
    let s5 := j.swatches.foldl (commitSwatch tenant id o.step o.tallies) (commitJudged c o s4)
    let s6 := o.skipped.foldl (fun s k => s.raiseEvent evUpdateSkipped tenant [id, o.step, k.1, k.2]) s5
    let s7 := s6.updJob tenant id (fun j => { j with
      lastStep := s6.lastCommon j, lastProgress := s6.now })
    let s8 := settleSend c o.step true (fireDumps tenant id o.step (fun d => d.bySwatch.isNone && d.step == o.step && s6.lastCommon j == o.step) s7)
    if s8.jobDone j then advanceSends (endJob tenant id 5 0 s8) else s8

/-! Checks, replays and recoats (R185, R366, R372 to R380) -/

/-- Whether a step of a rank is sampled (R380). -/
def State.bulkSampled (s : State) (jobId step rank : Nat) : Bool :=
  decide (bits (mix ((mix jobId) ^^^ step ^^^ (rank * 2 ^ 48 % 2 ^ 64))) 56 8 < fraction256 (s.field Addr.INT_CTRL 1 3))

/-- One open step of a cell changed. -/
def State.updOpen (s : State) (c step : Nat) (f : OpenStep → OpenStep) : State :=
  s.updCell c (fun x => { x with opens := x.opens.map (fun o => if o.step = step then f o else o) })

/-- The commit-buffer words of a step whose check failed are freed (R211). -/
def freeBuffer (c : Nat) (o : OpenStep) (s : State) : State :=
  if o.freed then s
  else (s.setReg (Addr.COMMIT_OCC c) (s.reg (Addr.COMMIT_OCC c) - s.stepWords c o)).updOpen c o.step (fun o => { o with freed := true })

/-- Of the copies of one of a cell's queues that have launched, those that write a word the step of cell `c` reads (R185). -/
def inboundOf (s : State) (c : Nat) (words : List Nat) (queue : List CopyDesc) (waiting : List (Nat × CopyDesc)) : List (Nat × CopyDesc) :=
  ((List.range queue.length).zip queue).filter (fun d =>
    !(waiting.map Prod.fst).contains d.1 && s.localAddr d.2 d.2.dst && spaceOf d.2.dst == 2 &&
      (copyPairs d.2).any (fun a => a.2 / 2 ^ 23 == c && words.contains (a.2 % 2 ^ 23 / 32)))

/-- The inbound copies a replay re-issues (R185): of the cell's queue 0, and of queue 1 of the job's cells, those already launched whose
destination holds a word that the step reads. -/
def reissueCopies (j : Job) (c : Nat) (o : OpenStep) (s : State) : State :=
  let words := stepReads (imageRegions j.image) j.image.grids (s.stepWord c) o.work
  let of (x : CellX) (f : CellProgram → List CopyDesc) : List CopyDesc := x.prog.elim [] f
  let s1 := syncQueues c (s.updCell c (fun x => { x with again := x.again ++ inboundOf s c words (of x CellProgram.queue0) (x.q0 ++ x.more0) }))
  j.cells.foldl (fun s k => syncQueues k (s.updCell k (fun x => { x with
    again1 := x.again1 ++ inboundOf s c words (of x CellProgram.queue1) (x.q1 ++ x.more1) }))) s1

/-- A screed skew (R185): the attempt is discarded and counted; the first is replayed, the second fails the job back. -/
def skewStep (j : Job) (c : Nat) (o : OpenStep) (k : Nat × Nat × Nat) (s : State) : State :=
  let s1 := (s.updJob j.tenant j.id (fun j => { j with regions := j.regions.map (fun r => if r.region = k.1 then { r with skewTotal := r.skewTotal + 1 } else r) })).raiseEvent
    evScreedSkew j.tenant [j.tenant, j.id, k.1, o.step, c, k.2.1, k.2.2, o.skews + 1]
  let s2 := freeBuffer c o (settleSend c o.step false s1)
  if o.skews = 0 then
    -- the tallies of the discarded attempt still hold the numbers of its blocks (R184); the replay's take their place
    reissueCopies j c o (s2.updOpen c o.step (fun o => { o with replay := true, due := s2.zcBulk (c / 16), skews := 1, results := [], skew := none }))
  else advanceSends (failBack j.tenant j.id St.SCREED_SKEW s2)

/-- The outcome of a step's last check (R211, R241, R366, R371, R372, R194): a skew first, then an uncorrectable store word, then
residue flags and disagreements of the two walks of a tree, then sampling; else it commits. -/
def checkStep (j : Job) (c : Nat) (o : OpenStep) (k : StepCheck) (s : State) : State :=
  let s0 := s.bump32 (Addr.CELL_C256_CORR c) k.corrected
  match o.skew with
  | some x => skewStep j c o x s0
  | none =>
    if k.storeBad then advanceSends (failBack j.tenant j.id St.JOB_FAILED (s0.noteUncorr 5 c))
    else
      let flags := if s.flag Addr.INT_CTRL 0 then k.mismatches else 0
      if flags ≠ 0 ∨ k.bufferBad ∨ k.walks ≠ 0 then
        let s1 := countFlags c { residue := flags, walks := k.walks } (if k.bufferBad then s0.noteUncorr 7 c else s0)
        let why := if flags ≠ 0 ∨ k.walks ≠ 0 then 1 else 2
        settleSend c o.step false (freeBuffer c o (s1.updOpen c o.step (fun o => { o with suspect := why, row := k.row })))
      else if s.bulkSampled j.id o.step (j.rank c) then s0.updOpen c o.step (fun o => { o with suspect := 3 })
      else commitStep j.tenant j.id c o s0

/-- STEP_CHECK_DONE (R211): steps commit in order, so the check of the oldest open step is the one that ends. -/
def execStepCheckDone (t c step : Nat) (k : StepCheck) (s : State) : Host.Outcome State Fault Refusal :=
  .next (match s.jobOfCell c, (s.cellx c).opens.head? with
    | some j, some o => if o.step = step ∧ o.suspect = 0 ∧ !o.replay then checkStep j c o k (advance t s) else s
    | _, _ => s)

/-- The peer of a cell in its job (R374): the lowest rank above it in another cluster, wrapping, else the next rank; a cell fenced
meanwhile is passed over (R400). -/
def Job.peer (s : State) (j : Job) (c : Nat) : Option Nat :=
  let r := j.rank c
  let order := (j.cells.drop (r + 1) ++ j.cells.take r).filter (fun x => s.cellState x != 3)
  match order.find? (fun x => x / 16 != c / 16) with
  | some p => some p
  | none => order.head?

/-- A suspect step resolved (R374 to R376, R380): the clean result commits, then cells found PERMANENT are fenced; with no
majority the job restarts. -/
def settleSuspect (j : Job) (c : Nat) (o : OpenStep) (r : RecoatRuns) (s : State) : State :=
  let p := j.peer s c
  let q := p.bind (j.peer s)
  let v := if p.isNone then decideAlone r.repeatClean else if o.suspect = 3 then decideSampled r else decide374 r
  let parties := [some c, p, q]
  let s1 := if o.suspect = 3 ∧ p.isSome ∧ r.recoatClean ∧ !r.firstEqual then (s.bump32 Addr.SILENT_MISMATCH).raiseEvent evSilentMismatch owner [j.id, o.step, c] else s
  let s2 := reportRecoat j.tenant v j.id o.step parties r.row (countRuns (parties.map (fun x => x.map (fun c => [c]))) r v.thirdRun s1)
  let s3 := if v.stands then commitStep j.tenant j.id c o s2 else s2
  let kind := if o.suspect = 3 then 7 else 1
  let s4 := (v.fences parties).foldl (fun s x => permanent { kind, cell := x, work := j.id, step := o.step, row := r.row } s) s3
  let s5 := if v.transient then countTransient c j.id o.step r.row s4 else s4
  if v.stands then s5 else advanceSends (failBack j.tenant j.id St.JOB_FAILED s5)

/-- RECOAT_COMPARE (R374). -/
def execRecoatCompare (t c step : Nat) (r : RecoatRuns) (s : State) : Host.Outcome State Fault Refusal :=
  .next (match s.jobOfCell c, (s.cellx c).opens.find? (fun o => o.step == step && o.suspect != 0) with
    | some j, some o => settleSuspect j c o r (advance t s)
    | _, _ => s)

/-! Barriers (R53, R262) -/

/-- The place of barrier `n`, counted from 1, in a cell's program. -/
def progBarrier (p : CellProgram) (n : Nat) : Option Nat := (progBarriers p)[n - 1]?

/-- Whether a cell has committed barrier step `n` of its program. -/
def State.pastBarrier (s : State) (c n : Nat) : Bool :=
  match (s.cellx c).prog with
  | some p => match progBarrier p n with
    | some i => decide ((p.steps.getD i default).step ≤ s.reg (Addr.STEP_COMMITTED c)) && (s.cellx c).opens.all (fun o => decide (i < o.index))
    | none => false
  | none => false

/-- B of barrier `n`: the job beat of the next step after it (R262). -/
def State.barrierBeat (s : State) (j : Job) (n : Nat) : Nat :=
  (j.cells.findSome? (fun c => (s.cellx c).prog.bind (fun p => (progBarrier p n).bind (fun i => (p.steps[i + 1]?).map StepHeader.launch)))).getD
    ((j.cells.head?.map (fun c => s.zcBulk (c / 16))).getD 0)

/-- Whether a job of a group is run by the manager here. -/
def Job.grouped (j : Job) : Bool := !j.image.members.isEmpty

/-- Whether barrier `n` takes a checkpoint (R263). -/
def Job.ckptDue (j : Job) (n : Nat) : Bool := j.ckptLen != 0 && (j.ckptAsked || (j.ckptEvery != 0 && n % j.ckptEvery == 0))

/-- An ARRIVE reaches the manager (R53). -/
def noteArrive (id member t : Nat) (s : State) : State :=
  { s with jobs := s.jobs.map (fun j => if j.live ∧ j.id = id ∧ j.grouped ∧ !(j.arrivals.map Prod.fst).contains member then { j with arrivals := j.arrivals ++ [(member, t)] } else j) }

/-- Word 0 of a slot header. -/
def slotWord0 (j : Job) (valid : Bool) : Nat := j.id + j.lastBarrier % 2 ^ 64 * 2 ^ 64 + j.barrierBeat % 2 ^ 64 * 2 ^ 128 + b2n valid * 2 ^ 255

/-- A checkpoint begins: the header of its slot is written with VALID 0 (R263). -/
def openSlot (j : Job) (s : State) : State := s.storeBytes j.tenant (j.slotAt j.nextSlot) (toLE 32 (slotWord0 j false) ++ List.replicate 64 0)

/-- The last cluster of a job has halted at its barrier (R53, R262, R263). -/
def reachBarrier (tenant id n b : Nat) (s : State) : State :=
  match s.job tenant id with
  | none => s
  | some j =>
    let s1 := s.updJob tenant id (fun j => { j with lastBarrier := n, arrivedZc := s.zc, arrivedAt := s.timeBase, restarts := if j.restartFrom < n then 0 else j.restarts })
    let s2 := if j.ckptDue n then
        openSlot { j with lastBarrier := n, barrierBeat := b } (setJobState tenant id 2 0 (s1.updJob tenant id (fun j => { j with ckptAsked := false, ckptAt := n })))
      else s1
    if !j.grouped then s2
    else if s.isManager then noteArrive id s.device s.timeBase s2
    else sendCtrl .arrive (s.reg Addr.MANAGER % 64) [id, b, s.timeBase] s2

/-- BARRIER_ARRIVE (R53, R262): the clusters whose cells have committed the barrier step halt with ZC_BULK frozen at B. -/
def execBarrierArrive (t tenant id : Nat) (s : State) : Host.Outcome State Fault Refusal :=
  .next (match s.job tenant id with
    | none => s
    | some j =>
      let n := j.lastBarrier + 1
      let ready := j.clusters.filter (fun k => !j.atBarrier.contains k && (j.cells.filter (fun c => c / 16 == k)).all (fun c => s.pastBarrier c n))
      if !j.live ∨ 2 ≤ j.state ∨ ready.isEmpty ∨ j.atBarrier.length = j.clusters.length then s
      else
        let b := s.barrierBeat j n
        let s1 := haltClusters .barrier ready (advance t s)
        let s2 := ready.foldl (fun s k => s.setReg (Addr.ZC_BULK k) b) s1
        let s3 := s2.updJob tenant id (fun j => { j with atBarrier := j.atBarrier ++ ready, barrierBeat := b })
        let s4 := setJobState tenant id 1 0 s3
        if j.atBarrier.length + ready.length = j.clusters.length then reachBarrier tenant id n b s4 else s4)

/-- MANAGER_RESUME (R53, R325): once every member has arrived, and a due checkpoint is logged, T is fixed and sent. -/
def execManagerResume (t id : Nat) (s : State) : Host.Outcome State Fault Refusal :=
  .next (match s.jobs.find? (fun j => j.live && j.id == id && j.grouped) with
    | some j =>
      if s.limik ∧ s.isManager ∧ j.resumeAt.isNone ∧ j.image.members.all (fun m => (j.arrivals.map Prod.fst).contains m) ∧ (j.ckptAt ≠ j.lastBarrier ∨ j.lastBarrier = 0 ∨ j.lastBarrier ≤ j.loggedBarrier) then
        let last := (j.arrivals.map Prod.snd).foldl max 0
        let at_ := last + 16000 * s.reg Addr.RESUME_MARGIN
        let s1 := sendCtrl .resume allMembers [id, j.barrierBeat, at_] (advance t s)
        s1.updJob j.tenant id (fun j => { j with resumeAt := some at_, arrivals := [] })
      else s
    | none => s)

/-- Whether a job may leave its barrier (R53, R262, R263): every cluster halted and the checkpoint written, and a root beat
issued since; a group job needs the manager's RESUME and a root beat at or after T, and waits for firmware during a handover (R481). -/
def State.mayRelease (s : State) (j : Job) : Bool :=
  s.field Addr.CALM_BULK 0 9 != 256 && j.state == 1 && j.atBarrier.length == j.clusters.length && !j.atBarrier.isEmpty &&
    (if j.grouped then s.limik && j.resumeAt.elim false (fun t => decide (t ≤ s.beat.lastTime)) else decide (j.arrivedZc < s.zc))

/-- BARRIER_RELEASE (R53, R262): gust 0 is released on job beat B. -/
def execBarrierRelease (t tenant id : Nat) (s : State) : Host.Outcome State Fault Refusal :=
  .next (match s.job tenant id with
    | none => s
    | some j =>
      if s.mayRelease j then
        let s1 := unhaltClusters [.barrier] j.atBarrier (advance t s)
        let s2 := j.clusters.foldl (fun s k => s.setReg (Addr.ZC_BULK k) j.barrierBeat) s1
        let s3 := s2.updJob tenant id (fun j => { j with atBarrier := [], resumeAt := none, ckptDone := [], lastProgress := t })
        runJob tenant id (releaseJob j j.clusters s3)
      else s)

/-! Checkpoints (R263) -/

/-- The content of a checkpoint: the listed ranges of the cell stores in order, then those of HBM. -/
def State.ckptContent (s : State) (j : Job) : Bytes :=
  (j.image.cellRanges.flatMap (fun r =>
    let c := j.cells.getD r.1 0
    (List.range r.2.2).map (fun i => let a := r.2.1 + i; BitVec.ofNat 8 (bits (s.storeWord c (a / 32)).toNat (8 * (a % 32)) 8)))) ++
  j.image.hbmRanges.flatMap (fun r => s.readBytes j.tenant r.1 r.2)

/-- A slot whose header was written with VALID 0 is finished (R263): the content, the digest, and word 0 with VALID 1 last. -/
def writeSlot (j : Job) (s : State) : State :=
  let a := j.slotAt j.nextSlot
  let content := s.ckptContent j
  let digest := slice (Config.sha384 content) 0 48
  let s2 := (j.image.hbmRanges.foldl (fun s r => countHbm false r.1 r.2 s) s).storeBytes j.tenant (a + 96) content
  let s3 := s2.storeBytes j.tenant (a + 32) (digest ++ toLE 16 0)
  s3.storeBytes j.tenant a (toLE 32 (slotWord0 j true))

/-- A CKPT_DONE of a member reaches the manager (R325): once every member has reported, the completion is logged. -/
def noteCkptDone (id barrier member : Nat) (s : State) : State :=
  match s.jobs.find? (fun j => j.live && j.id == id && j.grouped) with
  | none => s
  | some j =>
    let done := if j.ckptDone.contains (member, barrier) then j.ckptDone else j.ckptDone ++ [(member, barrier)]
    let all := j.image.members.all (fun m => done.contains (m, barrier))
    let s1 := s.updJob j.tenant id (fun j => { j with ckptDone := done })
    if all ∧ j.loggedBarrier < barrier ∧ !(s.group.pendingLog.any (fun r => r.kind == 5 && r.body == [id, barrier])) then appendLog 5 [id, barrier] s1
    else s1

/-- CHECKPOINT_WRITE_DONE (R263, R267, R325): the slot is VALID and the job may leave its barrier; a failed write leaves the
slot not VALID and the job falls back to the other slot. The row says how many words of each cell store were corrected as they
were read (R196). -/
def execCheckpointWriteDone (t tenant id : Nat) (check : CkptCheck) (s0 : State) : Host.Outcome State Fault Refusal :=
  .next (let s := check.corrected.foldl (fun s x => if x.1 < 256 then s.bump32 (Addr.CELL_C256_CORR x.1) x.2 else s) s0
    match s.job tenant id with
    | none => s0
    | some j =>
      if j.state ≠ 2 then s0
      else if check.good then
        let s1 := writeSlot j (advance t s)
        let s2 := (s1.updJob tenant id (fun j => { j with ckptBarrier := j.lastBarrier, nextSlot := 1 - j.nextSlot })).raiseEvent
          evJobCheckpoint tenant [id, j.lastBarrier, j.nextSlot]
        let s3 := setJobState tenant id 1 0 s2
        if !j.grouped then s3
        else if s.isManager then noteCkptDone id j.lastBarrier s.device s3
        else sendCtrl .ckptDone (s.reg Addr.MANAGER % 64) [id, j.lastBarrier] s3
      else advanceSends (failBack tenant id St.JOB_FAILED (advance t s)))

/-- CKPT_DONE_LOG (R325): a member's report reaches the manager. -/
def execCkptDoneLog (t id barrier member : Nat) (s : State) : Host.Outcome State Fault Refusal :=
  .next (if s.isManager then noteCkptDone id barrier member (advance t s) else s)

/-! Restarts (R264, R276, R388) -/

/-- The cell a rank runs on after a restart (R264, R386): its own, or where that was fenced or lies in a detached cluster the
lowest-numbered BULK cell of the tenant that no job holds. -/
def rankCell (s : State) (j : Job) (taken : List Nat) (c : Nat) : Option Nat :=
  if s.cellState c = 2 ∧ s.cellTenant c = j.tenant ∧ !s.detached (c / 16) then some c
  else (List.range 256).find? (fun x => s.cellState x == 2 && s.cellTenant x == j.tenant && (s.jobOfCell x).isNone && !s.flag (Addr.CELL_STATE x) 5 &&
    !s.detached (x / 16) && !taken.contains x)

/-- The cells of every rank after a restart; none where one finds no cell. -/
def rankCells (s : State) (j : Job) : Option (List Nat) :=
  j.cells.foldl (fun a c => a.bind (fun l => (rankCell s j l c).map (fun x => l ++ [x]))) (some [])

/-- One byte range of a cell store is loaded. -/
def loadStore (c off : Nat) (bs : Bytes) (s : State) : State :=
  (List.range bs.length).foldl (fun s i =>
    let a := off + i
    let w := (s.storeWord c (a / 32)).toNat
    s.setStore c (a / 32) (BitVec.ofNat 256 (putBits w (8 * (a % 32)) 8 (byteAt bs i)))) s

/-- The listed ranges are loaded from a slot's content (R264). -/
def loadContent (j : Job) (slot : Nat) (s : State) : State :=
  let at_ := j.slotAt slot + 96
  let r1 := j.image.cellRanges.foldl (fun (a : State × Nat) r =>
    (loadStore (j.cells.getD r.1 0) r.2.1 (a.1.readBytes j.tenant (at_ + a.2) r.2.2) a.1, a.2 + r.2.2)) (s, 0)
  (j.image.hbmRanges.foldl (fun (a : State × Nat) r => (a.1.storeBytes j.tenant r.1 (a.1.readBytes j.tenant (at_ + a.2) r.2), a.2 + r.2)) r1).1

/-- The region records after a restart from barrier `n` (R192, R276). -/
def restartRegion (j : Job) (n step : Nat) (r : RegionRec) : RegionRec :=
  match j.image.regions.find? (fun g => g.desc % 65536 == r.region) with
  | none => r
  | some g =>
    let w := (regionOfWord g.desc).window
    { r with blocks := ((g.blocks.find? (fun b => b.1 == n)).map Prod.snd).getD 0, winStart := if w = 0 then 0 else step / w * w, winSat := 0, drift := false
             older := [], tiles := [] }

/-- The dumps of a job whose copies its restart cuts short fail (R443). -/
def failDumps (j : Job) (s : State) : State :=
  (j.dumps.filter (fun d => d.fired.isSome)).foldl (fun s d =>
    s.raiseFor evDumpFailed j.tenant d.session d.tag St.JOB_FAILED [j.id, d.num, d.region, d.fired.getD 0, 0]) s

/-- JOB_RESTART (R264, R388): the job's programs and listed ranges are loaded from its last VALID slot, its counters are
cleared, and its cells released on that slot's B. -/
def execJobRestart (t tenant id : Nat) (s : State) : Host.Outcome State Fault Refusal :=
  .next (match s.job tenant id with
    | none => s
    | some j0 =>
      if j0.state ≠ 4 ∨ s.field Addr.CALM_BULK 0 9 = 256 then s
      else
        let s0 := advance t s
        match s0.lastSlot j0, rankCells s0 j0 with
        | none, _ => failJob tenant id j0.lastStatus s0
        | some _, none => failJob tenant id St.NO_FIT s0
        | some (slot, n, b), some cells =>
          let j := { j0 with cells }
          let nexts (c : Nat) : Nat := (progBarrier (j.image.ranks.getD (j.rank c) default) n).elim 0 (· + 1)
          let step := (j.cells.head?.map (fun c => ((j.image.ranks.getD (j.rank c) default).steps.getD (nexts c) default).step)).getD 0
          let s1 := s0.updJob tenant id (fun j => { j with
            cells, lastBarrier := n, ckptBarrier := n, ckptAt := 0, barrierBeat := b, restartFrom := n, lastProgress := t, nextSlot := 1 - slot
            regions := j.regions.map (restartRegion j n step) })
          let s1 := failDumps j (s1.updJob tenant id (fun j => { j with dumps := j.dumps.map (fun d => { d with fired := none, content := [] }) }))
          let s2 := startCells j nexts b (countHbm false (j.slotAt slot) (96 + imageStateBytes j.image) (loadContent j slot s1))
          let s2 := if j.grouped && s.isManager then sendCtrl .restart allMembers [id, n] s2 else s2
          let s3 := (s2.bump32 Addr.RESTARTS).raiseEvent evJobRestart tenant [id, n, j.restarts]
          runJob tenant id s3)

/-- RESTART of a group job from the manager (R388). -/
def restartGroupJob (id barrier : Nat) (s : State) : State :=
  match s.jobs.find? (fun j => j.live && j.id == id && j.grouped) with
  | some j => advanceSends (failBack j.tenant id St.JOB_FAILED (s.updJob j.tenant id (fun j => { j with loggedBarrier := max j.loggedBarrier barrier })))
  | none => s

/-! Job commands (R265, R351) -/

/-- The job a command names. -/
def jobNamed (e : Env) (p : Bytes) (s : State) : Option Job := s.job e.tenant (be p 0 8)

/-- JOB_CHECKPOINT (R263). -/
def cmdJobCheckpoint : CmdFn := fun e p s =>
  if p.length ≠ 8 then refuse St.BAD_PARAM s
  else match jobNamed e p s with
    | some j => if j.live ∧ j.ckptLen ≠ 0 then (ok, s.updJob j.tenant j.id (fun j => { j with ckptAsked := true })) else refuse St.BAD_PARAM s
    | none => refuse St.BAD_PARAM s

/-- JOB_CANCEL (R265): at once; launched copies run out. -/
def cmdJobCancel : CmdFn := fun e p s =>
  if p.length ≠ 8 then refuse St.BAD_PARAM s
  else match jobNamed e p s with
    | some j => if j.live then (ok, advanceSends (endJob j.tenant j.id 7 0 s)) else refuse St.BAD_PARAM s
    | none => refuse St.BAD_PARAM s

/-- JOB_STATUS (R261, R351). -/
def cmdJobStatus : CmdFn := fun e p s =>
  if p.length ≠ 8 then refuse St.BAD_PARAM s
  else match jobNamed e p s with
    | some j => (⟨St.OK, toBE 1 (s.shownState j) ++ toBE 1 0 ++ toBE 2 j.lastStatus ++ toBE 4 0 ++ toBE 8 j.lastStep ++ toBE 8 j.lastBarrier ++ toBE 8 j.ckptBarrier⟩, s)
    | none => refuse St.BAD_PARAM s

end Sys2Proof.Machine
end

