-- ==== Sys2Proof/Machine/Group.lean ====
section
/-!
DEFINITION. The group (R51, R321 to R325, R331, R387, R486): joining and leaving, the manager and its lease, the
configuration log, and what its records do on a member. Logs 46 and 47 name what the manual leaves open here.
-/
namespace Sys2Proof.Machine

def evManagerStepdown : Nat := 0xFF63
def evManagerChange : Nat := 0xFF64

/-! Roles (R321) -/

/-- Whether this device is a follower. -/
def State.isFollower (s : State) : Bool := s.flag Addr.MANAGER 7

/-- The span device number of a member of this group. -/
def State.deviceOfMember (s : State) (m : Nat) : Nat := 64 * s.groupNum + m

/-! The group reference (R51) -/

/-- The torus ports on a shortest path to member `m`, ascending (R309, R51). -/
def State.refPorts (s : State) (m : Nat) : List Nat :=
  (List.range 12).filter (fun p =>
    let d := (coord m (portDim p) + 4 - coord s.member (portDim p)) % 4
    if p / 2 % 2 = 0 then d == 1 || d == 2 else d == 3 || d == 2)

/-- The port the reference is taken from by default. -/
def State.refChoice (s : State) : Option Nat := (s.refPorts s.manager).find? s.portUp

/-- With AUTO, GROUP_REF_PORT takes the default port (R51, R60). -/
def chooseRef (s : State) : State :=
  if !s.joined ∨ s.isManager ∨ !s.flag Addr.GROUP_REF_PORT 8 then s
  else match s.refChoice with
    | some q => s.setField Addr.GROUP_REF_PORT 0 4 q
    | none => s

/-- MANAGER names member `m` as manager, with this device's own role; under a manager it did not have, the port of the group
reference is chosen again (R51). -/
def setManager (m : Nat) (s : State) : State :=
  let s1 := s.setReg Addr.MANAGER (m % 64 + b2n (m == s.member) * 64 + b2n (m != s.member && (s.followersOf m).contains s.member) * 128)
  if m % 64 = s.manager then s1 else chooseRef s1

/-- LOCKED of GROUP_ALIGN (R60): a joined member's rate follows the group reference while its reference port is up; the manager's
is the reference. -/
def State.refLocked (s : State) : Bool := s.joined && (s.isManager || s.portUp (s.field Addr.GROUP_REF_PORT 0 4))

/-- GROUP_ALIGN as it reads (R60): LOCKED, and ALIGNED while LOCKED with no lag and the offset within ±8 ns (64 × 125 ps). -/
def State.groupAlign (s : State) : Nat :=
  let o := s.field Addr.GROUP_ALIGN 0 16
  o + b2n s.refLocked * 2 ^ 16 + b2n (s.refLocked && s.lagNow == 0 && decide ((signed 16 o).natAbs ≤ 64)) * 2 ^ 17

/-- A write of GROUP_REF_PORT (R60): a torus port 0 to 11 and AUTO, which selects the port by R51. -/
def wrGroupRefPort (v : Nat) (s : State) : Nat × State :=
  if 11 < v % 16 then (St.BAD_PARAM, s) else (St.OK, chooseRef (s.setReg Addr.GROUP_REF_PORT (v % 16 + bits v 8 1 * 256)))

/-- GROUP_REF_SWITCH (R51): the reference port is down, and the next one on a shortest path takes over. -/
def execGroupRefSwitch (t p : Nat) (s : State) : Host.Outcome State Fault Refusal :=
  let old := s.field Addr.GROUP_REF_PORT 0 4
  .next (if s.joined ∧ !s.isManager ∧ !s.portUp old ∧ s.refChoice = some p then
      ((advance t s).setField Addr.GROUP_REF_PORT 0 4 p).raiseEvent evGroupRefChange owner [old, p]
    else s)

/-! What the records of the log do (R323) -/

/-- The live jobs that run in the group. -/
def State.groupJobs (s : State) : List Job := s.jobs.filter (fun j => j.live && j.grouped)

/-- What another device held is reclaimed (R387): credits of its links, packets held for it, XFER numbers and RD_REQ
reservations of copies with it, the halves it left pending, REVOKEs it will not answer, and its SEQ windows. -/
def reclaimDevice (d : Nat) (s : State) : State :=
  let ports := (List.range 24).filter (fun p => s.reg (Addr.PARTNER p) / 2 ^ 18 % 2 == 1 && s.field (Addr.PARTNER p) 0 13 == d)
  let f := s.fabric
  let fabric : FabricState := { f with
    credit := f.credit.filter (fun c => !ports.contains (c.1 / 32)), granted := f.granted.filter (fun c => !ports.contains (c.1 / 32))
    held := f.held.filter (fun k => k.dst != d), window := f.window.filter (fun w => w.1 / 4 != d) }
  let clear (e : LandSlot) : LandSlot := if e.pending.any (fun q => q.1 == d) then { e with pending := none, notices := [], confirmed := false } else e
  let zone (z : Zone) : Zone := { z with entries := (z.entries.map (fun e => (e.1, clear e.2))).filter (fun e => e.2 != default) }
  let send (x : SendList) : SendList := { x with revoking := x.revoking.filter (fun r => r.1 != d) }
  let s1 : State := { s with fabric, copies := { s.copies with zones := s.copies.zones.map zone, sends := s.copies.sends.map send } }
  let lost := s1.copies.flights.filter (fun f => f.peer == some d)
  advanceSends (lost.foldl (fun s f => if s.copies.flights.any (fun g => g.id == f.id) then endReads f.id (copyFault f 6 s) else s) s1)

/-- Member `m` is lost (R387): it is live no longer, its group jobs end FAILED, and its records are reclaimed. -/
def loseMember (m : Nat) (s : State) : State :=
  let d := s.deviceOfMember m
  let s1 := { s with group.live := s.group.live.filter (· != m) }
  let s2 := (s1.groupJobs.filter (fun j => j.image.members.contains d)).foldl (fun s j => failJob j.tenant j.id St.JOB_FAILED s) s1
  let s3 := reclaimDevice d s2
  if m = s3.manager then s3 else setManager s3.manager s3

/-- MEMBER_ROUTE and GROUP_ROUTE from the words of a routes record (R323). -/
def setRoutes (ws : List Nat) (s : State) : State :=
  let s1 := (List.range 64).foldl (fun s j => s.setReg (Addr.MEMBER_ROUTE j) ((ws.getD j 0x3F) % 64)) s
  retryHeld ((List.range 128).foldl (fun s j => s.setReg (Addr.GROUP_ROUTE j) (ws.getD (64 + j) 0x7F)) s1)

/-- The mask of the bits of a GROUP_ROUTE pair that are not reserved (R334). -/
def groupRouteMask : Nat := 0x000FFFFF0FFFFF7F

/-- A committed record acts on this member (R323). -/
def applyRecord (r : LogRecord) (s : State) : State :=
  match r.kind, r.body with
  | 0, [0, m] => if s.group.live.contains m ∧ m ≠ s.member then loseMember m s else s
  | 0, 1 :: m :: _ => if s.group.live.contains m then s else
      let s1 := { s with group.live := sortBy (fun a b => decide (a ≤ b)) (s.group.live ++ [m]) }
      setManager s1.manager s1
  | 1, [rate, n0, t0] =>
    -- a member that has not made its step counts on its own origin until then (R51)
    if s.isManager then s else if s.group.joinAt.isSome then { s with beat.rate := rate } else { s with beat := { s.beat with rate, n0, t0 } }
  | 2, l => { s with group.calm := l }
  | 3, ws => setRoutes ws s
  | 4, 0 :: z => { s with group.landings := s.group.landings ++ [z] }
  | 4, 1 :: z => { s with group.landings := s.group.landings.filter (fun x => x.take 2 != z) }
  | 5, [id, b] => { s with jobs := s.jobs.map (fun j => if j.live ∧ j.id = id ∧ j.grouped then { j with loggedBarrier := max j.loggedBarrier b } else j) }
  | 6, n :: _ => if n ≤ s.zc then s else { (s.setFlag Addr.FREEZE_STATUS 1 true).setFlag Addr.FREEZE_STATUS 2 true with obs.freezeAt := some (n, true) }
  | _, _ => s

/-- The ratio of the latest calm-ratio record, committed or not. -/
def State.loggedRatio (s : State) : List Nat :=
  (((s.group.log ++ s.group.pendingLog).filter (fun r => r.kind == 2)).getLast?.map (fun r => r.body.take 3)).getD [0, 0, 0]

/-- A member's calm needs reach the manager (R411): when the largest value of a domain changes, the ratio is logged. -/
def noteNeeds (m b c f : Nat) (s : State) : State :=
  if !s.isManager then s
  else
    let needs := tabSet 0 m (b % 512 + c % 512 * 2 ^ 9 + f % 512 * 2 ^ 18) s.group.needs
    let top (lo : Nat) : Nat := ((needs.filter (fun x => s.group.live.contains x.1)).map (fun x => bits x.2 lo 9)).foldl max 0
    let s1 := { s with group.needs := needs }
    if [top 0, top 9, top 18] = s.loggedRatio then s1 else appendLog 2 [top 0, top 9, top 18] s1

/-- A record as the manager sends it: a calm ratio takes its beat N, at least 4 µs ahead, as it is sent (R411). -/
def sendable (r : LogRecord) (s : State) : LogRecord × State :=
  if r.kind = 2 then
    let (n, s1) := s.deviceBeat (4 * s.beat.rate)
    ({ r with body := r.body.take 3 ++ [n] }, s1)
  else (r, s)

/-- LOG_COMMIT (R323): the oldest record not committed is, once both followers have stored it, or the one that is live; then
the manager acts on it and sends it to every member. -/
def execLogCommit (t acks : Nat) (s : State) : Host.Outcome State Fault Refusal :=
  .next (match s.group.pendingLog with
    | r :: rest =>
      if s.limik ∧ s.isManager ∧ 1 ≤ acks ∧ (s.followersOf s.member).length ≤ acks then
        let (r, s0) := sendable r (advance t s)
        let s1 := { s0 with group := { s0.group with pendingLog := rest, log := s0.group.log ++ [r], lastAck := t } }
        applyRecord r (sendCtrl .record allMembers (r.index :: r.term :: r.kind :: r.body) (s1.setReg Addr.LOG_INDEX r.index))
      else s
    | [] => s)

/-- A committed record sent by the manager reaches a member: it joins its log, and acts (R323). -/
def takeLogRecord (r : LogRecord) (s : State) : State :=
  if s.isManager ∨ r.index ≤ s.reg Addr.LOG_INDEX then s
  else
    let g := s.group
    applyRecord r ({ s with group := { g with log := g.log ++ [r], pendingLog := g.pendingLog.filter (fun q => r.index < q.index) } }.setReg Addr.LOG_INDEX r.index)

/-- A record to be stored reaches a follower, which answers once it has (R323). -/
def storeRecord (r : LogRecord) (s : State) : State :=
  if !s.isFollower ∨ r.index ≤ s.reg Addr.LOG_INDEX ∨ s.group.pendingLog.contains r then s
  else sendCtrl .stored s.manager [r.index] { s with group.pendingLog := s.group.pendingLog ++ [r] }

/-! Leases (R321, R322, R324) -/

/-- The manager distributes its time on virtual channel 3 with the delay of the links to each member, and measures that delay
again (R52). R52 gives no interval: the model's manager does so with every lease (DESIGN CHOICE, log 46). -/
def sendTime (s : State) : State :=
  (s.group.live.filter (· != s.member)).foldl (fun s m =>
    sendCtrl .delayAsk m [s.timeBase] (sendCtrl .time m [s.timeBase, tabGet 0 m s.group.delays] s)) s

/-- The manager's time reaches a member (R52): under SOURCE GROUP its offset from this time base is a servo update. -/
def takeTime (stamp delay : Nat) (s : State) : State :=
  let off : Int := ((stamp + delay : Nat) - (s.timeBase : Int)) / 16
  if s.timeSource = 3 ∧ s.limik then correctTime off (servoState off s) else s

/-- The answer to a measurement of delay reaches the manager (R52): the delay is half of the round trip. -/
def takeDelay (m stamp : Nat) (s : State) : State :=
  if s.isManager then { s with group.delays := tabSet 0 m ((s.timeBase - stamp) / 2) s.group.delays } else s

/-- The manager sends a lease (R321). -/
def sendLease (s : State) : State :=
  let n := s.group.renewal + 1
  sendTime (sendCtrl .lease allMembers [s.reg Addr.TERM, n] { s with group := { s.group with renewal := n, lastRenewal := s.now, leaseHeld := true } })

/-- LEASE_RENEWAL (R321): every 10 ms. -/
def execLeaseRenewal (t : Nat) (s : State) : Host.Outcome State Fault Refusal :=
  .next (if s.limik ∧ s.isManager ∧ s.group.lastRenewal + ms 10 ≤ t then sendLease (advance t s) else s)

/-- ARRIVEs no RESUME has answered are sent again to a new manager (R323). -/
def resendArrives (s : State) : State :=
  (s.groupJobs.filter (fun j => !j.atBarrier.isEmpty && j.atBarrier.length == j.clusters.length && j.resumeAt.isNone)).foldl (fun s j =>
    if s.isManager then noteArrive j.id s.device j.arrivedAt s else sendCtrl .arrive s.manager [j.id, j.barrierBeat, j.arrivedAt] s) s

/-- LEASE_RECEIVE (R322): a lease of the highest term seen is followed; a lower term is ignored. A follower acknowledges. -/
def takeLease (term renewal sender : Nat) (s : State) : State :=
  let old := s.reg Addr.TERM
  if term < old ∨ (term = old ∧ sender ≠ s.manager) then s
  else
    let s1 := setManager sender (s.setReg Addr.TERM term)
    let s2 := { s1 with group := { s1.group with lastRenewal := s1.now, missed := 0, leaseHeld := true, renewal, peerLog := none } }
    let s3 := if s2.isFollower ∧ s2.limik then sendCtrl .leaseAck sender [term, renewal] s2 else s2
    if old < term then resendArrives { s3 with group.pendingLog := [] } else s3

/-- LEASE_RECEIVE (R321, R322). -/
def execLeaseReceive (t term renewal sender : Nat) (s : State) : Host.Outcome State Fault Refusal :=
  .next (if s.joined ∧ sender < 64 ∧ sender ≠ s.member then takeLease term renewal sender (advance t s) else s)

/-- The new manager brings its followers up to its log (R322). -/
def sendLog (s : State) : State :=
  (s.followersOf s.member).foldl (fun s m => s.group.log.foldl (fun s r => sendCtrl .record m (r.index :: r.term :: r.kind :: r.body) s) s) s

/-- This follower takes over as manager (R322). -/
def takeOver (s : State) : State :=
  let s1 := setManager s.member (s.setReg Addr.TERM ((s.reg Addr.TERM + 1) % 2 ^ 32))
  let s2 := { s1 with group := { s1.group with missed := 0, lastAck := s1.now, pendingLog := [] }
                      jobs := s1.jobs.map (fun (j : Job) => if j.grouped then { j with arrivals := [], ckptDone := [] } else j) }
  resendArrives (sendLog (sendLease (s2.raiseEvent evManagerChange owner [s.member, s2.reg Addr.TERM])))

/-- Whether this follower takes over after three missed renewals (R322): the longer committed log does, and of two equal
ones the follower earlier in MGR_ORDER. -/
def State.takesOver (s : State) (otherLog : Nat) : Bool :=
  let f := s.followersOf s.manager
  s.isFollower && s.limik && (f == [s.member] || otherLog < s.reg Addr.LOG_INDEX || (otherLog == s.reg Addr.LOG_INDEX && s.liveOrder.find? f.contains == some s.member))

/-- A follower that misses renewals sends the length of its committed log to the other follower (R322). -/
def sendLogLength (s : State) : State :=
  if s.isFollower ∧ s.limik then ((s.followersOf s.manager).filter (· != s.member)).foldl (fun s m => sendCtrl .logLength m [s.reg Addr.LOG_INDEX] s) s else s

/-- MISSED_RENEWAL (R322, R324): no renewal for 10 ms; after three no manager holds a lease, and a follower takes over. The operand is the
length of the other follower's log, unless that follower has sent it (log 46). -/
def execMissedRenewal (t otherLog : Nat) (s : State) : Host.Outcome State Fault Refusal :=
  .next (if s.joined ∧ !s.isManager ∧ s.group.lastRenewal + ms 10 * (s.group.missed + 1) ≤ t then
      let s1 := sendLogLength { (advance t s) with group.missed := s.group.missed + 1 }
      if s1.group.missed < 3 then s1
      else
        let s2 := { s1 with group.leaseHeld := false }
        let s3 := if s.group.leaseHeld ∧ s2.timeSource = 3 ∧ s2.timeState ≠ 3 then holdover s2 else s2
        if s3.takesOver (s3.group.peerLog.getD otherLog) then takeOver s3 else s3
    else s)

/-- MANAGER_STEPDOWN (R321): a manager without a follower's acknowledgement for 20 ms stops all manager actions. -/
def execManagerStepdown (t : Nat) (s : State) : Host.Outcome State Fault Refusal :=
  .next (if s.isManager ∧ s.group.lastAck + ms 20 ≤ t then
      ({ (advance t s) with group := { s.group with leaseHeld := false, pendingLog := [] } }.setFlag Addr.MANAGER 6 false).raiseEvent
        evManagerStepdown owner [s.member, s.reg Addr.TERM]
    else s)

/-- MEMBER_LOST (R387): the manager logs the loss, and acts on it once it is committed; any other member acts on the
manager's word. -/
def execMemberLost (t m : Nat) (s : State) : Host.Outcome State Fault Refusal :=
  .next (if s.joined ∧ s.group.live.contains m ∧ m ≠ s.member then
      if s.isManager then appendLog 0 [0, m] (advance t s) else loseMember m (advance t s)
    else s)

/-- ROUTE_RECOMPUTE (R310, R312): the manager computes both tables (64 and 128 words) and logs them. -/
def execRouteRecompute (t : Nat) (members groups : List Nat) (s : State) : Host.Outcome State Fault Refusal :=
  .next (if s.limik ∧ s.isManager ∧ members.length = 64 ∧ groups.length = 128 then
      appendLog 3 (members.map (· % 64) ++ groups.map (· &&& groupRouteMask)) (advance t s)
    else s)

/-! Joining and leaving (R51, R321, R331) -/

/-- The group schedule as this member's own count sees it until its step of ZC_ROOT (R51): the manager's beat at the present
instant is this member's. -/
def joinSchedule (link : JoinInfo) (s : State) : BeatState :=
  let e := (s.now - link.t0) * link.rate / 1000000
  { s.beat with rate := link.rate, t0 := link.t0 + ceilDiv (e * 1000000) link.rate, n0 := s.zc + (link.n0 + e - link.groupZc)
                modeWas := none, newOrigin := false }

/-- GROUP_JOIN (R51, R321, R452, R486). A join waits while no manager holds a lease (R324): BUSY. The manager's own join opens the log with
its membership and its schedule; any other member asks the manager to log its own (log 46). -/
def cmdGroupJoin (link : JoinInfo) : CmdFn := ownerOnly fun _ p s =>
  let g := byteAt p 0
  let m := byteAt p 1
  let n := byteAt p 3
  let order := (List.range n).map (fun i => byteAt p (4 + i))
  if p.length ≠ 24 ∨ 127 < g ∨ 63 < m ∨ 63 < byteAt p 2 ∨ n < 3 ∨ 8 < n ∨ order.any (63 < ·) ∨ order.eraseDups.length ≠ n ∨
      !zerosAt p (4 + n) (8 - n) ∨ 1000000000 ≤ be p 18 4 ∨ !zerosAt p 22 2 ∨ link.rate < 500 ∨ 2000 < link.rate then refuse St.BAD_PARAM s
  else if !link.ownerMatch then refuse St.NOT_PERMITTED s
  else if s.joined ∨ link.live.contains m ∨ (!link.lease ∧ !link.live.isEmpty) then refuse St.BUSY s
  else if link.groupZc < s.zc ∧ !link.live.isEmpty then refuse St.BAD_PARAM s
  else
    let live := sortBy (fun a b => decide (a ≤ b)) (m :: link.live)
    let group : GroupState := { live, order, bridge := byteAt p 2, joinAt := some (be p 12 6, be p 18 4, link.groupZc), lastRenewal := s.now,
                                lastAck := s.now, leaseHeld := true }
    let s1 := { s with group, beat := joinSchedule link s }.setReg Addr.DEVICE_NUMBER (64 * g + m + 2 ^ 13)
    let s2 := ((s1.setReg Addr.TERM link.term).setReg Addr.LOG_INDEX link.logIndex).setField Addr.BEAT_CTRL 0 2 2
    let s3 := setManager (s2.liveOrder.headD m) s2
    let s4 := if s3.isManager then appendLog 1 [link.rate, link.n0, link.t0] (appendLog 0 (1 :: m :: order) s3)
      else sendCtrl .record s3.manager (0 :: 0 :: 0 :: 1 :: m :: order) { s3.setReg Addr.TIME_CTRL (s3.reg Addr.TIME_CTRL % 16 / 4 * 4 + 3 + 16) with time.good := 0 }
    (ok, chooseRef s4)

/-- ZC_JOIN (R51): at the PTP instant the manager named, ZC_ROOT steps forward to the group's value. -/
def execZcJoin (t groupZc : Nat) (s : State) : Host.Outcome State Fault Refusal :=
  .next (match s.group.joinAt with
    | none => s
    | some (sec, ns, _) =>
      let s0 := advance t s
      if s0.sec < sec ∨ (s0.sec = sec ∧ s0.ns < ns) then s
      else
        let new := max s.zc groupZc
        let s1 := { s0 with group.joinAt := none, beat.n0 := s0.beat.n0 + (new - s.zc) }
        (s1.setReg Addr.ZC_ROOT new).raiseEvent evZcJoin owner [s.zc, new])

/-- The landing zones of jobs are cleared (R331). -/
def clearZones (js : List Job) (s : State) : State :=
  { s with copies.zones := s.copies.zones.filter (fun z => !(js.any (fun j => j.tenant == z.tenant && j.id == z.job))) }

/-- The device leaves its group (R331), step by step. -/
def leaveGroup (s : State) : State :=
  let js := s.groupJobs
  let s1 := clearZones js (js.foldl (fun s j => failJob j.tenant j.id St.JOB_FAILED s) s)
  let s2 := (({ s1 with beat := { s1.beat with newOrigin := true } } : State).setField Addr.BEAT_CTRL 0 2 1).setReg Addr.BEAT_RATE_TARGET s1.beat.rate
  let s3 := s2.setReg Addr.GROUP_ALIGN 0
  let s4 := if s3.timeSource = 3 then holdover (s3.setField Addr.TIME_CTRL 0 2 0) else s3
  let s5 := (List.range 64).foldl (fun s j => s.setReg (Addr.MEMBER_ROUTE j) 0x3F) s4
  let s6 := (List.range 128).foldl (fun s j => s.setReg (Addr.GROUP_ROUTE j) 0x7F) s5
  let s7 := ((s6.setReg Addr.DEVICE_NUMBER 0).setReg Addr.MANAGER 0).setFlag Addr.PWR_STATUS 5 false
  retryHeld { s7 with group := {}, power.ratio := none }

/-- GROUP_LEAVE (R330, R331): the manager is told, and removes the member from the routes and logs it. -/
def cmdGroupLeave : CmdFn := ownerOnly fun _ p s =>
  if !p.isEmpty then refuse St.BAD_PARAM s
  else if !s.joined then refuse St.BAD_PARAM s
  else (ok, leaveGroup (sendCtrl .record (if s.isManager then allMembers else s.manager) [0, 0, 0, 0, s.member] s))

/-- GROUP_STATUS (R330, R351). -/
def cmdGroupStatus : CmdFn := ownerOnly fun _ p s =>
  if !p.isEmpty then refuse St.BAD_PARAM s
  else
    let flags := b2n s.isManager + 2 * b2n s.isFollower + 4 * b2n s.group.leaseHeld
    (⟨St.OK, toBE 1 s.groupNum ++ toBE 1 s.member ++ toBE 1 s.manager ++ toBE 1 flags ++ toBE 8 (ofBits s.group.live) ++ toBE 4 (s.reg Addr.TERM) ++
      toBE 4 (s.reg Addr.LOG_INDEX) ++ (List.range 64).flatMap (fun j => toBE 4 (s.reg (Addr.MEMBER_ROUTE j))) ++
      (List.range 128).flatMap (fun j => let w := s.reg (Addr.GROUP_ROUTE j); toBE 4 w ++ toBE 4 (w / 2 ^ 32))⟩, s)

/-- ROUTE_SET (R330, R334): MEMBER_ROUTE or GROUP_ROUTE entries, one after another. -/
def cmdRouteSet : CmdFn := ownerOnly fun _ p s =>
  let kind := byteAt p 0
  let first := byteAt p 1
  let n := byteAt p 2
  if p.length < 4 ∨ 1 < kind ∨ byteAt p 3 ≠ 0 ∨ n = 0 then refuse St.BAD_PARAM s
  else if s.joined ∧ !s.group.leaseHeld then refuse St.BUSY s
  else if kind = 0 then
    let ws := (List.range n).map (fun i => be p (4 + 4 * i) 4)
    if p.length ≠ 4 + 4 * n ∨ 64 < first + n ∨ ws.any (63 < ·) then refuse St.BAD_PARAM s
    else (ok, retryHeld ((List.range n).foldl (fun s i => s.setReg (Addr.MEMBER_ROUTE (first + i)) (ws.getD i 0)) s))
  else
    let ws := (List.range n).map (fun i => be p (4 + 8 * i) 4 + be p (8 + 8 * i) 4 * 2 ^ 32)
    if p.length ≠ 4 + 8 * n ∨ 128 < first + n ∨ ws.any (fun w => w &&& groupRouteMask != w) then refuse St.BAD_PARAM s
    else (ok, retryHeld ((List.range n).foldl (fun s i => s.setReg (Addr.GROUP_ROUTE (first + i)) (ws.getD i 0)) s))

end Sys2Proof.Machine
end

