-- ==== Sys2Proof/Machine/TraceArm.lean ====
section
/-!
DEFINITION. Trace sessions: TRACE_ARM and what ends a session (R427, R430, R431, R433, R441, R443). Log 51 names what the manual leaves
open here.
-/
namespace Sys2Proof.Machine

/-! Trace sessions (R430, R431, R441) -/

/-- The rings as a session opens or is ended: empty. -/
def clearRings (s : State) : State :=
  (List.range 4).foldl (fun s d => (s.setReg (Addr.RING_WRITTEN d) 0).setReg (Addr.LOST d) 0) { s with obs.rings := [] }

/-- The open session ends; a tenant's rings are zeroed (R430). -/
def endTrace (s : State) : State :=
  match s.obs.trace with
  | none => s
  | some x =>
    let s1 := { s with obs.trace := none, obs.sends := [] }.setReg Addr.TRACE_CTRL 0
    if x.tenant = owner then s1 else clearRings s1

/-- An arming of the owner ends a tenant's session (R443). -/
def displaceTrace (tenant : Nat) (s : State) : State :=
  match s.obs.trace with
  | none => s
  | some x => if x.tenant = tenant then s else (endTrace s).raiseEvent evTraceStopped x.tenant [4]

/-- The parameters of TRACE_ARM as a session (R441). -/
def traceOf (e : Env) (p : Bytes) : TraceSession :=
  { session := e.session, tenant := if e.owner then owner else e.tenant, cells := cellMask p 4, groups := setBits (be p 36 2) 16,
    causes := byteAt p 60, eventOp := be p 64 2, pcCell := byteAt p 66, pc := be p 68 2, swatchJob := be p 72 8, swatch := byteAt p 70,
    beat := be p 80 8, group := bitAt (byteAt p 3) 0, met := if bitAt (byteAt p 3) 1 then 16 else 0 }

/-- Whether the reserved bytes of TRACE_ARM are 0 (R351). -/
def traceReservedOk (p : Bytes) : Bool := zerosAt p 38 2 && zerosAt p 61 3 && zerosAt p 67 1 && zerosAt p 71 1

/-- Whether the fields of TRACE_ARM lie in their ranges (R427, R431, R434). -/
def traceFieldsOk (p : Bytes) : Bool :=
  let sp := byteAt p 2
  let fab := be p 40 4
  let len := be p 56 4
  let c := 131072 + len * 1048576 / 4 / 32
  decide (byteAt p 1 ≤ 2 ∧ 4 ≤ sp ∧ sp ≤ 20 ∧ byteAt p 3 ≤ 3 ∧ len ≤ 4096 ∧ byteAt p 60 ≤ 31 ∧ byteAt p 70 ≤ 15) && (fab == 0 || (List.range 17).any (fun i => fab == 2 ^ i)) &&
    (byteAt p 1 != 2 || decide (1 ≤ be p 44 4 ∧ be p 44 4 ≤ c - 1024))

/-- Why the spill region of a session is refused (R430): the owner's lies in HBM outside every window, region and ring, a
tenant's inside its windows. -/
def spillRefused (x : TraceSession) (base len : Nat) (s : State) : Option Nat :=
  if len = 0 then none
  else if base % 32 ≠ 0 ∨ hbmBytes < base + len * 1048576 then some St.BAD_PARAM
  else if x.tenant = owner then
    (if overlapsWindow s base (len * 1048576) ∨ (List.range 256).any (fun t => rangesOverlap base (len * 1048576) (s.regionOf t).1 (s.regionOf t).2) then some St.BAD_PARAM else none)
  else if s.inWindows x.tenant base (len * 1048576) true then none else some St.NOT_PERMITTED

/-- A session is armed: its registers are set and its rings empty. -/
def armTrace (x : TraceSession) (p : Bytes) (s : State) : State :=
  let s1 := clearRings { s with obs.trace := some x }
  let s2 := (s1.setReg Addr.TRACE_CTRL (byteAt p 1 + 4 + b2n x.group * 32 + x.tenant % 256 * 256)).setReg Addr.TRACE_SP (byteAt p 2)
  let s3 := ((s2.setReg Addr.FAB_SAMPLE (be p 40 4)).setReg Addr.POST_COUNT (if byteAt p 1 = 2 then be p 44 4 else 0)).setReg Addr.TRACE_BASE (be p 48 8)
  ((s3.setReg Addr.TRACE_LEN (be p 56 4)).setReg Addr.TRIG_ZC 0).setReg Addr.TRIG_CAUSE 0

/-- What TRACE_ARM does on this device (R430, R441). -/
def traceCommand : CmdFn := fun e p s =>
  let op := byteAt p 0
  let x := traceOf e p
  let mine := s.obs.trace.any (fun y => e.owner || y.tenant == e.tenant)
  if p.length ≠ 88 ∨ 2 < op ∨ !traceReservedOk p then refuse St.BAD_PARAM s
  else if op = 2 then
    (if s.obs.trace.isNone then refuse St.BAD_PARAM s else if mine then (ok, endTrace s) else refuse St.NOT_PERMITTED s)
  else if !traceFieldsOk p then refuse St.BAD_PARAM s
  else if op = 1 ∧ s.obs.trace.isNone then refuse St.BAD_PARAM s
  else if op = 1 ∧ !mine then refuse St.NOT_PERMITTED s
  else if op = 0 ∧ s.obs.trace.any (fun y => !(e.owner && y.tenant != owner)) then refuse St.BUSY s
  else if x.tenant ≠ owner ∧ (!x.groups.isEmpty ∨ x.cells.any (fun c => s.cellState c == 0 || s.cellTenant c != x.tenant)) then refuse St.NOT_PERMITTED s
  else match spillRefused x (be p 48 8) (be p 56 4) s with
    | some c => refuse c s
    | none => (ok, armTrace x p (displaceTrace x.tenant s))

/-- Whether TRACE_ARM concerns every member (R433): the GROUP flag of its parameters, or of the session it ends. -/
def State.traceGroup (s : State) (p : Bytes) : Bool := if byteAt p 0 = 2 then s.obs.trace.any TraceSession.group else bitAt (byteAt p 3) 0

/-- TRACE_ARM (R430, R433, R441): with GROUP it goes to every member. -/
def cmdTraceArm : CmdFn := fun e p s =>
  let r := traceCommand e p s
  if r.1.status = St.OK ∧ s.joined ∧ s.traceGroup p then
    (r.1, sendCtrl .traceArm allMembers ((if e.owner then owner else e.tenant) :: p.map BitVec.toNat) r.2)
  else r

/-- TRACE_ARM of a session with GROUP reaches a member (R433), where it is refused as a command would be. -/
def takeTraceArm (tenant : Nat) (p : Bytes) (s : State) : State :=
  (traceCommand { session := 0, sessTenant := tenant, tenant, tag := 0, transport := .fabric } p s).2

end Sys2Proof.Machine
end

