-- ==== Sys2Proof/Machine/Fabric.lean ====
section
/-!
DEFINITION. The Wyilern fabric as it arrives (R301 to R315): link frames, packets with their credits, routing and duplicates,
control messages, ports going down and training, and FABRIC_PORT_SET. Logs 19, 45 and 47 name what the manual leaves open here.
-/
namespace Sys2Proof.Machine

/-! Ports (R303, R304) -/

/-- Whether port `p` is a host-bridge port (R327). -/
def State.bridgePort (s : State) (p : Nat) : Bool := decide (22 ≤ p) && s.flag (Addr.FP_CTRL 22) 2

/-- The neighbour of member `m` by torus port `p` (R300, R308). -/
def neighbour (m p : Nat) : Nat :=
  let step := if p / 2 % 2 = 0 then 1 else 3
  let c (i : Nat) : Nat := if i = portDim p then (coord m i + step) % 4 else coord m i
  c 0 + 4 * c 1 + 16 * c 2

/-- The partner check of R304: a torus port meets the coordinate neighbour on the port of R300, a global port a device of a
group whose route names that pair here. Until both ends have joined no coordinate is known, and the port alone is checked. -/
def State.partnerRight (s : State) (p device port : Nat) : Bool :=
  if p < 12 then
    port == 2 * (if p / 2 % 2 = 0 then p / 2 + 1 else p / 2 - 1) + p % 2 &&
      (!s.joined || device == 0 || (device / 64 == s.groupNum && device % 64 == neighbour s.member p))
  else (routeExits (s.reg (Addr.GROUP_ROUTE (device / 64)))).contains (s.member, p / 2)

/-- Training has ended at both ends (R303, R304): the port comes up, and under AUTO may be the group reference from now on (R51); or it is
held down as MISCABLE. -/
def trainPort (p device port : Nat) (s : State) : State :=
  if s.partnerRight p device port then chooseRef (portTrained p device port (s.setField (Addr.FP_STATUS p) 0 8 0xFF))
  else portDown p 7 (s.setReg (Addr.PARTNER p) (device % 8192 + port % 32 * 8192 + 2 ^ 18))

/-- DOWN_CAUSE. -/
def State.downCause (s : State) (p : Nat) : Nat := s.field (Addr.FP_STATUS p) 9 4

/-- Whether a port may train (R303): enabled, down, not for causes 1 to 4, its die spoke attached, and no bridge port. -/
def State.mayTrain (s : State) (p : Nat) : Bool :=
  decide (p < 24) && s.flag (Addr.FP_CTRL p) 0 && !s.portUp p && !s.bridgePort p && !(1 ≤ s.downCause p && s.downCause p ≤ 4) &&
    !s.flag Addr.SPOKE_DETACHED (16 + portDie p)

/-- FABRIC_PORT_TRAINED (R303, R304). -/
def execFabricPortTrained (t p device port : Nat) (s : State) : Host.Outcome State Fault Refusal :=
  .next (if s.mayTrain p ∧ device < 8192 ∧ port < 24 then trainPort p device port (advance t s) else s)

/-- MISCABLE_RECHECK (R303): a MISCABLE port retrains and repeats the partner check. -/
def execMiscableRecheck (t p device port : Nat) (s : State) : Host.Outcome State Fault Refusal :=
  .next (if s.mayTrain p ∧ s.downCause p = 7 ∧ device < 8192 ∧ port < 24 then
      if s.partnerRight p device port then trainPort p device port (advance t s)
      else (advance t s).setReg (Addr.PARTNER p) (device % 8192 + port % 32 * 8192 + 2 ^ 18)
    else s)

/-- FABRIC_PORT_DOWN (R303): a lane, the error rate, replays without progress, the die spoke or the partner takes a port that
is up down. Credit, software and cabling causes arise in their own commands. -/
def execFabricPortDown (t p cause : Nat) (s : State) : Host.Outcome State Fault Refusal :=
  .next (if p < 24 ∧ s.portUp p ∧ (cause = 1 ∨ cause = 2 ∨ cause = 3 ∨ (cause = 5 ∧ s.flag Addr.SPOKE_DETACHED (16 + portDie p)) ∨ cause = 8) then
      let s1 := portDown p cause (advance t s)
      if cause = 1 then s1.setField (Addr.FP_STATUS p) 0 8 0 else s1
    else s)

/-- Software takes a port down, or begins a retrain (R303): cause SOFTWARE. -/
def softDown (p : Nat) (s : State) : State := if s.portUp p then portDown p 6 s else s.setField (Addr.FP_STATUS p) 9 4 6

/-- A write of FP_CTRL (R333): ENABLE and LANE_POLARITY are stored, RETRAIN acts, and BRIDGE_EN is written to ports 22 and 23
together; a change of it takes both down (R327). The other ports have no such bit, and ignore it (R10). -/
def wrFpCtrl (p v : Nat) (s : State) : Nat × State :=
  let old := s.reg (Addr.FP_CTRL p)
  let bridge := if 22 ≤ p then bits v 2 1 else 0
  let s1 := s.setReg (Addr.FP_CTRL p) (v % 2 + bridge * 4 + bits v 8 8 * 256)
  let s2 := if (bitAt old 0 && !bitAt v 0) || (bitAt v 0 && bitAt v 1) then softDown p s1 else s1
  if 22 ≤ p ∧ bitAt v 2 ≠ bitAt old 2 then
    (St.OK, softDown 23 (softDown 22 ((s2.setFlag (Addr.FP_CTRL 22) 2 (bitAt v 2)).setFlag (Addr.FP_CTRL 23) 2 (bitAt v 2))))
  else (St.OK, s2)

/-- One port of a FABRIC_PORT_SET. -/
def portAction (action : Nat) (s : State) (p : Nat) : State :=
  let v := s.reg (Addr.FP_CTRL p)
  (wrFpCtrl p (match action with
    | 0 => putBits v 0 1 0
    | 1 => putBits v 0 1 1
    | 2 => putBits v 1 1 1
    | 3 => putBits v 2 1 0
    | _ => putBits v 2 1 1) s).2

/-- FABRIC_PORT_SET (R330, R333): BRIDGE_EN concerns ports 22 and 23 only. -/
def cmdFabricPortSet : CmdFn := ownerOnly fun _ p s =>
  let mask := be p 0 4
  let action := byteAt p 4
  if p.length ≠ 8 ∨ 2 ^ 24 ≤ mask ∨ 4 < action ∨ !zerosAt p 5 3 ∨ (3 ≤ action ∧ mask % 2 ^ 22 ≠ 0) then refuse St.BAD_PARAM s
  else (ok, (setBits mask 24).foldl (portAction action) s)

/-! Link frames (R301, R302) -/

/-- An uncorrectable codeword (R302, R303): more than ERR_THRESH in any 1 ms take the port down. -/
def badFrame (p : Nat) (s : State) : State :=
  let l := (tabGet [] p s.fabric.errors).filter (fun t => decide (s.now < t + ms 1)) ++ [s.now]
  let s1 := { s with fabric.errors := tabSet [] p l s.fabric.errors }.bump64 (Addr.FP_FEC_UNCORR_CW p)
  if s.reg (Addr.ERR_THRESH p) < l.length then portDown p 2 s1 else s1

/-- The frames after `ack` that a port has sent, whole or in part (R301). -/
def State.framesAfter (s : State) (p ack : Nat) : List Nat :=
  (List.range (frameAfter (s.frameOf p 0) ack)).map (fun i => (ack + 1 + i) % 1024)

/-- ACKSEQ of a good frame (R302): frames up to it leave the replay buffer; where it does not move while frames wait, every
frame after it is sent again, until RETRY_LIMIT replays without progress take the port down. -/
def takeAckSeq (p ack : Nat) (s : State) : State :=
  let un := tabGet [] p s.fabric.unacked
  let left := un.filter (fun f => !(frameAfter ack f.1 < 512))
  let f := s.fabric
  if un.isEmpty ∨ left.length < un.length then
    let s1 : State := { s with fabric := { f with unacked := tabSet [] p left f.unacked, stuck := tabErase p f.stuck, acked := tabSet 1024 p ack f.acked } }
    if un.isEmpty then s1 else retryHeld s1
  else if tabGet 1024 p f.acked ≠ ack then { s with fabric.acked := tabSet 1024 p ack f.acked }
  else
    let n := tabGet 0 p f.stuck
    if s.reg (Addr.RETRY_LIMIT p) ≤ n then portDown p 3 s
    else (({ s with fabric.stuck := tabSet 0 p (n + 1) f.stuck }).bump32 (Addr.REPLAYS p)).emit
      (.link p ((tabGet 0 p f.rxNext + 1023) % 1024) (s.framesAfter p ack))

/-- LINK_FRAME_RECEIVE (R302): a good frame in sequence advances ACKSEQ; any other is discarded. `k` codewords of it are corrected. -/
def execLinkFrameReceive (t p fseq ack k : Nat) (good : Bool) (s : State) : Host.Outcome State Fault Refusal :=
  .next (if 24 ≤ p ∨ !s.portUp p ∨ 1024 ≤ fseq ∨ 1024 ≤ ack then s
    else
      let s1 := (advance t s).bump64 (Addr.FP_FEC_CORR_CW p) k
      if !good then badFrame p s1
      else
        let nxt := tabGet 0 p s.fabric.rxNext
        let s2 := if fseq = nxt then ({ s1 with fabric.rxNext := tabSet 0 p ((nxt + 1) % 1024) s.fabric.rxNext }).emit (.link p fseq []) else s1
        takeAckSeq p ack s2)

/-! Packets (R305 to R313) -/

/-- The index of the receive FIFO of a port and channel (R75). -/
def rxFifo (p vc : Nat) : Nat := 0x880 + 4 * p + vc

/-- CREDIT (R307): the fields return credits of each (VC, CLASS), and packets held for them leave. -/
def takeCredit (p : Nat) (fields : List Nat) (s : State) : State :=
  retryHeld { s with fabric.credit := (List.range 32).foldl (fun c i => tabSet 0 (p * 32 + i) (tabGet 0 (p * 32 + i) c + fields.getD i 0 % 256) c) s.fabric.credit }

/-- What a member asks the manager to log (R321, R323, R331): that it leaves or joins, or a landing zone of a group job. One that joins is
sent the records that have not committed, for it may be a follower. -/
def takeDecision (m kind : Nat) (body : List Nat) (s : State) : State :=
  match kind, body with
  | 0, [0, n] => if n = m ∧ s.group.live.contains m then appendLog 0 [0, m] s else s
  | 0, 1 :: n :: order =>
    if n ≠ m ∨ s.group.live.contains m ∨ s.group.pendingLog.any (fun r => r.kind == 0 && r.body.take 2 == [1, m]) then s
    else
      let s1 := appendLog 0 (1 :: m :: order) s
      s1.group.pendingLog.foldl (fun s r => sendCtrl .store m (r.index :: r.term :: r.kind :: r.body) s) s1
  | 4, z => appendLog 4 z s
  | _, _ => s

/-- A control message at its destination (R52, R53, R321, R323, R325, R388, R411, R425, R433; log 19). That a record is stored is counted by the row LOG_COMMIT (log 46). -/
def takeCtrl (h : Header) (msg : Nat × List Nat) (s : State) : State :=
  let fromManager := h.src == s.deviceOfMember s.manager && !s.isManager
  match msg with
  | (0, id :: _ :: t :: _) => if s.isManager then noteArrive id h.src t s else s
  | (1, [id, b, t]) => if fromManager then
      { s with jobs := s.jobs.map (fun (j : Job) => if j.live ∧ j.id = id ∧ j.grouped ∧ j.barrierBeat = b ∧ !j.atBarrier.isEmpty then { j with resumeAt := some t } else j) }
    else s
  | (2, [id, b]) => if s.isManager then noteCkptDone id b h.src s else s
  | (3, [id, b]) => if fromManager then restartGroupJob id b s else s
  | (4, [cause, origin, detail, stamp, zc]) => if s.flag Addr.TRACE_CTRL 5 && !s.flag Addr.TRACE_CTRL 3 then fireTrigger cause origin detail stamp zc s else s
  | (5, [b, c, f]) => noteNeeds (h.src % 64) b c f s
  | (6, index :: term :: kind :: body) =>
      -- a manager that leaves logs nothing more: its members take it from the live ones, and a follower takes over (R331)
      if fromManager ∧ index = 0 then
        if kind = 0 ∧ body = [0, h.src % 64] ∧ s.group.live.contains (h.src % 64) then loseMember (h.src % 64) s else s
      else if fromManager then takeLogRecord ⟨index, term, kind, body⟩ s
      else if s.isManager ∧ index = 0 then takeDecision (h.src % 64) kind body s
      else s
  | (7, [term, n]) => takeLease term n (h.src % 64) s
  | (8, [term, _]) => if s.isManager ∧ term = s.reg Addr.TERM ∧ (s.followersOf s.member).contains (h.src % 64) then { s with group.lastAck := s.now } else s
  | (9, [stamp, delay]) => if fromManager then takeTime stamp delay s else s
  | (10, [stamp]) => if fromManager then sendCtrl .delayAnswer (h.src % 64) [stamp] s else s
  | (11, [stamp]) => takeDelay (h.src % 64) stamp s
  | (12, tenant :: p) => takeTraceArm tenant (p.map (BitVec.ofNat 8)) s
  | (13, [n]) => { s with group.peerLog := some n }
  | (14, index :: term :: kind :: body) => if fromManager then storeRecord ⟨index, term, kind, body⟩ s else s
  | _ => s

/-- A command packet reaches the ingress FIFO of virtual channel 0, or finds it full (R305). -/
def takeCmd (p : Nat) (data : List W256) (s : State) : State :=
  if !s.transportOn .fabric then s.bump32 Addr.AUTH_DROPS
  else if s.fifoFits 0x8E1 data.length then commitPacket 0x8E1 ⟨data.length, none, data⟩ s
  else (overflowPacket 0x8E1 s).bump32 (Addr.CMD_DROPS p)

/-- A packet consumed at its destination, by type (R305, R306). A device that has not joined takes command packets only (R308). -/
def consume (p : Nat) (h : Header) (hdr : Nat) (data : List W256) (s : State) : State :=
  if h.ty = tyCmd then takeCmd p data s
  else if !s.joined then s
  else if h.ty = tyRdReq then takeRdReq h data s
  else if h.ty = tyWrData then takeWrData h data s
  else if h.ty = tyRdData then (match s.accessOf h with
    | some x => takeBridgeData x h data s
    | none => takeRdData h data s)
  else if h.ty = tyAck then (match s.accessOf h with
    | some x => takeBridgeAck x h s
    | none => takeAck h s)
  else if h.ty = tyNotify then takeNotify h s
  else if h.ty = tyConfirm then takeConfirm h s
  else if h.ty = tyRevoke then takeRevoke h s
  else
    match Config.ctrlMessage (BitVec.ofNat 256 hdr) (data.flatMap (fun w => toLE 32 w.toNat)) with
    | some m => takeCtrl h m s
    | none => s

/-- A packet at its destination (R313): a duplicate is dropped and counted, any other accepted and consumed; then its
credits return. -/
def acceptPacket (p : Nat) (hdr : Nat) (data : List W256) (s : State) : State :=
  let h := headerOf hdr
  let key := h.src * 4 + h.vc
  let free (s : State) : State := noteSends (returnCredit p h.vc (bits hdr 6 3) (1 + data.length) s)
  match acceptSeq (tabGet [] key s.fabric.window) h.seq with
  | none => free (s.bump32 (Addr.DUP_DROPS p))
  | some w => free (consume p h hdr data (fabricRecord 4 h.src p h.vc h.seq h.tenant h.xfer h.ty { s with fabric.window := tabSet [] key w s.fabric.window }))

/-- The words a receive FIFO holds: of the packets that wait to go on, and of packets committed there as such (R77). -/
def State.rxWords (s : State) (p vc : Nat) : Nat := ((s.rxHeld p vc).map FabPkt.flits).foldl (· + ·) 0 + (s.fifo (rxFifo p vc)).wordsHeld

/-- A whole packet is received at a port (R305 to R313): without credit it is rewound and the port goes down, CREDIT packets
alone needing none (DEDUCED, log 47); else it is
consumed here or sent on. A header whose type, channel or length is wrong is dropped; one with an uncorrectable flit is
lost as it is read, and its space returns (R76, R315). A CREDIT packet is its port's own and knows no duplicates (log 47). -/
def receivePacket (p hdr : Nat) (data : List W256) (chk : FifoRead) (s : State) : State :=
  let h := headerOf hdr
  let cls := bits hdr 6 3
  let n := 1 + data.length
  let key := creditKey p h.vc cls
  let s1 := s.bump64 (Addr.FLITS_RX p) n
  if h.ty ≠ tyCredit ∧ tabGet 0 key s.fabric.granted < n then portDown p 4 (rewindPacket (rxFifo p h.vc) false 0 s1)
  else
    let s2 := if h.ty = tyCredit then s1 else { s1 with fabric.granted := tabSet 0 key (tabGet 0 key s1.fabric.granted - n) s1.fabric.granted }
    let s3 := noteRead (rxFifo p h.vc) chk
      ((s2.bump64 (Addr.COMMIT_COUNT (rxFifo p h.vc))).raise (Addr.HIGH_WATER (rxFifo p h.vc)) (s2.rxWords p h.vc + n))
    if !headerValid hdr ∨ h.len ≠ data.length ∨ chk.bad then (if h.ty = tyCredit then s3 else noteSends (returnCredit p h.vc cls n s3))
    else if h.ty = tyCredit then
      takeCredit p ((List.range 32).map (fun i => bits ((data.headD 0).toNat) (8 * i) 8)) (fabricRecord 4 h.src p h.vc h.seq h.tenant h.xfer h.ty s3)
    else
      match s3.hop h.src h.dst (some p) cls with
      | .here => acceptPacket p hdr data s3
      | _ => dispatch ⟨h.vc, cls, h.dst, hdr, data, some p, false⟩ s3

/-- Whether a packet may be received at port `p`. -/
def State.mayReceive (s : State) (p : Nat) : Bool := decide (p < 24) && s.portUp p && !s.bridgePort p

/-- FABRIC_PACKET_RECEIVE (R305). -/
def execFabricPacketReceive (t p : Nat) (hdr : W256) (data : Checked Bytes) (s : State) : Host.Outcome State Fault Refusal :=
  .next (if s.mayReceive p then receivePacket p hdr.toNat (wordsOf data.item) data.chk (advance t s) else s)

/-- A packet of one type for this device is received, its words good: FABRIC_PACKET_RECEIVE brings one with a bad word (R76). -/
def receiveTyped (ty t p hdr : Nat) (data : List W256) (s : State) : State :=
  if s.mayReceive p ∧ (headerOf hdr).ty = ty ∧ (headerOf hdr).dst = s.device then receivePacket p hdr data {} (advance t s) else s

/-- WR_DATA (R314, R318). -/
def execWrData (t p : Nat) (hdr : W256) (data : Bytes) (s : State) : Host.Outcome State Fault Refusal := .next (receiveTyped tyWrData t p hdr.toNat (wordsOf data) s)
/-- RD_REQ (R314). -/
def execRdReq (t p : Nat) (hdr : W256) (data : Bytes) (s : State) : Host.Outcome State Fault Refusal := .next (receiveTyped tyRdReq t p hdr.toNat (wordsOf data) s)
/-- RD_DATA (R314). -/
def execRdData (t p : Nat) (hdr : W256) (data : Bytes) (s : State) : Host.Outcome State Fault Refusal := .next (receiveTyped tyRdData t p hdr.toNat (wordsOf data) s)
/-- ACK (R314, R319). -/
def execFabAck (t p : Nat) (hdr : W256) (data : Bytes) (s : State) : Host.Outcome State Fault Refusal := .next (receiveTyped tyAck t p hdr.toNat (wordsOf data) s)
/-- NOTIFY (R314). -/
def execFabNotify (t p : Nat) (hdr : W256) (s : State) : Host.Outcome State Fault Refusal := .next (receiveTyped tyNotify t p hdr.toNat [] s)
/-- CONFIRM (R319). -/
def execFabConfirm (t p : Nat) (hdr : W256) (s : State) : Host.Outcome State Fault Refusal := .next (receiveTyped tyConfirm t p hdr.toNat [] s)
/-- REVOKE (R319). -/
def execFabRevoke (t p : Nat) (hdr : W256) (s : State) : Host.Outcome State Fault Refusal := .next (receiveTyped tyRevoke t p hdr.toNat [] s)
/-- CREDIT (R307): 32 fields, one for each (VC, CLASS), in the packet that the partner of the port sends. -/
def execFabCredit (t p : Nat) (fields : List Nat) (s : State) : Host.Outcome State Fault Refusal :=
  .next (if s.mayReceive p then
      let s1 := (((advance t s).bump64 (Addr.FLITS_RX p) 2).bump64 (Addr.COMMIT_COUNT (rxFifo p 3)))
      takeCredit p fields (s1.raise (Addr.HIGH_WATER (rxFifo p 3)) (s1.rxWords p 3 + 2))
    else s)

end Sys2Proof.Machine
end

