-- ==== Sys2Proof/Machine/Bridge.lean ====
section
/-!
DEFINITION. The host bridge (R327 to R329): the mailbox doorbell, accesses through the BAR2 apertures, function-level reset,
and BRIDGE_SET. Log 48 names what the manual leaves open here.
-/
namespace Sys2Proof.Machine

/-- A vector of the pending bit array is signalled once it is no longer masked (R328). -/
def signalPending (s : State) : State :=
  s.bridge.msixPending.foldl (fun s v => signal v s) { s with bridge.msixPending := [] }

/-- What host software has written in BAR0 beside the doorbell (R328): EVQ_CONS, MBX_STATUS.REPLY (W1C) and entries of the MSI-X table. -/
def writeBar0 (w : Bar0Write) (s : State) : State :=
  let b := s.bridge
  signalPending { s with bridge := { b with
    cons := w.cons.getD b.cons % 2 ^ 32
    replyReady := b.replyReady && !w.clearReply
    msix := (w.msix.filter (fun e => e.1 < 64)).foldl (fun t e => tabSet msixMasked e.1 (e.2 % 2 ^ 128) t) b.msix } }

/-- PCIE_BAR0_DOORBELL (R328): the packet in the request buffer goes to ingress FIFO 0x8E2; while BUSY the doorbell is ignored
and counted. A mailbox that is not enabled drops the packet (R338). The host's other writes of BAR0 come with the row, which may be
without a doorbell (log 48). -/
def execPcieBar0Doorbell (t len : Nat) (request : Bar0Write) (s : State) : Host.Outcome State Fault Refusal :=
  .next (if !s.bridgeUp ∨ 131072 ≤ len then s
    else
      let s1 := writeBar0 request (advance t s)
      let b := s1.bridge
      if !request.bell then s1
      else if b.busy then { s1 with bridge.overrun := (b.overrun + 1) % 2 ^ 32 }
      else if !s1.transportOn .mailbox then s1.bump32 Addr.AUTH_DROPS
      else
        let q := slice request.bytes 0 len
        let ws := wordsOf q
        if s1.fifoFits 0x8E2 ws.length then commitPacket 0x8E2 ⟨ws.length, none, ws⟩ { s1 with bridge := { b with busy := true, request := q } }
        else overflowPacket 0x8E2 s1)

/-- PCIE_BAR2_ACCESS (R329). `inTime` is false for a read not complete within 8 ms, and for a write whose read of a partly
covered word found it uncorrectable. What another device answers completes the access later; while a read-modify-write waits for it,
every other access through the bridge waits (R329, log 48). -/
def execPcieBar2Access (t : Nat) (write : Bool) (offset len : Nat) (data : Bytes) (inTime : Bool) (s : State) : Host.Outcome State Fault Refusal :=
  let a := offset / apertureBytes
  let len := if write then data.length else len
  .next (if !s.bridgeUp ∨ 16 ≤ a ∨ len = 0 ∨ 4096 < len then s
    else
      let s1 := advance t s
      let x : HostAccess := { write, offset, len, data, inTime }
      if !s1.flag (Addr.APERTURE_CFG a) 0 then s1.emit .unsupported
      else if s1.mergeWaits then { s1 with bridge.waiting := s1.bridge.waiting ++ [x] }
      else hostAccess x s1)

/-- PCIE_FLR (R327, R332): the mailbox, the apertures and the MSI-X state are reset; a command in ingress runs and its reply
is discarded. -/
def execPcieFlr (t : Nat) (s : State) : Host.Outcome State Fault Refusal :=
  .next (if s.bridgeUp then
      (List.range 16).foldl (fun s a => (s.setReg (Addr.APERTURE_BASE a) 0).setReg (Addr.APERTURE_CFG a) 0) { (advance t s) with bridge := { stale := s.bridge.stale ++ (s.fifo 0x8E2).pkts.map FifoPkt.data } }
    else s)

/-- BRIDGE_SET (R329): one aperture, over HBM_ILV or HBM_STACK. -/
def cmdBridgeSet : CmdFn := ownerOnly fun _ p s =>
  let a := byteAt p 0
  if p.length ≠ 12 ∨ 15 < a ∨ 1 < byteAt p 1 ∨ byteAt p 3 ≠ 0 ∨ 1 < spaceOf (be p 4 8) then refuse St.BAD_PARAM s
  else (ok, (s.setReg (Addr.APERTURE_BASE a) (be p 4 8)).setReg (Addr.APERTURE_CFG a) (byteAt p 1 + byteAt p 2 * 256))

end Sys2Proof.Machine
end

