-- ==== Sys2Proof/Machine/Inline.lean ====
section
/-!
DEFINITION. The inline pool (R203, R238 to R241, R256): launches, holds, the release of verdicts with their state and
statistics (R153, R371, R191), and recoats of flagged and sampled verdicts (R377, R378, R381).
Log 33 names what the manual leaves open here.
-/
namespace Sys2Proof.Machine

/-- The replica of a packet: its cells by rank. -/
def State.replicaOf (s : State) (q : Pkt) : List Nat :=
  match q.slot with
  | some i => (((s.selector q.tenant q.model).slot i).replicas.find? (fun r => r.headD 0 == q.replica)).getD []
  | none => []

/-- The package of a packet's slot. -/
def State.packageOf (s : State) (q : Pkt) : Package :=
  match q.slot with
  | some i => ((s.selector q.tenant q.model).slot i).pkg
  | none => {}

/-- The latency of a package's launches (R239, R249). -/
def Package.latency (p : Package) : Nat := if p.kind = 0 then (if p.w ≤ 1 then 12 else 20 + p.w) else p.lat

/-- The verdict of a package on a vector (R202, R232, R271): that of its grids, or of its programs and weights on the vector and the state
it starts from, whose operations the manual does not lay out (log 33). -/
def Package.verdictOf (p : Package) (vector : List Nat) (state : Bytes) : Nat :=
  if p.kind = 0 then (ensembleVerdict p.grids vector).2 else (Config.inlineVerdict p.programs p.weights vector state).toNat

/-- The MODEL_STATE a launch leaves (R153, R202): an ensemble keeps what it was given. -/
def Package.nextState (p : Package) (vector : List Nat) (state : Bytes) : Bytes :=
  if p.kind = 0 then state else (List.range 96).map (Config.inlineState p.programs p.weights vector state)

/-- Beats a verdict is held for its checks (R19, R371). -/
def holdBeats : Nat := 24

/-- Whether an inline launch is sampled (R381): its replica's launch count is a multiple of 1 ÷ f. -/
def State.inlineSampled (s : State) (count : Nat) : Bool :=
  let f := fraction256 (s.field Addr.INT_CTRL 4 3)
  f != 0 && count % (256 / f) == 0

/-- A vector launched by every cell of its replica enters its hold; a verdict whose checks found a flaw waits for its
recoat (R371, R377). -/
def enterHold (q : Pkt) (s : State) : State :=
  let pkg := s.packageOf q
  let k := q.replica / 16
  let n := (s.cellx q.replica).launches + 1
  (s.updCell q.replica (fun x => { x with launches := n })).updPacket q.id (fun q => { q with
    at_ := if q.flagged then .recoat else .hold
    verdict := pkg.verdictOf q.vector q.mstate, newState := if q.stateVer = 0 then none else some (pkg.nextState q.vector q.mstate)
    deadline := s.now + us 2, verdictBeat := s.zcInline k + pkg.latency
    sampled := !q.flagged && s.inlineSampled n })

/-- The flaws of one cell's launch (R186, R196, R241, R366, R369): what is counted, and whether the verdict is flagged. -/
def noteFlaw (c : Nat) (f : LaunchFlaw) (q : Pkt) (s0 : State) : State :=
  let s1 := s0.bump32 (Addr.CELL_C256_CORR c) f.corrected
  let s := if f.uncorr then s1.noteUncorr 6 c else s1
  let s2 := countFlags c { residue := f.residue, walks := f.walks } s
  let s3 := match f.skew with
    | some k => inlineSkew q c k s2
    | none => s2
  let bad := f.uncorr || f.residue != 0 || f.walks != 0 || f.skew.isSome
  s3.updPacket q.id (fun q => { q with
    launched := q.launched ++ [c], flagged := q.flagged || bad, flaws := if bad then q.flaws ++ [(c, if f.walks != 0 then 2 else 1)] else q.flaws })

/-- A vector's launch is numbered in its model slot as its first cell launches it (R191, R193). -/
def numberLaunch (q : Pkt) (s : State) : State :=
  if q.launched.isEmpty then
    let key := 16 * q.tenant + q.model
    let i := q.slot.getD 0
    let n := (s.slotOf (key, i, 0)).launches + 1
    (s.updModelSlot key i (fun y => { y with launches := n })).updPacket q.id (fun q => { q with launchNo := n })
  else s

/-- One launch of an INLINE cell (R203): the oldest vector of its queue, on a beat of ZC_INLINE not yet used, exchanging the
cell's registers for the first vector of the new slot (R256). A packet whose vector waited for room in the queue then starts (R195). -/
def inlineLaunch (c : Nat) (f : LaunchFlaw) (s : State) : State :=
  let x := s.cellx c
  match x.inQ with
  | [] => s
  | id :: rest =>
    match s.packet id with
    | none => s.updCell c (fun x => { x with inQ := rest })
    | some q =>
      let place : Nat × Nat := (16 * q.tenant + q.model, q.slot.getD 0)
      let is (p : Option (Nat × Nat × Nat)) : Bool := p.elim false (fun p => p.1 == place.1 && p.2.1 == place.2)
      let s1 := if is x.active then s else if is x.standby then exchangeCell c s else s
      let s2 := (s1.updCell c (fun x => { x with inQ := rest, lastLaunch := s.zcInline (c / 16) + 1 })).setFlag (Addr.CELL_STATE c) 2 true
      let sN := numberLaunch q s2
      let s3 := noteFlaw c f ((sN.packet id).getD q) sN
      startChains (fun _ => true) (match s3.packet id with
        | some q1 => if (s3.replicaOf q1).all q1.launched.contains then enterHold q1 s3 else s3
        | none => s3)

/-- The II of the vector at the head of a cell's queue (R249): beats between the launches of one replica. -/
def State.launchGap (s : State) (c : Nat) : Nat :=
  match ((s.cellx c).inQ.head?).bind s.packet with
  | some q => max 1 (s.packageOf q).ii
  | none => 1

/-- Whether the present beat lets an INLINE cell launch (R26, R37, R45, R49, R203, R249): released, its cluster not detached, nor halted but
by a barrier of a bulk job, the beat not calmed in the inline domain, and the package's II beats after the cell's last launch. -/
def State.inlineOpen (s : State) (c : Nat) : Bool :=
  let k := c / 16
  decide (c < 256) && s.cellState c == 1 && !s.detached k && (s.haltCauses k).all (· == .barrier) && s.beat.released.contains c &&
    !beatCalmed (tabGet 0 k s.beat.kInline) (s.inlineCalm k) &&
    ((s.cellx c).lastLaunch == 0 || decide ((s.cellx c).lastLaunch + s.launchGap c ≤ s.zcInline k + 1))

/-- INLINE_LAUNCH (R203): one launch of a cell on each beat of its inline domain. -/
def execInlineLaunch (t c : Nat) (f : LaunchFlaw) (s : State) : Host.Outcome State Fault Refusal :=
  .next (if s.inlineOpen c then
      inlineLaunch c f (advance t s)
    else s)

/-! The release of a verdict -/

/-- The grid counters of a served ensemble verdict (R231, R233, R244), on the cells of the replica that gave it. -/
def countGrid (cells : List Nat) (rs : List RankResult) (s : State) : State :=
  (cells.zip rs).foldl (fun s x =>
    let s1 := ((s.bump64 (Addr.GRID_LAUNCHES x.1)).bump64 (Addr.NAN_FEATURE x.1) x.2.nans.length)
    let s2 := match x.2.nans.getLast? with
      | some n => s1.setReg (Addr.NAN_LAST x.1) (n.1 % 256 + n.2 % 64 * 256)
      | none => s1
    (s2.bump32 (Addr.OUT_OVF x.1) x.2.ovf.length).bump32 (Addr.OUT_NAN x.1) x.2.nan.length) s

/-- The statistics of a served launch of a STREAM or GEMM package (R191, R192). -/
def inlineStats (q : Pkt) (s : State) : State :=
  match q.slot with
  | none => s
  | some i =>
    (((tabGet {} (16 * q.tenant + q.model) s.models).slot i).pkg.regions).foldl (fun s w => inlineRegion q.tenant q.model i q.launchNo w s) s

/-- Live jobs note that a selector of tenant `t` serves during their tenure (R417). -/
def noteServing (t : Nat) (s : State) : State :=
  { s with jobs := s.jobs.map (fun j => if j.live then { j with inl := true, foreign := j.foreign || j.tenant != t } else j) }

/-- A clean verdict leaves its hold (R153, R371): its counters and statistics, its state write, its verdict pass, and the
next packet of its flow's chain. `cells` are those that gave it. -/
def serveVerdict (q : Pkt) (cells : List Nat) (s : State) : State :=
  let pkg := s.packageOf q
  let s1 := if pkg.kind = 0 then countGrid cells (ensembleVerdict pkg.grids q.vector).1 s else inlineStats q s
  let s2 := match q.newState with
    | some m => writeModelState q m s1
    | none => s1
  let s3 := toVerdictPass q.id q.verdict 1 s2
  let s4 := (s.replicaOf q).foldl (fun s c =>
    if s.ports.packets.any (fun (x : Pkt) => x.launched.contains c && (x.at_ == .infer || x.at_ == .hold || x.at_ == .recoat)) then s
    else s.setFlag (Addr.CELL_STATE c) 2 false) s3
  checkDrains (advanceChain q (noteServing q.tenant (closeWindows q s4)))

/-- VERDICT_RELEASE (R371): 24 beats after the verdict entered its hold. A sampled verdict that found no idle slot is
released unrecoated (R381). -/
def execVerdictRelease (t id : Nat) (s : State) : Host.Outcome State Fault Refusal :=
  .next (match s.packet id with
    | some q =>
      if q.at_ = .hold ∧ q.verdictBeat + holdBeats ≤ s.zcInline (q.replica / 16) then
        let s1 := advance t s
        serveVerdict q (s.replicaOf q) (if q.sampled then s1.bump32 Addr.RECOAT_SKIPPED else s1)
      else s
    | none => s)

/-- The replicas of a packet's slot after its own, in ascending order of first cell, wrapping (R377). -/
def State.peersOf (s : State) (q : Pkt) : List (List Nat) :=
  match q.slot with
  | none => []
  | some i =>
    let rs := sortBy (fun a b => decide (a.headD 0 ≤ b.headD 0)) ((s.selector q.tenant q.model).slot i).replicas
    rs.filter (fun r => decide (q.replica < r.headD 0)) ++ rs.filter (fun r => decide (r.headD 0 < q.replica))

/-- A verdict that no result stands for waits for its deadline; one that stands is served, and then the cells found
PERMANENT are fenced and a transient counted (R375, R377, R400). -/
def settleInline (q : Pkt) (v : Verdict374) (own : Nat) (r : RecoatRuns) (s : State) : State :=
  let peers := s.peersOf q
  let p := peers.head?
  let q3 := (peers.drop 1).head?
  let cell (f : RunFlags) (r : List Nat) : Nat := r.getD f.rank (r.headD 0)
  let parties := [some own, p.map (cell r.recoatFlags), q3.map (cell r.thirdFlags)]
  let pkg := s.packageOf q
  let s1 := reportRecoat q.tenant v pkg.packageId (16 * q.tenant + q.model) parties r.row (countRuns [some (s.replicaOf q), p, q3] r v.thirdRun s)
  let s2 := if v.stands then serveVerdict q (if v.fromPeer then p.getD [] else s.replicaOf q) s1
    else s1.updPacket q.id (fun q => { q with at_ := .recoat, sampled := false, flagged := true })
  let kind := if q.flaws.any (fun f => f.2 == 2) then 2 else if q.sampled then 7 else 1
  let s3 := (v.fences parties).foldl (fun s c => permanent { kind, cell := c, work := pkg.packageId, row := r.row } s) s2
  if v.transient then countTransient own pkg.packageId 0 r.row s3 else s3

/-- INLINE_RECOAT (R377, R381): the runs of a flagged verdict, within its deadline, or of a sampled one, within its hold. -/
def execInlineRecoat (t id : Nat) (runs : RecoatRuns) (s : State) : Host.Outcome State Fault Refusal :=
  .next (match s.packet id with
    | some q =>
      let own := (q.flaws.head?.map Prod.fst).getD q.replica
      if q.at_ = .recoat ∧ t ≤ q.deadline then
        settleInline q (if (s.peersOf q).isEmpty then decideAlone runs.recoatClean else decide374 runs) own runs (advance t s)
      else if q.at_ = .hold ∧ q.sampled ∧ !(s.peersOf q).isEmpty ∧ s.zcInline (q.replica / 16) ≤ q.verdictBeat + holdBeats then
        let v := decideSampled runs
        let s1 := advance t s
        let s2 := if runs.recoatClean ∧ !runs.firstEqual then
            (s1.bump32 Addr.SILENT_MISMATCH).raiseEvent evSilentMismatch owner [16 * q.tenant + q.model, own]
          else s1
        settleInline q v own runs s2
      else s
    | none => s)

/-- RECOAT_DEADLINE (R378): no result stands within 2 µs of the flag. -/
def execRecoatDeadline (t id : Nat) (s : State) : Host.Outcome State Fault Refusal :=
  .next (match s.packet id with
    | some q =>
      if q.at_ = .recoat ∧ q.deadline < t then
        let s1 := ((advance t s).bump32 Addr.RECOAT_MISSED).coalesceEvent evRecoatMissed q.tenant (16 * q.tenant + q.model) (ms 1)
          [16 * q.tenant + q.model]
        defaultVector 3 q s1
      else s
    | none => s)

end Sys2Proof.Machine
end

