-- ==== Sys2Proof/Machine/Reset.lean ====
section
/-!
DEFINITION. What a reset leaves (R471 to R473): everything at its reset value but what the flash, the fuses, the module and
the board hold. Logs 3 and 50 name what the manual leaves open here.
-/
namespace Sys2Proof.Machine

/-- The registers that outlive every reset (R471, R361, R470): identity, straps, fuses and BOOT_COUNT. -/
def keptRegs : List Nat :=
  [Addr.DEVICE_ID, Addr.CAPS, Addr.SERIAL, Addr.BOOTROM_VERSION, Addr.BOARD_ID, Addr.MGMT_MAC, Addr.FUSE_SVN, Addr.BOOT_COUNT]

/-- The beat root of a device that leaves reset now (R38, R44): ZC_ROOT 0 in FIXED mode, its schedule beginning at this instant. -/
def startBeat (s : State) : State := { s with beat := { s.beat with t0 := s.now, lastIssue := s.now } }

/-- The device as a reset leaves it (R471 to R473): `cause` is what LAST_RESET returns (0 power-on, 1 RST_N, 2 DEVICE_RESET).
SEC_ERR_CAUSE outlives all but a power-on reset (R466). Waiting commands, the record of outputs, true time and the counter of
free values are the model's own and go on. -/
def resetDevice (cause : Nat) (s : State) : State :=
  let s0 : State := { pending := s.pending, fresh := s.fresh, out := s.out, now := s.now, module := s.module }
  let kept := if cause = 0 then keptRegs else keptRegs ++ [Addr.SEC_ERR_CAUSE]
  let s1 := kept.foldl (fun x a => x.setReg a (s.reg a)) s0
  let s2 := s1.setReg Addr.SEC_STATUS (b2n s.module.ownerCred.isSome + b2n (s.flag Addr.SEC_STATUS 4) * 16)
  startBeat (s2.setReg Addr.LAST_RESET cause)

/-- The module with its rails off; a flash write under way leaves a bad image (R488). -/
def railsOff (s : State) : ModuleState :=
  { s.module with rails := false, flash := { s.module.flash with good := s.module.flash.good && s.fw.writing.isNone } }

/-- The rails are off (R472, R494): every output is inert, and what a reset loses is lost. -/
def powerDown (s : State) : State := { resetDevice 0 s with module := railsOff s }

end Sys2Proof.Machine
end

