-- ==== Sys2Proof/Machine/Power.lean ====
section
/-!
DEFINITION. Power, calms and thermal limits (R402 to R421): the measurement, the estimate, the control loop over the calmed
domains, the group ratio, primer passes, the thermal limits, energy and the power commands. Log 49 names what the manual
leaves open here.
-/
namespace Sys2Proof.Machine

def evCapUnreachable : Nat := 0xFF80
def evCapMet : Nat := 0xFF81
def evBulkSuspended : Nat := 0xFF82
def evBulkResumed : Nat := 0xFF83
def evShedActive : Nat := 0xFF84
def evThermalLimit : Nat := 0xFF85
def evThermAlert : Nat := 0xFF86
def evPrimerDone : Nat := 0xFF87
def evPrimerMargin : Nat := 0xFF88
def evInputDerate : Nat := 0xFF89
def evGroupCalm : Nat := 0xFF8A
def evEstimateDrift : Nat := 0xFF8B

/-! Measurement and estimate (R402, R403) -/

/-- The input voltage the module goes by (R492, R494): as sensed, or while the sense is open or crossed the internal measurement less
0.3 V. -/
def State.sensed (s : State) (mv : Nat) : Nat := if s.module.persists &&& 12 = 0 then mv else mv - 300

/-- POWER_SAMPLE (R402): every 10 µs the input voltage and current; ENERGY takes their product, and P_IN_MEAS the mean of
each millisecond. -/
def execPowerSample (t mv ma : Nat) (s : State) : Host.Outcome State Fault Refusal :=
  .next (if !s.on then s else
    let e := s.power.frac + mv * ma
    let s1 := (((advance t s).setReg Addr.VIN (min (s.sensed mv) 131071)).setReg Addr.IIN (min ma 131071)).bump64 Addr.ENERGY (e / 100000)
    let s2 := { s1 with module := { s1.module with vin := s.sensed mv, iin := ma } }
    let n := s.power.msCount + 1
    let sum := s.power.msSum + mv * ma
    if n < 100 then { s2 with power := { s2.power with frac := e % 100000, msSum := sum, msCount := n } }
    else { s2 with power := { s2.power with frac := e % 100000, msSum := 0, msCount := 0 } }.setReg Addr.P_IN_MEAS (min 65535 (sum / n / 1000000)))

/-- A sum of coefficients times counts as input power in W (R403): times EST_GAIN, over the conversion efficiency of 0.93. -/
def State.inputWatts (s : State) (raw : Nat) : Nat := raw * s.reg Addr.EST_GAIN * 100 / (16384 * 93)

/-- The energy measured since the latest update of EST_GAIN, in µJ (R403). -/
def State.measuredEnergy (s : State) : Nat := (s.reg Addr.ENERGY + 2 ^ 64 - s.power.energyAt) % 2 ^ 64

/-- The energy estimated over the last 100 ms, in µJ: the estimates of its hundred milliseconds (R403). -/
def State.estimatedEnergy (s : State) : Nat := 1000 * (s.power.hist.take 100).sum

/-- EST_GAIN_UPDATE (R403): every 100 ms the gain moves a sixteenth of the way to measured over estimated energy. -/
def execEstGainUpdate (t : Nat) (s : State) : Host.Outcome State Fault Refusal :=
  let measured := s.measuredEnergy
  let estimated := s.estimatedEnergy
  .next (if estimated = 0 ∨ !s.limik then s else
    let g : Int := s.reg Addr.EST_GAIN
    let target : Int := (measured * 16384 / estimated : Nat)
    let g1 := (max 0 (min 65535 (g + (target - g) / 16))).toNat
    let off : Int := ((measured : Int) - estimated) * 1000 / estimated
    let n := if 100 < off.natAbs then s.power.drift + 1 else 0
    let s1 := ((advance t s).setReg Addr.EST_GAIN g1).setReg Addr.EST_ERR (unsigned 16 (max (-32768) (min 32767 off)))
    let s2 := { s1 with power.drift := if n = 10 then 0 else n, power.energyAt := s.reg Addr.ENERGY }
    if n = 10 then s2.raiseEvent evEstimateDrift owner [g1, s2.reg Addr.EST_ERR] else s2)

/-! Settings in force (R408, R410) -/

/-- The identifiers of the jobs of a list by tenant. -/
def jobsByTenant (js : List Job) : List (Nat × List Nat) :=
  ((js.map Job.tenant).eraseDups).map (fun t => (t, (js.filter (fun j => j.tenant == t)).map Job.id))

/-- The jobs that a suspension affects (R410): those with a cluster at work. -/
def State.runningJobs (s : State) : List Job := s.jobs.filter (fun j => j.live && (j.state == 0 || j.state == 1) && !j.clusters.all s.halted)

/-- The bulk pool is suspended (R410). -/
def suspendBulk (s : State) : State :=
  let js := s.runningJobs
  ((s.bump32 Addr.SUSPEND_COUNT).setFlag Addr.PWR_STATUS 1 true).raiseAmong evBulkSuspended (js.map Job.id) (jobsByTenant js)

/-- One suspended job is released as a gust sequence on its frozen beat (R49, R410). -/
def resumeJob (s : State) (j : Job) : State :=
  let b := s.beat
  let s1 := { s with beat := { b with released := b.released.filter (fun c => !j.cells.contains c)
                                      gusts := b.gusts.filter (fun g => g.inl || !(g.cells.any j.cells.contains)) } }
  releaseJob j (j.clusters.filter (fun k => !s.detached k)) (s1.updJob j.tenant j.id (fun j => { j with lastProgress := s.now }))

/-- The bulk pool is released (R410). -/
def resumeBulk (s : State) : State :=
  let js := s.runningJobs
  ((js.foldl resumeJob s).setFlag Addr.PWR_STATUS 1 false).raiseAmong evBulkResumed (js.map Job.id) (jobsByTenant js)

/-- The three settings in force change (R408, R410), which makes the present kernel of a primer pass void (R405). A change of the copy setting is beat 0 of software-queue copies. -/
def setCalm (bulk copy fabric : Nat) (s : State) : State :=
  let b0 := s.reg Addr.CALM_BULK
  let c0 := s.reg Addr.CALM_COPY
  let s1 := ((s.setReg Addr.CALM_BULK bulk).setReg Addr.CALM_COPY copy).setReg Addr.CALM_FABRIC fabric
  let s2 := if copy = c0 then s1 else { s1 with beat.kSoft := 0 }
  let s2 := if bulk = b0 ∧ copy = c0 ∧ fabric = s.reg Addr.CALM_FABRIC ∨ s.power.primer.isNone then s2 else { s2 with power.voided := true }
  if bulk = 256 ∧ b0 ≠ 256 then suspendBulk s2 else if bulk ≠ 256 ∧ b0 = 256 then resumeBulk s2 else s2

/-- This device's own needs (R411): bulk, copy, fabric. -/
def State.calmNeed (s : State) : Nat × Nat × Nat := (s.field Addr.CALM_NEED 0 9, s.field Addr.CALM_NEED 9 9, s.field Addr.CALM_NEED 18 9)

/-- The settings in force are the group ratio and the device's own needs, whichever is higher (R411). -/
def applyCalm (s : State) : State :=
  let (b, c, f) := s.calmNeed
  match s.power.ratio with
  | some (rb, rc, rf) => if s.joined then setCalm (max b rb) (max c rc) (max f rf) s else setCalm b c f s
  | none => setCalm b c f s

/-! The control loop (R406 to R414) -/

/-- The dynamic power, setting and greatest setting of a class (R407): 0 LINKS, 1 MEMORY, 2 COMPUTE. -/
structure Domain where
  power : Nat
  n : Nat
  nmax : Nat
deriving DecidableEq, Repr

/-- The power taken off by raising a setting from `d.n` to `n'`. -/
def Domain.saves (d : Domain) (n' : Nat) : Nat := d.power * (n' - d.n) / (256 - d.n)

/-- The least setting that takes off the excess, or the greatest one. -/
def Domain.raised (d : Domain) (excess : Nat) : Nat :=
  if d.power = 0 then d.nmax else min d.nmax (d.n + ceilDiv (excess * (256 - d.n)) d.power)

/-- Raising classes in order, least protected first, until no excess is left (R409): the settings by class, and what is left. -/
def raiseClasses (ds : List Domain) : List Nat → Nat → List Domain × Nat
  | [], e => (ds, e)
  | c :: cs, e =>
    let d := ds.getD c ⟨0, 0, 0⟩
    if e = 0 then (ds, 0)
    else if d.nmax ≤ d.n then raiseClasses ds cs e
    else
      let n := d.raised e
      raiseClasses (ds.set c { d with n, power := d.power - d.saves n }) cs (e - d.saves n)

/-- How far a setting may fall (R409): at most 32, and only while the estimate stays below `room` W more. -/
def Domain.lowered (d : Domain) (room : Nat) : Nat :=
  let ok (x : Nat) : Bool := x ≤ d.n && (x == 0 || d.power * x / (256 - d.n) < room)
  d.n - ((List.range 33).reverse.find? ok).getD 0

/-- Lowering the first class that can be, most protected first (R409). -/
def lowerClasses (ds : List Domain) (room : Nat) : List Nat → List Domain
  | [] => ds
  | c :: cs =>
    let d := ds.getD c ⟨0, 0, 0⟩
    if d.lowered room < d.n then ds.set c { d with n := d.lowered room } else lowerClasses ds room cs

/-- CAP_PRIORITY: the class codes, most protected first (R407). -/
def State.priority (s : State) : List Nat := [s.field Addr.CAP_PRIORITY 0 2, s.field Addr.CAP_PRIORITY 2 2, s.field Addr.CAP_PRIORITY 4 2]

/-- Whether the input is below 48 V (R406): not before the first sample. -/
def State.derated (s : State) : Bool := s.reg Addr.VIN != 0 && decide (s.reg Addr.VIN < 48000)

/-- The cap the loop works to (R406). -/
def State.effectiveCap (s : State) : Nat :=
  min (min (s.reg Addr.CAP) (if s.derated then 2400 else s.reg Addr.CAP)) (s.reg Addr.THERMAL_CAP)

/-- What a cluster's count comes to (R404): one without a primer pass since reset uses factory coefficients increased by 10 %. -/
def State.clusterRaw (s : State) (k x : Nat) : Nat := if s.flag (Addr.CL_ACK_MARGIN k) 16 then x else x * 11 / 10

/-- The bulk domain's sum (R403, R407). -/
def State.bulkRaw (s : State) (l : LoadEst) : Nat := ((List.range 16).map (fun k => s.clusterRaw k (l.bulk.getD k 0))).sum

/-- The inline work of some clusters (R403, R414). -/
def State.inlRaw (s : State) (l : LoadEst) (ks : List Nat) : Nat := (ks.map (fun k => s.clusterRaw k (l.inl.getD k 0))).sum

/-- The whole estimate's sum (R403). -/
def State.estRaw (s : State) (l : LoadEst) : Nat := s.bulkRaw l + l.copy + l.fabric + s.inlRaw l (List.range 16) + l.fixed

/-- The inline work with no inline domain calmed, from that of a period calmed at the settings of CALM_INLINE (R413). -/
def State.inlFloor (s : State) (l : LoadEst) : Nat :=
  ((List.range 16).map (fun k => s.clusterRaw k (l.inl.getD k 0) * 256 / (256 - s.inlineCalm k))).sum

/-- The first power registers of a period: DERATED, CAP_EFFECTIVE, the cluster estimates and FLOOR_EST (R403, R406, R413). -/
def beginPeriod (l : LoadEst) (s : State) : State :=
  let s1 := if s.derated = s.flag Addr.PWR_STATUS 4 then s
    else (s.setFlag Addr.PWR_STATUS 4 s.derated).raiseEvent evInputDerate owner [s.reg Addr.VIN, b2n s.derated]
  let s2 := (List.range 16).foldl (fun s k => s.setReg (Addr.CL_POWER k) (min 65535 (s.inputWatts (s.clusterRaw k (l.bulk.getD k 0 + l.inl.getD k 0))))) s1
  let share (d n : Nat) : Nat := if n < 224 then d * 32 / (256 - n) else d
  let floor := s2.inputWatts (l.fixed + s2.inlFloor l + share l.copy (s2.reg Addr.CALM_COPY) + share l.fabric (s2.reg Addr.CALM_FABRIC))
  s2.setReg Addr.FLOOR_EST (min 65535 floor)

/-- The cause of EV_CAP_UNREACHABLE (R413): 4 thermal, 3 derating, 1 CAP_SET, 2 load, by what lowered the cap. -/
def State.unreachableCause (s : State) (before : Nat) : Nat :=
  let cap := s.effectiveCap
  if before ≤ cap then 2
  else if s.reg Addr.THERMAL_CAP = cap then 4
  else if s.derated ∧ cap = 2400 ∧ cap < s.reg Addr.CAP then 3
  else 1

/-- CAP_UNREACHABLE entered or left (R413). -/
def judgeFloor (before : Nat) (s : State) : State :=
  let cap := s.effectiveCap
  let floor := s.reg Addr.FLOOR_EST
  if cap < floor then
    if s.flag Addr.PWR_STATUS 0 then s
    else ((s.setFlag Addr.PWR_STATUS 0 true).bump32 Addr.UNREACHABLE_COUNT).raiseEvent evCapUnreachable owner [cap, floor, s.unreachableCause before]
  else if s.flag Addr.PWR_STATUS 0 ∧ 1000 * floor + s.reg Addr.CALM_HYST * cap ≤ 1000 * cap then
    (s.setFlag Addr.PWR_STATUS 0 false).raiseEvent evCapMet owner [cap, floor]
  else s

/-- Whether a tenant's packets may be shed (R414). -/
def State.bypass (s : State) (t : Nat) : Bool := s.flag (Addr.SHED_BYPASS (t / 32)) (t % 32)

/-- The clusters whose inline domain may be calmed (R414): with INLINE cells, all of tenants with SHED_TO_BYPASS. -/
def State.shedClusters (s : State) : List Nat :=
  (List.range 16).filter (fun k => !(s.cellsIn k 1).isEmpty && (s.cellsIn k 1).all (fun c => s.bypass (s.cellTenant c)))

/-- CALM_INLINE for the next period (R414): raised by what excess the classes leave, lowered by at most 32, 0 when the cap is
met or no cluster may be calmed. -/
def shedInline (l : LoadEst) (left : Nat) (falling : Bool) (s : State) : State :=
  let ks := s.shedClusters
  let n0 := s.field Addr.CALM_INLINE 0 9
  let d : Domain := ⟨s.inputWatts (s.inlRaw l ks), n0, 128⟩
  let n := if !s.flag Addr.PWR_STATUS 0 ∨ ks.isEmpty then 0 else if left ≠ 0 then (if 128 ≤ n0 then n0 else d.raised left) else if falling then n0 - 32 else n0
  let s1 := (s.setReg Addr.CALM_INLINE (n + ofBits ks * 65536)).setFlag Addr.PWR_STATUS 2 (n != 0)
  if (n0 == 0) == (n == 0) then s1
  else s1.raiseAmong evShedActive [n] (((List.range 256).filter s.bypass).map (fun t => (t, [n])))

/-- The control loop of one period (R409 to R414), from the load estimates. -/
def controlLoop (l : LoadEst) (s0 : State) : State :=
  let before := s0.reg Addr.CAP_EFFECTIVE
  let s1 := beginPeriod l s0
  let cap := s1.effectiveCap
  let p := s1.inputWatts (s1.estRaw l)
  let w := 1000 * s1.reg Addr.CAP_WINDOW
  let fill := if s1.power.hist.isEmpty then p else s1.power.histFill
  let old := s1.power.hist.take (w - 1)
  let sum := old.foldl (· + ·) 0 + (w - 1 - old.length) * fill
  let allow : Int := min (cap * w - sum : Int) 3000
  let excess := ((p : Int) - allow).toNat
  let spare := (allow - (p : Int)).toNat
  let (b, c, f) := s1.calmNeed
  let ds : List Domain := [⟨s1.inputWatts l.fabric, f, 224⟩, ⟨s1.inputWatts l.copy, c, 224⟩, ⟨s1.inputWatts (s1.bulkRaw l), b, 256⟩]
  let up := raiseClasses ds s1.priority.reverse excess
  let falling := decide (s1.reg Addr.CALM_HYST * cap < 1000 * spare)
  let held := s1.power.primer.isSome && decide (20 * excess ≤ cap)
  let new := if held then ds else if excess ≠ 0 then up.1 else if falling then lowerClasses ds spare s1.priority else ds
  let s2 := judgeFloor before (((s1.setReg Addr.CAP_EFFECTIVE cap).setReg Addr.P_EST (min 65535 p)).setReg Addr.P_AVG (min 65535 ((sum + p) / w)))
  -- while CAP_UNREACHABLE is set the device holds at the floor (R413)
  let new := if s2.flag Addr.PWR_STATUS 0 then [⟨0, 224, 224⟩, ⟨0, 224, 224⟩, ⟨0, 256, 256⟩] else new
  let n (i : Nat) : Nat := (new.getD i ⟨0, 0, 0⟩).n
  let s3 := { s2 with power := { s2.power with hist := (p :: s2.power.hist).take 29999, histFill := fill, lastLoop := s2.now } }
  shedInline l (if held then 0 else up.2) (falling && !held) (applyCalm (s3.setReg Addr.CALM_NEED (n 2 + n 1 * 2 ^ 9 + n 0 * 2 ^ 18)))

/-- The needs go to the manager (R411). -/
def reportNeeds (s : State) : State :=
  let (b, c, f) := s.calmNeed
  if !s.joined then s else if s.isManager then noteNeeds s.member b c f s else sendCtrl .calmNeed s.manager [b, c, f] s

/-- CAP_CONTROL_LOOP (R409): every 1 ms of true time, while firmware runs (R481). -/
def execCapControlLoop (t : Nat) (l : LoadEst) (s : State) : Host.Outcome State Fault Refusal :=
  .next (if s.limik ∧ s.power.lastLoop + ms 1 ≤ t then reportNeeds (controlLoop l (advance t s)) else s)

/-- CALM_NEED_REPORT (R411): a member's needs reach the manager. -/
def execCalmNeedReport (t m bulk copy fabric : Nat) (s : State) : Host.Outcome State Fault Refusal :=
  .next (if s.isManager ∧ s.group.live.contains m then noteNeeds m bulk copy fabric (advance t s) else s)

/-- GROUP_CALM_APPLY (R411): from root beat N the group ratio is in force. -/
def execGroupCalmApply (t : Nat) (s : State) : Host.Outcome State Fault Refusal :=
  .next (match s.group.calm with
    | [b, c, f, n] =>
      if s.joined ∧ n ≤ s.zc then
        let s1 := { (advance t s) with group.calm := [], power.ratio := some (b, c, f) }
        let (nb, nc, nf) := s1.calmNeed
        let s2 := (applyCalm s1).setFlag Addr.PWR_STATUS 5 true
        if nb < b ∨ nc < c ∨ nf < f then s2.coalesceEvent evGroupCalm owner s.member (ms 10) [b, c, f] else s2
      else s
    | _ => s)

/-! Primer passes (R405) -/

/-- PRIMER_RUN (R405). -/
def cmdPrimerRun : CmdFn := ownerOnly fun _ p s =>
  let ks := setBits (be p 0 2) 16
  if p.length ≠ 2 then refuse St.BAD_PARAM s
  else if ks.any (fun k => s.detached k || (clusterCells k).any (fun c => (s.jobOfCell c).isSome)) then refuse St.BUSY s
  else (st St.ACCEPTED, { s with power.primers := sortBy (fun a b => decide (a ≤ b)) (s.power.primers ++ ks.filter (fun k => !s.power.primers.contains k)) })

/-- A pass begins on a cluster (R405): it halts. -/
def startPrimer (k : Nat) (s : State) : State :=
  let s1 := haltClusters .primer [k] { s with power := { s.power with primers := s.power.primers.filter (· != k), primer := some (k, 0, s.now), voided := false, margin := 0 } }
  ((s1.setFlag (Addr.CL_STATE k) 2 true).setFlag (Addr.PRIMER_STATUS k) 1 false).setFlag Addr.PWR_STATUS 7 true

/-- A pass ends (R405): its coefficients and margin are stored and the cluster's cells released. -/
def endPrimer (k : Nat) (s : State) : State :=
  let m := s.power.margin
  let s1 := (s.setReg (Addr.CL_ACK_MARGIN k) (unsigned 16 m + 65536)).setFlag (Addr.CL_STATE k) 2 false
  let s2 := ((s1.setReg (Addr.PRIMER_LAST k) s1.zc).setFlag (Addr.PRIMER_STATUS k) 0 true).setFlag Addr.PWR_STATUS 7 false
  let s3 := s2.setFlag Addr.PWR_STATUS 6 ((List.range 16).any (fun i => !s2.flag (Addr.CL_ACK_MARGIN i) 16))
  let s4 := unhaltClusters [.primer] [k] { s3 with power.primer := none }
  let s4 := if s4.halted k then s4 else startRelease false (s4.cellsIn k 2) s4
  let s5 := s4.raiseEvent evPrimerDone owner [k, unsigned 16 m]
  if m < 0 then s5.raiseEvent evPrimerMargin owner [k, unsigned 16 m] else s5

/-- PRIMER_PHASE (R405): the pass moves on when its present part is over: 2 ms of baseline, then four kernels of 5 ms. A kernel
made void by a calm change runs once more. `margin` is what kernel 1 measured. -/
def execPrimerPhase (t : Nat) (margin : Int) (s : State) : Host.Outcome State Fault Refusal :=
  .next (if !s.limik then s else
    match s.power.primer with
    | some (k, ph, since) =>
      if t < since + ms (if ph = 0 then 2 else 5) then s
      else
        let s1 := advance t s
        if ph ≠ 0 ∧ s.power.voided then { s1 with power := { s1.power with primer := some (k, ph, s1.now), voided := false } }
        else
          let s2 := if ph = 1 then { s1 with power.margin := margin } else s1
          if ph < 4 then { s2 with power := { s2.power with primer := some (k, ph + 1, s1.now), voided := false } } else endPrimer k s2
    | none =>
      match s.power.primers with
      | [] => s
      | k :: _ =>
        let s1 := advance t s
        if (s.cellsIn k 1).isEmpty then startPrimer k s1 else s1.setFlag (Addr.PRIMER_STATUS k) 1 true)

/-! Thermal limits (R416) -/

/-- The hottest of a list and its index. -/
def hottest (l : List Int) : Int × Nat :=
  let m := l.foldl max (l.headD 0)
  (m, l.idxOf m)

/-- The trip of R416, latched in the power stage (R495): the rails go, and every output with them. -/
def trip (bit : Nat) (s : State) : State :=
  powerDown { s with module := { s.module with tripped := true, mbFault := s.module.mbFault ||| 2 ^ bit } }

/-- THERMAL_CAP and THERMAL_LIMITING after a sample (R416). -/
def thermalCap (tj : Int) (s : State) : State :=
  let lim : Int := s.reg Addr.TJ_LIMIT
  let cap := s.reg Addr.THERMAL_CAP
  if lim < tj then
    let s1 := (s.setReg Addr.THERMAL_CAP (cap - 50)).setFlag Addr.PWR_STATUS 3 true
    if s.flag Addr.PWR_STATUS 3 then s1 else s1.raiseEvent evThermalLimit owner [unsigned 8 tj]
  else if tj < lim - 3 then
    let c := min 3000 (cap + 10)
    let s1 := s.setReg Addr.THERMAL_CAP c
    if c = 3000 then s1.setFlag Addr.PWR_STATUS 3 false else s1
  else s

/-- THERM_N (R416). -/
def thermAlert (tj : Int) (s : State) : State :=
  let lim : Int := s.reg Addr.TJ_ALERT
  if lim ≤ tj then
    if s.module.thermN then s else ({ s with module := { s.module with thermN := true } } : State).raiseEvent evThermAlert owner [unsigned 8 tj]
  else if tj < lim - 5 then { s with module := { s.module with thermN := false } } else s

/-- The temperatures the power stage measures from AUX_3V3 while the core is off (R495, R502). -/
def standbySample (tj th : Int) (s : State) : State :=
  if s.module.aux then { s with module := { s.module with tj, hbmT := th, thermN := s.module.thermN && decide ((s.reg Addr.TJ_ALERT : Int) - 5 ≤ tj) } } else s

/-- THERMAL_SAMPLE (R416): the five dies C0 to C3 and S, and the sixteen stacks, every 1 ms. Above TJ_LIMIT without firmware
the bulk setting goes to 256 by hardware (R481). -/
def execThermalSample (t : Nat) (dies hbms : List Int) (s : State) : Host.Outcome State Fault Refusal :=
  .next (let (tj, d) := hottest dies
    let (th, m) := hottest hbms
    if dies.length ≠ 5 ∨ hbms.length ≠ 16 then s else if !s.on then standbySample tj th (advance t s) else
    let s1 := ((advance t s).setReg Addr.TJ_MAX (unsigned 8 tj + d * 256)).setReg Addr.HBM_TMAX (unsigned 8 th + m * 256)
    let s2 := { s1 with module := { s1.module with tj, hbmT := th } }
    let s3 := (List.range 16).foldl (fun s i => s.setField (Addr.HBM_STATUS i) 8 8 (unsigned 8 (hbms.getD i 0))) s2
    let s4 := thermAlert tj (thermalCap tj s3)
    let s5 := if s4.stage = 2 ∧ (s4.reg Addr.TJ_LIMIT : Int) < tj then setCalm 256 (s4.reg Addr.CALM_COPY) (s4.reg Addr.CALM_FABRIC) s4 else s4
    if 125 ≤ tj then trip 5 s5 else if 105 ≤ th then trip 6 s5 else s5)

/-- THERMAL_TRIP (R416): the hardware trip at 125 °C of a die or 105 °C of a stack, as last measured. -/
def execThermalTrip (t : Nat) (s : State) : Host.Outcome State Fault Refusal :=
  .next (if !s.on then s else if 125 ≤ s.module.tj then trip 5 (advance t s) else if 105 ≤ s.module.hbmT then trip 6 (advance t s) else s)

/-! Power commands (R418) -/

/-- CAP_SET (R406, R413): a cap below FLOOR_EST is stored and answered CAP_UNREACHABLE. -/
def cmdCapSet : CmdFn := ownerOnly fun _ p s =>
  let cap := be p 0 2
  let w := byteAt p 2
  if p.length ≠ 4 ∨ byteAt p 3 ≠ 0 ∨ cap < 1100 ∨ 3000 < cap ∨ w = 0 ∨ 30 < w then refuse St.BAD_PARAM s
  else (st (if cap < s.reg Addr.FLOOR_EST then St.CAP_UNREACHABLE else St.OK), (s.setReg Addr.CAP cap).setReg Addr.CAP_WINDOW w)

/-- CAP_PRIORITY_SET (R407). -/
def cmdCapPrioritySet : CmdFn := ownerOnly fun _ p s =>
  let l := [byteAt p 0, byteAt p 1, byteAt p 2]
  if p.length ≠ 4 ∨ byteAt p 3 ≠ 0 ∨ l.any (2 < ·) ∨ l.eraseDups.length ≠ 3 then refuse St.BAD_PARAM s
  else (ok, s.setReg Addr.CAP_PRIORITY (l.getD 0 0 + 4 * l.getD 1 0 + 16 * l.getD 2 0))

/-- POWER_STATUS (R418, R351): the words 0x0000 to 0x007C of the block, then CL_POWER. -/
def cmdPowerStatus : CmdFn := ownerOnly fun _ p s =>
  if !p.isEmpty then refuse St.BAD_PARAM s
  else (⟨St.OK, (List.range 32).flatMap (fun i => toBE 4 (s.wordAt (0x20000 + 4 * i))) ++
    (List.range 16).flatMap (fun k => toBE 4 (s.reg (Addr.CL_POWER k)))⟩, s)

/-- ENERGY_READ (R417): ENERGY, or the energy of a job's tenure with its flags. -/
def cmdEnergyRead : CmdFn := fun e p s =>
  let id := be p 0 8
  let answer (v flags : Nat) : Reply := ⟨St.OK, toBE 8 v ++ toBE 1 flags ++ toBE 7 0⟩
  if p.length ≠ 8 then refuse St.BAD_PARAM s
  else if id = 0 then
    if e.owner then (answer (s.reg Addr.ENERGY) 0, s) else (answer 0 4, s)
  else
    match (s.jobs.filter (fun j => j.tenant == e.tenant && j.id == id)).getLast? with
    | none => refuse St.BAD_PARAM s
    | some j =>
      let v := ((if j.live then s.reg Addr.ENERGY else j.energyEnd) + 2 ^ 64 - j.energy0) % 2 ^ 64
      let flags := b2n j.shared + 2 * b2n j.inl + 8 * b2n j.live
      if e.owner ∨ !j.foreign then (answer v flags, s) else (answer 0 (flags + 4), s)

end Sys2Proof.Machine
end

