-- ==== Sys2Proof/Machine/Tm.lean ====
section
/-!
DEFINITION. The traffic manager (R280 to R299): the tenant egress fence, queue ranks, mirror sessions, policers, admission,
deficit round robin, pauses, shapers, the traffic commands and the registers of its block.
Logs 15 and 27 name what the manual leaves open here.
-/
namespace Sys2Proof.Machine

def evFenceRefused : Nat := 0xFF50

/-! Queues and their ports -/

/-- The logical port whose range holds queue `q` (R282). -/
def State.queueHome (s : State) (q : Nat) : Option Nat :=
  (List.range 64).find? (fun L => decide ((s.qRange L).1 ≤ q ∧ q < (s.qRange L).1 + (s.qRange L).2.1))

/-- The queue of a packet for logical port `L` that names queue `qn` or none (R282). -/
def State.queueOf (s : State) (L : Nat) (qn : Option Nat) : Option Nat :=
  let r := s.qRange L
  let rank : Option Nat := match qn with
    | none => some r.2.2
    | some q => (s.queueHome q).map (fun P => q - (s.qRange P).1)
  match rank with
  | none => none
  | some k =>
    let k' := if r.2.1 ≤ k then r.2.2 else k
    if k' < r.2.1 then some (r.1 + k') else none

/-- OCC_PAGES of queue `q` (R288). -/
def State.occPages (s : State) (q : Nat) : Nat := ((s.queue q).map QFrame.pages).foldl (· + ·) 0

/-! Ownership (R281, R293) -/

/-- owned_by(x, t) of R281. -/
def ownedBy (enabled shared : Bool) (tenant t : Nat) : Bool := enabled && (tenant == t || (tenant == owner && shared))

/-- TENANT and SHARED of a queue, shaper or policer (kinds 0 to 2 of TM_READ). -/
def State.tmOwner (s : State) (kind i : Nat) : Nat × Bool :=
  if kind = 0 then (s.field (Addr.Q_CFG i) 8 8, s.flag (Addr.Q_CFG i) 7)
  else if kind = 1 then (s.field (Addr.SH_CFG i) 8 8, s.flag (Addr.SH_CFG i) 16)
  else (s.field (Addr.POL_CFG i) 24 8, s.flag (Addr.POL_CFG i) 6)

/-- Whether a queue, shaper or policer is owned by a tenant; a policer has no ENABLE and counts as enabled (R281). -/
def State.tmOwned (s : State) (kind i t : Nat) : Bool :=
  let w := s.tmOwner kind i
  ownedBy (if kind = 0 then s.flag (Addr.Q_CFG i) 6 else if kind = 1 then s.flag (Addr.SH_CFG i) 6 else true) w.2 w.1 t

/-! Sets and packets of one beat (R294) -/

/-- The register of a fence set as a packet meets it that completed step 9 on beat `z`: a FENCE_SET applies to those of later beats
(R294). -/
def State.fenceReg (s : State) (z a : Nat) : Nat :=
  ((s.tm.fenceWas.find? (fun e => decide (z ≤ e.1) && e.2.1 == a)).map (fun e => e.2.2)).getD (s.reg a)

/-- What earlier beats left of the sets is forgotten as the first of the present beat comes. -/
def freshSets (s : State) : State :=
  if s.tm.setZc = s.zc + 1 then s else { s with tm.setZc := s.zc + 1, tm.polWas := [], tm.applied := [] }

/-- A fence register is set (R281, R294); earlier sets that no packet still meets are forgotten. -/
def setFence (a v : Nat) (s : State) : State :=
  let kept := s.tm.fenceWas.filter (fun e => decide (s.zc ≤ e.1) || s.ports.packets.any (fun (q : Pkt) => q.at_ == .admission && decide (q.since ≤ e.1)))
  { s.setReg a v with tm.fenceWas := kept ++ [(s.zc, a, s.reg a)] }

/-- The first failing test of the fence for a packet that completed step 9 on beat `z`, 0 where it passes (R281). -/
def State.fence (s : State) (z t L c q : Nat) (pol : Option Nat) : Nat :=
  if !bitAt (s.fenceReg z (Addr.TPORTS t)) L then 1
  else if !(bitAt (s.fenceReg z (Addr.TCLASSES t)) c && bitAt (s.fenceReg z (Addr.PORT_CLASSES L)) c) then 2
  else if !s.tmOwned 0 q t then 3
  else match pol with
    | some p => if s.tmOwned 2 p t then 0 else 4
    | none => 0

/-! Shapers (R291, R292) -/

/-- The shaper a register names charged for a frame of `l` bytes at its start (R291). On the beat of its SHAPER_SET the frame is charged
to the old bucket, which the fill replaced (R294). -/
def chargeShaper (w l : Nat) (s : State) : State :=
  let i := w % 4096
  if bitAt w 12 || !s.flag (Addr.SH_CFG i) 6 || (s.tm.setZc == s.zc + 1 && s.tm.applied.contains i) then s
  else { s with
    tm.tokens := tabSet 0 i (s.shTokens i - (((l + s.field (Addr.SH_CFG i) 0 6) * 2 ^ 32 : Nat) : Int)) s.tm.tokens
    tm.shAt := tabSet 0 i s.time.fill s.tm.shAt }

/-! Pauses and eligibility (R289, R290) -/

/-! Leaving queues -/

/-- Whether some queue still refers to a packet (R284). -/
def State.referenced (s : State) (id : Nat) : Bool := s.tm.queues.any (fun e => e.2.any (fun f => f.pkt == id))

/-- A packet with no reference left gives its pages back (R284). -/
def releasePacket (id : Nat) (s : State) : State := if s.referenced id then s else freePacket id s

/-- The frames of queue `q` that `keep` refuses are dropped into FLUSH_DROP (R294). -/
def flushWhere (q : Nat) (keep : QFrame → Bool) (s : State) : State :=
  let gone := (s.queue q).filter (fun f => !keep f)
  let s1 := (s.setQueue q ((s.queue q).filter keep)).bump32 (Addr.FLUSH_DROP q) gone.length
  let s2 := gone.foldl (fun s f => releasePacket f.pkt s) s1
  if (s2.queue q).isEmpty then
    { s2.setReg (Addr.DEFICIT q) 0 with tm.active := s2.tm.active.filterMap (fun e =>
        let l := e.2.filter (· != q)
        if l.isEmpty then none else some (e.1, l)) }
  else s2

/-- Every frame of queue `q` is dropped (R294). -/
def flushQueue (q : Nat) (s : State) : State := if (s.queue q).isEmpty then s else flushWhere q (fun _ => false) s

/-- The queues of a logical port that a mode change removed are emptied (R64, R294). -/
def flushPort (L : Nat) (s : State) : State :=
  let r := s.qRange L
  ((List.range r.2.1).map (· + r.1)).foldl (fun s q => flushQueue q s) s

/-- A write of PORT_CTRL with the exception rates refilled before it and the queues of the sub-ports that it removes emptied
after it (R64, R135, R294). -/
def wrPortMode (p v : Nat) (s : State) : Nat × State :=
  let r := wrPortCtrl p v (refillExceptions s)
  if r.1 = St.OK then
    (r.1, ((List.range 64).filter (fun L => (s.placeOf L).isSome && (r.2.placeOf L).isNone)).foldl (fun s L => flushPort L s) r.2)
  else (r.1, s)

/-! Policers (R285 to R287) -/

/-- Both buckets of a policer full, at the present time of day (R286). -/
def fillPolicer (p : Nat) (s : State) : State := { s with
  tm.tc := tabSet 0 p (s.reg (Addr.CBS p) * 2 ^ 32) s.tm.tc
  tm.te := tabSet 0 p (s.reg (Addr.EBS_PBS p) * 2 ^ 32) s.tm.te
  tm.polAt := tabSet 0 p s.time.tod s.tm.polAt }

/-- The buckets Tc and Te (or Tp) of a policer after the refill up to the present time of day (R285). -/
def refilled (s : State) (p : Nat) : Nat × Nat :=
  let dt := s.time.tod - tabGet 0 p s.tm.polAt
  let cbs := s.reg (Addr.CBS p) * 2 ^ 32
  let ebs := s.reg (Addr.EBS_PBS p) * 2 ^ 32
  let c := tabGet 0 p s.tm.tc + accrue (s.reg (Addr.CIR p)) dt
  let e := tabGet 0 p s.tm.te
  match s.field (Addr.POL_CFG p) 0 3 with
  | 1 => (min c cbs, min ebs (e + (c - cbs)))
  | 2 => (min c cbs, min ebs (e + accrue (s.reg (Addr.PIR p)) dt))
  | 3 => (min c cbs, e)
  | _ => (tabGet 0 p s.tm.tc, e)

/-- `s` with the buckets of a policer set at the present time of day. -/
def setBuckets (p tc te : Nat) (s : State) : State := { s with
  tm.tc := tabSet 0 p tc s.tm.tc, tm.te := tabSet 0 p te s.tm.te, tm.polAt := tabSet 0 p s.time.tod s.tm.polAt }

/-- The colour of a packet of `b` units under a mode with input colour `i` and buckets `tc`, `te`, and the buckets after it:
0 green, 1 yellow, 2 red (R285, R287). Colour-blind is an input colour of green. -/
def colourOf (mode i b tc te : Nat) : Nat × Nat × Nat :=
  match mode with
  | 1 => if i = 0 ∧ b ≤ tc then (0, tc - b, te) else if i ≠ 2 ∧ b ≤ te then (1, tc, te - b) else (2, tc, te)
  | 2 => if i = 2 ∨ te < b then (2, tc, te) else if i = 1 ∨ tc < b then (1, tc, te - b) else (0, tc - b, te - b)
  | 3 => if tc < b then (2, tc, te) else (0, tc - b, te)
  | _ => (0, tc, te)

/-- The counters of a policer by colour, and DROPPED. -/
def polCounter (p c : Nat) : Nat :=
  match c with
  | 0 => Addr.POL_GREEN p
  | 1 => Addr.POL_YELLOW p
  | 2 => Addr.POL_RED p
  | _ => Addr.POL_DROPPED p

/-- The five words of a policer and its buckets, before and after a set (R286, R294). -/
def State.policerWords (s : State) (p : Nat) : List Nat :=
  [s.reg (Addr.POL_CFG p), s.reg (Addr.CIR p), s.reg (Addr.PIR p), s.reg (Addr.CBS p), s.reg (Addr.EBS_PBS p)]

/-- A POLICER_SET of the present beat that packets of the beat do not meet yet (R294): the policer as it was. -/
def State.polBefore (s : State) (p : Nat) : Option (List Nat × Nat × Nat) :=
  if s.tm.setZc = s.zc + 1 then (s.tm.polWas.find? (fun e => e.1 == p)).map Prod.snd else none

/-- `s` with a policer as it was before the POLICER_SET of this beat. -/
def State.withPolicer (s : State) (p : Nat) (x : List Nat × Nat × Nat) : State :=
  let s1 := ([Addr.POL_CFG p, Addr.CIR p, Addr.PIR p, Addr.CBS p, Addr.EBS_PBS p].zip x.1).foldl (fun s r => s.setReg r.1 r.2) s
  setBuckets p x.2.1 x.2.2 s1

/-- A packet policed by the policer as it stands (R285, R287): its colour, whether it is dropped, and the state after it. -/
def policeNow (q : Pkt) (p : Nat) (s : State) : Nat × Bool × State :=
  let c := s.reg (Addr.POL_CFG p)
  let mode := c % 8
  let b := if mode = 3 then q.bytes.length + 4 else ((q.bytes.length : Int) + signed 6 (bits c 18 6)).toNat
  let raw := busBits q.bus (bits c 8 10) 2
  let aware := bitAt c 3 && (mode == 1 || mode == 2)
  let i := if aware then min raw 2 else 0
  let r := refilled s p
  let x := colourOf mode i (b * 2 ^ 32) r.1 r.2
  let drop := (x.1 == 2 && (mode == 3 || bitAt c 5)) || (x.1 == 1 && bitAt c 4)
  let s1 := setBuckets p x.2.1 x.2.2 s
  let s2 := if aware && raw == 3 then s1.bump32 (Addr.COLOUR_INVALID p) else s1
  let s3 := s2.bump64 (polCounter p x.1)
  (x.1, drop, if drop then s3.bump64 (polCounter p 3) else s3)

/-- Whether two settings of a policer agree in MODE, CIR, PIR, CBS and EBS_PBS, so that its buckets go on (R286). -/
def samePolicer (x y : List Nat) : Bool := x.headD 0 % 8 == y.headD 0 % 8 && x.drop 1 == y.drop 1

/-- A packet policed: on the beat of a POLICER_SET it meets the old configuration, and the buckets are then full if the set changed what
fills them (R286, R294). -/
def police (q : Pkt) (p : Nat) (s : State) : Nat × Bool × State :=
  match s.polBefore p with
  | none => policeNow q p s
  | some x =>
    let r := policeNow q p (s.withPolicer p x)
    let left := (p, x.1, tabGet 0 p r.2.2.tm.tc, tabGet 0 p r.2.2.tm.te)
    let full := !samePolicer x.1 (s.policerWords p)
    let s1 := r.2.2.withPolicer p (s.policerWords p, if full then (tabGet 0 p s.tm.tc, tabGet 0 p s.tm.te) else left.2.2)
    (r.1, r.2.1, { s1 with tm.polWas := s1.tm.polWas.map (fun e => if e.1 = p then left else e) })

/-! Step 10 (R280) -/

/-- The occupancy limit of a colour (R288). -/
def colourLimit (q c : Nat) : Nat := if c = 0 then Addr.GREEN_LIMIT q else if c = 1 then Addr.YELLOW_LIMIT q else Addr.RED_LIMIT q

/-- The frames in the egress FIFO of port `L`, which its queues are (R75, R289). -/
def State.egressFrames (s : State) (L : Nat) : List QFrame := (List.range (s.qRange L).2.1).flatMap (fun i => s.queue ((s.qRange L).1 + i))

/-- The words the egress FIFO of port `L` holds: its frames, and packets committed there as such (R77). -/
def State.egressWords (s : State) (L : Nat) : Nat :=
  ((s.egressFrames L).map (fun x => ceilDiv x.bytes.length 32)).foldl (· + ·) 0 + (s.fifo (0x40 + L)).wordsHeld

/-- Admission of a frame to queue `q` of port `L` by its colour (R288, R289): it is committed into the port's egress FIFO (R77). -/
def enqueue (L q c : Nat) (f : QFrame) (s : State) : State :=
  if s.reg (colourLimit q c) < s.occPages q + f.pages then s.bump32 (Addr.TAIL_DROP q)
  else
    let s1 := (s.setQueue q (s.queue q ++ [f])).bump64 (Addr.COMMIT_COUNT (0x40 + L))
    rejoin L ((s1.raise (Addr.OCC_HIGH q) (s1.occPages q)).raise (Addr.HIGH_WATER (0x40 + L)) (s1.egressWords L))

/-- The pages a packet holds (R68). -/
def Pkt.pages (q : Pkt) : Nat := q.reserved + q.shared + q.headroom

/-- One mirror session of a packet (R284). -/
def mirrorCopy (p : Pkt) (m : Nat) (s : State) : State :=
  let c := s.reg (Addr.MIR_CFG m)
  let L := bits c 0 6
  match s.queueOf L (some (bits c 6 10)) with
  | some q =>
    if bitAt c 24 && bits c 16 8 == p.tenant && s.fence p.since p.tenant L 0 q none == 0 then
      let t := s.reg (Addr.TRUNCATE m)
      let b := if t = 0 then p.bytes else p.bytes.take t
      enqueue L q 0 { pkt := p.id, bytes := b, pages := min p.pages (pagesOf b.length), mirror := true } (s.bump32 (Addr.MIR_COPIES m))
    else s.bump32 (Addr.MIR_DROPS m)
  | none => s.bump32 (Addr.MIR_DROPS m)

/-- The port and queue where the fence lets a packet's result go, and the state after its refusal is counted (R281, R282). -/
def fencePacket (p : Pkt) (s : State) : Option (Nat × Nat) × State :=
  match p.result.drop, p.result.egress with
  | false, some (false, L) =>
    let c := p.result.cls
    match s.queueOf L p.result.queue with
    | some q =>
      let t := s.fence p.since p.tenant L c q p.result.policer
      if t = 0 then (some (L, q), s)
      else (none, (s.bump32 (Addr.FENCE_DROPS p.tenant)).coalesceEvent evFenceRefused p.tenant p.tenant (ms 1) [p.tenant, L, c, t])
    | none =>
      let t := s.fence p.since p.tenant L c 1024 none
      if t = 1 ∨ t = 2 then
        (none, (s.bump32 (Addr.FENCE_DROPS p.tenant)).coalesceEvent evFenceRefused p.tenant p.tenant (ms 1) [p.tenant, L, c, t])
      else (none, s.bump32 (Addr.NO_QUEUE_DROPS L))
  | _, _ => (none, s)

/-- Step 10 of a packet (R280): fence, mirrors, policer, queue. -/
def admitPacket (p : Pkt) (s : State) : State :=
  let f := fencePacket p s
  let s1 := (setBits p.result.mirror 16).foldl (fun s m => mirrorCopy p m s) f.2
  let s2 := match f.1 with
    | none => s1
    | some (L, q) =>
      let r := match p.result.policer with
        | some n => police p n s1
        | none => (0, false, s1)
      if r.2.1 then r.2.2
      else enqueue L q r.1 { pkt := p.id, bytes := p.bytes, pages := p.pages, tag := p.result.tag } r.2.2
  releasePacket p.id (s2.updPacket p.id (fun x => { x with at_ := .queued }))

/-- Whether a packet is next of those that completed step 9: those of earlier beats first, and of one beat in ascending logical port of
intake, a packet still at step 9 on the present beat among them (R280). -/
def State.mayAdmit (s : State) (p : Pkt) : Bool :=
  p.at_ == .admission && !s.ports.packets.any (fun (x : Pkt) =>
    (x.at_ == .admission && (decide (x.since < p.since) || x.since == p.since && decide (x.desc.lport < p.desc.lport))) ||
    (x.at_ == .resolve && p.since == s.zc && decide (x.desc.lport < p.desc.lport)))

/-- TM_ADMIT (R280). -/
def execTmAdmit (t id : Nat) (s : State) : Host.Outcome State Fault Refusal :=
  .next (match s.packet id with
    | none => s
    | some p => if s.mayAdmit p then admitPacket p (advance t s) else s)

/-! The scheduler (R289) -/

/-- The egress time stamp of a frame with a tag (R73): a record in the time-stamp FIFO, or TS_LOST when it is full. -/
def stampTx (p L tag : Nat) (s : State) : State :=
  let f := 0x8F0 + p
  let t := s.rxTime p
  let w := BitVec.ofNat 256 (t.2 + t.1 * 2 ^ 32 + s.zc * 2 ^ 80 + tag * 2 ^ 144 + L * 2 ^ 160)
  if 256 ≤ (s.fifo f).pkts.length then s.bump32 (Addr.TS_LOST p) else commitPacket f ⟨1, none, [w]⟩ s

/-- A frame reaches the MAC of sub-port `k` of port `p` (R83, R73): counted, stamped, and put on the wire, looped back, or
squelched (R63, R466). -/
def macSend (p k L : Nat) (bytes : Bytes) (tag : Option Nat) (s : State) : State :=
  let s1 := (s.bump64 (Addr.TX_FRAMES p k)).bump64 (Addr.TX_BYTES p k) (bytes.length + 4)
  let s3 := match tag with
    | some g => stampTx p L g s1
    | none => s1
  if s3.flag (Addr.PORT_CTRL p) 6 then receiveFrame L (bytes ++ [0#8, 0#8, 0#8, 0#8]) .good none s3
  else if s3.flag (Addr.PORT_CTRL p) 3 && !s3.secError then s3.emit (.frame L bytes) else s3

/-- The head frame of queue `q` starts transmission on port `L`, or is dropped where no link is up (R289, R291); one in which the MAC
reads an uncorrectable word is aborted, and nothing of it is sent (R76). -/
def sendHead (L q : Nat) (chk : FifoRead) (f : QFrame) (rest : List QFrame) (s : State) : State :=
  let l := f.bytes.length + 4
  let s1 := (s.setQueue q rest).setReg (Addr.DEFICIT q) (s.reg (Addr.DEFICIT q) - l)
  let s2 := chargeShaper (s.reg (Addr.PORT_SHAPER L)) l (chargeShaper (s.reg (Addr.Q_SHAPER q)) l s1)
  let up := match s.placeOf L with
    | some (p, k) => if s.subUp p k then some (p, k) else none
    | none => none
  releasePacket f.pkt (match up with
    | some (p, k) =>
      let s3 := noteRead (0x40 + L) chk s2
      if chk.bad then s3 else macSend p k L f.bytes f.tag ((s3.bump64 (Addr.TX_PKTS q)).bump64 (Addr.Q_TX_BYTES q) l)
    | none => s2.bump32 (Addr.FLUSH_DROP q))

/-- The head of an active list leaves it, or goes to its tail. -/
def endVisit (L : Nat) (l : List Nat) (s : State) : State := { s.setActiveQ L l with tm.credited := tabSet 0 L 0 s.tm.credited }

/-- The loop of R289 on port `L` until it waits, is out of queues, or has sent one frame. -/
def drr (L : Nat) (chk : FifoRead) : (fuel : Nat) → State → State
  | 0, s => s
  | n + 1, s =>
    match s.activeQ L with
    | [] => s
    | q :: rest =>
      let credited := tabGet 0 L s.tm.credited == q + 1
      if !credited && !s.shaperOpen (s.reg (Addr.PORT_SHAPER L)) then s
      else
        let s1 := if credited then s else
          { s.setReg (Addr.DEFICIT q) (s.reg (Addr.DEFICIT q) + s.reg (Addr.QUANTUM q)) with tm.credited := tabSet 0 L (q + 1) s.tm.credited }
        match s1.queue q with
        | [] => drr L chk n (endVisit L rest (s1.setReg (Addr.DEFICIT q) 0))
        | f :: fs =>
          if !s1.eligible L q then drr L chk n (endVisit L rest s1)
          else if f.bytes.length + 4 ≤ s1.reg (Addr.DEFICIT q) then sendHead L q chk f fs s1
          else drr L chk n (endVisit L (rest ++ [q]) s1)

/-- Visits enough for any port: 64 queues, and 160 rounds of the least quantum for the longest frame. -/
def drrFuel : Nat := 10304

/-- The MAC of port `L` takes a packet that a PACKET_COMMIT put into its egress FIFO (R75, R77): its words are the frame (DESIGN CHOICE,
log 21). -/
def sendCommitted (L : Nat) (chk : FifoRead) (q : FifoPkt) (s : State) : State :=
  let s1 := popFifo (0x40 + L) s
  match s.placeOf L with
  | some (p, k) =>
    if !s.subUp p k then s1
    else
      let s2 := noteRead (0x40 + L) chk s1
      if chk.bad then s2 else macSend p k L (q.data.flatMap (fun w => toLE 32 w.toNat)) none s2
  | none => s1

/-- FRAME_TRANSMIT (R289): a logical port takes its next frame; packets committed into its egress FIFO as such stand before those that
its queues hold. -/
def execFrameTransmit (t : Nat) (lport : Checked Nat) (s : State) : Host.Outcome State Fault Refusal :=
  .next (if lport.item < 64 then
      match (s.fifo (0x40 + lport.item)).pkts with
      | q :: _ => sendCommitted lport.item lport.chk q (advance t s)
      | [] => drr lport.item lport.chk drrFuel (rejoin lport.item (advance t s))
    else s)

/-- PAUSE_EXPIRY (R290): a received pause time has run out, and the queues it held join the tail of active. -/
def execPauseExpiry (t L prio : Nat) (s : State) : Host.Outcome State Fault Refusal :=
  .next (let e := tabGet 0 (fcKey L prio) s.ports.paused
    if e ≠ 0 ∧ e ≤ t then
      let s1 := advance t s
      rejoin L { s1 with ports.paused := tabSet 0 (fcKey L prio) 0 s1.ports.paused }
    else s)

/-- SHAPER_OPEN (R291): a shaper that has refilled above 0 is open, and the queues it closed join the tail of active. -/
def execShaperOpen (t i : Nat) (s : State) : Host.Outcome State Fault Refusal :=
  .next (let s1 := advance t s
    if i < 4096 ∧ s.flag (Addr.SH_CFG i) 6 ∧ s1.shaperOpen i then rejoinAll s1 else s)

/-- The bin of a queue's occupancy (R295). -/
def State.histBin (s : State) (q : Nat) : Nat :=
  let g := s.reg (Addr.GREEN_LIMIT q)
  if g = 0 then 15 else min 15 (16 * s.occPages q / g)

/-- A bin that saturates at 32 bits. -/
def sampleQueue (q : Nat) (s : State) : State :=
  let a := Addr.Q_HIST q (s.histBin q)
  s.setReg a (min (2 ^ 32 - 1) (s.reg a + 1))

/-- QUEUE_HISTOGRAM_SAMPLE (R295): one sample of every queue. -/
def execQueueHistogramSample (t : Nat) (s : State) : Host.Outcome State Fault Refusal :=
  .next (if s.on then (List.range 1024).foldl (fun s q => sampleQueue q s) (advance t s) else s)

/-! Configuration (R282, R286, R288, R292, R293) -/

/-- The five words of a policer set together, `cfg` telling whether POL_CFG is among what is written (R286). -/
def setPolicer (p cfg cir pir cbs ebs : Nat) (cfgWritten : Bool) (s : State) : Nat × State :=
  let mode := cfg % 8
  let off := bits cfg 8 10
  if 3 < mode ∨ (mode = 2 ∧ pir < cir) ∨ (mode = 1 ∧ cbs = 0 ∧ ebs = 0) ∨ (cfgWritten ∧ !(decide (384 ≤ off ∧ off ≤ 1022))) then
    (St.BAD_PARAM, s)
  else
    let changed := mode != s.field (Addr.POL_CFG p) 0 3 || cir != s.reg (Addr.CIR p) || pir != s.reg (Addr.PIR p)
      || cbs != s.reg (Addr.CBS p) || ebs != s.reg (Addr.EBS_PBS p)
    let s1 := ((((s.setReg (Addr.POL_CFG p) cfg).setReg (Addr.CIR p) cir).setReg (Addr.PIR p) pir).setReg (Addr.CBS p) cbs).setReg (Addr.EBS_PBS p) ebs
    (St.OK, if changed then fillPolicer p s1 else s1)

/-- The bits of POL_CFG that hold a value. -/
def polCfgMask : Nat := 0xFFFFFF7F

/-- A write of word `w` (0 POL_CFG, 1 CIR, 2 PIR, 3 CBS, 4 EBS_PBS) of a policer (R286). -/
def wrPolicer (p w v : Nat) (s : State) : Nat × State :=
  let at' (i a m : Nat) : Nat := if w = i then v &&& m else s.reg a
  setPolicer p (at' 0 (Addr.POL_CFG p) polCfgMask) (at' 1 (Addr.CIR p) 0xFFFFFFFF) (at' 2 (Addr.PIR p) 0xFFFFFFFF)
    (at' 3 (Addr.CBS p) 0xFFFFFFF) (at' 4 (Addr.EBS_PBS p) 0xFFFFFFF) (w == 0) s

/-- The six words of a queue set together (R288, R289, R293, R294); `named` says that the write names the queue's shaper, or gives the
queue to another tenant. -/
def setQueueCfg (named : Bool) (q cfg quantum g y r sh : Nat) (s : State) : Nat × State :=
  if quantum < 64 ∨ 2 ^ 20 < quantum ∨ g < y ∨ y < r then (St.BAD_PARAM, s)
  else if named && !bitAt sh 12 && !s.tmOwned 1 (sh % 4096) (bits cfg 8 8) then (St.NOT_PERMITTED, s)
  else
    let s1 := (((((s.setReg (Addr.Q_CFG q) (cfg &&& 0x7FFC0)).setReg (Addr.QUANTUM q) quantum).setReg (Addr.GREEN_LIMIT q) g).setReg
      (Addr.YELLOW_LIMIT q) y).setReg (Addr.RED_LIMIT q) r).setReg (Addr.Q_SHAPER q) (sh % 2 ^ 13)
    let s2 := if bitAt cfg 6 then s1 else flushQueue q s1
    (St.OK, match s2.queueHome q with
      | some L => rejoin L s2
      | none => s2)

/-- A write of word `w` (0 Q_CFG, 1 QUANTUM, 2 to 4 limits, 5 Q_SHAPER) of a queue. -/
def wrQueue (q w v : Nat) (s : State) : Nat × State :=
  let at' (i a m : Nat) : Nat := if w = i then v &&& m else s.reg a
  setQueueCfg (w == 5 || (w == 0 && bits v 8 8 != s.field (Addr.Q_CFG q) 8 8)) q (at' 0 (Addr.Q_CFG q) 0x7FFC0) (at' 1 (Addr.QUANTUM q) 0x1FFFFF) (at' 2 (Addr.GREEN_LIMIT q) 0xFFFFF)
    (at' 3 (Addr.YELLOW_LIMIT q) 0xFFFFF) (at' 4 (Addr.RED_LIMIT q) 0xFFFFF) (at' 5 (Addr.Q_SHAPER q) 0x1FFF) s

/-- Whether the queue range of `v` for port `L` breaks R282. -/
def State.rangeBad (s : State) (L v : Nat) : Bool :=
  let b := bits v 0 10
  let n := bits v 10 7
  decide (64 < n ∨ 1024 < b + n) || (List.range 64).any (fun P => P != L && decide (max b (s.qRange P).1 < min (b + n) ((s.qRange P).1 + (s.qRange P).2.1)))

/-- The queue range and shaper of a port set together (R282): queues that changed ports leave their old active list. -/
def setPortQueues (L pq sh : Nat) (s : State) : Nat × State :=
  if s.rangeBad L pq then (St.BAD_PARAM, s)
  else
    let s1 := (s.setReg (Addr.PQ_CFG L) (pq % 2 ^ 23)).setReg (Addr.PORT_SHAPER L) (sh % 2 ^ 13)
    let s2 := { s1 with tm.active := s1.tm.active.filterMap (fun e =>
      let l := e.2.filter (fun q => s1.queueHome q == some e.1)
      if l.isEmpty then none else some (e.1, l)) }
    (St.OK, rejoinAll s2)

/-- A write of PQ_CFG (R282). -/
def wrPqCfg (L v : Nat) (s : State) : Nat × State := setPortQueues L v (s.reg (Addr.PORT_SHAPER L)) s
/-- A write of PORT_SHAPER. -/
def wrPortShaper (L v : Nat) (s : State) : Nat × State := setPortQueues L (s.reg (Addr.PQ_CFG L)) v s

/-- RATE and BURST of a shaper applied with a fill (R292): any debt is discarded. -/
def applyShaper (i fill rate burst : Nat) (s : State) : Nat × State :=
  if fill ≠ 1 ∧ fill ≠ 2 then (St.BAD_PARAM, s)
  else
    let s1 := ((s.setReg (Addr.SH_RATE i) rate).setReg (Addr.SH_BURST i) burst).bump32 (Addr.SH_APPLIES i)
    let s1 := freshSets s1
    (St.OK, rejoinAll { s1 with
      tm.applied := i :: s1.tm.applied
      tm.tokens := tabSet 0 i (if fill = 1 then ((burst * 2 ^ 32 : Nat) : Int) else 0) s1.tm.tokens
      tm.shAt := tabSet 0 i s1.time.fill s1.tm.shAt })

/-- A write of SH_APPLY (R292). -/
def wrShApply (i v : Nat) (s : State) : Nat × State :=
  applyShaper i (v % 4) (s.reg (Addr.SH_RATE_NEXT i)) (s.reg (Addr.SH_BURST_NEXT i)) s

/-- A write of SH_CFG: a shaper that is disabled is open (R291). -/
def wrShCfg (i v : Nat) (s : State) : Nat × State := (St.OK, rejoinAll (s.setReg (Addr.SH_CFG i) (v &&& 0x1FF7F)))

/-- A write of TRUNCATE (R283). -/
def wrTruncate (m v : Nat) (s : State) : Nat × State :=
  let w := v % 2 ^ 14
  if w ≠ 0 ∧ (w < 64 ∨ 9728 < w) then (St.BAD_PARAM, s) else (St.OK, s.setReg (Addr.TRUNCATE m) w)

/-! Commands (R293, R351) -/

/-- Whether the sender may set a queue, shaper or policer (R293): the owner any, a tenant its own unshared ones. -/
def maySet (env : Env) (s : State) (kind i : Nat) : Bool :=
  let w := s.tmOwner kind i
  env.owner || (w.1 == env.tenant && !w.2)

/-- POLICER_SET (R286). -/
def cmdPolicerSet : CmdFn := fun env p s =>
  let i := be p 0 2
  let cfg := be p 4 4 &&& polCfgMask
  if p.length ≠ 24 ∨ !zerosAt p 2 2 then refuse St.BAD_PARAM s
  else if !maySet env s 2 i ∨ (!env.owner ∧ (cfg ^^^ s.reg (Addr.POL_CFG i)) &&& 0xFF000040 ≠ 0) then refuse St.NOT_PERMITTED s
  else
    let r := setPolicer i cfg (be p 8 4) (be p 12 4) (be p 16 4 % 2 ^ 28) (be p 20 4 % 2 ^ 28) true s
    let s1 := freshSets r.2
    let was := if s1.tm.polWas.any (fun e => e.1 == i) then s1.tm.polWas else s1.tm.polWas ++ [(i, s.policerWords i, refilled s i)]
    if r.1 = St.OK then (ok, { s1 with tm.polWas := was }) else refuse r.1 s

/-- QUEUE_SET (R282, R288, R289). -/
def cmdQueueSet : CmdFn := fun env p s =>
  let i := be p 2 2
  if 1 < byteAt p 0 ∨ byteAt p 1 ≠ 0 ∨ p.length ≠ (if byteAt p 0 = 0 then 28 else 12) ∨ (if byteAt p 0 = 0 then 1023 else 63) < i then
    refuse St.BAD_PARAM s
  else if byteAt p 0 = 1 then
    if !env.owner then refuse St.NOT_PERMITTED s
    else
      let r := setPortQueues i (be p 4 4) (be p 8 4) s
      (st r.1, r.2)
  else if !maySet env s 0 i ∨ (!env.owner ∧ (be p 4 4 ^^^ s.reg (Addr.Q_CFG i)) &&& 0xFF80 ≠ 0) then refuse St.NOT_PERMITTED s
  else
    let r := setQueueCfg true i (be p 4 4 &&& 0x7FFC0) (be p 8 4 % 2 ^ 21) (be p 12 4 % 2 ^ 20) (be p 16 4 % 2 ^ 20) (be p 20 4 % 2 ^ 20) (be p 24 4 % 2 ^ 13) s
    (st r.1, r.2)

/-- Whether a shaper is a port shaper. -/
def State.isPortShaper (s : State) (i : Nat) : Bool := (List.range 64).any (fun L => s.reg (Addr.PORT_SHAPER L) == i)

/-- SHAPER_SET (R292). -/
def cmdShaperSet : CmdFn := fun env p s =>
  let i := be p 0 2
  let cfg := be p 12 4 &&& 0x1FF7F
  if p.length ≠ 16 ∨ 4095 < i ∨ byteAt p 3 ≠ 0 ∨ (byteAt p 2 ≠ 1 ∧ byteAt p 2 ≠ 2) then refuse St.BAD_PARAM s
  else if !maySet env s 1 i ∨ (!env.owner ∧ (s.isPortShaper i ∨ (cfg ^^^ s.reg (Addr.SH_CFG i)) &&& 0x1FF00 ≠ 0)) then refuse St.NOT_PERMITTED s
  else
    let r := applyShaper i (byteAt p 2) (be p 4 4) (be p 8 4 % 2 ^ 28) (s.setReg (Addr.SH_CFG i) cfg)
    (st r.1, r.2)

/-- FENCE_SET (R281). -/
def cmdFenceSet : CmdFn := fun env p s =>
  let i := byteAt p 1
  if !env.owner then refuse St.NOT_PERMITTED s
  else if p.length ≠ 16 ∨ 1 < byteAt p 0 ∨ !zerosAt p 2 2 then refuse St.BAD_PARAM s
  else if byteAt p 0 = 0 then
    if !zerosAt p 14 2 then refuse St.BAD_PARAM s
    else (ok, setFence (Addr.TCLASSES i) (be p 12 2) (setFence (Addr.TPORTS i) (be p 4 8) s))
  else if 63 < i ∨ !zerosAt p 6 10 then refuse St.BAD_PARAM s
  else (ok, setFence (Addr.PORT_CLASSES i) (be p 4 2) s)

/-- MIRROR_SET (R283). -/
def cmdMirrorSet : CmdFn := fun env p s =>
  let m := byteAt p 0
  if !env.owner then refuse St.NOT_PERMITTED s
  else if p.length ≠ 12 ∨ 15 < m ∨ !zerosAt p 1 3 then refuse St.BAD_PARAM s
  else
    let r := wrTruncate m (be p 8 4) s
    if r.1 = St.OK then (ok, r.2.setReg (Addr.MIR_CFG m) (be p 4 4 % 2 ^ 25)) else refuse r.1 s

/-! Values read (R295 to R299) -/

/-- A register of the traffic manager that the device derives, by its address; none where the register file holds it. -/
def tmDerived (s : State) (a : Nat) : Option Nat :=
  if a = Addr.NO_QUEUE_DROPS_SUM then some (((List.range 64).map (fun L => s.reg (Addr.NO_QUEUE_DROPS L))).foldl (· + ·) 0 % 2 ^ 32)
  else if Addr.PORT_SHAPER 0 ≤ a ∧ a < Addr.MIR_CFG 0 then
    let L := (a - Addr.PQ_CFG 0) / 0x20
    if a = Addr.PAUSED L then some (ofBits ((List.range 9).filter (s.pausedAt L))) else none
  else if Addr.Q_CFG 0 ≤ a ∧ a < Addr.SH_RATE 0 then
    let q := (a - Addr.Q_CFG 0) / 0x40
    if a = Addr.Q_CFG q then some (s.reg a + (s.queueHome q).getD 0)
    else if a = Addr.OCC_PAGES q then some (s.occPages q)
    else if a = Addr.Q_STATUS q then
      let L := s.queueHome q
      some (b2n (L.elim false (fun L => (s.activeQ L).contains q)) + 2 * b2n (L.elim false (fun L => s.queuePaused L q))
        + 4 * b2n (!s.shaperOpen (s.reg (Addr.Q_SHAPER q))))
    else none
  else if Addr.SH_RATE 0 ≤ a ∧ a < Addr.POL_CFG 0 then
    let i := (a - Addr.SH_RATE 0) / 0x20
    if a = Addr.SH_TOKENS i then some (unsigned 32 (s.shTokens i / 4294967296)) else none
  else if Addr.POL_CFG 0 ≤ a ∧ a < Addr.POL_GREEN 0 then
    let p := (a - Addr.POL_CFG 0) / 0x20
    if a = Addr.TC p then some (tabGet 0 p s.tm.tc / 2 ^ 32 % 2 ^ 28)
    else if a = Addr.TE_TP p then some (tabGet 0 p s.tm.te / 2 ^ 32 % 2 ^ 28) else none
  else none

/-- A 32-bit word of the traffic manager at `a`, the upper half of a pair at its own address. -/
def tmWord (s : State) (a : Nat) : Nat :=
  match tmDerived s a with
  | some v => v
  | none =>
    match locate a with
    | some l => if l.hiHalf then s.reg l.key / 2 ^ 32 else s.reg a % 2 ^ 32
    | none => 0

/-- The blocks of TM_READ by KIND: instances, and each block as its first address, stride and words (R351). -/
def tmBlocks (kind : Nat) : Nat × List (Nat × Nat × Nat) :=
  match kind with
  | 0 => (1024, [(Addr.Q_CFG 0, 0x40, 16), (Addr.Q_HIST 0 0, 0x40, 16)])
  | 1 => (4096, [(Addr.SH_RATE 0, 0x20, 8)])
  | 2 => (65536, [(Addr.POL_CFG 0, 0x20, 8), (Addr.POL_GREEN 0, 0x20, 8)])
  | 3 => (64, [(Addr.PQ_CFG 0, 0x20, 8)])
  | 4 => (16, [(Addr.MIR_CFG 0, 0x10, 4)])
  | _ => (256, [(Addr.TPORTS 0, 0x10, 4)])

/-- Whether the sender may read instance `i` of a kind (R293). -/
def mayRead (env : Env) (s : State) (kind i : Nat) : Bool :=
  env.owner || (decide (kind ≤ 2) && maySet env s kind i) || (kind == 5 && i == env.tenant)

/-- TM_READ (R293): the queues read have OCC_HIGH cleared (R9). -/
def cmdTmRead : CmdFn := fun env p s =>
  let kind := byteAt p 0
  let first := be p 2 2
  let n := be p 4 2
  let b := tmBlocks kind
  if p.length ≠ 6 ∨ 5 < kind ∨ byteAt p 1 ≠ 0 ∨ n = 0 ∨ 256 < n ∨ b.1 < first + n then refuse St.BAD_PARAM s
  else if !((List.range n).all (fun i => mayRead env s kind (first + i))) then refuse St.NOT_PERMITTED s
  else
    let words (i : Nat) : Bytes := b.2.flatMap (fun x => (List.range x.2.2).flatMap (fun j => toBE 4 (tmWord s (x.1 + i * x.2.1 + 4 * j))))
    (⟨St.OK, (List.range n).flatMap (fun i => words (first + i))⟩,
     if kind = 0 then (List.range n).foldl (fun s i => s.setReg (Addr.OCC_HIGH (first + i)) 0) s else s)

/-- Whether a tenant may read a word of the traffic manager's block (R295). -/
def tmReadable (s : State) (t a : Nat) : Bool :=
  let mine (kind i : Nat) : Bool := s.tmOwner kind i == (t, false)
  (decide (Addr.TPORTS t ≤ a ∧ a < Addr.TPORTS t + 0x10)) ||
  (decide (Addr.Q_CFG 0 ≤ a ∧ a < Addr.SH_RATE 0) && mine 0 ((a - Addr.Q_CFG 0) / 0x40)) ||
  (decide (Addr.Q_HIST 0 0 ≤ a ∧ a < Addr.Q_HIST 0 0 + 0x10000) && mine 0 ((a - Addr.Q_HIST 0 0) / 0x40)) ||
  (decide (Addr.SH_RATE 0 ≤ a ∧ a < Addr.POL_CFG 0) && mine 1 ((a - Addr.SH_RATE 0) / 0x20)) ||
  (decide (Addr.POL_CFG 0 ≤ a ∧ a < Addr.POL_CFG 0 + 0x200000) && mine 2 ((a - Addr.POL_CFG 0) / 0x20)) ||
  (decide (Addr.POL_GREEN 0 ≤ a ∧ a < Addr.POL_GREEN 0 + 0x200000) && mine 2 ((a - Addr.POL_GREEN 0) / 0x20))

/-! A destroyed tenant (R448) -/

/-- Step 2 of R448: the egress fence of a tenant closes. -/
def closeFence (t : Nat) (s : State) : State := (s.setReg (Addr.TPORTS t) 0).setReg (Addr.TCLASSES t) 0

/-- Step 5 of R448: the tenant's queued packets are dropped into FLUSH_DROP. -/
def flushTenant (t : Nat) (s : State) : State :=
  (s.tm.queues.map Prod.fst).foldl (fun s q =>
    flushWhere q (fun f => (s.tmOwner 0 q).1 != t && !((s.packet f.pkt).elim false (fun p => p.tenant == t))) s) s

end Sys2Proof.Machine
end

