-- ==== Sys2Proof/Machine/Derived.lean ====
section
/-!
DEFINITION. The registers whose value the device derives from its state as they are read: occupancies, drains, reservations,
pools, the views of the program and rule banks, and the time of day.
-/
namespace Sys2Proof.Machine

/-- OCC_PKTS of a packet FIFO (R81, R84): committed packets not yet consumed. An egress FIFO counts the frames queued for its
port, a fabric receive FIFO the packets held that came by its port and channel, beside packets committed there as such. -/
def State.occPkts (s : State) (f : Nat) : Nat :=
  match fifoKind f with
  | none => 0
  | some 1 => (s.egressFrames (f - 0x40)).length + (s.fifo f).pkts.length
  | some 3 => (s.rxHeld ((f - 0x880) / 4) ((f - 0x880) % 4)).length + (s.fifo f).pkts.length
  | some _ => (s.fifo f).pkts.length

/-- The words a packet FIFO holds, committed or not (R81). -/
def State.occWords (s : State) (f : Nat) : Nat :=
  match fifoKind f with
  | none => 0
  | some 0 => (s.fifo f).wordsHeld + s.arrivingWords f
  | some 1 => s.egressWords (f - 0x40)
  | some 3 => s.rxWords ((f - 0x880) / 4) ((f - 0x880) % 4)
  | some _ => (s.fifo f).wordsHeld

/-- TS_DATA_i of a time-stamp FIFO (R84): bits of its oldest record. -/
def State.tsData (s : State) (f i : Nat) : Nat := bits (((s.fifo f).pkts.head?.bind (fun p => p.data.head?)).elim 0 BitVec.toNat) (32 * i) 32

/-- A cell's packets whose verdicts are held (INLINE_Q [14:8]): those its launches gave, at step 7 (R203). -/
def State.verdictsHeld (s : State) (c : Nat) : Nat :=
  (s.ports.packets.filter (fun (q : Pkt) => (q.at_ == .hold || q.at_ == .recoat) && q.launched.contains c)).length

/-- Derived registers of the identity, beat, integrity, observation and security blocks. -/
def derivedGlobal (s : State) (a : Nat) : Option Nat :=
  if a = Addr.SESSION_STATUS then some (s.sessions.length + s.ownerSessions * 256)
  else if a = Addr.BEAT_RATE_NOW then some s.rateNow
  else if a = Addr.ZC_LAG then some (unsigned 32 s.lagNow)
  else if a = Addr.BEAT_STATUS then some (putBits (s.reg a) 1 1 (b2n s.lagging))
  else if a = Addr.GROUP_ALIGN then some s.groupAlign
  else if a = Addr.TIME_SEC then some s.sec
  else if a = Addr.TIME_NS then some s.ns
  else if a = Addr.SWATCHES_ARMED then some (((s.jobs.filter Job.live).map (fun j => j.swatches.length)).foldl (· + ·) 0)
  else if a = Addr.HANDSHAKES then some s.secure.handshakes.length
  else if a = Addr.TEST_STATUS then
    some (s.integ.testing.getD 0 + b2n s.integ.testing.isSome * 256 + b2n (!s.integ.kernels.isEmpty) * 512 + s.integ.kernels.length * 65536)
  else
    match (List.range 4).find? (fun d => a = Addr.DLINK_INLINE_RESV d ∨ a = Addr.DLINK_BULK_AVAIL d) with
    | none => none
    | some d =>
      let there := s.linkReserved d true
      let back := s.linkReserved d false
      some (if a = Addr.DLINK_INLINE_RESV d then there + back * 65536 else (8000 - there) + (8000 - back) * 65536)

/-- Derived registers of packet FIFO `f` (R84), by offset. -/
def derivedFifo (s : State) (f o : Nat) : Option Nat :=
  if o = 4 then some (s.occPkts f)
  else if 0x40 ≤ o ∧ o < 0x60 then some (if fifoKind f = some 5 then s.tsData f ((o - 0x40) / 4) else 0)
  else none

/-- Derived registers of header-core group `g` (R108), by offset. -/
def derivedGroup (s : State) (g o : Nat) : Option Nat :=
  if o = 0x1C then some ((s.hc.cores.filter (fun (c : Core) => c.n / 128 == g)).length)
  else if o = 8 then some (putBits (s.reg (Addr.PROG_STATUS g)) 4 8 (s.progDrain g))
  else if 0x4000 ≤ o ∧ o < 0x8000 then some (s.progWord g (s.activeBank g) ((o - 0x4000) / 4))
  else if 0x8000 ≤ o ∧ o < 0xC000 then some (s.progWord g (s.stageBank g) ((o - 0x8000) / 4))
  else if 0xC000 ≤ o ∧ o < 0xC800 then some (s.dispWord g (s.activeBank g) ((o - 0xC000) / 4))
  else if 0xC800 ≤ o ∧ o < 0xD000 then some (s.dispWord g (s.stageBank g) ((o - 0xC800) / 4))
  else none

/-- Derived registers of match stage `n` and of the common registers (R139, R140), by offset. -/
def derivedStage (s : State) (n o : Nat) : Option Nat :=
  if o = 0x40 then some (s.missAt n s.ruleBank)
  else if o = 0x44 then some (s.missAt n s.stagingBank)
  else if 0x400 ≤ o ∧ o < 0x480 then some (s.keyselAt n s.ruleBank ((o - 0x400) / 4))
  else if 0x500 ≤ o ∧ o < 0x580 then some (s.keyselAt n s.stagingBank ((o - 0x500) / 4))
  else if n ≠ 0 then none
  else if o = 0x80010 then some (s.inflight 0)
  else if o = 0x80014 then some (s.inflight 1)
  else if o = 0x80018 then some s.ruleDrain
  else if 0x80030 ≤ o ∧ o < 0x8003C then some (s.hashSelAt s.stagingBank ((o - 0x80030) / 4))
  else if 0x80040 ≤ o ∧ o < 0x8004C then some (s.hashSelAt s.ruleBank ((o - 0x80040) / 4))
  else if o = 0x80078 then some s.mt.frags.length
  else if o = 0x8007C then some s.mt.fragWait.length
  else none

/-- Bandwidth an HBM controller has left for bulk copies (R31, R362): 1,640 GB/s less the reservation, and 3 % less while its
stack is above 85 °C (R416). -/
def State.bulkAvail (s : State) (m : Nat) : Nat :=
  let hot := decide ((85 : Int) < signed 8 (s.field (Addr.HBM_STATUS m) 8 8))
  (if hot then 1640 * 97 / 100 else 1640) - s.hbmReserved

/-- A mask of a cluster's cells in a pool (R225). -/
def State.poolMask (s : State) (k st : Nat) : Nat := ofBits ((List.range 16).filter (fun i => s.cellState (16 * k + i) == st))

/-- Derived registers of a cluster (R225), by offset. -/
def derivedCluster (s : State) (k o : Nat) : Option Nat :=
  if o = 0x8 then some (s.poolMask k 1)
  else if o = 0xC then some (s.poolMask k 2)
  else if o = 0x10 then some (s.poolMask k 3)
  else if o = 0x28 then some ((s.jobs.find? (fun j => j.live && j.cells.any (fun c => c / 16 == k))).elim 0 Job.id)
  else none

/-- Derived registers of a cell (R224), by offset. -/
def derivedCell (s : State) (c o : Nat) : Option Nat :=
  if Addr.INLINE_Q 0 - Addr.CELL_ID 0 = o then some ((s.cellx c).inQ.length % 128 + s.verdictsHeld c % 128 * 256)
  else if 0x220 ≤ o ∧ o < 0x240 then some (rdStoreData c ((o - 0x220) / 4) s).1
  else none

/-- The value of a derived register by the address it is kept under; none where the register file holds it. -/
def State.derived (s : State) (a : Nat) : Option Nat :=
  match blockIn a blocks with
  | some (.fifo, f) => derivedFifo s f (a % 0x100)
  | some (.headerCore, g) => derivedGroup s g (a % 0x10000)
  | some (.stage, n) => derivedStage s n (a % 0x100000)
  | some (.tm, _) => tmDerived s a
  | some (.hbm, m) => if a = Addr.INLINE_RESV m then some (s.hbmReserved) else if a = Addr.BULK_AVAIL m then some (s.bulkAvail m) else none
  | some (.cluster, k) => derivedCluster s k (a % 0x10000)
  | some (.cell, c) => derivedCell s c (a % 0x100000)
  | some (.identity, _) | some (.beat, _) | some (.integrity, _) | some (.observe, _) | some (.security, _) => derivedGlobal s a
  | _ => none

/-- The value of the register kept at address `a` as it would be read: derived, or as the register file holds it. -/
def State.value (s : State) (a : Nat) : Nat := (s.derived a).getD (s.reg a)

/-- Addresses of `n` registers from `a`, `step` apart. -/
def addrs (a step n : Nat) : List Nat := (List.range n).map (fun i => a + step * i)

/-- The derived RO and RC registers, which a FREEZE copies beside the register file (R424). -/
def derivedAddrs : List Nat :=
  [Addr.SESSION_STATUS, Addr.BEAT_RATE_NOW, Addr.ZC_LAG, Addr.GROUP_ALIGN, Addr.TIME_SEC, Addr.TIME_NS, Addr.SWATCHES_ARMED, Addr.HANDSHAKES, Addr.TEST_STATUS] ++
  (List.range 4).flatMap (fun d => [Addr.DLINK_INLINE_RESV d, Addr.DLINK_BULK_AVAIL d]) ++
  (List.range 0x900).flatMap (fun f => [Addr.OCC_PKTS f, Addr.OCC_WORDS f] ++ addrs (Addr.TS_DATA f 0) 4 8) ++
  (List.range 16).flatMap (fun g => [Addr.CORES_BUSY g, Addr.PROG_STATUS g] ++ addrs (Addr.PROG_ACTIVE g 0) 4 4096 ++ addrs (Addr.DISP_ACTIVE g 0) 4 512) ++
  (List.range 12).flatMap (fun n => Addr.MISS_TMPL_ACTIVE n :: addrs (Addr.KEYSEL_ACTIVE n 0) 4 32) ++
  [0x480010, 0x480014, 0x480018, 0x480040, 0x480044, 0x480048, 0x480078, 0x48007C, Addr.NO_QUEUE_DROPS_SUM] ++
  (List.range 64).map Addr.PAUSED ++
  (List.range 1024).flatMap (fun q => [Addr.OCC_PAGES q, Addr.Q_STATUS q]) ++
  (List.range 4096).map Addr.SH_TOKENS ++
  (List.range 65536).flatMap (fun p => [Addr.TC p, Addr.TE_TP p]) ++
  (List.range 16).flatMap (fun m => [Addr.INLINE_RESV m, Addr.BULK_AVAIL m]) ++
  (List.range 16).flatMap (fun k => [Addr.POOL_INLINE k, Addr.POOL_BULK k, Addr.POOL_FENCED k, Addr.BULK_JOB k]) ++
  (List.range 256).flatMap (fun c => Addr.INLINE_Q c :: addrs (Addr.STORE_DATA c 0) 4 8)

/-- Whether a register of this access code is copied by a FREEZE (R424). -/
def Acc.shadowed (a : Acc) : Bool := a == .ro || a == .rc

/-- Whether the register kept at address `a` is RO or RC. -/
def isShadowed (a : Nat) : Bool := (locate a).elim false (fun l => l.row.acc.shadowed)

/-- The value a FREEZE copies: OCC_WORDS as the occupancy now, every other register as it would be read. -/
def State.frozenValue (s : State) (a : Nat) : Nat :=
  if a % 0x100 = 8 ∧ (blockIn a blocks).elim false (fun b => b.1 == .fifo) then s.occWords (a / 0x100 % 4096) else s.value a

/-- Every RO and RC register is copied into its shadow (R424). -/
def captureShadow (s : State) : State :=
  let put (tab : Tab W64) (a : Nat) : Tab W64 :=
    if isShadowed a then tabSet (BitVec.ofNat 64 (regReset a)) a (BitVec.ofNat 64 (s.frozenValue a)) tab else tab
  { s with shadow := derivedAddrs.foldl put (s.regs.filter (fun r => isShadowed r.1)) }

/-- The shadow of the register kept at address `a`. -/
def State.shadowOf (s : State) (a : Nat) : Nat := (tabGet (BitVec.ofNat 64 (regReset a)) a s.shadow).toNat

end Sys2Proof.Machine
end

