-- ==== Sys2Proof/Machine/Integrity.lean ====
section
/-!
DEFINITION. Field tests (R390 to R393) and HBM scrubbing (R368). Log 52 names what the manual leaves open here.
-/
namespace Sys2Proof.Machine

/-! Test packs (R392) -/

/-- The field MAGIC of a test pack. -/
def testPackMagic : Nat := 0x42565450

/-- A test pack's header and kernels, none where it is malformed. -/
def readTestPack (p : Bytes) (len : Nat) : Option (Nat × List (Nat × Nat)) :=
  let n := le p 12 2
  if len < 64 + sigBytes ∨ le p 0 4 ≠ testPackMagic ∨ n = 0 ∨ 1024 < n ∨ !zerosAt p 24 40 ∨ le p 16 8 + sigBytes ≠ len then none
  else match Config.testKernels n (slice p 64 (le p 16 8 - 64)) with
    | some ks => if ks.length = n ∧ ks.all (fun k => decide (k.2 ≤ 65536)) then some (le p 4 8, ks) else none
    | none => none

/-- TEST_PACK_LOAD (R392): between two tests at once, else when the test running ends. -/
def cmdTestPackLoad : CmdFn := fun e p s =>
  let off := be p 0 8
  let len := be p 8 4
  if !e.owner then refuse St.NOT_PERMITTED s
  else if p.length ≠ 12 then refuse St.BAD_PARAM s
  else if 16777216 < len then refuse St.NO_FIT s
  else if !s.inWindows owner off len false then refuse St.NOT_PERMITTED s
  else
    let b := s.readBytes owner off len
    match readTestPack b len with
    | none => refuse St.BAD_PARAM s
    | some pack =>
      let body := le b 16 8
      if !verifyPair (Config.vendorKey 1) (b.take body) (b.drop body) then refuse St.SIG_FAIL s
      else if s.field Addr.FW_VERSION 8 16 < le b 14 2 then refuse St.BAD_PARAM s
      else if s.integ.testing.isSome then (ok, countHbm false off len { s with integ.nextPack := some pack })
      else (ok, takePack pack (countHbm false off len s))

/-! Tests (R390, R391, R393) -/

/-- Whether a cell is in a lull on a beat on which a test may launch (R390): UNCONFIGURED, or BULK with no job holding it. -/
def State.inLull (s : State) (c : Nat) : Bool :=
  (s.cellState c == 0 || (s.cellState c == 2 && (s.jobOfCell c).isNone)) && !s.flag (Addr.CELL_STATE c) 5 && s.bulkLaunches (c / 16)

/-- The eligible cell with the oldest last test, the lowest on a tie (R390). -/
def State.oldestTested (s : State) : Option Nat :=
  ((List.range 256).filter s.inLull).foldl (fun b c =>
    match b with
    | none => some c
    | some d => if (s.cellx c).testAt < (s.cellx d).testAt then some c else b) none

/-- Whether TEST_RUN may name a cell (R393). -/
def State.runnable (s : State) (c : Nat) : Bool :=
  s.cellState c != 1 && (s.jobOfCell c).isNone && !s.flag (Addr.CELL_STATE c) 5

/-- The test pack starts on a cell. -/
def startTest (c : Nat) (s : State) : State :=
  ((s.updCell c (fun x => { x with kernel := 0 })).setFlag (Addr.CELL_STATE c) 6 true : State) |> fun s => { s with integ.testing := some c, integ.lastStart := some s.now }

/-- FIELD_TEST_START (R390, R393), on a beat on which the cell's bulk domain launches: the next cell that TEST_RUN names, at once; else, every TEST_INTERVAL while FIELD_EN is 1,
the cell with the oldest test. -/
def execFieldTestStart (t : Nat) (s : State) : Host.Outcome State Fault Refusal :=
  .next (if !s.limik ∨ s.integ.testing.isSome ∨ s.integ.kernels.isEmpty then s
    else match s.integ.queue with
      | c :: rest =>
        let s1 := { advance t s with integ.queue := rest }
        if !s.bulkLaunches (c / 16) then s else if s1.runnable c then startTest c s1 else s1
      | [] =>
        let due := s.integ.lastStart.all (fun l => decide (l + secs (s.reg Addr.TEST_INTERVAL) ≤ t))
        if !s.flag Addr.TEST_CTRL 0 ∨ !due then s
        else match s.oldestTested with
          | some c => startTest c (advance t s)
          | none => s)

/-- A test ends with a result (R391, R398): 1 passed, 2 failed at its present kernel. -/
def endTest (c result : Nat) (s : State) : State :=
  let s1 := { s with integ.testing := none }
  let s2 := (s1.updCell c (fun x => { x with
    testResult := result, testAt := s.now, testSec := s.sec, testNs := s.ns
    lastPass := if result = 1 then s.now else x.lastPass
    staleAt := if result = 1 then none else x.staleAt
    qualified := result == 1 })).setFlag (Addr.CELL_STATE c) 6 false
  let s3 := s2.bump32 (if result = 1 then Addr.TEST_PASSES else Addr.TEST_FAILS)
  let s4 := if result = 1 then s3.setFlag (Addr.STALE (c / 32)) (c % 32) false else s3
  s4.raiseEvent evTestResult owner [c, result, s.reg Addr.PACK_ID, (s.cellx c).kernel]

/-- TEST_KERNEL_DONE (R391): the kernel under way ends with the CRC-32C of its output, whether it raised a residue flag or a
path mismatch, and the beats it took. -/
def execTestKernelDone (t c : Nat) (crc : W32) (flagged : Bool) (beats : Nat) (s : State) : Host.Outcome State Fault Refusal :=
  .next (if !s.limik ∨ s.integ.testing ≠ some c then s
    else
      let s1 := advance t s
      let i := (s1.cellx c).kernel
      let k := s1.integ.kernels.getD i (0, 0)
      if crc.toNat = k.1 ∧ !flagged ∧ beats ≤ k.2 then
        (if i + 1 < s1.integ.kernels.length then s1.updCell c (fun x => { x with kernel := i + 1 })
         else applyNextPack (endTest c 1 s1))
      else
        let f : Failure := { kind := 3, cell := c, step := i, crc := (k.1, crc.toNat) }
        let s2 := endTest c 2 s1
        applyNextPack (if s2.cellState c = 3 then writeSignature f s2 else permanent f s2))

/-- A day in picoseconds. -/
def day : Nat := secs 86400

/-- Whether the last passed test of a cell is older than TEST_MAX_AGE at an instant (R390). -/
def State.testAged (s : State) (t c : Nat) : Bool :=
  let x := s.cellx c
  x.testResult != 0 && x.lastPass != 0 && decide (x.lastPass + secs (3600 * s.reg Addr.TEST_MAX_AGE) < t)

/-- TEST_STALE_CHECK (R390, R401): STALE shows just the cells whose last passed test is older than TEST_MAX_AGE, and each raises
EV_TEST_STALE once a day. -/
def execTestStaleCheck (t : Nat) (s : State) : Host.Outcome State Fault Refusal :=
  .next (if !s.limik then s
    else
      let s1 := advance t s
      (List.range 256).foldl (fun s c =>
        let aged := s1.testAged t c
        let s2 := s.setFlag (Addr.STALE (c / 32)) (c % 32) aged
        if !aged ∨ !(s.cellx c).staleAt.all (fun a => decide (a + day ≤ t)) then s2
        else (s2.updCell c (fun x => { x with staleAt := some t })).raiseEvent evTestStale owner [c]) s1)

/-- TEST_RUN (R393). -/
def cmdTestRun : CmdFn := fun e p s =>
  if !e.owner then refuse St.NOT_PERMITTED s
  else if p.length ≠ 32 ∨ s.integ.kernels.isEmpty then refuse St.BAD_PARAM s
  else if !(cellMask p 0).all s.runnable then refuse St.BUSY s
  else (st St.ACCEPTED, { s with integ.queue := s.integ.queue ++ cellMask p 0 })

/-! Scrubbing (R368) -/

/-- Bytes of a stack (R362). -/
def stackBytes : Nat := 51539607552

/-- A controller that has read its last word ends its pass; the pass of the module ends with the sixteenth (R401). -/
def noteScrubbed (m : Nat) (s : State) : State :=
  let l := (m :: s.integ.scrubbed).eraseDups
  if l.length < 16 then { s with integ.scrubbed := l }
  else { s with integ.scrubbed := [] }.setReg Addr.SCRUB_PASSES ((s.reg Addr.SCRUB_PASSES + 1) % 65536)

/-- SCRUB_READ (R368, R400): one word of a stack is read: 0 it is good, 1 corrected and written back, 2 uncorrectable. A word
already held in LAST_UNCORR raises no second event. -/
def execScrubRead (t m offset error : Nat) (s : State) : Host.Outcome State Fault Refusal :=
  .next (if !s.on ∨ 16 ≤ m ∨ stackBytes ≤ offset ∨ offset % 32 ≠ 0 ∨ 2 < error ∨ !s.flag (Addr.HBM_STATUS m) 0 then s
    else
      let s1 := advance t s
      let known := s1.reg (Addr.C256_UNCORR m) != 0 && s1.reg (Addr.LAST_UNCORR m) == offset
      let s2 := if error = 1 then s1.bump32 (Addr.HBM_C256_CORR m)
        else if error = 2 then
          (let s2 := (s1.bump32 (Addr.C256_UNCORR m)).setReg (Addr.LAST_UNCORR m) offset
           if known then s2 else s2.raiseEvent evHbmUncorrectable owner [m, offset])
        else s1
      if offset + 32 = stackBytes then noteScrubbed m s2 else s2)

end Sys2Proof.Machine
end

