-- ==== Sys2Proof/Machine/Observe.lean ====
section
/-!
DEFINITION. Counters, stipples, swatches and hang analysis (R422 to R443): FREEZE and its shadows, trace sessions and their
records, dumps, swatches and wait-for graphs. Log 51 names what the manual leaves open here.
-/
namespace Sys2Proof.Machine

/-! FREEZE (R424, R425) -/

/-- FREEZE (R424): DEVICE scope arms the capture; GROUP scope is logged by the manager (R425). -/
def cmdFreeze : CmdFn := fun e p s =>
  let n := be p 0 8
  if !e.owner then refuse St.NOT_PERMITTED s
  else if p.length ≠ 12 ∨ 1 < byteAt p 8 ∨ !zerosAt p 9 3 ∨ n < s.zc + 8000 then refuse St.BAD_PARAM s
  else if s.obs.freezeAt.isSome ∨ s.group.pendingLog.any (fun r => r.kind == 6) then refuse St.BUSY s
  else if byteAt p 8 = 1 ∧ !s.isManager then refuse St.NOT_PERMITTED s
  else
    let s1 := { s with obs.freezeBy := (e.session, e.tag, e.tenant) }
    if byteAt p 8 = 1 then (st St.ACCEPTED, appendLog 6 [n] s1)
    else (st St.ACCEPTED, { ((s1.setFlag Addr.FREEZE_STATUS 1 true).setFlag Addr.FREEZE_STATUS 2 false) with obs.freezeAt := some (n, false) })

/-- FREEZE_CAPTURE (R424, R425): on root beat N, ahead of what that beat does, every RO and RC register is copied. The event
carries the beat, whether the capture is unaligned and by how much, and on the manager the members not reached. -/
def execFreezeCapture (t : Nat) (s : State) : Host.Outcome State Fault Refusal :=
  .next (match s.obs.freezeAt with
    | none => s
    | some (n, group) =>
      if !s.on ∨ s.zc + 1 < n then s
      else
        let s1 := advance t s
        let lag := unsigned 32 s1.lagNow
        let s2 := ((captureShadow s1).bump32 Addr.FREEZE_ID).setReg Addr.FREEZE_ZC n
        let s3 := (s2.setReg Addr.FREEZE_SEC s1.sec).setReg Addr.FREEZE_NS s1.ns
        let s4 := s3.setReg Addr.FREEZE_STATUS (1 + b2n group * 4 + b2n (group && lag != 0) * 8)
        let missing := if group && s1.isManager then s1.group.order.filter (fun m => !s1.group.live.contains m) else []
        let by_ := s1.obs.freezeBy
        ({ s4 with obs.freezeAt := none, obs.freezeBy := (0, 0, 0) }).raiseFor evFreezeDone owner by_.1 by_.2.1 0
          ([s4.reg Addr.FREEZE_ID, n, b2n (group && lag != 0), if group then lag else 0] ++ missing))

/-! Stipples (R427, R428) -/

/-- The sources of a die's ring in rank order: its cells, then the cores of its header-core groups (R427). -/
def TraceSession.sources (x : TraceSession) (d : Nat) : List Nat :=
  x.cells.filter (fun c => c / 64 == d) ++ (x.groups.filter (fun g => g % 4 == d)).flatMap (fun g => (List.range 128).map (fun i => 256 + 128 * g + i))

/-- The ring of a source: the die of a cell, or of a core's group (R427). -/
def sourceDie (source : Nat) : Nat := if source < 256 then source / 64 else (source - 256) / 128 % 4

/-- Whether source `i` of `n` is sampled on beat `z` at sampling exponent `sp` (R427). -/
def sampledOn (sp i n z : Nat) : Bool := ((z : Int) - ((i * 2 ^ sp / n : Nat) : Int)) % ((2 ^ sp : Nat) : Int) == 0

/-- Whether the present beat of a cell is calmed (R45). -/
def State.cellCalmed (s : State) (c : Nat) : Bool :=
  let k := c / 16
  match s.cellState c with
  | 1 => beatCalmed (tabGet 0 k s.beat.kInline) (s.inlineCalm k)
  | 2 => beatCalmed (tabGet 0 k s.beat.kBulk) s.beat.calmBulk
  | _ => false

/-- The step header a cell's sequencer stands at: its oldest open step, or the next one. -/
def CellX.header (x : CellX) : Option StepHeader :=
  x.prog.bind (fun p => p.steps[((x.opens.head?.map OpenStep.index).getD x.next)]?)

/-- The stall state of a cell, the first of R428 that holds. WAIT_COMMIT_READ and WAIT_BANK last less than the rows of this
model resolve (log 51). -/
def State.cellStall (s : State) (c : Nat) : Nat :=
  let x := s.cellx c
  let k := c / 16
  let next := x.prog.bind (fun p => p.steps[x.next]?)
  if s.halted k then 1
  else if x.opens.any (fun o => o.suspect != 0) then 2
  else if s.cellCalmed c then 3
  else if s.cellState c = 1 then (if x.inQ.isEmpty then 10 else 0)
  else if s.integ.testing = some c then 11
  else match next with
    | none => if x.opens.isEmpty then 12 else 0
    | some h =>
      if !x.opens.isEmpty then (if x.opens.any OpenStep.replay ∧ !x.again.isEmpty then 9 else 0)
      else if s.zcBulk k < h.launch then 4
      else if h.waits.any (fun w => decide (s.reg (Addr.ARRIVE c w.1) < w.2)) then 5
      else if 16384 < s.reg (Addr.COMMIT_OCC c) + h.resultWords then 6
      else 0

/-- The stall state of a header core (R428). -/
def State.coreStall (s : State) (n : Nat) : Nat :=
  match s.core n with
  | none => 4
  | some c =>
    if !c.finished then 0
    else if (tabGet [] (n / 128) s.hc.order).head? ≠ some n then 2
    else if s.fifoFits (0x80 + n) 5 then 0 else 3

/-- The record of a source on the present beat (R429). -/
def State.stipple (s : State) (source : Nat) : W256 :=
  if source < 256 then
    let x := s.cellx source
    let z := s.cellZc source
    let h := x.header
    traceRecord 1 s.stamp80 z.1 z.2
      (source + (h.elim 0 StepHeader.opStart) % 65536 * 2 ^ 8 + s.cellStall source * 2 ^ 24 + (h.elim 0 StepHeader.step) % 2 ^ 64 * 2 ^ 28 +
        s.field (Addr.PROG_BANK source) 0 1 * 2 ^ 92)
  else
    let n := source - 256
    let c := s.core n
    let lport := (c.bind (fun c => s.packet c.pkt)).elim 0 (fun q => q.desc.lport)
    traceRecord 2 s.stamp80 s.zc regionRoot
      (n + (c.elim 0 Core.pc) % 4096 * 2 ^ 11 + s.coreStall n * 2 ^ 23 + lport % 64 * 2 ^ 27 + (c.elim 0 Core.steps) % 2048 * 2 ^ 33 + (c.elim 0 Core.bank) * 2 ^ 44)

/-- STIPPLE_SAMPLE (R427): on its sampling beat a source of the open session writes a record. Sources below 256 are cells,
256 + n is header core n. A cell that has left a tenant's session writes none (R430). -/
def execStippleSample (t source : Nat) (s : State) : Host.Outcome State Fault Refusal :=
  .next (match s.obs.trace with
    | none => s
    | some x =>
      let d := sourceDie source
      let l := x.sources d
      if !s.on ∨ !l.contains source ∨ !sampledOn (s.reg Addr.TRACE_SP) (l.idxOf source) l.length s.zc ∨
          (x.tenant ≠ owner ∧ (s.cellTenant source ≠ x.tenant ∨ x.left.contains source)) then s
      else
        let s1 := advance t s
        writeRecord d (s1.stipple source) s1)

/-! Triggers (R433) -/

/-- The causes met and armed: those noted, and BEAT once ZC_ROOT has reached the named beat. -/
def State.causesMet (s : State) (x : TraceSession) : Nat := (x.met ||| (if x.beat ≤ s.zc then 8 else 0)) &&& x.causes

/-- The lowest cause met (R443). -/
def lowestCause (m : Nat) : Option Nat := ((setBits m 5).head?).map (· + 1)

/-- TRACE_TRIGGER (R433): a session in TRIGGER mode fires on the first armed cause met; with GROUP the trigger goes to every
member. -/
def execTraceTrigger (t cause origin detail : Nat) (s : State) : Host.Outcome State Fault Refusal :=
  .next (match s.obs.trace with
    | none => s
    | some x =>
      if !s.on ∨ s.traceMode ≠ 2 ∨ !s.flag Addr.TRACE_CTRL 2 ∨ s.flag Addr.TRACE_CTRL 3 ∨ origin ≠ s.device ∨ lowestCause (s.causesMet x) ≠ some cause then s
      else
        let s1 := advance t s
        let s2 := fireTrigger cause origin detail s1.stamp80 s1.zc s1
        if x.group ∧ s2.joined then sendCtrl .trigger allMembers [cause, origin, detail, s1.stamp80, s1.zc] s2 else s2)

/-! Reading a ring (R432, R441) -/

/-- TRACE_READ (R432, R441): records of a ring from a sequence index; what was overwritten since arming is presented as one
GAP record first. -/
def cmdTraceRead : CmdFn := fun e p s =>
  let d := byteAt p 0
  let first := be p 4 8
  let n := be p 12 4
  if p.length ≠ 16 ∨ 3 < d ∨ !zerosAt p 1 3 ∨ n = 0 ∨ 2048 < n then refuse St.BAD_PARAM s
  else if !e.owner ∧ !s.obs.trace.any (fun x => x.tenant == e.tenant) then refuse St.NOT_PERMITTED s
  else
    let r := s.ring d
    let gap := if r.excess ≠ 0 ∧ first < r.first then [traceRecord 6 (r.overAt % 2 ^ 80) (r.overAt / 2 ^ 80) 0 (r.excess % 2 ^ 32)] else []
    let from_ := max first r.first
    let recs := (r.recs.drop (from_ - r.first)).take (n - gap.length)
    (⟨St.OK, toBE 8 (from_ + recs.length) ++ (gap ++ recs).flatMap (fun w => toLE 32 w.toNat)⟩, s)

/-! Swatches and dumps (R435 to R437) -/

/-- SWATCH_SET (R435, R436). -/
def cmdSwatchSet : CmdFn := fun e p s =>
  let i := byteAt p 10
  if p.length ≠ 40 ∨ 15 < i ∨ 1 < byteAt p 11 then refuse St.BAD_PARAM s
  else match jobNamed e p s with
    | none => refuse St.BAD_PARAM s
    | some j =>
      if !j.live then refuse St.BAD_PARAM s
      else if byteAt p 11 = 1 then
        (if j.swatches.any (fun w => w.index == i) then
          (ok, s.updJob j.tenant j.id (fun j => { j with swatches := j.swatches.filter (fun w => w.index != i) }))
        else refuse St.BAD_PARAM s)
      else if (j.imageRegion (be p 8 2)).isNone ∨ be p 36 4 = 0 ∨ be p 28 8 % 32 ≠ 0 then refuse St.BAD_PARAM s
      else if !s.inWindows j.tenant (be p 28 8) (32 + 64 * be p 36 4) true then refuse St.NOT_PERMITTED s
      else
        let w : Swatch := { index := i, region := be p 8 2, lo := be p 12 4, hi := be p 16 4, nanMax := be p 20 4, sumsqMax := be p 24 4,
                            base := be p 28 8, entries := be p 36 4 }
        (ok, s.updJob j.tenant j.id (fun j => { j with swatches := sortBy (fun a b => decide (a.index ≤ b.index)) (w :: j.swatches.filter (fun y => y.index != i)) }))

/-- Bytes of a region with its screed over all ranks. -/
def Job.regionBytes (j : Job) (r : JobRegion) : Nat := j.cells.length * (r.bytes + r.screedBytes)

/-- DUMP_ARM (R437): arms a dump under the least free number, or disarms the one armed for the same region and trigger. -/
def cmdDumpArm : CmdFn := fun e p s =>
  let flags := byteAt p 10
  let by_ := if bitAt flags 1 then some (byteAt p 11) else none
  if p.length ≠ 32 ∨ 3 < flags ∨ 15 < byteAt p 11 then refuse St.BAD_PARAM s
  else match jobNamed e p s with
    | none => refuse St.BAD_PARAM s
    | some j =>
      match j.imageRegion (be p 8 2) with
      | none => refuse St.BAD_PARAM s
      | some r =>
        if !j.live then refuse St.BAD_PARAM s
        else if bitAt flags 0 then
          match j.dumps.find? (fun d => d.region == be p 8 2 && d.bySwatch == by_ && (by_.isSome || d.step == be p 12 8) && d.fired.isNone) with
          | none => refuse St.BAD_PARAM s
          | some d => (⟨St.OK, toBE 1 d.num⟩, s.updJob j.tenant j.id (fun j => { j with dumps := j.dumps.filter (fun x => x.num != d.num) }))
        else if be p 28 4 < j.regionBytes r then refuse St.BAD_PARAM s
        else if !s.inWindows j.tenant (be p 20 8) (be p 28 4) true then refuse St.NOT_PERMITTED s
        else match (List.range 4).find? (fun i => !j.dumps.any (fun d => d.num == i)) with
          | none => refuse St.BUSY s
          | some i =>
            let d : Dump := { num := i, region := be p 8 2, bySwatch := by_, step := be p 12 8, dst := be p 20 8, len := be p 28 4, session := e.session, tag := e.tag }
            (⟨St.OK, toBE 1 i⟩, s.updJob j.tenant j.id (fun j => { j with dumps := j.dumps ++ [d] }))

/-- DUMP_COPY_DONE (R437): the copy of a fired dump ends; with a fault cause of R219 the dump fails. A dump whose job is being
restarted stays armed (R443). -/
def execDumpCopyDone (t tenant id num fault : Nat) (s : State) : Host.Outcome State Fault Refusal :=
  .next (match s.job tenant id with
    | none => s
    | some j =>
      match j.dumps.find? (fun d => d.num == num && d.fired.isSome) with
      | none => s
      | some d =>
        let s1 := advance t s
        let cause := if fault ≠ 0 then fault else if !s1.inWindows tenant d.dst d.len true then 2 else 0
        let restarting := !j.live || j.state == 4
        if cause ≠ 0 ∨ restarting then
          let left := if restarting then j.dumps.map (fun (x : Dump) => if x.num = num then { x with fired := none, content := [] } else x)
            else j.dumps.filter (fun x => x.num != num)
          let s2 := s1.updJob tenant id (fun j => { j with dumps := left })
          s2.raiseFor evDumpFailed tenant d.session d.tag (causeStatus cause) [id, num, d.region, d.fired.getD 0, cause]
        else
          let s2 := s1.updJob tenant id (fun j => { j with dumps := j.dumps.filter (fun x => x.num != num) })
          (s2.storeBytes tenant d.dst d.content).raiseFor evDumpDone tenant d.session d.tag 0 [id, num, d.region, d.fired.getD 0])

/-! Wait-for graphs (R438 to R440) -/

/-- A node of a wait-for graph (R439): KIND, tenant (0xFF none), device, identifier, and step or job. -/
structure WaitNode where
  kind : Nat
  tenant : Nat
  device : Nat
  ident : Nat
  work : Nat
deriving DecidableEq, Repr

/-- An edge of a wait-for graph (R438, R439). -/
structure WaitEdge where
  src : WaitNode
  dst : WaitNode
  kind : Nat
  resource : Nat
deriving DecidableEq, Repr

/-- The node of a cell at its step. -/
def State.cellNode (s : State) (c : Nat) : WaitNode :=
  ⟨1, if s.cellState c = 0 then 0xFF else s.cellTenant c, s.device, c, ((s.cellx c).header).elim 0 StepHeader.step⟩

/-- The node of a copy: launched under its XFER number, queued under its queue and descriptor number. -/
def State.flightNode (s : State) (f : Flight) : WaitNode := ⟨2, f.tenant, s.device, f.id, f.job⟩
def State.queuedNode (s : State) (j : Job) (q slot : Nat) : WaitNode := ⟨2, j.tenant, s.device, 2 ^ 16 + q * 2 ^ 20 + slot % 65536, j.id⟩

/-- Whether a copy will increment counter `n` of cell `c` when it completes (R218). -/
def feeds (c n : Nat) (d : CopyDesc) : Bool :=
  CopyFlag.notify d && CopyFlag.ctr d == n && cellOf (spaceOf d.dst) (offsetOf d.dst) == some c

/-- The node of a software queue, at one of its descriptors. -/
def State.softNode (s : State) (k : Nat) (x : SoftCopy) : WaitNode := ⟨3, x.tenant, s.device, k, x.slot⟩

/-- The descriptors that wait in a cell's queues, with queue and number. -/
def State.waitingCopies (s : State) (c : Nat) : List (Nat × Nat × CopyDesc) :=
  let x := s.cellx c
  (x.again ++ x.q0).map (fun d => (2 * c, d.1, d.2)) ++ (x.again1 ++ x.resend ++ x.q1).map (fun d => (2 * c + 1, d.1, d.2))

/-- Edges ARRIVAL, NO_PRODUCER and COMMIT of a cell of job `j`. -/
def State.cellEdges (s : State) (j : Job) (c : Nat) : List WaitEdge :=
  let x := s.cellx c
  let waits := ((x.prog.bind (fun p => p.steps[x.next]?)).elim [] StepHeader.waits).filter (fun w => decide (s.reg (Addr.ARRIVE c w.1) < w.2))
  let arrival := waits.flatMap (fun w =>
    let running := (s.copies.flights.filter (fun f => feeds c w.1 f.desc)).map s.flightNode
    let queued := (s.jobs.filter Job.live).flatMap (fun i =>
      ((i.cells.flatMap s.waitingCopies).filter (fun q => feeds c w.1 q.2.2)).map (fun q => s.queuedNode i q.1 q.2.1))
    let soft := s.copies.soft.flatMap (fun l => (l.2.filter (fun x => feeds c w.1 x.desc)).map (s.softNode l.1))
    let from_ := running ++ queued ++ soft
    let resource := w.1 * 2 ^ 32 + w.2 % 2 ^ 32
    if from_.isEmpty then [⟨s.cellNode c, s.cellNode c, 3, resource⟩] else from_.map (fun n => ⟨s.cellNode c, n, 2, resource⟩))
  let commit := ((s.waitingCopies c).filter (fun q => CopyFlag.waitCommit q.2.2 && !s.commitReached c q.2.2)).map (fun q =>
    ⟨s.queuedNode j q.1 q.2.1, s.cellNode ((cellOf (spaceOf q.2.2.src) (offsetOf q.2.2.src)).getD c), 4, q.2.2.step⟩)
  arrival ++ commit

/-- The node of slot `i` of a landing zone. -/
def State.landingNode (s : State) (z : Zone) (i : Nat) : WaitNode := ⟨5, z.tenant, s.device, z.num * 2 ^ 16 + i, z.job⟩

/-- Edges TOKEN of the landing directories: a PENDING slot waits for the token of its source. -/
def State.tokenEdges (s : State) : List WaitEdge :=
  s.copies.zones.flatMap (fun z => (z.entries.filter (fun e => !e.2.confirmed)).filterMap (fun e =>
    e.2.pending.map (fun p => ⟨s.landingNode z e.1, ⟨1, z.tenant, p.1, 2 ^ 32 - 1, p.2.1⟩, 5, e.1⟩)))

/-- Edges HOLDS of the landing directories: a slot that a token confirmed waits for the copies that read it (R317). -/
def State.holdEdges (s : State) : List WaitEdge :=
  s.copies.zones.flatMap (fun z => (z.entries.filter (fun e => e.2.confirmed)).flatMap (fun e =>
    (s.copies.flights.filter (fun f => s.copies.readers.contains (z.num, e.1, f.id))).map (fun f => ⟨s.landingNode z e.1, s.flightNode f, 1, e.1⟩)))

/-- Edges CREDIT: packets held on a port that is up, for want of credit. -/
def State.creditEdges (s : State) : List WaitEdge :=
  (s.fabric.held.filterMap (fun k =>
    match s.hop (bits k.hdr 29 13) k.dst k.from_ k.cls with
    | .port p =>
      let w := s.reg (Addr.PARTNER p)
      some (⟨⟨4, 0xFF, s.device, p, 0⟩, ⟨4, 0xFF, bits w 0 13, bits w 13 5, 0⟩, 6, creditKey p k.vc (s.nextClass k p)⟩ : WaitEdge)
    | _ => none)).eraseDups

/-- Edges BARRIER: a group job halted at a barrier without RESUME. -/
def State.barrierEdges (s : State) (js : List Job) : List WaitEdge :=
  (js.filter (fun j => j.grouped && !j.atBarrier.isEmpty && j.resumeAt.isNone)).map (fun j =>
    ⟨⟨6, j.tenant, s.device, j.id % 2 ^ 32, j.id⟩, ⟨7, 0xFF, s.deviceOfMember s.manager, s.manager, 0⟩, 7, j.barrierBeat⟩)

/-- The edges of a set of jobs, and of the whole device where `whole` is set. -/
def State.waitEdges (s : State) (js : List Job) (whole : Bool) : List WaitEdge :=
  (js.flatMap (fun j => j.cells.flatMap (s.cellEdges j)) ++ (s.tokenEdges ++ s.holdEdges).filter (fun e => whole || js.any (fun j => j.tenant == e.src.tenant && j.id % 2 ^ 32 == e.src.work % 2 ^ 32)) ++
    (if whole then s.creditEdges else []) ++ s.barrierEdges js).eraseDups

/-- The nodes that edges name. -/
def edgeNodes (es : List WaitEdge) : List WaitNode := (es.flatMap (fun e => [e.src, e.dst])).eraseDups

/-- Edges whose heads still have an edge of their own, pruned `n` times: what is left lies on or leads to a cycle. -/
def pruneEdges : (n : Nat) → List WaitEdge → List WaitEdge
  | 0, es => es
  | n + 1, es => pruneEdges n (es.filter (fun e => es.any (fun f => f.src == e.dst)))

/-- The walk along the first edge of each node, `n` steps. -/
def walkEdges (es : List WaitEdge) : (n : Nat) → WaitNode → List WaitNode
  | 0, _ => []
  | n + 1, x => x :: (match es.find? (fun e => e.src == x) with
    | some e => walkEdges es n e.dst
    | none => [])

/-- A cycle of the graph, as its nodes in order; empty where there is none. A NO_PRODUCER edge is not one. -/
def graphCycle (es : List WaitEdge) : List WaitNode :=
  let es := es.filter (fun e => e.kind != 3)
  let n := (edgeNodes es).length
  let left := pruneEdges es.length es
  match left.head? with
  | none => []
  | some e =>
    let start := ((walkEdges left (n + 1) e.src).getLast?).getD e.src
    start :: (walkEdges left n ((left.find? (fun e => e.src == start)).elim start WaitEdge.dst)).takeWhile (fun x => x != start)

/-- A node as a tenant sees it (R439). -/
def WaitNode.seenBy (n : WaitNode) (tenant : Option Nat) : WaitNode :=
  match tenant with
  | some t => if n.tenant = t then n else ⟨0xFF, 0xFF, 0, 0, 0⟩
  | none => n

/-- A node's 16 bytes. -/
def WaitNode.bytes (n : WaitNode) : Bytes := toBE 1 n.kind ++ toBE 1 n.tenant ++ toBE 2 n.device ++ toBE 4 n.ident ++ toBE 8 n.work

/-- The reply of WAITFOR_READ (R439): SNAP_ZC, SNAP_TIME, the counts, nodes, edges, and the cycle as node indices (log 51). -/
def graphReply (es : List WaitEdge) (tenant : Option Nat) (s : State) : Bytes :=
  let ns := edgeNodes es
  let cyc := graphCycle es
  let edge (e : WaitEdge) : Bytes := toBE 2 (ns.idxOf e.src) ++ toBE 2 (ns.idxOf e.dst) ++ toBE 1 e.kind ++ toBE 3 0 ++ toBE 8 e.resource
  toBE 8 s.zc ++ toBE 10 (s.sec * 2 ^ 32 + s.ns) ++ toBE 2 ns.length ++ toBE 2 es.length ++ toBE 2 cyc.length ++
    ns.flatMap (fun n => (n.seenBy tenant).bytes) ++ es.flatMap edge ++ cyc.flatMap (fun n => toBE 2 (ns.idxOf n))

/-- WAITFOR_READ (R438, R439): of this device, or of one group job through the manager. -/
def cmdWaitforRead : CmdFn := fun e p s =>
  let mine := s.jobs.filter (fun j => j.live && (e.owner || j.tenant == e.tenant))
  let who := if e.owner then none else some e.tenant
  if p.length ≠ 16 ∨ 1 < byteAt p 0 ∨ !zerosAt p 1 7 then refuse St.BAD_PARAM s
  else if byteAt p 0 = 0 then (⟨St.OK, graphReply (s.waitEdges mine e.owner) who s⟩, s)
  else if !s.isManager then refuse St.NOT_PERMITTED s
  else match mine.find? (fun j => j.id == be p 8 8 && j.grouped) with
    | none => refuse St.BAD_PARAM s
    | some j => (⟨St.OK, graphReply (s.waitEdges [j] false) who s⟩, s)

/-- HANG_TIMEOUT_EXPIRY (R440): a RUNNING job, neither suspended nor halted, that has committed nothing for HANG_TIMEOUT. -/
def execHangTimeoutExpiry (t tenant id : Nat) (s : State) : Host.Outcome State Fault Refusal :=
  .next (match s.job tenant id with
    | none => s
    | some j =>
      if !s.limik ∨ j.state ≠ 0 ∨ s.flag Addr.PWR_STATUS 1 ∨ j.clusters.any s.halted ∨ t < j.lastProgress + ms (s.reg Addr.HANG_TIMEOUT) then s
      else
        let s1 := advance t s
        let es := s1.waitEdges [j] false
        ((s1.updJob tenant id (fun j => { j with lastProgress := t })).bump32 Addr.HANG_SUSPECTS).raiseEvent evHangSuspect tenant
          [id, (edgeNodes es).length, es.length, b2n (!(graphCycle es).isEmpty), b2n (es.any (fun e => e.kind == 3))])

end Sys2Proof.Machine
end

