-- ==== Sys2Proof/Machine/Security.lean ====
section
/-!
DEFINITION. Tenancy, keys, measurements, attestation, zeroisation and the approved mode (R445 to R470). Cryptographic functions
are opaque constants of Config (log 8); log 53 names what the manual leaves open here.
-/
namespace Sys2Proof.Machine

/-! Event opcodes of the chapter (R468), and EV_SESSION_CLOSED (R356) -/
def evSessionClosed : Nat := 0xFF01
def evTenantCreated : Nat := 0xFFA0
def evTenantDestroyed : Nat := 0xFFA1
def evAttestReport : Nat := 0xFFA2
def evAuthLockout : Nat := 0xFFA3
def evSelftestFail : Nat := 0xFFA4
def evTamper : Nat := 0xFFA5
def evKeyInstalled : Nat := 0xFFA6
def evOwnershipClaimed : Nat := 0xFFA7
def evSignerRegistered : Nat := 0xFFA8

/-- SHA-384 as its 48 bytes. -/
def sha48 (m : Bytes) : Bytes := slice (Config.sha384 m) 0 48

/-! Measurements (R460) -/

/-- MEAS_i: twelve words, byte 0 first. -/
def State.meas (s : State) (i : Nat) : Bytes := (List.range 12).flatMap (fun j => toLE 4 (s.reg (Addr.MEAS (12 * i + j))))

/-- MEAS_i is extended: SHA-384(MEAS_i || D) (R460). -/
def extendMeas (i : Nat) (d : Bytes) (s : State) : State :=
  let h := sha48 (s.meas i ++ d)
  (List.range 12).foldl (fun s j => s.setReg (Addr.MEAS (12 * i + j)) (le h (4 * j) 4)) s

/-! Sessions closing (R342, R356) -/

/-- A session closes for a cause: 1 SESSION_CLOSE, 2 idle, 3 tenant destroyed. Its held commands and its error sink go with it
(R363). -/
def closeSession (id cause : Nat) (s : State) : State :=
  match s.session id with
  | none => s
  | some x =>
    let s1 := { s with sessions := s.sessions.filter (fun y => y.id != id) }
    let s2 := if s1.reg Addr.EVENT_SINK = id then s1.setReg Addr.EVENT_SINK 0 else s1
    s2.raiseEvent evSessionClosed owner [id, x.tenant, cause]

/-! Tenants (R445 to R448) -/

/-- T_STATE.STATE of a tenant: 0 NONE, 1 ACTIVE, 2 DESTROYING. -/
def State.tenantState (s : State) (t : Nat) : Nat := s.field (Addr.T_STATE t) 0 2

/-- A tenant comes to exist with a data key of the controller's DRBG (R445). -/
def makeTenant (t : Nat) (s : State) : State :=
  let s1 := { s with dataKey := tabSet 0 t (2 * s.secure.nextKey + 1) s.dataKey, secure.nextKey := s.secure.nextKey + 1 }
  (s1.setFlag (Addr.TENANT_EXISTS (t / 32)) (t % 32) true).setReg (Addr.T_STATE t) 1

/-- Sessions of a tenant. -/
def State.sessionsOf (s : State) (t : Nat) : Nat := (s.sessions.filter (fun x => x.tenant == t)).length

/-- The exact entries a tenant holds in its fullest stage and bank (R120). -/
def State.exactUse (s : State) (t : Nat) : Nat :=
  ((List.range 24).map (fun i => exactCount s (i / 2) (i % 2) t)).foldl max 0

/-- TENANT_CREATE (R446). -/
def cmdTenantCreate : CmdFn := fun e p s =>
  let t := byteAt p 0
  let exact := be p 4 4
  let quota := byteAt p 8
  if !e.owner then refuse St.NOT_PERMITTED s
  else if p.length ≠ 448 ∨ t = 0 ∨ 1 < byteAt p 1 ∨ !zerosAt p 2 2 ∨ !zerosAt p 9 7 ∨ 262144 < exact ∨ quota = 0 ∨ 56 < quota then refuse St.BAD_PARAM s
  else if byteAt p 1 = 1 then
    (if !s.tenantExists t then refuse St.NOT_PERMITTED s
    else if !zerosAt p 16 432 then refuse St.BAD_PARAM s
    else if exact < s.exactUse t ∨ quota < s.sessionsOf t then refuse St.BUSY s
    else (ok, extendMeas 3 (sha48 p) ((s.setReg (Addr.EXACT_QUOTA t) exact).setReg (Addr.SESSION_QUOTA t) quota)))
  else if s.tenantExists t then refuse St.BUSY s
  else
    let s1 := (((makeTenant t s).setReg (Addr.EXACT_QUOTA t) exact).setReg (Addr.SESSION_QUOTA t) quota)
    let s2 := { s1 with secure.creds := tabSet [] t (slice p 16 432) s1.secure.creds }
    (ok, (extendMeas 3 (sha48 p) s2).raiseEvent evTenantCreated t [t])

/-- The RW registers of an item of `n` bytes at `a` take their reset values. -/
def resetItem (a n : Nat) (s : State) : State :=
  (List.range (n / 4)).foldl (fun s i =>
    match locate (a + 4 * i) with
    | some l => if l.row.acc = .rw then s.setReg l.key (regReset l.key) else s
    | none => s) s

/-- Queues, shapers and policers of a tenant are disabled and removed (R448, step 5). -/
def dropTraffic (t : Nat) (s : State) : State :=
  let mine (kind n : Nat) : List Nat := (List.range n).filter (fun i => (s.tmOwner kind i).1 == t)
  let s1 := (mine 0 1024).foldl (fun s q => resetItem (Addr.Q_CFG q) 0x40 s) s
  let s2 := (mine 1 4096).foldl (fun s i => resetItem (Addr.SH_RATE i) 0x20 s) s1
  rejoinAll ((mine 2 65536).foldl (fun s p => resetItem (Addr.POL_CFG p) 0x20 s) s2)

/-- Steps 4 and 5 of R448: entries, flow region, cells, queued packets, windows, zones and traffic resources of a tenant go. -/
def releaseTenant (t : Nat) (s : State) : State :=
  let s1 := resetItem (Addr.FLOW_TCTRL t) 0x80 (dropEntries t s)
  let s2 := { s1 with flow := { s1.flow with lines := s1.flow.lines.filter (fun l => l.2.tenant != t), flushing := tabErase t s1.flow.flushing } }
  let s3 := ((List.range 256).filter (fun c => s2.cellState c != 0 && s2.cellTenant c == t)).foldl
    (fun s c => if s.cellState c = 3 then setCellState c 3 0 s else unassignCell c s) s2
  let s4 := dropTraffic t (flushTenant t s3)
  { s4 with
    mem.windows := s4.mem.windows.filter (fun w => w.1 / 16 != t)
    copies.zones := s4.copies.zones.filter (fun z => z.tenant != t)
    jobs := s4.jobs.filter (fun j => j.tenant != t)
    signer := tabErase t s4.signer }.setFlag (Addr.T_STATE t) 3 false

/-- TENANT_DESTROY (R448): steps 1 to 5, of which a flip accepted for the tenant holds back 4 and 5. -/
def cmdTenantDestroy : CmdFn := fun e p s =>
  let t := byteAt p 0
  if !e.owner then refuse St.NOT_PERMITTED s
  else if p.length ≠ 4 ∨ !zerosAt p 1 3 ∨ t = 0 then refuse St.BAD_PARAM s
  else if !s.tenantExists t then refuse St.NOT_PERMITTED s
  else if s.tenantState t = 2 ∨ s.subPorts.any (fun x => s.field (Addr.INTAKE_TENANT x.1 x.2) 0 8 == t) then refuse St.BUSY s
  else
    let s1 := s.setField (Addr.T_STATE t) 0 2 2
    let s2 := (s1.sessions.filter (fun x => x.tenant == t)).foldl (fun s x => closeSession x.id 3 s) s1
    let s3 := if s2.obs.trace.any (fun x => x.tenant == t) then endTrace s2 else s2
    let s4 := closeFence t s3
    let s5 := (s4.jobs.filter (fun j => j.live && j.tenant == t)).foldl (fun s j => advanceSends (endJob t j.id 7 0 s)) s4
    let s6 := dropModels t s5
    if s6.flipPending ∧ s6.holds t then (st St.ACCEPTED, { s6 with secure.waitFlip := s6.secure.waitFlip ++ [t] })
    else (st St.ACCEPTED, releaseTenant t (if s6.holds t then endLease s6 else s6))

/-- RULE_EPOCH_FLIP_BEAT (R123, R255): the flip, then what the destruction of the flipping tenant held back (R448). -/
def execRuleEpochFlipBeat (t : Nat) (s : State) : Host.Outcome State Fault Refusal :=
  .next (let s1 := flipBeat t s
    if s1.mt.flipAt.isSome then s1
    else s1.secure.waitFlip.foldl (fun s t => releaseTenant t s) { s1 with secure.waitFlip := [] })

/-- Whether a page or packet is still stamped with a tenant (R448, step 6). -/
def State.stampedWith (s : State) (t : Nat) : Bool := s.ports.packets.any (fun (q : Pkt) => q.tenant == t || q.desc.tenant == t)

/-- TENANT_KEY_ZEROISE (R448, steps 6 and 7): a DESTROYING tenant with no page and no packet left loses its key and credential
and ceases to exist. -/
def execTenantKeyZeroise (t tenant : Nat) (s : State) : Host.Outcome State Fault Refusal :=
  .next (if !s.on ∨ 255 < tenant ∨ s.tenantState tenant ≠ 2 ∨ s.secure.waitFlip.contains tenant ∨ s.stampedWith tenant then s
    else
      let s1 := advance t s
      let s2 := { s1 with dataKey := tabErase tenant s1.dataKey,
                          secure := { s1.secure with creds := tabErase tenant s1.secure.creds, failed := tabErase tenant s1.secure.failed,
                                                     lockUntil := tabErase tenant s1.secure.lockUntil,
                                                     handshakes := s1.secure.handshakes.filter (fun h => h.tenant != tenant) } }
      let s3 := (s2.setFlag (Addr.TENANT_EXISTS (tenant / 32)) (tenant % 32) false).setReg (Addr.T_STATE tenant) 0
      let s4 := (s3.setReg (Addr.EXACT_QUOTA tenant) 0).setReg (Addr.SESSION_QUOTA tenant) 0
      (extendMeas 3 (sha48 (toBE 1 tenant ++ zeros 3)) s4).raiseEvent evTenantDestroyed tenant [tenant])

/-! Keys and signers (R456, R457) -/

/-- Whether stored ciphertext or a page of a tenant exists, so that its data key may not change (R456). Of the ports that no tenant was
given, and that name tenant 0 since reset, only those whose intake FIFO is enabled are intake ports of it (log 53). -/
def State.keyInUse (s : State) (t : Nat) : Bool :=
  s.mem.windows.any (fun w => w.1 / 16 == t) || s.flowRecords t != 0 || s.copies.zones.any (fun z => z.tenant == t) ||
    (List.range 256).any (fun c => s.cellState c != 0 && s.cellTenant c == t) ||
    s.subPorts.any (fun x => (t != owner || s.flag (Addr.FIFO_CTRL (lportOf x.1 x.2)) 0) && s.field (Addr.INTAKE_TENANT x.1 x.2) 0 8 == t) ||
    s.ports.packets.any (fun (q : Pkt) => q.desc.tenant == t)

/-- KEY_INSTALL (R456). -/
def cmdKeyInstall : CmdFn := fun e p s =>
  let kind := byteAt p 0
  let t := e.tenant
  if p.length ≠ (if kind = 1 then 68 else 436) ∨ kind = 0 ∨ 3 < kind ∨ !zerosAt p 1 3 then refuse St.BAD_PARAM s
  else if kind = 3 ∧ !e.owner then refuse St.NOT_PERMITTED s
  else if (kind = 2 ∧ t = owner) ∨ (kind = 3 ∧ t ≠ owner) then refuse St.BAD_PARAM s
  else
    let m := p.drop 4
    if kind = 1 then
      if m.take 32 = m.drop 32 then refuse St.BAD_PARAM s
      else if s.keyInUse t then refuse St.BUSY s
      else
        let s1 := { s with dataKey := tabSet 0 t (2 * Config.keyIdentity m + 2) s.dataKey }.setFlag (Addr.T_STATE t) 2 true
        (ok, (extendMeas 3 (sha48 (toBE 1 t ++ toBE 1 kind)) s1).raiseEvent evKeyInstalled t [t, kind])
    else
      let s1 := if kind = 3 then { s with module.ownerCred := some m } else { s with secure.creds := tabSet [] t m s.secure.creds }
      (ok, (extendMeas 3 (sha48 (toBE 1 t ++ toBE 1 kind ++ m)) s1).raiseEvent evKeyInstalled t [t, kind])

/-- SIGNER_REGISTER (R457): an all-zero pair removes the signer. -/
def cmdSignerRegister : CmdFn := fun e p s =>
  if p.length ≠ 432 then refuse St.BAD_PARAM s
  else
    let none_ := zerosAt p 0 432
    let s1 := { s with signer := tabSet [] e.tenant (if none_ then [] else p) s.signer }.setFlag (Addr.T_STATE e.tenant) 3 (!none_)
    (ok, (extendMeas 3 (sha48 p) s1).raiseEvent evSignerRegistered e.tenant [e.tenant])

/-! Attestation (R461) -/

/-- SHA-384 of a credential or pair, zeros for none. -/
def shaOrZeros (c : Bytes) : Bytes := if c.isEmpty then zeros 48 else sha48 c

/-- The credential of a tenant; the owner's is in the configuration flash. -/
def State.credOf (s : State) (t : Nat) : Bytes := if t = owner then s.module.ownerCred.getD [] else tabGet [] t s.secure.creds

/-- The digest of a group's active parse bank: instructions, then dispatch entries. -/
def State.parseDigest (s : State) (g : Nat) : Bytes :=
  let b := s.activeBank g
  sha48 ((List.range 4096).flatMap (fun a => toLE 4 (s.progWord g b a)) ++ (List.range 512).flatMap (fun i => toLE 4 (s.dispWord g b i)))

/-- An entry of SELECTORS. -/
def State.selectorEntry (s : State) (t sel : Nat) : Bytes :=
  let x := s.selector t sel
  let meas (y : Slot) : Bytes := if y.state = 0 then zeros 48 else slice y.pkg.measurement 0 48
  toBE 1 x.a.state ++ toBE 1 x.b.state ++ zeros 6 ++ toBE 8 x.a.pkg.packageId ++ toBE 8 x.b.pkg.packageId ++ meas x.a ++ meas x.b

/-- The 3,200 bytes of a report before its signatures (R461). -/
def State.report (s : State) (t : Nat) (nonce : Bytes) : Bytes :=
  let flags := b2n (s.flag Addr.SEC_STATUS 2) + b2n (s.field Addr.SEC_STATUS 0 2 == 1) * 2 + b2n (s.flag Addr.JTAG_CTRL 0) * 4 + b2n (s.flag Addr.SEC_STATUS 4) * 8
  let cells := (List.range 256).filter (fun c => s.cellState c != 0 && s.cellTenant c == t)
  toBE 4 0x42564152 ++ toBE 2 1 ++ toBE 1 t ++ toBE 1 flags ++ toBE 8 (s.reg Addr.SERIAL) ++ toBE 4 (s.reg Addr.FW_VERSION) ++
    toBE 4 (s.reg Addr.BOOTROM_VERSION) ++ toBE 4 (s.reg Addr.IMAGE_SVN) ++ toBE 4 (s.reg Addr.BOOT_COUNT) ++ toBE 6 s.sec ++ toBE 4 s.ns ++ toBE 8 s.zc ++
    zeros 14 ++ nonce ++ s.meas 0 ++ s.meas 1 ++ s.meas 2 ++ (if t = owner then s.meas 3 else zeros 48) ++ shaOrZeros (s.credOf owner) ++ shaOrZeros (s.credOf t) ++
    shaOrZeros (tabGet [] t s.signer) ++ toBE 8 (s.reg (Addr.TPORTS t)) ++ toBE 2 (s.reg (Addr.TCLASSES t)) ++ zeros 6 ++
    (List.range 16).flatMap s.parseDigest ++ (List.range 16).flatMap (s.selectorEntry t) ++ toLE 32 (ofBits cells) ++ zeros 32

/-- ATTEST (R461): the contents are taken now; the report comes in an event. -/
def cmdAttest : CmdFn := fun e p s =>
  if p.length ≠ 32 then refuse St.BAD_PARAM s
  else if 4 ≤ s.secure.reports.length then refuse St.BUSY s
  else (st St.ACCEPTED, { s with secure.reports := s.secure.reports ++ [⟨e.session, e.tag, e.tenant, s.report e.tenant p⟩] })

/-- ATTEST_REPORT_DONE (R461): the oldest report is signed and goes to the session that asked for it. -/
def execAttestReportDone (t : Nat) (s : State) : Host.Outcome State Fault Refusal :=
  .next (match s.secure.reports with
    | [] => s
    | r :: rest =>
      if !s.limik ∨ s.secError then s
      else
        ({ advance t s with secure.reports := rest } : State).raiseFor evAttestReport r.tenant r.session r.tag 0
          ((r.body ++ slice (Config.deviceSign r.body) 0 sigBytes).map BitVec.toNat))

/-! Zeroisation and tamper (R462, R463) -/

/-- Every secret of R458 goes: MODE 1 keeps the identity keys, MODE 2 blows the erase fuse. The reset that follows loses the
rest; LAST_RESET is 2. -/
def zeroise (mode : Nat) (s : State) : State :=
  resetDevice 2 { s with module.ownerCred := none, module.erased := s.module.erased || mode == 2 }

/-- ZEROISE (R462): no reply is sent. -/
def cmdZeroise : CmdFn := fun e p s =>
  if !e.owner then refuse St.NOT_PERMITTED s
  else if p.length ≠ 4 ∨ byteAt p 0 = 0 ∨ 2 < byteAt p 0 ∨ !zerosAt p 1 3 then refuse St.BAD_PARAM s
  else (ok, zeroise (byteAt p 0) s)

/-- TAMPER_DETECT (R463): the device zeroises and TAMPER_LATCHED is set. A break is found from the input, from AUX_3V3, from the
reserve, or by the continuity test of the next power-on (R501). -/
def execTamperDetect (t : Nat) (s : State) : Host.Outcome State Fault Refusal :=
  .next (let s0 := advance t s
    let s1 := { s0 with module := { s0.module with tamperReport := true, mbFault := s0.module.mbFault ||| 128 } }
    if s1.module.rails then (zeroise 1 s1).setFlag Addr.SEC_STATUS 4 true
    else ({ s1 with module.ownerCred := none }.setField Addr.SEC_STATUS 0 2 0).setFlag Addr.SEC_STATUS 4 true)

/-! Approved mode and self-tests (R465, R466) -/

/-- A write of JTAG_CTRL (R465, R470): DEBUG_EN stays 0 in the approved mode; a change extends MEAS_2 (R460). -/
def wrJtagCtrl (v : Nat) (s : State) : Nat × State :=
  let v := v % 2
  if v = 1 ∧ s.flag Addr.SEC_STATUS 2 then (St.NOT_PERMITTED, s)
  else if v = s.reg Addr.JTAG_CTRL then (St.OK, s)
  else (St.OK, extendMeas 2 (sha48 (toBE 4 v)) (s.setReg Addr.JTAG_CTRL v))

/-- APPROVED_MODE_SET (R465): a change closes every session, replaces the owner's data key and extends MEAS_2; the approved
mode fixes DEBUG_EN and SELFTEST_PERIOD. -/
def cmdApprovedModeSet : CmdFn := fun e p s =>
  let on := byteAt p 0 == 1
  if !e.owner then refuse St.NOT_PERMITTED s
  else if p.length ≠ 4 ∨ 1 < byteAt p 0 ∨ !zerosAt p 1 3 then refuse St.BAD_PARAM s
  else if (List.range 255).any (fun t => s.tenantExists (t + 1)) then refuse St.BUSY s
  else if s.flag Addr.SEC_STATUS 2 = on then (ok, s)
  else
    let s1 := (s.setFlag Addr.SEC_STATUS 2 on).setFlag Addr.FW_STATE 3 on
    let s2 := if on then
        (let s2 := (wrJtagCtrl 0 s1).2
         if s2.reg Addr.SELFTEST_PERIOD = 0 ∨ 24 < s2.reg Addr.SELFTEST_PERIOD then s2.setReg Addr.SELFTEST_PERIOD 24 else s2)
      else s1
    let s3 := { s2 with dataKey := tabSet 0 owner (2 * s2.secure.nextKey + 1) s2.dataKey, secure.nextKey := s2.secure.nextKey + 1, sessions := [] }
    (ok, extendMeas 2 (sha48 (toBE 1 (b2n on))) ((s3.setReg Addr.EVENT_SINK 0).setFlag (Addr.T_STATE owner) 2 false))

/-- A write of SELFTEST_PERIOD (R470). -/
def wrSelftestPeriod (v : Nat) (s : State) : Nat × State :=
  let v := v % 256
  if 168 < v ∨ (s.flag Addr.SEC_STATUS 2 ∧ (v = 0 ∨ 24 < v)) then (St.BAD_PARAM, s) else (St.OK, s.setReg Addr.SELFTEST_PERIOD v)

/-- PERIODIC_SELFTEST (R466): once SELFTEST_PERIOD has passed, an AES engine's known-answer tests run and pass; a round ends
with engine 0. -/
def execPeriodicSelftest (t engine : Nat) (s : State) : Host.Outcome State Fault Refusal :=
  .next (let period := s.reg Addr.SELFTEST_PERIOD
    if !s.on ∨ s.secError ∨ period = 0 ∨ t < s.secure.lastTest + secs (3600 * period) then s
    else
      let s1 := advance t s
      { s1 with secure.lastTest := if engine = 0 then t else s1.secure.lastTest })

/-- The ERROR state (R466): the failing test is recorded, SEC_ERROR is set in MB_FAULT, and with it ALERT_N (R496). -/
def enterError (cause : Nat) (s : State) : State :=
  { (((s.setReg Addr.SEC_ERR_CAUSE cause).setField Addr.SEC_STATUS 0 2 2).setFlag Addr.SEC_STATUS 5 false) with
    module.mbFault := s.module.mbFault ||| 256 }

/-- SELFTEST_FAILURE (R466): the device enters the ERROR state, and SEC_ERR_CAUSE records the failing test. -/
def execSelftestFailure (t cause : Nat) (s : State) : Host.Outcome State Fault Refusal :=
  .next (if !s.on ∨ cause = 0 ∨ 11 < cause then s else enterError cause (advance t s))

/-- BOOT_KEY_READY (R451): sessions become possible, and the events that waited for that are raised (R463, R468). -/
def execBootKeyReady (t : Nat) (s : State) : Host.Outcome State Fault Refusal :=
  .next (if !s.limik ∨ s.flag Addr.SEC_STATUS 3 then s
    else
      let s1 := (advance t s).setFlag Addr.SEC_STATUS 3 true
      let s2 := if s1.module.tamperReport then ({ s1 with module.tamperReport := false } : State).raiseEvent evTamper owner [] else s1
      if s2.reg Addr.SEC_ERR_CAUSE ≠ 0 then s2.raiseEvent evSelftestFail owner [s2.reg Addr.SEC_ERR_CAUSE] else s2)

end Sys2Proof.Machine
end

