-- ==== Sys2Proof/Machine/Firmware.lean ====
section
/-!
DEFINITION. Boot, recovery, firmware images and the handover (R459, R474 to R483, R488). Log 54 names what the manual leaves
open here.
-/
namespace Sys2Proof.Machine

/-! Event opcodes of the chapter (R487) -/
def evFwStaged : Nat := 0xFFB0
def evFwHandoverStart : Nat := 0xFFB1
def evFwHandoverDone : Nat := 0xFFB2
def evFwHandoverFailed : Nat := 0xFFB3
def evFwFlashWritten : Nat := 0xFFB4
def evSvnCommitted : Nat := 0xFFB5

/-! Images (R477) -/

/-- Bytes a firmware image has at most: 48 MiB. -/
def fwImageMax : Nat := 50331648

/-- An image's header (R477), none where it is malformed; `len` counts the signature block too. -/
def readFwImage (p : Bytes) (len : Nat) : Option FwImage :=
  let total := le p 20 8
  if len < 256 + sigBytes ∨ fwImageMax < len ∨ le p 0 4 ≠ 0x42564657 ∨ le p 4 2 ≠ 1 ∨ !zerosAt p 6 2 ∨ 63 < le p 12 4 ∨ total + sigBytes ≠ len ∨
      !zerosAt p 29 3 ∨ total < le p 32 4 + le p 36 4 ∨ !zerosAt p 40 216 then none
  else some { version := le p 8 4, svn := le p 12 4, minBootrom := le p 16 4, minMajor := le p 28 1, digest := sha48 (p.take total), good := true }

/-- Whether an image's SVN and boot ROM are accepted (R459, R478). -/
def State.fwAllowed (s : State) (f : FwImage) : Bool := decide (s.reg Addr.FUSE_SVN ≤ f.svn) && decide (f.minBootrom ≤ s.reg Addr.BOOTROM_VERSION)

/-- Whether both signatures of an image verify under the firmware keys (R459). -/
def fwSigned (p : Bytes) : Bool := verifyPair (Config.vendorKey 0) (p.take (le p 20 8)) (p.drop (le p 20 8))

/-- FW_STATE.STAGE is set. -/
def setStage (n : Nat) (s : State) : State := s.setField Addr.FW_STATE 0 3 n

/-- An image becomes the running one: its registers say so and MEAS_1 is extended with its digest (R459, R460). -/
def runImage (f : FwImage) (s : State) : State :=
  let s1 := { s with fw.running := f }
  setStage 1 (extendMeas 1 f.digest ((s1.setReg Addr.FW_VERSION f.version).setReg Addr.IMAGE_SVN f.svn))

/-! Boot (R459, R474, R475, R476) -/

/-- The measurements of a boot before its image: MEAS_0 by hardware, and the approved-mode setting in MEAS_2 (R460). -/
def measureBoot (s : State) : State :=
  extendMeas 2 (sha48 (toBE 1 (b2n (s.flag Addr.SEC_STATUS 2)))) (extendMeas 0 (Config.romDigest (s.reg Addr.BOOTROM_VERSION) (s.reg Addr.SERIAL) (s.reg Addr.FUSE_SVN)) s)

/-- BOOT_ROM_START (R459): self-tests (`selftest` 0 when all pass, else the failing test), then the checks of the flash image;
one that fails them leads to recovery. -/
def execBootRomStart (t selftest : Nat) (s : State) : Host.Outcome State Fault Refusal :=
  .next (if !s.on ∨ s.stage ≠ 0 ∨ s.secError then s
    else
      let s1 := measureBoot ((advance t s).bump32 Addr.BOOT_COUNT)
      if selftest ≠ 0 then enterError selftest s1
      else
        let s2 := s1.setFlag Addr.SEC_STATUS 5 true
        let f := s2.module.flash
        if f.good ∧ s2.fwAllowed f then runImage f s2 else setStage 3 s2)

/-- The boot test has run on all cells, by the kernel and pass rules of R391 (R475): a cell of `failed` is fenced with a failure
signature. -/
def bootTest (failed : List Nat) (s : State) : State :=
  (List.range 256).foldl (fun s c => if failed.contains c then permanent { kind := 3, cell := c } (endTest c 2 s) else endTest c 1 s) s

/-- HBM_TRAIN_DONE (R475): the stacks of `stacks` are trained, the boot test has fenced `failed`, and primer passes follow on
every cluster. -/
def execHbmTrainDone (t hbms : Nat) (failed : List Nat) (s : State) : Host.Outcome State Fault Refusal :=
  .next (if !s.limik ∨ s.fw.trained ≠ 0 ∨ s.fw.hbmFailed then s
    else
      let good := hbms % 65536
      let s1 := { advance t s with fw := { s.fw with trained := good, hbmFailed := good != 65535, bootFenced := (List.range 256).countP failed.contains } }
      let s2 := (List.range 16).foldl (fun s i => s.setFlag (Addr.HBM_STATUS i) 0 (bitAt good i)) s1
      { bootTest failed s2 with power.primers := List.range 16 })

/-- RECOVERY_FETCH (R476): in recovery, every 10 s, an image is fetched; one that passes the checks is written to flash and
booted, and any other is discarded. -/
def execRecoveryFetch (t : Nat) (image : Bytes) (s : State) : Host.Outcome State Fault Refusal :=
  .next (if !s.on ∨ s.stage ≠ 3 ∨ !s.fw.lastFetch.all (fun l => decide (l + secs 10 ≤ t)) then s
    else
      let s1 := { advance t s with fw.lastFetch := some t }
      match readFwImage image image.length with
      | some f =>
        if s1.fwAllowed f ∧ fwSigned image then runImage f { s1 with module.flash := f, fw.recovered := true } else s1
      | none => s1)

/-- MGMT_ADDRESS_CONFIG (R474): the prefixes of the global addresses and the address of DHCPv4, in firmware and in recovery. -/
def execMgmtAddressConfig (t : Nat) (prefixes : List Nat) (ipv4 : Option Nat) (s : State) : Host.Outcome State Fault Refusal :=
  .next (if s.on ∧ (s.stage = 1 ∨ s.stage = 3) then { advance t s with fw := { s.fw with prefixes, ipv4 } } else s)

/-! Staging (R478) -/

/-- FW_STAGE (R478): the checks in their order; the copy that follows ends at FW_IMAGE_STAGED. -/
def cmdFwStage : CmdFn := fun e p s =>
  let off := be p 0 8
  let len := be p 8 4
  if !e.owner then refuse St.NOT_PERMITTED s
  else if p.length ≠ 12 then refuse St.BAD_PARAM s
  else if !s.inWindows owner off len false then refuse St.NOT_PERMITTED s
  else
    let b := s.readBytes owner off len
    match readFwImage b len with
    | none => refuse St.BAD_PARAM s
    | some f =>
      if !s.fwAllowed f then refuse St.BAD_PARAM s
      else if !fwSigned b then refuse St.SIG_FAIL s
      else if s.fw.handover.isSome ∨ s.fw.writing.isSome then refuse St.BUSY s
      else (st St.ACCEPTED, (countHbm false off len { s with fw.staged := some f }).setFlag Addr.FW_STATE 4 false)

/-- FW_IMAGE_STAGED (R478): the copy completes. -/
def execFwImageStaged (t : Nat) (s : State) : Host.Outcome State Fault Refusal :=
  .next (match s.fw.staged with
    | some f =>
      if !s.limik ∨ s.flag Addr.FW_STATE 4 then s else ((advance t s).setFlag Addr.FW_STATE 4 true).raiseEvent evFwStaged owner [f.version, f.svn]
    | none => s)

/-! Handover (R479 to R482) -/

/-- Whether Limik has accepted work in progress other than running jobs, armed swaps and trace sessions (R479). -/
def State.acceptedWork (s : State) : Bool :=
  s.models.any (fun m => m.2.a.state == 1 || m.2.b.state == 1 || m.2.swapAt.isSome) || s.copies.soft.any (fun q => !q.2.isEmpty) ||
    s.copies.flights.any (fun f => decide (512 ≤ f.queue)) || !s.integ.queue.isEmpty || s.integ.testing.isSome || !s.power.primers.isEmpty ||
    s.power.primer.isSome || s.flag Addr.FREEZE_STATUS 1 || !s.secure.reports.isEmpty || (List.range 255).any (fun t => s.tenantState (t + 1) == 2) ||
    s.fw.writing.isSome

/-- A manager steps down for the handover (R321, R480). -/
def stepDown (s : State) : State :=
  if s.isManager then
    ({ s with group := { s.group with leaseHeld := false, pendingLog := [] } }.setFlag Addr.MANAGER 6 false).raiseEvent evManagerStepdown owner [s.member, s.reg Addr.TERM]
  else s

/-- The staged image is written to the flash and the fuses follow if asked (R480, step 5; R479 with HANDOVER_OFF). -/
def writeFlash (f : FwImage) (commit : Bool) (s : State) : State :=
  let s1 := { s with module.flash := f }
  if commit then s1.setReg Addr.FUSE_SVN f.svn else s1

/-- FW_ACTIVATE (R479, R480): with HANDOVER_OFF the flash is written and the device resets; else the handover begins. -/
def cmdFwActivate : CmdFn := fun e p s =>
  let off := bitAt (byteAt p 0) 0
  let commit := bitAt (byteAt p 0) 1
  if !e.owner then refuse St.NOT_PERMITTED s
  else if p.length ≠ 4 ∨ 3 < byteAt p 0 ∨ !zerosAt p 1 3 then refuse St.BAD_PARAM s
  else match s.fw.staged with
    | none => refuse St.BUSY s
    | some f =>
      if !s.flag Addr.FW_STATE 4 ∨ s.acceptedWork then refuse St.BUSY s
      else if (!off ∧ s.field Addr.FW_VERSION 16 8 < f.minMajor) ∨ (commit ∧ f.svn ≤ s.reg Addr.FUSE_SVN) then refuse St.BAD_PARAM s
      else if off then (st St.ACCEPTED, resetDevice 2 (writeFlash f commit s))
      else
        let s1 := stepDown (s.raiseEvent evFwHandoverStart owner [s.reg Addr.FW_VERSION, f.version])
        (st St.ACCEPTED, setStage 2 { s1 with fw.handover := some (s1.now, commit) })

/-- Firmware runs again after a handover that began at `t0`: idle timers resume, held exceptions and events leave, the pages of the exceptions return (R357), and the fences
decided meanwhile run (R481). -/
def resumeFirmware (t0 : Nat) (f : FwImage) (s : State) : State :=
  let s1 := runImage f { s with
    fw := { s.fw with handover := none, lastNs := (s.now - t0) / 1000, heldExc := [] }
    sessions := s.sessions.map (fun x => { x with lastAuth := x.lastAuth + (s.now - t0) }) }
  runHeldFences (sendEvents (s.fw.heldExc.foldl (fun s e => freePacket e.2 (deliver e.1 s)) s1))

/-- HANDOVER_RESUME (R480): within 2 s of quiesce the new image resumes; the flash write goes on in the background. -/
def execHandoverResume (t : Nat) (s : State) : Host.Outcome State Fault Refusal :=
  .next (match s.fw.handover, s.fw.staged with
    | some (t0, commit), some f =>
      if !s.on ∨ s.stage ≠ 2 ∨ t0 + secs 2 < t then s
      else
        let s1 := resumeFirmware t0 f (advance t s)
        ({ s1 with fw := { s1.fw with writing := some commit, lastFailed := false } } : State).raiseEvent evFwHandoverDone owner [f.version, s1.fw.lastNs]
    | _, _ => s)

/-- HANDOVER_TIMEOUT (R482): 2 s without a resume; the flash image resumes from the same state record. The staged image was started and
is measured before it (R480, R460). -/
def execHandoverTimeout (t : Nat) (s : State) : Host.Outcome State Fault Refusal :=
  .next (match s.fw.handover with
    | some (t0, _) =>
      if !s.on ∨ s.stage ≠ 2 ∨ t ≤ t0 + secs 2 then s
      else
        let s1 := resumeFirmware t0 s.module.flash (s.fw.staged.elim (advance t s) (fun f => extendMeas 1 f.digest (advance t s)))
        (({ s1 with fw := { s1.fw with staged := none, lastFailed := true } }.setFlag Addr.FW_STATE 4 false) : State).raiseEvent evFwHandoverFailed owner
          [s1.reg Addr.FW_VERSION]
    | none => s)

/-- FLASH_WRITE_DONE (R480, step 5): the image is in the flash; with COMMIT_SVN, FUSE_SVN follows. -/
def execFlashWriteDone (t : Nat) (s : State) : Host.Outcome State Fault Refusal :=
  .next (match s.fw.writing, s.fw.staged with
    | some commit, some f =>
      if !s.on then s
      else
        let s1 := { writeFlash f commit (advance t s) with fw := { s.fw with writing := none, staged := none } }
        let s2 := (s1.raiseEvent evFwFlashWritten owner [f.version]).setFlag Addr.FW_STATE 4 false
        if commit then s2.raiseEvent evSvnCommitted owner [f.svn] else s2
    | _, _ => s)

/-! Status and reset (R483) -/

/-- FW_STATUS (R483). -/
def cmdFwStatus : CmdFn := fun e p s =>
  let fw := s.fw
  if !e.owner then refuse St.NOT_PERMITTED s
  else if p.length ≠ 0 then refuse St.BAD_PARAM s
  else (⟨St.OK, toBE 4 (s.reg Addr.FW_VERSION) ++ toBE 4 (if s.flag Addr.FW_STATE 4 then fw.staged.elim 0 FwImage.version else 0) ++ toBE 4 s.module.flash.version ++
    toBE 1 s.stage ++ toBE 1 (b2n fw.hbmFailed + b2n fw.lastFailed * 2 + b2n fw.recovered * 4) ++ toBE 2 fw.bootFenced ++ toBE 2 fw.trained ++ zeros 2 ++ toBE 8 fw.lastNs⟩, s)

/-- DEVICE_RESET (R483): answered OK, then the device resets. -/
def cmdDeviceReset : CmdFn := fun e p s =>
  if !e.owner then refuse St.NOT_PERMITTED s else if p.length ≠ 0 then refuse St.BAD_PARAM s else (ok, resetDevice 2 s)

/-- A command that would place data in HBM is refused with NO_FIT once a stack has failed training (R475). -/
def needsHbm (f : CmdFn) : CmdFn := fun e p s =>
  let r := f e p s
  if s.fw.hbmFailed ∧ r.1.status ≤ St.ACCEPTED then refuse St.NO_FIT s else r

end Sys2Proof.Machine
end

