-- ==== Sys2Proof/Machine/ModuleHw.lean ====
section
/-!
DEFINITION. The module's power stage, its resets, input faults, trip latch and I3C registers (R471, R472, R490 to R498). Log 55
names what the manual leaves open here.
-/
namespace Sys2Proof.Machine

/-! The I3C registers (R496) -/

/-- MB_STATE: PWR_GOOD, TRIPPED, TAMPER_LATCHED, DERATED, SEC_ERROR. -/
def State.mbState (s : State) : Nat :=
  b2n s.module.rails + b2n s.module.tripped * 2 + b2n (s.flag Addr.SEC_STATUS 4) * 4 + b2n (s.flag Addr.PWR_STATUS 4) * 8 + b2n s.secError * 16

/-- The byte at an offset of the I3C register space. -/
def State.mbByte (s : State) (o : Nat) : Nat :=
  byteAt (toLE 1 0x96 ++ toLE 1 s.mbState ++ toLE 2 s.module.mbFault ++ toLE 2 (s.module.vin / 10) ++ toLE 2 (s.module.iin / 10) ++
    toLE 1 (unsigned 8 s.module.tj) ++ toLE 1 (unsigned 8 s.module.hbmT) ++ toLE 2 (unsigned 16 s.module.coolIn) ++ toLE 2 (unsigned 16 s.module.coolOut)) o

/-- ALERT_N is asserted while any bit of MB_FAULT is 1 (R496). -/
def State.alert (s : State) : Bool := s.module.mbFault != 0

/-- PWR_GOOD (R472, R497): the core rails are in regulation, whatever holds the reset. -/
def State.pwrGood (s : State) : Bool := s.module.rails

/-- The static I3C address (R496). -/
def State.i3cStatic (s : State) : Nat := 0x50 + s.field Addr.BOARD_ID 0 4

/-- Bits of MB_FAULT are set; `persists` says whether their condition lasts. -/
def mbSet (bit : Nat) (persists : Bool) (s : State) : State :=
  { s with module := { s.module with mbFault := s.module.mbFault ||| 2 ^ bit, persists := if persists then s.module.persists ||| 2 ^ bit else s.module.persists } }

/-- AUX_3V3 as it stands (R493): without it THERM_N is not asserted (R502), and the I3C target loses its dynamic address (R496). -/
def setAux (on : Bool) (s : State) : State :=
  { s with module := { s.module with aux := on, thermN := s.module.thermN && on, i3c := if on then s.module.i3c else none } }

/-! Power-on and resets (R471, R472, R497) -/

/-- The power-on sequence reaches r: the device leaves reset (R472), a REVERSE still to be recorded is recorded (R494), and an
input back in range ends an overvoltage or a sense fault. -/
def startPower (cause mv : Nat) (s : State) : State :=
  resetDevice cause { s with module := { s.module with
    rails := true, present := true, aux := true, vin := mv, reverse := false, persists := s.module.persists &&& 16
    mbFault := s.module.mbFault ||| b2n s.module.reverse } }

/-- POWER_ON (R472): PWR_EN is high with the input between 40 V and 64 V. -/
def execPowerOn (t mv : Nat) (s : State) : Host.Outcome State Fault Refusal :=
  .next (if s.module.rails ∨ s.module.tripped ∨ mv < 40000 ∨ 64000 < mv then s else startPower 0 mv (advance t s))

/-- POWER_REMOVE (R472): PWR_EN falls, or the input falls to `mv` below 40 V. AUX_3V3 stays while the input is at least 40 V
(R493), and with it the assertion of THERM_N (R502); such an input is a correct one, which records a REVERSE (R494). -/
def execPowerRemove (t mv : Nat) (s : State) : Host.Outcome State Fault Refusal :=
  .next (let s1 := advance t s
    let aux := decide (40000 ≤ mv) && s1.module.present
    let s2 := if s1.module.rails then powerDown s1 else s1
    setAux aux { s2 with module := { s2.module with
      vin := mv, reverse := s2.module.reverse && !aux, mbFault := s2.module.mbFault ||| b2n (s2.module.reverse && aux) } })

/-- Whether a trip may be cleared (R495). -/
def State.cooled (s : State) : Bool := decide (s.module.tj < 95) && decide (s.module.hbmT < 90)

/-- The power-on sequence after a trip starts where the input allows it (R472, R494). -/
def restart (cause : Nat) (s : State) : State :=
  if s.module.vin < 40000 ∨ 66000 < s.module.vin then s else startPower cause s.module.vin s

/-- The latch of a trip clears on a cooled module (R495); MB_FAULT keeps the cause. -/
def clearTrip (how : ClearKind) (s : State) : State :=
  if !s.module.tripped ∨ !s.cooled then s
  else
    let s1 := { s with module.tripped := false }
    match how with
    | .pwrEn => restart 0 s1
    | .rstN => restart 1 s1
    | .input => setAux false { s1 with module := { s1.module with vin := 0 } }

/-- TRIP_CLEAR (R495): PWR_EN low for 100 ms and high again, the input removed, or RST_N low for 1 µs. With PRESENT_N open
RST_N has no effect (R502). -/
def execTripClear (t : Nat) (how : ClearKind) (s : State) : Host.Outcome State Fault Refusal :=
  .next (if s.module.tripped ∧ (how = .input ∨ (s.module.present ∧ s.module.aux)) then clearTrip how (advance t s) else s)

/-- PIN_RESET (R471, R491, R495, R502): RST_N low for `lowNs`. Below 1 µs nothing is promised but for glitches, which are
ignored; the model ignores both. -/
def execPinReset (t lowNs : Nat) (s : State) : Host.Outcome State Fault Refusal :=
  .next (if lowNs < 1000 ∨ !s.module.present then s
    else if s.module.rails then resetDevice 1 (advance t s)
    else if s.module.aux then clearTrip .rstN (advance t s)
    else s)

/-- REFCLK_SYS_LOSS (R497): without a good REFCLK_SYS the device is held in reset with PWR_GOOD high; it leaves reset when the
clock returns. LAST_RESET and SEC_ERR_CAUSE stay as they were. -/
def execRefclkSysLoss (t : Nat) (good : Bool) (s : State) : Host.Outcome State Fault Refusal :=
  .next (let s1 := advance t s
    if good then (if s1.module.hold = 0 then s1 else startBeat { s1 with module.hold := 0 })
    else if s1.module.hold ≠ 0 then s1
    else (resetDevice 2 { s1 with module.hold := 2 }).setReg Addr.LAST_RESET (s1.reg Addr.LAST_RESET))

/-! Faults of the input (R492 to R494) -/

/-- PRESENT_N_OPEN (R492, R493): the rails go within 50 µs, and AUX_3V3 with the contact. -/
def execPresentNOpen (t : Nat) (s : State) : Host.Outcome State Fault Refusal :=
  .next (let s1 := advance t s
    let s2 := if s1.module.rails then powerDown s1 else s1
    setAux false { s2 with module := { s2.module with present := false } })

/-- OVERVOLTAGE (R494): above 66 V the rails go; AUX_3V3 is kept up to 72 V. Above 80 V no behaviour is promised (R493). -/
def execOvervoltage (t mv : Nat) (s : State) : Host.Outcome State Fault Refusal :=
  if 80000 < mv then .fault .beyondAbsoluteRatings
  else .next (if mv ≤ 66000 then s
    else
      let s1 := mbSet 1 true (advance t s)
      let s2 := if s1.module.rails then powerDown s1 else s1
      setAux (s2.module.aux && decide (mv ≤ 72000)) { s2 with module := { s2.module with vin := mv } })

/-- REVERSE_POLARITY (R494): an input below −1 V: no rail, no AUX_3V3, and REVERSE at the next correct input. Beyond −64 V no
behaviour is promised (R493). -/
def execReversePolarity (t : Nat) (mv : Int) (s : State) : Host.Outcome State Fault Refusal :=
  if mv < -64000 then .fault .beyondAbsoluteRatings
  else .next (if -1000 ≤ mv then s
    else
      let s1 := advance t s
      let s2 := if s1.module.rails then powerDown s1 else s1
      setAux false { s2 with module := { s2.module with reverse := true, vin := 0 } })

/-- SENSE_FAULT (R494): an open or crossed VSENSE: the internal measurement less 0.3 V replaces it, and operation continues. -/
def execSenseFault (t : Nat) (crossed : Bool) (internalMv : Nat) (s : State) : Host.Outcome State Fault Refusal :=
  .next (if !s.module.aux ∨ (!crossed ∧ internalMv < 40000) then s
    else
      let s1 := mbSet (if crossed then 3 else 2) true (advance t s)
      let s2 := { s1 with module.vin := internalMv - 300 }
      if s2.module.rails then s2.setReg Addr.VIN (min 131071 (internalMv - 300)) else s2)

/-- AUX_OVERLOAD (R494): AUX_3V3 folds back and retries every 100 ms while the overload is `present`; the core runs on. -/
def execAuxOverload (t : Nat) (present : Bool) (s : State) : Host.Outcome State Fault Refusal :=
  .next (if !s.module.aux then s
    else if present then mbSet 4 true (advance t s)
    else
      let s1 := advance t s
      { s1 with module.persists := s1.module.persists &&& (0xFFFF - 16) })

/-! I3C (R496) -/

/-- MB_FAULT_CLEAR (R496): write 1 to clear; a bit whose condition persists is set again on the next sample. -/
def execMbFaultClear (t mask : Nat) (s : State) : Host.Outcome State Fault Refusal :=
  .next (if !s.module.aux then s
    else
      let s1 := advance t s
      let left := s1.module.mbFault &&& (65535 - mask % 65536)
      { s1 with module := { s1.module with mbFault := left ||| s1.module.persists } })

/-- I3C_ADDRESS_ASSIGN (R496): SETDASA, which names the static address, or ENTDAA gives the target its dynamic address. -/
def execI3cAddressAssign (t : Nat) (entdaa : Bool) (addr : Nat) (s : State) : Host.Outcome State Fault Refusal :=
  .next (if !s.module.aux ∨ 128 ≤ addr ∨ (entdaa ∧ s.module.i3c.isSome) then s
    else
      let s1 := advance t s
      { s1 with module.i3c := some addr })

end Sys2Proof.Machine
end

