-- ==== Sys2Proof/Machine/Csr.lean ====
section
/-!
DEFINITION. Register access (R9, R10, R358 to R360, R426): privileges of each block, the read of one word with its latches and
clears, the write of one word with the refusals of its register, and the commands CSR_READ, CSR_WRITE, CSR_MODIFY and
COUNTER_READ. Logs 13 and 56 name what the manual leaves open here.
-/
namespace Sys2Proof.Machine

/-! Privileges (R360) -/

/-- The logical port of intake or egress FIFO block `f` (R75), if it is one. -/
def fifoPort (f : Nat) : Option Nat := if f < 128 then some (f % 64) else none

/-- Whether a logical port is in a tenant's set (R281). -/
def State.inPortSet (s : State) (t L : Nat) : Bool := bitAt (s.reg (Addr.TPORTS t)) L

/-- Whether every cell of cluster `k` that is not UNCONFIGURED is held by tenant `t` (R225). -/
def State.clusterOf (s : State) (t k : Nat) : Bool :=
  (List.range 16).all (fun i => s.cellState (16 * k + i) == 0 || s.cellTenant (16 * k + i) == t)

/-- Whether tenant `t` holds cell `c`. -/
def State.cellHeldBy (s : State) (t c : Nat) : Bool := s.cellState c != 0 && s.cellTenant c == t

/-- Whether a tenant's session may read a word (R360, R83, R84, R108, R139, R163, R224, R225, R295, R333). -/
def State.tenantReads (s : State) (t a : Nat) : Bool :=
  match blockIn a blocks with
  | some (.identity, _) => decide (a < 0x30)
  | some (.beat, _) => true
  | some (.port, p) =>
    let o := a % 0x10000
    let r := o % 0x400
    decide (0x1000 ≤ o ∧ o < 0x3000) && (decide (0x100 ≤ r ∧ r < 0x140) || decide (0x180 ≤ r ∧ r < 0x1C0)) &&
      decide ((o - 0x1000) / 0x400 < subPortsOf (s.portMode p)) && s.inPortSet t (lportOf p ((o - 0x1000) / 0x400))
  | some (.fifo, f) => (fifoPort f).elim false (s.inPortSet t) && !decide (0x40 ≤ a % 0x100 ∧ a % 0x100 < 0x60)
  | some (.stage, _) => decide (Addr.FLOW_TCTRL t ≤ a ∧ a < Addr.FLOW_TCTRL t + 0x80)
  | some (.tm, _) => tmReadable s t a
  | some (.cluster, k) => s.clusterOf t k
  | some (.cell, c) => s.cellHeldBy t c
  | _ => false

/-- Whether an address is a word of a cell's STORE_DATA. -/
def isStoreData (a : Nat) : Bool := (blockIn a blocks).elim false (fun b => b.1 == .cell) && decide (0x220 ≤ a % 0x100000 ∧ a % 0x100000 < 0x240)

/-- Whether the sender may read a word (R360): the owner reads all but STORE_DATA of cells it does not hold (R224). -/
def State.mayReadWord (s : State) (e : Env) (a : Nat) : Bool :=
  if e.owner then !isStoreData a || s.tenantReads owner a else s.tenantReads e.sessTenant a

/-- The flow registers that a tenant writes for itself (R163). -/
def tenantFlowWords (t : Nat) : List Nat :=
  [Addr.ZONE_SEL t, Addr.END_SEL t, Addr.HIST_SEL t, Addr.IDLE_TIMEOUT t, Addr.END_LINGER t, Addr.DIGEST_PERIOD t, Addr.FLOW_TCTRL t]

/-- Whether an address is STORE_ADDR or STORE_CMD of a cell. -/
def isStoreCtl (a : Nat) : Bool := (blockIn a blocks).elim false (fun b => b.1 == .cell) && (a % 0x100000 == 0x200 || a % 0x100000 == 0x204)

/-- Whether the sender may write a word (R360): the owner anywhere but the store read-out of cells it does not hold (R224); a
tenant its flow registers (R163) and the store read-out of the cells it holds. -/
def State.mayWriteWord (s : State) (e : Env) (a : Nat) : Bool :=
  if isStoreCtl a then s.tenantReads e.sessTenant a
  else e.owner || (tenantFlowWords e.sessTenant).contains a

/-! Reads -/

/-- The latched word at address `a` (R60, R81, R359). -/
def State.latched (s : State) (a : Nat) : Nat := (tabGet 0#32 a s.latch).toNat

/-- `s` with a latch set. -/
def setLatch (a v : Nat) (s : State) : State := { s with latch := tabSet 0#32 a (BitVec.ofNat 32 v) s.latch }

/-- What the read of a `_LO` word latches (R60): its `_HI` word, and TIME_NS with TIME_SEC. -/
def latchPair (key : Nat) (s : State) : State :=
  let s1 := setLatch (key + 4) (s.value key / 2 ^ 32) s
  if key = Addr.TIME_SEC then setLatch Addr.TIME_NS s.ns s1 else s1

/-- What the read of TS_DATA_j does (R80, R84): the record is being read from the first of its words until TS_DATA_7 removes it. -/
def readTsData (f j : Nat) (s : State) : State :=
  if j = 7 then popFifo f s else if (s.fifo f).pkts.isEmpty then s else s.setFifo f { s.fifo f with reading := some 0 }

/-- The read of a word that holds a register (R9, R60, R73, R81, R82, R224): its value, and what the read does. -/
def readLoc (a : Nat) (l : Loc) (s : State) : Nat × State :=
  if l.row.acc = .wo then (0, s)
  else if l.hiHalf ∨ a = Addr.TIME_NS then (s.latched a, s)
  else if l.row.pair then (s.value l.key % 2 ^ 32, latchPair l.key s)
  else if l.block = .fifo ∧ l.row.off = 8 then (s.latched a, s)
  else if l.block = .fifo ∧ l.row.off = 4 then (s.value a, setLatch (a + 4) (s.occWords l.inst) s)
  else if l.block = .fifo ∧ l.row.off = 0xC then (s.value a, s.setReg a (s.occWords l.inst))
  else if l.block = .fifo ∧ l.row.off = 0x40 then (s.value a, if fifoKind l.inst = some 5 then readTsData l.inst l.j s else s)
  else if l.block = .cell ∧ l.row.off = 0x220 then rdStoreData l.inst l.j s
  else if l.row.acc = .rc then (s.value a, s.setReg l.key 0)
  else (s.value a % 2 ^ 32, s)

/-- One read access (R359): a status, the word, and the state after. -/
def readWord (e : Env) (a : Nat) (s : State) : Nat × Nat × State :=
  match blockIn a blocks with
  | none => (St.BAD_PARAM, 0, s)
  | some _ =>
    if !s.mayReadWord e a then (St.NOT_PERMITTED, 0, s)
    else match locate a with
      | none => (St.OK, 0, s)
      | some l => let r := readLoc a l s; (St.OK, r.1, r.2)

/-- One shadow read (R426). -/
def readShadow (e : Env) (a : Nat) (s : State) : Nat × Nat × State :=
  match blockIn a blocks with
  | none => (St.BAD_PARAM, 0, s)
  | some _ =>
    if !s.mayReadWord e a then (St.NOT_PERMITTED, 0, s)
    else match locate a with
      | none => (St.OK, 0, s)
      | some l =>
        if !l.row.acc.shadowed then (St.BAD_PARAM, 0, s)
        else if s.reg Addr.FREEZE_ID = 0 then (St.OK, 0, s)
        else (St.OK, (if l.hiHalf then s.shadowOf l.key / 2 ^ 32 else s.shadowOf l.key % 2 ^ 32), s)

/-! Writes -/

/-- Whether a value lies in the range a register accepts. -/
def RegRow.accepts (r : RegRow) (v : Nat) : Bool := decide (r.lo ≤ v ∧ v ≤ r.hi)

/-- A word merged into the value a register is kept as: its reserved bits dropped (R10). -/
def Loc.merged (l : Loc) (v : Nat) (s : State) : Nat :=
  (if l.row.pair then putBits (s.reg l.key) (if l.hiHalf then 32 else 0) 32 v else v) &&& l.row.mask

/-- The write of a register without rules beyond its range. -/
def writePlain (l : Loc) (v : Nat) (s : State) : Nat × State :=
  if l.row.accepts (l.merged v s) then (St.OK, s.setReg l.key (l.merged v s)) else (St.BAD_PARAM, s)

/-- A register whose range is checked before its own rules. -/
def inRange (l : Loc) (v : Nat) (f : Nat → State → Nat × State) (s : State) : Nat × State :=
  if l.row.accepts (l.merged v s) then f (l.merged v s) s else (St.BAD_PARAM, s)

/-- A write of GLOBAL_CTRL (R361): CMD_MGMT_EN stays 1; events kept while a transport was off leave when it is on again. -/
def wrGlobalCtrl (v : Nat) (s : State) : Nat × State := (St.OK, sendEvents (s.setReg Addr.GLOBAL_CTRL (v % 4 + 4)))

/-- A write of BEAT_STATUS (R60): its W1C bits are BELOW_FLOOR and REBASED. -/
def wrBeatStatus (v : Nat) (s : State) : Nat × State :=
  (St.OK, s.setReg Addr.BEAT_STATUS (s.reg Addr.BEAT_STATUS &&& (15 - (v &&& 5))))

/-- Writes of the beat and time-base block (R60). -/
def writeBeat (l : Loc) (a v : Nat) (s : State) : Nat × State :=
  if a = Addr.BEAT_CTRL then wrBeatCtrl v s
  else if a = Addr.BEAT_RATE_TARGET then wrBeatRateTarget v s
  else if a = Addr.BEAT_STATUS then wrBeatStatus v s
  else if a = Addr.SPOKE_REATTACH then wrSpokeReattach v s
  else if a = Addr.HALT_MASK then wrHaltMask v s
  else if a = Addr.RESUME_MASK then wrResumeMask v s
  else if a = Addr.GUST_CTRL then wrGustCtrl v s
  else if a = Addr.GROUP_REF_PORT then wrGroupRefPort v s
  else if a = Addr.TIME_CTRL then wrTimeCtrl v s
  else if a = Addr.TIME_FREQ_ADJ then wrTimeFreqAdj v s
  else if a = Addr.TIME_STEP_NS then wrTimeStepNs v s
  else if a = Addr.SNAP then wrSnap v s
  else writePlain l v s

/-- Writes of an Ethernet port block (R83). -/
def writePort (l : Loc) (a v : Nat) (s : State) : Nat × State :=
  if a = Addr.PORT_CTRL l.inst then wrPortMode l.inst (l.merged v s) s
  else if 0x1000 ≤ l.row.off then
    if subPortsOf (s.portMode l.inst) ≤ l.k then (St.BAD_PARAM, s) else inRange l v (wrSubPort l.inst l.k a) s
  else writePlain l v s

/-- Writes of a FIFO control block (R84). -/
def writeFifo (l : Loc) (v : Nat) (s : State) : Nat × State :=
  if (fifoKind l.inst).isNone then (St.BAD_PARAM, s)
  else if l.row.off = 0x10 then wrFifoCtrl l.inst (v % 2) s
  else wrDropRest l.inst v s

/-- Writes of a header-core group (R108). -/
def writeGroup (l : Loc) (v : Nat) (s : State) : Nat × State :=
  let g := l.inst
  if l.row.off = 4 then wrHcCtrl g (l.merged v s) s
  else if l.row.off = 0xC then wrProgValidate g v s
  else if l.row.off = 0x14 then wrProgFlip g v s
  else if l.row.off = 0x8000 then wrProgStage g l.j v s
  else if l.row.off = 0xC800 then wrDispStage g l.j v s
  else writePlain l v s

/-- Writes of a stage block (R139). -/
def writeStage (e : Env) (l : Loc) (v : Nat) (s : State) : Nat × State :=
  let n := l.inst
  if l.row.off = 0x44 then wrMissStage n v s
  else if l.row.off = 0x50 then wrEntrySel n v s
  else if l.row.off = 0x54 then wrEntryCmd e.tenant n v s
  else if l.row.off = 0x500 then wrKeyselStage n l.j v s
  else if l.row.off = 0x800 then wrTernRange n l.j v s
  else writePlain l v s

/-- Writes of the common registers of the stages (R140). -/
def writeRule (l : Loc) (a v : Nat) (s : State) : Nat × State :=
  let o := l.row.off
  if o = 0x80030 ∨ o = 0x80034 ∨ o = 0x80038 then wrHashStage ((o - 0x80030) / 4) v s
  else if o = 0x80050 then wrExcRate v s
  else if o = 0x80054 then wrExcBurst v s
  else if o = 0x80100 then wrExcPortRate l.j v s
  else if o = 0x80200 then wrPortDefault l.j v s
  else if o = 0x81000 then wrEgroup ((a - Addr.EGROUP 0 0) / 0x80) l.j v s
  else if o = 0x90000 then wrEncap ((a - Addr.ENCAP 0 0) / 0x80) l.j v s
  else writePlain l v s

/-- Writes of a tenant's flow registers (R163): the tenant must exist (R449). -/
def writeFlowTenant (e : Env) (l : Loc) (v : Nat) (s : State) : Nat × State :=
  if !s.tenantExists l.k then (St.NOT_PERMITTED, s) else inRange l v (wrFlowTenant e.owner l.k l.key) s

/-- Writes of the traffic manager (R295 to R299). -/
def writeTm (l : Loc) (a v : Nat) (s : State) : Nat × State :=
  if Addr.POL_CFG 0 ≤ a ∧ a < Addr.POL_GREEN 0 then wrPolicer ((a - Addr.POL_CFG 0) / 0x20) ((a - Addr.POL_CFG 0) % 0x20 / 4) v s
  else if Addr.SH_RATE 0 ≤ a ∧ a < Addr.POL_CFG 0 then
    let i := (a - Addr.SH_RATE 0) / 0x20
    if a = Addr.SH_APPLY i then wrShApply i v s else if a = Addr.SH_CFG i then wrShCfg i v s else writePlain l v s
  else if Addr.Q_CFG 0 ≤ a ∧ a < Addr.SH_RATE 0 then wrQueue ((a - Addr.Q_CFG 0) / 0x40) ((a - Addr.Q_CFG 0) % 0x40 / 4) v s
  else if Addr.PQ_CFG 0 ≤ a ∧ a < Addr.MIR_CFG 0 then
    let L := (a - Addr.PQ_CFG 0) / 0x20
    if a = Addr.PQ_CFG L then wrPqCfg L v s else if a = Addr.PORT_SHAPER L then wrPortShaper L v s else writePlain l v s
  else if Addr.MIR_CFG 0 ≤ a ∧ a = Addr.TRUNCATE ((a - Addr.MIR_CFG 0) / 0x10) then wrTruncate ((a - Addr.MIR_CFG 0) / 0x10) v s
  else writePlain l v s

/-- Writes of the bridge registers (R329, R334): an aperture lies over HBM_ILV or HBM_STACK. -/
def writeBridge (l : Loc) (v : Nat) (s : State) : Nat × State :=
  if l.row.pair ∧ 1 < spaceOf (l.merged v s) then (St.BAD_PARAM, s) else writePlain l v s

/-- The write of a register that is RW, WO or Mixed, with the refusals of its own. -/
def writeLoc (e : Env) (a v : Nat) (l : Loc) (s : State) : Nat × State :=
  match l.block with
  | .identity => if a = Addr.GLOBAL_CTRL then wrGlobalCtrl v s else writePlain l v s
  | .beat => writeBeat l a v s
  | .integrity => if a = Addr.INT_CTRL then wrIntCtrl v s else if a = Addr.CELL_ACK_TIMEOUT then wrCellAckTimeout v s else writePlain l v s
  | .security => if a = Addr.JTAG_CTRL then wrJtagCtrl v s else if a = Addr.SELFTEST_PERIOD then wrSelftestPeriod v s else writePlain l v s
  | .port => writePort l a v s
  | .fifo => writeFifo l v s
  | .headerCore => writeGroup l v s
  | .stage => writeStage e l v s
  | .rule => writeRule l a v s
  | .flow => if a = Addr.SCAN_PERIOD then wrScanPeriod (v % 1024) s else writePlain l v s
  | .flowTenant => writeFlowTenant e l v s
  | .tm => writeTm l a v s
  | .fabric => if a = Addr.FP_CTRL l.inst then wrFpCtrl l.inst v s else writePlain l v s
  | .bridge => writeBridge l v s
  | .cell => if l.row.off = 0x204 then wrStoreCmd e.sessTenant l.inst v s else writePlain l v s
  | .power | .observe | .group | .hbm | .cluster => writePlain l v s

/-- Whether a located word is of an instance that does not exist, whose writes are refused whatever its access code: a reserved FIFO
index (R75) or a sub-port that the mode does not create (R83). -/
def Loc.absent (l : Loc) (s : State) : Bool :=
  match l.block with
  | .fifo => (fifoKind l.inst).isNone
  | .port => decide (0x1000 ≤ l.row.off ∧ subPortsOf (s.portMode l.inst) ≤ l.k)
  | _ => false

/-- One write access (R9, R359, R360). -/
def writeWord (e : Env) (a v : Nat) (s : State) : Nat × State :=
  match blockIn a blocks with
  | none => (St.BAD_PARAM, s)
  | some b =>
    if !s.mayWriteWord e a then (St.NOT_PERMITTED, s)
    else match locate a with
      | none => (if b.1 = .security then St.NOT_PERMITTED else St.BAD_PARAM, s)
      | some l =>
        if l.absent s then (St.BAD_PARAM, s)
        else match l.row.acc with
          | .ro | .rc => (St.OK, s)
          | .rw | .wo | .w1c | .mixed => writeLoc e a v l s

/-! The commands (R358, R426) -/

/-- Words read in ascending order up to the first refused one: its status, the words, and the state after them. -/
def readWords (f : Nat → State → Nat × Nat × State) (a : Nat) : (n : Nat) → State → Nat × List Nat × State
  | 0, s => (St.OK, [], s)
  | n + 1, s =>
    let r := f a s
    if r.1 ≠ St.OK then (r.1, [], s)
    else
      let rest := readWords f (a + 4) n r.2.2
      (rest.1, r.2.1 :: rest.2.1, rest.2.2)

/-- Words written in ascending order up to the first refused one: its status, how many were written, and the state after. -/
def writeWords (e : Env) (a : Nat) : (vs : List Nat) → State → Nat × Nat × State
  | [], s => (St.OK, 0, s)
  | v :: vs, s =>
    let r := writeWord e a v s
    if r.1 ≠ St.OK then (r.1, 0, s)
    else
      let rest := writeWords e (a + 4) vs r.2
      (rest.1, rest.2.1 + 1, rest.2.2)

/-- Whether ADDRESS and COUNT of a CSR command are in order (R358). -/
def csrOk (p : Bytes) : Bool := be p 0 4 % 4 == 0 && decide (1 ≤ be p 4 2 ∧ be p 4 2 ≤ 1024)

/-- CSR_READ (R358, R359). -/
def cmdCsrRead : CmdFn := fun e p s =>
  if p.length ≠ 8 ∨ !csrOk p ∨ !zerosAt p 6 2 then refuse St.BAD_PARAM s
  else
    let r := readWords (readWord e) (be p 0 4) (be p 4 2) s
    (⟨r.1, toBE 2 r.2.1.length ++ zeros 2 ++ r.2.1.flatMap (toBE 4)⟩, r.2.2)

/-- CSR_WRITE (R358, R359). -/
def cmdCsrWrite : CmdFn := fun e p s =>
  let n := be p 4 2
  if !csrOk p ∨ p.length ≠ 8 + 4 * n ∨ !zerosAt p 6 2 then refuse St.BAD_PARAM s
  else
    let r := writeWords e (be p 0 4) ((List.range n).map (fun i => be p (8 + 4 * i) 4)) s
    (⟨r.1, toBE 2 r.2.1 ++ zeros 2⟩, r.2.2)

/-- The word of a register as CSR_MODIFY takes it: half of a pair, or the register. -/
def State.modWord (s : State) (l : Loc) : Nat :=
  if l.block = .fifo ∧ l.row.off = 8 then s.latched l.key else if l.hiHalf then s.value l.key / 2 ^ 32 else s.value l.key % 2 ^ 32

/-- CSR_MODIFY (R358, R359): one access; only RW, RO and Mixed registers may be modified. -/
def cmdCsrModify : CmdFn := fun e p s =>
  let a := be p 0 4
  let mask := be p 4 4
  let v := be p 8 4
  if p.length ≠ 12 ∨ a % 4 ≠ 0 ∨ (blockIn a blocks).isNone then refuse St.BAD_PARAM s
  else if !s.mayWriteWord e a then refuse St.NOT_PERMITTED s
  else match locate a with
    | none => refuse (writeWord e a 0 s).1 s
    | some l =>
      if l.absent s then refuse St.BAD_PARAM s else
      match l.row.acc with
      | .ro => (⟨St.OK, toBE 4 (s.modWord l)⟩, s)
      | .wo | .w1c | .rc => refuse St.BAD_PARAM s
      | .rw | .mixed =>
        let new := if a = Addr.BEAT_STATUS then v &&& mask else (s.modWord l &&& (0xFFFFFFFF - mask)) ||| (v &&& mask)
        let r := writeWord e a new s
        if r.1 = St.OK then (⟨St.OK, toBE 4 (r.2.modWord l)⟩, r.2) else refuse r.1 s

/-- COUNTER_READ (R426). -/
def cmdCounterRead : CmdFn := fun e p s =>
  let shadow := byteAt p 6 == 1
  if p.length ≠ 8 ∨ !csrOk p ∨ 1 < byteAt p 6 ∨ byteAt p 7 ≠ 0 then refuse St.BAD_PARAM s
  else
    let r := readWords (if shadow then readShadow e else readWord e) (be p 0 4) (be p 4 2) s
    (⟨r.1, toBE 2 r.2.1.length ++ zeros 2 ++ (if shadow then toBE 4 (s.reg Addr.FREEZE_ID) else []) ++ r.2.1.flatMap (toBE 4)⟩, r.2.2)

end Sys2Proof.Machine
end

