-- ==== Sys2Proof/Machine/Session.lean ====
section
/-!
DEFINITION. Sessions (R340 to R346, R452 to R455): the handshake, the places and quotas, the lockout, the session commands, and
the sending of replies. Logs 8, 11, 53 and 56 name what the manual leaves open here.
-/
namespace Sys2Proof.Machine

/-! Replies (R346) -/

/-- A reply made up as the packet it leaves as (R335, R341, R346): REPLY is set and TARGET is the responding device; in a session it is
sealed under the session key with KIND 1. -/
def SentPacket.close (key : Bytes) (device : Nat) (p : SentPacket) : SentPacket :=
  let header := packetHeader (1 + b2n p.isSealed * 2) p.opcode p.tag p.tenant device p.params.length p.status p.session p.seq
  { p with packet := if p.isSealed then sealPacket key 1 p.seq header p.params else header ++ p.params }

/-- A reply leaves on its transport (R338). The mailbox gives up BUSY and signals vector 0 (R328); the reply of a command that was in
ingress at a function-level reset is discarded (R332). -/
def sendReply (p : SentPacket) (s : State) : State :=
  match p.transport with
  | .mailbox =>
    if s.bridge.mute then { s with bridge.mute := false }
    else signal 0 ({ s with bridge := { s.bridge with busy := false, replyReady := true, reply := p.packet } }.emit (.reply p))
  | .fabric => noteSends (sendCmd p.peer p.packet (s.emit (.reply p)))
  | .mgmt => s.emit (.reply p)

/-- A mailbox command that gets no reply leaves the mailbox free (log 48). -/
def freeMailbox (tr : Transport) (s : State) : State :=
  if tr = .mailbox then (if s.bridge.mute then { s with bridge.mute := false } else { s with bridge.busy := false }) else s

/-- A command of the mailbox is taken (R328, R332): it is the oldest packet of ingress FIFO 0x8E2, or comes by a doorbell of its own; the
reply of one that was there at a function-level reset will be discarded. -/
def takeMailbox (s : State) : State :=
  match (s.fifo 0x8E2).pkts with
  | [] => { s with bridge.busy := true }
  | q :: rest =>
    let s1 := s.setFifo 0x8E2 { s.fifo 0x8E2 with pkts := rest }
    if s.bridge.stale.contains q.data then { s1 with bridge := { s.bridge with stale := s.bridge.stale.erase q.data, mute := true } }
    else { s1 with bridge.busy := true }

/-! Places (R342) -/

/-- Whether a session of tenant `t` finds a place: 8 places are the owner's alone. -/
def State.placeFree (s : State) (t : Nat) : Bool :=
  let max := s.reg Addr.SESSION_MAX
  decide (s.sessions.length < max) && (t == owner || decide (s.sessions.length - s.ownerSessions + 8 < max))

/-- Whether a tenant is below its SESSION_QUOTA (R446); the owner has none. -/
def State.quotaFree (s : State) (t : Nat) : Bool := t == owner || decide (s.sessionsOf t < s.reg (Addr.SESSION_QUOTA t))

/-- Whether a tenant is under lockout (R455). -/
def State.lockedOut (s : State) (t : Nat) : Bool := decide (s.now < tabGet 0 t s.secure.lockUntil)

/-- Whether tenant `t` may try a handshake (R453): it exists and is not being destroyed, or is the owner. -/
def State.mayHandshake (s : State) (t : Nat) : Bool := !s.module.erased && (t == owner || (s.tenantExists t && s.tenantState t == 1))

/-! The first step (R451, R453) -/

/-- The first identifier from `f` on that is nonzero and has not been used (R453). -/
def freshId (used : List Nat) (f : Nat) : Nat :=
  ((List.range (used.length + 1)).map (fun i => (f + i) % (2 ^ 32 - 1) + 1)).find? (fun i => !used.contains i) |>.getD 1

/-- The head of a certificate body (R451). -/
def certHead (kind serial boot svn : Nat) : Bytes :=
  toBE 4 0x42564943 ++ toBE 2 1 ++ toBE 1 kind ++ zeros 1 ++ toBE 8 serial ++ toBE 4 boot ++ toBE 4 svn ++ zeros 40

/-- The identity certificate with its signatures (R451). -/
def State.identityCert (s : State) : Bytes :=
  let body := certHead 1 (s.reg Addr.SERIAL) 0 0 ++ slice (Config.identityKey (s.reg Addr.SERIAL)) 0 432
  body ++ slice (Config.caSign body) 0 sigBytes

/-- The boot key certificate with its signatures (R451). -/
def State.bootCert (s : State) : Bytes :=
  let k := Config.bootKey (s.reg Addr.BOOT_COUNT)
  let body := certHead 2 (s.reg Addr.SERIAL) (s.reg Addr.BOOT_COUNT) (s.reg Addr.IMAGE_SVN) ++ s.meas 0 ++ s.meas 1 ++ slice k 0 97 ++ zeros 7 ++ slice k 97 1184
  body ++ slice (Config.deviceSign body) 0 sigBytes

/-- Whether the header of a session-0 packet is refused by R348, step 3. -/
def handBad (h : Hand) : Bool := decide (255 < h.tenant) || h.tagged || h.seq != 0

/-- SESSION_OPEN (R453): a status with the reply parameters, and the state after. -/
def openSession (h : Hand) (p : Bytes) (s : State) : Reply × State :=
  let t := h.tenant
  if handBad h ∨ p.length ≠ 129 ∨ !Config.onCurve (slice p 32 97) then refuse St.BAD_PARAM s
  else if !s.flag Addr.SEC_STATUS 3 then refuse St.BUSY s
  else if !s.mayHandshake t then refuse St.AUTH_FAIL s
  else if s.lockedOut t ∨ !s.quotaFree t ∨ !s.placeFree t ∨ 16 ≤ s.secure.handshakes.length then refuse St.BUSY s
  else
    let (f, s1) := s.draw Topic.handshake.num
    let (share, s2) := s1.drawBytes Topic.nonce.num 129
    let id := freshId s.secure.usedIds f
    let params := toBE 4 id ++ slice share 0 32 ++ slice share 32 97 ++ zeros 3 ++ toBE 4 s.identityCert.length ++ toBE 4 s.bootCert.length ++
      s.identityCert ++ s.bootCert
    (⟨St.OK, params⟩, { s2 with secure.handshakes := s2.secure.handshakes ++ [⟨id, t, h.transport, h.peer, s2.now, p ++ params⟩],
                                secure.usedIds := id :: s2.secure.usedIds })

/-! The final step (R452, R454, R455) -/

/-- Bytes of an ownership voucher with its signatures (R452). -/
def voucherBytes : Nat := 17052

/-- Whether a voucher verifies and names this module (R452). -/
def State.voucherGood (s : State) (v : Bytes) : Bool :=
  be v 0 4 == 0x42564F56 && be v 4 8 == s.reg Addr.SERIAL && verifyPair (Config.vendorKey 2) (v.take 444) (v.drop 444)

/-- The seconds within which eight failures lock a tenant out, and for which they do. -/
def lockoutTime : Nat := secs 60

/-- A handshake of tenant `t` has failed (R455): the eighth within 60 s, counted inclusively (R469), begins a lockout. -/
def failHandshake (t : Nat) (s : State) : State :=
  let s1 := s.bump32 (Addr.T_AUTH_FAILS t)
  let l := (tabGet [] t s1.secure.failed).filter (fun x => decide (s1.now ≤ x + lockoutTime)) ++ [s1.now]
  if l.length < 8 then { s1 with secure.failed := tabSet [] t l s1.secure.failed }
  else
    let s2 := { s1 with secure.failed := tabErase t s1.secure.failed, secure.lockUntil := tabSet 0 t (s1.now + lockoutTime) s1.secure.lockUntil }
    ((s2.bump32 Addr.LOCKOUTS).setFlag (Addr.T_STATE t) 4 true).raiseEvent evAuthLockout t [t]

/-- A device becomes OWNED by the credential of a voucher (R452). -/
def claim (cred p : Bytes) (s : State) : State :=
  ((extendMeas 3 (sha48 p) ({ s with module.ownerCred := some cred }.setField Addr.SEC_STATUS 0 2 1)) : State).raiseEvent evOwnershipClaimed owner
    [s.reg Addr.SERIAL]

/-- "BVX-960 session" (R454). -/
def sessionLabel : Bytes := [0x42#8, 0x56#8, 0x58#8, 0x2D#8, 0x39#8, 0x36#8, 0x30#8, 0x20#8, 0x73#8, 0x65#8, 0x73#8, 0x73#8, 0x69#8, 0x6F#8, 0x6E#8]

/-- OKM of a handshake (R454): HKDF over both shared secrets, salted with TH, `body` being the SESSION_KEY parameters up to SIG_RSA. -/
def State.sessionOkm (s : State) (k : Handshake) (body : Bytes) : Bytes :=
  let ecdh := slice (Config.ecdhSecret (slice k.transcript 165 97) (slice k.transcript 32 97)) 0 48
  let kem := slice (Config.kemSecret (slice (Config.bootKey (s.reg Addr.BOOT_COUNT)) 97 1184) (slice body 4 1088)) 0 32
  Config.hkdf (sha48 (k.transcript ++ body)) (ecdh ++ kem) (sessionLabel ++ toBE 4 k.id ++ toBE 1 k.tenant) 80

/-- KEY_CONFIRM (R454): HMAC under CK over TH. -/
def keyConfirm (okm th : Bytes) : Bytes := slice (Config.hmac (slice okm 32 48) th) 0 48

/-- SESSION_KEY (R454): a free place and the quota are checked before anything is verified. A tenant being destroyed gets no new
session (R448). -/
def keySession (h : Hand) (p : Bytes) (s : State) : Reply × State :=
  let vl := be p 1092 4
  if handBad h ∨ p.length ≠ 1096 + vl + sigBytes ∨ (vl ≠ 0 ∧ (vl ≠ voucherBytes ∨ s.module.ownerCred.isSome)) then refuse St.BAD_PARAM s
  else match s.secure.handshakes.find? (fun k => k.id == be p 0 4 && k.transport == h.transport && k.peer == h.peer && k.tenant == h.tenant &&
      decide (s.now < k.opened + secs 30)) with
    | none => refuse St.AUTH_FAIL s
    | some k =>
      if !s.mayHandshake k.tenant then refuse St.AUTH_FAIL s
      else if !s.placeFree k.tenant ∨ !s.quotaFree k.tenant then refuse St.BUSY s
      else
        let s1 := { s with secure.handshakes := s.secure.handshakes.filter (fun x => x.id != k.id) }
        let body := p.take (1096 + vl)
        let voucher := slice p 1096 vl
        let cred := if vl = 0 then s.credOf k.tenant else slice voucher 12 432
        let tr := k.transcript ++ body
        if (vl ≠ 0 ∧ (k.tenant ≠ owner ∨ !s.voucherGood voucher)) ∨ !verifyPair cred tr (p.drop (1096 + vl)) then
          (st St.AUTH_FAIL, failHandshake k.tenant s1)
        else
          let s2 := if s1.tenantExists k.tenant then s1 else makeTenant k.tenant s1
          let okm := s.sessionOkm k body
          let s3 := { s2 with sessions := s2.sessions ++ [{ id := k.id, tenant := k.tenant, transport := k.transport, peer := k.peer,
                                                            key := slice okm 0 32, lastAuth := s2.now }] }
          (⟨St.OK, toBE 4 k.id ++ keyConfirm okm (sha48 tr)⟩, if vl = 0 then s3 else claim cred p s3)

/-- A handshake packet is served and its reply leaves unsealed (R340, R453, R454). -/
def serveHand (f : Hand → Bytes → State → Reply × State) (op : Nat) (h : Hand) (p : Bytes) (s : State) : State :=
  let r := f h p s
  sendReply (SentPacket.close [] r.2.device
    { transport := h.transport, peer := h.peer, session := 0, opcode := op, tag := h.tag, tenant := h.tenant, seq := h.seq,
      status := r.1.status, isSealed := false, params := r.1.params }) r.2

/-- Whether the device answers session packets: firmware runs and the controller is not in ERROR (R466, R473). -/
def State.answers (s : State) : Bool := s.limik && !s.secError

/-- A handshake row (R453, R454): a transport that is not enabled drops the packet (R338). -/
def handRow (f : Hand → Bytes → State → Reply × State) (op : Nat) (h : Hand) (p : Bytes) (s : State) : State :=
  if !s.answers then s
  else
    let s1 := advance h.t s
    if !s1.transportOn h.transport then s1.bump32 Addr.AUTH_DROPS
    else serveHand f op h p (if h.transport = .mailbox then takeMailbox s1 else s1)

/-- SESSION_OPEN (R453). -/
def execSessionOpen (h : Hand) (p : Bytes) (s : State) : Host.Outcome State Fault Refusal := .next (handRow openSession 0 h p s)

/-- SESSION_KEY (R454). -/
def execSessionKey (h : Hand) (p : Bytes) (s : State) : Host.Outcome State Fault Refusal := .next (handRow keySession 2 h p s)

/-- HANDSHAKE_EXPIRY (R453): 30 s after its SESSION_OPEN. -/
def execHandshakeExpiry (t id : Nat) (s : State) : Host.Outcome State Fault Refusal :=
  .next (if s.secure.handshakes.any (fun k => k.id == id && decide (k.opened + secs 30 ≤ t)) then
      { advance t s with secure := { s.secure with handshakes := s.secure.handshakes.filter (fun k => k.id != id) } }
    else s)

/-- LOCKOUT_EXPIRY (R455): after 60 s. -/
def execLockoutExpiry (t tenant : Nat) (s : State) : Host.Outcome State Fault Refusal :=
  .next (match tabFind tenant s.secure.lockUntil with
    | some u =>
      if t < u then s
      else ({ advance t s with secure := { s.secure with lockUntil := tabErase tenant s.secure.lockUntil } }).setFlag (Addr.T_STATE tenant) 4 false
    | none => s)

/-- Whether a session has been idle for SESSION_IDLE seconds (R342). -/
def State.idleOver (s : State) (x : Session) : Bool := decide (x.lastAuth + secs (s.reg Addr.SESSION_IDLE) ≤ s.now)

/-- A session whose idle time is over closes (R342, R363). -/
def expireIdle (id : Nat) (s : State) : State :=
  match s.session id with
  | some x => if s.idleOver x then closeSession id 2 s else s
  | none => s

/-- SESSION_IDLE_EXPIRY (R342): not while firmware is away (R481). -/
def execSessionIdleExpiry (t id : Nat) (s : State) : Host.Outcome State Fault Refusal :=
  .next (if s.limik ∧ (s.session id).any (advance t s).idleOver then expireIdle id (advance t s) else s)

/-- EVENT_WINDOW_CLOSE (R503): a window of true time that is over raises its event. -/
def execEventWindowClose (t opcode key : Nat) (s : State) : Host.Outcome State Fault Refusal :=
  .next (match s.window opcode key with
    | some w => if s.on ∧ w.opened + w.length ≤ t then closeWindow opcode key (advance t s) else s
    | none => s)

/-! The session commands (R351) -/

/-- The session a SESSION_CLOSE names. -/
def closeNamed (e : Env) (p : Bytes) : Nat := if be p 0 4 = 0 then e.session else be p 0 4

/-- SESSION_CLOSE (R351): another session closes at once; the sending one after its reply. -/
def cmdSessionClose : CmdFn := fun e p s =>
  let id := closeNamed e p
  if p.length ≠ 4 ∨ (s.session id).isNone then refuse St.BAD_PARAM s
  else if !e.owner ∧ id ≠ e.session then refuse St.NOT_PERMITTED s
  else (ok, if id = e.session then s else closeSession id 1 s)

/-- DEVICE_INFO (R351). -/
def cmdDeviceInfo : CmdFn := fun _ p s =>
  if !p.isEmpty then refuse St.BAD_PARAM s
  else (⟨St.OK, toBE 4 (s.reg Addr.DEVICE_ID) ++ toBE 4 (s.reg Addr.CAPS) ++ toBE 8 (s.reg Addr.SERIAL) ++ toBE 4 (s.reg Addr.FW_VERSION) ++ toBE 2 s.device ++ zeros 2⟩, s)

/-- ECHO (R351). -/
def cmdEcho : CmdFn := fun _ p s => if 1024 < p.length then refuse St.BAD_PARAM s else (⟨St.OK, p⟩, s)

/-- EVENT_SUBSCRIBE (R350). -/
def cmdEventSubscribe : CmdFn := fun e p s =>
  if p.length ≠ 32 then refuse St.BAD_PARAM s else (ok, s.updSession e.session (fun x => { x with mask := BitVec.ofNat 256 (natLE p) }))

/-- EVENT_SINK (R350, R354): an open owner session on the management port, or 0. -/
def cmdEventSink : CmdFn := fun e p s =>
  let id := be p 0 4
  if !e.owner then refuse St.NOT_PERMITTED s
  else if p.length ≠ 4 ∨ (id ≠ 0 ∧ !(s.session id).any (fun x => x.tenant == owner && x.transport == .mgmt)) then refuse St.BAD_PARAM s
  else (ok, s.setReg Addr.EVENT_SINK id)

/-! One command in its turn (R343 to R346) -/

/-- Whether R349 refuses the TENANT of a command. -/
def State.tenantRefused (s : State) (x : Session) (t : Nat) : Bool := (x.tenant != owner && t != x.tenant) || !s.tenantExists t

/-- Replies kept of a session (R344). -/
def replyCache : Nat := 64

/-- A command runs in its session as SEQ E + 1 (R343 to R349): its header's refusal, then R349, then its own action; the reply is
kept and leaves, before a reset that the command begins. ZEROISE sends none (R462). -/
def runOne (f : CmdFn) (x : Session) (h : HeldCommand) (s : State) : State :=
  let e : Env := ⟨x.id, x.tenant, h.tenant, h.tag, x.transport⟩
  let s0 := (s.updSession x.id (fun y => { y with e := h.seq })).bump64 Addr.CMD_EXECUTED
  let r := if h.bad ≠ 0 then refuse h.bad s0 else if s0.tenantRefused x h.tenant then refuse St.NOT_PERMITTED s0 else f e h.params s0
  let reply := SentPacket.close x.key r.2.device
    { transport := x.transport, peer := x.peer, session := x.id, opcode := h.opcode, tag := h.tag, tenant := h.tenant, seq := h.seq,
      status := r.1.status, isSealed := true, params := r.1.params }
  let s1 := r.2.updSession x.id (fun y => { y with cache := ((h.seq, reply) :: y.cache).take replyCache })
  let done := r.1.status == St.OK
  if h.opcode = 0x0A0A ∧ done then s1
  else
    let s2 := if s.bridge.busy ∧ !s1.bridge.busy then s1.emit (.reply reply) else sendReply reply s1
    if h.opcode = 0x0004 ∧ done ∧ closeNamed e h.params = x.id then closeSession x.id 1 s2 else s2

end Sys2Proof.Machine
end

