-- ==== Sys2Proof/Machine/Commands.lean ====
section
/-!
DEFINITION. The commands of the opcode table (R350): which action each opcode has, the running of a command in its session
(R343 to R349), the arrival of a command packet (R335 to R345), and one meaning per row that a command drives. Logs 5, 48 and
56 name what the manual leaves open here.
-/
namespace Sys2Proof.Machine

/-! Opcodes (R350) -/

/-- GROUP_JOIN as a packet brings it: what the fabric tells the device is free (log 46). -/
def cmdGroupJoinPacket : CmdFn := fun e p s => cmdGroupJoin (Config.joinLink s.fresh) e p { s with fresh := s.fresh + 1 }

/-- Opcodes 0x0000 to 0x01FF (R350). -/
def cmdTable0 : List (Nat × CmdFn) := [
  (0x0004, cmdSessionClose), (0x0006, cmdDeviceInfo), (0x0008, cmdEcho),
  (0x000A, cmdEventSubscribe), (0x000C, cmdEventSink), (0x0100, cmdCsrRead),
  (0x0101, cmdCsrWrite), (0x0102, cmdCsrModify)]

/-- Opcodes 0x0200 to 0x03FF (R350). -/
def cmdTable1 : List (Nat × CmdFn) := [
  (0x0200, cmdCopySubmit), (0x0202, cmdCopyStatus), (0x0210, needsHbm cmdMemWindowSet),
  (0x0212, cmdMemMapRead), (0x0220, cmdHbmPageRetire), (0x0300, cmdRuleWrite),
  (0x0301, cmdRuleRead), (0x0302, cmdRuleEpochFlip), (0x0304, cmdRuleStageOpen),
  (0x0306, cmdRuleStageClose), (0x0308, cmdParseLoad), (0x030A, cmdParseFlip),
  (0x030C, cmdRuleTemplateWrite), (0x030E, cmdFragFlush)]

/-- Opcodes 0x0400 to 0x05FF (R350). -/
def cmdTable2 : List (Nat × CmdFn) := [
  (0x0400, needsHbm cmdModelLoad), (0x0402, cmdModelSwap), (0x0404, cmdModelUnload),
  (0x0406, cmdModelStatus), (0x0410, needsHbm cmdJobStart), (0x0412, cmdJobCheckpoint),
  (0x0414, cmdJobCancel), (0x0416, cmdJobStatus), (0x0420, cmdCellAssign),
  (0x0422, cmdCellQuery), (0x0500, cmdPolicerSet), (0x0502, cmdQueueSet),
  (0x0504, cmdShaperSet), (0x0506, cmdTmRead), (0x0508, cmdFenceSet),
  (0x050A, cmdMirrorSet), (0x0510, needsHbm cmdFlowRegionSet), (0x0512, cmdFlowRemove),
  (0x0514, cmdFlowRead), (0x0516, cmdFlowFlush)]

/-- Opcodes 0x0600 to 0x07FF (R350). -/
def cmdTable3 : List (Nat × CmdFn) := [
  (0x0600, cmdGroupJoinPacket), (0x0602, cmdGroupLeave), (0x0604, cmdGroupStatus),
  (0x0606, cmdFabricPortSet), (0x0608, cmdRouteSet), (0x060A, needsHbm cmdLandingSet),
  (0x060C, cmdLandingClear), (0x060E, cmdBridgeSet), (0x0700, cmdRecoatSet),
  (0x0702, cmdIntegrityStatus), (0x0704, cmdFenceCell), (0x0708, cmdTestPackLoad),
  (0x070A, cmdTestRun), (0x070C, cmdSignatureRead)]

/-- Opcodes 0x0800 to 0x0BFF (R350). -/
def cmdTable4 : List (Nat × CmdFn) := [
  (0x0800, cmdCapSet), (0x0802, cmdPowerStatus), (0x0804, cmdPrimerRun),
  (0x0806, cmdEnergyRead), (0x0808, cmdCapPrioritySet), (0x0900, cmdFreeze),
  (0x0902, cmdCounterRead), (0x0904, cmdTraceArm), (0x0906, cmdTraceRead),
  (0x0908, cmdDumpArm), (0x090A, cmdSwatchSet), (0x090C, cmdWaitforRead),
  (0x0A00, cmdAttest), (0x0A02, cmdTenantCreate), (0x0A04, cmdTenantDestroy),
  (0x0A06, cmdKeyInstall), (0x0A08, cmdSignerRegister), (0x0A0A, cmdZeroise),
  (0x0A0C, cmdApprovedModeSet), (0x0B00, needsHbm cmdFwStage), (0x0B02, cmdFwActivate),
  (0x0B04, cmdFwStatus), (0x0B06, cmdDeviceReset)]

/-- The action of an opcode in an open session, none for an opcode that is refused with BAD_OPCODE (R348). -/
def cmdOf (op : Nat) : Option CmdFn :=
  ((cmdTable0 ++ cmdTable1 ++ cmdTable2 ++ cmdTable3 ++ cmdTable4).find? (fun x => x.1 == op)).map Prod.snd

/-- The action of a command that waited: BAD_OPCODE for an opcode that has none. -/
def actionOf (op : Nat) : CmdFn := (cmdOf op).getD (fun _ _ s => refuse St.BAD_OPCODE s)

/-! Running (R343) -/

/-- Commands a session holds out of order at most. -/
def heldMax : Nat := 64

/-- Held commands run as soon as every lower number has been executed (R343). -/
def runHeld (id : Nat) : (n : Nat) → State → State
  | 0, s => s
  | n + 1, s =>
    match s.session id with
    | none => s
    | some x =>
      match x.held.find? (fun h => h.seq == x.e + 1) with
      | none => s
      | some h => runHeld id n (runOne (actionOf h.opcode) x h (s.updSession id (fun y => { y with held := y.held.filter (fun k => k.seq != h.seq) })))

/-- The header fields of a command that name a value the header may not hold (R348, step 3): a TENANT above 255. -/
def tenantBad (t : Nat) : Nat := if 255 < t then St.BAD_PARAM else 0

/-- The unsealed AUTH_FAIL for a SESSION that is not open (R340). -/
def notOpen (tr : Transport) (peer session op tag tenant seq : Nat) (s : State) : State :=
  sendReply (SentPacket.close [] s.device
    { transport := tr, peer, session, opcode := op, tag, tenant, seq, status := St.AUTH_FAIL, isSealed := false, params := [] }) s

/-- A command of an open session arrives next in its order and runs (R343 to R349), and with it what it held back. -/
def runCommand (f : CmdFn) (op : Nat) (c : Cmd) (p : Bytes) (s : State) : State :=
  if !s.answers then s
  else
    let s1 := expireIdle c.session (advance c.t s)
    match s1.session c.session with
    | none => notOpen .mgmt 0 c.session op c.tag c.tenant 0 s1
    | some x =>
      if !s1.transportOn x.transport then s1.bump32 Addr.AUTH_DROPS
      else
        let s2 := s1.updSession x.id (fun y => { y with lastAuth := s1.now })
        let s3 := if x.transport = .mailbox then takeMailbox s2 else s2
        runHeld x.id heldMax (runOne f x { seq := x.e + 1, opcode := op, tag := c.tag, tenant := c.tenant, params := p, bad := tenantBad c.tenant } s3)

/-! Arrival of a packet (R335 to R345) -/

/-- The ingress FIFO of a transport (R75). -/
def ingressFifo (tr : Transport) : Nat := 0x8E0 + Transport.num tr

/-- Whether a packet waits in its ingress FIFO. -/
def State.inIngress (s : State) (tr : Transport) (packet : Bytes) : Bool := (s.fifo (ingressFifo tr)).pkts.any (fun q => q.data == wordsOf packet)

/-- Whether a packet's turn has come (R345): of the packets that wait, those of the management port go before those of the fabric and
these before the mailbox's, and those of one transport in arrival order. -/
def State.ingressTurn (s : State) (tr : Transport) (packet : Bytes) : Bool :=
  (List.range (Transport.num tr)).all (fun i => (s.fifo (0x8E0 + i)).pkts.isEmpty) &&
    ((s.fifo (ingressFifo tr)).pkts.head?).all (fun q => q.data == wordsOf packet)

/-- A packet leaves its ingress FIFO, through which every packet passes (R65, R75): it is committed there where it does not wait
already, and taken by Limik; none where it does not fit and is rewound (R79). -/
def takeIngress (tr : Transport) (packet : Bytes) (s : State) : Option State :=
  let f := ingressFifo tr
  let ws := wordsOf packet
  if s.inIngress tr packet then
    let x := s.fifo f
    let i := x.pkts.findIdx (fun q => q.data == ws)
    let s1 := s.setFifo f { x with pkts := x.pkts.eraseIdx i }
    -- the reply of a mailbox command that was in ingress at a function-level reset is discarded (R332)
    some (if tr = .mailbox ∧ s.bridge.stale.contains ws then { s1 with bridge := { s.bridge with stale := s.bridge.stale.erase ws, mute := true } } else s1)
  else if s.fifoFits f ws.length then
    some ((s.bump64 (Addr.COMMIT_COUNT f)).raise (Addr.HIGH_WATER f) ((s.fifo f).wordsHeld + ws.length))
  else none

/-- A packet waits in its ingress FIFO while firmware is away (R363, R481); one that does not fit is rewound. -/
def holdIngress (tr : Transport) (packet : Bytes) (s : State) : State :=
  let f := ingressFifo tr
  let ws := wordsOf packet
  if s.inIngress tr packet then s
  else if s.fifoFits f ws.length then commitPacket f ⟨ws.length, none, ws⟩ s
  else overflowPacket f s

/-- The fields of a command header (R335). -/
structure Header1 where
  version : Nat
  flags : Nat
  opcode : Nat
  tag : Nat
  tenant : Nat
  target : Nat
  paramLen : Nat
  status : Nat
  reserved : Nat
  session : Nat
  seq : Nat
deriving DecidableEq, Repr

/-- The header of a packet (R335). -/
def header1 (p : Bytes) : Header1 :=
  { version := be p 0 1, flags := be p 1 1, opcode := be p 2 2, tag := be p 4 4, tenant := be p 8 2, target := be p 10 2, paramLen := be p 12 4
    status := be p 16 2, reserved := be p 18 2, session := be p 20 4, seq := be p 24 8 }

/-- FLAGS.TAGGED (R336). -/
def Header1.tagged (h : Header1) : Bool := bitAt h.flags 1

/-- Whether a packet's length agrees with its header (R337). -/
def wellFormedPacket (p : Bytes) (h : Header1) : Bool :=
  decide (32 ≤ p.length ∧ p.length ≤ 65504) && p.length == 32 + h.paramLen + (if h.tagged then 16 else 0)

/-- Steps 1 to 3 of R348: the status a header is refused with, 0 for none; `known` says that its opcode is one of R350 here. -/
def Header1.refused (h : Header1) (known : Bool) : Nat :=
  if h.version ≠ 1 ∨ !known then St.BAD_OPCODE
  else if h.status ≠ 0 ∨ h.reserved ≠ 0 ∨ h.flags &&& 0xF5 ≠ 0 ∨ 255 < h.tenant ∨ (8192 ≤ h.target ∧ h.target ≠ 0xFFFF) then St.BAD_PARAM
  else 0

/-- A packet of session 0 (R340, R348). -/
def arriveHand (tr : Transport) (peer : Nat) (h : Header1) (p : Bytes) (s : State) : State :=
  if h.opcode ≠ 0 ∧ h.opcode ≠ 2 then freeMailbox tr (s.bump32 Addr.AUTH_DROPS)
  else
    let hd : Hand := ⟨s.now, tr, peer, h.tenant, h.tag, h.seq, h.tagged⟩
    let bad := h.refused true
    serveHand (if bad ≠ 0 then (fun _ _ s => refuse bad s) else if h.opcode = 0 then openSession else keySession) h.opcode hd (slice p 32 h.paramLen) s

/-- A packet of an open session by its SEQ (R343, R344). -/
def arriveInOrder (x : Session) (h : Header1) (params : Bytes) (s : State) : State :=
  let k : HeldCommand := { seq := h.seq, opcode := h.opcode, tag := h.tag, tenant := h.tenant, params, bad := h.refused (cmdOf h.opcode).isSome }
  if h.seq ≤ x.e then
    match x.cache.find? (fun c => c.1 == h.seq) with
    | some c => sendReply c.2 (s.bump32 Addr.CMD_REPLAYED)
    | none => freeMailbox x.transport (s.bump32 Addr.WINDOW_DROPS)
  else if x.e + heldMax < h.seq then freeMailbox x.transport (s.bump32 Addr.WINDOW_DROPS)
  else if h.seq = x.e + 1 then runHeld x.id heldMax (runOne (actionOf h.opcode) x k s)
  else if x.held.any (fun q => q.seq == h.seq) then freeMailbox x.transport (s.bump32 Addr.WINDOW_DROPS)
  else freeMailbox x.transport (s.updSession x.id (fun y => { y with held := y.held ++ [k] }))

/-- A packet of a session other than 0 (R340 to R342). -/
def arriveSession (tr : Transport) (peer : Nat) (h : Header1) (p : Bytes) (s0 : State) : State :=
  let s := expireIdle h.session s0
  match s.session h.session with
  | none => notOpen tr peer h.session h.opcode h.tag h.tenant h.seq s
  | some x =>
    if x.transport ≠ tr ∨ x.peer ≠ peer ∨ !h.tagged then freeMailbox tr (s.bump32 Addr.AUTH_DROPS)
    else match Config.gcmOpen x.key (toBE 4 0 ++ toBE 8 h.seq) (p.take 32) (slice p 32 h.paramLen) (slice p (32 + h.paramLen) 16) with
      | none => freeMailbox tr (s.bump32 Addr.AUTH_DROPS)
      | some params => arriveInOrder x h params (s.updSession x.id (fun y => { y with lastAuth := s.now }))

/-- The key of a forwarded session: its device, SESSION and, before it has one, its TAG. -/
def relayKey (device : Nat) (p : Bytes) : Nat × Nat × Nat :=
  let h := header1 p
  (device, h.session, if h.session = 0 then h.tag else 0)

/-- Where the packets of a forwarded session entered is kept for its replies and events (R339). -/
def noteRelay (tr : Transport) (peer target : Nat) (p : Bytes) (s : State) : State :=
  { s with fabric.relays := s.fabric.relays.filter (fun r => r.1 != relayKey target p) ++ [(relayKey target p, tr, peer)] }

/-- Where a reply or an event of another device goes, if it is of a forwarded session: TARGET names the device that sent it (R346). -/
def State.relayOf (s : State) (tr : Transport) (p : Bytes) : Option (Transport × Nat) :=
  let h := header1 p
  if tr = .fabric ∧ (bitAt h.flags 0 ∨ bitAt h.flags 2) then (s.fabric.relays.find? (fun r => r.1 == relayKey h.target p)).map Prod.snd else none

/-- A packet for another device (R339): forwarded unchanged on virtual channel 0, where there is a route. -/
def forwardPacket (tr : Transport) (peer target : Nat) (p : Bytes) (s : State) : State :=
  freeMailbox tr (if s.joined ∧ s.hop s.device target ≠ .none ∧ s.transportOn .fabric then noteSends (sendCmd target p (noteRelay tr peer target p s))
    else s.bump32 Addr.FWD_DROPS)

/-- A reply or an event that another device sent in a forwarded session returns on the transport where the session's packets entered,
unread beyond its header (R339). -/
def relayPacket (tr : Transport) (peer : Nat) (p : Bytes) (s : State) : State :=
  let out : Output := .relay tr peer p
  if !s.transportOn tr then s
  else match tr with
    | .mailbox =>
      if bitAt (header1 p).flags 2 then ringPacket (header1 p).opcode p out s
      else signal 0 ({ s with bridge := { s.bridge with replyReady := true, reply := p } }.emit out)
    | .fabric => noteSends (sendCmd peer p (s.emit out))
    | .mgmt => s.emit out

/-- A command packet is taken from its transport (R337 to R342). -/
def arrivePacket (tr : Transport) (peer : Nat) (p : Bytes) (s : State) : State :=
  let h := header1 p
  if !s.transportOn tr then freeMailbox tr (s.bump32 Addr.AUTH_DROPS)
  else if !wellFormedPacket p h then freeMailbox tr (s.bump32 Addr.MALFORMED_DROPS)
  else match s.relayOf tr p with
  | some (tr1, peer1) => relayPacket tr1 peer1 p s
  | none =>
  if h.target < 8192 ∧ h.target ≠ s.device then forwardPacket tr peer h.target p s
  else if h.session = 0 then arriveHand tr peer h p s
  else arriveSession tr peer h p s

/-- COMMAND_PACKET_ARRIVE (R335 to R345): while firmware is away packets wait; in the ERROR state no session packet is
answered (R466); a packet with an uncorrectable word ends unread (R76). One whose turn has not come waits in its FIFO (R345). -/
def execCommandPacketArrive (t : Nat) (tr : Transport) (peer : Nat) (packet : Checked Bytes) (s : State) : Host.Outcome State Fault Refusal :=
  .next (if s.on ∧ (s.stage = 2 ∨ (s.limik ∧ !s.ingressTurn tr packet.item)) then holdIngress tr packet.item (advance t s)
    else if !s.limik then s
    else
      match takeIngress tr packet.item (advance t s) with
      | none => freeMailbox tr (overflowPacket (ingressFifo tr) (advance t s))
      | some s0 =>
        let s1 := noteRead (ingressFifo tr) packet.chk s0
        if s1.secError ∨ packet.chk.bad then freeMailbox tr s1 else arrivePacket tr peer packet.item s1)

/-! The rows of commands -/

/-- SESSION_CLOSE (R351). -/
def execSessionClose (c : Cmd) (p : Bytes) (s : State) : Host.Outcome State Fault Refusal := .next (runCommand cmdSessionClose 0x0004 c p s)

/-- DEVICE_INFO (R351). -/
def execDeviceInfo (c : Cmd) (p : Bytes) (s : State) : Host.Outcome State Fault Refusal := .next (runCommand cmdDeviceInfo 0x0006 c p s)

/-- ECHO (R351). -/
def execEcho (c : Cmd) (p : Bytes) (s : State) : Host.Outcome State Fault Refusal := .next (runCommand cmdEcho 0x0008 c p s)

/-- EVENT_SUBSCRIBE (R350). -/
def execEventSubscribe (c : Cmd) (p : Bytes) (s : State) : Host.Outcome State Fault Refusal := .next (runCommand cmdEventSubscribe 0x000A c p s)

/-- EVENT_SINK (R350). -/
def execEventSink (c : Cmd) (p : Bytes) (s : State) : Host.Outcome State Fault Refusal := .next (runCommand cmdEventSink 0x000C c p s)

/-- CSR_READ (R358). -/
def execCsrRead (c : Cmd) (p : Bytes) (s : State) : Host.Outcome State Fault Refusal := .next (runCommand cmdCsrRead 0x0100 c p s)

/-- CSR_WRITE (R358). -/
def execCsrWrite (c : Cmd) (p : Bytes) (s : State) : Host.Outcome State Fault Refusal := .next (runCommand cmdCsrWrite 0x0101 c p s)

/-- CSR_MODIFY (R359). -/
def execCsrModify (c : Cmd) (p : Bytes) (s : State) : Host.Outcome State Fault Refusal := .next (runCommand cmdCsrModify 0x0102 c p s)

/-- COPY_SUBMIT (R223). -/
def execCopySubmit (c : Cmd) (p : Bytes) (s : State) : Host.Outcome State Fault Refusal := .next (runCommand cmdCopySubmit 0x0200 c p s)

/-- COPY_STATUS (R223). -/
def execCopyStatus (c : Cmd) (p : Bytes) (s : State) : Host.Outcome State Fault Refusal := .next (runCommand cmdCopyStatus 0x0202 c p s)

/-- MEM_WINDOW_SET (R220). -/
def execMemWindowSet (c : Cmd) (p : Bytes) (s : State) : Host.Outcome State Fault Refusal := .next (runCommand (needsHbm cmdMemWindowSet) 0x0210 c p s)

/-- MEM_MAP_READ (R221). -/
def execMemMapRead (c : Cmd) (p : Bytes) (s : State) : Host.Outcome State Fault Refusal := .next (runCommand cmdMemMapRead 0x0212 c p s)

/-- HBM_PAGE_RETIRE (R160). -/
def execHbmPageRetire (c : Cmd) (p : Bytes) (s : State) : Host.Outcome State Fault Refusal := .next (runCommand cmdHbmPageRetire 0x0220 c p s)

/-- RULE_WRITE (R137). -/
def execRuleWrite (c : Cmd) (p : Bytes) (s : State) : Host.Outcome State Fault Refusal := .next (runCommand cmdRuleWrite 0x0300 c p s)

/-- RULE_READ (R137). -/
def execRuleRead (c : Cmd) (p : Bytes) (s : State) : Host.Outcome State Fault Refusal := .next (runCommand cmdRuleRead 0x0301 c p s)

/-- RULE_EPOCH_FLIP (R123). -/
def execRuleEpochFlip (c : Cmd) (p : Bytes) (s : State) : Host.Outcome State Fault Refusal := .next (runCommand cmdRuleEpochFlip 0x0302 c p s)

/-- RULE_STAGE_OPEN (R122). -/
def execRuleStageOpen (c : Cmd) (p : Bytes) (s : State) : Host.Outcome State Fault Refusal := .next (runCommand cmdRuleStageOpen 0x0304 c p s)

/-- RULE_STAGE_CLOSE (R122). -/
def execRuleStageClose (c : Cmd) (p : Bytes) (s : State) : Host.Outcome State Fault Refusal := .next (runCommand cmdRuleStageClose 0x0306 c p s)

/-- PARSE_LOAD (R105). -/
def execParseLoad (c : Cmd) (p : Bytes) (s : State) : Host.Outcome State Fault Refusal := .next (runCommand cmdParseLoad 0x0308 c p s)

/-- PARSE_FLIP (R104). -/
def execParseFlip (c : Cmd) (p : Bytes) (s : State) : Host.Outcome State Fault Refusal := .next (runCommand cmdParseFlip 0x030A c p s)

/-- RULE_TEMPLATE_WRITE (R137). -/
def execRuleTemplateWrite (c : Cmd) (p : Bytes) (s : State) : Host.Outcome State Fault Refusal := .next (runCommand cmdRuleTemplateWrite 0x030C c p s)

/-- FRAG_FLUSH (R137). -/
def execFragFlush (c : Cmd) (p : Bytes) (s : State) : Host.Outcome State Fault Refusal := .next (runCommand cmdFragFlush 0x030E c p s)

/-- MODEL_LOAD (R251). -/
def execModelLoad (c : Cmd) (p : Bytes) (s : State) : Host.Outcome State Fault Refusal := .next (runCommand (needsHbm cmdModelLoad) 0x0400 c p s)

/-- MODEL_SWAP (R255). -/
def execModelSwap (c : Cmd) (p : Bytes) (s : State) : Host.Outcome State Fault Refusal := .next (runCommand cmdModelSwap 0x0402 c p s)

/-- MODEL_UNLOAD (R257). -/
def execModelUnload (c : Cmd) (p : Bytes) (s : State) : Host.Outcome State Fault Refusal := .next (runCommand cmdModelUnload 0x0404 c p s)

/-- MODEL_STATUS (R266). -/
def execModelStatus (c : Cmd) (p : Bytes) (s : State) : Host.Outcome State Fault Refusal := .next (runCommand cmdModelStatus 0x0406 c p s)

/-- JOB_START (R260). -/
def execJobStart (c : Cmd) (p : Bytes) (s : State) : Host.Outcome State Fault Refusal := .next (runCommand (needsHbm cmdJobStart) 0x0410 c p s)

/-- JOB_CHECKPOINT (R263). -/
def execJobCheckpoint (c : Cmd) (p : Bytes) (s : State) : Host.Outcome State Fault Refusal := .next (runCommand cmdJobCheckpoint 0x0412 c p s)

/-- JOB_CANCEL (R265). -/
def execJobCancel (c : Cmd) (p : Bytes) (s : State) : Host.Outcome State Fault Refusal := .next (runCommand cmdJobCancel 0x0414 c p s)

/-- JOB_STATUS (R261). -/
def execJobStatus (c : Cmd) (p : Bytes) (s : State) : Host.Outcome State Fault Refusal := .next (runCommand cmdJobStatus 0x0416 c p s)

/-- CELL_ASSIGN (R204). -/
def execCellAssign (c : Cmd) (p : Bytes) (s : State) : Host.Outcome State Fault Refusal := .next (runCommand cmdCellAssign 0x0420 c p s)

/-- CELL_QUERY (R223). -/
def execCellQuery (c : Cmd) (p : Bytes) (s : State) : Host.Outcome State Fault Refusal := .next (runCommand cmdCellQuery 0x0422 c p s)

/-- POLICER_SET (R286). -/
def execPolicerSet (c : Cmd) (p : Bytes) (s : State) : Host.Outcome State Fault Refusal := .next (runCommand cmdPolicerSet 0x0500 c p s)

/-- QUEUE_SET (R293). -/
def execQueueSet (c : Cmd) (p : Bytes) (s : State) : Host.Outcome State Fault Refusal := .next (runCommand cmdQueueSet 0x0502 c p s)

/-- SHAPER_SET (R292). -/
def execShaperSet (c : Cmd) (p : Bytes) (s : State) : Host.Outcome State Fault Refusal := .next (runCommand cmdShaperSet 0x0504 c p s)

/-- TM_READ (R293). -/
def execTmRead (c : Cmd) (p : Bytes) (s : State) : Host.Outcome State Fault Refusal := .next (runCommand cmdTmRead 0x0506 c p s)

/-- FENCE_SET (R281). -/
def execFenceSet (c : Cmd) (p : Bytes) (s : State) : Host.Outcome State Fault Refusal := .next (runCommand cmdFenceSet 0x0508 c p s)

/-- MIRROR_SET (R283). -/
def execMirrorSet (c : Cmd) (p : Bytes) (s : State) : Host.Outcome State Fault Refusal := .next (runCommand cmdMirrorSet 0x050A c p s)

/-- FLOW_REGION_SET (R141). -/
def execFlowRegionSet (c : Cmd) (p : Bytes) (s : State) : Host.Outcome State Fault Refusal := .next (runCommand (needsHbm cmdFlowRegionSet) 0x0510 c p s)

/-- FLOW_REMOVE (R161). -/
def execFlowRemove (c : Cmd) (p : Bytes) (s : State) : Host.Outcome State Fault Refusal := .next (runCommand cmdFlowRemove 0x0512 c p s)

/-- FLOW_READ (R161). -/
def execFlowRead (c : Cmd) (p : Bytes) (s : State) : Host.Outcome State Fault Refusal := .next (runCommand cmdFlowRead 0x0514 c p s)

/-- FLOW_FLUSH (R161). -/
def execFlowFlush (c : Cmd) (p : Bytes) (s : State) : Host.Outcome State Fault Refusal := .next (runCommand cmdFlowFlush 0x0516 c p s)

/-- GROUP_LEAVE (R331). -/
def execGroupLeave (c : Cmd) (p : Bytes) (s : State) : Host.Outcome State Fault Refusal := .next (runCommand cmdGroupLeave 0x0602 c p s)

/-- GROUP_STATUS (R330). -/
def execGroupStatus (c : Cmd) (p : Bytes) (s : State) : Host.Outcome State Fault Refusal := .next (runCommand cmdGroupStatus 0x0604 c p s)

/-- FABRIC_PORT_SET (R330). -/
def execFabricPortSet (c : Cmd) (p : Bytes) (s : State) : Host.Outcome State Fault Refusal := .next (runCommand cmdFabricPortSet 0x0606 c p s)

/-- ROUTE_SET (R330). -/
def execRouteSet (c : Cmd) (p : Bytes) (s : State) : Host.Outcome State Fault Refusal := .next (runCommand cmdRouteSet 0x0608 c p s)

/-- LANDING_SET (R317). -/
def execLandingSet (c : Cmd) (p : Bytes) (s : State) : Host.Outcome State Fault Refusal := .next (runCommand (needsHbm cmdLandingSet) 0x060A c p s)

/-- LANDING_CLEAR (R330). -/
def execLandingClear (c : Cmd) (p : Bytes) (s : State) : Host.Outcome State Fault Refusal := .next (runCommand cmdLandingClear 0x060C c p s)

/-- BRIDGE_SET (R329). -/
def execBridgeSet (c : Cmd) (p : Bytes) (s : State) : Host.Outcome State Fault Refusal := .next (runCommand cmdBridgeSet 0x060E c p s)

/-- RECOAT_SET (R379). -/
def execRecoatSet (c : Cmd) (p : Bytes) (s : State) : Host.Outcome State Fault Refusal := .next (runCommand cmdRecoatSet 0x0700 c p s)

/-- INTEGRITY_STATUS (R398). -/
def execIntegrityStatus (c : Cmd) (p : Bytes) (s : State) : Host.Outcome State Fault Refusal := .next (runCommand cmdIntegrityStatus 0x0702 c p s)

/-- FENCE_CELL (R383). -/
def execFenceCell (c : Cmd) (p : Bytes) (s : State) : Host.Outcome State Fault Refusal := .next (runCommand cmdFenceCell 0x0704 c p s)

/-- TEST_PACK_LOAD (R392). -/
def execTestPackLoad (c : Cmd) (p : Bytes) (s : State) : Host.Outcome State Fault Refusal := .next (runCommand cmdTestPackLoad 0x0708 c p s)

/-- TEST_RUN (R393). -/
def execTestRun (c : Cmd) (p : Bytes) (s : State) : Host.Outcome State Fault Refusal := .next (runCommand cmdTestRun 0x070A c p s)

/-- SIGNATURE_READ (R394). -/
def execSignatureRead (c : Cmd) (p : Bytes) (s : State) : Host.Outcome State Fault Refusal := .next (runCommand cmdSignatureRead 0x070C c p s)

/-- CAP_SET (R406). -/
def execCapSet (c : Cmd) (p : Bytes) (s : State) : Host.Outcome State Fault Refusal := .next (runCommand cmdCapSet 0x0800 c p s)

/-- POWER_STATUS (R418). -/
def execPowerStatus (c : Cmd) (p : Bytes) (s : State) : Host.Outcome State Fault Refusal := .next (runCommand cmdPowerStatus 0x0802 c p s)

/-- PRIMER_RUN (R405). -/
def execPrimerRun (c : Cmd) (p : Bytes) (s : State) : Host.Outcome State Fault Refusal := .next (runCommand cmdPrimerRun 0x0804 c p s)

/-- ENERGY_READ (R417). -/
def execEnergyRead (c : Cmd) (p : Bytes) (s : State) : Host.Outcome State Fault Refusal := .next (runCommand cmdEnergyRead 0x0806 c p s)

/-- CAP_PRIORITY_SET (R407). -/
def execCapPrioritySet (c : Cmd) (p : Bytes) (s : State) : Host.Outcome State Fault Refusal := .next (runCommand cmdCapPrioritySet 0x0808 c p s)

/-- FREEZE (R424). -/
def execFreeze (c : Cmd) (p : Bytes) (s : State) : Host.Outcome State Fault Refusal := .next (runCommand cmdFreeze 0x0900 c p s)

/-- COUNTER_READ (R426). -/
def execCounterRead (c : Cmd) (p : Bytes) (s : State) : Host.Outcome State Fault Refusal := .next (runCommand cmdCounterRead 0x0902 c p s)

/-- TRACE_ARM (R430). -/
def execTraceArm (c : Cmd) (p : Bytes) (s : State) : Host.Outcome State Fault Refusal := .next (runCommand cmdTraceArm 0x0904 c p s)

/-- TRACE_READ (R441). -/
def execTraceRead (c : Cmd) (p : Bytes) (s : State) : Host.Outcome State Fault Refusal := .next (runCommand cmdTraceRead 0x0906 c p s)

/-- DUMP_ARM (R437). -/
def execDumpArm (c : Cmd) (p : Bytes) (s : State) : Host.Outcome State Fault Refusal := .next (runCommand cmdDumpArm 0x0908 c p s)

/-- SWATCH_SET (R435). -/
def execSwatchSet (c : Cmd) (p : Bytes) (s : State) : Host.Outcome State Fault Refusal := .next (runCommand cmdSwatchSet 0x090A c p s)

/-- WAITFOR_READ (R438). -/
def execWaitforRead (c : Cmd) (p : Bytes) (s : State) : Host.Outcome State Fault Refusal := .next (runCommand cmdWaitforRead 0x090C c p s)

/-- ATTEST (R461). -/
def execAttest (c : Cmd) (p : Bytes) (s : State) : Host.Outcome State Fault Refusal := .next (runCommand cmdAttest 0x0A00 c p s)

/-- TENANT_CREATE (R446). -/
def execTenantCreate (c : Cmd) (p : Bytes) (s : State) : Host.Outcome State Fault Refusal := .next (runCommand cmdTenantCreate 0x0A02 c p s)

/-- TENANT_DESTROY (R448). -/
def execTenantDestroy (c : Cmd) (p : Bytes) (s : State) : Host.Outcome State Fault Refusal := .next (runCommand cmdTenantDestroy 0x0A04 c p s)

/-- KEY_INSTALL (R456). -/
def execKeyInstall (c : Cmd) (p : Bytes) (s : State) : Host.Outcome State Fault Refusal := .next (runCommand cmdKeyInstall 0x0A06 c p s)

/-- SIGNER_REGISTER (R457). -/
def execSignerRegister (c : Cmd) (p : Bytes) (s : State) : Host.Outcome State Fault Refusal := .next (runCommand cmdSignerRegister 0x0A08 c p s)

/-- ZEROISE (R462). -/
def execZeroise (c : Cmd) (p : Bytes) (s : State) : Host.Outcome State Fault Refusal := .next (runCommand cmdZeroise 0x0A0A c p s)

/-- APPROVED_MODE_SET (R465). -/
def execApprovedModeSet (c : Cmd) (p : Bytes) (s : State) : Host.Outcome State Fault Refusal := .next (runCommand cmdApprovedModeSet 0x0A0C c p s)

/-- FW_STAGE (R478). -/
def execFwStage (c : Cmd) (p : Bytes) (s : State) : Host.Outcome State Fault Refusal := .next (runCommand (needsHbm cmdFwStage) 0x0B00 c p s)

/-- FW_ACTIVATE (R479). -/
def execFwActivate (c : Cmd) (p : Bytes) (s : State) : Host.Outcome State Fault Refusal := .next (runCommand cmdFwActivate 0x0B02 c p s)

/-- FW_STATUS (R483). -/
def execFwStatus (c : Cmd) (p : Bytes) (s : State) : Host.Outcome State Fault Refusal := .next (runCommand cmdFwStatus 0x0B04 c p s)

/-- DEVICE_RESET (R483). -/
def execDeviceReset (c : Cmd) (p : Bytes) (s : State) : Host.Outcome State Fault Refusal := .next (runCommand cmdDeviceReset 0x0B06 c p s)

/-- GROUP_JOIN (R321). -/
def execGroupJoin (c : Cmd) (p : Bytes) (link : JoinInfo) (s : State) : Host.Outcome State Fault Refusal := .next (runCommand (cmdGroupJoin link) 0x0600 c p s)

/-! The rows of register accesses (R358, R359): each is a command of one access -/

/-- A CSR_WRITE of one word. -/
def writeCsr (c : Cmd) (addr : Nat) (v : W32) (s : State) : State :=
  runCommand cmdCsrWrite 0x0101 c (toBE 4 addr ++ toBE 2 1 ++ zeros 2 ++ toBE 4 v.toNat) s

/-- A CSR_READ of `n` words. -/
def readCsr (c : Cmd) (addr n : Nat) (s : State) : State := runCommand cmdCsrRead 0x0100 c (toBE 4 addr ++ toBE 2 n ++ zeros 2) s

/-- REGISTER_WRITE (R359). -/
def execRegisterWrite (c : Cmd) (addr : Nat) (v : W32) (s : State) : Host.Outcome State Fault Refusal := .next (writeCsr c addr v s)

/-- LO_REGISTER_READ (R60): a `_LO` word. -/
def execLoRegisterRead (c : Cmd) (addr : Nat) (s : State) : Host.Outcome State Fault Refusal := .next (readCsr c addr 1 s)

/-- RC_REGISTER_READ (R9). -/
def execRcRegisterRead (c : Cmd) (addr : Nat) (s : State) : Host.Outcome State Fault Refusal := .next (readCsr c addr 1 s)

/-- OCC_PKTS_READ (R81). -/
def execOccPktsRead (c : Cmd) (fifo : Nat) (s : State) : Host.Outcome State Fault Refusal := .next (readCsr c (Addr.OCC_PKTS fifo) 1 s)

/-- The check of the oldest record of time-stamp FIFO `f` as the owner reads it (R76, R84): an uncorrectable one is discarded, and the
next becomes current. -/
def checkRecord (f : Nat) (chk : FifoRead) (s : State) : State :=
  if (s.fifo f).pkts.isEmpty then s else if chk.bad then popFifo f (noteRead f chk s) else noteRead f chk s

/-- TS_DATA_READ (R84): the eight words of the oldest record of a physical port; the last removes it. -/
def execTsDataRead (c : Cmd) (port : Checked Nat) (s : State) : Host.Outcome State Fault Refusal :=
  .next (runCommand (fun e p s => cmdCsrRead e p (if e.owner then checkRecord (0x8F0 + port.item % 16) port.chk s else s)) 0x0100 c
    (toBE 4 (Addr.TS_DATA (0x8F0 + port.item) 0) ++ toBE 2 8 ++ zeros 2) s)

/-- STORE_DATA_READ (R224): the eight words of STORE_DATA; the last advances the read-out. -/
def execStoreDataRead (c : Cmd) (cell : Nat) (s : State) : Host.Outcome State Fault Refusal := .next (readCsr c (Addr.STORE_DATA cell 0) 8 s)

/-- BEAT_CTRL_WRITE (R38). -/
def execBeatCtrlWrite (c : Cmd) (v : W32) (s : State) : Host.Outcome State Fault Refusal := .next (writeCsr c Addr.BEAT_CTRL v s)

/-- BEAT_RATE_TARGET_WRITE (R39). -/
def execBeatRateTargetWrite (c : Cmd) (v : W32) (s : State) : Host.Outcome State Fault Refusal := .next (writeCsr c Addr.BEAT_RATE_TARGET v s)

/-- SPOKE_REATTACH (R37). -/
def execSpokeReattach (c : Cmd) (v : W32) (s : State) : Host.Outcome State Fault Refusal := .next (writeCsr c Addr.SPOKE_REATTACH v s)

/-- HALT_MASK_WRITE (R47). -/
def execHaltMaskWrite (c : Cmd) (v : W32) (s : State) : Host.Outcome State Fault Refusal := .next (writeCsr c Addr.HALT_MASK v s)

/-- RESUME_MASK_WRITE (R47). -/
def execResumeMaskWrite (c : Cmd) (v : W32) (s : State) : Host.Outcome State Fault Refusal := .next (writeCsr c Addr.RESUME_MASK v s)

/-- SNAP (R56). -/
def execSnap (c : Cmd) (v : W32) (s : State) : Host.Outcome State Fault Refusal := .next (writeCsr c Addr.SNAP v s)

/-- TIME_STEP_NS_WRITE (R55). -/
def execTimeStepNsWrite (c : Cmd) (v : W32) (s : State) : Host.Outcome State Fault Refusal := .next (writeCsr c Addr.TIME_STEP_NS v s)

/-- PORT_CTRL_WRITE (R64, R83). -/
def execPortCtrlWrite (c : Cmd) (port : Nat) (v : W32) (s : State) : Host.Outcome State Fault Refusal := .next (writeCsr c (Addr.PORT_CTRL port) v s)

/-- DROP_REST (R80). -/
def execDropRest (c : Cmd) (fifo : Nat) (v : W32) (s : State) : Host.Outcome State Fault Refusal := .next (writeCsr c (Addr.DROP_REST fifo) v s)

/-- PROG_VALIDATE (R103). -/
def execProgValidate (c : Cmd) (group : Nat) (v : W32) (s : State) : Host.Outcome State Fault Refusal := .next (writeCsr c (Addr.PROG_VALIDATE group) v s)

/-- PROG_FLIP (R103). -/
def execProgFlip (c : Cmd) (group : Nat) (v : W32) (s : State) : Host.Outcome State Fault Refusal := .next (writeCsr c (Addr.PROG_FLIP group) v s)

/-- ENTRY_READ (R139): ENTRY_CMD bit 0. -/
def execEntryRead (c : Cmd) (stage : Nat) (s : State) : Host.Outcome State Fault Refusal := .next (writeCsr c (Addr.ENTRY_CMD stage) 1#32 s)

/-- ENTRY_WRITE (R139): ENTRY_CMD bit 1. -/
def execEntryWrite (c : Cmd) (stage : Nat) (s : State) : Host.Outcome State Fault Refusal := .next (writeCsr c (Addr.ENTRY_CMD stage) 2#32 s)

/-- ENTRY_INVALIDATE (R139): ENTRY_CMD bit 2. -/
def execEntryInvalidate (c : Cmd) (stage : Nat) (s : State) : Host.Outcome State Fault Refusal := .next (writeCsr c (Addr.ENTRY_CMD stage) 4#32 s)

/-- SH_APPLY (R292). -/
def execShApply (c : Cmd) (shaper : Nat) (v : W32) (s : State) : Host.Outcome State Fault Refusal := .next (writeCsr c (Addr.SH_APPLY shaper) v s)

/-- STORE_CMD (R224). -/
def execStoreCmd (c : Cmd) (cell : Nat) (v : W32) (s : State) : Host.Outcome State Fault Refusal := .next (writeCsr c (Addr.STORE_CMD cell) v s)

end Sys2Proof.Machine
end

