-- ==== Sys2Proof/Machine/PacketCommit.lean ====
section
/-!
DEFINITION. PACKET_COMMIT (R77 to R79): a packet's last word comes into a packet FIFO, and the packet is there for the FIFO's consumer:
a header core, the egress MAC, match stage 0, the router or Limik, or software. Log 21 names what the manual leaves open here.
-/
namespace Sys2Proof.Machine

/-- A frame of the given words stands in the egress FIFO of logical port `L` for its MAC (R75, R77). -/
def commitEgress (L : Nat) (words : List W256) (s : State) : State :=
  let s1 := commitPacket (0x40 + L) ⟨words.length, none, words⟩ s
  s1.raise (Addr.HIGH_WATER (0x40 + L)) (s1.egressWords L)

/-- The metadata bus of a parsed packet's words (R98). -/
def busOfWords (words : List W256) : W1024 := (List.range 4).foldl (fun b i => setBus b (256 * i) 256 (words.getD i 0#256).toNat) 0#1024

/-- The five words of core `n`'s parse are committed for match stage 0 (R98), where that core is at work and its FIFO has room (R79). -/
def commitParsed (n : Nat) (words : List W256) (s : State) : State :=
  match s.core n with
  | none => s
  | some c =>
    match s.packet c.pkt with
    | none => s
    | some q =>
      if c.finished ∨ words.length ≠ 5 ∨ !s.fifoFits (0x80 + n) 5 then s
      else emitParsed c (busBits (busOfWords words) 0 3) (busOfWords words) q s

/-- A fabric packet, its header flit first, comes into a receive FIFO (R305, R306), or is rewound where the FIFO has no room for it (R79). -/
def commitFabric (t p vc : Nat) (words : List W256) (s : State) : State :=
  match words with
  | [] => s
  | hdr :: data =>
    if !s.mayReceive p ∨ (headerOf hdr.toNat).vc ≠ vc then s
    else if fifoUnits (rxFifo p vc) * 256 < s.rxWords p vc + words.length then overflowPacket (rxFifo p vc) (advance t s)
    else receivePacket p hdr.toNat data {} (advance t s)

/-- PACKET_COMMIT (R77): a packet of the given words is committed into a FIFO. A FIFO fed by a clocked island rewinds a
packet that does not fit; one fed from the core makes its producer wait (R79). -/
def execPacketCommit (t f : Nat) (words : List W256) (s : State) : Host.Outcome State Fault Refusal :=
  .next (match fifoKind f with
    | none => s
    | some kd =>
      if !s.on then s
      else if kd = 0 then (if s.flag (Addr.FIFO_CTRL f) 0 then commitIntake f words (advance t s) else s)
      else if kd = 1 then (if s.fifoFits f words.length then commitEgress (f - 0x40) words (advance t s) else s)
      else if kd = 2 then commitParsed (f - 0x80) words (advance t s)
      else if kd = 3 then commitFabric t ((f - 0x880) / 4) ((f - 0x880) % 4) words s
      else if s.fifoFits f words.length then commitPacket f ⟨words.length, none, words⟩ (advance t s)
      else if kd = 4 then overflowPacket f (advance t s) else s)

end Sys2Proof.Machine
end

