-- ==== Sys2Proof/Machine/PtpClock.lean ====
section
/-!
DEFINITION. The ordinary clock of Limik (R55, R73): the servo updates of the selected source, and the event messages the clock
sends. Logs 20 and 58 name what the manual leaves open here.
-/
namespace Sys2Proof.Machine

/-- The event messages of an ordinary clock by their messageType: 0 Sync, 1 Delay_Req, 2 Pdelay_Req, 3 Pdelay_Resp, and their bytes
(PRESUMED, IEEE 1588-2019; log 58). -/
def clockMessageBytes (kind : Nat) : Nat := if kind < 2 then 44 else 54

/-- Where the message lies in a frame (R55): over IEEE 802.3, UDP/IPv4 and UDP/IPv6 (PRESUMED, log 58). -/
def clockMessageAt (transport : Nat) : Nat := [14, 42, 62].getD transport 14

/-- A frame with an event message of the clock, its bytes free but for its messageType, and for the origin time stamp of a Sync, which is
written as the frame leaves (R74; log 58). -/
def clockFrame (kind transport : Nat) (free : Bytes) (sec ns : Nat) : Bytes :=
  let o := clockMessageAt transport
  let f := slice free 0 (max 60 (o + clockMessageBytes kind))
  let f1 := f.set o (BitVec.ofNat 8 (byteAt f o / 16 * 16 + kind))
  if kind = 0 then f1.take (o + 34) ++ toBE 6 sec ++ toBE 4 ns ++ f1.drop (o + 44) else f1

/-- Limik sends an event message of its ordinary clock (R55): on a data port whose link is up it leaves with an egress time stamp under a
tag of Limik's (R73). The manual gives neither the port nor which message is due nor its transport: the port is a constant of Config, none
being the management port, and message, transport, bytes and tag are free (log 58). -/
def sendClockMessage (s : State) : State :=
  match Config.ptpPort with
  | none => s.emit (.network 109 [])
  | some L =>
    match s.placeOf (L % 64) with
    | none => s
    | some (p, k) =>
      if !s.subUp p k then s
      else
        let c := s.draw Topic.encoded.num
        let tag := c.2.draw Topic.encoded.num
        let m := tag.2.drawBytes Topic.encoded.num 128
        macSend p k (L % 64) (clockFrame (c.1 % 4) (c.1 / 4 % 3) m.1 s.sec s.ns) (some (tag.1 % 65536)) m.2

/-- TIME_SERVO_UPDATE (R55): the servo of a selected source finds an offset (the source's time less the time base's) and a
frequency correction. Under SOURCE PTP an update is one exchange of messages with the master. -/
def execTimeServoUpdate (t : Nat) (offsetNs freqPpb : Int) (s : State) : Host.Outcome State Fault Refusal :=
  .next (if s.timeSource = 0 ∨ !s.limik then s else
    let f := max (-500000) (min 500000 freqPpb)
    let s0 := advance t s
    let s1 := (if s.timeSource = 1 then sendClockMessage s0 else s0).setReg Addr.TIME_FREQ_ADJ (unsigned 32 f)
    correctTime offsetNs (servoState offsetNs s1))

end Sys2Proof.Machine
end

