-- ==== Sys2Proof/Machine/Dispatch.lean ====
section
/-!
DEFINITION. The meaning of each row of the opcode table, one arm per constructor of Instr.
-/
namespace Sys2Proof.Machine

/-- The effect of a command on everything but the queue. -/
def exec (i : Instr) (s : State) : Host.Outcome State Fault Refusal :=
  match i with
  | .sessionOpen h p => Sys2Proof.Machine.execSessionOpen h p s
  | .sessionKey h p => Sys2Proof.Machine.execSessionKey h p s
  | .sessionClose c p => Sys2Proof.Machine.execSessionClose c p s
  | .deviceInfo c p => Sys2Proof.Machine.execDeviceInfo c p s
  | .echo c p => Sys2Proof.Machine.execEcho c p s
  | .eventSubscribe c p => Sys2Proof.Machine.execEventSubscribe c p s
  | .eventSink c p => Sys2Proof.Machine.execEventSink c p s
  | .csrRead c p => Sys2Proof.Machine.execCsrRead c p s
  | .csrWrite c p => Sys2Proof.Machine.execCsrWrite c p s
  | .csrModify c p => Sys2Proof.Machine.execCsrModify c p s
  | .registerWrite c addr v => Sys2Proof.Machine.execRegisterWrite c addr v s
  | .loRegisterRead c addr => Sys2Proof.Machine.execLoRegisterRead c addr s
  | .rcRegisterRead c addr => Sys2Proof.Machine.execRcRegisterRead c addr s
  | .occPktsRead c fifo => Sys2Proof.Machine.execOccPktsRead c fifo s
  | .tsDataRead c port => Sys2Proof.Machine.execTsDataRead c port s
  | .storeDataRead c cell => Sys2Proof.Machine.execStoreDataRead c cell s
  | .copySubmit c p => Sys2Proof.Machine.execCopySubmit c p s
  | .copyStatus c p => Sys2Proof.Machine.execCopyStatus c p s
  | .memWindowSet c p => Sys2Proof.Machine.execMemWindowSet c p s
  | .memMapRead c p => Sys2Proof.Machine.execMemMapRead c p s
  | .hbmPageRetire c p => Sys2Proof.Machine.execHbmPageRetire c p s
  | .ruleWrite c p => Sys2Proof.Machine.execRuleWrite c p s
  | .ruleRead c p => Sys2Proof.Machine.execRuleRead c p s
  | .ruleEpochFlip c p => Sys2Proof.Machine.execRuleEpochFlip c p s
  | .ruleStageOpen c p => Sys2Proof.Machine.execRuleStageOpen c p s
  | .ruleStageClose c p => Sys2Proof.Machine.execRuleStageClose c p s
  | .parseLoad c p => Sys2Proof.Machine.execParseLoad c p s
  | .parseFlip c p => Sys2Proof.Machine.execParseFlip c p s
  | .ruleTemplateWrite c p => Sys2Proof.Machine.execRuleTemplateWrite c p s
  | .fragFlush c p => Sys2Proof.Machine.execFragFlush c p s
  | .modelLoad c p => Sys2Proof.Machine.execModelLoad c p s
  | .modelSwap c p => Sys2Proof.Machine.execModelSwap c p s
  | .modelUnload c p => Sys2Proof.Machine.execModelUnload c p s
  | .modelStatus c p => Sys2Proof.Machine.execModelStatus c p s
  | .jobStart c p => Sys2Proof.Machine.execJobStart c p s
  | .jobCheckpoint c p => Sys2Proof.Machine.execJobCheckpoint c p s
  | .jobCancel c p => Sys2Proof.Machine.execJobCancel c p s
  | .jobStatus c p => Sys2Proof.Machine.execJobStatus c p s
  | .cellAssign c p => Sys2Proof.Machine.execCellAssign c p s
  | .cellQuery c p => Sys2Proof.Machine.execCellQuery c p s
  | .policerSet c p => Sys2Proof.Machine.execPolicerSet c p s
  | .queueSet c p => Sys2Proof.Machine.execQueueSet c p s
  | .shaperSet c p => Sys2Proof.Machine.execShaperSet c p s
  | .tmRead c p => Sys2Proof.Machine.execTmRead c p s
  | .fenceSet c p => Sys2Proof.Machine.execFenceSet c p s
  | .mirrorSet c p => Sys2Proof.Machine.execMirrorSet c p s
  | .flowRegionSet c p => Sys2Proof.Machine.execFlowRegionSet c p s
  | .flowRemove c p => Sys2Proof.Machine.execFlowRemove c p s
  | .flowRead c p => Sys2Proof.Machine.execFlowRead c p s
  | .flowFlush c p => Sys2Proof.Machine.execFlowFlush c p s
  | .groupJoin c p link => Sys2Proof.Machine.execGroupJoin c p link s
  | .groupLeave c p => Sys2Proof.Machine.execGroupLeave c p s
  | .groupStatus c p => Sys2Proof.Machine.execGroupStatus c p s
  | .fabricPortSet c p => Sys2Proof.Machine.execFabricPortSet c p s
  | .routeSet c p => Sys2Proof.Machine.execRouteSet c p s
  | .landingSet c p => Sys2Proof.Machine.execLandingSet c p s
  | .landingClear c p => Sys2Proof.Machine.execLandingClear c p s
  | .bridgeSet c p => Sys2Proof.Machine.execBridgeSet c p s
  | .recoatSet c p => Sys2Proof.Machine.execRecoatSet c p s
  | .integrityStatus c p => Sys2Proof.Machine.execIntegrityStatus c p s
  | .fenceCell c p => Sys2Proof.Machine.execFenceCell c p s
  | .testPackLoad c p => Sys2Proof.Machine.execTestPackLoad c p s
  | .testRun c p => Sys2Proof.Machine.execTestRun c p s
  | .signatureRead c p => Sys2Proof.Machine.execSignatureRead c p s
  | .capSet c p => Sys2Proof.Machine.execCapSet c p s
  | .powerStatus c p => Sys2Proof.Machine.execPowerStatus c p s
  | .primerRun c p => Sys2Proof.Machine.execPrimerRun c p s
  | .energyRead c p => Sys2Proof.Machine.execEnergyRead c p s
  | .capPrioritySet c p => Sys2Proof.Machine.execCapPrioritySet c p s
  | .freeze c p => Sys2Proof.Machine.execFreeze c p s
  | .counterRead c p => Sys2Proof.Machine.execCounterRead c p s
  | .traceArm c p => Sys2Proof.Machine.execTraceArm c p s
  | .traceRead c p => Sys2Proof.Machine.execTraceRead c p s
  | .dumpArm c p => Sys2Proof.Machine.execDumpArm c p s
  | .swatchSet c p => Sys2Proof.Machine.execSwatchSet c p s
  | .waitforRead c p => Sys2Proof.Machine.execWaitforRead c p s
  | .attest c p => Sys2Proof.Machine.execAttest c p s
  | .tenantCreate c p => Sys2Proof.Machine.execTenantCreate c p s
  | .tenantDestroy c p => Sys2Proof.Machine.execTenantDestroy c p s
  | .keyInstall c p => Sys2Proof.Machine.execKeyInstall c p s
  | .signerRegister c p => Sys2Proof.Machine.execSignerRegister c p s
  | .zeroise c p => Sys2Proof.Machine.execZeroise c p s
  | .approvedModeSet c p => Sys2Proof.Machine.execApprovedModeSet c p s
  | .fwStage c p => Sys2Proof.Machine.execFwStage c p s
  | .fwActivate c p => Sys2Proof.Machine.execFwActivate c p s
  | .fwStatus c p => Sys2Proof.Machine.execFwStatus c p s
  | .deviceReset c p => Sys2Proof.Machine.execDeviceReset c p s
  | .commandPacketArrive t transport peer packet => Sys2Proof.Machine.execCommandPacketArrive t transport peer packet s
  | .eventWindowClose t opcode key => Sys2Proof.Machine.execEventWindowClose t opcode key s
  | .sessionIdleExpiry t session => Sys2Proof.Machine.execSessionIdleExpiry t session s
  | .handshakeExpiry t handshake => Sys2Proof.Machine.execHandshakeExpiry t handshake s
  | .lockoutExpiry t tenant => Sys2Proof.Machine.execLockoutExpiry t tenant s
  | .beatCtrlWrite c v => Sys2Proof.Machine.execBeatCtrlWrite c v s
  | .beatRateTargetWrite c v => Sys2Proof.Machine.execBeatRateTargetWrite c v s
  | .beatIssue t lateSpokes lateCells => Sys2Proof.Machine.execBeatIssue t lateSpokes lateCells s
  | .spokeTimeoutExpiry t spoke => Sys2Proof.Machine.execSpokeTimeoutExpiry t spoke s
  | .streamHang t => Sys2Proof.Machine.execStreamHang t s
  | .spokeReattach c v => Sys2Proof.Machine.execSpokeReattach c v s
  | .haltMaskWrite c v => Sys2Proof.Machine.execHaltMaskWrite c v s
  | .clusterHalt t => Sys2Proof.Machine.execClusterHalt t s
  | .resumeMaskWrite c v => Sys2Proof.Machine.execResumeMaskWrite c v s
  | .clusterResume t => Sys2Proof.Machine.execClusterResume t s
  | .gustRelease t release => Sys2Proof.Machine.execGustRelease t release s
  | .snap c v => Sys2Proof.Machine.execSnap c v s
  | .timeStepNsWrite c v => Sys2Proof.Machine.execTimeStepNsWrite c v s
  | .timeServoUpdate t offsetNs freqPpb => Sys2Proof.Machine.execTimeServoUpdate t offsetNs freqPpb s
  | .timeSourceLost t => Sys2Proof.Machine.execTimeSourceLost t s
  | .ppsInEdge t widthNs => Sys2Proof.Machine.execPpsInEdge t widthNs s
  | .ppsOutPulse t => Sys2Proof.Machine.execPpsOutPulse t s
  | .groupRefSwitch t newPort => Sys2Proof.Machine.execGroupRefSwitch t newPort s
  | .zcJoin t groupZc => Sys2Proof.Machine.execZcJoin t groupZc s
  | .barrierArrive t tenant job => Sys2Proof.Machine.execBarrierArrive t tenant job s
  | .managerResume t job => Sys2Proof.Machine.execManagerResume t job s
  | .barrierRelease t tenant job => Sys2Proof.Machine.execBarrierRelease t tenant job s
  | .portCtrlWrite c port v => Sys2Proof.Machine.execPortCtrlWrite c port v s
  | .linkStateChange t port sub up lanes => Sys2Proof.Machine.execLinkStateChange t port sub up lanes s
  | .hiSerUpdate t port codewords corrected symbols => Sys2Proof.Machine.execHiSerUpdate t port codewords corrected symbols s
  | .frameReceive t lport frame fin pcsError => Sys2Proof.Machine.execFrameReceive t lport frame fin pcsError s
  | .pfcRefresh t lport prio => Sys2Proof.Machine.execPfcRefresh t lport prio s
  | .pfcFrameReceive t lport pause enables times => Sys2Proof.Machine.execPfcFrameReceive t lport pause enables times s
  | .pauseExpiry t lport prio => Sys2Proof.Machine.execPauseExpiry t lport prio s
  | .packetCommit t fifo words => Sys2Proof.Machine.execPacketCommit t fifo words s
  | .dropRest c fifo v => Sys2Proof.Machine.execDropRest c fifo v s
  | .packetAssign t group corrected badWord => Sys2Proof.Machine.execPacketAssign t group corrected badWord s
  | .hcNop n => Sys2Proof.Machine.execHcNop n s
  | .hcLd n d src sz x off => Sys2Proof.Machine.execHcLd n d src sz x off s
  | .hcMovi n d k imm => Sys2Proof.Machine.execHcMovi n d k imm s
  | .hcAlu n d src tgt fn => Sys2Proof.Machine.execHcAlu n d src tgt fn s
  | .hcAlui n d src fn imm => Sys2Proof.Machine.execHcAlui n d src fn imm s
  | .hcExt n d src pos wid => Sys2Proof.Machine.execHcExt n d src pos wid s
  | .hcBr n src tgt cond target => Sys2Proof.Machine.execHcBr n src tgt cond target s
  | .hcBri n src cond imm target => Sys2Proof.Machine.execHcBri n src cond imm target s
  | .hcJmp n target => Sys2Proof.Machine.execHcJmp n target s
  | .hcDisp n src tbl dflt => Sys2Proof.Machine.execHcDisp n src tbl dflt s
  | .hcHdr n src ty imm immLen => Sys2Proof.Machine.execHcHdr n src ty imm immLen s
  | .hcAdv n src imm immLen => Sys2Proof.Machine.execHcAdv n src imm immLen s
  | .hcLen n src strict base => Sys2Proof.Machine.execHcLen n src strict base s
  | .hcFrag n src tgt ipidx v6 => Sys2Proof.Machine.execHcFrag n src tgt ipidx v6 s
  | .hcMeta n src off wid => Sys2Proof.Machine.execHcMeta n src off wid s
  | .hcDone n => Sys2Proof.Machine.execHcDone n s
  | .hcFail n code => Sys2Proof.Machine.execHcFail n code s
  | .progValidate c group v => Sys2Proof.Machine.execProgValidate c group v s
  | .progFlip c group v => Sys2Proof.Machine.execProgFlip c group v s
  | .parseBankFlip t group => Sys2Proof.Machine.execParseBankFlip t group s
  | .stageLookup t pkt stage bad => Sys2Proof.Machine.execStageLookup t pkt stage bad s
  | .recircPassStart t port => Sys2Proof.Machine.execRecircPassStart t port s
  | .entryRead c stage => Sys2Proof.Machine.execEntryRead c stage s
  | .entryWrite c stage => Sys2Proof.Machine.execEntryWrite c stage s
  | .entryInvalidate c stage => Sys2Proof.Machine.execEntryInvalidate c stage s
  | .ruleEpochFlipBeat t => Sys2Proof.Machine.execRuleEpochFlipBeat t s
  | .stagingCopyDone t => Sys2Proof.Machine.execStagingCopyDone t s
  | .epochDrainSlow t => Sys2Proof.Machine.execEpochDrainSlow t s
  | .stageLeaseExpiry t => Sys2Proof.Machine.execStageLeaseExpiry t s
  | .actionResolve t pkt => Sys2Proof.Machine.execActionResolve t pkt s
  | .fragLookup t pkt => Sys2Proof.Machine.execFragLookup t pkt s
  | .fragWaitTimeout t pkt => Sys2Proof.Machine.execFragWaitTimeout t pkt s
  | .fragRecordExpire t record => Sys2Proof.Machine.execFragRecordExpire t record s
  | .featureEncode t pkt bad => Sys2Proof.Machine.execFeatureEncode t pkt bad s
  | .coldFillComplete t tenant fill => Sys2Proof.Machine.execColdFillComplete t tenant fill s
  | .flowScan t tenant slot coldBad => Sys2Proof.Machine.execFlowScan t tenant slot coldBad s
  | .labelQueuePoll t poll => Sys2Proof.Machine.execLabelQueuePoll t poll s
  | .inlineLaunch t cell flaw => Sys2Proof.Machine.execInlineLaunch t cell flaw s
  | .verdictRelease t pkt => Sys2Proof.Machine.execVerdictRelease t pkt s
  | .inlineRecoat t pkt runs => Sys2Proof.Machine.execInlineRecoat t pkt runs s
  | .recoatDeadline t pkt => Sys2Proof.Machine.execRecoatDeadline t pkt s
  | .cellSlotExchange t cell => Sys2Proof.Machine.execCellSlotExchange t cell s
  | .modelLoadComplete t tenant sel => Sys2Proof.Machine.execModelLoadComplete t tenant sel s
  | .modelSwapPoint t tenant sel => Sys2Proof.Machine.execModelSwapPoint t tenant sel s
  | .tmAdmit t pkt => Sys2Proof.Machine.execTmAdmit t pkt s
  | .frameTransmit t lport => Sys2Proof.Machine.execFrameTransmit t lport s
  | .shApply c shaper v => Sys2Proof.Machine.execShApply c shaper v s
  | .queueHistogramSample t => Sys2Proof.Machine.execQueueHistogramSample t s
  | .stepLaunch t cell work => Sys2Proof.Machine.execStepLaunch t cell work s
  | .stepCheckDone t cell step check => Sys2Proof.Machine.execStepCheckDone t cell step check s
  | .recoatCompare t cell step runs => Sys2Proof.Machine.execRecoatCompare t cell step runs s
  | .copyLaunch t queue => Sys2Proof.Machine.execCopyLaunch t queue s
  | .copyComplete t copy check => Sys2Proof.Machine.execCopyComplete t copy check s
  | .zeroingDone t cell => Sys2Proof.Machine.execZeroingDone t cell s
  | .storeCmd c cell v => Sys2Proof.Machine.execStoreCmd c cell v s
  | .checkpointWriteDone t tenant job check => Sys2Proof.Machine.execCheckpointWriteDone t tenant job check s
  | .ckptDoneLog t job barrier member => Sys2Proof.Machine.execCkptDoneLog t job barrier member s
  | .jobRestart t tenant job => Sys2Proof.Machine.execJobRestart t tenant job s
  | .cellAckTimeout t cell => Sys2Proof.Machine.execCellAckTimeout t cell s
  | .cellFence t cell kind => Sys2Proof.Machine.execCellFence t cell kind s
  | .fenceReclaimDone t cell => Sys2Proof.Machine.execFenceReclaimDone t cell s
  | .fieldTestStart t => Sys2Proof.Machine.execFieldTestStart t s
  | .testKernelDone t cell crc flagged beats => Sys2Proof.Machine.execTestKernelDone t cell crc flagged beats s
  | .testStaleCheck t => Sys2Proof.Machine.execTestStaleCheck t s
  | .scrubRead t stack offset error => Sys2Proof.Machine.execScrubRead t stack offset error s
  | .ruleEntryRewrite t stage bank table index => Sys2Proof.Machine.execRuleEntryRewrite t stage bank table index s
  | .linkFrameReceive t port fseq ackseq corrected good => Sys2Proof.Machine.execLinkFrameReceive t port fseq ackseq corrected good s
  | .fabricPacketReceive t port hdr data => Sys2Proof.Machine.execFabricPacketReceive t port hdr data s
  | .wrData t port hdr data => Sys2Proof.Machine.execWrData t port hdr data s
  | .rdReq t port hdr data => Sys2Proof.Machine.execRdReq t port hdr data s
  | .rdData t port hdr data => Sys2Proof.Machine.execRdData t port hdr data s
  | .fabAck t port hdr data => Sys2Proof.Machine.execFabAck t port hdr data s
  | .fabNotify t port hdr => Sys2Proof.Machine.execFabNotify t port hdr s
  | .fabConfirm t port hdr => Sys2Proof.Machine.execFabConfirm t port hdr s
  | .fabRevoke t port hdr => Sys2Proof.Machine.execFabRevoke t port hdr s
  | .fabCredit t port fields => Sys2Proof.Machine.execFabCredit t port fields s
  | .copyTimeoutExpiry t xfer => Sys2Proof.Machine.execCopyTimeoutExpiry t xfer s
  | .specTimeoutExpiry t zone slot => Sys2Proof.Machine.execSpecTimeoutExpiry t zone slot s
  | .fabricPortDown t port cause => Sys2Proof.Machine.execFabricPortDown t port cause s
  | .fabricPortTrained t port device partner => Sys2Proof.Machine.execFabricPortTrained t port device partner s
  | .miscableRecheck t port device partner => Sys2Proof.Machine.execMiscableRecheck t port device partner s
  | .routeRecompute t members groups => Sys2Proof.Machine.execRouteRecompute t members groups s
  | .leaseRenewal t => Sys2Proof.Machine.execLeaseRenewal t s
  | .leaseReceive t term renewal sender => Sys2Proof.Machine.execLeaseReceive t term renewal sender s
  | .missedRenewal t otherLog => Sys2Proof.Machine.execMissedRenewal t otherLog s
  | .managerStepdown t => Sys2Proof.Machine.execManagerStepdown t s
  | .logCommit t acks => Sys2Proof.Machine.execLogCommit t acks s
  | .memberLost t member => Sys2Proof.Machine.execMemberLost t member s
  | .pcieBar0Doorbell t len request => Sys2Proof.Machine.execPcieBar0Doorbell t len request s
  | .pcieBar2Access t write offset len data inTime => Sys2Proof.Machine.execPcieBar2Access t write offset len data inTime s
  | .pcieFlr t => Sys2Proof.Machine.execPcieFlr t s
  | .capControlLoop t loads => Sys2Proof.Machine.execCapControlLoop t loads s
  | .estGainUpdate t => Sys2Proof.Machine.execEstGainUpdate t s
  | .powerSample t mv ma => Sys2Proof.Machine.execPowerSample t mv ma s
  | .calmNeedReport t member bulk copy fabric => Sys2Proof.Machine.execCalmNeedReport t member bulk copy fabric s
  | .groupCalmApply t => Sys2Proof.Machine.execGroupCalmApply t s
  | .primerPhase t margin => Sys2Proof.Machine.execPrimerPhase t margin s
  | .thermalSample t dies hbms => Sys2Proof.Machine.execThermalSample t dies hbms s
  | .thermalTrip t => Sys2Proof.Machine.execThermalTrip t s
  | .freezeCapture t => Sys2Proof.Machine.execFreezeCapture t s
  | .stippleSample t source => Sys2Proof.Machine.execStippleSample t source s
  | .traceTrigger t cause origin detail => Sys2Proof.Machine.execTraceTrigger t cause origin detail s
  | .dumpCopyDone t tenant job dump fault => Sys2Proof.Machine.execDumpCopyDone t tenant job dump fault s
  | .hangTimeoutExpiry t tenant job => Sys2Proof.Machine.execHangTimeoutExpiry t tenant job s
  | .attestReportDone t => Sys2Proof.Machine.execAttestReportDone t s
  | .tenantKeyZeroise t tenant => Sys2Proof.Machine.execTenantKeyZeroise t tenant s
  | .tamperDetect t => Sys2Proof.Machine.execTamperDetect t s
  | .periodicSelftest t engine => Sys2Proof.Machine.execPeriodicSelftest t engine s
  | .selftestFailure t cause => Sys2Proof.Machine.execSelftestFailure t cause s
  | .bootKeyReady t => Sys2Proof.Machine.execBootKeyReady t s
  | .powerOn t mv => Sys2Proof.Machine.execPowerOn t mv s
  | .pinReset t lowNs => Sys2Proof.Machine.execPinReset t lowNs s
  | .powerRemove t mv => Sys2Proof.Machine.execPowerRemove t mv s
  | .bootRomStart t selftest => Sys2Proof.Machine.execBootRomStart t selftest s
  | .hbmTrainDone t hbms failedCells => Sys2Proof.Machine.execHbmTrainDone t hbms failedCells s
  | .recoveryFetch t image => Sys2Proof.Machine.execRecoveryFetch t image s
  | .mgmtAddressConfig t prefixes ipv4 => Sys2Proof.Machine.execMgmtAddressConfig t prefixes ipv4 s
  | .handoverResume t => Sys2Proof.Machine.execHandoverResume t s
  | .handoverTimeout t => Sys2Proof.Machine.execHandoverTimeout t s
  | .flashWriteDone t => Sys2Proof.Machine.execFlashWriteDone t s
  | .presentNOpen t => Sys2Proof.Machine.execPresentNOpen t s
  | .overvoltage t mv => Sys2Proof.Machine.execOvervoltage t mv s
  | .reversePolarity t mv => Sys2Proof.Machine.execReversePolarity t mv s
  | .senseFault t crossed internalMv => Sys2Proof.Machine.execSenseFault t crossed internalMv s
  | .auxOverload t present => Sys2Proof.Machine.execAuxOverload t present s
  | .tripClear t how => Sys2Proof.Machine.execTripClear t how s
  | .mbFaultClear t mask => Sys2Proof.Machine.execMbFaultClear t mask s
  | .fwImageStaged t => Sys2Proof.Machine.execFwImageStaged t s
  | .revokeResend t token => Sys2Proof.Machine.execRevokeResend t token s
  | .shaperOpen t shaper => Sys2Proof.Machine.execShaperOpen t shaper s
  | .refclkSysLoss t good => Sys2Proof.Machine.execRefclkSysLoss t good s
  | .i3cAddressAssign t entdaa addr => Sys2Proof.Machine.execI3cAddressAssign t entdaa addr s

end Sys2Proof.Machine
end

