-- ==== Sys2Proof/Safety.lean ====
section
/-!
DEFINITION. What the claims speak of: the canonical form of the state's tables, and a command's turn in its session, cut into
the state its own action starts from and what follows its action.
-/
namespace Sys2Proof.Machine

/-- The register file is canonical: keys rising, no register listed at its reset value. -/
def State.regsWf (s : State) : Bool := tabWf (fun a => BitVec.ofNat 64 (regReset a)) s.regs

/-- Device memory is canonical: addresses rising, no byte listed as what an unlisted address reads as (log 9). -/
def State.memWf (s : State) : Bool := Memory.wf s.mem

/-- Both tables are canonical. -/
def State.tablesWf (s : State) : Bool := s.regsWf && s.memWf

/-- Command `c` finds session `x` open and may run its own action (R338 to R349): the device answers, the session is open and
not idle too long, its transport is enabled, and the TENANT of the header is one the session may name and exists. -/
def ready (c : Cmd) (x : Session) (s : State) : Bool :=
  let s1 := advance c.t s
  s.answers && decide (s1.session c.session = some x) && !s1.idleOver x && s1.transportOn x.transport &&
    decide (c.tenant ≤ 255) && !s1.tenantRefused x c.tenant

/-- Who sends command `c` of session `x` (R349). -/
def envOf (c : Cmd) (x : Session) : Env := ⟨x.id, x.tenant, c.tenant, c.tag, x.transport⟩

/-- The state in which the action of a command runs: true time has come to it, its session is renewed (R342), a mailbox is BUSY
(R328) unless its packet was there at a function-level reset (R332), E has advanced (R343) and CMD_EXECUTED has counted it. -/
def begun (c : Cmd) (x : Session) (s : State) : State :=
  let s1 := advance c.t s
  let s2 := s1.updSession x.id (fun y => { y with lastAuth := s1.now })
  let s3 := if x.transport = .mailbox then takeMailbox s2 else s2
  (s3.updSession x.id (fun y => { y with e := x.e + 1 })).bump64 Addr.CMD_EXECUTED

/-- The sealed reply of command `c` of session `x`, of the device with number `device` (R346). -/
def replyOf (op : Nat) (c : Cmd) (x : Session) (r : Reply) (device : Nat) : SentPacket :=
  SentPacket.close x.key device
    { transport := x.transport, peer := x.peer, session := x.id, opcode := op, tag := c.tag, tenant := c.tenant, seq := x.e + 1,
      status := r.status, isSealed := true, params := r.params }

/-- What follows a command's action (R343, R344, R346): its reply `r` is kept and leaves, and the commands held back for it run.
A mailbox reply that the action itself took the mailbox from leaves as it is. -/
def settle (op : Nat) (c : Cmd) (x : Session) (r : Reply) (b t : State) : State :=
  let reply := replyOf op c x r t.device
  let t1 := t.updSession x.id (fun y => { y with cache := ((x.e + 1, reply) :: y.cache).take replyCache })
  runHeld x.id heldMax (if b.bridge.busy ∧ !t1.bridge.busy then t1.emit (.reply reply) else sendReply reply t1)

/-- Command `i` of session `x` completes with reply `r`: `exec` answers the next state that `settle` makes of some `t` with `P t`,
the state as the command's own action leaves it. -/
def completes (i : Instr) (op : Nat) (c : Cmd) (x : Session) (s : State) (r : Reply) (P : State → Prop) : Prop :=
  ∃ t, exec i s = .next (settle op c x r (begun c x s) t) ∧ P t

/-- Every register of `t` but those listed reads as in `s`. -/
def sameRegsBut (l : List Nat) (s t : State) : Prop := ∀ a, a ∉ l → t.reg a = s.reg a

/-- The registers that sending a packet of this device's own may change (R315, R333), no trace session recording it: the flits that
leave by a port, and the packets without a route. -/
def sendRegs : List Nat := Addr.NO_ROUTE 0 :: (List.range 24).map Addr.FLITS_TX

/-- The registers that delivering an event may change (R328, R352, R355): what counts events sent and lost, and, for a session of the fabric,
those of a packet. -/
def eventRegs : List Nat := [Addr.EVENTS_SENT, Addr.EVENTS_LOST, Addr.EVQ_LOST] ++ sendRegs

/-- Every byte of device memory reads as before, and under the same key. -/
def sameMemory (s t : State) : Prop := (∀ a, memByte t.mem a = memByte s.mem a) ∧ t.mem.keyOf = s.mem.keyOf

/-- No trace session is open, and no record of a packet waits for its ring (R429, R434). -/
def untraced (s : State) : Prop := s.obs.trace = none ∧ s.obs.sends = []

/-- Memory after a step that may send packets: as before, unless a trace session spills records of them (R429). -/
def memoryStays (s u : State) : Prop := untraced s → u.mem = s.mem

/-- Fabric packet `hdr` with `data` is one that port `p` takes for this device (R305 to R308, R313): the port is up and no bridge port,
the device has joined, the header is valid, its length is that of the data, it is addressed here, its credits cover it, and its SEQ is new. -/
def takenHere (p hdr : Nat) (data : List W256) (s : State) : Bool :=
  let h := headerOf hdr
  s.mayReceive p && s.joined && headerValid hdr && h.len == data.length && h.dst == s.device &&
    decide (1 + data.length ≤ tabGet 0 (creditKey p h.vc (bits hdr 6 3)) s.fabric.granted) &&
    (acceptSeq (tabGet [] (h.src * 4 + h.vc) s.fabric.window) h.seq).isSome

end Sys2Proof.Machine
end

