-- ==== Sys2Proof/Certificates/Slice0/Obligations.lean ====
section
/-!
DEFINITION. The statements about the BVX-960: what each row of the opcode table does where it has its effect, the frames, the
invariants and the rules of the manual that the model states whole. `begun c x s` is the state a command's action starts from,
`completes` says that `exec` answers the next state that settling the command leaves, and `settle` what settling is.
-/
open Sys2Proof Sys2Proof.Machine
/-- For every command i, queue and state: step of the state with i at the front of its queue is exec of i on the state with the
queue's rest; on an empty queue the block idles (log 1). -/
def Obligations.StepRunsTheFrontCommand : Prop :=
  (∀ (i : Instr) (rest : List Instr) (s : State), step { s with pending := i :: rest } = exec i { s with pending := rest }) ∧
  (∀ s : State, s.pending = [] → step s = .next s)

/-- After reset the queue is empty, nothing has left the device, every register reads the reset value its table gives
(R9, R60 to R470), every byte of memory reads 0 (log 9), no session, job or handshake exists, and the beat is FIXED at 500
(R473). BEAT_CTRL is 9, BEAT_RATE_TARGET 500, CAP 2400, CAP_WINDOW 4, SESSION_MAX 64, GLOBAL_CTRL 4, the retry limit of a
fabric port 8 and every TENANT_EXISTS word 0. -/
def Obligations.ResetLeavesTheTables : Prop :=
  State.reset.pending = [] ∧ State.reset.out = [] ∧ (∀ a, State.reset.reg a = regReset a % 2 ^ 64) ∧
  (∀ a, memByte State.reset.mem a = 0#8) ∧ State.reset.sessions = [] ∧ State.reset.jobs = [] ∧ State.reset.secure.handshakes = [] ∧
  State.reset.reg Addr.BEAT_CTRL = 9 ∧ State.reset.reg Addr.BEAT_RATE_TARGET = 500 ∧ State.reset.reg Addr.CAP = 2400 ∧
  State.reset.reg Addr.CAP_WINDOW = 4 ∧ State.reset.reg Addr.SESSION_MAX = 64 ∧ State.reset.reg Addr.GLOBAL_CTRL = 4 ∧
  (∀ j < 8, State.reset.reg (Addr.TENANT_EXISTS j) = 0) ∧ State.reset.tablesWf = true

/-! Sessions and commands -/

/-- The unsealed reply to a session-0 packet (R340, R346). -/
def handReply (op : Nat) (h : Hand) (r : Reply) : SentPacket :=
  { transport := h.transport, peer := h.peer, session := 0, opcode := op, tag := h.tag, tenant := h.tenant, seq := h.seq,
    status := r.status, isSealed := false, params := r.params }

/-- The session that a handshake opens at an instant, with the first 32 bytes of OKM as its key (R340, R454). -/
def openedBy (k : Handshake) (okm : Bytes) (now : Nat) : Session :=
  { id := k.id, tenant := k.tenant, transport := k.transport, peer := k.peer, key := slice okm 0 32, lastAuth := now }

/-- SESSION_OPEN (R453). Where the device answers, the transport is enabled, the header is in order, the boot key is ready, the
tenant may try, is not locked out and is below its quota, a place is free and fewer than 16 handshakes are pending, exec answers a
next state whose last act is the unsealed reply, laid out as its packet: with a client key on the curve it is OK, its first four bytes are a HANDSHAKE that
is not 0, and that handshake is pending with the transcript; otherwise BAD_PARAM, and nothing is pending that was not. Either way
registers and sessions stay. -/
def Obligations.SessionOpenBeginsAHandshake : Prop :=
  ∀ (h : Hand) (p : Bytes) (s : State), s.answers = true → (advance h.t s).transportOn h.transport = true → handBad h = false →
    p.length = 129 → s.flag Addr.SEC_STATUS 3 = true → s.mayHandshake h.tenant = true → (advance h.t s).lockedOut h.tenant = false →
    s.quotaFree h.tenant = true → s.placeFree h.tenant = true → s.secure.handshakes.length < 16 →
    ∃ r t, exec (.sessionOpen h p) s = .next (sendReply (SentPacket.close [] t.device (handReply 0 h r)) t) ∧ t.regs = s.regs ∧ t.sessions = s.sessions ∧
      (Config.onCurve (slice p 32 97) = true → r.status = St.OK ∧ ∃ id, 0 < id ∧ r.params.take 4 = toBE 4 id ∧ id ∈ t.secure.usedIds ∧
        t.secure.handshakes = s.secure.handshakes ++ [⟨id, h.tenant, h.transport, h.peer, max s.now h.t, p ++ r.params⟩]) ∧
      (Config.onCurve (slice p 32 97) = false → r = st St.BAD_PARAM ∧ t.secure = s.secure)

/-- SESSION_KEY (R454, R452, R455). Where handshake k of this tenant, transport and peer is pending and less than 30 s old, the
lengths agree, the tenant may still try, and a place and the quota are free: let `good` say that a voucher, where one is carried, is the owner's and verifies,
and that both signatures over the transcript verify. If good, the reply is OK with KEY_CONFIRM and session k is open under the key of OKM, the
handshake is no longer pending, and without a voucher the sessions are the old ones and this one and the tenant exists; otherwise the reply is AUTH_FAIL,
no handshake k is pending, and T_AUTH_FAILS of the tenant has counted it. -/
def Obligations.SessionKeyOpensASession : Prop :=
  ∀ (h : Hand) (p : Bytes) (s : State) (k : Handshake), s.answers = true → (advance h.t s).transportOn h.transport = true →
    handBad h = false → p.length = 1096 + be p 1092 4 + sigBytes → (be p 1092 4 = 0 ∨ (be p 1092 4 = voucherBytes ∧ s.module.ownerCred = none)) →
    s.secure.handshakes.find? (fun k => k.id == be p 0 4 && k.transport == h.transport && k.peer == h.peer && k.tenant == h.tenant &&
      decide (max s.now h.t < k.opened + secs 30)) = some k →
    s.mayHandshake k.tenant = true → s.placeFree k.tenant = true → s.quotaFree k.tenant = true →
    let vl := be p 1092 4
    let voucher := slice p 1096 vl
    let cred := if vl = 0 then s.credOf k.tenant else slice voucher 12 432
    let tr := k.transcript ++ p.take (1096 + vl)
    let okm := s.sessionOkm k (p.take (1096 + vl))
    let good : Prop := (vl = 0 ∨ (k.tenant = owner ∧ s.voucherGood voucher = true)) ∧ verifyPair cred tr (p.drop (1096 + vl)) = true
    ∃ r t, exec (.sessionKey h p) s = .next (sendReply (SentPacket.close [] t.device (handReply 2 h r)) t) ∧ (∀ q ∈ t.secure.handshakes, q.id ≠ k.id) ∧
      (good → r.status = St.OK ∧ r.params = toBE 4 k.id ++ slice (Config.hmac (slice okm 32 48) (sha48 tr)) 0 48 ∧ (t.session k.id).isSome = true ∧
        (vl = 0 → t.tenantExists k.tenant = true ∧ t.sessions = s.sessions ++ [openedBy k okm (max s.now h.t)])) ∧
      (¬ good → r = st St.AUTH_FAIL ∧ t.reg (Addr.T_AUTH_FAILS k.tenant) = (s.reg (Addr.T_AUTH_FAILS k.tenant) + 1) % 2 ^ 32)

/-- The session commands (R350, R351) of a session that is ready. SESSION_CLOSE of the sending session: OK leaves and the session is
closed. SESSION_CLOSE by an owner of another session: OK, and that one is closed. DEVICE_INFO returns DEVICE_ID, CAPS, SERIAL,
FW_VERSION and the device number, and ECHO its parameters; both change nothing. EVENT_SUBSCRIBE sets the session's mask to the 32
bytes, and no other session's. EVENT_SINK names an open owner session on the management port, or none: EVENT_SINK holds it and no
other register changes. -/
def Obligations.SessionCommandsComplete : Prop :=
  ∀ (c : Cmd) (x : Session) (s : State) (p : Bytes), ready c x s = true →
    (p.length = 4 → (be p 0 4 = 0 ∨ be p 0 4 = x.id) →
      ∃ t, exec (.sessionClose c p) s = .next t ∧ t.session x.id = none ∧
        (x.transport ≠ .mailbox → .reply (replyOf 0x0004 c x ok s.device) ∈ t.out)) ∧
    (p.length = 4 → be p 0 4 ≠ 0 → be p 0 4 ≠ x.id → x.tenant = owner → ((advance c.t s).session (be p 0 4)).isSome = true →
      completes (.sessionClose c p) 0x0004 c x s ok (fun t => t.session (be p 0 4) = none)) ∧
    (p = [] → completes (.deviceInfo c p) 0x0006 c x s ⟨St.OK, toBE 4 (s.reg Addr.DEVICE_ID) ++ toBE 4 (s.reg Addr.CAPS) ++
      toBE 8 (s.reg Addr.SERIAL) ++ toBE 4 (s.reg Addr.FW_VERSION) ++ toBE 2 s.device ++ zeros 2⟩ (fun t => t = begun c x s)) ∧
    (p.length ≤ 1024 → completes (.echo c p) 0x0008 c x s ⟨St.OK, p⟩ (fun t => t = begun c x s)) ∧
    (p.length = 32 → completes (.eventSubscribe c p) 0x000A c x s ok (fun t =>
      (t.session x.id).map Session.mask = some (BitVec.ofNat 256 (natLE p)) ∧ ∀ j, j ≠ x.id → t.session j = (begun c x s).session j)) ∧
    (x.tenant = owner → p.length = 4 →
      (be p 0 4 = 0 ∨ ((advance c.t s).session (be p 0 4)).any (fun y => y.tenant == owner && y.transport == .mgmt) = true) →
      completes (.eventSink c p) 0x000C c x s ok (fun t => t.reg Addr.EVENT_SINK = be p 0 4 ∧
        sameRegsBut [Addr.EVENT_SINK] (begun c x s) t ∧ sameMemory s t))

/-- COMMAND_PACKET_ARRIVE (R337 to R342, R345, R348). A packet whose turn has come, that its ingress FIFO holds or has room for, read with no uncorrectable word,
whose length agrees with its header, for this device, on an enabled transport, of an open session of that transport and peer that
is not idle too long, with TAGGED set, no reply or event of a session the device relays, while firmware runs and the controller is
not in ERROR: exec answers the next state in which it is taken from its ingress FIFO; if its tag fails AUTH_DROPS counts it and the
session stays; if it verifies, the session is renewed and the command is handled by its SEQ (R343). Commands by SEQ (R343, R344), as a packet that has verified meets them. SEQ above E + 64, SEQ of a command already held, and a
duplicate older than the cache: WINDOW_DROPS counts it and nothing runs. A duplicate in the cache: its kept reply leaves again and
CMD_REPLAYED counts it. E + 1 < SEQ ≤ E + 64 otherwise: it is held, and E stays. SEQ = E + 1: it runs, and then the held ones. -/
def Obligations.CommandPacketsRunInSeqOrder : Prop :=
  (∀ (t : Nat) (tr : Transport) (peer : Nat) (k : Bytes) (chk : FifoRead) (s s0 : State) (x : Session),
    let h := header1 k
    let s1 := noteRead (ingressFifo tr) chk s0
    s.ingressTurn tr k = true → takeIngress tr k (advance t s) = some s0 → chk.bad = false → s1.relayOf tr k = none →
    s.limik = true → s1.secError = false → s1.transportOn tr = true → wellFormedPacket k h = true → (8192 ≤ h.target ∨ h.target = s.device) →
    h.session ≠ 0 → s1.session h.session = some x → s1.idleOver x = false → x.transport = tr → x.peer = peer → h.tagged = true →
    exec (.commandPacketArrive t tr peer ⟨k, chk⟩) s = .next
      (match Config.gcmOpen x.key (toBE 4 0 ++ toBE 8 h.seq) (k.take 32) (slice k 32 h.paramLen) (slice k (32 + h.paramLen) 16) with
       | none => freeMailbox tr (s1.bump32 Addr.AUTH_DROPS)
       | some params => arriveInOrder x h params (s1.updSession x.id (fun y => { y with lastAuth := s1.now })))) ∧
  (∀ (x : Session) (h : Header1) (params : Bytes) (s : State),
    let k : HeldCommand := { seq := h.seq, opcode := h.opcode, tag := h.tag, tenant := h.tenant, params,
                             bad := h.refused (cmdOf h.opcode).isSome }
    let dropped := freeMailbox x.transport (s.bump32 Addr.WINDOW_DROPS)
    (x.e + 64 < h.seq → arriveInOrder x h params s = dropped) ∧
    (h.seq ≤ x.e → (∀ c ∈ x.cache, c.1 ≠ h.seq) → arriveInOrder x h params s = dropped) ∧
    (x.e + 1 < h.seq → x.held.any (fun q => q.seq == h.seq) = true → arriveInOrder x h params s = dropped) ∧
    (h.seq ≤ x.e → ∀ c, x.cache.find? (fun c => c.1 == h.seq) = some c →
      arriveInOrder x h params s = sendReply c.2 (s.bump32 Addr.CMD_REPLAYED)) ∧
    (x.e + 1 < h.seq → h.seq ≤ x.e + 64 → x.held.any (fun q => q.seq == h.seq) = false →
      arriveInOrder x h params s = freeMailbox x.transport (s.updSession x.id (fun y => { y with held := y.held ++ [k] }))) ∧
    (h.seq = x.e + 1 → arriveInOrder x h params s = runHeld x.id 64 (runOne (actionOf h.opcode) x k s)))
/-- What follows a command's action (R338, R344, R346). Where no command is held back for the next SEQ and the mailbox's BUSY is the same
after the action as before it: of a session of the management port or the mailbox, settling leaves every register, memory and every
other part of the state but the bridge's mailbox as the action left it; its reply is kept as the session's latest; and what left the
device is what the action put out, then the reply, laid out and sealed, and for the mailbox interrupt 0 where vector 0 is not masked.
Where the mailbox's command was in ingress at a function-level reset (R332), its reply is kept and leaves nowhere. Of a session of the
fabric, the reply goes to the session's peer as a command packet on virtual channel 0. -/
def Obligations.SettlingOnlyReplies : Prop :=
  ∀ (op : Nat) (c : Cmd) (x : Session) (r : Reply) (b t : State),
    (∀ y, t.session x.id = some y → ∀ k ∈ y.held, k.seq ≠ y.e + 1) → t.bridge.busy = b.bridge.busy →
    let u := settle op c x r b t
    let reply := replyOf op c x r t.device
    let kept := t.updSession x.id (fun y => { y with cache := ((x.e + 1, reply) :: y.cache).take 64 })
    (x.transport = .fabric → u = noteSends (sendCmd x.peer reply.packet (kept.emit (.reply reply)))) ∧
    (x.transport = .mailbox → t.bridge.mute = true → u = { kept with bridge.mute := false }) ∧
    (x.transport ≠ .fabric → (x.transport = .mailbox → t.bridge.mute = false) → u.regs = t.regs ∧ u.mem = t.mem ∧ u.now = t.now ∧ u.jobs = t.jobs ∧ u.cells = t.cells ∧ u.models = t.models ∧ u.mt = t.mt ∧
      u.ports = t.ports ∧ u.tm = t.tm ∧ u.hc = t.hc ∧ u.flow = t.flow ∧ u.copies = t.copies ∧ u.fabric = t.fabric ∧ u.group = t.group ∧
      u.obs = t.obs ∧ u.integ = t.integ ∧ u.power = t.power ∧ u.module = t.module ∧ u.fw = t.fw ∧ u.secure = t.secure ∧
      (∀ y, t.session x.id = some y → (u.session x.id).map (fun z => z.cache) = some (((x.e + 1, reply) :: y.cache).take 64)) ∧
      u.out = t.out ++ .reply reply ::
        (if x.transport = .mailbox ∧ bitAt (tabGet msixMasked 0 t.bridge.msix) 96 = false then [.msix 0] else []))

/-- Events of sessions and their ends (R503, R342, R453, R455). EVENT_WINDOW_CLOSE at or after the window's end: the window is gone and
its one event is delivered. SESSION_IDLE_EXPIRY of a session idle for SESSION_IDLE seconds, firmware running: the session is closed.
HANDSHAKE_EXPIRY 30 s after a handshake's SESSION_OPEN: it is no longer pending, the others are. LOCKOUT_EXPIRY at or after the end of
a lockout: the tenant is not locked out and LOCKOUT of its T_STATE is 0. -/
def Obligations.SessionClocksRunOut : Prop :=
  ∀ (t : Nat) (s : State),
    (∀ opcode key w, s.window opcode key = some w → s.on = true → w.opened + w.length ≤ t →
      ∃ u, exec (.eventWindowClose t opcode key) s = .next (deliver w.event u) ∧ u.window opcode key = none ∧ u.sessions = s.sessions ∧
        u.regs = s.regs ∧ u.now = max s.now t) ∧
    (∀ id x, s.limik = true → s.session id = some x → x.lastAuth + secs (s.reg Addr.SESSION_IDLE) ≤ max s.now t →
      ∃ u, exec (.sessionIdleExpiry t id) s = .next u ∧ u.session id = none ∧ u.now = max s.now t) ∧
    (∀ id k, k ∈ s.secure.handshakes → k.id = id → k.opened + secs 30 ≤ t →
      ∃ u, exec (.handshakeExpiry t id) s = .next u ∧ u.secure.handshakes = s.secure.handshakes.filter (fun q => q.id != id) ∧
        u.sessions = s.sessions ∧ u.regs = s.regs) ∧
    (∀ tenant v, tabFind tenant s.secure.lockUntil = some v → v ≤ t →
      ∃ u, exec (.lockoutExpiry t tenant) s = .next u ∧ u.lockedOut tenant = false ∧ u.flag (Addr.T_STATE tenant) 4 = false ∧
        sameRegsBut [Addr.T_STATE tenant] s u)

/-- The event queue of a session (R355), as it takes an event that it receives. With nothing lost and a place free, the event takes the
next SEQ. With nothing lost and no place free, it takes none, and one is lost at the time of the loss. After a loss, with two places free, the
notice EV_EVENTS_LOST with the number lost and the time of the first takes the next SEQ and the event the one after, and nothing is
lost any more; with fewer than two it is lost. Delivering an event counts in EVENTS_LOST the sessions that lose it. -/
def Obligations.EventQueuesLoseByNotice : Prop :=
  (∀ (now : Nat × Nat) (e : Event) (x : Session), x.lost = 0 → x.queue.length < 4096 →
    enqueueEvent now e x = { x with queue := x.queue ++ [(x.eseq + 1, e)], eseq := x.eseq + 1 } ∧ losesEvent x = false) ∧
  (∀ (now : Nat × Nat) (e : Event) (x : Session), x.lost = 0 → 4096 ≤ x.queue.length →
    enqueueEvent now e x = { x with lost := 1, lostAt := some now } ∧ losesEvent x = true) ∧
  (∀ (now : Nat × Nat) (e : Event) (x : Session), 0 < x.lost → x.queue.length + 2 ≤ 4096 →
    (∃ n, n.opcode = 0xFF02 ∧ n.body = [x.lost, (x.lostAt.getD (0, 0)).1, (x.lostAt.getD (0, 0)).2] ∧
      enqueueEvent now e x = { x with queue := x.queue ++ [(x.eseq + 1, n), (x.eseq + 2, e)], eseq := x.eseq + 2, lost := 0, lostAt := none }) ∧
    losesEvent x = false) ∧
  (∀ (now : Nat × Nat) (e : Event) (x : Session), 0 < x.lost → 4096 < x.queue.length + 2 →
    enqueueEvent now e x = { x with lost := x.lost + 1 } ∧ losesEvent x = true) ∧
  (∀ (sel : Session → Bool) (e : Event) (s : State), (∀ x ∈ s.sessions, s.transportOn x.transport = false) →
    (deliverTo sel e s).reg Addr.EVENTS_LOST =
      (s.reg Addr.EVENTS_LOST + (s.sessions.filter (fun x => sel x && losesEvent x)).length) % 2 ^ 32 ∧
    (deliverTo sel e s).sessions = s.sessions.map (fun x => if sel x then enqueueEvent (s.sec, s.ns) e x else x))

/-! Registers -/

/-- CSR_READ, CSR_WRITE, CSR_MODIFY and COUNTER_READ (R358, R359, R426) of a session that is ready. A CSR_READ or COUNTER_READ each of
whose COUNT words is read, in ascending order, answers OK with COUNT, for shadows FREEZE_ID, and the words, in the state those
accesses leave. A CSR_WRITE of COUNT words that are all written answers OK with COUNT. One whose words are written up to the first
refused one answers its status with the number written before it, and those stay written. A CSR_MODIFY of a word of an RW register
whose new word (old AND NOT MASK) OR (VALUE AND MASK) is accepted answers OK with the word after the write; of an RO register that
exists (R75, R83) it changes nothing and answers OK with the word. -/
def Obligations.CsrCommandsAccessWordByWord : Prop :=
  ∀ (c : Cmd) (x : Session) (s : State) (p : Bytes), ready c x s = true →
    let b := begun c x s
    let e := envOf c x
    let a := be p 0 4
    let n := be p 4 2
    (p.length = 8 → csrOk p = true → zerosAt p 6 2 = true → ∀ ws t, readWords (readWord e) a n b = (St.OK, ws, t) →
      ws.length = n ∧ completes (.csrRead c p) 0x0100 c x s ⟨St.OK, toBE 2 n ++ zeros 2 ++ ws.flatMap (toBE 4)⟩ (fun u => u = t)) ∧
    (p.length = 8 → csrOk p = true → byteAt p 6 = 1 → byteAt p 7 = 0 → ∀ ws t, readWords (readShadow e) a n b = (St.OK, ws, t) →
      ws.length = n ∧ completes (.counterRead c p) 0x0902 c x s
        ⟨St.OK, toBE 2 n ++ zeros 2 ++ toBE 4 (s.reg Addr.FREEZE_ID) ++ ws.flatMap (toBE 4)⟩ (fun u => u = b ∧ t = b)) ∧
    (p.length = 8 → csrOk p = true → zerosAt p 6 2 = true → ∀ ws t, readWords (readWord e) a n b = (St.OK, ws, t) →
      completes (.counterRead c p) 0x0902 c x s ⟨St.OK, toBE 2 n ++ zeros 2 ++ ws.flatMap (toBE 4)⟩ (fun u => u = t)) ∧
    (csrOk p = true → p.length = 8 + 4 * n → zerosAt p 6 2 = true →
      ∀ st k t, writeWords e a ((List.range n).map (fun i => be p (8 + 4 * i) 4)) b = (st, k, t) →
        (st = St.OK → k = n) ∧ completes (.csrWrite c p) 0x0101 c x s ⟨st, toBE 2 k ++ zeros 2⟩ (fun u => u = t)) ∧
    (p.length = 12 → a % 4 = 0 → (blockIn a blocks).isSome = true → b.mayWriteWord e a = true → a ≠ Addr.BEAT_STATUS →
      ∀ l, locate a = some l → l.row.acc = .rw →
        ∀ t, writeWord e a ((b.modWord l &&& (0xFFFFFFFF - be p 4 4)) ||| (be p 8 4 &&& be p 4 4)) b = (St.OK, t) →
          completes (.csrModify c p) 0x0102 c x s ⟨St.OK, toBE 4 (t.modWord l)⟩ (fun u => u = t)) ∧
    (p.length = 12 → a % 4 = 0 → (blockIn a blocks).isSome = true → b.mayWriteWord e a = true →
      ∀ l, locate a = some l → l.absent b = false → l.row.acc = .ro → completes (.csrModify c p) 0x0102 c x s ⟨St.OK, toBE 4 (b.modWord l)⟩ (fun u => u = b))

/-- REGISTER_WRITE (R359, R10), by a session that may write the word, of a word of an RW register that has only its range to check (the blocks of power,
observation, group, HBM controllers and clusters, and the identity block but GLOBAL_CTRL). A value in range answers OK with one word
written: the register holds it with its reserved bits 0, and no other register and no byte of memory changes. A value out of range
answers BAD_PARAM with no word written, and nothing changes. -/
def Obligations.PlainRegistersTakeTheirRange : Prop :=
  ∀ (c : Cmd) (x : Session) (s : State) (addr : Nat) (v : W32) (l : Loc), ready c x s = true → (begun c x s).mayWriteWord (envOf c x) addr = true →
    addr % 4 = 0 → addr < 2 ^ 32 → locate addr = some l → l.row.acc = .rw →
    (l.block = .power ∨ l.block = .observe ∨ l.block = .group ∨ l.block = .hbm ∨ l.block = .cluster ∨
      (l.block = .identity ∧ addr ≠ Addr.GLOBAL_CTRL)) →
    let b := begun c x s
    (l.row.accepts (l.merged v.toNat b) = true →
      completes (.registerWrite c addr v) 0x0101 c x s ⟨St.OK, toBE 2 1 ++ zeros 2⟩ (fun t =>
        t.reg l.key = l.merged v.toNat b % 2 ^ 64 ∧ sameRegsBut [l.key] b t ∧ sameMemory s t)) ∧
    (l.row.accepts (l.merged v.toNat b) = false →
      completes (.registerWrite c addr v) 0x0101 c x s ⟨St.BAD_PARAM, toBE 2 0 ++ zeros 2⟩ (fun t => t = b))

/-- The reads with effects (R9, R60, R81, R82, R84, R224) of a session that is ready and may read the word. LO_REGISTER_READ returns the
low half and latches the high one, for TIME_SEC also TIME_NS. RC_REGISTER_READ returns the register and clears it, the high-water mark
of a packet FIFO to the words held. OCC_PKTS_READ returns the packets and latches the words held. None of these changes another
register or memory. TS_DATA_READ returns the eight words of the oldest record of a time-stamp FIFO, whose words are good, and removes it. STORE_DATA_READ
returns the eight words of the current store word and makes the next current. -/
def Obligations.ReadsWithEffects : Prop :=
  ∀ (c : Cmd) (x : Session) (s : State), ready c x s = true →
    let b := begun c x s
    let e := envOf c x
    (∀ addr l, addr % 4 = 0 → addr < 2 ^ 32 → locate addr = some l → l.row.pair = true → l.hiHalf = false → l.row.acc ≠ .wo →
      b.mayReadWord e addr = true →
      completes (.loRegisterRead c addr) 0x0100 c x s ⟨St.OK, toBE 2 1 ++ zeros 2 ++ toBE 4 (b.value l.key % 2 ^ 32)⟩ (fun t =>
        t.latched (l.key + 4) = b.value l.key / 2 ^ 32 % 2 ^ 32 ∧ (l.key = Addr.TIME_SEC → t.latched Addr.TIME_NS = b.ns % 2 ^ 32) ∧
        t.regs = b.regs ∧ sameMemory s t)) ∧
    (∀ addr l, addr % 4 = 0 → addr < 2 ^ 32 → locate addr = some l → l.row.acc = .rc → l.row.pair = false → l.hiHalf = false →
      l.block ≠ .fifo → l.block ≠ .cell → addr ≠ Addr.TIME_NS → b.mayReadWord e addr = true →
      completes (.rcRegisterRead c addr) 0x0100 c x s ⟨St.OK, toBE 2 1 ++ zeros 2 ++ toBE 4 (b.value addr)⟩ (fun t =>
        t.reg l.key = 0 ∧ sameRegsBut [l.key] b t ∧ sameMemory s t)) ∧
    (∀ f, (fifoKind f).isSome = true → b.mayReadWord e (Addr.HIGH_WATER f) = true →
      completes (.rcRegisterRead c (Addr.HIGH_WATER f)) 0x0100 c x s ⟨St.OK, toBE 2 1 ++ zeros 2 ++ toBE 4 (b.reg (Addr.HIGH_WATER f))⟩
        (fun t => t.reg (Addr.HIGH_WATER f) = b.occWords f % 2 ^ 64 ∧ sameRegsBut [Addr.HIGH_WATER f] b t ∧ sameMemory s t)) ∧
    (∀ f, (fifoKind f).isSome = true → b.mayReadWord e (Addr.OCC_PKTS f) = true →
      completes (.occPktsRead c f) 0x0100 c x s ⟨St.OK, toBE 2 1 ++ zeros 2 ++ toBE 4 (b.occPkts f)⟩ (fun t =>
        t.latched (Addr.OCC_PKTS f + 4) = b.occWords f % 2 ^ 32 ∧ t.regs = b.regs ∧ sameMemory s t)) ∧
    (∀ port, port < 16 → x.tenant = owner →
      completes (.tsDataRead c ⟨port, {}⟩) 0x0100 c x s
        ⟨St.OK, toBE 2 8 ++ zeros 2 ++ ((List.range 8).map (b.tsData (0x8F0 + port))).flatMap (toBE 4)⟩ (fun t =>
          (t.fifo (0x8F0 + port)).pkts = (b.fifo (0x8F0 + port)).pkts.drop 1 ∧ t.regs = b.regs ∧ sameMemory s t)) ∧
    (∀ cell, cell < 256 → b.tenantReads x.tenant (Addr.STORE_DATA cell 0) = true →
      completes (.storeDataRead c cell) 0x0100 c x s ⟨St.OK, toBE 2 8 ++ zeros 2 ++
        ((List.range 8).map (fun i => bits (((b.cellx cell).readOut.head?.map BitVec.toNat).getD 0) (32 * i) 32)).flatMap (toBE 4)⟩ (fun t =>
          (t.cellx cell).readOut = (b.cellx cell).readOut.tail ∧ t.regs = b.regs ∧ sameMemory s t))

/-! Memory, copies queued by software, cells -/

/-- COPY_SUBMIT, COPY_STATUS, MEM_WINDOW_SET, MEM_MAP_READ and HBM_PAGE_RETIRE (R213, R220, R221, R223, R160) of a session that is
ready. COPY_SUBMIT of 1 to 64 legal local descriptors that fit the 64 places of the cluster's software queue answers ACCEPTED and they
stand at its end. COPY_STATUS answers what the tenant has there and the last fault. MEM_WINDOW_SET by the owner sets the window, or with
ENABLE 0 removes it, and leaves every other window. MEM_MAP_READ answers OK and changes nothing. HBM_PAGE_RETIRE by the owner adds the
page to the retired ones, and of a page already retired changes nothing; without flow regions it counts the page, changes no other
register, and no byte outside the page changes. No other of these changes a byte of memory. -/
def Obligations.MemoryCommandsComplete : Prop :=
  ∀ (c : Cmd) (x : Session) (s : State) (p : Bytes), ready c x s = true → s.fw.hbmFailed = false →
    let b := begun c x s
    let k := byteAt p 0
    let n := byteAt p 1
    let ds := (List.range n).map (fun i => descOfImage (slice p (4 + 64 * i) 64))
    (p.length = 4 + 64 * n → zerosAt p 2 2 = true → k ≤ 15 → 1 ≤ n → n ≤ 64 →
      (∀ d ∈ ds, descOk d = true ∧ spaceOf d.src ≤ 3 ∧ spaceOf d.dst ≤ 3) → (tabGet [] k s.copies.soft).length + n ≤ 64 →
      completes (.copySubmit c p) 0x0200 c x s (st St.ACCEPTED) (fun t =>
        (tabGet [] k t.copies.soft).map SoftCopy.desc = (tabGet [] k s.copies.soft).map SoftCopy.desc ++ ds ∧
        (∀ j, j ≠ k → tabGet [] j t.copies.soft = tabGet [] j s.copies.soft) ∧ sameRegsBut [Addr.SWQ_STATUS k] b t ∧ sameMemory s t)) ∧
    (p.length = 4 → zerosAt p 1 3 = true → k ≤ 15 →
      completes (.copyStatus c p) 0x0202 c x s
        ⟨St.OK, toBE 1 ((tabGet [] k s.copies.soft).filter (fun y => c.tenant == owner || y.tenant == c.tenant)).length ++
          toBE 1 (tabGet (0, 0) (k * 256 + c.tenant) s.copies.lastFault).1 ++ toBE 2 (tabGet (0, 0) (k * 256 + c.tenant) s.copies.lastFault).2⟩
        (fun t => t = b)) ∧
    (x.tenant = owner → p.length = 12 → zerosAt p 2 2 = true → k ≤ 15 → n ≤ 7 → bitAt n 0 = false →
      completes (.memWindowSet c p) 0x0210 c x s ok (fun t => t.memWindow c.tenant k = {} ∧
        (∀ u w, 16 * u + w ≠ 16 * c.tenant + k → t.memWindow u w = s.memWindow u w) ∧ t.regs = b.regs ∧ sameMemory s t)) ∧
    (x.tenant = owner → p.length = 12 → zerosAt p 2 2 = true → k ≤ 15 → n ≤ 7 → bitAt n 0 = true → 0 < be p 8 4 →
      (be p 4 4 + be p 8 4) * 65536 ≤ hbmBytes → windowRefused c.tenant (be p 4 4 * 65536) (be p 8 4 * 65536) b = false →
      completes (.memWindowSet c p) 0x0210 c x s ok (fun t => t.memWindow c.tenant k = ⟨be p 4 4, be p 8 4, bitAt n 1, bitAt n 2⟩ ∧
        (∀ u w, 16 * u + w ≠ 16 * c.tenant + k → t.memWindow u w = s.memWindow u w) ∧ t.regs = b.regs ∧ sameMemory s t)) ∧
    (p = [] → ∃ r, r.status = St.OK ∧ completes (.memMapRead c p) 0x0212 c x s r (fun t => t = b)) ∧
    (x.tenant = owner → p.length = 16 → k ≤ 15 → zerosAt p 1 7 = true → be p 8 8 % 4096 = 0 → be p 8 8 < hbmBytes / 16 →
      (s.mem.retired.contains (k, be p 8 8 / 4096) = true → completes (.hbmPageRetire c p) 0x0220 c x s ok (fun t => t = b)) ∧
      (s.mem.retired.contains (k, be p 8 8 / 4096) = false → s.mem.retired.length < 4096 → flowTenants b = [] →
        completes (.hbmPageRetire c p) 0x0220 c x s ok (fun t => t.mem.retired = s.mem.retired ++ [(k, be p 8 8 / 4096)] ∧
          t.reg Addr.RETIRED_PAGES = (s.reg Addr.RETIRED_PAGES + 1) % 2 ^ 32 ∧ t.reg (Addr.RETIRED k) = (s.reg (Addr.RETIRED k) + 1) % 2 ^ 32 ∧
          sameRegsBut [Addr.RETIRED_PAGES, Addr.RETIRED k] b t ∧
          (∀ a, (∀ i < 16, a < (be p 8 8 / 256 + i) * 4096 + k * 256 ∨ (be p 8 8 / 256 + i) * 4096 + k * 256 + 256 ≤ a) →
            memByte t.mem a = memByte s.mem a))))

/-- CELL_ASSIGN, CELL_QUERY, STORE_CMD and ZEROING_DONE (R204, R205, R223, R224). CELL_ASSIGN by the owner whose mask names no cell that
fails its condition answers OK: to UNCONFIGURED, every named cell is UNCONFIGURED with no tenant and zeroing; to INLINE or BULK, every
named cell is in that state for the named tenant; cells not named keep state and tenant. One that names a cell that fails answers the
status with the first such cell and changes nothing. CELL_QUERY answers OK and changes nothing. STORE_CMD by the holding tenant of a BULK
cell of a halted cluster takes eight words of its store from STORE_ADDR for STORE_DATA, and C256_CORR may count corrected ones. ZEROING_DONE of a cell that is zeroing clears
ZEROING. No byte of memory changes. -/
def Obligations.CellCommandsComplete : Prop :=
  (∀ (c : Cmd) (x : Session) (s : State) (p : Bytes), ready c x s = true →
    let b := begun c x s
    let cells := cellMask p 0
    let target := byteAt p 32
    let tenant := byteAt p 33
    (x.tenant = owner → p.length = 36 → zerosAt p 34 2 = true → target ≤ 2 → (∀ i ∈ cells, assignRefused i target tenant b = none) →
      completes (.cellAssign c p) 0x0420 c x s ok (fun t =>
        (target = 0 → ∀ i ∈ cells, t.cellState i = 0 ∧ t.cellTenant i = 0 ∧ t.flag (Addr.CELL_STATE i) 5 = true) ∧
        (target ≠ 0 → ∀ i ∈ cells, t.cellState i = target ∧ t.cellTenant i = tenant) ∧
        (∀ i < 256, i ∉ cells → t.cellState i = b.cellState i ∧ t.cellTenant i = b.cellTenant i) ∧ sameMemory s t)) ∧
    (x.tenant = owner → p.length = 36 → zerosAt p 34 2 = true → target ≤ 2 →
      ∀ i st, cells.find? (fun i => (assignRefused i target tenant b).isSome) = some i → assignRefused i target tenant b = some st →
        completes (.cellAssign c p) 0x0420 c x s ⟨st, toBE 1 i⟩ (fun t => t = b)) ∧
    (p.length = 32 → ∃ r, r.status = St.OK ∧ r.params.length = 4 * cells.length ∧
      completes (.cellQuery c p) 0x0422 c x s r (fun t => t = b)) ∧
    (∀ (cell : Nat) (v : W32), cell < 256 → b.cellState cell = 2 → b.cellTenant cell = x.tenant → b.halted (cell / 16) = true →
      v.toNat % 2 = 1 → completes (.storeCmd c cell v) 0x0101 c x s ⟨St.OK, toBE 2 1 ++ zeros 2⟩ (fun t =>
        (t.cellx cell).readOut = (List.range 8).map (fun i => b.storeWord cell ((b.reg (Addr.STORE_ADDR cell) + i) % 262144)) ∧
        t.reg (Addr.STORE_STATUS cell) = St.OK ∧ sameRegsBut [Addr.STORE_STATUS cell, Addr.CELL_C256_CORR cell] b t ∧ sameMemory s t))) ∧
  (∀ (t cell : Nat) (s : State), cell < 256 → s.flag (Addr.CELL_STATE cell) 5 = true →
    ∃ u, exec (.zeroingDone t cell) s = .next u ∧ u.flag (Addr.CELL_STATE cell) 5 = false ∧ sameRegsBut [Addr.CELL_STATE cell] s u ∧
      u.cellState cell = s.cellState cell ∧ u.cellTenant cell = s.cellTenant cell ∧ sameMemory s u)

/-! The beat and the time base -/

/-- The register writes of the beat and time base (R37, R39, R47, R56, R60) by the owner, each answering OK with one word written, under
the conditions for which the manual does not refuse it. BEAT_CTRL takes the value, and a new MODE waits for the next issued beat.
BEAT_RATE_TARGET takes the rate, in FIXED mode from the next issued beat. SPOKE_REATTACH names detached spokes to re-attach.
HALT_MASK arms a halt at HALT_AT and RESUME_MASK a release at RESUME_AT. SNAP asks for a capture at the next root beat. TIME_STEP_NS
steps the time of day by its signed nanoseconds. Besides those named no register changes but, for the step's event, the event counters. -/
def Obligations.BeatWritesTakeEffect : Prop :=
  ∀ (c : Cmd) (x : Session) (s : State) (v : W32), ready c x s = true → x.tenant = owner →
    let b := begun c x s
    let n := v.toNat
    let done : Reply := ⟨St.OK, toBE 2 1 ++ zeros 2⟩
    (n % 4 ≠ 3 → (n % 4 = b.beatMode ∨ (b.joined = false ∧ n % 4 ≠ 2)) →
      completes (.beatCtrlWrite c v) 0x0101 c x s done (fun t => t.reg Addr.BEAT_CTRL = n % 16 ∧ sameRegsBut [Addr.BEAT_CTRL] b t ∧
        t.modeInForce = b.modeInForce ∧ t.beat.t0 = b.beat.t0 ∧ t.beat.n0 = b.beat.n0 ∧ sameMemory s t)) ∧
    (b.joined = false → b.beatMode ≠ 2 → 500 ≤ n % 4096 → n % 4096 ≤ 2000 →
      completes (.beatRateTargetWrite c v) 0x0101 c x s done (fun t => t.reg Addr.BEAT_RATE_TARGET = n % 4096 ∧
        sameRegsBut [Addr.BEAT_RATE_TARGET] b t ∧ t.beat.rate = b.beat.rate ∧ t.beat.newOrigin = (b.beat.newOrigin || b.beatMode == 1) ∧
        sameMemory s t)) ∧
    (completes (.spokeReattach c v) 0x0101 c x s done (fun t => t.regs = b.regs ∧
      t.beat.reattach = b.beat.reattach ||| (n % 2 ^ 20 &&& b.reg Addr.SPOKE_DETACHED) ∧ sameMemory s t)) ∧
    ((∀ k < 16, bitAt n k = true → b.cellsIn k 1 = []) → splitsJob (n % 2 ^ 16) b = false → b.zc < b.reg Addr.HALT_AT →
      completes (.haltMaskWrite c v) 0x0101 c x s done (fun t => t.beat.haltArm = some (n % 2 ^ 16, b.reg Addr.HALT_AT) ∧
        t.reg Addr.HALT_MASK = n % 2 ^ 16 ∧ sameRegsBut [Addr.HALT_MASK] b t ∧ sameMemory s t)) ∧
    (splitsJob (n % 2 ^ 16) b = false → b.zc < b.reg Addr.RESUME_AT →
      completes (.resumeMaskWrite c v) 0x0101 c x s done (fun t => t.beat.resumeArm = some (n % 2 ^ 16, b.reg Addr.RESUME_AT) ∧
        t.reg Addr.RESUME_MASK = n % 2 ^ 16 ∧ sameRegsBut [Addr.RESUME_MASK] b t ∧ sameMemory s t)) ∧
    (n % 2 = 1 → completes (.snap c v) 0x0101 c x s done (fun t => t.beat.snapPending = true ∧ t.regs = b.regs ∧ sameMemory s t)) ∧
    (b.flag Addr.TIME_CTRL 3 = true →
      completes (.timeStepNsWrite c v) 0x0101 c x s done (fun t => t.time.tod = b.time.tod + signed 32 n * 1000000000000 ∧
        sameRegsBut eventRegs b t ∧ sameMemory s t))

/-- A beat is issued (R36, R40, R43, R56). Where the device is on, the earliest-issue instant has come, an instant after the due one has
a late acknowledgement to blame, and no freeze is pending for it, BEAT_ISSUE at t answers the next state in which ZC_ROOT is one
more modulo 2^64, the last issue is t, and STRETCH_COUNT has counted it exactly if t is after the due instant; where a SNAP is pending,
SNAP_ZC holds the new count and none is pending any more. Memory, jobs, models, packets, tables and sessions' identities stay. Halts, releases and silent spokes (R37, R47, R49). STREAM_HANG after SPOKE_TIMEOUT raises EV_STREAM_HANG and nothing else. A cluster
spoke i < 16 silent for SPOKE_TIMEOUT is detached: SPOKE_DETACHED i is set and the cluster is halted. A die spoke 16 to 19: its bit is
set. On beat HALT_AT every armed cluster is halted and nothing is armed. On beat RESUME_AT every armed halted cluster that is not
detached and that neither a barrier nor the primer holds leaves the halt, and nothing is armed. A gust that is due releases those of the first gust-size cells of its sequence that are not
released yet and whose clusters are not detached or waiting after a silence, each in its ramp. -/
def Obligations.BeatsIssueHaltAndRelease : Prop :=
  (∀ (t : Nat) (late cells : List Nat) (s : State), s.mayIssue t late = true →
    ∃ u, exec (.beatIssue t late cells) s = .next u ∧ u.zc = (s.zc + 1) % 2 ^ 64 ∧ u.beat.lastIssue = t ∧
      u.reg Addr.STRETCH_COUNT = (s.reg Addr.STRETCH_COUNT + b2n (decide (s.due < t))) % 2 ^ 64 ∧
      (s.beat.snapPending = true → u.reg Addr.SNAP_ZC = u.zc) ∧ u.beat.snapPending = false ∧
      u.mem = s.mem ∧ u.jobs = s.jobs ∧ u.models = s.models ∧ u.ports = s.ports ∧ u.mt = s.mt ∧ u.hc = s.hc ∧ u.tm = s.tm ∧ u.flow = s.flow ∧
      u.copies = s.copies ∧ u.sessions.map Session.id = s.sessions.map Session.id) ∧
  (∀ (t : Nat) (s : State),
    (s.on = true → s.beat.lastIssue + us (s.reg Addr.SPOKE_TIMEOUT) ≤ t →
      exec (.streamHang t) s = .next ((advance t s).raiseEvent 0xFF11 owner)) ∧
    (∀ i < 20, s.on = true → s.flag Addr.SPOKE_DETACHED i = false → s.beat.lastIssue + us (s.reg Addr.SPOKE_TIMEOUT) ≤ t →
      ∃ u, exec (.spokeTimeoutExpiry t i) s = .next u ∧ u.flag Addr.SPOKE_DETACHED i = true ∧ (i < 16 → u.halted i = true)) ∧
    (∀ mask n, s.beat.haltArm = some (mask, n) → n ≤ s.zc →
      ∃ u, exec (.clusterHalt t) s = .next u ∧ u.beat.haltArm = none ∧ ∀ k < 16, bitAt mask k = true → u.halted k = true) ∧
    (∀ mask n, s.beat.resumeArm = some (mask, n) → n ≤ s.zc →
      ∃ u, exec (.clusterResume t) s = .next u ∧ u.beat.resumeArm = none ∧
        ∀ k < 16, bitAt mask k = true → s.detached k = false → (∀ w ∈ s.haltCauses k, w = .mask ∨ w = .spoke) → u.halted k = false) ∧
    (∀ id g, s.beat.gusts.find? (fun g => g.id == id) = some g → g.base + g.next * g.interval ≤ g.base + g.run → (∀ i ∈ g.cells, i < 256) →
      ∃ u, exec (.gustRelease t id) s = .next u ∧ ∀ i ∈ g.cells.take g.size, s.detached (i / 16) = false → HaltCause.spoke ∉ s.haltCauses (i / 16) → i ∉ s.beat.released →
        i ∈ u.beat.released ∧ u.flag (Addr.CELL_STATE i) 4 = true))
/-- The time base (R55, R498). TIME_SERVO_UPDATE of a selected source, firmware running, sets TIME_FREQ_ADJ to the correction, limited
to ±500,000 ppb (under SOURCE PTP beside the message its ordinary clock sends, log 58), and slews the offset, or steps it where it is above 1 ms and STEP_EN is 1. TIME_SOURCE_LOST of a selected source puts
TIME_STATE into HOLDOVER. A pulse of at least 100 ns on PTP_1PPS_IN is time-stamped and counted; one that comes one second ± 100 µs
after the last, under SOURCE PPS, has its offset from the whole second corrected. PTP_1PPS_OUT, where enabled, pulses within 4 ns of a
whole second. -/
def Obligations.TimeBaseFollowsItsSource : Prop :=
  ∀ (t : Nat) (s : State),
    (∀ (off ppb : Int), s.timeSource ≠ 0 → s.limik = true →
      ∃ u, exec (.timeServoUpdate t off ppb) s = .next u ∧ u.reg Addr.TIME_FREQ_ADJ = unsigned 32 (max (-500000) (min 500000 ppb)) ∧
        (off.natAbs ≤ 1000000 ∨ s.flag Addr.TIME_CTRL 3 = false →
          u.time.slew = off * 1000000000000 ∧ u.time.tod = (advance t s).time.tod) ∧
        (1000000 < off.natAbs → s.flag Addr.TIME_CTRL 3 = true →
          u.time.slew = 0 ∧ u.time.tod = (advance t s).time.tod + off * 1000000000000)) ∧
    (s.timeSource ≠ 0 → s.timeState ≠ 3 →
      ∃ u, exec (.timeSourceLost t) s = .next u ∧ u.timeState = 3 ∧ u.reg Addr.TIME_FREQ_ADJ = s.reg Addr.TIME_FREQ_ADJ) ∧
    (∀ width, s.on = true → 100 ≤ width →
      ∃ u, exec (.ppsInEdge t width) s = .next u ∧ u.time.lastPps = some t ∧ u.time.ppsCount = s.time.ppsCount + 1 ∧
        (∀ q, s.time.lastPps = some q → s.timeSource = 2 → secs 1 ≤ t - q + us 100 → t - q ≤ secs 1 + us 100 →
          (ppsOffset (advance t s)).natAbs ≤ 1000000 → u.time.slew = ppsOffset (advance t s) * 1000000000000)) ∧
    (s.flag Addr.TIME_CTRL 2 = true → ((advance t s).ns ≤ 4 ∨ 999999996 ≤ (advance t s).ns) →
      ∃ u, exec (.ppsOutPulse t) s = .next u ∧ u.out = s.out ++ [.pps 100000] ∧ u.regs = s.regs)

/-! Ports, intake and packet FIFOs -/

/-- Ethernet ports (R62, R64, R65, R83). PORT_CTRL_WRITE by the owner of a MODE that exists, that R63 allows beside the partner and whose
reservations fit the buffer, with the MODE as it was: PORT_CTRL takes the value and PORT_STATUS stays. With another MODE: PORT_CTRL takes
it and every sub-port of the port is down. LINK_STATE_CHANGE of a sub-port that the mode creates sets SUB_UP, and leaves every other
sub-port's; one that comes up changes no other register. HI_SER_UPDATE on a device that is on adds the uncorrected and the corrected codewords and the symbols corrected on each
lane, and sets HI_SER exactly if the uncorrected ones are above the threshold. -/
def Obligations.EthernetPortsChange : Prop :=
  (∀ (c : Cmd) (x : Session) (s : State) (port : Nat) (v : W32), ready c x s = true → x.tenant = owner → port < 16 →
    let b := begun c x s
    let m := v.toNat % 8
    let w := v.toNat % 2 ^ 32 &&& 0x7F
    m ≤ 4 → ¬ (m = 4 ∧ b.portMode (partner port) ≠ 0) → ¬ (m ≠ 0 ∧ b.portMode (partner port) = 4) →
    (m = b.portMode port → completes (.portCtrlWrite c port v) 0x0101 c x s ⟨St.OK, toBE 2 1 ++ zeros 2⟩ (fun t =>
      t.reg (Addr.PORT_CTRL port) = w ∧ sameRegsBut [Addr.PORT_CTRL port] b t ∧ sameMemory s t)) ∧
    (m ≠ b.portMode port → (b.setReg (Addr.PORT_CTRL port) w).reservedSum ≤ bufferPages →
      completes (.portCtrlWrite c port v) 0x0101 c x s ⟨St.OK, toBE 2 1 ++ zeros 2⟩ (fun t =>
        t.reg (Addr.PORT_CTRL port) = w ∧ (∀ k < 8, t.subUp port k = false) ∧ sameMemory s t))) ∧
  (∀ (t p k : Nat) (up : Bool) (lanes : Nat) (s : State), k < subPortsOf (s.portMode p) →
    ∃ u, exec (.linkStateChange t p k up lanes) s = .next u ∧ u.subUp p k = up ∧ (∀ j < 8, j ≠ k → u.subUp p j = s.subUp p j) ∧
      (up = true → sameRegsBut [Addr.PORT_STATUS p] s u ∧ u.ports = s.ports)) ∧
  (∀ (t p n m : Nat) (symbols : List Nat) (s : State), s.on = true → p < 16 →
    ∃ u, exec (.hiSerUpdate t p n m symbols) s = .next u ∧ u.reg (Addr.FEC_UNCORR_CW p) = (s.reg (Addr.FEC_UNCORR_CW p) + n) % 2 ^ 64 ∧
      u.reg (Addr.FEC_CORR_CW p) = (s.reg (Addr.FEC_CORR_CW p) + m) % 2 ^ 64 ∧
      (∀ j < 8, u.reg (Addr.FEC_SYMBOL_ERR p j) = (s.reg (Addr.FEC_SYMBOL_ERR p j) + symbols.getD j 0) % 2 ^ 32) ∧
      u.flag (Addr.PORT_STATUS p) 18 = decide (s.reg (Addr.HI_SER_THRESH p) < n) ∧
      sameRegsBut ((List.range 8).map (Addr.FEC_SYMBOL_ERR p) ++ [Addr.FEC_UNCORR_CW p, Addr.FEC_CORR_CW p, Addr.PORT_STATUS p]) s u)

/-- FRAME_RECEIVE (R66 to R68, R77, R78) of a frame that is no PAUSE or PFC frame, on sub-port k of port p that is up, with its intake
FIFO L enabled, no frame partly received there and the device not in ERROR. The first part of a frame that finds its pages
is held, and not committed. A frame of 64 bytes to MAX_FRAME with a good FCS, for which every page is found, is
committed: a packet of the buffer holds its bytes without FCS and stands last in FIFO L, RX_FRAMES and RX_BYTES count it. A frame whose
FCS is bad, however its pages fare, is rewound: FIFO L is as it was and REWIND_COUNT counts it. Flow control (R70, R290). PFC_REFRESH of an XOFF of an enabled priority, or of the port under PAUSE, outstanding for 16,384 quanta with the count at or above XON_THRESH sends the pause
time 0xFFFF again, on the wire where TX_ENABLE is 1 and LOOPBACK 0. PFC_FRAME_RECEIVE on a link that is up pauses each enabled priority, or the port under PAUSE, for its time in quanta of 512 bit times, or ends
the pause for time 0. PAUSE_EXPIRY at or after the end of a pause ends it. -/
def Obligations.FramesComeInAndPausesHold : Prop :=
  (∀ (t L p k : Nat) (fr : Bytes) (s : State), s.placeOf L = some (p, k) → s.subUp p k = true → isPauseFrame fr = false →
    s.flag (Addr.FIFO_CTRL L) 0 = true → s.secError = false → 64 ≤ fr.length → fr.length ≤ s.reg (Addr.MAX_FRAME p k) → p < 16 → k < 8 →
    L < 64 → s.arriving L = none →
    let body := fr.take (fr.length - 4)
    let s1 := advance t s
    let rx := s1.rxTime p
    let desc (b : Bytes) : Desc := ⟨rx.1, rx.2, s1.zc, b.length, L, s1.field (Addr.INTAKE_TENANT p k) 0 8, intakePrio s1 p k b, ptpEvent b⟩
    let id := s.ports.nextPkt
    let s2 (b : Bytes) : State := { s1 with ports.packets := s1.ports.packets ++ [{ id, desc := desc b, bytes := b }], ports.nextPkt := id + 1 }
    let room (b : Bytes) : Prop := (takePages p k L (desc b).prio id (pagesOf b.length) 0 (s2 b)).2 = none
    (room fr → ∃ u, exec (.frameReceive t L fr .partly none) s = .next u ∧
      (∃ q ∈ u.ports.packets, q.id = id ∧ q.bytes = fr ∧ q.at_ = .receiving) ∧ (u.fifo L).pkts = (s.fifo L).pkts ∧
      u.reg (Addr.RX_FRAMES p k) = s.reg (Addr.RX_FRAMES p k) ∧ sameMemory s u) ∧
    (room body →
      ∃ u, exec (.frameReceive t L fr .good none) s = .next u ∧
        (∃ q ∈ u.ports.packets, q.id = id ∧ q.bytes = body ∧ q.at_ = .intake) ∧
        (u.fifo L).pkts = (s.fifo L).pkts ++ [⟨1 + ceilDiv body.length 32, some id, []⟩] ∧
        u.reg (Addr.RX_FRAMES p k) = (s.reg (Addr.RX_FRAMES p k) + 1) % 2 ^ 64 ∧
        u.reg (Addr.RX_BYTES p k) = (s.reg (Addr.RX_BYTES p k) + body.length) % 2 ^ 64 ∧ sameMemory s u) ∧
    (∃ u, exec (.frameReceive t L fr .badFcs none) s = .next u ∧ u.fifo L = s.fifo L ∧
      u.reg (Addr.REWIND_COUNT L) = (s.reg (Addr.REWIND_COUNT L) + 1) % 2 ^ 32 ∧ sameMemory s u)) ∧
  ((∀ (t L prio p k : Nat) (s : State), s.placeOf L = some (p, k) → s.subUp p k = true → prio ∈ s.fcWatched p k →
    tabGet 0 (fcKey L prio) s.ports.xoff ≠ 0 → s.reg (Addr.XON_THRESH p k) ≤ s.pagesHeld L (if prio = 8 then none else some prio) →
    let i := if prio = 8 then 0 else prio
    tabGet 0 (fcKey L prio) s.ports.xoff - 1 + 16384 * 2560 / lanesOf (s.portMode p) ≤ t →
    ∃ u, exec (.pfcRefresh t L prio) s = .next u ∧
      u.out = s.out ++ (if s.flag (Addr.PORT_CTRL p) 6 = false ∧ s.flag (Addr.PORT_CTRL p) 3 = true ∧ s.secError = false then
        [if prio = 8 then .pfc L true 0 [0xFFFF] else .pfc L false (2 ^ prio) ((List.range 8).map (fun i => if i = prio then 0xFFFF else 0))] else []) ∧
      tabGet 0 (fcKey L prio) u.ports.xoff = max s.now t + 1 ∧ u.reg (Addr.PFC_TX p k i) = (s.reg (Addr.PFC_TX p k i) + 1) % 2 ^ 32 ∧
      sameRegsBut [Addr.PFC_TX p k i, Addr.PFC_RX p k i] s u) ∧
  (∀ (t L p k i q : Nat) (s : State), s.placeOf L = some (p, k) → s.subUp p k = true → s.flowMode p k = 2 → i < 8 →
    bitAt (s.pfcEn p k) i = true →
    ∃ u, exec (.pfcFrameReceive t L false (2 ^ i) ((List.range 8).map (fun j => if j = i then q else 0))) s = .next u ∧
      tabGet 0 (fcKey L i) u.ports.paused = (if q = 0 then 0 else max s.now t + q * (2560 / lanesOf (s.portMode p))) ∧
      u.reg (Addr.PFC_RX p k i) = (s.reg (Addr.PFC_RX p k i) + 1) % 2 ^ 32 ∧ sameRegsBut [Addr.PFC_RX p k i] s u) ∧
  (∀ (t L p k q : Nat) (s : State), s.placeOf L = some (p, k) → s.subUp p k = true → s.flowMode p k = 1 →
    ∃ u, exec (.pfcFrameReceive t L true 0 [q]) s = .next u ∧
      tabGet 0 (fcKey L 8) u.ports.paused = (if q = 0 then 0 else max s.now t + q * (2560 / lanesOf (s.portMode p))) ∧
      u.reg (Addr.PFC_RX p k 0) = (s.reg (Addr.PFC_RX p k 0) + 1) % 2 ^ 32 ∧ sameRegsBut [Addr.PFC_RX p k 0] s u) ∧
  (∀ (t L prio : Nat) (s : State), tabGet 0 (fcKey L prio) s.ports.paused ≠ 0 → tabGet 0 (fcKey L prio) s.ports.paused ≤ t →
    ∃ u, exec (.pauseExpiry t L prio) s = .next u ∧ tabGet 0 (fcKey L prio) u.ports.paused = 0))
/-- Packet FIFOs (R75 to R80, R84). A packet whose last word comes into a FIFO is committed and COMMIT_COUNT counts it: in an intake FIFO
that is enabled, of a sub-port that is up, with a page for every 2,048 bytes, it is a packet of the buffer that waits for its header
core, and RX_FRAMES and RX_BYTES count it; in an egress, command-ingress or time-stamp FIFO with room it stands last; five words from a
header core at work end its packet's parse and stand last; a fabric packet whose credits and header are right, but whose route is cut,
is held for its port, and FLITS_RX counts its flits. One that finds a fabric receive or command ingress FIFO full is rewound and counted
in REWIND_COUNT and OVERFLOW_COUNT. A write of 1 to DROP_REST by the owner while the consumer is reading a packet removes that packet,
the oldest, and counts it; while the consumer reads none it answers OK and changes nothing. -/
def Obligations.PacketFifosCommitAndDrop : Prop :=
  (∀ (t L p k : Nat) (ws : List W256) (s : State), s.on = true → s.placeOf L = some (p, k) → L < 64 → p < 16 → k < 8 → s.subUp p k = true →
    s.flag (Addr.FIFO_CTRL L) 0 = true →
    let bytes := (ws.drop 1).flatMap (fun w => toLE 32 w.toNat)
    let w := descOfWord (ws.getD 0 0#256).toNat
    let d := { w with lport := L, length := min w.length bytes.length }
    let s1 := advance t s
    let q : Pkt := { id := s.ports.nextPkt, desc := d, bytes := bytes.take d.length }
    (takePages p k L d.prio q.id (pagesOf d.length) 0 { s1 with ports.packets := s1.ports.packets ++ [q], ports.nextPkt := q.id + 1 }).2 = none →
    ∃ u, exec (.packetCommit t L ws) s = .next u ∧ (∃ r ∈ u.ports.packets, r.id = q.id ∧ r.bytes = q.bytes ∧ r.at_ = .intake) ∧
      (u.fifo L).pkts = (s.fifo L).pkts ++ [⟨1 + ceilDiv d.length 32, some q.id, []⟩] ∧
      u.reg (Addr.COMMIT_COUNT L) = (s.reg (Addr.COMMIT_COUNT L) + 1) % 2 ^ 64 ∧
      u.reg (Addr.RX_FRAMES p k) = (s.reg (Addr.RX_FRAMES p k) + 1) % 2 ^ 64 ∧
      u.reg (Addr.RX_BYTES p k) = (s.reg (Addr.RX_BYTES p k) + d.length) % 2 ^ 64 ∧ sameMemory s u) ∧
  (∀ (t f kd : Nat) (ws : List W256) (s : State), s.on = true → fifoKind f = some kd → (kd = 1 ∨ kd = 4 ∨ kd = 5) → s.fifoFits f ws.length = true →
    ∃ u, exec (.packetCommit t f ws) s = .next u ∧ (u.fifo f).pkts = (s.fifo f).pkts ++ [⟨ws.length, none, ws⟩] ∧
      (∀ g, g ≠ f → u.fifo g = s.fifo g) ∧ u.reg (Addr.COMMIT_COUNT f) = (s.reg (Addr.COMMIT_COUNT f) + 1) % 2 ^ 64 ∧
      (kd ≠ 1 → u.reg (Addr.HIGH_WATER f) = max (s.reg (Addr.HIGH_WATER f)) ((s.fifo f).wordsHeld + ws.length)) ∧
      sameRegsBut [Addr.COMMIT_COUNT f, Addr.HIGH_WATER f] s u ∧ sameMemory s u) ∧
  (∀ (t n : Nat) (ws : List W256) (c : Core) (q : Pkt) (s : State), s.on = true → n < 2048 → s.core n = some c → c.finished = false →
    s.packet c.pkt = some q → ws.length = 5 → s.fifoFits (0x80 + n) 5 = true →
    ∃ u r, exec (.packetCommit t (0x80 + n) ws) s = .next u ∧ u.packet c.pkt = some r ∧ r.at_ = .parsed ∧ r.bus = busOfWords ws ∧
      (u.core n).map Core.finished = some true ∧
      (u.fifo (0x80 + n)).pkts = (s.fifo (0x80 + n)).pkts ++ [⟨5, some c.pkt, parsedWords (busOfWords ws) q.desc c.pkt⟩] ∧
      u.reg (Addr.COMMIT_COUNT (0x80 + n)) = (s.reg (Addr.COMMIT_COUNT (0x80 + n)) + 1) % 2 ^ 64 ∧ sameMemory s u) ∧
  (∀ (t p : Nat) (hdr : W256) (data : List W256) (s : State),
    let h := headerOf hdr.toNat
    let cls := bits hdr.toNat 6 3
    let n := 1 + data.length
    s.on = true → s.mayReceive p = true → h.vc < 4 → s.rxWords p h.vc + n ≤ 16384 → h.ty ≠ tyCredit → headerValid hdr.toNat = true →
    h.len = data.length → n ≤ tabGet 0 (creditKey p h.vc cls) s.fabric.granted → s.hop h.src h.dst (some p) cls = .cut →
    ∃ u, exec (.packetCommit t (rxFifo p h.vc) (hdr :: data)) s = .next u ∧
      u.fabric.held = s.fabric.held ++ [⟨h.vc, cls, h.dst, hdr.toNat, data, some p, false⟩] ∧
      tabGet 0 (creditKey p h.vc cls) u.fabric.granted = tabGet 0 (creditKey p h.vc cls) s.fabric.granted - n ∧
      u.reg (Addr.FLITS_RX p) = (s.reg (Addr.FLITS_RX p) + n) % 2 ^ 64 ∧
      u.reg (Addr.COMMIT_COUNT (rxFifo p h.vc)) = (s.reg (Addr.COMMIT_COUNT (rxFifo p h.vc)) + 1) % 2 ^ 64) ∧
  (∀ (t f : Nat) (ws : List W256) (s : State), s.on = true →
    (fifoKind f = some 4 ∧ s.fifoFits f ws.length = false ∨
      ∃ p hdr data, ws = hdr :: data ∧ s.mayReceive p = true ∧ (headerOf hdr.toNat).vc < 4 ∧ f = rxFifo p (headerOf hdr.toNat).vc ∧
        16384 < s.rxWords p (headerOf hdr.toNat).vc + ws.length) →
    ∃ u, exec (.packetCommit t f ws) s = .next u ∧ u.fifo f = s.fifo f ∧ u.fabric = s.fabric ∧
      u.reg (Addr.REWIND_COUNT f) = (s.reg (Addr.REWIND_COUNT f) + 1) % 2 ^ 32 ∧
      u.reg (Addr.OVERFLOW_COUNT f) = (s.reg (Addr.OVERFLOW_COUNT f) + 1) % 2 ^ 32 ∧
      sameRegsBut [Addr.REWIND_COUNT f, Addr.OVERFLOW_COUNT f, Addr.HIGH_WATER f] s u ∧ sameMemory s u) ∧
  (∀ (c : Cmd) (x : Session) (s : State) (f : Nat) (v : W32), ready c x s = true → x.tenant = owner → (fifoKind f).isSome = true →
    let b := begun c x s
    let written : Reply := ⟨St.OK, toBE 2 1 ++ zeros 2⟩
    (v.toNat % 2 = 1 → (b.fifo f).reading.isSome = true →
      completes (.dropRest c f v) 0x0101 c x s written (fun t => t.fifo f = ⟨(b.fifo f).pkts.drop 1, none⟩ ∧
        (∀ g, g ≠ f → t.fifo g = b.fifo g) ∧ t.reg (Addr.DROP_REST_COUNT f) = (b.reg (Addr.DROP_REST_COUNT f) + 1) % 2 ^ 32 ∧
        sameRegsBut [Addr.DROP_REST_COUNT f] b t ∧ sameMemory s t)) ∧
    (v.toNat % 2 = 0 ∨ (b.fifo f).reading = none → completes (.dropRest c f v) 0x0101 c x s written (fun t => t = b)))

/-! Header cores -/

/-- Header core n is at an instruction `w` below STEP_CAP, and c is the core (R89, R91, R103): its bank is the one in force when it issues
its first instruction, on a flip beat the new one. -/
def coreAt (n w : Nat) (s : State) (c : Core) : Prop :=
  (∃ c0, s.core n = some c0 ∧ c = (if c0.steps = 0 then { c0 with bank := s.bankNow (n / 128) } else c0)) ∧
    c.finished = false ∧ s.progWord (n / 128) c.bank c.pc = w ∧ c.steps < s.reg (Addr.STEP_CAP (n / 128))

/-- The core after an instruction that goes on at the next address with `c'`. -/
def goesOn (c' : Core) : Core := { c' with steps := c'.steps + 1, pc := c'.pc + 1 }

/-- The core after an instruction that goes on at address `pc`. -/
def goesTo (c : Core) (pc : Nat) : Core := { c with steps := c.steps + 1, pc }

/-- The 64-bit result of FN on the second operands S and T (R101). -/
def fnResult (fn : Nat) (S T : W64) : W64 :=
  match fn with
  | 0 => S + T
  | 1 => S - T
  | 2 => S &&& T
  | 3 => S ||| T
  | 4 => S ^^^ T
  | 5 => S <<< (T.toNat % 64)
  | 6 => S >>> (T.toNat % 64)
  | _ => S

/-- COND on two unsigned numbers (R101). -/
def condHolds (cond : Nat) (S T : W64) : Bool :=
  match cond with
  | 0 => S == T
  | 1 => S != T
  | 2 => S.ult T
  | _ => T.ule S

/-- The register instructions (R93, R100, R101), on a core that is at the instruction's word and not at address 4095. NOP changes no
register. LD within the frame and the window writes the bytes at C + OFF (+ S[9:0]) in wire order, zero-extended; past the frame it ends the parse
with LEN_CONFLICT, past the window with PARSE_DEPTH. MOVI replaces one
16-bit quarter of D and keeps the others. ALU and ALUI write S FN T and S FN IMM, 64 bits, shifts by the second operand mod 64. EXT
writes the WID bits of S from POS, WID 0 meaning 64. META sets [OFF+WID-1:OFF] of the bus to S[WID-1:0]. The core goes on at the next
address one step later, and nothing else of the device changes. -/
def Obligations.HeaderCoreRegisterInstructions : Prop :=
  ∀ (n : Nat) (s : State) (c : Core), c.pc ≠ 4095 →
    (coreAt n encNop s c → exec (.hcNop n) s = .next (s.updCore n (fun _ => goesOn c))) ∧
    (∀ d src sz x off, d < 16 → src < 16 → sz < 4 → off < 512 → coreAt n (encLd d src sz x off) s c →
      let a := c.c + off + (if x then c.reg src % 1024 else 0)
      (a + 2 ^ sz ≤ frameLength s c → a + 2 ^ sz ≤ 512 → exec (.hcLd n d src sz x off) s =
        .next (s.updCore n (fun _ => goesOn { c with regs := c.regs.set d (BitVec.ofNat 64 (be (frameBytes s c) a (2 ^ sz))) }))) ∧
      (frameLength s c < a + 2 ^ sz → exec (.hcLd n d src sz x off) s = .next (finishParse { c with steps := c.steps + 1 } 2 c.pc s)) ∧
      (a + 2 ^ sz ≤ frameLength s c → 512 < a + 2 ^ sz → exec (.hcLd n d src sz x off) s = .next (finishParse { c with steps := c.steps + 1 } 1 c.pc s))) ∧
    (∀ d k imm, d < 16 → k < 4 → imm < 65536 → coreAt n (encMovi d k imm) s c →
      ∃ v, (∀ q < 4, bits v (16 * q) 16 = if q = k then imm else bits (c.reg d) (16 * q) 16) ∧
        exec (.hcMovi n d k imm) s = .next (s.updCore n (fun _ => goesOn { c with regs := c.regs.set d (BitVec.ofNat 64 v) }))) ∧
    (∀ d src tgt fn, d < 16 → src < 16 → tgt < 16 → fn < 8 → coreAt n (encAlu d src tgt fn) s c →
      exec (.hcAlu n d src tgt fn) s = .next (s.updCore n (fun _ =>
        goesOn { c with regs := c.regs.set d (fnResult fn (c.regs.getD src 0#64) (c.regs.getD tgt 0#64)) }))) ∧
    (∀ d src fn imm, d < 16 → src < 16 → fn < 8 → imm < 16384 → coreAt n (encAlui d src fn imm) s c →
      exec (.hcAlui n d src fn imm) s = .next (s.updCore n (fun _ =>
        goesOn { c with regs := c.regs.set d (fnResult fn (c.regs.getD src 0#64) (BitVec.ofNat 64 imm)) }))) ∧
    (∀ d src pos wid, d < 16 → src < 16 → pos < 64 → wid < 64 → coreAt n (encExt d src pos wid) s c →
      exec (.hcExt n d src pos wid) s = .next (s.updCore n (fun _ => goesOn { c with
        regs := c.regs.set d (BitVec.ofNat 64 (c.reg src / 2 ^ pos % 2 ^ (if wid = 0 then 64 else wid))) }))) ∧
    (∀ src off wid, src < 16 → off < 1024 → wid < 64 → off + (if wid = 0 then 64 else wid) ≤ 1024 → coreAt n (encMeta src off wid) s c →
      ∃ bus, busBits bus off (if wid = 0 then 64 else wid) = c.reg src % 2 ^ (if wid = 0 then 64 else wid) ∧
        (∀ o w, (o + w ≤ off ∨ off + (if wid = 0 then 64 else wid) ≤ o) → busBits bus o w = busBits c.bus o w) ∧
        exec (.hcMeta n src off wid) s = .next (s.updCore n (fun _ => goesOn { c with bus })))

/-- The branches (R100 to R102), on a core that is at the instruction's word. BR and BRI go to TARGET where COND holds of the two registers, or of the
register and IMM8, unsigned, and to the next address where it does not, which address 4095 has none of. JMP goes to TARGET. DISP goes to the TARGET
[27:16] of the first of the 32 entries of table TBL that is VALID [28] and whose VALUE [15:0] is S[15:0], and to DEFAULT where there is none. The
core has made one step more, and nothing else of the device changes. -/
def Obligations.HeaderCoreBranches : Prop :=
  ∀ (n : Nat) (s : State) (c : Core),
    (∀ src tgt cond target, src < 16 → tgt < 16 → cond < 4 → target < 4096 → coreAt n (encBr src tgt cond target) s c →
      let holds := condHolds cond (c.regs.getD src 0#64) (c.regs.getD tgt 0#64)
      (holds = true → exec (.hcBr n src tgt cond target) s = .next (s.updCore n (fun _ => goesTo c target))) ∧
      (holds = false → c.pc ≠ 4095 → exec (.hcBr n src tgt cond target) s = .next (s.updCore n (fun _ => goesOn c)))) ∧
    (∀ src cond imm target, src < 16 → cond < 4 → imm < 256 → target < 4096 → coreAt n (encBri src cond imm target) s c →
      let holds := condHolds cond (c.regs.getD src 0#64) (BitVec.ofNat 64 imm)
      (holds = true → exec (.hcBri n src cond imm target) s = .next (s.updCore n (fun _ => goesTo c target))) ∧
      (holds = false → c.pc ≠ 4095 → exec (.hcBri n src cond imm target) s = .next (s.updCore n (fun _ => goesOn c)))) ∧
    (∀ target, target < 4096 → coreAt n (encJmp target) s c → exec (.hcJmp n target) s = .next (s.updCore n (fun _ => goesTo c target))) ∧
    (∀ src tbl dflt, src < 16 → tbl < 16 → dflt < 4096 → coreAt n (encDisp src tbl dflt) s c →
      let entry (e : Nat) := s.dispWord (n / 128) c.bank (32 * tbl + e)
      let hit (e : Nat) : Prop := bitAt (entry e) 28 = true ∧ bits (entry e) 0 16 = c.reg src % 65536
      (∀ e < 32, hit e → (∀ f < e, ¬ hit f) →
        exec (.hcDisp n src tbl dflt) s = .next (s.updCore n (fun _ => goesTo c (bits (entry e) 16 12)))) ∧
      ((∀ e < 32, ¬ hit e) → exec (.hcDisp n src tbl dflt) s = .next (s.updCore n (fun _ => goesTo c dflt))))

/-- The header instructions (R94 to R97), on a core that is at the instruction's word and not at address 4095. HDR of a length above 0
that fits the frame, the window and the 16 places records the header at the cursor and moves the cursor past it; ADV moves the cursor by
the length where it fits. LEN with a header recorded, whose claim lies within the limit and at or past the header's end (for BASE 0) and,
for STRICT, is not below the limit (but in frames of at most 64 bytes), makes the claim the limit. FRAG of a fragment with IPIDX
recorded marks the packet a first fragment, or a later one, whose parse ends with PSTAT 0; of an unfragmented packet it does nothing.
DONE ends the parse with PSTAT 0 and FAIL with its code and its address. Failing: HDR with 16 places taken ends it with PARSE_DEPTH (1), of length 0 with
PARSE_FAULT (4), past the frame, as ADV, with LEN_CONFLICT (2), past byte 512 with PARSE_DEPTH; LEN with no header recorded with PARSE_FAULT,
with a claim past the limit, short of its own header or, for STRICT, below the limit with LEN_CONFLICT; FRAG of a fragment with IPIDX not recorded
with PARSE_FAULT: each at the instruction's address, with what was recorded before it. -/
def Obligations.HeaderCoreHeaderInstructions : Prop :=
  ∀ (n : Nat) (s : State) (c : Core), c.pc ≠ 4095 →
    let failed (code : Nat) : Host.Outcome State Fault Refusal := .next (finishParse { c with steps := c.steps + 1 } code c.pc s)
    (∀ src ty i immLen, src < 16 → ty < 128 → immLen < 512 → coreAt n (encHdr src ty i immLen) s c →
      let k := if i then immLen else c.reg src
      (c.stack.length ≠ 16 → 0 < k → c.c + k ≤ frameLength s c → c.c + k ≤ 512 →
        exec (.hcHdr n src ty i immLen) s = .next (s.updCore n (fun _ => goesOn { c with stack := c.stack ++ [(ty, c.c, k)], c := c.c + k }))) ∧
      (c.stack.length = 16 → exec (.hcHdr n src ty i immLen) s = failed 1) ∧
      (c.stack.length ≠ 16 → k = 0 → exec (.hcHdr n src ty i immLen) s = failed 4) ∧
      (c.stack.length ≠ 16 → k ≠ 0 → frameLength s c < c.c + k → exec (.hcHdr n src ty i immLen) s = failed 2) ∧
      (c.stack.length ≠ 16 → k ≠ 0 → c.c + k ≤ frameLength s c → 512 < c.c + k → exec (.hcHdr n src ty i immLen) s = failed 1)) ∧
    (∀ src i immLen, src < 16 → immLen < 512 → coreAt n (encAdv src i immLen) s c →
      let k := if i then immLen else c.reg src
      (c.c + k ≤ frameLength s c → c.c + k ≤ 512 →
        exec (.hcAdv n src i immLen) s = .next (s.updCore n (fun _ => goesOn { c with c := c.c + k }))) ∧
      (frameLength s c < c.c + k → exec (.hcAdv n src i immLen) s = failed 2) ∧
      (c.c + k ≤ frameLength s c → 512 < c.c + k → exec (.hcAdv n src i immLen) s = failed 1)) ∧
    (∀ src strict base ty o k, src < 16 → coreAt n (encLen src strict base) s c → c.stack.getLast? = some (ty, o, k) →
      let claim := (if base then o + k else o) + c.reg src
      let fits := claim ≤ c.limit ∧ (base = true ∨ o + k ≤ claim) ∧
        (strict = true → c.limit ≤ claim ∨ (c.limitIsFrame = true ∧ frameLength s c ≤ 64))
      (fits → exec (.hcLen n src strict base) s = .next (s.updCore n (fun _ => goesOn { c with limit := claim, limitIsFrame := false }))) ∧
      (¬ fits → exec (.hcLen n src strict base) s = failed 2)) ∧
    (∀ src strict base, src < 16 → coreAt n (encLen src strict base) s c → c.stack = [] → exec (.hcLen n src strict base) s = failed 4) ∧
    (∀ src tgt ipidx v6, src < 16 → tgt < 16 → ipidx < 16 → coreAt n (encFrag src tgt ipidx v6) s c →
      let off := bits (c.reg src) 0 13
      let mf := bitAt (c.reg src) 13
      let marked (k : Nat) : Core := { c with frag := k, fragId := bits (c.reg tgt) 0 32, fragProto := bits (c.reg tgt) 32 8,
                                              fragIpidx := ipidx, fragV6 := v6 }
      (off = 0 → mf = false → exec (.hcFrag n src tgt ipidx v6) s = .next (s.updCore n (fun _ => goesOn c))) ∧
      (off = 0 → mf = true → ipidx < c.stack.length →
        exec (.hcFrag n src tgt ipidx v6) s = .next (s.updCore n (fun _ => goesOn (marked 1)))) ∧
      (off ≠ 0 → ipidx < c.stack.length →
        exec (.hcFrag n src tgt ipidx v6) s = .next (finishParse { marked 2 with steps := c.steps + 1 } 0 0 s)) ∧
      (off ≠ 0 ∨ mf = true → c.stack.length ≤ ipidx → exec (.hcFrag n src tgt ipidx v6) s = failed 4)) ∧
    (coreAt n encDone s c → exec (.hcDone n) s = .next (finishParse { c with steps := c.steps + 1 } 0 0 s)) ∧
    (∀ code, 1 ≤ code → code ≤ 4 → coreAt n (encFail code) s c →
      exec (.hcFail n code) s = .next (finishParse { c with steps := c.steps + 1 } code c.pc s))

/-- PACKET_ASSIGN (R86, R88, R89, R107) in a group that is enabled, or whose port its partner has taken for 8×200G, with q the first eligible packet and core n the lowest idle one: the packet
leaves its intake FIFO, and CORR_COUNT counts the words of its window that were corrected. With its window readable, core n holds it, with the cursor 0, its program counter the sub-port, R0 to R13 zero,
R15 and the limit its length and no steps made. With a window word uncorrectable, ABORTED counts it and no core is given it. The end of a parse (R91, R97 to R99, R108). A core that meets an instruction at STEP_CAP steps ends with PARSE_STEPS at its address; a NOP
at address 4095 falls through it, which is a PARSE_FAULT there. A
parse that ends with PSTAT e on packet q gives the packet a bus whose bits [2:0] are e, [7:3] the headers recorded, [17:8] the cursor,
[31:18] its length and [120:109] the address it failed at, records its headers, commits five words into the core's header-to-stage FIFO
where it has room for them (the bus and the descriptor word with the packet's reference, log 22), and counts it in PARSED. -/
def Obligations.ParsesBeginAndEnd : Prop :=
  (∀ (t g n : Nat) (q : Pkt) (s : State), s.groupTakes g = true → firstCommitted (eligibleHeads s g) = some q →
    idleCore s g = some n → g < 16 → q.desc.lport < 64 → q.desc.length < 2 ^ 64 →
    ∀ k, (∃ u c, exec (.packetAssign t g k false) s = .next u ∧ u.core n = some c ∧ c.pkt = q.id ∧ c.c = 0 ∧
      c.pc = q.sub % 8 ∧ (∀ r < 14, c.reg r = 0) ∧ c.reg 15 = q.desc.length ∧ c.limit = q.desc.length ∧ c.steps = 0 ∧
      (u.fifo q.desc.lport).pkts = (s.fifo q.desc.lport).pkts.drop 1 ∧
      u.reg (Addr.CORR_COUNT q.desc.lport) = (s.reg (Addr.CORR_COUNT q.desc.lport) + k) % 2 ^ 32 ∧
      sameRegsBut [Addr.CORR_COUNT q.desc.lport] s u ∧ sameMemory s u) ∧
    (∃ u, exec (.packetAssign t g k true) s = .next u ∧ u.hc = s.hc ∧ u.reg (Addr.ABORTED g) = (s.reg (Addr.ABORTED g) + 1) % 2 ^ 32 ∧
      (u.fifo q.desc.lport).pkts = (s.fifo q.desc.lport).pkts.drop 1 ∧ sameMemory s u)) ∧
  ((∀ (n k : Nat) (i : Instr) (s : State) (c c0 : Core), hcEncode i = some (n, k) → s.core n = some c0 →
    c = (if c0.steps = 0 then { c0 with bank := s.bankNow (n / 128) } else c0) → c.finished = false →
    s.progWord (n / 128) c.bank c.pc = k → s.reg (Addr.STEP_CAP (n / 128)) ≤ c.steps →
    exec i s = .next (finishParse c 3 c.pc s)) ∧
  (∀ (n : Nat) (s : State) (c : Core), c.pc = 4095 → coreAt n encNop s c →
    exec (.hcNop n) s = .next (finishParse { c with steps := c.steps + 1 } 4 4095 s)) ∧
  (∀ (c : Core) (e pc : Nat) (q : Pkt) (s : State), s.packet c.pkt = some q → e < 8 → c.stack.length ≤ 16 → c.c < 1024 →
    q.desc.length < 16384 → pc < 4096 → c.n < 2048 → s.fifoFits (0x80 + c.n) 5 = true →
    let u := finishParse c e pc s
    (∃ p, u.packet c.pkt = some p ∧ p.hdrs = c.stack ∧ p.at_ = .parsed ∧ busBits p.bus 0 3 = e ∧ busBits p.bus 3 5 = c.stack.length ∧
      busBits p.bus 8 10 = c.c ∧ busBits p.bus 18 14 = q.desc.length ∧ busBits p.bus 109 12 = pc) ∧
    (∃ p w, u.packet c.pkt = some p ∧ (u.fifo (0x80 + c.n)).pkts = (s.fifo (0x80 + c.n)).pkts ++ [⟨5, some c.pkt,
      (List.range 4).map (fun i => BitVec.ofNat 256 (busBits p.bus (256 * i) 256)) ++ [w]⟩]) ∧
    u.reg (Addr.PARSED (c.n / 128)) = (s.reg (Addr.PARSED (c.n / 128)) + 1) % 2 ^ 64))


/-- Words and instructions agree (R100). For every well-formed header-core instruction its word has 32 bits, passes validation and
decodes to it, every operand at every value it admits; and every 32-bit word that decodes, on any core, is the word of a well-formed
instruction. -/
def Obligations.HeaderCoreWordsDecode : Prop :=
  (∀ (i : Instr) (n w : Nat), i.wf = true → hcEncode i = some (n, w) → w < 2 ^ 32 ∧ validateWord w = 0 ∧ hcDecode n w = some i) ∧
  (∀ (n w : Nat) (i : Instr), n < 2048 → w < 2 ^ 32 → hcDecode n w = some i → i.wf = true ∧ hcEncode i = some (n, w))

/-! Assignment and program banks -/


/-- Program banks (R103, R106). PROG_VALIDATE by the owner of a bank that is open: STAGE_VALID and a VALIDATE_ERR of 0 where the bank passes,
the first failure and no STAGE_VALID where it does not. PROG_FLIP of a group whose flip nothing refuses: under LINK_EPOCH it is armed;
otherwise it is pending for a beat at least 64 after the present one. PARSE_BANK_FLIP on the flip beat of a pending flip: the staging bank
is active, the other one is staging, FLIP_ZC holds the beat and nothing is pending. PARSE_FLIP by the owner, none of whose groups
refuses, arms or sets every one of them, and its reply is 0 when all are armed and the beat otherwise. PARSE_LOAD by the owner (R104, R105) of an image whose header is right, that lies in the owner's windows, for groups whose staging
banks are open. Where the signatures over the image do not verify under the owner's pair, the reply is SIG_FAIL and nothing changes.
Where they do: with a program word or a dispatch entry that fails validation, or a stated step count above a group's STEP_CAP, the reply
is BAD_PARAM and no group of the mask has STAGE_VALID; with a stated count above 107 that the header does not allow, RATE_SHORTFALL, the
same; otherwise OK, every group of the mask has STAGE_VALID, and in each staging bank the first words are the image's. No byte of memory
changes. -/
def Obligations.ProgramsAreLoadedAndFlipped : Prop :=
  ((∀ (c : Cmd) (x : Session) (s : State) (g : Nat) (v : W32), ready c x s = true → x.tenant = owner → g < 16 → v.toNat % 2 = 1 →
    let b := begun c x s
    let done : Reply := ⟨St.OK, toBE 2 1 ++ zeros 2⟩
    (b.stagingClosed g = false → completes (.progValidate c g v) 0x0101 c x s done (fun t =>
      (validateBank b g (b.stageBank g) = none → t.flag (Addr.PROG_STATUS g) 1 = true ∧ t.reg (Addr.HC_VALIDATE_ERR g) = 0) ∧
      (∀ e, validateBank b g (b.stageBank g) = some e →
        t.flag (Addr.PROG_STATUS g) 1 = false ∧ t.reg (Addr.HC_VALIDATE_ERR g) = e % 2 ^ 64) ∧
      sameRegsBut [Addr.PROG_STATUS g, Addr.HC_VALIDATE_ERR g] b t ∧ t.hc = b.hc ∧ sameMemory s t)) ∧
    (flipRefused b g = none → completes (.progFlip c g v) 0x0101 c x s done (fun t =>
      (b.flag (Addr.HC_CTRL g) 1 = true → t.flag (Addr.PROG_STATUS g) 2 = true) ∧
      (b.flag (Addr.HC_CTRL g) 1 = false → t.flag (Addr.PROG_STATUS g) 12 = true ∧ b.zc + 64 < tabGet 0 g t.hc.flip) ∧
      sameRegsBut [Addr.PROG_STATUS g] b t ∧ t.hc.prog = b.hc.prog ∧ sameMemory s t))) ∧
  (∀ (t g : Nat) (s : State), s.flag (Addr.PROG_STATUS g) 12 = true → tabGet 0 g s.hc.flip ≠ 0 → tabGet 0 g s.hc.flip - 1 ≤ s.zc →
    ∃ u, exec (.parseBankFlip t g) s = .next u ∧ u.activeBank g = 1 - s.activeBank g ∧ u.flag (Addr.PROG_STATUS g) 12 = false ∧
      u.reg (Addr.HC_FLIP_ZC g) = (tabGet 0 g s.hc.flip - 1) % 2 ^ 64 ∧ tabGet 0 g u.hc.flip = 0 ∧ u.hc.prog = s.hc.prog ∧
      sameRegsBut [Addr.PROG_STATUS g, Addr.HC_FLIP_ZC g] s u) ∧
  (∀ (c : Cmd) (x : Session) (s : State) (p : Bytes), ready c x s = true → x.tenant = owner → p.length = 2 →
    let b := begun c x s
    let groups := setBits (be p 0 2) 16
    (∀ g ∈ groups, flipRefused b g = none) →
    ∃ n, b.zc + 64 ≤ n ∧ completes (.parseFlip c p) 0x030A c x s
        ⟨St.OK, toBE 8 (if groups ≠ [] ∧ (∀ g ∈ groups, b.flag (Addr.HC_CTRL g) 1 = true) then 0 else n)⟩ (fun t =>
      (∀ g ∈ groups, if b.flag (Addr.HC_CTRL g) 1 then t.flag (Addr.PROG_STATUS g) 2 = true
        else t.flag (Addr.PROG_STATUS g) 12 = true ∧ tabGet 0 g t.hc.flip = n + 1) ∧ sameMemory s t))) ∧
  (∀ (c : Cmd) (x : Session) (s : State) (p : Bytes), ready c x s = true → x.tenant = owner → p.length = 20 → zerosAt p 2 6 = true →
    let b := begun c x s
    let groups := setBits (be p 0 2) 16
    let off := be p 8 8
    let hd := b.readBytes owner off 64
    let img := b.readBytes owner off (le hd 32 8)
    parseHeaderOk hd (be p 16 4) = true → b.inWindows owner off (be p 16 4) false = true → (∀ g ∈ groups, b.stagingClosed g = false) →
    let good := verifyPair (tabGet [] owner s.signer) img (b.readBytes owner (off + le hd 32 8) sigBytes)
    let words := le hd 24 2
    let word (a : Nat) := le img (64 + 4 * a) 4
    let entry (i : Nat) := le img (64 + 4 * words + 4 * i) 4
    let stated (i : Nat) := le hd (8 + 2 * i) 2
    let valid : Prop := (∀ a < words, validateWord (word a) = 0) ∧ (∀ i < 512, entry i < 2 ^ 29)
    let short : Prop := ∃ g ∈ groups, ∃ i < 8, b.reg (Addr.STEP_CAP g) < stated i
    let slow : Prop := (∃ i < 8, 107 < stated i) ∧ bitAt (le hd 6 2) 0 = false
    let loaded (r : Reply) (P : State → Prop) : Prop := completes (.parseLoad c p) 0x0308 c x s r (fun t => P t ∧ sameMemory s t)
    (good = false → completes (.parseLoad c p) 0x0308 c x s (st St.SIG_FAIL) (fun t => t = b)) ∧
    (good = true → (¬ valid ∧ groups ≠ []) ∨ short →
      loaded (st St.BAD_PARAM) (fun t => ∀ g ∈ groups, t.flag (Addr.PROG_STATUS g) 1 = false)) ∧
    (good = true → valid → ¬ short → slow →
      loaded (st St.RATE_SHORTFALL) (fun t => ∀ g ∈ groups, t.flag (Addr.PROG_STATUS g) 1 = false)) ∧
    (good = true → valid → ¬ short → ¬ slow →
      loaded ok (fun t => ∀ g ∈ groups, t.flag (Addr.PROG_STATUS g) 1 = true ∧
        ∀ a < words, t.progWord g (t.stageBank g) a = word a)))

/-! The match stages and the rules -/

/-- The rule commands and ENTRY_CMD (R118, R122, R123, R125, R137, R139, R351) of a session that is ready. By the tenant that holds the
lease: RULE_WRITE of one insertion into the staging bank that nothing refuses answers OK with 1 record, the entry holds the image, its
reserved bits 0 (R10), and every other entry of every table stays; RULE_EPOCH_FLIP with DRAIN 0, no flip pending and no parse flip armed answers OK with a beat at
least 64 beats ahead and the next epoch, and the flip is pending for that beat. RULE_READ answers OK with one image per entry, zeros for
an entry of another tenant. RULE_STAGE_OPEN with STAGE_READY and no lease gives the lease for STAGE_LEASE_MAX seconds; RULE_STAGE_CLOSE
ends it. A template written by the owner holding the lease is held if it is valid. FRAG_FLUSH removes the tenant's records. ENTRY_READ
copies the entry into ENTRY_DATA, ENTRY_WRITE stores ENTRY_DATA as it, ENTRY_INVALIDATE clears it; ENTRY_STATUS is 0. -/
def Obligations.RuleCommandsComplete : Prop :=
  ∀ (c : Cmd) (x : Session) (s : State) (p : Bytes), ready c x s = true →
    let b := begun c x s
    let stage := byteAt p 4
    let f := byteAt p 5
    let table := bits f 3 2
    let i := be p 8 4
    let size := if table = 0 then 64 else 144
    let img := le p 12 size
    let one : Reply := ⟨St.OK, toBE 2 1⟩
    let written : Reply := ⟨St.OK, toBE 2 1 ++ zeros 2⟩
    (p.length = 12 + size → be p 0 2 = 1 → zerosAt p 2 2 = true → f / 32 = 0 → bits f 1 2 = 0 → table ≤ 1 → zerosAt p 6 2 = true →
      stage ≤ 11 → i < tableSize table → f % 2 = b.stagingBank → b.holds c.tenant = true →
      let image := clearReserved table img
      imageRefused b c.tenant stage table i image = none → bankRefused b c.tenant stage table i image (f % 2) (f % 2) = none →
      completes (.ruleWrite c p) 0x0300 c x s one (fun t => t.entryAt table stage (f % 2) i = image ∧ t.regs = b.regs ∧ sameMemory s t ∧
        ∀ tb st bk j, tb ≤ 1 → st < 12 → bk < 2 → j < tableSize tb → (tb, st, bk, j) ≠ (table, stage, f % 2, i) →
          t.entryAt tb st bk j = b.entryAt tb st bk j)) ∧
    (p.length = 8 → byteAt p 0 ≤ 11 → byteAt p 1 &&& 0xE6 = 0 → bits (byteAt p 1) 3 2 ≤ 1 → 1 ≤ be p 2 2 → be p 2 2 ≤ 256 →
      be p 4 4 + be p 2 2 ≤ tableSize (bits (byteAt p 1) 3 2) →
      let tb := bits (byteAt p 1) 3 2
      let sz := if tb = 0 then 64 else 144
      ∃ r, r.status = St.OK ∧ r.params.length = sz * be p 2 2 ∧ completes (.ruleRead c p) 0x0301 c x s r (fun t => t = b) ∧
        ∀ k < be p 2 2,
          let v := b.entryAt tb (byteAt p 0) (byteAt p 1 % 2) (be p 4 4 + k)
          slice r.params (sz * k) sz = if (entryOf tb v).tenant = c.tenant then toLE sz v else zeros sz) ∧
    (p = [] → b.holds c.tenant = true → b.ruleDrain = 0 → b.flipPending = false → parseArmed b = false →
      ∃ n, b.zc + 64 ≤ n ∧ completes (.ruleEpochFlip c p) 0x0302 c x s ⟨St.OK, toBE 8 n ++ toBE 2 (b.epoch + 1)⟩ (fun t =>
        t.flipPending = true ∧ t.mt.flipAt = some n ∧ sameRegsBut [Addr.EPOCH_STATUS] b t ∧ t.holds c.tenant = true ∧ sameMemory s t)) ∧
    (p = [] → b.stageReady = true → b.leaseHeld = false →
      completes (.ruleStageOpen c p) 0x0304 c x s ok (fun t => t.holds c.tenant = true ∧
        t.mt.leaseUntil = b.now + secs (b.reg Addr.STAGE_LEASE_MAX) ∧ sameRegsBut [Addr.EPOCH_STATUS, Addr.STAGE_HOLDER] b t ∧ sameMemory s t)) ∧
    (p = [] → b.holds c.tenant = true → b.flipPending = false →
      completes (.ruleStageClose c p) 0x0306 c x s ok (fun t => t.leaseHeld = false ∧ t.stageReady = false ∧ t.mt.copying = true ∧
        sameRegsBut [Addr.EPOCH_STATUS, Addr.STAGE_HOLDER] b t ∧ sameMemory s t)) ∧
    (x.tenant = owner → c.tenant = owner → b.holds owner = true → p.length = 76 → be p 0 2 = 1 → zerosAt p 2 2 = true → stage ≤ 11 → f = 0 →
      be p 6 2 ≤ 4095 → zerosAt p 8 4 = true → validateTemplate (wordsLE (slice p 12 64)) = 0 →
      completes (.ruleTemplateWrite c p) 0x030C c x s one (fun t => t.templAt stage b.stagingBank (be p 6 2) = wordsLE (slice p 12 64) ∧
        t.regs = b.regs ∧ sameMemory s t)) ∧
    (p.length = 4 → byteAt p 0 = 0 → zerosAt p 1 3 = true →
      completes (.fragFlush c p) 0x030E c x s ok (fun t => (∀ r ∈ t.mt.frags, r.tenant ≠ c.tenant) ∧
        (∀ r ∈ s.mt.frags, r.tenant ≠ c.tenant → r ∈ t.mt.frags) ∧ t.regs = b.regs ∧ sameMemory s t)) ∧
    (∀ st < 12, x.tenant = owner →
      let sel := b.reg (Addr.ENTRY_SEL st)
      let tb := bits sel 18 2
      let bk := bits sel 20 1
      let j := bits sel 0 18
      let n := if tb = 0 then 16 else 36
      tb ≤ 1 → j < tableSize tb →
      completes (.entryRead c st) 0x0101 c x s written (fun t => t.reg (Addr.ENTRY_STATUS st) = St.OK ∧ t.mt = b.mt ∧
        (∀ k < n, t.reg (Addr.ENTRY_DATA st k) = bits (b.entryAt tb st bk j) (32 * k) 32) ∧
        sameRegsBut (Addr.ENTRY_STATUS st :: (List.range n).map (Addr.ENTRY_DATA st)) b t ∧ sameMemory s t) ∧
      let image := clearReserved tb (b.entryData st n)
      (bk = b.stagingBank → b.holds c.tenant = true → imageRefused b c.tenant st tb j image = none →
        bankRefused b c.tenant st tb j image bk bk = none →
        completes (.entryWrite c st) 0x0101 c x s written (fun t => t.reg (Addr.ENTRY_STATUS st) = St.OK ∧
          t.entryAt tb st bk j = image % 2 ^ (32 * n) ∧ sameRegsBut [Addr.ENTRY_STATUS st] b t ∧ sameMemory s t)) ∧
      (bk = b.stagingBank → b.holds c.tenant = true → (entryOf tb (b.entryAt tb st bk j)).tenant = c.tenant →
        completes (.entryInvalidate c st) 0x0101 c x s written (fun t => t.reg (Addr.ENTRY_STATUS st) = St.OK ∧
          entryValid tb (t.entryAt tb st bk j) = false ∧ sameRegsBut [Addr.ENTRY_STATUS st] b t ∧ sameMemory s t)))

/-- STAGE_LOOKUP and RECIRC_PASS_START (R111, R115, R139). A packet before stage k < 11 of a pass, whose lookup reads no uncorrectable word, goes to
stage k + 1; FIRST_LOOKUPS k counts it, or VERDICT_LOOKUPS k in pass 2; EXACT_HITS k counts it exactly if the exact lookup is enabled
and hits in the entries as they stood before this beat's writes (R138), TERN_HITS k exactly if the ternary one does; its pass, epoch, bytes and the other packets stay. The head of a recirculation
queue starts its next pass at stage 0. -/
def Obligations.StagesLookUpInOrder : Prop :=
  (∀ (t id k : Nat) (chk : FifoRead) (q : Pkt) (s : State), s.packet id = some q → k < 11 → q.at_ = .stage k →
    let b := q.epoch % 2
    let count := if slotKind q.pass = 1 then Addr.VERDICT_LOOKUPS k else Addr.FIRST_LOOKUPS k
    let eh := (lookupKey s q k b 0).bind (fun key => (exactHit s.beforeWrites k b key q.tenant).1)
    let th := (lookupKey s q k b 1).bind (fun key => ternHit s.beforeWrites k b key q.tenant)
    readsLost s q k b = false →
    ∃ u q', exec (.stageLookup t id k ⟨[], chk⟩) s = .next u ∧ u.packet id = some q' ∧ q'.at_ = .stage (k + 1) ∧ q'.pass = q.pass ∧
      q'.epoch = q.epoch ∧ q'.bytes = q.bytes ∧ u.reg count = (s.reg count + 1) % 2 ^ 64 ∧
      u.reg (Addr.EXACT_HITS k) = (s.reg (Addr.EXACT_HITS k) + b2n eh.isSome) % 2 ^ 64 ∧
      u.reg (Addr.TERN_HITS k) = (s.reg (Addr.TERN_HITS k) + b2n th.isSome) % 2 ^ 64 ∧
      sameRegsBut [count, Addr.EXACT_HITS k, Addr.TERN_HITS k, Addr.EXACT_DUAL k, Addr.OPS_SUPPRESSED k] s u ∧
      (∀ i, i ≠ id → u.packet i = s.packet i) ∧ u.mt = s.mt ∧ u.mem = s.mem) ∧
  (∀ (t port id : Nat) (rest : List Nat) (q : Pkt) (s : State), tabGet [] port s.mt.recircQ = id :: rest → s.packet id = some q →
    ∃ u, exec (.recircPassStart t port) s = .next u ∧ u.packet id = some { q with pass := q.pass + 1, at_ := .stage 0 } ∧
      tabGet [] port u.mt.recircQ = rest ∧ (∀ i, i ≠ id → u.packet i = s.packet i) ∧ u.regs = s.regs)

/-- Flips, the lease and the journal (R122 to R124, R367). On the beat of an accepted flip CURRENT becomes the next epoch and PREVIOUS
the old one, the banks change roles, RULE_FLIP_ZC is the beat, no lease is held and no flip is pending. The background copy makes the
staging bank equal to the active bank in every entry, template, key select and miss template, and sets STAGE_READY. Packets that drain
for 100 µs after a flip raise EV_EPOCH_DRAIN_SLOW once. A lease that runs out, no flip pending, ends once a beat has been issued after it
(R138), and the copy begins. An entry that Limik rewrites is no more lost. -/
def Obligations.FlipsSwapTheBanks : Prop :=
  ∀ (t : Nat) (s : State),
    (∀ n, s.mt.flipAt = some n → n ≤ s.zc → s.secure.waitFlip = [] →
      ∃ u, exec (.ruleEpochFlipBeat t) s = .next u ∧ u.epoch = (s.epoch + 1) % 65536 ∧ u.prevEpoch = s.epoch ∧
        u.ruleBank = s.stagingBank ∧ u.reg Addr.RULE_FLIP_ZC = n % 2 ^ 64 ∧ u.leaseHeld = false ∧ u.flipPending = false ∧
        u.mt.flipAt = none ∧ u.mem = s.mem ∧ (s.models = [] → parseArmed s = false →
        sameRegsBut ([Addr.RULE_EPOCH, Addr.RULE_FLIP_ZC, Addr.EPOCH_STATUS, Addr.STAGE_HOLDER] ++ eventRegs) s u)) ∧
    (s.mt.copying = true →
      ∃ u, exec (.stagingCopyDone t) s = .next u ∧ u.stageReady = true ∧ u.mt.copying = false ∧ sameRegsBut [Addr.EPOCH_STATUS] s u ∧
        u.mem = s.mem ∧ u.ruleBank = s.ruleBank ∧ ∀ k < 12,
          (∀ i < 2 ^ 18, u.exactAt k s.stagingBank i = s.exactAt k s.ruleBank i ∧ u.exactAt k s.ruleBank i = s.exactAt k s.ruleBank i) ∧
          (∀ i < 2 ^ 14, u.ternAt k s.stagingBank i = s.ternAt k s.ruleBank i) ∧
          (∀ i < 4096, u.templAt k s.stagingBank i = s.templAt k s.ruleBank i) ∧
          (∀ i < 32, u.keyselAt k s.stagingBank i = s.keyselAt k s.ruleBank i) ∧ u.missAt k s.stagingBank = s.missAt k s.ruleBank) ∧
    (∀ f, s.mt.lastFlip = some f → s.ruleDrain ≠ 0 → f + us 100 ≤ t → s.mt.drainReported = false →
      exec (.epochDrainSlow t) s = .next { (advance t s).raiseEvent 0xFF32 owner [s.prevEpoch, s.ruleDrain] with mt.drainReported := true }) ∧
    (s.leaseHeld = true → s.flipPending = false → s.mt.leaseUntil ≤ t → s.mt.leaseUntil ≤ s.beat.lastIssue →
      ∃ u, exec (.stageLeaseExpiry t) s = .next u ∧ u.leaseHeld = false ∧ u.stageReady = false ∧ u.mt.copying = true) ∧
    (∀ stage bank table i, s.limik = true → s.mt.lost.contains (table, wordKey table stage bank i) = true →
      ∃ u, exec (.ruleEntryRewrite t stage bank table i) s = .next u ∧ (table, wordKey table stage bank i) ∉ u.mt.lost ∧
        (∀ l ∈ s.mt.lost, l ≠ (table, wordKey table stage bank i) → l ∈ u.mt.lost) ∧ u.regs = s.regs ∧ u.mem = s.mem)

/-- Step 9 and fragments (R127, R133 to R136). A packet at step 9 that sets no label and is no first fragment: one on its port default
goes to step 10 as it is; one that meets no exception and no
failing edit goes to step 10 with its edited frame; one for which there is a reason of R135, in a bucket with room and outside a
handover, is counted in EXC_ADMITTED and leaves the buffer. A later fragment, next of its group, none of whose port's packets waits for
a further pass: with an uncorrectable word it is lost; with a live record of its key it takes the
recorded result and tenant to step 9 and is counted in FRAG_HITS; without one it waits. One that has waited FRAG_WAIT is counted in
FRAG_TIMEOUTS and waits no more. A record unused for FRAG_LIFE is removed. -/
def Obligations.PacketsAreResolved : Prop :=
  ∀ (t id : Nat) (q : Pkt) (s : State),
    (s.packet id = some q → q.at_ = .resolve → q.result.label = none → q.frag ≠ 1 →
      let a := advance t s
      let g := resolveGroup a q
      (q.viaDefault = true →
        ∃ u, exec (.actionResolve t id) s = .next u ∧ u.packet id = some { q with at_ := .admission, since := s.zc } ∧
          (∀ i, i ≠ id → u.packet i = s.packet i) ∧ u.regs = s.regs ∧ u.mem = s.mem) ∧
      (q.viaDefault = false → exceptionReason g = none → (editFrame a g).2.1 = none →
        ∃ u, exec (.actionResolve t id) s = .next u ∧ u.packet id = some { g with bytes := (editFrame a g).1, at_ := .admission, since := s.zc } ∧
          (∀ i, i ≠ id → u.packet i = s.packet i) ∧ u.mem = s.mem) ∧
      (∀ e, q.viaDefault = false → exceptionReason g = some e → s.stage ≠ 2 →
        let r := refillException q.desc.lport a
        (tabGet (0, 0) q.desc.lport r.mt.bucket).1 + exceptionUnit ≤ s.reg Addr.EXC_BURST * exceptionUnit →
        ∃ u, exec (.actionResolve t id) s = .next u ∧ u.packet id = none ∧
          u.reg Addr.EXC_ADMITTED = (s.reg Addr.EXC_ADMITTED + 1) % 2 ^ 64 ∧ u.mem = s.mem)) ∧
    (∀ chk : FifoRead, s.packet id = some q → takesNew s q = true → q.frag = 2 →
      (chk.bad = true → ∃ u, exec (.fragLookup t ⟨id, chk⟩) s = .next u ∧ u.packet id = none ∧ u.mem = s.mem) ∧
      (∀ r, chk.bad = false → s.mt.frags.find? (fun (f : FragRecord) => f.key == fragKey q && decide (max s.now t < f.used + us (s.reg Addr.FRAG_LIFE))) = some r →
        ∃ u, exec (.fragLookup t ⟨id, chk⟩) s = .next u ∧
          u.packet id = some { q with tenant := r.tenant, result := r.result, hit := true, partialOk := true, preStamp := false, at_ := .resolve } ∧
          u.reg Addr.FRAG_HITS = (s.reg Addr.FRAG_HITS + 1) % 2 ^ 32 ∧ u.mem = s.mem) ∧
      (chk.bad = false →
        s.mt.frags.find? (fun (f : FragRecord) => f.key == fragKey q && decide (max s.now t < f.used + us (s.reg Addr.FRAG_LIFE))) = none →
        s.mt.fragWait.length < 4096 →
        ∃ u, exec (.fragLookup t ⟨id, chk⟩) s = .next u ∧
          u.packet id = some { q with tenant := q.desc.tenant, preStamp := false, at_ := .fragWait, since := max s.now t } ∧
          u.mt.fragWait = s.mt.fragWait ++ [id] ∧ u.mem = s.mem)) ∧
    (s.packet id = some q → q.at_ = .fragWait → q.since + us (s.reg Addr.FRAG_WAIT) ≤ t →
      ∃ u, exec (.fragWaitTimeout t id) s = .next u ∧ u.reg Addr.FRAG_TIMEOUTS = (s.reg Addr.FRAG_TIMEOUTS + 1) % 2 ^ 32 ∧
        id ∉ u.mt.fragWait ∧ sameRegsBut [Addr.FRAG_TIMEOUTS, Addr.EPOCH_STATUS] s u ∧ u.mem = s.mem) ∧
    (∀ f ∈ s.mt.frags, f.used + us (s.reg Addr.FRAG_LIFE) ≤ t →
      ∃ u, exec (.fragRecordExpire t f.id) s = .next u ∧ f ∉ u.mt.frags ∧ (∀ g ∈ s.mt.frags, g.id ≠ f.id → g ∈ u.mt.frags) ∧ u.regs = s.regs)

/-! Flow memory and feature encoding -/

/-- FLOW_REGION_SET, FLOW_REMOVE, FLOW_READ and FLOW_FLUSH (R141, R161, R351) of a session that is ready. The owner's region of an existing
tenant, in range and placed where nothing refuses it, while the tenant's memory is not enabled: the tenant's flow registers take the
parameters, FLOWS_LIVE what live records the region then has, and no other register changes but WR_BYTES; where the tenant has no line in
the flow cache no byte of memory changes either. FLOW_REMOVE of the key of a live record answers OK and the record is ended and counted; of a
key without one it answers OK and changes nothing. FLOW_READ answers OK with 264 bytes and changes nothing: FOUND, the slot, and the
record or zeros. FLOW_FLUSH answers OK and marks the tenant's flows to be ended by the scanner. -/
def Obligations.FlowCommandsComplete : Prop :=
  ∀ (c : Cmd) (x : Session) (s : State) (p : Bytes), ready c x s = true →
    let b := begun c x s
    let u := byteAt p 0
    let g := c.tenant
    (s.fw.hbmFailed = false → x.tenant = owner → p.length = 44 → byteAt p 1 ≤ 1 → zerosAt p 2 2 = true → be p 4 4 < 2 ^ 20 → be p 8 4 ≤ 524288 →
      1 ≤ be p 12 4 → be p 12 4 < 2 ^ 16 → 1 ≤ be p 16 4 → be p 16 4 < 2 ^ 16 → be p 20 8 < 2 ^ 47 → be p 28 4 < 2 ^ 24 → be p 32 8 < 2 ^ 47 →
      be p 40 4 < 2 ^ 24 → (byteAt p 1 = 1 → 1 ≤ be p 8 4) → b.tenantExists u = true → b.flag (Addr.FLOW_TCTRL u) 0 = false →
      b.reg (Addr.IDLE_TIMEOUT u) + b.reg Addr.SCAN_PERIOD ≤ 4200 →
      let s1 := (((b.setFlag (Addr.FLOW_TCTRL u) 0 (byteAt p 1 == 1)).setReg (Addr.FLOW_BASE u) (be p 4 4)).setReg (Addr.FLOW_RECORDS u)
        (be p 8 4)).setReg (Addr.FLOW_PPS u) (be p 12 4)
      let s2 := (((s1.setReg (Addr.WAY_MASK u) (be p 16 4)).setReg (Addr.DIGEST_BASE u) (be p 20 8)).setReg (Addr.DIGEST_ENTRIES u)
        (be p 28 4)).setReg (Addr.LABEL_BASE u) (be p 32 8)
      placementRefused (s2.setReg (Addr.LABEL_ENTRIES u) (be p 40 4)) u = none →
      completes (.flowRegionSet c p) 0x0510 c x s ok (fun t => t.flag (Addr.FLOW_TCTRL u) 0 = (byteAt p 1 == 1) ∧
        t.reg (Addr.FLOW_BASE u) = be p 4 4 ∧ t.reg (Addr.FLOW_RECORDS u) = be p 8 4 ∧ t.reg (Addr.FLOW_PPS u) = be p 12 4 ∧
        t.reg (Addr.WAY_MASK u) = be p 16 4 ∧ t.reg (Addr.DIGEST_BASE u) = be p 20 8 ∧ t.reg (Addr.DIGEST_ENTRIES u) = be p 28 4 ∧
        t.reg (Addr.LABEL_BASE u) = be p 32 8 ∧ t.reg (Addr.LABEL_ENTRIES u) = be p 40 4 ∧ (∀ l ∈ t.flow.lines, l ∈ s.flow.lines) ∧
        ((∀ l ∈ s.flow.lines, l.2.tenant ≠ u) → sameMemory s t) ∧
        ∀ a, a ∉ [Addr.FLOW_TCTRL u, Addr.FLOW_BASE u, Addr.FLOW_RECORDS u, Addr.FLOW_PPS u, Addr.WAY_MASK u, Addr.DIGEST_BASE u,
          Addr.DIGEST_ENTRIES u, Addr.LABEL_BASE u, Addr.LABEL_ENTRIES u, Addr.FLOWS_LIVE u] → (∀ k, a ≠ Addr.WR_BYTES k) → t.reg a = b.reg a)) ∧
    (p.length = 40 →
      let r := flowSlot p (b.flowRecords g)
      let live := b.flowOn g && hotValid (b.hotOf g r) && hotTag (b.hotOf g r) == keyTag p
      completes (.flowRemove c p) 0x0512 c x s ok (fun t =>
        (live = true → hotValid (t.hotOf g r) = false ∧ t.reg (Addr.FLOWS_ENDED g) = (b.reg (Addr.FLOWS_ENDED g) + 1) % 2 ^ 32) ∧
        (live = false → t = b))) ∧
    (p.length = 48 → zerosAt p 1 3 = true → (u = 0 ∧ be p 4 4 = 0 ∨ u = 1 ∧ zerosAt p 8 40 = true ∧ be p 4 4 < b.flowRecords g) →
      let r := if u = 0 then flowSlot (slice p 8 40) (b.flowRecords g) else be p 4 4
      let found := b.flowRecords g != 0 && hotValid (b.hotOf g r) && (u == 1 || hotTag (b.hotOf g r) == keyTag (slice p 8 40))
      completes (.flowRead c p) 0x0514 c x s ⟨St.OK, toBE 1 (b2n found) ++ zeros 3 ++ toBE 4 r ++
        (if found then toLE 128 (b.hotOf g r) ++ toLE 128 (b.coldOf g r) else zeros 256)⟩ (fun t => t = b)) ∧
    (p = [] → completes (.flowFlush c p) 0x0516 c x s ok (fun t => tabGet 0 g t.flow.flushing = b.nowUs + 1 ∧
      (∀ k, k ≠ g → tabGet 0 k t.flow.flushing = tabGet 0 k s.flow.flushing) ∧ t.flow.lines = s.flow.lines ∧ t.regs = b.regs ∧ sameMemory s t))

/-- The encoder (R20, R145, R147, R148, R154, R253). A packet next in the merge that no slot serves, or whose flow is not inferred,
takes the default verdict of its class with source 2 and starts its verdict pass. One that slot i serves and infers, of a tenant without
flow memory, with room in the queues of the replica next in turn and in the retention store: its vector is the package's features in
order, it is sent without a label or flow, and its number is put last into the queue of every cell of that replica. The flow cache, the scanner and the label queue (R149, R150, R152, R161). COLD_FILL_COMPLETE of a line that fills makes its cold half what
HBM holds, and no more filling; with an uncorrectable word the cold half is marked so and not filled. FLOW_SCAN of a live record of an enabled region that is to be ended (a flush concerns it, it was idle for
IDLE_TIMEOUT, its end marker lingered END_LINGER, or it is 2^39 µs old) ends it and counts it in FLOWS_ENDED. LABEL_QUEUE_POLL of a
queue with records sets its consumer index to its producer index, and counts every record in LABEL_APPLIED or LABEL_STALE. -/
def Obligations.PacketsAreEncodedAndFlowsEnd : Prop :=
  (∀ (t id : Nat) (bad : RecordBad) (q : Pkt) (s : State), s.packet id = some q → q.at_ = .encode → mergeReady s q = true →
    let sel := s.selector q.tenant q.model
    (servingSlot s q.tenant q.model q.epoch = none →
      ∃ u, exec (.featureEncode t id bad) s = .next u ∧
        u.packet id = some { q with merged := true, pass := 2, verdict := s.defaultVerdict q.vclass, vsrc := 2, at_ := .stage 0 } ∧
        (∀ i, i ≠ id → u.packet i = s.packet i) ∧ sameRegsBut [Addr.SEQ_MAX_HOLD] s u ∧ u.mem = s.mem) ∧
    (∀ i, servingSlot s q.tenant q.model q.epoch = some i → sampled (sel.slot i) q.hash = false →
      ∃ u, exec (.featureEncode t id bad) s = .next u ∧
        u.packet id = some { q with merged := true, pass := 2, verdict := s.defaultVerdict q.vclass, vsrc := 2, at_ := .stage 0 } ∧
        (∀ i, i ≠ id → u.packet i = s.packet i) ∧ sameRegsBut [Addr.SEQ_MAX_HOLD] s u ∧ u.mem = s.mem) ∧
    (∀ i, servingSlot s q.tenant q.model q.epoch = some i → sampled (sel.slot i) q.hash = true → s.flowOn q.tenant = false →
      queuesFree s (nextReplica sel i) = true → retentionFree s = true → (nextReplica sel i).Nodup →
      let pkg := (sel.slot i).pkg
      ∃ u q', exec (.featureEncode t id bad) s = .next u ∧ u.packet id = some q' ∧ q'.at_ = .infer ∧ q'.slot = some i ∧ q'.labelValid = false ∧
        q'.flow = none ∧ q'.vector = pkg.features.map (feature pkg { q with merged := true, labelValid := false, label := 0, flow := none, slot := some i, stateVer := 0 } none) ∧
        (∀ c ∈ nextReplica sel i, (u.cellx c).inQ = (s.cellx c).inQ ++ [id]) ∧ (u.selector q.tenant q.model).turn = sel.turn + 1 ∧
        (∀ j, j ≠ id → u.packet j = s.packet j) ∧ sameRegsBut [Addr.SEQ_MAX_HOLD] s u ∧ u.mem = s.mem)) ∧
  (∀ (t g : Nat) (s : State),
    (∀ r l, s.lineOf g r = some l → l.2.filling = true →
      (∃ u, exec (.coldFillComplete t g ⟨r, false⟩) s = .next u ∧ u.coldOf g r = natLE (s.readBytes g (s.recordAddr g r + 128) 128) % 2 ^ 1024 ∧
        (∃ l', u.lineOf g r = some l' ∧ l'.2.filling = false ∧ l'.2.hot = l.2.hot) ∧ (∀ a, (∀ k, a ≠ Addr.RD_BYTES k) → u.reg a = s.reg a) ∧
        u.mem = s.mem) ∧
      (∃ u, exec (.coldFillComplete t g ⟨r, true⟩) s = .next u ∧
        (∃ l', u.lineOf g r = some l' ∧ l'.2.filling = false ∧ l'.2.coldBad = true ∧ l'.2.hot = l.2.hot ∧ l'.2.cold = l.2.cold) ∧ u.mem = s.mem)) ∧
    (∀ r bad, s.flowOn g = true → r < s.flowRecords g →
      let a := advance t s
      let h := s.hotOf g r
      hotValid h = true → s.slotRetired g r = false →
      (flushes a g h = true ∨ s.reg (Addr.IDLE_TIMEOUT g) * 1000000 ≤ hotIdle h a.nowUs ∨
        (hotEnding h = true ∧ s.reg (Addr.END_LINGER g) * 1000 ≤ hotIdle h a.nowUs) ∨ agedAt ≤ hotAge h a.nowUs) →
      ∃ u, exec (.flowScan t g r bad) s = .next u ∧ hotValid (u.hotOf g r) = false ∧
        u.reg (Addr.FLOWS_ENDED g) = (s.reg (Addr.FLOWS_ENDED g) + 1) % 2 ^ 32) ∧
    (let base := s.reg (Addr.LABEL_BASE g)
     let n := s.reg (Addr.LABEL_ENTRIES g)
     let prod := le (s.readBytes g base 8) 0 4
     let cons := le (s.readBytes g base 8) 4 4
     let count := min ((prod + 2 ^ 32 - cons) % 2 ^ 32) n
     s.flowOn g = true → count ≠ 0 →
      ∀ bad, ∃ u, exec (.labelQueuePoll t ⟨g, bad⟩) s = .next u ∧ le (u.readBytes g (base + 4) 4) 0 4 = prod ∧
        (u.reg (Addr.LABEL_APPLIED g) + u.reg (Addr.LABEL_STALE g)) % 2 ^ 32 =
          (s.reg (Addr.LABEL_APPLIED g) + s.reg (Addr.LABEL_STALE g) + count) % 2 ^ 32 ∧
        (bad = [] → ∀ a, a ∉ [Addr.LABEL_APPLIED g, Addr.LABEL_STALE g, Addr.CACHE_MISSES] → (∀ k, a ≠ Addr.RD_BYTES k ∧ a ≠ Addr.WR_BYTES k) → u.reg a = s.reg a)))

/-! Models and the inline pool -/

/-- The model commands (R251, R255, R257, R265, R266, R351) of a session that is ready; finished drains are noted first. MODEL_LOAD
answers with what the checks of R251 make of the package, in their order; where it answers ACCEPTED the slot named is LOADING with at least
one replica. MODEL_SWAP of a READY standby slot that was never ACTIVE, nothing draining: answers ACCEPTED with a beat
at least 64 beats ahead and swaps then, or with LINK answers ACCEPTED and is armed, either in place of what was armed or accepted before; with DISARM answers OK and is armed no more. MODEL_UNLOAD
of a READY or STALE slot answers OK and the slot is EMPTY. MODEL_STATUS answers OK with 512 bytes. No byte of
memory changes. -/
def Obligations.ModelCommandsComplete : Prop :=
  ∀ (c : Cmd) (x : Session) (s : State) (p : Bytes), ready c x s = true →
    let d := checkDrains (begun c x s)
    let k := byteAt p 0
    let f := byteAt p 1
    let sel := d.selector c.tenant k
    let i := sel.standby
    (s.fw.hbmFailed = false → p.length = 24 → f ≤ 1 → zerosAt p 2 6 = true →
      let off := be p 8 8
      let len := be p 16 8
      let img := d.readBytes x.tenant off (min len hbmBytes)
      let t := byteAt img 7
      let out := match readPackage img len with
        | none => (st St.BAD_PARAM, d)
        | some pkg =>
          if byteAt img 8 ≠ k then (st St.BAD_PARAM, d)
          else if !packageSigned (img.take (le img 32 8)) (img.drop (le img 32 8)) t d then (st St.SIG_FAIL, d)
          else if (t ≠ c.tenant ∧ x.tenant ≠ owner) ∨ !d.tenantExists t ∨ !d.inWindows x.tenant off len false ∨
            pkg.regions.any (fun w => d.inlineStatsRefused t (bits w 128 64)) then (st St.NOT_PERMITTED, d)
          else match loadSlot (d.selector t k) with
            | none => (st St.BUSY, d)
            | some j =>
              let r := loadInto (envOf c x) t k j (f == 1) pkg d
              if r.1.status = St.ACCEPTED then (r.1, countHbm false off len r.2) else r
      completes (.modelLoad c p) 0x0400 c x s out.1 (fun u => u = out.2 ∧ sameMemory s u ∧
        (out.1.status = St.ACCEPTED → ∃ j < 2, out.1.params.take 1 = toBE 1 j ∧ ((u.selector t k).slot j).state = 1 ∧
          ((u.selector t k).slot j).replicas ≠ []))) ∧
    (p.length = 4 → zerosAt p 2 2 = true → k ≤ 15 → sel.find 5 = none → (sel.slot i).state = 2 → (sel.slot i).was = false →
      (f = 0 → ∃ n, d.zc + 64 ≤ n ∧ completes (.modelSwap c p) 0x0402 c x s ⟨St.ACCEPTED, toBE 8 n⟩ (fun t =>
        (t.selector c.tenant k).swapAt = some n ∧ (t.selector c.tenant k).armed = false ∧ t.regs = d.regs ∧ sameMemory s t)) ∧
      (f = 1 → completes (.modelSwap c p) 0x0402 c x s ⟨St.ACCEPTED, toBE 8 0⟩ (fun t =>
        (t.selector c.tenant k).armed = true ∧ (t.selector c.tenant k).swapAt = none ∧ t.regs = d.regs ∧ sameMemory s t))) ∧
    (p.length = 4 → zerosAt p 2 2 = true → k ≤ 15 → (f = 2 ∨ f = 3) → completes (.modelSwap c p) 0x0402 c x s ⟨St.OK, toBE 8 0⟩ (fun t =>
      (t.selector c.tenant k).armed = false ∧ t.regs = d.regs ∧ sameMemory s t)) ∧
    (p.length = 4 → zerosAt p 2 2 = true → k ≤ 15 → f ≤ 1 → ((sel.slot f).state = 2 ∨ (sel.slot f).state = 3) →
      completes (.modelUnload c p) 0x0404 c x s ok (fun t => ((t.selector c.tenant k).slot f).state = 0 ∧
        (t.selector c.tenant k).slot (1 - f) = sel.slot (1 - f) ∧ sameMemory s t)) ∧
    (p = [] → ∃ r, r.status = St.OK ∧ r.params.length = 512 ∧ completes (.modelStatus c p) 0x0406 c x s r (fun t => t = d))

/-- Loads and swaps take place (R251, R255, R256). MODEL_LOAD_COMPLETE of a LOADING slot that kept its placement makes it READY.
MODEL_SWAP_POINT on the beat of an accepted swap makes the READY standby slot ACTIVE, nothing is armed and no swap waits, and the slot that
was ACTIVE serves nothing new: it is DRAINING, or READY again if nothing of it drains. CELL_SLOT_EXCHANGE of a cell whose old slot has
drained and whose standby slot is ACTIVE exchanges its two placements and its program bank. -/
def Obligations.ModelsAreInstalledAndSwapped : Prop :=
  ∀ (t g k : Nat) (s : State),
    let sel := s.selector g k
    (∀ i, sel.find 1 = some i → (sel.slot i).replicas ≠ [] →
      ∃ u, exec (.modelLoadComplete t g k) s = .next u ∧ ((u.selector g k).slot i) = { sel.slot i with state := 2 } ∧
        (u.selector g k).slot (1 - i) = sel.slot (1 - i) ∧ sameRegsBut eventRegs s u ∧ u.mem = s.mem) ∧
    (∀ n, sel.swapAt = some n → n ≤ s.zc → sel.unloading = false → (sel.slot sel.standby).state = 2 →
      ∃ u, exec (.modelSwapPoint t g k) s = .next u ∧ ((u.selector g k).slot sel.standby).state = 4 ∧ (u.selector g k).armed = false ∧
        (u.selector g k).swapAt = none ∧ (u.selector g k).swapZc = n ∧ u.mem = s.mem ∧
        (∀ j, sel.find 4 = some j → ((u.selector g k).slot j).state = 5 ∨ ((u.selector g k).slot j).state = 2)) ∧
    (∀ c a b, (s.cellx c).active = some a → (s.cellx c).standby = some b → (s.slotOf a).state ≠ 5 → (s.slotOf a).state ≠ 4 →
      (s.slotOf b).state = 4 →
      ∃ u, exec (.cellSlotExchange t c) s = .next u ∧ (u.cellx c).active = some b ∧ (u.cellx c).standby = some a ∧
        u.reg (Addr.PROG_BANK c) % 2 = 1 - s.reg (Addr.PROG_BANK c) % 2 ∧
        sameRegsBut [Addr.HOLDER c, Addr.PROG_BANK c, Addr.GRID_STATUS c] s u ∧ u.mem = s.mem)

/-- The inline pool (R203, R371, R377, R378). INLINE_LAUNCH on an INLINE cell that is released, on a beat that is not calmed in the inline
domain, of a cluster not detached and not halted but by a barrier of a bulk job, and whose last launch lies the vector's II values of ZC_INLINE
back takes the oldest vector of its queue; when every cell of the replica has launched it, its verdict is held, or waits for a recoat if a
check found a flaw. VERDICT_RELEASE 24 values later gives the packet the verdict with source 1 and starts its verdict pass. An
INLINE_RECOAT whose clean recoat and repeat are equal serves the flagged verdict and counts RECOATS. A flagged verdict past its
deadline takes the default verdict with source 3, and RECOAT_MISSED counts it. -/
def Obligations.VerdictsAreHeldAndServed : Prop :=
  ∀ (t : Nat) (s : State) (id : Nat) (q : Pkt), s.packet id = some q → (s.ports.packets.map Pkt.id).Nodup →
    (∀ (c : Nat) (rest : List Nat) (f : LaunchFlaw), s.inlineOpen c = true → (s.cellx c).inQ = id :: rest → q.at_ = .infer →
      ∃ u q', exec (.inlineLaunch t c f) s = .next u ∧ rest <+: (u.cellx c).inQ ∧ ((∀ x ∈ s.ports.packets, x.at_ ≠ .chain) → (u.cellx c).inQ = rest) ∧ (u.cellx c).lastLaunch = s.zcInline (c / 16) + 1 ∧
        u.packet id = some q' ∧ c ∈ q'.launched ∧ u.mem = s.mem ∧
        ((s.replicaOf q).all (q.launched ++ [c]).contains = true →
          q'.at_ = if q.flagged || f.uncorr || f.residue != 0 || f.walks != 0 || f.skew.isSome then .recoat else .hold)) ∧
    (q.at_ = .hold → q.verdictBeat + 24 ≤ s.zcInline (q.replica / 16) →
      ∃ u q', exec (.verdictRelease t id) s = .next u ∧ u.packet id = some q' ∧ q'.at_ = .stage 0 ∧ q'.pass = 2 ∧
        q'.verdict = q.verdict ∧ q'.vsrc = 1) ∧
    (∀ runs : RecoatRuns, q.at_ = .recoat → t ≤ q.deadline → runs.recoatClean = true → runs.repeatClean = true → runs.equal = true →
      (s.transientsOf ((q.flaws.head?.map Prod.fst).getD q.replica)).length + 1 < s.reg Addr.TRANSIENT_LIMIT → s.peersOf q ≠ [] →
      ∃ u q', exec (.inlineRecoat t id runs) s = .next u ∧ u.packet id = some q' ∧ q'.at_ = .stage 0 ∧ q'.pass = 2 ∧
        q'.verdict = q.verdict ∧ q'.vsrc = 1 ∧ u.reg Addr.RECOATS = (s.reg Addr.RECOATS + 1) % 2 ^ 32) ∧
    (q.at_ = .recoat → q.deadline < t →
      ∃ u q', exec (.recoatDeadline t id) s = .next u ∧ u.packet id = some q' ∧ q'.at_ = .stage 0 ∧ q'.pass = 2 ∧
        q'.verdict = s.defaultVerdict q.vclass ∧ q'.vsrc = 3 ∧ u.reg Addr.RECOAT_MISSED = (s.reg Addr.RECOAT_MISSED + 1) % 2 ^ 32)

/-! Jobs and copies -/

/-- The job commands (R260, R261, R263, R265, R351) of a session that is ready. JOB_START answers ACCEPTED or a refusal that changes nothing;
it is ACCEPTED exactly for an image that is there and passes the checks of R260, and then the job is live, with its start beat, on the cells of its
mask, and every one of them is held by it. JOB_CHECKPOINT of a live job with a checkpoint region answers OK and a checkpoint is asked for.
JOB_CANCEL of a live job answers OK and the job is CANCELLED, every other job staying. JOB_STATUS of a job answers OK with its 32 bytes
(the state HALTED where HALT_MASK holds one of its clusters, R261) and changes nothing. -/
def Obligations.JobCommandsComplete : Prop :=
  ∀ (c : Cmd) (x : Session) (s : State) (p : Bytes), ready c x s = true →
    let b := begun c x s
    let id := be p 0 8
    let cells := cellMask p 8
    (s.fw.hbmFailed = false → p.length = 88 → zerosAt p 52 4 = true → zerosAt p 82 6 = true → id ≠ 0 →
      b.jobs.any (fun j => j.live && j.tenant == c.tenant && j.id == id) = false →
      ∃ r, (match Config.jobImage (b.readBytes c.tenant (be p 40 8) (min (be p 48 4) hbmBytes)) with
          | none => r = st St.BAD_PARAM
          | some m => r = st ((jobRefused (envOf c x) p (newJob (envOf c x) p m b) b).getD St.ACCEPTED)) ∧
        completes (.jobStart c p) 0x0410 c x s r (fun t => (r.status ≠ St.ACCEPTED → t = b) ∧
          (r.status = St.ACCEPTED → cells ≠ [] ∧ (∃ j ∈ t.jobs, j.id = id ∧ j.tenant = c.tenant ∧ j.cells = cells ∧ j.startBeat = be p 56 8 ∧ j.live = true) ∧
            ∀ i ∈ cells, b.cellState i = 2 ∧ b.cellTenant i = c.tenant ∧ b.jobOfCell i = none ∧ t.reg (Addr.HOLDER i) = id))) ∧
    (∀ j, p.length = 8 → b.job c.tenant id = some j → j.live = true → j.ckptLen ≠ 0 →
      completes (.jobCheckpoint c p) 0x0412 c x s ok (fun t => t.job c.tenant id = some { j with ckptAsked := true } ∧
        (∀ k ∈ s.jobs, (k.tenant, k.id) ≠ (c.tenant, id) → k ∈ t.jobs) ∧ t.regs = b.regs ∧ sameMemory s t)) ∧
    (∀ j, p.length = 8 → b.job c.tenant id = some j → j.live = true →
      completes (.jobCancel c p) 0x0414 c x s ok (fun t => (∃ k, t.job c.tenant id = some k ∧ k.state = 7 ∧ k.live = false) ∧
        (∀ k ∈ s.jobs, (k.tenant, k.id) ≠ (c.tenant, id) → k ∈ t.jobs) ∧ ∀ i ∈ j.cells, t.reg (Addr.HOLDER i) = 0)) ∧
    (∀ j, p.length = 8 → b.job c.tenant id = some j →
      completes (.jobStatus c p) 0x0416 c x s ⟨St.OK, toBE 1 (b.shownState j) ++ toBE 1 0 ++ toBE 2 j.lastStatus ++ toBE 4 0 ++ toBE 8 j.lastStep ++
        toBE 8 j.lastBarrier ++ toBE 8 j.ckptBarrier⟩ (fun t => t = b))

/-- Steps (R199, R210, R211, R241, R374). STEP_LAUNCH of a cell whose bulk domain is open, with no suspect step and no replay waiting, whose next step's
LAUNCH beat and waits are reached, whose operations the cell's mode has, whose results fit its RESULT_WORDS and the commit buffer and which no
barrier or dump holds back: STEP_LAUNCHED is that step,
the buffer holds its words, and it stands last among the open steps. STEP_CHECK_DONE of the oldest open step without a skew, an
uncorrectable word, a flag, a walk that disagrees or a sample commits it: its results are in the store, STEP_COMMITTED is the step, and it is open no more. A
flagged one becomes suspect. RECOAT_COMPARE with clean, equal runs counts RECOATS and commits the suspect step. -/
def Obligations.StepsLaunchAndCommit : Prop :=
  ∀ (t c : Nat) (j : Job) (s : State), s.jobOfCell c = some j → s.job j.tenant j.id = some j →
    (∀ p h work, (s.cellx c).prog = some p → s.bulkOpen j c = true → (∀ o ∈ (s.cellx c).opens, o.suspect = 0 ∧ o.replay = false) →
      p.steps[(s.cellx c).next]? = some h → h.launch ≤ s.zcBulk (c / 16) → (∀ w ∈ h.waits, w.2 ≤ s.reg (Addr.ARRIVE c w.1)) →
      s.reg (Addr.COMMIT_OCC c) + h.resultWords ≤ 16384 → ((progBarriers p).filter (fun i => decide (i < (s.cellx c).next))).length ≤ j.lastBarrier →
      j.dumpHolds work = false → work.all (opFits p.mode (imageRegions j.image) j.image.updates) = true →
      (let a := advance t s
       (runStep j c h.step (j.image.regions.map (fun g => (g.desc % 65536, j.blocksBefore a (g.desc % 65536)))) work a).results.length ≤ h.resultWords) →
      ∃ u o, exec (.stepLaunch t c work) s = .next u ∧ u.reg (Addr.STEP_LAUNCHED c) = h.step % 2 ^ 64 ∧
        u.reg (Addr.COMMIT_OCC c) = s.reg (Addr.COMMIT_OCC c) + h.resultWords ∧ (u.cellx c).opens = (s.cellx c).opens ++ [o] ∧ o.step = h.step ∧
        o.work = work ∧ (u.cellx c).next = (s.cellx c).next + 1 ∧ u.mem = s.mem ∧ u.copies.store = s.copies.store) ∧
    (∀ step o rest k, (s.cellx c).opens = o :: rest → o.step = step → o.suspect = 0 → o.replay = false → o.skew = none → k.storeBad = false →
      k.bufferBad = false →
      (k.mismatches = 0 ∨ s.flag Addr.INT_CTRL 0 = false → k.walks = 0 → s.bulkSampled j.id o.step (j.rank c) = false →
        (∃ d ∈ j.cells, ∃ p, (s.cellx d).prog = some p ∧ (s.cellx d).next < p.steps.length) → (o.results.map (fun r => r.1 % storeWords)).Nodup →
        ∃ u, exec (.stepCheckDone t c step k) s = .next u ∧ u.reg (Addr.STEP_COMMITTED c) = o.step % 2 ^ 64 ∧
          (∀ y ∈ (u.cellx c).opens, y.step ≠ o.step) ∧ ∀ r ∈ o.results, u.storeWord c (r.1 % storeWords) = r.2) ∧
      ((k.mismatches ≠ 0 ∧ s.flag Addr.INT_CTRL 0 = true) ∨ k.walks ≠ 0 →
        ∃ u o', exec (.stepCheckDone t c step k) s = .next u ∧ (u.cellx c).opens.head? = some o' ∧ o'.step = o.step ∧ o'.suspect = 1 ∧
          u.reg (Addr.STEP_COMMITTED c) = s.reg (Addr.STEP_COMMITTED c) ∧ u.copies.store = s.copies.store)) ∧
    (∀ step o r, (s.cellx c).opens.find? (fun o => o.step == step && o.suspect != 0) = some o → o.suspect ≠ 3 → (j.peer s c).isSome = true →
      r.recoatClean = true → r.repeatClean = true → r.equal = true → (s.transientsOf c).length + 1 < s.reg Addr.TRANSIENT_LIMIT →
      (∃ d ∈ j.cells, ∃ p, (s.cellx d).prog = some p ∧ (s.cellx d).next < p.steps.length) →
      ∃ u, exec (.recoatCompare t c step r) s = .next u ∧ u.reg Addr.RECOATS = (s.reg Addr.RECOATS + 1) % 2 ^ 32 ∧
        u.reg (Addr.STEP_COMMITTED c) = o.step % 2 ^ 64 ∧ ∀ y ∈ (u.cellx c).opens, y.step ≠ o.step)

/-- Copies within the device (R213, R217, R218). COPY_LAUNCH of the head of a software queue that is local, legal and held back by nothing
puts it under way and takes it from the queue. COPY_LAUNCH of the head of a cell's queue of a running job, ready and legal, puts
it under way. COPY_COMPLETE of a copy under way behind no earlier one of its queue to the same words, whose cells are still the tenant's,
that meets no bad word and no retired page ends it; where source and destination
are ranges of HBM that do not overlap, every word of the destination then reads as the source's did, unless a trace session spills records or a word of HBM written on
this beat has a later source cell (R58). -/
def Obligations.CopiesMoveTheirWords : Prop :=
  (∀ (t k : Nat) (y : SoftCopy) (l : List SoftCopy) (s : State), k < 16 → tabGet [] k s.copies.soft = y :: l → s.copyBeatOpen s.beat.kSoft y.desc = true →
    s.mustFollow (512 + k) y.desc = false → CopyFlag.waitCommit y.desc = false → s.copyPeer y.desc = none → CopyFlag.spec y.desc = false →
    s.copyCause y.tenant none y.desc = 0 →
    ∃ u f, exec (.copyLaunch t (512 + k)) s = .next u ∧ u.copies.flights = s.copies.flights ++ [f] ∧ f.desc = y.desc ∧ f.tenant = y.tenant ∧
      f.queue = 512 + k ∧ f.id = s.copies.nextXfer ∧ f.peer = none ∧ tabGet [] k u.copies.soft = l ∧ sameRegsBut [Addr.SWQ_STATUS k] s u ∧ u.mem = s.mem) ∧
  (∀ (t c q : Nat) (j : Job) (y : Nat × CopyDesc × Bool × CellX) (s : State), c < 256 → q < 2 → (s.cellx c).headCopy q = some y →
    s.jobOfCell c = some j → (j.state = 0 ∨ j.state = 1) → s.cellCopyReady c q y.2.1 = true → s.copyPeer y.2.1 = none → CopyFlag.spec y.2.1 = false →
    s.copyCause j.tenant (some (j.id % 2 ^ 32)) y.2.1 = 0 →
    ∃ u f, exec (.copyLaunch t (2 * c + q)) s = .next u ∧ u.copies.flights = s.copies.flights ++ [f] ∧ f.desc = y.2.1 ∧ f.queue = 2 * c + q ∧
      f.job = j.id ∧ f.peer = none ∧ sameRegsBut [Addr.COPYQ_STATUS c, Addr.COPY_LATE (c / 16)] s u ∧ u.mem = s.mem) ∧
  (∀ (t id : Nat) (f : Flight) (s : State), s.copies.flights.find? (fun f => f.id == id && f.peer.isNone) = some f → CopyFlag.spec f.desc = false →
    s.endCause f.tenant f.own false f.desc ≠ 3 → s.endCause f.tenant f.own true f.desc ≠ 3 → s.mustWait f = false → s.cellsStay f = true →
    ∀ corrected, ∃ u, exec (.copyComplete t id ⟨false, corrected⟩) s = .next u ∧ (∀ g ∈ u.copies.flights, g.id ≠ id) ∧
      (∀ g ∈ s.copies.flights, g.id ≠ id → g ∈ u.copies.flights) ∧
      (spaceOf f.desc.src = 0 → spaceOf f.desc.dst = 0 → f.desc.rows = 0 → f.held = [] → f.desc.length % 32 = 0 →
        offsetOf f.desc.src % 32 = 0 → offsetOf f.desc.dst % 32 = 0 →
        (offsetOf f.desc.src + f.desc.length ≤ offsetOf f.desc.dst ∨ offsetOf f.desc.dst + f.desc.length ≤ offsetOf f.desc.src) → untraced s →
        (∀ k, 256 * storeWords ≤ k → tabGet 0 k s.beatWrites ≤ 1) →
        ∀ w < f.desc.length / 32, u.readSpan f.tenant 0 (offsetOf f.desc.dst + 32 * w) = s.readSpan f.tenant 0 (offsetOf f.desc.src + 32 * w)))

/-- Barriers, checkpoints and restarts (R53, R262 to R264, R325). Clusters whose cells have all committed the next barrier step halt with
ZC_BULK at B; when all the job's clusters have, the job is past that barrier, in state BARRIER or CHECKPOINTING. A manager that has every member's arrival
and any due checkpoint logged fixes T, RESUME_MARGIN µs of the time base after the last arrival, and sends RESUME. A job that may go on runs
again, or is HALTED where HALT_MASK holds one of its clusters, and those that only the barrier held are out of the halt. A checkpoint well written leaves its slot VALID and the job in state BARRIER. The last member's report is logged. A job
that is RESTARTING with a VALID slot and a cell for every rank runs again from that slot's barrier, and RESTARTS counts it. -/
def Obligations.JobsMeetBarriersAndRestart : Prop :=
  ∀ (t id : Nat) (s : State),
    (∀ g j, s.job g id = some j → j.live = true → j.state < 2 → j.grouped = false →
      let ready := j.clusters.filter (fun k => !j.atBarrier.contains k && (j.cells.filter (fun c => c / 16 == k)).all (fun c => s.pastBarrier c (j.lastBarrier + 1)))
      ready ≠ [] → j.atBarrier.length ≠ j.clusters.length →
      ∃ u j', exec (.barrierArrive t g id) s = .next u ∧ u.job g id = some j' ∧ j'.atBarrier = j.atBarrier ++ ready ∧
        (∀ k ∈ ready, u.halted k = true ∧ u.zcBulk k = s.barrierBeat j (j.lastBarrier + 1) % 2 ^ 64) ∧
        (j.atBarrier.length + ready.length = j.clusters.length → j'.lastBarrier = j.lastBarrier + 1 ∧
          j'.state = if j.ckptDue (j.lastBarrier + 1) then 2 else 1) ∧ (j.ckptDue (j.lastBarrier + 1) = false → u.mem = s.mem)) ∧
    (∀ j, s.jobs.find? (fun j => j.live && j.id == id && j.grouped) = some j → s.limik = true → s.isManager = true → j.resumeAt = none →
      (∀ m ∈ j.image.members, (j.arrivals.map Prod.fst).contains m = true) → (j.ckptAt = j.lastBarrier → j.lastBarrier ≠ 0 → j.lastBarrier ≤ j.loggedBarrier) →
      let at_ := (j.arrivals.map Prod.snd).foldl max 0 + 16000 * s.reg Addr.RESUME_MARGIN
      ∃ u, exec (.managerResume t id) s = .next u ∧
        u = (sendCtrl .resume allMembers [id, j.barrierBeat, at_] (advance t s)).updJob j.tenant id (fun j => { j with resumeAt := some at_, arrivals := [] }) ∧
        (∃ j' ∈ u.jobs, j'.id = id ∧ j'.tenant = j.tenant ∧ j'.resumeAt = some at_) ∧ memoryStays s u ∧ (untraced s → sameRegsBut sendRegs s u)) ∧
    (∀ g j, s.job g id = some j → s.mayRelease j = true →
      ∃ u j', exec (.barrierRelease t g id) s = .next u ∧ u.job g id = some j' ∧ j'.state = s.runState j ∧ j'.atBarrier = [] ∧
        (∀ k ∈ j.atBarrier, (∀ w ∈ s.haltCauses k, w = .barrier) → u.halted k = false) ∧ u.mem = s.mem) ∧
    (∀ g j, s.job g id = some j → j.state = 2 → j.grouped = false → j.id < 2 ^ 64 →
      ∀ corrected, ∃ u j', exec (.checkpointWriteDone t g id ⟨true, corrected⟩) s = .next u ∧ u.job g id = some j' ∧ j'.state = 1 ∧ j'.ckptBarrier = j.lastBarrier ∧
        j'.nextSlot = 1 - j.nextSlot ∧ (u.slotHeader j j.nextSlot).2.2.2 = true ∧
        ∀ a, a ∉ eventRegs → (∀ k, a ≠ Addr.RD_BYTES k ∧ a ≠ Addr.WR_BYTES k ∧ a ≠ Addr.CELL_C256_CORR k) →
          u.reg a = s.reg a) ∧
    (∀ j barrier member, s.isManager = true → s.jobs.find? (fun j => j.live && j.id == id && j.grouped) = some j →
      (∀ m ∈ j.image.members, m = member ∨ j.ckptDone.contains (m, barrier) = true) → j.loggedBarrier < barrier →
      s.group.pendingLog.any (fun r => r.kind == 5 && r.body == [id, barrier]) = false →
      ∃ u, exec (.ckptDoneLog t id barrier member) s = .next u ∧ memoryStays s u ∧ (untraced s → sameRegsBut sendRegs s u) ∧ u.group.pendingLog = s.group.pendingLog ++
        [⟨s.reg Addr.LOG_INDEX + s.group.pendingLog.length + 1, s.reg Addr.TERM, 5, [id, barrier]⟩]) ∧
    (∀ g j slot n b cells, s.job g id = some j → j.state = 4 → s.field Addr.CALM_BULK 0 9 ≠ 256 → s.lastSlot j = some (slot, n, b) →
      rankCells s j = some cells →
      ∃ u j', exec (.jobRestart t g id) s = .next u ∧ u.job g id = some j' ∧ j'.state = s.runState { j with cells } ∧ j'.cells = cells ∧ j'.lastBarrier = n ∧
        j'.ckptBarrier = n ∧ u.reg Addr.RESTARTS = (s.reg Addr.RESTARTS + 1) % 2 ^ 32)

/-! The traffic manager -/

/-- The traffic commands (R281 to R283, R286, R288, R289, R291 to R293) and SH_APPLY, by the owner in a session that is ready. A policer, a
queue that stays enabled, a port's queue range, a shaper, a fence and a mirror session with parameters that R282, R283, R286, R289 and
R292 allow take them: the command answers OK, the registers named hold them, no other register and no byte of memory changes. SHAPER_SET
and SH_APPLY apply RATE and BURST with a full bucket (FILL 1) or an empty one (FILL 2), and SH_APPLIES counts it. TM_READ answers OK
with the words of N instances, and clears OCC_HIGH of the queues read. -/
def Obligations.TrafficCommandsComplete : Prop :=
  ∀ (c : Cmd) (x : Session) (s : State) (p : Bytes), ready c x s = true → x.tenant = owner →
    let b := begun c x s
    let i := be p 0 2
    let k := byteAt p 0
    let m := byteAt p 1
    let q := be p 2 2
    (p.length = 24 → zerosAt p 2 2 = true →
      let cfg := be p 4 4 &&& polCfgMask
      let cbs := be p 16 4 % 2 ^ 28
      let ebs := be p 20 4 % 2 ^ 28
      cfg % 8 ≤ 3 → (cfg % 8 = 2 → be p 8 4 ≤ be p 12 4) → (cfg % 8 = 1 → cbs ≠ 0 ∨ ebs ≠ 0) → 384 ≤ bits cfg 8 10 → bits cfg 8 10 ≤ 1022 →
      completes (.policerSet c p) 0x0500 c x s ok (fun t => t.reg (Addr.POL_CFG i) = cfg ∧ t.reg (Addr.CIR i) = be p 8 4 ∧
        t.reg (Addr.PIR i) = be p 12 4 ∧ t.reg (Addr.CBS i) = cbs ∧ t.reg (Addr.EBS_PBS i) = ebs ∧ sameMemory s t ∧
        sameRegsBut [Addr.POL_CFG i, Addr.CIR i, Addr.PIR i, Addr.CBS i, Addr.EBS_PBS i] b t)) ∧
    (p.length = 28 → k = 0 → m = 0 → q ≤ 1023 →
      let cfg := be p 4 4 &&& 0x7FFC0
      let sh := be p 24 4 % 2 ^ 13
      64 ≤ be p 8 4 % 2 ^ 21 → be p 8 4 % 2 ^ 21 ≤ 2 ^ 20 → be p 16 4 % 2 ^ 20 ≤ be p 12 4 % 2 ^ 20 → be p 20 4 % 2 ^ 20 ≤ be p 16 4 % 2 ^ 20 →
      (bitAt sh 12 = true ∨ b.tmOwned 1 (sh % 4096) (bits cfg 8 8) = true) → bitAt cfg 6 = true →
      completes (.queueSet c p) 0x0502 c x s ok (fun t => t.reg (Addr.Q_CFG q) = cfg ∧ t.reg (Addr.QUANTUM q) = be p 8 4 % 2 ^ 21 ∧
        t.reg (Addr.GREEN_LIMIT q) = be p 12 4 % 2 ^ 20 ∧ t.reg (Addr.YELLOW_LIMIT q) = be p 16 4 % 2 ^ 20 ∧
        t.reg (Addr.RED_LIMIT q) = be p 20 4 % 2 ^ 20 ∧ t.reg (Addr.Q_SHAPER q) = sh ∧ t.tm.queues = s.tm.queues ∧ sameMemory s t ∧
        sameRegsBut [Addr.Q_CFG q, Addr.QUANTUM q, Addr.GREEN_LIMIT q, Addr.YELLOW_LIMIT q, Addr.RED_LIMIT q, Addr.Q_SHAPER q] b t)) ∧
    (p.length = 12 → k = 1 → m = 0 → q ≤ 63 → b.rangeBad q (be p 4 4) = false →
      completes (.queueSet c p) 0x0502 c x s ok (fun t => t.reg (Addr.PQ_CFG q) = be p 4 4 % 2 ^ 23 ∧ t.reg (Addr.PORT_SHAPER q) = be p 8 4 % 2 ^ 13 ∧
        sameRegsBut [Addr.PQ_CFG q, Addr.PORT_SHAPER q] b t ∧ t.tm.queues = s.tm.queues ∧ sameMemory s t)) ∧
    (p.length = 16 → i ≤ 4095 → byteAt p 3 = 0 → (byteAt p 2 = 1 ∨ byteAt p 2 = 2) →
      completes (.shaperSet c p) 0x0504 c x s ok (fun t => t.reg (Addr.SH_CFG i) = be p 12 4 &&& 0x1FF7F ∧ t.reg (Addr.SH_RATE i) = be p 4 4 ∧
        t.reg (Addr.SH_BURST i) = be p 8 4 % 2 ^ 28 ∧ t.reg (Addr.SH_APPLIES i) = (b.reg (Addr.SH_APPLIES i) + 1) % 2 ^ 32 ∧
        t.shTokens i = (if byteAt p 2 = 1 then ((be p 8 4 % 2 ^ 28 * 2 ^ 32 : Nat) : Int) else 0) ∧
        sameRegsBut [Addr.SH_CFG i, Addr.SH_RATE i, Addr.SH_BURST i, Addr.SH_APPLIES i] b t ∧ sameMemory s t)) ∧
    (∀ (n : Nat) (v : W32), n < 4096 → (v.toNat % 4 = 1 ∨ v.toNat % 4 = 2) →
      completes (.shApply c n v) 0x0101 c x s ⟨St.OK, toBE 2 1 ++ zeros 2⟩ (fun t => t.reg (Addr.SH_RATE n) = b.reg (Addr.SH_RATE_NEXT n) ∧
        t.reg (Addr.SH_BURST n) = b.reg (Addr.SH_BURST_NEXT n) ∧ t.reg (Addr.SH_APPLIES n) = (b.reg (Addr.SH_APPLIES n) + 1) % 2 ^ 32 ∧
        t.shTokens n = (if v.toNat % 4 = 1 then ((b.reg (Addr.SH_BURST_NEXT n) * 2 ^ 32 : Nat) : Int) else 0) ∧
        sameRegsBut [Addr.SH_RATE n, Addr.SH_BURST n, Addr.SH_APPLIES n] b t ∧ sameMemory s t)) ∧
    (p.length = 6 → k ≤ 5 → m = 0 → 1 ≤ be p 4 2 → be p 4 2 ≤ 256 → q + be p 4 2 ≤ (tmBlocks k).1 →
      ∃ r, r.status = St.OK ∧ completes (.tmRead c p) 0x0506 c x s r (fun t => sameMemory s t ∧
        (k ≠ 0 → t = b) ∧ (k = 0 → (∀ j < be p 4 2, t.reg (Addr.OCC_HIGH (q + j)) = 0) ∧
          sameRegsBut ((List.range (be p 4 2)).map (fun j => Addr.OCC_HIGH (q + j))) b t))) ∧
    (p.length = 16 → k = 0 → zerosAt p 2 2 = true → zerosAt p 14 2 = true →
      completes (.fenceSet c p) 0x0508 c x s ok (fun t => t.reg (Addr.TPORTS m) = be p 4 8 ∧ t.reg (Addr.TCLASSES m) = be p 12 2 ∧
        sameRegsBut [Addr.TPORTS m, Addr.TCLASSES m] b t ∧ sameMemory s t)) ∧
    (p.length = 16 → k = 1 → zerosAt p 2 2 = true → m ≤ 63 → zerosAt p 6 10 = true →
      completes (.fenceSet c p) 0x0508 c x s ok (fun t => t.reg (Addr.PORT_CLASSES m) = be p 4 2 ∧ sameRegsBut [Addr.PORT_CLASSES m] b t ∧ sameMemory s t)) ∧
    (p.length = 12 → k ≤ 15 → zerosAt p 1 3 = true → (be p 8 4 % 2 ^ 14 = 0 ∨ (64 ≤ be p 8 4 % 2 ^ 14 ∧ be p 8 4 % 2 ^ 14 ≤ 9728)) →
      completes (.mirrorSet c p) 0x050A c x s ok (fun t => t.reg (Addr.MIR_CFG k) = be p 4 4 % 2 ^ 25 ∧ t.reg (Addr.TRUNCATE k) = be p 8 4 % 2 ^ 14 ∧
        sameRegsBut [Addr.MIR_CFG k, Addr.TRUNCATE k] b t ∧ sameMemory s t))

/-- Frames through the traffic manager (R280, R281, R285, R288, R289, R291, R295). An unmirrored packet at step 10, none of an earlier beat or of a lower logical
port of its beat still to be admitted, that the fence of its beat passes to queue q of port L: if its policer drops it, no queue changes; else a queue whose occupancy with its pages stays within its colour's limit takes it last,
and one over the limit counts it in TAIL_DROP. FRAME_TRANSMIT sends the head of the queue in turn when its deficit (its quantum added at
the start of its turn) covers the frame, whose words are good, and no frame stands in the egress FIFO before it: TX_PKTS and Q_TX_BYTES count it and the frame leaves on an enabled port
that is up and not in loopback; a frame that stands in the egress FIFO leaves as it is. A shaper that has a
whole byte lets every queue it was closing wait for its turn. A histogram sample counts each queue in one bin. -/
def Obligations.FramesAreQueuedAndSent : Prop :=
  (∀ (t id L q : Nat) (p : Pkt) (s : State), s.packet id = some p → s.mayAdmit p = true → p.result.drop = false → p.result.egress = some (false, L) →
    p.result.mirror = 0 → s.queueOf L p.result.queue = some q → s.fence p.since p.tenant L p.result.cls q p.result.policer = 0 →
    let a := advance t s
    let r := match p.result.policer with
      | some n => police p n a
      | none => (0, false, a)
    ∃ u, exec (.tmAdmit t id) s = .next u ∧ (∀ k, k ≠ q → u.queue k = s.queue k) ∧ u.mem = s.mem ∧
      (r.2.1 = true → u.queue q = s.queue q) ∧
      (r.2.1 = false → s.occPages q + p.pages ≤ s.reg (colourLimit q r.1) →
        u.queue q = s.queue q ++ [{ pkt := p.id, bytes := p.bytes, pages := p.pages, tag := p.result.tag }]) ∧
      (r.2.1 = false → s.reg (colourLimit q r.1) < s.occPages q + p.pages →
        u.queue q = s.queue q ∧ u.reg (Addr.TAIL_DROP q) = (s.reg (Addr.TAIL_DROP q) + 1) % 2 ^ 32)) ∧
  (∀ (t L q p k : Nat) (f : QFrame) (fs : List QFrame) (rest : List Nat) (s : State), L < 64 → s.activeQ L = q :: rest → s.queue q = f :: fs →
    let a := advance t s
    let credited := tabGet 0 L s.tm.credited == q + 1
    a.eligible L q = true → (credited = true ∨ a.shaperOpen (s.reg (Addr.PORT_SHAPER L)) = true) →
    f.bytes.length + 4 ≤ s.reg (Addr.DEFICIT q) + (if credited then 0 else s.reg (Addr.QUANTUM q)) →
    s.reg (Addr.DEFICIT q) + s.reg (Addr.QUANTUM q) < 2 ^ 64 →
    s.placeOf L = some (p, k) → s.subUp p k = true → (s.fifo (0x40 + L)).pkts = [] →
    ∀ chk : FifoRead, chk.bad = false → ∃ u, exec (.frameTransmit t ⟨L, chk⟩) s = .next u ∧ u.queue q = fs ∧ u.reg (Addr.TX_PKTS q) = (s.reg (Addr.TX_PKTS q) + 1) % 2 ^ 64 ∧
      u.reg (Addr.Q_TX_BYTES q) = (s.reg (Addr.Q_TX_BYTES q) + f.bytes.length + 4) % 2 ^ 64 ∧
      (s.flag (Addr.PORT_CTRL p) 6 = false → s.flag (Addr.PORT_CTRL p) 3 = true → s.secError = false → ∃ l, u.out = s.out ++ Output.frame L f.bytes :: l) ∧
      (∀ j, j ≠ q → u.queue j = s.queue j) ∧ u.mem = s.mem) ∧
  (∀ (t L p k : Nat) (q : FifoPkt) (l : List FifoPkt) (s : State), L < 64 → (s.fifo (0x40 + L)).pkts = q :: l → s.placeOf L = some (p, k) →
    s.subUp p k = true → s.flag (Addr.PORT_CTRL p) 6 = false → s.flag (Addr.PORT_CTRL p) 3 = true → s.secError = false →
    ∀ chk : FifoRead, chk.bad = false → ∃ u, exec (.frameTransmit t ⟨L, chk⟩) s = .next u ∧ (u.fifo (0x40 + L)).pkts = l ∧
      u.out = s.out ++ [.frame L (q.data.flatMap (fun w => toLE 32 w.toNat))] ∧ (∀ j, u.queue j = s.queue j) ∧ u.mem = s.mem) ∧
  (∀ (t i L q : Nat) (s : State), i < 4096 → s.flag (Addr.SH_CFG i) 6 = true → (advance t s).shaperOpen i = true →
    ∃ u, exec (.shaperOpen t i) s = .next u ∧ u.regs = s.regs ∧ u.mem = s.mem ∧
      (L < 64 → (s.qRange L).1 ≤ q → q < (s.qRange L).1 + (s.qRange L).2.1 → s.queue q ≠ [] → (advance t s).eligible L q = true → q ∈ u.activeQ L)) ∧
  (∀ (t : Nat) (s : State), s.on = true →
    ∃ u, exec (.queueHistogramSample t) s = .next u ∧
      (∀ q < 1024, u.reg (Addr.Q_HIST q (s.histBin q)) = min (2 ^ 32 - 1) (s.reg (Addr.Q_HIST q (s.histBin q)) + 1)) ∧
      sameRegsBut ((List.range 1024).map (fun q => Addr.Q_HIST q (s.histBin q))) s u ∧ u.mem = s.mem)

/-! The group, the fabric and the host bridge -/

/-- The group and fabric commands (R51, R304, R317, R321, R329 to R334) of a session that is ready, all but LANDING_SET and LANDING_CLEAR by
the owner. GROUP_JOIN of a device not joined, with good parameters and a link whose owners match, a manager holding a lease where the group has members, makes it the member named of the group
named, in GROUP mode. GROUP_LEAVE of a joined device leaves it standing alone, in FIXED mode, its routes unset. GROUP_STATUS answers OK with
1,300 bytes. FABRIC_PORT_SET enables or disables the ports of its mask. ROUTE_SET sets its entries, in a group while a
manager holds a lease. LANDING_SET gives a live job of the tenant a
free zone in its windows; LANDING_CLEAR of a zone with nothing pending removes it. BRIDGE_SET sets an aperture. Memory stays, but for the
records that a trace session spills of packets sent. -/
def Obligations.GroupCommandsComplete : Prop :=
  ∀ (c : Cmd) (x : Session) (s : State) (p : Bytes), ready c x s = true →
    let b := begun c x s
    let k := byteAt p 0
    let m := byteAt p 1
    let n := byteAt p 3
    let order := (List.range n).map (fun i => byteAt p (4 + i))
    (∀ link : JoinInfo, x.tenant = owner → p.length = 24 → k ≤ 127 → m ≤ 63 → byteAt p 2 ≤ 63 → 3 ≤ n → n ≤ 8 → (∀ i ∈ order, i ≤ 63) → order.Nodup →
      zerosAt p (4 + n) (8 - n) = true → be p 18 4 < 1000000000 → zerosAt p 22 2 = true → 500 ≤ link.rate → link.rate ≤ 2000 →
      link.ownerMatch = true → (link.lease = true ∨ link.live = []) → b.joined = false → link.live.contains m = false → (b.zc ≤ link.groupZc ∨ link.live = []) →
      completes (.groupJoin c p link) 0x0600 c x s ok (fun t => t.joined = true ∧ t.groupNum = k ∧ t.member = m ∧ t.beatMode = 2 ∧
        t.reg Addr.TERM = link.term % 2 ^ 64 ∧ t.reg Addr.LOG_INDEX = link.logIndex % 2 ^ 64 ∧ m ∈ t.group.live ∧
        (∀ i ∈ link.live, i ∈ t.group.live) ∧ t.group.order = order ∧ memoryStays s t)) ∧
    (x.tenant = owner → p = [] → b.joined = true →
      completes (.groupLeave c p) 0x0602 c x s ok (fun t => t.joined = false ∧ t.beatMode = 1 ∧ t.reg Addr.DEVICE_NUMBER = 0 ∧
        t.reg Addr.MANAGER = 0 ∧ (∀ j < 64, t.reg (Addr.MEMBER_ROUTE j) = 0x3F) ∧ (∀ j < 128, t.reg (Addr.GROUP_ROUTE j) = 0x7F) ∧ memoryStays s t)) ∧
    (x.tenant = owner → p = [] → ∃ r, r.status = St.OK ∧ r.params.length = 1300 ∧ completes (.groupStatus c p) 0x0604 c x s r (fun t => t = b)) ∧
    (x.tenant = owner → p.length = 8 → be p 0 4 < 2 ^ 22 → byteAt p 4 ≤ 1 → zerosAt p 5 3 = true →
      completes (.fabricPortSet c p) 0x0606 c x s ok (fun t =>
        (∀ j < 22, t.flag (Addr.FP_CTRL j) 0 = if bitAt (be p 0 4) j then byteAt p 4 == 1 else b.flag (Addr.FP_CTRL j) 0) ∧ memoryStays s t)) ∧
    (x.tenant = owner → 4 ≤ p.length → n = 0 → 1 ≤ byteAt p 2 → (b.joined = false ∨ b.group.leaseHeld = true) →
      (k = 0 → p.length = 4 + 4 * byteAt p 2 → m + byteAt p 2 ≤ 64 → (∀ i < byteAt p 2, be p (4 + 4 * i) 4 ≤ 63) →
        completes (.routeSet c p) 0x0608 c x s ok (fun t => (∀ i < byteAt p 2, t.reg (Addr.MEMBER_ROUTE (m + i)) = be p (4 + 4 * i) 4) ∧
          (∀ j < 64, j < m ∨ m + byteAt p 2 ≤ j → t.reg (Addr.MEMBER_ROUTE j) = b.reg (Addr.MEMBER_ROUTE j)) ∧ memoryStays s t)) ∧
      (k = 1 → p.length = 4 + 8 * byteAt p 2 → m + byteAt p 2 ≤ 128 →
        let w (i : Nat) : Nat := be p (4 + 8 * i) 4 + be p (8 + 8 * i) 4 * 2 ^ 32
        (∀ i < byteAt p 2, w i &&& groupRouteMask = w i) →
        completes (.routeSet c p) 0x0608 c x s ok (fun t => (∀ i < byteAt p 2, t.reg (Addr.GROUP_ROUTE (m + i)) = w i) ∧
          (∀ j < 128, j < m ∨ m + byteAt p 2 ≤ j → t.reg (Addr.GROUP_ROUTE j) = b.reg (Addr.GROUP_ROUTE j)) ∧ memoryStays s t))) ∧
    (∀ j, s.fw.hbmFailed = false → p.length = 28 → zerosAt p 2 2 = true → zerosAt p 26 2 = true → k ≤ 127 → 1 ≤ be p 24 2 → be p 24 2 ≤ 4096 →
      1 ≤ be p 4 4 → be p 4 4 ≤ 16384 → be p 16 8 % 32 = 0 → b.job c.tenant (be p 8 8) = some j → j.live = true → j.cells.contains m = true →
      b.inWindows c.tenant (be p 16 8) (2 * be p 24 2 * be p 4 4 * 1024) true = true → (∀ z ∈ b.copies.zones, z.num ≠ k) →
      completes (.landingSet c p) 0x060A c x s ok (fun t => memoryStays s t ∧ (untraced s → sameRegsBut sendRegs b t) ∧ (j.image.members = [] → t.regs = b.regs ∧ sameMemory s t) ∧
        t.copies.zones = b.copies.zones ++ [⟨k, c.tenant, j.id, be p 16 8, be p 24 2, be p 4 4, m, []⟩])) ∧
    (∀ z, p.length = 4 → zerosAt p 1 3 = true → k ≤ 127 → b.copies.zones.find? (fun z => z.num == k) = some z → (z.tenant = c.tenant ∨ x.tenant = owner) →
      (∀ e ∈ z.entries, e.2.pending = none) →
      completes (.landingClear c p) 0x060C c x s ok (fun t => (∀ y ∈ t.copies.zones, y.num ≠ k) ∧
        (∀ y ∈ s.copies.zones, y.num ≠ k → y ∈ t.copies.zones) ∧ memoryStays s t ∧ (untraced s → sameRegsBut sendRegs b t))) ∧
    (x.tenant = owner → p.length = 12 → k ≤ 15 → m ≤ 1 → n = 0 → spaceOf (be p 4 8) ≤ 1 →
      completes (.bridgeSet c p) 0x060E c x s ok (fun t => t.reg (Addr.APERTURE_BASE k) = be p 4 8 ∧
        t.reg (Addr.APERTURE_CFG k) = m + byteAt p 2 * 256 ∧ sameRegsBut [Addr.APERTURE_BASE k, Addr.APERTURE_CFG k] b t ∧ sameMemory s t))

/-- Roles, leases and the log (R51, R310, R321 to R324, R387). A joined device whose reference port is down takes the next port. At the
instant named ZC_ROOT steps to the group's value, never back. LOG_COMMIT with the acknowledgements of its followers commits the oldest
record: LOG_INDEX is its index and it is pending no more. A renewal that is due sends a lease. A lease of a higher term makes its sender
manager and its TERM this device's; one of the same term by the manager renews; any other changes nothing but the time. A missed renewal
is counted; with the third no manager holds a lease, and TIME_STATE under SOURCE GROUP is HOLDOVER; then the one follower left, or the one
with the longer log (the other's length as that follower has told it, or as the row says), or of two equal logs the earlier in MGR_ORDER, takes over with the next TERM. A manager
unacknowledged for 20 ms is manager no more. A loss of a live member is logged by the manager and acted on by any other. Recomputed routes are
logged. -/
def Obligations.GroupActsAsOne : Prop :=
  ∀ (t : Nat) (s : State),
    (∀ q, s.joined = true → s.isManager = false → s.portUp (s.field Addr.GROUP_REF_PORT 0 4) = false → s.refChoice = some q →
      ∃ u, exec (.groupRefSwitch t q) s = .next u ∧ u.field Addr.GROUP_REF_PORT 0 4 = q ∧ u.mem = s.mem ∧
        sameRegsBut ([Addr.GROUP_REF_PORT] ++ eventRegs) s u) ∧
    (∀ sec ns g v, s.group.joinAt = some (sec, ns, g) → (sec < (advance t s).sec ∨ ((advance t s).sec = sec ∧ ns ≤ (advance t s).ns)) → v < 2 ^ 64 →
      ∃ u, exec (.zcJoin t v) s = .next u ∧ u.zc = max s.zc v ∧ u.group.joinAt = none ∧ u.mem = s.mem ∧
        sameRegsBut ([Addr.ZC_ROOT] ++ eventRegs) s u) ∧
    (∀ r rest acks, s.group.pendingLog = r :: rest → s.limik = true → s.isManager = true → 1 ≤ acks → (s.followersOf s.member).length ≤ acks →
      ∃ u r', exec (.logCommit t acks) s = .next u ∧ u.group.pendingLog = rest ∧ r' ∈ u.group.log ∧ r'.index = r.index ∧ r'.kind = r.kind ∧
        u.reg Addr.LOG_INDEX = r.index % 2 ^ 64) ∧
    (s.limik = true → s.isManager = true → s.group.lastRenewal + ms 10 ≤ t →
      ∃ u v, exec (.leaseRenewal t) s = .next u ∧ u = sendTime (sendCtrl .lease allMembers [s.reg Addr.TERM, s.group.renewal + 1] v) ∧
        v.regs = s.regs ∧ v.fabric = s.fabric ∧ v.out = s.out ∧ v.group.live = s.group.live ∧
        u.group.lastRenewal = max s.now t ∧ u.group.leaseHeld = true ∧ memoryStays s u ∧ (untraced s → sameRegsBut sendRegs s u)) ∧
    (∀ term n m, s.joined = true → m < 64 → m ≠ s.member →
      (s.reg Addr.TERM < term → term < 2 ^ 32 →
        ∃ u, exec (.leaseReceive t term n m) s = .next u ∧ u.reg Addr.TERM = term ∧ u.manager = m ∧ u.isManager = false ∧
          u.group.missed = 0 ∧ u.group.leaseHeld = true ∧ u.group.lastRenewal = max s.now t ∧
          memoryStays s u ∧ (untraced s → sameRegsBut ([Addr.TERM, Addr.MANAGER, Addr.GROUP_REF_PORT] ++ sendRegs) s u)) ∧
      (s.reg Addr.TERM = term → m = s.manager →
        ∃ u, exec (.leaseReceive t term n m) s = .next u ∧ u.manager = m ∧ u.group.missed = 0 ∧ u.group.leaseHeld = true ∧
          u.group.lastRenewal = max s.now t ∧ memoryStays s u ∧ (untraced s → sameRegsBut ([Addr.MANAGER] ++ sendRegs) s u)) ∧
      (term < s.reg Addr.TERM ∨ (s.reg Addr.TERM = term ∧ m ≠ s.manager) → exec (.leaseReceive t term n m) s = .next (advance t s))) ∧
    (∀ told, s.joined = true → s.isManager = false → s.group.lastRenewal + ms 10 * (s.group.missed + 1) ≤ t →
      let other := s.group.peerLog.getD told
      let fs := s.followersOf s.manager
      let first := fs = [s.member] ∨ other < s.reg Addr.LOG_INDEX ∨
        (other = s.reg Addr.LOG_INDEX ∧ s.liveOrder.find? (fun m => fs.contains m) = some s.member)
      ∃ u, exec (.missedRenewal t told) s = .next u ∧ memoryStays s u ∧
        (s.group.missed < 2 → (untraced s → sameRegsBut sendRegs s u) ∧ u.group = { s.group with missed := s.group.missed + 1 }) ∧
        (2 ≤ s.group.missed → s.group.leaseHeld = true → s.timeSource = 3 → u.timeState = 3) ∧
        (2 ≤ s.group.missed → ¬ (s.isFollower = true ∧ s.limik = true ∧ first) →
          u.group.leaseHeld = false ∧ u.isManager = false ∧ u.manager = s.manager ∧ u.reg Addr.TERM = s.reg Addr.TERM) ∧
        (2 ≤ s.group.missed → s.isFollower = true → s.limik = true → first →
          u.isManager = true ∧ u.manager = s.member ∧ u.group.leaseHeld = true ∧ u.reg Addr.TERM = (s.reg Addr.TERM + 1) % 2 ^ 32)) ∧
    (s.isManager = true → s.group.lastAck + ms 20 ≤ t →
      ∃ u, exec (.managerStepdown t) s = .next u ∧ u.isManager = false ∧ u.group.leaseHeld = false ∧ u.group.pendingLog = [] ∧
        sameRegsBut ([Addr.MANAGER] ++ eventRegs) s u ∧ u.mem = s.mem) ∧
    (∀ m, s.joined = true → s.group.live.contains m = true → m ≠ s.member →
      ∃ u, exec (.memberLost t m) s = .next u ∧
        (s.isManager = true → u.group.pendingLog = s.group.pendingLog ++ [⟨s.reg Addr.LOG_INDEX + s.group.pendingLog.length + 1, s.reg Addr.TERM, 0, [0, m]⟩] ∧
          memoryStays s u ∧ (untraced s → sameRegsBut sendRegs s u)) ∧
        (s.isManager = false → m ∉ u.group.live ∧ ∀ k ∈ s.group.live, k ≠ m → k ∈ u.group.live)) ∧
    (∀ members groups, s.limik = true → s.isManager = true → members.length = 64 → groups.length = 128 →
      ∃ u, exec (.routeRecompute t members groups) s = .next u ∧ memoryStays s u ∧ (untraced s → sameRegsBut sendRegs s u) ∧
        u.group.pendingLog = s.group.pendingLog ++ [⟨s.reg Addr.LOG_INDEX + s.group.pendingLog.length + 1, s.reg Addr.TERM, 3,
          members.map (· % 64) ++ groups.map (· &&& groupRouteMask)⟩])

/-- Fabric ports and their frames (R301 to R304, R307, R312, R315, R319). A good frame in sequence advances the count of frames received, and
another does not. Its ACKSEQ takes the frames up to it out of the replay buffer; where it names none of those that wait, for the first
time, they stay; and where it does so again, every frame after it is replayed, with the last frame received as ACKSEQ, and counted, until RETRY_LIMIT replays in a row take the port down with cause 3.
A bad frame counts in FEC_UNCORR_CW and advances nothing; more than ERR_THRESH of them in 1 ms take the port down with cause 2. Corrected
codewords count in FEC_CORR_CW. A packet for another device goes on by its port with its credits, and waits for them where they are short or
its route is cut. A port that is up goes down for a cause. A port that may train comes up with its right partner, and is
MISCABLE with a wrong one; so does a MISCABLE port that retrains. CREDIT counts its two flits, adds its 32 fields to those of its port, and the packets held
are tried again. A remote copy unacknowledged for COPY_TIMEOUT is no more, and its queue has the fault. A slot pending for SPEC_TIMEOUT without a CONFIRM drops its
half. A REVOKE unanswered for COPY_TIMEOUT is sent again. But for the records a trace session spills, no memory changes. -/
def Obligations.FabricPortsAndTimeouts : Prop :=
  ∀ (t : Nat) (s : State),
    (∀ p f ack k, p < 24 → s.portUp p = true → f < 1024 → ack < 1024 →
      let rx := tabGet 0 p s.fabric.rxNext
      let un := tabGet [] p s.fabric.unacked
      let left := un.filter (fun x => !decide (frameAfter ack x.1 < 512))
      let same := un ≠ [] ∧ left.length = un.length ∧ tabGet 1024 p s.fabric.acked = ack
      let limit := same ∧ s.reg (Addr.RETRY_LIMIT p) ≤ tabGet 0 p s.fabric.stuck
      ∃ u, exec (.linkFrameReceive t p f ack k true) s = .next u ∧ memoryStays s u ∧
        u.reg (Addr.FP_FEC_CORR_CW p) = (s.reg (Addr.FP_FEC_CORR_CW p) + k) % 2 ^ 64 ∧
        (¬ limit → tabGet 0 p u.fabric.rxNext = if f = rx then (rx + 1) % 1024 else rx) ∧
        (un = [] → tabGet [] p u.fabric.unacked = [] ∧ sameRegsBut [Addr.FP_FEC_CORR_CW p] s u) ∧
        (left.length < un.length → (∃ l, tabGet [] p u.fabric.unacked = left ++ l) ∧
          (s.fabric.held = [] → tabGet [] p u.fabric.unacked = left ∧ (untraced s → sameRegsBut [Addr.FP_FEC_CORR_CW p] s u))) ∧
        (un ≠ [] → left.length = un.length → tabGet 1024 p s.fabric.acked ≠ ack →
          tabGet [] p u.fabric.unacked = un ∧ tabGet 1024 p u.fabric.acked = ack ∧ sameRegsBut [Addr.FP_FEC_CORR_CW p] s u) ∧
        (same → ¬ limit → tabGet [] p u.fabric.unacked = un ∧ u.reg (Addr.REPLAYS p) = (s.reg (Addr.REPLAYS p) + 1) % 2 ^ 32 ∧
          Output.link p ((tabGet 0 p u.fabric.rxNext + 1023) % 1024) (s.framesAfter p ack) ∈ u.out ∧ sameRegsBut [Addr.FP_FEC_CORR_CW p, Addr.REPLAYS p] s u) ∧
        (limit → u.portUp p = false ∧ u.downCause p = 3)) ∧
    (∀ p f ack k, p < 24 → s.portUp p = true → f < 1024 → ack < 1024 →
      let n := ((tabGet [] p s.fabric.errors).filter (fun e => decide (max s.now t < e + ms 1))).length + 1
      ∃ u, exec (.linkFrameReceive t p f ack k false) s = .next u ∧ memoryStays s u ∧
        u.reg (Addr.FP_FEC_UNCORR_CW p) = (s.reg (Addr.FP_FEC_UNCORR_CW p) + 1) % 2 ^ 64 ∧
        u.reg (Addr.FP_FEC_CORR_CW p) = (s.reg (Addr.FP_FEC_CORR_CW p) + k) % 2 ^ 64 ∧
        (n ≤ s.reg (Addr.ERR_THRESH p) → u.fabric.rxNext = s.fabric.rxNext ∧ u.fabric.unacked = s.fabric.unacked ∧
          sameRegsBut [Addr.FP_FEC_CORR_CW p, Addr.FP_FEC_UNCORR_CW p] s u) ∧
        (s.reg (Addr.ERR_THRESH p) < n → u.portUp p = false ∧ u.downCause p = 2)) ∧
    (∀ (p : Nat) (hdr : W256) (data : Bytes) (chk : FifoRead),
      let h := headerOf hdr.toNat
      let ws := wordsOf data
      let cls := bits hdr.toNat 6 3
      s.mayReceive p = true → headerValid hdr.toNat = true → h.len = ws.length → chk.bad = false → h.ty ≠ tyCredit → h.dst ≠ s.device →
      1 + ws.length ≤ tabGet 0 (creditKey p h.vc cls) s.fabric.granted →
      ∃ u, exec (.fabricPacketReceive t p hdr ⟨data, chk⟩) s = .next u ∧ memoryStays s u ∧
        u.reg (Addr.FLITS_RX p) = (s.reg (Addr.FLITS_RX p) + 1 + ws.length) % 2 ^ 64 ∧
        let k : FabPkt := ⟨h.vc, cls, h.dst, hdr.toNat, ws, some p, false⟩
        (∀ r, s.hop h.src h.dst (some p) cls = .port r →
          let cls' := s.nextClass k r
          let open_ := 1 + ws.length ≤ tabGet 0 (creditKey r h.vc cls') s.fabric.credit ∧ s.replayRoom r (1 + ws.length) = true
          (open_ → (r ≠ p → u.reg (Addr.FLITS_TX r) = (s.reg (Addr.FLITS_TX r) + 1 + ws.length) % 2 ^ 64) ∧ u.fabric.held = s.fabric.held ∧
            ∃ l, u.out = s.out ++ Output.fabric r h.vc cls' h.ty h.dst [putBits hdr.toNat 6 3 cls'] (ws.flatMap (fun w => toLE 32 w.toNat)) :: l) ∧
          (¬ open_ → u.fabric.held = s.fabric.held ++ [k] ∧ (untraced s → u.out = s.out))) ∧
        (s.hop h.src h.dst (some p) cls = .cut → u.fabric.held = s.fabric.held ++ [k] ∧ (untraced s → u.out = s.out))) ∧
    (∀ p cause, p < 24 → s.portUp p = true →
      (cause = 1 ∨ cause = 2 ∨ cause = 3 ∨ (cause = 5 ∧ s.flag Addr.SPOKE_DETACHED (16 + portDie p) = true) ∨ cause = 8) →
      ∃ u, exec (.fabricPortDown t p cause) s = .next u ∧ u.portUp p = false ∧ u.downCause p = cause ∧
        tabGet [] p u.fabric.unacked = [] ∧ (∀ q < 24, q ≠ p → u.portUp q = s.portUp q) ∧ memoryStays s u) ∧
    (∀ p d q, s.mayTrain p = true → d < 8192 → q < 24 →
      (s.partnerRight p d q = true → ∃ u, exec (.fabricPortTrained t p d q) s = .next u ∧ u.portUp p = true ∧ u.downCause p = 0 ∧
        u.reg (Addr.PARTNER p) = d + q * 8192 + 2 ^ 18 ∧ memoryStays s u) ∧
      (s.partnerRight p d q = false → ∃ u, exec (.fabricPortTrained t p d q) s = .next u ∧ u.portUp p = false ∧ u.downCause p = 7 ∧
        u.reg (Addr.PARTNER p) = d + q * 8192 + 2 ^ 18 ∧ memoryStays s u) ∧
      (s.downCause p = 7 → s.partnerRight p d q = true → ∃ u, exec (.miscableRecheck t p d q) s = .next u ∧ u.portUp p = true ∧
        u.downCause p = 0 ∧ u.reg (Addr.PARTNER p) = d + q * 8192 + 2 ^ 18 ∧ memoryStays s u) ∧
      (s.downCause p = 7 → s.partnerRight p d q = false → ∃ u, exec (.miscableRecheck t p d q) s = .next u ∧ u.portUp p = false ∧
        u.downCause p = 7 ∧ u.reg (Addr.PARTNER p) = d + q * 8192 + 2 ^ 18 ∧ sameRegsBut [Addr.PARTNER p] s u ∧ u.mem = s.mem)) ∧
    (∀ p (fields : List Nat), s.mayReceive p = true →
      ∃ u v c, exec (.fabCredit t p fields) s = .next u ∧ (∀ i < 32, tabGet 0 (p * 32 + i) c = tabGet 0 (p * 32 + i) s.fabric.credit + fields.getD i 0 % 256) ∧
        (∀ k, k / 32 ≠ p → tabGet 0 k c = tabGet 0 k s.fabric.credit) ∧ memoryStays s u ∧
        u = retryHeld { v with fabric.credit := c } ∧ v.fabric = s.fabric ∧ v.mem = s.mem ∧ v.out = s.out ∧
        v.reg (Addr.FLITS_RX p) = (s.reg (Addr.FLITS_RX p) + 2) % 2 ^ 64 ∧
        sameRegsBut [Addr.FLITS_RX p, Addr.COMMIT_COUNT (rxFifo p 3), Addr.HIGH_WATER (rxFifo p 3)] s v ∧
        (s.fabric.held = [] → u.fabric.credit = c ∧ (untraced s → u.regs = v.regs ∧ u.mem = s.mem))) ∧
    (∀ id f, s.copies.flights.find? (fun f => f.id == id && f.peer.isSome) = some f → f.launched + us (s.reg Addr.COPY_TIMEOUT) ≤ t →
      ∃ u, exec (.copyTimeoutExpiry t id) s = .next u ∧ (∀ g ∈ u.copies.flights, g.id ≠ id) ∧ memoryStays s u ∧
        (512 ≤ f.queue → tabGet (0, 0) ((f.queue - 512) * 256 + f.tenant) u.copies.lastFault = (6, f.desc.copyTag)) ∧
        (f.queue < 512 → u.flag (Addr.COPYQ_STATUS (f.queue / 2)) (16 + f.queue % 2) = true ∧
          u.reg (Addr.COPY_FAULTS (f.queue / 2)) = (s.reg (Addr.COPY_FAULTS (f.queue / 2)) + 1) % 2 ^ 32)) ∧
    (∀ z i q, s.copies.zones.find? (fun y => y.num == z.num) = some z → (z.slot i).pending = some q → (z.slot i).confirmed = false → (z.slot i).since + us (s.reg Addr.SPEC_TIMEOUT) ≤ t →
      ∃ u z', exec (.specTimeoutExpiry t z.num i) s = .next u ∧ u.copies.zones.find? (fun y => y.num == z.num) = some z' ∧
        (z'.slot i).pending = none ∧ (z'.slot i).cur = (z.slot i).cur ∧ memoryStays s u) ∧
    (∀ id x, s.copies.sends.find? (fun x => x.id == id) = some x →
      let late := x.revoking.filter (fun r => r.2 != 0 && decide (r.2 - 1 + us (s.reg Addr.COPY_TIMEOUT) ≤ t))
      late ≠ [] → ∃ u, exec (.revokeResend t id) s = .next u ∧ u.nextSeq 3 = (s.nextSeq 3 + late.length) % 2 ^ 32 ∧ memoryStays s u ∧
        (∀ y ∈ u.copies.sends, y.id = id → ∀ r ∈ y.revoking, r.1 ∈ late.map Prod.fst → r.2 = max s.now t + 1))

/-- Fabric packets at their destination (R305, R306, R314, R318, R319), each one that its port takes. A WR_DATA
to HBM whose checks pass writes its words there, where no later source cell wrote on this beat (R58), and nothing else, and is acknowledged;
its credits return. A RD_REQ whose checks pass is answered with RD_DATA
packets of at most 1 KiB, or with an ACK of cause 5 where a word it reads cannot be corrected. A last RD_DATA, and a last ACK of a remote
write, end their copy. Every word of a read of the host bridge completes it with its bytes; an ACK that refuses an access of the bridge
aborts it. A NOTIFY counts in its
cell's counter. A CONFIRM publishes each half of its tuple that no copy reads; a REVOKE drops it and is answered. A good command packet waits
in ingress FIFO 0x8E1. But for the words of a WR_DATA and the records a trace session spills, no memory changes. -/
def Obligations.FabricPacketsAreConsumed : Prop :=
  ∀ (t p : Nat) (hdr : W256) (data : Bytes) (s : State), takenHere p hdr.toNat (wordsOf data) s = true →
    let h := headerOf hdr.toNat
    let ws := wordsOf data
    let off := offsetOf h.addr
    (h.ty = tyWrData → h.spec = false → spaceOf h.addr = 0 → off % 32 = 0 → s.spanCause h.tenant h.own true false 0 off (32 * ws.length) = 0 →
      ∃ u, exec (.wrData t p hdr data) s = .next u ∧ u.nextSeq 3 = (s.nextSeq 3 + 2) % 2 ^ 32 ∧
        (untraced s → (∀ k, 256 * storeWords ≤ k → tabGet 0 k s.beatWrites ≤ (if h.cell < 256 then h.cell else 0) + 1) → (∀ i < ws.length, u.readSpan h.tenant 0 (off + 32 * i) = ws.getD i 0#256) ∧
          ∀ a, a < off ∨ off + 32 * ws.length ≤ a → memByte u.mem a = memByte s.mem a)) ∧
    (let d := readDesc h ((ws.head?.map BitVec.toNat).getD 0)
     h.ty = tyRdReq → d.length ≠ 0 → d.length % 32 = 0 → s.endCause h.tenant h.own false d = 0 →
      ∃ u, exec (.rdReq t p hdr data) s = .next u ∧ memoryStays s u ∧
        ((s.draw Topic.integrity.num).1 % 2 = 0 → u.nextSeq 2 = (s.nextSeq 2 + (d.rows + 1) * ceilDiv d.length 1024) % 2 ^ 32) ∧
        ((s.draw Topic.integrity.num).1 % 2 = 1 → u.nextSeq 2 = s.nextSeq 2 ∧ u.nextSeq 3 = (s.nextSeq 3 + 2) % 2 ^ 32)) ∧
    (∀ f, h.ty = tyRdData → s.accessOf h = none → s.copies.flights.find? (fun f => f.id == h.xfer && f.peer == some h.src && !s.localAddr f.desc f.desc.src) = some f →
      f.awaiting.headD 0 ≤ ws.length → ∃ u, exec (.rdData t p hdr data) s = .next u ∧ ∀ g ∈ u.copies.flights, g.id ≠ f.id) ∧
    (∀ f, h.ty = tyAck → s.accessOf h = none → h.spec = false → s.copies.flights.find? (fun f => f.id == h.xfer && f.peer == some h.src) = some f → bits h.addr 32 3 = 0 →
      s.localAddr f.desc f.desc.src = true →
      (f.awaiting = [bits h.addr 0 32] → ∃ u, exec (.fabAck t p hdr data) s = .next u ∧ ∀ g ∈ u.copies.flights, g.id ≠ f.id) ∧
      ((∃ n ∈ f.awaiting, n ≠ bits h.addr 0 32) → ∃ u g, exec (.fabAck t p hdr data) s = .next u ∧
        u.copies.flights.find? (fun f => f.id == h.xfer && f.peer == some h.src) = some g ∧
        g.awaiting = f.awaiting.filter (· != bits h.addr 0 32))) ∧
    (∀ x, h.cell = 0xFF → s.bridge.remote.find? (fun x => x.xfer == h.xfer && x.peer == h.src) = some x → s.bridge.waiting = [] →
      (h.ty = tyRdData → x.write = false → x.words = [] → x.missing = x.wordsOf → off = x.wordsOf.headD 0 → ws.length = x.wordsOf.length →
        ∃ u, exec (.rdData t p hdr data) s = .next u ∧ (∀ y ∈ u.bridge.remote, y.xfer ≠ x.xfer) ∧ memoryStays s u ∧
          Output.host (some (((ws.flatMap (fun w => toLE 32 w.toNat)).drop (offsetOf x.addr % 32)).take x.len)) ∈ u.out) ∧
      (h.ty = tyAck → bits h.addr 32 3 ≠ 0 → ∃ u, exec (.fabAck t p hdr data) s = .next u ∧ (∀ y ∈ u.bridge.remote, y.xfer ≠ x.xfer) ∧
        memoryStays s u ∧ Output.host none ∈ u.out ∧ u.reg Addr.BAR2_ABORTS = (s.reg Addr.BAR2_ABORTS + 1) % 2 ^ 32)) ∧
    (∀ c, ws = [] → h.ty = tyNotify → cellOf (spaceOf h.addr) off = some c → s.holdsCell h.tenant h.own c = true →
      ∃ u, exec (.fabNotify t p hdr) s = .next u ∧ u.reg (Addr.ARRIVE c h.ctr) = (s.reg (Addr.ARRIVE c h.ctr) + 1) % 2 ^ 32 ∧ memoryStays s u) ∧
    (∀ z i, ws = [] → (s.copies.zones.map Zone.num).Nodup → (z.entries.map Prod.fst).Nodup → z ∈ s.copies.zones → z.job % 2 ^ 32 = h.job →
      (z.slot i).pending = some (h.src, h.step, h.attempt) →
      (h.ty = tyConfirm → s.slotRead z.num i = false →
        ∃ u z', exec (.fabConfirm t p hdr) s = .next u ∧ z' ∈ u.copies.zones ∧ z'.num = z.num ∧ (z'.slot i).pending = none ∧
          (z'.slot i).cur = 1 - (z.slot i).cur ∧ memoryStays s u) ∧
      (h.ty = tyRevoke →
        ∃ u z', exec (.fabRevoke t p hdr) s = .next u ∧ z' ∈ u.copies.zones ∧ z'.num = z.num ∧ (z'.slot i).pending = none ∧
          (z'.slot i).cur = (z.slot i).cur ∧ u.nextSeq 3 = (s.nextSeq 3 + 2) % 2 ^ 32 ∧ memoryStays s u)) ∧
    (∀ chk : FifoRead, chk.bad = false → h.ty = tyCmd → s.transportOn .fabric = true → s.fifoFits 0x8E1 ws.length = true →
      ∃ u, exec (.fabricPacketReceive t p hdr ⟨data, chk⟩) s = .next u ∧ (u.fifo 0x8E1).pkts = (s.fifo 0x8E1).pkts ++ [⟨ws.length, none, ws⟩] ∧ memoryStays s u)

/-- The host bridge (R327 to R329, R338), up. What the host has written in BAR0 takes effect: EVQ_CONS, the W1C of MBX_STATUS.REPLY, an entry
of the MSI-X table. A doorbell with the mailbox free and enabled takes the request into ingress FIFO 0x8E2 and makes it BUSY; one that the FIFO has no room for is rewound there; with the mailbox not enabled it is counted in AUTH_DROPS; while BUSY it is
counted as an overrun and nothing else changes. An access through an aperture that is not enabled is answered Unsupported Request. A write in time
through an enabled aperture to this device's HBM that is allowed makes its bytes read so and changes no byte outside their words; a read
returns its bytes and changes no memory. A write to another device with a route sends its packets, or first asks for the words it covers in
part; a read asks for its words; either then waits for what the other device answers, and an access behind such a partial write waits. One that leaves its aperture, is not allowed,
has no route or is not in time is a Completer Abort that BAR2_ABORTS counts, and changes nothing else. A function-level reset
clears the apertures, the mailbox, the event ring and the MSI-X table, and keeps which packets were in ingress. -/
def Obligations.BridgeServesTheHost : Prop :=
  ∀ (t : Nat) (s : State), s.bridgeUp = true →
    (∀ (len : Nat) (req : Bar0Write), len < 131072 →
      let v := writeBar0 req (advance t s)
      let ws := wordsOf (slice req.bytes 0 len)
      (v.bridge.cons = req.cons.getD s.bridge.cons % 2 ^ 32 ∧ v.bridge.replyReady = (s.bridge.replyReady && !req.clearReply) ∧
        (∀ e : Nat × Nat, req.msix = [e] → e.1 < 64 → tabGet msixMasked e.1 v.bridge.msix = e.2 % 2 ^ 128 ∧
          ∀ k, k ≠ e.1 → tabGet msixMasked k v.bridge.msix = tabGet msixMasked k s.bridge.msix)) ∧
      ∃ u, exec (.pcieBar0Doorbell t len req) s = .next u ∧ u.mem = s.mem ∧ (req.bell = false → u = v ∧ u.regs = s.regs ∧ u.ports = s.ports) ∧
        (req.bell = true → s.bridge.busy = true → u.bridge = { v.bridge with overrun := (s.bridge.overrun + 1) % 2 ^ 32 } ∧ u.regs = s.regs ∧
          u.ports = s.ports) ∧
        (req.bell = true → s.bridge.busy = false → s.transportOn .mailbox = false → u.bridge = v.bridge ∧ u.ports = s.ports ∧
          u.reg Addr.AUTH_DROPS = (s.reg Addr.AUTH_DROPS + 1) % 2 ^ 32 ∧ sameRegsBut [Addr.AUTH_DROPS] s u) ∧
        (req.bell = true → s.bridge.busy = false → s.transportOn .mailbox = true → s.fifoFits 0x8E2 ws.length = true →
          u.bridge.busy = true ∧ u.bridge.request = slice req.bytes 0 len ∧ (u.fifo 0x8E2).pkts = (s.fifo 0x8E2).pkts ++ [⟨ws.length, none, ws⟩] ∧
          sameRegsBut [Addr.COMMIT_COUNT 0x8E2, Addr.HIGH_WATER 0x8E2] s u) ∧
        (req.bell = true → s.bridge.busy = false → s.transportOn .mailbox = true → s.fifoFits 0x8E2 ws.length = false → u.bridge = v.bridge ∧
          u.ports = s.ports ∧ u.reg (Addr.REWIND_COUNT 0x8E2) = (s.reg (Addr.REWIND_COUNT 0x8E2) + 1) % 2 ^ 32 ∧
          u.reg (Addr.OVERFLOW_COUNT 0x8E2) = (s.reg (Addr.OVERFLOW_COUNT 0x8E2) + 1) % 2 ^ 32 ∧
          sameRegsBut [Addr.REWIND_COUNT 0x8E2, Addr.OVERFLOW_COUNT 0x8E2, Addr.HIGH_WATER 0x8E2] s u)) ∧
    (∀ (offset len : Nat) (data : Bytes) (write inTime : Bool),
      let a := offset / apertureBytes
      let n := if write then data.length else len
      let tenant := s.field (Addr.APERTURE_CFG a) 8 8
      let addr := s.reg (Addr.APERTURE_BASE a) + offset % apertureBytes
      let ty := spaceOf addr
      let off := offsetOf addr
      let lo := off / 32 * 32
      let words := ceilDiv (off % 32 + n) 32
      let cause := s.spanCause tenant none write false ty lo (words * 32)
      let noWay := if deviceOf addr = s.device then cause ≠ 0 else s.joined = false ∨ s.hop s.device (deviceOf addr) = .none
      a < 16 → 1 ≤ n → n ≤ 4096 →
      (s.flag (Addr.APERTURE_CFG a) 0 = false → ∃ u, exec (.pcieBar2Access t write offset len data inTime) s = .next u ∧
        u.out = s.out ++ [.unsupported] ∧ u.regs = s.regs ∧ u.mem = s.mem) ∧
      (s.flag (Addr.APERTURE_CFG a) 0 = true → s.mergeWaits = true → ∃ u, exec (.pcieBar2Access t write offset len data inTime) s = .next u ∧
        u.bridge = { s.bridge with waiting := s.bridge.waiting ++ [⟨write, offset, n, data, inTime⟩] } ∧ u.out = s.out ∧ u.regs = s.regs ∧ u.mem = s.mem) ∧
      (s.flag (Addr.APERTURE_CFG a) 0 = true → s.mergeWaits = false → (apertureBytes < offset % apertureBytes + n ∨ noWay ∨ inTime = false) →
        ∃ u, exec (.pcieBar2Access t write offset len data inTime) s = .next u ∧ u.out = s.out ++ [.host none] ∧
          u.reg Addr.BAR2_ABORTS = (s.reg Addr.BAR2_ABORTS + 1) % 2 ^ 32 ∧ sameRegsBut [Addr.BAR2_ABORTS] s u ∧ u.mem = s.mem) ∧
      (s.flag (Addr.APERTURE_CFG a) 0 = true → s.mergeWaits = false → offset % apertureBytes + n ≤ apertureBytes → ¬ noWay → inTime = true →
        (deviceOf addr = s.device → ty ≤ 1 → write = true → ∃ u, exec (.pcieBar2Access t write offset len data inTime) s = .next u ∧ u.out = s.out ∧
          (∀ i < n, u.readByte tenant (s.hbmAddr ty (off + i) false) = data.getD i 0#8) ∧
          ∀ b, (∀ i < 32 * words, b ≠ s.hbmAddr ty (lo + i) false) → memByte u.mem b = memByte s.mem b) ∧
        (deviceOf addr = s.device → ty ≤ 1 → write = false → ∃ u, exec (.pcieBar2Access t write offset len data inTime) s = .next u ∧ u.mem = s.mem ∧
          u.out = s.out ++ [.host (some ((List.range n).map (fun i => s.readByte tenant (s.hbmAddr ty (off + i) false))))]) ∧
        (deviceOf addr ≠ s.device → write = true → ∃ u, exec (.pcieBar2Access t write offset len data inTime) s = .next u ∧ memoryStays s u ∧
          (off % 32 = 0 → n % 32 = 0 → u.nextSeq 2 = (s.nextSeq 2 + ceilDiv words 32) % 2 ^ 32 ∧
            ∃ r ∈ u.bridge.remote, r.peer = deviceOf addr ∧ r.write = true ∧ r.missing = [] ∧ r.unacked.length = ceilDiv words 32) ∧
          (off % 32 ≠ 0 ∨ n % 32 ≠ 0 → u.nextSeq 2 = s.nextSeq 2 ∧ ∃ r ∈ u.bridge.remote, r.peer = deviceOf addr ∧ r.write = true ∧ r.data = data ∧
            r.missing ≠ [] ∧ u.nextSeq 1 = (s.nextSeq 1 + r.missing.length) % 2 ^ 32)) ∧
        (deviceOf addr ≠ s.device → write = false → ∃ u, exec (.pcieBar2Access t write offset len data inTime) s = .next u ∧ memoryStays s u ∧
          u.nextSeq 1 = (s.nextSeq 1 + 1) % 2 ^ 32 ∧ ∃ r ∈ u.bridge.remote, r.peer = deviceOf addr ∧ r.write = false ∧ r.len = n ∧ r.missing = r.wordsOf))) ∧
    (∃ u, exec (.pcieFlr t) s = .next u ∧ u.bridge = { stale := s.bridge.stale ++ (s.fifo 0x8E2).pkts.map FifoPkt.data } ∧ (∀ a < 16, u.reg (Addr.APERTURE_BASE a) = 0 ∧ u.reg (Addr.APERTURE_CFG a) = 0) ∧
      sameRegsBut ((List.range 16).map Addr.APERTURE_BASE ++ (List.range 16).map Addr.APERTURE_CFG) s u ∧ u.mem = s.mem)

/-! Integrity and field tests -/

/-- The integrity commands (R379, R392 to R394, R398, R400) by the owner in a session that is ready. RECOAT_SET sets the fraction code of its pool
and no other register. INTEGRITY_STATUS returns 16 bytes for each cell of its mask. FENCE_CELL leaves the last cell of its mask FENCED,
with its flag of FENCED where it was not so before the command and is the mask's only cell. TEST_PACK_LOAD of a pack in the owner's windows
answers BAD_PARAM for a malformed one, SIG_FAIL for signatures that do not verify, BAD_PARAM for one that needs a later firmware, and else
OK: between tests PACK_ID is its number. TEST_RUN of runnable cells queues them. SIGNATURE_READ returns at most the records asked for, and
asked for the newest one returns it. Memory stays, but for what a fence does to the jobs it restarts. -/
def Obligations.IntegrityCommandsComplete : Prop :=
  ∀ (c : Cmd) (x : Session) (s : State) (p : Bytes), ready c x s = true → x.tenant = owner →
    let b := begun c x s
    (p.length = 4 → zerosAt p 2 2 = true → (byteAt p 0 = 0 ∧ byteAt p 1 ≤ 5 ∨ byteAt p 0 = 1 ∧ byteAt p 1 ≤ 3) →
      completes (.recoatSet c p) 0x0700 c x s ok (fun t =>
        t.field Addr.INT_CTRL 1 3 = (if byteAt p 0 = 0 then byteAt p 1 else b.field Addr.INT_CTRL 1 3) ∧
        t.field Addr.INT_CTRL 4 3 = (if byteAt p 0 = 1 then byteAt p 1 else b.field Addr.INT_CTRL 4 3) ∧
        t.flag Addr.INT_CTRL 0 = b.flag Addr.INT_CTRL 0 ∧ sameRegsBut [Addr.INT_CTRL] b t ∧ sameMemory s t)) ∧
    (p.length = 32 → ∃ r, r.status = St.OK ∧ r.params.length = 16 * (cellMask p 0).length ∧
      completes (.integrityStatus c p) 0x0702 c x s r (fun t => t = b)) ∧
    (p.length = 32 → completes (.fenceCell c p) 0x0704 c x s ok (fun t =>
      (∀ i, (cellMask p 0).getLast? = some i → t.cellState i = 3) ∧
      (∀ i, cellMask p 0 = [i] → b.cellState i ≠ 3 → t.flag (Addr.FENCED (i / 32)) (i % 32) = true ∧ t.reg (Addr.HOLDER i) = 0) ∧
      (cellMask p 0 = [] → t = b))) ∧
    (p.length = 12 → be p 8 4 ≤ 16777216 → b.inWindows owner (be p 0 8) (be p 8 4) false = true →
      let w := b.readBytes owner (be p 0 8) (be p 8 4)
      (readTestPack w (be p 8 4) = none → completes (.testPackLoad c p) 0x0708 c x s (st St.BAD_PARAM) (fun t => t = b)) ∧
      (∀ k, readTestPack w (be p 8 4) = some k →
        let signed := verifyPair (Config.vendorKey 1) (w.take (le w 16 8)) (w.drop (le w 16 8))
        (signed = false → completes (.testPackLoad c p) 0x0708 c x s (st St.SIG_FAIL) (fun t => t = b)) ∧
        (signed = true → b.field Addr.FW_VERSION 8 16 < le w 14 2 → completes (.testPackLoad c p) 0x0708 c x s (st St.BAD_PARAM) (fun t => t = b)) ∧
        (signed = true → le w 14 2 ≤ b.field Addr.FW_VERSION 8 16 → completes (.testPackLoad c p) 0x0708 c x s ok (fun t =>
          (b.integ.testing = none → t.integ.kernels = k.2 ∧ t.reg Addr.PACK_ID = k.1 % 2 ^ 64) ∧
          (b.integ.testing ≠ none → t.integ.nextPack = some k ∧ t.integ.kernels = b.integ.kernels ∧ ∀ a, (∀ m < 16, a ≠ Addr.RD_BYTES m) → t.reg a = b.reg a) ∧
          sameMemory s t)))) ∧
    (p.length = 32 → b.integ.kernels ≠ [] → (∀ i ∈ cellMask p 0, b.runnable i = true) →
      completes (.testRun c p) 0x070A c x s (st St.ACCEPTED) (fun t => t.integ.queue = b.integ.queue ++ cellMask p 0 ∧ t.regs = b.regs ∧ sameMemory s t)) ∧
    (p.length = 2 → 1 ≤ byteAt p 1 → byteAt p 1 ≤ 64 → ∃ r, r.status = St.OK ∧ be r.params 0 1 ≤ byteAt p 1 ∧
      (∀ k, byteAt p 1 = 1 → b.integ.sigs.getLast? = some k → b.integ.sigs.length ≤ 256 → b.integ.sigs.length ≤ b.reg Addr.SIGNATURES →
        byteAt p 0 = (b.reg Addr.SIGNATURES - 1) % 256 → r.params = toBE 1 1 ++ toBE 3 0 ++ toBE 2 k.length ++ k) ∧
      completes (.signatureRead c p) 0x070C c x s r (fun t => t = b))

/-- Fences, field tests and scrubbing (R368, R383, R390 to R393, R481). CELL_ACK_TIMEOUT of a cell of an attached cluster and CELL_FENCE leave the
cell FENCED, with its flag in FENCED set, its records to be reported, out of any test; in a handover the cell only launches no more, and the
rest of the fence waits. FENCE_RECLAIM_DONE reports the records. FIELD_TEST_START takes the
next cell named, or the one tested longest ago when the interval is over, of a cluster that launches on this beat. TEST_KERNEL_DONE of a kernel that passes goes on to the next, or
passes the cell and counts it; of one that fails ends with the cell FENCED. TEST_STALE_CHECK sets STALE for just the cells whose last pass is too old. SCRUB_READ
counts a corrected word, and counts and records an uncorrectable one. -/
def Obligations.FencesTestsAndScrubs : Prop :=
  ∀ (t : Nat) (s : State) (c : Nat), c < 256 →
    let fenced (u : State) : Prop := u.cellState c = 3 ∧ u.flag (Addr.FENCED (c / 32)) (c % 32) = true ∧ u.integ.testing ≠ some c ∧
      (u.cellx c).reclaim.isSome = true ∧ (u.cellx c).qualified = false
    let decided (u : State) : Prop := (s.stage ≠ 2 → fenced u) ∧ (s.stage = 2 → (∀ h ∈ s.integ.heldFences, h.2.cell ≠ c) →
      (∃ h ∈ u.integ.heldFences, h.2.cell = c) ∧ c ∉ u.beat.released ∧ u.cells = s.cells ∧ u.regs = s.regs ∧ u.mem = s.mem)
    (s.cellState c ≠ 3 → s.cellState c ≠ 0 → s.detached (c / 16) = false → s.beat.lastIssue + us (s.reg Addr.CELL_ACK_TIMEOUT) ≤ t →
      ∃ u, exec (.cellAckTimeout t c) s = .next u ∧ decided u) ∧
    (∀ kind, s.on = true → 1 ≤ kind → kind ≤ 7 → s.cellState c ≠ 3 → ∃ u, exec (.cellFence t c kind) s = .next u ∧ decided u) ∧
    (∀ n, s.limik = true → (s.cellx c).reclaim = some n →
      ∃ u, exec (.fenceReclaimDone t c) s = .next u ∧ (u.cellx c).reclaim = none ∧ u.mem = s.mem ∧
        sameRegsBut eventRegs s u) ∧
    (s.limik = true → s.integ.testing = none → s.integ.kernels ≠ [] → s.bulkLaunches (c / 16) = true →
      ((s.integ.queue.head? = some c ∧ s.runnable c = true) ∨ (s.integ.queue = [] ∧ s.flag Addr.TEST_CTRL 0 = true ∧ s.oldestTested = some c ∧
        ∀ l, s.integ.lastStart = some l → l + secs (s.reg Addr.TEST_INTERVAL) ≤ t)) →
      ∃ u, exec (.fieldTestStart t) s = .next u ∧ u.integ.testing = some c ∧ u.integ.queue = s.integ.queue.tail ∧ (u.cellx c).kernel = 0 ∧
        u.flag (Addr.CELL_STATE c) 6 = true ∧ u.cellState c = s.cellState c ∧ sameRegsBut [Addr.CELL_STATE c] s u ∧ u.mem = s.mem) ∧
    (∀ (crc : W32) flagged beats, s.limik = true → s.integ.testing = some c →
      let i := (s.cellx c).kernel
      let k := s.integ.kernels.getD i (0, 0)
      let good := crc.toNat = k.1 ∧ flagged = false ∧ beats ≤ k.2
      ∃ u, exec (.testKernelDone t c crc flagged beats) s = .next u ∧
        (good → i + 1 < s.integ.kernels.length → (u.cellx c).kernel = i + 1 ∧ u.integ.testing = some c ∧ u.regs = s.regs ∧ u.mem = s.mem) ∧
        (good → s.integ.kernels.length ≤ i + 1 → u.integ.testing = none ∧ (u.cellx c).testResult = 1 ∧ (u.cellx c).lastPass = max s.now t ∧
          u.flag (Addr.CELL_STATE c) 6 = false ∧ u.reg Addr.TEST_PASSES = (s.reg Addr.TEST_PASSES + 1) % 2 ^ 32 ∧
          u.flag (Addr.STALE (c / 32)) (c % 32) = false ∧ u.mem = s.mem) ∧
        (¬ good → u.integ.testing ≠ some c ∧ u.cellState c = 3 ∧ (s.cellState c ≠ 3 → fenced u))) ∧
    (s.limik = true → ∃ u, exec (.testStaleCheck t) s = .next u ∧
      let x := s.cellx c
      u.flag (Addr.STALE (c / 32)) (c % 32) = decide (x.testResult ≠ 0 ∧ x.lastPass ≠ 0 ∧ x.lastPass + secs (3600 * s.reg Addr.TEST_MAX_AGE) < t) ∧
      sameRegsBut ((List.range 8).map Addr.STALE ++ eventRegs) s u ∧ u.mem = s.mem) ∧
    (∀ m offset error, s.on = true → m < 16 → offset < stackBytes → offset % 32 = 0 → error ≤ 2 → s.flag (Addr.HBM_STATUS m) 0 = true →
      ∃ u, exec (.scrubRead t m offset error) s = .next u ∧ u.mem = s.mem ∧
        u.reg (Addr.HBM_C256_CORR m) = (if error = 1 then (s.reg (Addr.HBM_C256_CORR m) + 1) % 2 ^ 32 else s.reg (Addr.HBM_C256_CORR m)) ∧
        (if error = 2 then u.reg (Addr.C256_UNCORR m) = (s.reg (Addr.C256_UNCORR m) + 1) % 2 ^ 32 ∧ u.reg (Addr.LAST_UNCORR m) = offset
          else u.reg (Addr.C256_UNCORR m) = s.reg (Addr.C256_UNCORR m) ∧ u.reg (Addr.LAST_UNCORR m) = s.reg (Addr.LAST_UNCORR m)) ∧
        sameRegsBut ([Addr.HBM_C256_CORR m, Addr.C256_UNCORR m, Addr.LAST_UNCORR m, Addr.SCRUB_PASSES] ++ eventRegs) s u)

/-! Power -/

/-- The power commands (R405 to R407, R413, R417, R418) of a session that is ready, all but ENERGY_READ by the owner. CAP_SET stores the cap and its
window, and answers CAP_UNREACHABLE for a cap below FLOOR_EST and else OK. CAP_PRIORITY_SET stores the three classes, most protected first.
POWER_STATUS returns 192 bytes. PRIMER_RUN of clusters neither detached nor holding a job queues them. ENERGY_READ of identifier 0 returns
ENERGY to the owner and withholds it from any other tenant; of a live job that no other tenant's shared with, its tenure's energy so far. None
writes memory, and the reads change nothing. -/
def Obligations.PowerCommandsComplete : Prop :=
  ∀ (c : Cmd) (x : Session) (s : State) (p : Bytes), ready c x s = true →
    let b := begun c x s
    (x.tenant = owner → p.length = 4 → byteAt p 3 = 0 → 1100 ≤ be p 0 2 → be p 0 2 ≤ 3000 → 1 ≤ byteAt p 2 → byteAt p 2 ≤ 30 →
      completes (.capSet c p) 0x0800 c x s (st (if be p 0 2 < b.reg Addr.FLOOR_EST then St.CAP_UNREACHABLE else St.OK)) (fun t =>
        t.reg Addr.CAP = be p 0 2 ∧ t.reg Addr.CAP_WINDOW = byteAt p 2 ∧ sameRegsBut [Addr.CAP, Addr.CAP_WINDOW] b t ∧ sameMemory s t)) ∧
    (x.tenant = owner → p.length = 4 → byteAt p 3 = 0 → [byteAt p 0, byteAt p 1, byteAt p 2].Nodup → (∀ i < 3, byteAt p i ≤ 2) →
      completes (.capPrioritySet c p) 0x0808 c x s ok (fun t => t.priority = [byteAt p 0, byteAt p 1, byteAt p 2] ∧
        sameRegsBut [Addr.CAP_PRIORITY] b t ∧ sameMemory s t)) ∧
    (x.tenant = owner → p = [] → ∃ r, r.status = St.OK ∧ r.params.length = 192 ∧ r.params.take 4 = toBE 4 (b.wordAt 0x20000) ∧
      completes (.powerStatus c p) 0x0802 c x s r (fun t => t = b)) ∧
    (x.tenant = owner → p.length = 2 → (∀ k ∈ setBits (be p 0 2) 16, b.detached k = false ∧ ∀ i ∈ clusterCells k, b.jobOfCell i = none) →
      completes (.primerRun c p) 0x0804 c x s (st St.ACCEPTED) (fun t =>
        (∀ k, k ∈ t.power.primers ↔ k ∈ b.power.primers ∨ k ∈ setBits (be p 0 2) 16) ∧ t.regs = b.regs ∧ sameMemory s t)) ∧
    (p.length = 8 → be p 0 8 = 0 → completes (.energyRead c p) 0x0806 c x s
      ⟨St.OK, toBE 8 (if x.tenant = owner then b.reg Addr.ENERGY else 0) ++ toBE 1 (if x.tenant = owner then 0 else 4) ++ zeros 7⟩ (fun t => t = b)) ∧
    (∀ j, p.length = 8 → be p 0 8 ≠ 0 → (b.jobs.filter (fun j => j.tenant == c.tenant && j.id == be p 0 8)).getLast? = some j →
      j.live = true → j.foreign = false → j.energy0 ≤ b.reg Addr.ENERGY → completes (.energyRead c p) 0x0806 c x s
        ⟨St.OK, toBE 8 (b.reg Addr.ENERGY - j.energy0) ++ toBE 1 (b2n j.shared + 2 * b2n j.inl + 8) ++ zeros 7⟩ (fun t => t = b))

/-- Power as it is measured and estimated, and the heat (R402, R403, R406, R409, R411, R413, R416). CAP_CONTROL_LOOP a millisecond after the last
one sets CAP_EFFECTIVE to the least of CAP, the derated cap and THERMAL_CAP, and P_EST to the estimate; with CAP_EFFECTIVE below FLOOR_EST,
CAP_UNREACHABLE is set, and while it is every need is at its greatest. EST_GAIN_UPDATE moves the gain a sixteenth
of the way to the energy measured since the last update over the estimates of the last hundred milliseconds. POWER_SAMPLE sets VIN, less 0.3 V after a sense fault, and IIN, and
adds the product to ENERGY. A member's needs reach the manager. The group ratio is in force from its beat, each setting the higher of ratio and
need. THERMAL_SAMPLE records the hottest die and stack and steps THERMAL_CAP; a die at 125 degrees or a stack at 105 trips the device. Primer passes (R405) while firmware runs, on a cluster below 16. With no pass under way and a cluster queued that has no INLINE cell, its pass begins:
it halts, and PRIMER_ACTIVE is set; one with INLINE cells waits. A part that is over goes on to the next, kernel 1 with its measured margin; a
kernel made void by a calm change runs once more. The last one ends the pass: its margin is in CL_ACK_MARGIN, marked valid, PRIMER_LAST is the
present beat and PRIMER_ACTIVE is clear. -/
def Obligations.PowerFollowsItsSamples : Prop :=
  (∀ (t : Nat) (s : State),
    (∀ l, s.limik = true → s.power.lastLoop + ms 1 ≤ t →
      ∃ u, exec (.capControlLoop t l) s = .next u ∧ u.reg Addr.CAP_EFFECTIVE = s.effectiveCap ∧ u.power.lastLoop = max s.now t ∧
        u.reg Addr.P_EST = min 65535 (s.inputWatts (s.estRaw l)) ∧
        (s.effectiveCap < u.reg Addr.FLOOR_EST → u.flag Addr.PWR_STATUS 0 = true) ∧ (u.flag Addr.PWR_STATUS 0 = true → u.calmNeed = (256, 224, 224))) ∧
    (s.limik = true → 0 < (s.power.hist.take 100).sum →
      let measured := (s.reg Addr.ENERGY + 2 ^ 64 - s.power.energyAt) % 2 ^ 64
      let estimated := 1000 * (s.power.hist.take 100).sum
      ∃ u, exec (.estGainUpdate t) s = .next u ∧ u.mem = s.mem ∧ u.power.energyAt = s.reg Addr.ENERGY ∧
        (u.reg Addr.EST_GAIN : Int) = max 0 (min 65535 ((s.reg Addr.EST_GAIN : Int) +
          (((measured * 16384 / estimated : Nat) : Int) - s.reg Addr.EST_GAIN) / 16)) ∧
        sameRegsBut ([Addr.EST_GAIN, Addr.EST_ERR] ++ eventRegs) s u) ∧
    (∀ mv ma, s.on = true → ∃ u, exec (.powerSample t mv ma) s = .next u ∧ u.mem = s.mem ∧
      u.reg Addr.VIN = min (if bitAt s.module.persists 2 || bitAt s.module.persists 3 then mv - 300 else mv) 131071 ∧ u.reg Addr.IIN = min ma 131071 ∧
      u.reg Addr.ENERGY = (s.reg Addr.ENERGY + (s.power.frac + mv * ma) / 100000) % 2 ^ 64 ∧
      (s.power.msCount + 1 < 100 → u.reg Addr.P_IN_MEAS = s.reg Addr.P_IN_MEAS) ∧
      (s.power.msCount = 99 → u.reg Addr.P_IN_MEAS = min 65535 ((s.power.msSum + mv * ma) / 100 / 1000000)) ∧
      sameRegsBut [Addr.VIN, Addr.IIN, Addr.ENERGY, Addr.P_IN_MEAS] s u) ∧
    (∀ m b c f, s.isManager = true → s.group.live.contains m = true → b < 512 → c < 512 → f < 512 →
      ∃ u, exec (.calmNeedReport t m b c f) s = .next u ∧ tabGet 0 m u.group.needs = b + c * 2 ^ 9 + f * 2 ^ 18 ∧ memoryStays s u) ∧
    (∀ b c f n, s.group.calm = [b, c, f, n] → s.joined = true → n ≤ s.zc → b < 512 → c < 512 → f < 512 →
      let (nb, nc, nf) := s.calmNeed
      ∃ u, exec (.groupCalmApply t) s = .next u ∧ u.group.calm = [] ∧ u.reg Addr.CALM_BULK = max nb b ∧ u.reg Addr.CALM_COPY = max nc c ∧
        u.reg Addr.CALM_FABRIC = max nf f ∧ u.flag Addr.PWR_STATUS 5 = true) ∧
    (∀ dies hbms, s.on = true → dies.length = 5 → hbms.length = 16 →
      let tj := (hottest dies).1
      let th := (hottest hbms).1
      ∃ u, exec (.thermalSample t dies hbms) s = .next u ∧ u.module.tj = tj ∧ u.module.hbmT = th ∧
        (125 ≤ tj ∨ 105 ≤ th → u.on = false ∧ u.module.tripped = true ∧ u.sessions = [] ∧ u.jobs = []) ∧
        (tj < 125 → th < 105 → u.reg Addr.TJ_MAX = unsigned 8 tj + (hottest dies).2 * 256 ∧ u.reg Addr.HBM_TMAX = unsigned 8 th + (hottest hbms).2 * 256 ∧
          ((s.reg Addr.TJ_LIMIT : Int) < tj → u.reg Addr.THERMAL_CAP = s.reg Addr.THERMAL_CAP - 50 ∧ u.flag Addr.PWR_STATUS 3 = true) ∧
          (tj < (s.reg Addr.TJ_LIMIT : Int) - 3 → u.reg Addr.THERMAL_CAP = min 3000 (s.reg Addr.THERMAL_CAP + 10)) ∧
          (∀ i < 16, u.field (Addr.HBM_STATUS i) 8 8 = unsigned 8 (hbms.getD i 0)))) ∧
    (s.on = true → (125 ≤ s.module.tj ∨ 105 ≤ s.module.hbmT) →
      ∃ u, exec (.thermalTrip t) s = .next u ∧ u.on = false ∧ u.module.tripped = true ∧ u.sessions = [] ∧ u.jobs = [])) ∧
  (∀ (t k : Nat) (margin : Int) (s : State), s.limik = true → k < 16 →
    (s.power.primer = none → s.power.primers.head? = some k → (s.cellsIn k 1) = [] →
      ∃ u, exec (.primerPhase t margin) s = .next u ∧ u.power.primer = some (k, 0, max s.now t) ∧ k ∉ u.power.primers ∧ u.halted k = true ∧
        u.flag Addr.PWR_STATUS 7 = true ∧ u.flag (Addr.CL_STATE k) 2 = true ∧ u.mem = s.mem) ∧
    (s.power.primer = none → s.power.primers.head? = some k → (s.cellsIn k 1) ≠ [] →
      ∃ u, exec (.primerPhase t margin) s = .next u ∧ u.power = s.power ∧ u.flag (Addr.PRIMER_STATUS k) 1 = true ∧
        sameRegsBut [Addr.PRIMER_STATUS k] s u ∧ u.mem = s.mem) ∧
    (∀ ph since, s.power.primer = some (k, ph, since) → since + ms (if ph = 0 then 2 else 5) ≤ t → ph < 4 → (ph = 0 ∨ s.power.voided = false) →
      ∃ u, exec (.primerPhase t margin) s = .next u ∧ u.power.primer = some (k, ph + 1, max s.now t) ∧ u.power.voided = false ∧
        u.power.margin = (if ph = 1 then margin else s.power.margin) ∧ u.regs = s.regs ∧ u.mem = s.mem) ∧
    (∀ ph since, s.power.primer = some (k, ph, since) → since + ms 5 ≤ t → 0 < ph → s.power.voided = true →
      ∃ u, exec (.primerPhase t margin) s = .next u ∧ u.power.primer = some (k, ph, max s.now t) ∧ u.power.voided = false ∧ u.regs = s.regs ∧ u.mem = s.mem) ∧
    (∀ ph since, s.power.primer = some (k, ph, since) → since + ms 5 ≤ t → 4 ≤ ph → s.power.voided = false →
      ∃ u, exec (.primerPhase t margin) s = .next u ∧ u.power.primer = none ∧ u.reg (Addr.CL_ACK_MARGIN k) = unsigned 16 s.power.margin + 65536 ∧
        u.reg (Addr.PRIMER_LAST k) = s.zc ∧ u.flag (Addr.PRIMER_STATUS k) 0 = true ∧ u.flag Addr.PWR_STATUS 7 = false ∧ u.mem = s.mem))

/-! Observation -/

/-- The observation commands (R424, R425, R430, R432, R435 to R439, R441) of a session that is ready. FREEZE by the owner for a beat at least 8,000
ahead, nothing frozen or pending, is accepted: in DEVICE scope for this device, in GROUP scope by the manager through the log. TRACE_ARM with
parameters in range, no session open, its sources the sender's and its spill region good, opens the session with empty rings; with operation 2
it ends the one open. TRACE_READ returns the records from an index, as many as are asked for and held. DUMP_ARM arms a dump of a region
of a live job under a free number. SWATCH_SET adds a swatch to it, or removes one. WAITFOR_READ returns a graph stamped with ZC_ROOT and
changes nothing. None writes memory, but for the records of the packets by which a GROUP scope tells the other members. -/
def Obligations.ObservationCommandsComplete : Prop :=
  ∀ (c : Cmd) (x : Session) (s : State) (p : Bytes), ready c x s = true →
    let b := begun c x s
    let e := envOf c x
    (x.tenant = owner → p.length = 12 → byteAt p 8 ≤ 1 → zerosAt p 9 3 = true → b.zc + 8000 ≤ be p 0 8 → b.obs.freezeAt = none →
      (∀ r ∈ b.group.pendingLog, r.kind ≠ 6) → (byteAt p 8 = 1 → b.isManager = true) →
      completes (.freeze c p) 0x0900 c x s (st St.ACCEPTED) (fun t =>
        (byteAt p 8 = 0 → t.obs.freezeAt = some (be p 0 8, false) ∧ t.flag Addr.FREEZE_STATUS 1 = true ∧ t.flag Addr.FREEZE_STATUS 2 = false ∧
          t.group = b.group ∧ sameRegsBut [Addr.FREEZE_STATUS] b t ∧ sameMemory s t) ∧
        (byteAt p 8 = 1 → t.obs.freezeAt = none ∧ t.group.pendingLog = b.group.pendingLog ++
          [⟨b.reg Addr.LOG_INDEX + b.group.pendingLog.length + 1, b.reg Addr.TERM, 6, [be p 0 8]⟩] ∧
          (untraced b → sameRegsBut sendRegs b t) ∧ memoryStays b t))) ∧
    (p.length = 88 → byteAt p 0 = 0 → traceReservedOk p = true → traceFieldsOk p = true → b.obs.trace = none →
      let y := traceOf e p
      (y.tenant ≠ owner → y.groups = [] ∧ ∀ i ∈ y.cells, b.cellState i ≠ 0 ∧ b.cellTenant i = y.tenant) →
      spillRefused y (be p 48 8) (be p 56 4) b = none →
      completes (.traceArm c p) 0x0904 c x s ok (fun t => t.obs.trace.isSome = true ∧
        (y.group = false ∨ b.joined = false → t.obs.trace = some y ∧ (∀ d < 4, t.ring d = default ∧ t.reg (Addr.RING_WRITTEN d) = 0) ∧ sameMemory s t) ∧
        t.traceMode = byteAt p 1 ∧ t.flag Addr.TRACE_CTRL 2 = true ∧ t.flag Addr.TRACE_CTRL 3 = false ∧ t.reg Addr.TRACE_SP = byteAt p 2 ∧
        t.reg Addr.TRIG_CAUSE = 0 ∧ (be p 56 4 = 0 → sameMemory s t))) ∧
    (∀ y, p.length = 88 → byteAt p 0 = 2 → traceReservedOk p = true → b.obs.trace = some y → (x.tenant = owner ∨ y.tenant = c.tenant) →
      completes (.traceArm c p) 0x0904 c x s ok (fun t => t.obs.trace = none ∧ t.reg Addr.TRACE_CTRL = 0 ∧ sameMemory s t)) ∧
    (p.length = 16 → byteAt p 0 ≤ 3 → zerosAt p 1 3 = true → 1 ≤ be p 12 4 → be p 12 4 ≤ 2048 →
      (x.tenant = owner ∨ b.obs.trace.any (fun y => y.tenant == c.tenant) = true) →
      let r := b.ring (byteAt p 0)
      let l := (r.recs.drop (be p 4 8 - r.first)).take (be p 12 4)
      ∃ q, q.status = St.OK ∧ (r.first ≤ be p 4 8 → q.params = toBE 8 (be p 4 8 + l.length) ++ l.flatMap (fun w => toLE 32 w.toNat)) ∧
        completes (.traceRead c p) 0x0906 c x s q (fun t => t = b)) ∧
    (∀ j r i, p.length = 32 → byteAt p 10 ≤ 3 → byteAt p 11 ≤ 15 → b.job c.tenant (be p 0 8) = some j → j.live = true → j.imageRegion (be p 8 2) = some r →
      bitAt (byteAt p 10) 0 = false → j.regionBytes r ≤ be p 28 4 → b.inWindows c.tenant (be p 20 8) (be p 28 4) true = true →
      (List.range 4).find? (fun i => !j.dumps.any (fun d => d.num == i)) = some i →
      completes (.dumpArm c p) 0x0908 c x s ⟨St.OK, toBE 1 i⟩ (fun t => t.regs = b.regs ∧ sameMemory s t ∧
        ∃ d, d.num = i ∧ d.region = be p 8 2 ∧ d.dst = be p 20 8 ∧ d.len = be p 28 4 ∧ d.fired = none ∧
          d.bySwatch = (if bitAt (byteAt p 10) 1 then some (byteAt p 11) else none) ∧ d.step = be p 12 8 ∧
          (t.job c.tenant (be p 0 8)).map Job.dumps = some (j.dumps ++ [d]))) ∧
    (∀ j r, p.length = 40 → byteAt p 10 ≤ 15 → b.job c.tenant (be p 0 8) = some j → j.live = true →
      (byteAt p 11 = 0 → j.imageRegion (be p 8 2) = some r → be p 36 4 ≠ 0 → be p 28 8 % 32 = 0 →
        b.inWindows j.tenant (be p 28 8) (32 + 64 * be p 36 4) true = true →
        completes (.swatchSet c p) 0x090A c x s ok (fun t => t.regs = b.regs ∧ sameMemory s t ∧ ∃ k, t.job c.tenant (be p 0 8) = some k ∧
          ∀ w, w ∈ k.swatches ↔ (w ∈ j.swatches ∧ w.index ≠ byteAt p 10) ∨
            w = ⟨byteAt p 10, be p 8 2, be p 12 4, be p 16 4, be p 20 4, be p 24 4, be p 28 8, be p 36 4, 0⟩)) ∧
      (byteAt p 11 = 1 → (∃ w ∈ j.swatches, w.index = byteAt p 10) →
        completes (.swatchSet c p) 0x090A c x s ok (fun t => t.regs = b.regs ∧ sameMemory s t ∧
          (t.job c.tenant (be p 0 8)).map Job.swatches = some (j.swatches.filter (fun w => w.index != byteAt p 10))))) ∧
    (p.length = 16 → byteAt p 0 = 0 → zerosAt p 1 7 = true → ∃ q, q.status = St.OK ∧ q.params.take 8 = toBE 8 b.zc ∧
      completes (.waitforRead c p) 0x090C c x s q (fun t => t = b))

/-- Captures, stipples, triggers, dumps and hangs (R424, R427, R431 to R433, R437, R440). FREEZE_CAPTURE as beat N is due: every shadowed register that
is kept as it is read has its value in its shadow, FREEZE_ID counts and FREEZE_ZC is N. STIPPLE_SAMPLE of a source on its beat: its record is the
latest of its die's ring, in the place of the oldest once the ring is full, which LOST counts; where 131,072 records wait for the spill, it is dropped
and LOST counts it. TRACE_TRIGGER of the lowest armed cause met: the
session has fired, with the cause and ZC_ROOT, and every ring takes POST_COUNT records more. DUMP_COPY_DONE without a fault writes what the dump
captured at its destination; with one, or outside the tenant's windows, it forgets the dump; of a job being restarted it arms it again.
HANG_TIMEOUT_EXPIRY of a RUNNING job that is neither suspended nor halted and has not moved counts one suspect. -/
def Obligations.ObservationEventsRecord : Prop :=
  ∀ (t : Nat) (s : State),
    (∀ n g, s.obs.freezeAt = some (n, g) → s.on = true → n ≤ s.zc + 1 → n < 2 ^ 64 →
      ∃ u, exec (.freezeCapture t) s = .next u ∧ u.obs.freezeAt = none ∧ u.reg Addr.FREEZE_ID = (s.reg Addr.FREEZE_ID + 1) % 2 ^ 32 ∧
        u.reg Addr.FREEZE_ZC = n ∧ u.flag Addr.FREEZE_STATUS 0 = true ∧ u.mem = s.mem ∧
        (∀ a, isShadowed a = true → a ∉ derivedAddrs → u.shadowOf a = s.reg a)) ∧
    (∀ x source, s.obs.trace = some x → s.on = true →
      let d := sourceDie source
      let l := x.sources d
      l.contains source = true → sampledOn (s.reg Addr.TRACE_SP) (l.idxOf source) l.length s.zc = true →
      (x.tenant = owner ∨ (s.cellTenant source = x.tenant ∧ x.left.contains source = false)) → s.flag Addr.TRACE_CTRL 4 = false → (s.ring d).stopped = false →
      ((s.spillRecords ≠ 0 ∧ 131072 ≤ s.backlog (s.ring d)) →
        ∃ u, exec (.stippleSample t source) s = .next u ∧ (u.ring d).recs = (s.ring d).recs ∧ (u.ring d).dropped = (s.ring d).dropped + 1 ∧
          u.reg (Addr.LOST d) = (s.reg (Addr.LOST d) + 1) % 2 ^ 32 ∧ u.reg (Addr.RING_WRITTEN d) = s.reg (Addr.RING_WRITTEN d) ∧ u.mem = s.mem) ∧
      (¬ (s.spillRecords ≠ 0 ∧ 131072 ≤ s.backlog (s.ring d)) → (s.ring d).dropped = 0 → (s.ring d).post = none →
      (s.traceMode = 1 → (s.ring d).recs.length + 1 ≠ s.ringCapacity) →
      ∃ u, exec (.stippleSample t source) s = .next u ∧ u.reg (Addr.RING_WRITTEN d) = (s.reg (Addr.RING_WRITTEN d) + 1) % 2 ^ 32 ∧
        (u.ring d).recs.getLast? = some ((advance t s).stipple source) ∧
        ((s.ring d).recs.length < s.ringRoom → (u.ring d).recs.dropLast = (s.ring d).recs ∧ u.reg (Addr.LOST d) = s.reg (Addr.LOST d)) ∧
        (s.ringRoom ≤ (s.ring d).recs.length → (u.ring d).recs.dropLast = (s.ring d).recs.tail ∧ (u.ring d).first = (s.ring d).first + 1 ∧
          u.reg (Addr.LOST d) = (s.reg (Addr.LOST d) + 1) % 2 ^ 32))) ∧
    (∀ x cause detail, s.obs.trace = some x → s.on = true → s.traceMode = 2 → s.flag Addr.TRACE_CTRL 2 = true → s.flag Addr.TRACE_CTRL 3 = false →
      lowestCause (s.causesMet x) = some cause →
      ∃ u, exec (.traceTrigger t cause s.device detail) s = .next u ∧ u.flag Addr.TRACE_CTRL 3 = true ∧ u.reg Addr.TRIG_ZC = s.zc ∧
        u.reg Addr.TRIG_CAUSE = cause + s.device * 256 ∧ (x.group = false ∨ s.joined = false → ∀ d < 4, (u.ring d).post = some (s.reg Addr.POST_COUNT))) ∧
    (∀ tenant id num fault j d, s.job tenant id = some j → j.dumps.find? (fun d => d.num == num && d.fired.isSome) = some d →
      let others := j.dumps.filter (fun y => y.num != num)
      ∃ u, exec (.dumpCopyDone t tenant id num fault) s = .next u ∧
        (fault = 0 → j.live = true → j.state ≠ 4 → s.inWindows tenant d.dst d.len true = true →
          (u.job tenant id).map Job.dumps = some others ∧ u.mem = (s.writeBytes tenant d.dst d.content).mem) ∧
        (fault ≠ 0 ∨ s.inWindows tenant d.dst d.len true = false → j.live = true → j.state ≠ 4 → (u.job tenant id).map Job.dumps = some others ∧ u.mem = s.mem) ∧
        (j.live = false ∨ j.state = 4 → u.mem = s.mem ∧
          (u.job tenant id).map Job.dumps = some (j.dumps.map (fun y => if y.num = num then { y with fired := none, content := [] } else y)))) ∧
    (∀ tenant id j, s.job tenant id = some j → s.limik = true → j.state = 0 → s.flag Addr.PWR_STATUS 1 = false → (∀ k ∈ j.clusters, s.halted k = false) →
      j.lastProgress + ms (s.reg Addr.HANG_TIMEOUT) ≤ t →
      ∃ u, exec (.hangTimeoutExpiry t tenant id) s = .next u ∧ u.reg Addr.HANG_SUSPECTS = (s.reg Addr.HANG_SUSPECTS + 1) % 2 ^ 32 ∧
        (u.job tenant id).map Job.lastProgress = some t ∧ u.mem = s.mem ∧
        sameRegsBut ([Addr.HANG_SUSPECTS] ++ eventRegs) s u)

/-! Security and tenancy -/

/-- The tenancy and key commands (R446, R448, R456, R457, R460, R461, R465) of a session that is ready. ATTEST keeps the contents of the report it owes.
TENANT_CREATE by the owner of a tenant that does not exist makes it ACTIVE with its quotas and credential and extends MEAS_3; its update sets the
quotas. TENANT_DESTROY of a tenant that no intake names leaves it DESTROYING with no session, and, but for a flip that holds this back, with no
window, zone, job or signer. KEY_INSTALL sets a data key, a tenant's credential or the owner's, and SIGNER_REGISTER a signer, and each extends
MEAS_3. APPROVED_MODE_SET with no other tenant sets the mode, closes every session and extends MEAS_2, a DEBUG_EN that it clears first; to the mode in force it changes nothing. -/
def Obligations.SecurityCommandsComplete : Prop :=
  ∀ (c : Cmd) (x : Session) (s : State) (p : Bytes), ready c x s = true →
    let b := begun c x s
    let n := byteAt p 0
    (p.length = 32 → b.secure.reports.length < 4 →
      completes (.attest c p) 0x0A00 c x s (st St.ACCEPTED) (fun t =>
        t.secure.reports = b.secure.reports ++ [⟨x.id, c.tag, c.tenant, b.report c.tenant p⟩] ∧ t.regs = b.regs ∧ sameMemory s t)) ∧
    (x.tenant = owner → p.length = 448 → n ≠ 0 → zerosAt p 2 2 = true → zerosAt p 9 7 = true → be p 4 4 ≤ 262144 → 1 ≤ byteAt p 8 → byteAt p 8 ≤ 56 →
      let quotas (t : State) : Prop := t.reg (Addr.EXACT_QUOTA n) = be p 4 4 ∧ t.reg (Addr.SESSION_QUOTA n) = byteAt p 8 ∧
        t.meas 3 = sha48 (b.meas 3 ++ sha48 p) ∧ t.meas 0 = b.meas 0 ∧ t.meas 1 = b.meas 1 ∧ t.meas 2 = b.meas 2 ∧ sameMemory s t
      (byteAt p 1 = 0 → b.tenantExists n = false → completes (.tenantCreate c p) 0x0A02 c x s ok (fun t =>
        t.tenantExists n = true ∧ t.tenantState n = 1 ∧ tabGet [] n t.secure.creds = slice p 16 432 ∧ quotas t)) ∧
      (byteAt p 1 = 1 → b.tenantExists n = true → zerosAt p 16 432 = true → b.exactUse n ≤ be p 4 4 → b.sessionsOf n ≤ byteAt p 8 →
        completes (.tenantCreate c p) 0x0A02 c x s ok (fun t => t.tenantExists n = true ∧ t.secure = b.secure ∧ quotas t))) ∧
    (x.tenant = owner → p.length = 4 → zerosAt p 1 3 = true → n ≠ 0 → b.tenantExists n = true → b.tenantState n ≠ 2 →
      (∀ y ∈ b.subPorts, b.field (Addr.INTAKE_TENANT y.1 y.2) 0 8 ≠ n) →
      completes (.tenantDestroy c p) 0x0A04 c x s (st St.ACCEPTED) (fun t => t.tenantState n = 2 ∧ (∀ y ∈ t.sessions, y.tenant ≠ n) ∧
        (n ∈ t.secure.waitFlip ∨ ((∀ w ∈ t.mem.windows, w.1 / 16 ≠ n) ∧ (∀ z ∈ t.copies.zones, z.tenant ≠ n) ∧ (∀ j ∈ t.jobs, j.tenant ≠ n) ∧
          tabGet [] n t.signer = [])))) ∧
    (zerosAt p 1 3 = true →
      let m := p.drop 4
      (n = 1 → p.length = 68 → m.take 32 ≠ m.drop 32 → b.keyInUse c.tenant = false →
        completes (.keyInstall c p) 0x0A06 c x s ok (fun t => tabGet 0 c.tenant t.dataKey = 2 * Config.keyIdentity m + 2 ∧
          t.flag (Addr.T_STATE c.tenant) 2 = true ∧ t.meas 3 = sha48 (b.meas 3 ++ sha48 (toBE 1 c.tenant ++ toBE 1 1)) ∧ sameMemory s t)) ∧
      (n = 2 → p.length = 436 → c.tenant ≠ owner →
        completes (.keyInstall c p) 0x0A06 c x s ok (fun t => tabGet [] c.tenant t.secure.creds = m ∧ t.dataKey = b.dataKey ∧
          t.meas 3 = sha48 (b.meas 3 ++ sha48 (toBE 1 c.tenant ++ toBE 1 2 ++ m)) ∧ sameMemory s t)) ∧
      (n = 3 → p.length = 436 → c.tenant = owner → x.tenant = owner →
        completes (.keyInstall c p) 0x0A06 c x s ok (fun t => t.module.ownerCred = some m ∧ t.secure.creds = b.secure.creds ∧
          t.meas 3 = sha48 (b.meas 3 ++ sha48 (toBE 1 owner ++ toBE 1 3 ++ m)) ∧ sameMemory s t))) ∧
    (p.length = 432 → completes (.signerRegister c p) 0x0A08 c x s ok (fun t =>
      tabGet [] c.tenant t.signer = (if zerosAt p 0 432 then [] else p) ∧ t.flag (Addr.T_STATE c.tenant) 3 = !(zerosAt p 0 432) ∧
        t.meas 3 = sha48 (b.meas 3 ++ sha48 p) ∧ sameMemory s t)) ∧
    (x.tenant = owner → p.length = 4 → n ≤ 1 → zerosAt p 1 3 = true → (∀ k < 255, b.tenantExists (k + 1) = false) →
      (b.flag Addr.SEC_STATUS 2 = (n == 1) → completes (.approvedModeSet c p) 0x0A0C c x s ok (fun t => t = b)) ∧
      (b.flag Addr.SEC_STATUS 2 ≠ (n == 1) → completes (.approvedModeSet c p) 0x0A0C c x s ok (fun t =>
        t.flag Addr.SEC_STATUS 2 = (n == 1) ∧ t.flag Addr.FW_STATE 3 = (n == 1) ∧ t.sessions = [] ∧ t.reg Addr.EVENT_SINK = 0 ∧
        t.meas 2 = sha48 ((if n = 1 ∧ b.reg Addr.JTAG_CTRL ≠ 0 then sha48 (b.meas 2 ++ sha48 (toBE 4 0)) else b.meas 2) ++ sha48 (toBE 1 n)) ∧ sameMemory s t ∧
        (n = 1 → t.flag Addr.JTAG_CTRL 0 = false ∧ 1 ≤ t.reg Addr.SELFTEST_PERIOD ∧ t.reg Addr.SELFTEST_PERIOD ≤ 24))))

/-- What a device holds after a reset for a cause (R471 to R473): no session, no job, no key, memory unwritten, every register but those that
outlive the reset at its reset value, and the cause in LAST_RESET. -/
def wiped (cause : Nat) (s u : State) : Prop :=
  u.sessions = [] ∧ u.jobs = [] ∧ u.dataKey = [] ∧ u.secure.creds = [] ∧ (∀ a, memByte u.mem a = 0#8) ∧ u.reg Addr.LAST_RESET = cause ∧
    (∀ a ∈ keptRegs, u.reg a = s.reg a) ∧ u.reg Addr.SEC_ERR_CAUSE = (if cause = 0 then 0 else s.reg Addr.SEC_ERR_CAUSE) ∧
    (∀ a, a ∉ keptRegs ++ [Addr.SEC_ERR_CAUSE, Addr.SEC_STATUS, Addr.LAST_RESET] → u.reg a = regReset a % 2 ^ 64)

/-- Zeroisation, tests and reports (R448, R451, R461 to R463, R466). ZEROISE by the owner zeroises the device and no reply leaves it. TAMPER_DETECT
with the rails up zeroises it too and latches; with the rails off it destroys the owner credential and latches. ATTEST_REPORT_DONE sends the
oldest report, signed, to the session that asked. TENANT_KEY_ZEROISE of a DESTROYING tenant with nothing left ends it. PERIODIC_SELFTEST of engine
0 ends a round. SELFTEST_FAILURE enters ERROR. BOOT_KEY_READY makes sessions possible. -/
def Obligations.SecurityEventsTakeEffect : Prop :=
  (∀ (c : Cmd) (x : Session) (s : State) (p : Bytes), ready c x s = true → x.tenant = owner → p.length = 4 → 1 ≤ byteAt p 0 → byteAt p 0 ≤ 2 →
    zerosAt p 1 3 = true → ∃ u, exec (.zeroise c p) s = .next u ∧ wiped 2 s u ∧ u.module.ownerCred = none ∧ u.out = s.out ∧ (byteAt p 0 = 2 → u.module.erased = true)) ∧
  ∀ (t : Nat) (s : State),
    (s.module.rails = true → ∃ u, exec (.tamperDetect t) s = .next u ∧ wiped 2 s u ∧ u.module.ownerCred = none ∧ u.flag Addr.SEC_STATUS 4 = true ∧
      u.flag Addr.SEC_STATUS 3 = false ∧ u.out = s.out) ∧
    (s.module.rails = false → ∃ u, exec (.tamperDetect t) s = .next u ∧ u.module.ownerCred = none ∧
      u.flag Addr.SEC_STATUS 4 = true ∧ sameRegsBut [Addr.SEC_STATUS] s u ∧ u.mem = s.mem) ∧
    (∀ r rest y, s.secure.reports = r :: rest → s.limik = true → s.secError = false → s.session r.session = some y → r.session ≠ 0 →
      y.transport ≠ .mailbox → s.transportOn y.transport = true → y.lost = 0 → y.queue.length < 4096 →
      ∃ u e, exec (.attestReportDone t) s = .next u ∧ u.secure.reports = rest ∧ u.mem = s.mem ∧ .event r.session (y.eseq + 1) e (e.packet y.key r.session y.tenant (y.eseq + 1)) ∈ u.out ∧
        e.body = (r.body ++ slice (Config.deviceSign r.body) 0 sigBytes).map BitVec.toNat ∧ e.tag = r.tag ∧ e.tenant = r.tenant) ∧
    (∀ tenant ≤ 255, s.on = true → s.tenantState tenant = 2 → tenant ∉ s.secure.waitFlip → s.stampedWith tenant = false →
      ∃ u, exec (.tenantKeyZeroise t tenant) s = .next u ∧ u.tenantExists tenant = false ∧ u.tenantState tenant = 0 ∧ tabGet 0 tenant u.dataKey = 0 ∧
        tabGet [] tenant u.secure.creds = [] ∧ u.reg (Addr.EXACT_QUOTA tenant) = 0 ∧ u.reg (Addr.SESSION_QUOTA tenant) = 0 ∧
        (∀ h ∈ u.secure.handshakes, h.tenant ≠ tenant) ∧ u.meas 3 = sha48 (s.meas 3 ++ sha48 (toBE 1 tenant ++ zeros 3)) ∧ u.mem = s.mem) ∧
    (∀ engine, s.on = true → s.secError = false → 0 < s.reg Addr.SELFTEST_PERIOD → s.secure.lastTest + secs (3600 * s.reg Addr.SELFTEST_PERIOD) ≤ t →
      ∃ u, exec (.periodicSelftest t engine) s = .next u ∧ u.secure.lastTest = (if engine = 0 then t else s.secure.lastTest) ∧ u.regs = s.regs ∧
        u.mem = s.mem) ∧
    (∀ cause, s.on = true → 1 ≤ cause → cause ≤ 11 → ∃ u, exec (.selftestFailure t cause) s = .next u ∧ u.secError = true ∧ u.answers = false ∧
      u.reg Addr.SEC_ERR_CAUSE = cause ∧ u.alert = true ∧ sameRegsBut [Addr.SEC_ERR_CAUSE, Addr.SEC_STATUS] s u ∧ u.mem = s.mem) ∧
    (s.limik = true → s.flag Addr.SEC_STATUS 3 = false → ∃ u, exec (.bootKeyReady t) s = .next u ∧ u.flag Addr.SEC_STATUS 3 = true ∧
      u.module.tamperReport = false ∧ sameRegsBut ([Addr.SEC_STATUS] ++ eventRegs) s u ∧ u.mem = s.mem)

/-! Firmware and the module -/

/-- The firmware commands (R475, R478, R479, R483) of the owner in a session that is ready. FW_STAGE of an image in the owner's windows, no stack having
failed: BAD_PARAM for a malformed or disallowed one, SIG_FAIL for one that does not verify, and else, no image being written, accepted and staged. FW_ACTIVATE of a
staged image with no accepted work in progress: with HANDOVER_OFF the flash holds it and the device resets, FUSE_SVN raised if asked; without, the handover
begins. FW_STATUS returns 28 bytes and changes nothing. DEVICE_RESET answers OK and resets. -/
def Obligations.FirmwareCommandsComplete : Prop :=
  ∀ (c : Cmd) (x : Session) (s : State) (p : Bytes), ready c x s = true → x.tenant = owner →
    let b := begun c x s
    (s.fw.hbmFailed = false → p.length = 12 → b.inWindows owner (be p 0 8) (be p 8 4) false = true →
      let w := b.readBytes owner (be p 0 8) (be p 8 4)
      (readFwImage w (be p 8 4) = none → completes (.fwStage c p) 0x0B00 c x s (st St.BAD_PARAM) (fun t => t = b)) ∧
      (∀ f, readFwImage w (be p 8 4) = some f →
        (b.fwAllowed f = false → completes (.fwStage c p) 0x0B00 c x s (st St.BAD_PARAM) (fun t => t = b)) ∧
        (b.fwAllowed f = true → fwSigned w = false → completes (.fwStage c p) 0x0B00 c x s (st St.SIG_FAIL) (fun t => t = b)) ∧
        (b.fwAllowed f = true → fwSigned w = true → b.fw.handover = none → b.fw.writing = none →
          completes (.fwStage c p) 0x0B00 c x s (st St.ACCEPTED) (fun t => t.fw.staged = some f ∧ t.flag Addr.FW_STATE 4 = false ∧
            (∀ a, a ≠ Addr.FW_STATE → (∀ m < 16, a ≠ Addr.RD_BYTES m) → t.reg a = b.reg a) ∧ sameMemory s t)))) ∧
    (∀ f, p.length = 4 → byteAt p 0 ≤ 3 → zerosAt p 1 3 = true → b.fw.staged = some f → b.flag Addr.FW_STATE 4 = true → b.acceptedWork = false →
      (bitAt (byteAt p 0) 1 = true → b.reg Addr.FUSE_SVN < f.svn) → f.svn < 2 ^ 32 →
      (bitAt (byteAt p 0) 0 = true → completes (.fwActivate c p) 0x0B02 c x s (st St.ACCEPTED) (fun t => t.module.flash = f ∧ t.stage = 0 ∧
        t.reg Addr.LAST_RESET = 2 ∧ t.reg Addr.FUSE_SVN = (if bitAt (byteAt p 0) 1 then f.svn else b.reg Addr.FUSE_SVN) ∧ t.sessions = [] ∧ t.jobs = [])) ∧
      (bitAt (byteAt p 0) 0 = false → f.minMajor ≤ b.field Addr.FW_VERSION 16 8 →
        completes (.fwActivate c p) 0x0B02 c x s (st St.ACCEPTED) (fun t => t.stage = 2 ∧ t.fw.handover = some (b.now, bitAt (byteAt p 0) 1) ∧
          t.isManager = false ∧ t.fw.staged = some f ∧ t.jobs = b.jobs ∧ sameMemory s t))) ∧
    (p = [] → ∃ r, r.status = St.OK ∧ r.params.length = 28 ∧ r.params.take 4 = toBE 4 (b.reg Addr.FW_VERSION) ∧
      completes (.fwStatus c p) 0x0B04 c x s r (fun t => t = b)) ∧
    (p = [] → completes (.deviceReset c p) 0x0B06 c x s ok (fun t => wiped 2 s t ∧ t.module = b.module))

/-- Boot, recovery and handover (R459, R474 to R476, R478, R480, R482). BOOT_ROM_START with its self-tests passed runs a good, allowed flash image, counts the
boot, and else goes to recovery; with one failed it enters ERROR. HBM_TRAIN_DONE records the stacks trained and queues primer passes; every cell has passed the
boot test, and TEST_PASSES counts it, but those named, and a single one named is FENCED. RECOVERY_FETCH of an image that passes writes it to flash and runs it, and no other does.
MGMT_ADDRESS_CONFIG sets the addresses. HANDOVER_RESUME within 2 s runs the staged image, HANDOVER_TIMEOUT after them the flash's; the fences that waited have run. FLASH_WRITE_DONE leaves the
staged image in the flash, and FW_IMAGE_STAGED marks it staged. -/
def Obligations.FirmwareStages : Prop :=
  ∀ (t : Nat) (s : State), s.on = true →
    (∀ n, s.stage = 0 → s.secError = false → ∃ u, exec (.bootRomStart t n) s = .next u ∧ u.mem = s.mem ∧
      u.reg Addr.BOOT_COUNT = (s.reg Addr.BOOT_COUNT + 1) % 2 ^ 32 ∧
      (n = 0 → s.module.flash.good = true → s.fwAllowed s.module.flash = true → u.stage = 1 ∧ u.limik = true ∧ u.fw.running = s.module.flash ∧
        u.reg Addr.FW_VERSION = s.module.flash.version % 2 ^ 64) ∧
      (n = 0 → (s.module.flash.good = false ∨ s.fwAllowed s.module.flash = false) → u.stage = 3) ∧
      (n ≠ 0 → u.secError = true ∧ u.answers = false ∧ u.reg Addr.SEC_ERR_CAUSE = n % 2 ^ 64)) ∧
    (∀ hbms failed, s.stage = 1 → s.fw.trained = 0 → s.fw.hbmFailed = false → ∃ u, exec (.hbmTrainDone t hbms failed) s = .next u ∧
      u.power.primers = List.range 16 ∧
      (failed = [] → u.fw.trained = hbms % 65536 ∧ u.fw.hbmFailed = (hbms % 65536 != 65535) ∧ (∀ i < 16, u.flag (Addr.HBM_STATUS i) 0 = bitAt hbms i) ∧ (∀ c < 256, (u.cellx c).testResult = 1 ∧ (u.cellx c).qualified = true) ∧
        u.reg Addr.TEST_PASSES = (s.reg Addr.TEST_PASSES + 256) % 2 ^ 32 ∧
        sameRegsBut ((List.range 16).map Addr.HBM_STATUS ++ (List.range 256).map Addr.CELL_STATE ++ (List.range 8).map Addr.STALE ++
          [Addr.TEST_PASSES] ++ eventRegs) s u ∧ u.mem = s.mem) ∧
      (∀ c < 256, failed = [c] → s.cellState c ≠ 3 → u.cellState c = 3)) ∧
    (∀ image : Bytes, s.stage = 3 → (∀ l ∈ s.fw.lastFetch, l + secs 10 ≤ t) → ∃ u, exec (.recoveryFetch t image) s = .next u ∧ u.mem = s.mem ∧
      u.fw.lastFetch = some t ∧
      (∀ f, readFwImage image image.length = some f → s.fwAllowed f = true → fwSigned image = true →
        u.stage = 1 ∧ u.module.flash = f ∧ u.fw.running = f ∧ u.fw.recovered = true) ∧
      ((∀ f, readFwImage image image.length = some f → s.fwAllowed f = false ∨ fwSigned image = false) → u.stage = 3 ∧ u.module.flash = s.module.flash ∧
        u.regs = s.regs)) ∧
    (∀ prefixes ipv4, s.stage = 1 ∨ s.stage = 3 → ∃ u, exec (.mgmtAddressConfig t prefixes ipv4) s = .next u ∧ u.fw.prefixes = prefixes ∧ u.fw.ipv4 = ipv4 ∧
      u.regs = s.regs ∧ u.mem = s.mem) ∧
    (∀ t0 commit f, s.fw.handover = some (t0, commit) → s.fw.staged = some f → s.stage = 2 → t ≤ t0 + secs 2 →
      ∃ u, exec (.handoverResume t) s = .next u ∧ u.stage = 1 ∧ u.fw.handover = none ∧ u.fw.running = f ∧ u.fw.writing = some commit ∧
        u.reg Addr.FW_VERSION = f.version % 2 ^ 64 ∧ u.integ.heldFences = [] ∧ (s.integ.heldFences = [] → u.jobs = s.jobs ∧ u.mem = s.mem)) ∧
    (∀ t0 commit, s.fw.handover = some (t0, commit) → s.stage = 2 → t0 + secs 2 < t →
      ∃ u, exec (.handoverTimeout t) s = .next u ∧ u.stage = 1 ∧ u.fw.handover = none ∧ u.fw.running = s.module.flash ∧ u.fw.staged = none ∧
        u.fw.lastFailed = true ∧ u.flag Addr.FW_STATE 4 = false ∧ u.integ.heldFences = [] ∧ (s.integ.heldFences = [] → u.jobs = s.jobs ∧ u.mem = s.mem)) ∧
    (∀ commit f, s.fw.writing = some commit → s.fw.staged = some f → ∃ u, exec (.flashWriteDone t) s = .next u ∧ u.module.flash = f ∧ u.fw.writing = none ∧
      u.fw.staged = none ∧ u.flag Addr.FW_STATE 4 = false ∧ u.reg Addr.FUSE_SVN = (if commit then f.svn % 2 ^ 64 else s.reg Addr.FUSE_SVN) ∧ u.mem = s.mem) ∧
    (∀ f, s.stage = 1 → s.fw.staged = some f → s.flag Addr.FW_STATE 4 = false → ∃ u, exec (.fwImageStaged t) s = .next u ∧ u.flag Addr.FW_STATE 4 = true ∧
      u.stage = 1 ∧ u.fw = s.fw ∧ u.mem = s.mem)

/-- Power, resets, trips and faults of the module (R471, R472, R490 to R497). POWER_ON with the input in range and RST_N low for a microsecond reset the device
with their cause. The rails go with POWER_REMOVE, PRESENT_N_OPEN, an input above 66 V and one below -1 V, and AUX_3V3 as the input says; beyond
80 V and -64 V no behaviour is promised, and the model faults. A good clock releases the device, the loss of it holds it in reset with
PWR_GOOD as it was. A sense fault changes the measurement, an AUX_3V3 overload its bit of MB_FAULT. A cooled trip clears by PWR_EN or RST_N, and power
comes on again where the input is in range, or by removing the input. Writing
ones to MB_FAULT clears the bits whose condition is over. The I3C target takes the address it is assigned. -/
def Obligations.ModuleFollowsItsInputs : Prop :=
  ∀ (t : Nat) (s : State),
    (∀ mv, s.module.rails = false → s.module.tripped = false → 40000 ≤ mv → mv ≤ 64000 →
      ∃ u, exec (.powerOn t mv) s = .next u ∧ wiped 0 s u ∧ u.pwrGood = true ∧ u.stage = 0 ∧ u.module.vin = mv ∧ u.module.aux = true) ∧
    (∀ lowNs, 1000 ≤ lowNs → s.module.present = true → s.module.rails = true →
      ∃ u, exec (.pinReset t lowNs) s = .next u ∧ wiped 1 s u ∧ u.module = s.module ∧ u.stage = 0) ∧
    (∀ mv, ∃ u, exec (.powerRemove t mv) s = .next u ∧ u.on = false ∧ u.pwrGood = false ∧ u.module.aux = (decide (40000 ≤ mv) && s.module.present) ∧
      (s.module.rails = true → wiped 0 s u)) ∧
    (∃ u, exec (.presentNOpen t) s = .next u ∧ u.on = false ∧ u.module.present = false ∧ u.module.aux = false ∧ (s.module.rails = true → wiped 0 s u)) ∧
    (∀ mv, (80000 < mv → exec (.overvoltage t mv) s = .fault .beyondAbsoluteRatings) ∧
      (66000 < mv → mv ≤ 80000 → ∃ u, exec (.overvoltage t mv) s = .next u ∧ u.on = false ∧ bitAt u.module.mbFault 1 = true ∧
        u.module.aux = (s.module.aux && decide (mv ≤ 72000)) ∧ (s.module.rails = true → wiped 0 s u))) ∧
    (∀ mv, (mv < -64000 → exec (.reversePolarity t mv) s = .fault .beyondAbsoluteRatings) ∧
      (-64000 ≤ mv → mv < -1000 → ∃ u, exec (.reversePolarity t mv) s = .next u ∧ u.on = false ∧ u.module.reverse = true ∧ u.module.aux = false ∧
        (s.module.rails = true → wiped 0 s u))) ∧
    (∃ u, exec (.refclkSysLoss t true) s = .next u ∧ u.module.hold = 0 ∧ u.on = s.module.rails ∧ u.regs = s.regs ∧ u.mem = s.mem) ∧
    (s.module.hold = 0 → ∃ u, exec (.refclkSysLoss t false) s = .next u ∧ u.on = false ∧ u.pwrGood = s.pwrGood ∧ u.sessions = [] ∧ u.jobs = [] ∧
      u.reg Addr.LAST_RESET = s.reg Addr.LAST_RESET) ∧
    (∀ crossed mv, s.module.aux = true → (crossed = true ∨ 40000 ≤ mv) → ∃ u, exec (.senseFault t crossed mv) s = .next u ∧
      bitAt u.module.mbFault (if crossed then 3 else 2) = true ∧ u.module.vin = mv - 300 ∧ u.on = s.on ∧
      (s.module.rails = true → u.reg Addr.VIN = min 131071 (mv - 300)) ∧ sameRegsBut [Addr.VIN] s u ∧ u.mem = s.mem) ∧
    (s.module.aux = true → (∃ u, exec (.auxOverload t true) s = .next u ∧ bitAt u.module.mbFault 4 = true ∧ u.on = s.on ∧ u.regs = s.regs ∧ u.mem = s.mem) ∧
      (∃ u, exec (.auxOverload t false) s = .next u ∧ bitAt u.module.persists 4 = false ∧ u.on = s.on ∧ u.regs = s.regs ∧ u.mem = s.mem)) ∧
    (s.module.tripped = true → s.cooled = true → s.module.present = true → s.module.aux = true →
      (∃ u, exec (.tripClear t .pwrEn) s = .next u ∧ u.module.tripped = false ∧
        (40000 ≤ s.module.vin → s.module.vin ≤ 66000 → wiped 0 s u ∧ u.pwrGood = true) ∧
        (s.module.vin < 40000 ∨ 66000 < s.module.vin → u.pwrGood = s.pwrGood ∧ u.regs = s.regs)) ∧
      (∃ u, exec (.tripClear t .rstN) s = .next u ∧ u.module.tripped = false ∧
        (40000 ≤ s.module.vin → s.module.vin ≤ 66000 → wiped 1 s u ∧ u.pwrGood = true) ∧
        (s.module.vin < 40000 ∨ 66000 < s.module.vin → u.pwrGood = s.pwrGood ∧ u.regs = s.regs)) ∧
      (∃ u, exec (.tripClear t .input) s = .next u ∧ u.module.tripped = false ∧ u.module.aux = false ∧ u.regs = s.regs)) ∧
    (∀ mask, s.module.aux = true → ∃ u, exec (.mbFaultClear t mask) s = .next u ∧ u.regs = s.regs ∧ u.mem = s.mem ∧
      ∀ i < 16, bitAt u.module.mbFault i = ((bitAt s.module.mbFault i && !(bitAt mask i)) || bitAt s.module.persists i)) ∧
    (∀ entdaa addr, s.module.aux = true → addr < 128 → (entdaa = true → s.module.i3c = none) →
      ∃ u, exec (.i3cAddressAssign t entdaa addr) s = .next u ∧ u.module.i3c = some addr ∧ u.regs = s.regs ∧ u.mem = s.mem)

/-! The invariant of the tables -/

/-- From every state whose register file and device memory are in their canonical form (keys rising, no register listed at its reset value, no byte listed
that reads as unwritten memory does, log 9), a step that answers a next state answers one whose two tables are in that form, whatever command it runs. So
equal contents are equal data throughout a run; ResetLeavesTheTables says that the reset state has the form. -/
def Obligations.EveryStepKeepsTheTables : Prop :=
  ∀ s u : State, s.tablesWf = true → step s = .next u → u.tablesWf = true

/-! Two rules of the manual that the commands above use -/

/-- Dimension order (R309). On a joined device m, a packet for another member d of its group without a VIA entry goes first in X, then Y, then Z: in the
first dimension whose coordinates differ, delta = (d - m) mod 4, it takes the + direction for delta of 1 and of 2 and the - direction for 3. Of the two
ports of that pair j it uses port 2j + ((SRC + DST) mod 2), or the pair's other port where that one is down and the other is up. -/
def Obligations.PacketsGoByDimensionOrder : Prop :=
  ∀ (s : State) (src dst dim : Nat), s.joined = true → dst ≠ s.device → dst / 64 = s.groupNum → s.reg (Addr.MEMBER_ROUTE (dst % 64)) = 0x3F →
    let coordinate (m i : Nat) : Nat := m / 4 ^ i % 4
    let delta (i : Nat) : Nat := (coordinate (dst % 64) i + 4 - coordinate s.member i) % 4
    dim < 3 → delta dim ≠ 0 → (∀ i < dim, delta i = 0) →
    let j := if delta dim = 3 then 2 * dim + 1 else 2 * dim
    let first := 2 * j + (src + dst) % 2
    let other := 2 * j + (1 - (src + dst) % 2)
    (s.portUp first = true → s.hop src dst = .port first) ∧ (s.portUp first = false → s.portUp other = true → s.hop src dst = .port other)

/-- Votes (R230, R234). The exit leaf of a tree of depth D is the number whose bits, most significant first, are the results of the tests on its path. Under
VOTE, on one rank, the count of each class is exactly the number of present trees whose leaf names it, and the verdict names the class below NCLASS with
the most votes, the lowest of those on a tie. -/
def Obligations.VotesAreCountedExactly : Prop :=
  ∀ (g : Bytes) (v : List Nat), gridAgg g = 1 →
    (∀ t, ∃ n : Nat → Nat, n 0 = 1 ∧ (∀ i < gridDepth g t, n (i + 1) = 2 * n i +
        b2n (!featureLess (gridKind g (gridSelector g (256 * t + n i))) (v.getD (gridSelector g (256 * t + n i)) 0) (gridThreshold g (256 * t + n i)))) ∧
      (exitLeaf g v t).1 = n (gridDepth g t) - 2 ^ gridDepth g t) ∧
    (∀ k < 16, (rankResult g v).out.getD k 0 = (gridTrees g).countP (fun t => gridLeaf g (256 * t + (exitLeaf g v t).1) % 256 == k)) ∧
    (∀ out : List Nat, 1 ≤ gridNclass g → gridNclass g ≤ 16 →
      let w := verdictWord g out % 256
      w < gridNclass g ∧ ∀ k < gridNclass g, out.getD k 0 ≤ out.getD w 0 ∧ (out.getD k 0 = out.getD w 0 → w ≤ k))
end

