-- ==== Sys2Proof/Laws/Tables.lean ====
section
/-!
SUPPORT. The laws of sparse tables: what a read gives after a put, an erase and a set, and that a set keeps the canonical form.
-/
namespace Sys2Proof.Machine

variable {α : Type}

theorem tabFind_tabErase_same (k : Nat) (l : Tab α) : tabFind k (tabErase k l) = none := by
  induction l with
  | nil => rfl
  | cons x l ih =>
    obtain ⟨a, v⟩ := x
    by_cases h : a = k <;> simp [tabErase, tabFind, h, ih]

theorem tabFind_tabErase_other {j k : Nat} (h : j ≠ k) (l : Tab α) : tabFind j (tabErase k l) = tabFind j l := by
  induction l with
  | nil => rfl
  | cons x l ih =>
    obtain ⟨a, v⟩ := x
    by_cases h1 : a = k
    · have h2 : a ≠ j := fun e => h (e ▸ h1)
      simp only [tabErase, if_pos h1, ih, tabFind, if_neg h2]
    · simp only [tabErase, if_neg h1, tabFind, ih]

theorem tabFind_tabPut_same (k : Nat) (v : α) (l : Tab α) : tabFind k (tabPut k v l) = some v := by
  induction l with
  | nil => simp [tabPut, tabFind]
  | cons x l ih =>
    obtain ⟨a, w⟩ := x
    by_cases h1 : k < a
    · simp [tabPut, tabFind, h1]
    · by_cases h2 : a = k <;> simp [tabPut, tabFind, h1, h2, ih]

theorem tabFind_tabPut_other {j k : Nat} (h : j ≠ k) (v : α) (l : Tab α) : tabFind j (tabPut k v l) = tabFind j l := by
  induction l with
  | nil => simp [tabPut, tabFind, Ne.symm h]
  | cons x l ih =>
    obtain ⟨a, w⟩ := x
    by_cases h1 : k < a
    · simp only [tabPut, if_pos h1]
      rw [tabFind, if_neg (Ne.symm h)]
    · by_cases h2 : a = k
      · have h3 : a ≠ j := fun e => h (e ▸ h2)
        simp only [tabPut, if_neg h1, if_pos h2, tabFind, if_neg (Ne.symm h), if_neg h3]
      · simp only [tabPut, if_neg h1, if_neg h2, tabFind, ih]

/-- A read of the key just set. -/
@[simp] theorem tabGet_tabSet_same [DecidableEq α] (d : α) (k : Nat) (v : α) (l : Tab α) : tabGet d k (tabSet d k v l) = v := by
  unfold tabGet tabSet
  by_cases h : v = d
  · simp [h, tabFind_tabErase_same]
  · simp [h, tabFind_tabPut_same]

/-- A set leaves every other key alone. -/
theorem tabFind_tabSet_other [DecidableEq α] {j k : Nat} (h : j ≠ k) (d v : α) (l : Tab α) : tabFind j (tabSet d k v l) = tabFind j l := by
  unfold tabSet
  split
  · exact tabFind_tabErase_other h l
  · exact tabFind_tabPut_other h v l

/-- A set leaves the reading of every other key alone, whatever the two unlisted values. -/
theorem tabGet_tabSet_other [DecidableEq α] {j k : Nat} (h : j ≠ k) (d d' v : α) (l : Tab α) :
    tabGet d' j (tabSet d k v l) = tabGet d' j l := by
  unfold tabGet
  rw [tabFind_tabSet_other h]

/-! Canonical form -/

/-- Every key of a table is above `n`. -/
def tabAbove (n : Nat) : Tab α → Prop
  | [] => True
  | (a, _) :: l => n < a ∧ tabAbove n l

theorem tabAbove_mono {m n : Nat} (h : m ≤ n) : {l : Tab α} → tabAbove n l → tabAbove m l
  | [], _ => trivial
  | (_, _) :: _, ha => ⟨Nat.lt_of_le_of_lt h ha.1, tabAbove_mono h ha.2⟩

theorem tabAbove_tabErase {n k : Nat} : {l : Tab α} → tabAbove n l → tabAbove n (tabErase k l)
  | [], _ => trivial
  | (a, v) :: l, ha => by
    unfold tabErase
    split
    · exact tabAbove_tabErase ha.2
    · exact ⟨ha.1, tabAbove_tabErase ha.2⟩

theorem tabAbove_tabPut {n k : Nat} (hk : n < k) (v : α) : {l : Tab α} → tabAbove n l → tabAbove n (tabPut k v l)
  | [], _ => ⟨hk, trivial⟩
  | (a, w) :: l, ha => by
    unfold tabPut
    split
    · exact ⟨hk, ha⟩
    · split
      · exact ⟨hk, ha.2⟩
      · exact ⟨ha.1, tabAbove_tabPut hk v ha.2⟩

/-- The canonical form, entry by entry. -/
theorem tabWf_cons [DecidableEq α] (d : Nat → α) (a : Nat) (v : α) (l : Tab α) :
    tabWf d ((a, v) :: l) = true ↔ v ≠ d a ∧ tabAbove a l ∧ tabWf d l = true := by
  induction l generalizing a v with
  | nil => simp [tabWf, tabAbove]
  | cons x l ih =>
    obtain ⟨b, w⟩ := x
    have h := ih b w
    constructor
    · intro hw
      simp only [tabWf, Bool.and_eq_true, decide_eq_true_eq] at hw
      have h2 := h.1 hw.2
      exact ⟨hw.1.1, ⟨hw.1.2, tabAbove_mono (Nat.le_of_lt hw.1.2) h2.2.1⟩, hw.2⟩
    · rintro ⟨h1, h2, h3⟩
      simp only [tabWf, Bool.and_eq_true, decide_eq_true_eq]
      exact ⟨⟨h1, h2.1⟩, h3⟩

theorem tabWf_tabErase [DecidableEq α] (d : Nat → α) (k : Nat) (l : Tab α) (h : tabWf d l = true) : tabWf d (tabErase k l) = true := by
  induction l with
  | nil => rfl
  | cons x l ih =>
    obtain ⟨a, v⟩ := x
    obtain ⟨h1, h2, h3⟩ := (tabWf_cons d a v l).1 h
    unfold tabErase
    split
    · exact ih h3
    · exact (tabWf_cons d a v _).2 ⟨h1, tabAbove_tabErase h2, ih h3⟩

theorem tabWf_tabPut [DecidableEq α] (d : Nat → α) (k : Nat) (v : α) (hv : v ≠ d k) (l : Tab α) (h : tabWf d l = true) :
    tabWf d (tabPut k v l) = true := by
  induction l with
  | nil => exact (tabWf_cons d k v []).2 ⟨hv, trivial, rfl⟩
  | cons x l ih =>
    obtain ⟨a, w⟩ := x
    obtain ⟨h1, h2, h3⟩ := (tabWf_cons d a w l).1 h
    unfold tabPut
    split
    · rename_i hk
      exact (tabWf_cons d k v _).2 ⟨hv, ⟨hk, tabAbove_mono (Nat.le_of_lt hk) h2⟩, h⟩
    · rename_i hk
      split
      · rename_i he
        subst he
        exact (tabWf_cons d a v _).2 ⟨hv, h2, h3⟩
      · rename_i he
        exact (tabWf_cons d a w _).2 ⟨h1, tabAbove_tabPut (by omega) v h2, ih h3⟩

/-- A set keeps the canonical form. -/
theorem tabWf_tabSet [DecidableEq α] (d : Nat → α) (k : Nat) (v : α) (l : Tab α) (h : tabWf d l = true) :
    tabWf d (tabSet (d k) k v l) = true := by
  unfold tabSet
  split
  · exact tabWf_tabErase d k l h
  · rename_i hv
    exact tabWf_tabPut d k v hv l h

end Sys2Proof.Machine
end

