-- ==== Sys2Proof/Laws/State.lean ====
section
/-!
SUPPORT. The laws of the shared updates of a state: what each leaves alone, field by field, and what a register reads after a
write.
-/
namespace Sys2Proof.Machine

/-! Registers -/

/-- A register reads what was written to it. -/
@[simp] theorem State.reg_setReg_same (s : State) (a v : Nat) : (s.setReg a v).reg a = v % 2 ^ 64 := by
  simp [State.reg, State.setReg]

/-- A write of a register leaves the others alone. -/
theorem State.reg_setReg_other {a b : Nat} (h : b ≠ a) (s : State) (v : Nat) : (s.setReg a v).reg b = s.reg b := by
  simp [State.reg, State.setReg, tabGet_tabSet_other h]

/-- What a register reads after a write of some register. -/
theorem State.reg_setReg (s : State) (a b v : Nat) : (s.setReg a v).reg b = if b = a then v % 2 ^ 64 else s.reg b := by
  by_cases h : b = a
  · simp [h]
  · simp [h, State.reg_setReg_other]

/-- A register holds 64 bits. -/
theorem State.reg_lt (s : State) (a : Nat) : s.reg a < 2 ^ 64 := (tabGet _ a s.regs).isLt

/-- States with the same register file read the same. -/
theorem State.reg_congr {s t : State} (h : s.regs = t.regs) (a : Nat) : s.reg a = t.reg a := by simp [State.reg, h]


/-! `setReg` -/

@[simp] theorem State.setReg_pending (s : State) (a v : Nat) : (s.setReg a v).pending = s.pending := rfl
@[simp] theorem State.setReg_fresh (s : State) (a v : Nat) : (s.setReg a v).fresh = s.fresh := rfl
@[simp] theorem State.setReg_out (s : State) (a v : Nat) : (s.setReg a v).out = s.out := rfl
@[simp] theorem State.setReg_now (s : State) (a v : Nat) : (s.setReg a v).now = s.now := rfl
@[simp] theorem State.setReg_latch (s : State) (a v : Nat) : (s.setReg a v).latch = s.latch := rfl
@[simp] theorem State.setReg_shadow (s : State) (a v : Nat) : (s.setReg a v).shadow = s.shadow := rfl
@[simp] theorem State.setReg_beat (s : State) (a v : Nat) : (s.setReg a v).beat = s.beat := rfl
@[simp] theorem State.setReg_time (s : State) (a v : Nat) : (s.setReg a v).time = s.time := rfl
@[simp] theorem State.setReg_sessions (s : State) (a v : Nat) : (s.setReg a v).sessions = s.sessions := rfl
@[simp] theorem State.setReg_windows (s : State) (a v : Nat) : (s.setReg a v).windows = s.windows := rfl
@[simp] theorem State.setReg_jobs (s : State) (a v : Nat) : (s.setReg a v).jobs = s.jobs := rfl
@[simp] theorem State.setReg_ports (s : State) (a v : Nat) : (s.setReg a v).ports = s.ports := rfl
@[simp] theorem State.setReg_hc (s : State) (a v : Nat) : (s.setReg a v).hc = s.hc := rfl
@[simp] theorem State.setReg_mt (s : State) (a v : Nat) : (s.setReg a v).mt = s.mt := rfl
@[simp] theorem State.setReg_tm (s : State) (a v : Nat) : (s.setReg a v).tm = s.tm := rfl
@[simp] theorem State.setReg_mem (s : State) (a v : Nat) : (s.setReg a v).mem = s.mem := rfl
@[simp] theorem State.setReg_dataKey (s : State) (a v : Nat) : (s.setReg a v).dataKey = s.dataKey := rfl
@[simp] theorem State.setReg_signer (s : State) (a v : Nat) : (s.setReg a v).signer = s.signer := rfl
@[simp] theorem State.setReg_models (s : State) (a v : Nat) : (s.setReg a v).models = s.models := rfl
@[simp] theorem State.setReg_flow (s : State) (a v : Nat) : (s.setReg a v).flow = s.flow := rfl
@[simp] theorem State.setReg_cells (s : State) (a v : Nat) : (s.setReg a v).cells = s.cells := rfl
@[simp] theorem State.setReg_copies (s : State) (a v : Nat) : (s.setReg a v).copies = s.copies := rfl
@[simp] theorem State.setReg_fabric (s : State) (a v : Nat) : (s.setReg a v).fabric = s.fabric := rfl
@[simp] theorem State.setReg_group (s : State) (a v : Nat) : (s.setReg a v).group = s.group := rfl
@[simp] theorem State.setReg_bridge (s : State) (a v : Nat) : (s.setReg a v).bridge = s.bridge := rfl
@[simp] theorem State.setReg_obs (s : State) (a v : Nat) : (s.setReg a v).obs = s.obs := rfl
@[simp] theorem State.setReg_integ (s : State) (a v : Nat) : (s.setReg a v).integ = s.integ := rfl
@[simp] theorem State.setReg_power (s : State) (a v : Nat) : (s.setReg a v).power = s.power := rfl
@[simp] theorem State.setReg_module (s : State) (a v : Nat) : (s.setReg a v).module = s.module := rfl
@[simp] theorem State.setReg_fw (s : State) (a v : Nat) : (s.setReg a v).fw = s.fw := rfl
@[simp] theorem State.setReg_secure (s : State) (a v : Nat) : (s.setReg a v).secure = s.secure := rfl

/-! `setField` -/

@[simp] theorem State.setField_pending (s : State) (a lo w x : Nat) : (s.setField a lo w x).pending = s.pending := rfl
@[simp] theorem State.setField_fresh (s : State) (a lo w x : Nat) : (s.setField a lo w x).fresh = s.fresh := rfl
@[simp] theorem State.setField_out (s : State) (a lo w x : Nat) : (s.setField a lo w x).out = s.out := rfl
@[simp] theorem State.setField_now (s : State) (a lo w x : Nat) : (s.setField a lo w x).now = s.now := rfl
@[simp] theorem State.setField_latch (s : State) (a lo w x : Nat) : (s.setField a lo w x).latch = s.latch := rfl
@[simp] theorem State.setField_shadow (s : State) (a lo w x : Nat) : (s.setField a lo w x).shadow = s.shadow := rfl
@[simp] theorem State.setField_beat (s : State) (a lo w x : Nat) : (s.setField a lo w x).beat = s.beat := rfl
@[simp] theorem State.setField_time (s : State) (a lo w x : Nat) : (s.setField a lo w x).time = s.time := rfl
@[simp] theorem State.setField_sessions (s : State) (a lo w x : Nat) : (s.setField a lo w x).sessions = s.sessions := rfl
@[simp] theorem State.setField_windows (s : State) (a lo w x : Nat) : (s.setField a lo w x).windows = s.windows := rfl
@[simp] theorem State.setField_jobs (s : State) (a lo w x : Nat) : (s.setField a lo w x).jobs = s.jobs := rfl
@[simp] theorem State.setField_ports (s : State) (a lo w x : Nat) : (s.setField a lo w x).ports = s.ports := rfl
@[simp] theorem State.setField_hc (s : State) (a lo w x : Nat) : (s.setField a lo w x).hc = s.hc := rfl
@[simp] theorem State.setField_mt (s : State) (a lo w x : Nat) : (s.setField a lo w x).mt = s.mt := rfl
@[simp] theorem State.setField_tm (s : State) (a lo w x : Nat) : (s.setField a lo w x).tm = s.tm := rfl
@[simp] theorem State.setField_mem (s : State) (a lo w x : Nat) : (s.setField a lo w x).mem = s.mem := rfl
@[simp] theorem State.setField_dataKey (s : State) (a lo w x : Nat) : (s.setField a lo w x).dataKey = s.dataKey := rfl
@[simp] theorem State.setField_signer (s : State) (a lo w x : Nat) : (s.setField a lo w x).signer = s.signer := rfl
@[simp] theorem State.setField_models (s : State) (a lo w x : Nat) : (s.setField a lo w x).models = s.models := rfl
@[simp] theorem State.setField_flow (s : State) (a lo w x : Nat) : (s.setField a lo w x).flow = s.flow := rfl
@[simp] theorem State.setField_cells (s : State) (a lo w x : Nat) : (s.setField a lo w x).cells = s.cells := rfl
@[simp] theorem State.setField_copies (s : State) (a lo w x : Nat) : (s.setField a lo w x).copies = s.copies := rfl
@[simp] theorem State.setField_fabric (s : State) (a lo w x : Nat) : (s.setField a lo w x).fabric = s.fabric := rfl
@[simp] theorem State.setField_group (s : State) (a lo w x : Nat) : (s.setField a lo w x).group = s.group := rfl
@[simp] theorem State.setField_bridge (s : State) (a lo w x : Nat) : (s.setField a lo w x).bridge = s.bridge := rfl
@[simp] theorem State.setField_obs (s : State) (a lo w x : Nat) : (s.setField a lo w x).obs = s.obs := rfl
@[simp] theorem State.setField_integ (s : State) (a lo w x : Nat) : (s.setField a lo w x).integ = s.integ := rfl
@[simp] theorem State.setField_power (s : State) (a lo w x : Nat) : (s.setField a lo w x).power = s.power := rfl
@[simp] theorem State.setField_module (s : State) (a lo w x : Nat) : (s.setField a lo w x).module = s.module := rfl
@[simp] theorem State.setField_fw (s : State) (a lo w x : Nat) : (s.setField a lo w x).fw = s.fw := rfl
@[simp] theorem State.setField_secure (s : State) (a lo w x : Nat) : (s.setField a lo w x).secure = s.secure := rfl

/-! `setFlag` -/

@[simp] theorem State.setFlag_pending (s : State) (a i : Nat) (b : Bool) : (s.setFlag a i b).pending = s.pending := rfl
@[simp] theorem State.setFlag_fresh (s : State) (a i : Nat) (b : Bool) : (s.setFlag a i b).fresh = s.fresh := rfl
@[simp] theorem State.setFlag_out (s : State) (a i : Nat) (b : Bool) : (s.setFlag a i b).out = s.out := rfl
@[simp] theorem State.setFlag_now (s : State) (a i : Nat) (b : Bool) : (s.setFlag a i b).now = s.now := rfl
@[simp] theorem State.setFlag_latch (s : State) (a i : Nat) (b : Bool) : (s.setFlag a i b).latch = s.latch := rfl
@[simp] theorem State.setFlag_shadow (s : State) (a i : Nat) (b : Bool) : (s.setFlag a i b).shadow = s.shadow := rfl
@[simp] theorem State.setFlag_beat (s : State) (a i : Nat) (b : Bool) : (s.setFlag a i b).beat = s.beat := rfl
@[simp] theorem State.setFlag_time (s : State) (a i : Nat) (b : Bool) : (s.setFlag a i b).time = s.time := rfl
@[simp] theorem State.setFlag_sessions (s : State) (a i : Nat) (b : Bool) : (s.setFlag a i b).sessions = s.sessions := rfl
@[simp] theorem State.setFlag_windows (s : State) (a i : Nat) (b : Bool) : (s.setFlag a i b).windows = s.windows := rfl
@[simp] theorem State.setFlag_jobs (s : State) (a i : Nat) (b : Bool) : (s.setFlag a i b).jobs = s.jobs := rfl
@[simp] theorem State.setFlag_ports (s : State) (a i : Nat) (b : Bool) : (s.setFlag a i b).ports = s.ports := rfl
@[simp] theorem State.setFlag_hc (s : State) (a i : Nat) (b : Bool) : (s.setFlag a i b).hc = s.hc := rfl
@[simp] theorem State.setFlag_mt (s : State) (a i : Nat) (b : Bool) : (s.setFlag a i b).mt = s.mt := rfl
@[simp] theorem State.setFlag_tm (s : State) (a i : Nat) (b : Bool) : (s.setFlag a i b).tm = s.tm := rfl
@[simp] theorem State.setFlag_mem (s : State) (a i : Nat) (b : Bool) : (s.setFlag a i b).mem = s.mem := rfl
@[simp] theorem State.setFlag_dataKey (s : State) (a i : Nat) (b : Bool) : (s.setFlag a i b).dataKey = s.dataKey := rfl
@[simp] theorem State.setFlag_signer (s : State) (a i : Nat) (b : Bool) : (s.setFlag a i b).signer = s.signer := rfl
@[simp] theorem State.setFlag_models (s : State) (a i : Nat) (b : Bool) : (s.setFlag a i b).models = s.models := rfl
@[simp] theorem State.setFlag_flow (s : State) (a i : Nat) (b : Bool) : (s.setFlag a i b).flow = s.flow := rfl
@[simp] theorem State.setFlag_cells (s : State) (a i : Nat) (b : Bool) : (s.setFlag a i b).cells = s.cells := rfl
@[simp] theorem State.setFlag_copies (s : State) (a i : Nat) (b : Bool) : (s.setFlag a i b).copies = s.copies := rfl
@[simp] theorem State.setFlag_fabric (s : State) (a i : Nat) (b : Bool) : (s.setFlag a i b).fabric = s.fabric := rfl
@[simp] theorem State.setFlag_group (s : State) (a i : Nat) (b : Bool) : (s.setFlag a i b).group = s.group := rfl
@[simp] theorem State.setFlag_bridge (s : State) (a i : Nat) (b : Bool) : (s.setFlag a i b).bridge = s.bridge := rfl
@[simp] theorem State.setFlag_obs (s : State) (a i : Nat) (b : Bool) : (s.setFlag a i b).obs = s.obs := rfl
@[simp] theorem State.setFlag_integ (s : State) (a i : Nat) (b : Bool) : (s.setFlag a i b).integ = s.integ := rfl
@[simp] theorem State.setFlag_power (s : State) (a i : Nat) (b : Bool) : (s.setFlag a i b).power = s.power := rfl
@[simp] theorem State.setFlag_module (s : State) (a i : Nat) (b : Bool) : (s.setFlag a i b).module = s.module := rfl
@[simp] theorem State.setFlag_fw (s : State) (a i : Nat) (b : Bool) : (s.setFlag a i b).fw = s.fw := rfl
@[simp] theorem State.setFlag_secure (s : State) (a i : Nat) (b : Bool) : (s.setFlag a i b).secure = s.secure := rfl

/-! `bump32` -/

@[simp] theorem State.bump32_pending (s : State) (a n : Nat) : (s.bump32 a n).pending = s.pending := rfl
@[simp] theorem State.bump32_fresh (s : State) (a n : Nat) : (s.bump32 a n).fresh = s.fresh := rfl
@[simp] theorem State.bump32_out (s : State) (a n : Nat) : (s.bump32 a n).out = s.out := rfl
@[simp] theorem State.bump32_now (s : State) (a n : Nat) : (s.bump32 a n).now = s.now := rfl
@[simp] theorem State.bump32_latch (s : State) (a n : Nat) : (s.bump32 a n).latch = s.latch := rfl
@[simp] theorem State.bump32_shadow (s : State) (a n : Nat) : (s.bump32 a n).shadow = s.shadow := rfl
@[simp] theorem State.bump32_beat (s : State) (a n : Nat) : (s.bump32 a n).beat = s.beat := rfl
@[simp] theorem State.bump32_time (s : State) (a n : Nat) : (s.bump32 a n).time = s.time := rfl
@[simp] theorem State.bump32_sessions (s : State) (a n : Nat) : (s.bump32 a n).sessions = s.sessions := rfl
@[simp] theorem State.bump32_windows (s : State) (a n : Nat) : (s.bump32 a n).windows = s.windows := rfl
@[simp] theorem State.bump32_jobs (s : State) (a n : Nat) : (s.bump32 a n).jobs = s.jobs := rfl
@[simp] theorem State.bump32_ports (s : State) (a n : Nat) : (s.bump32 a n).ports = s.ports := rfl
@[simp] theorem State.bump32_hc (s : State) (a n : Nat) : (s.bump32 a n).hc = s.hc := rfl
@[simp] theorem State.bump32_mt (s : State) (a n : Nat) : (s.bump32 a n).mt = s.mt := rfl
@[simp] theorem State.bump32_tm (s : State) (a n : Nat) : (s.bump32 a n).tm = s.tm := rfl
@[simp] theorem State.bump32_mem (s : State) (a n : Nat) : (s.bump32 a n).mem = s.mem := rfl
@[simp] theorem State.bump32_dataKey (s : State) (a n : Nat) : (s.bump32 a n).dataKey = s.dataKey := rfl
@[simp] theorem State.bump32_signer (s : State) (a n : Nat) : (s.bump32 a n).signer = s.signer := rfl
@[simp] theorem State.bump32_models (s : State) (a n : Nat) : (s.bump32 a n).models = s.models := rfl
@[simp] theorem State.bump32_flow (s : State) (a n : Nat) : (s.bump32 a n).flow = s.flow := rfl
@[simp] theorem State.bump32_cells (s : State) (a n : Nat) : (s.bump32 a n).cells = s.cells := rfl
@[simp] theorem State.bump32_copies (s : State) (a n : Nat) : (s.bump32 a n).copies = s.copies := rfl
@[simp] theorem State.bump32_fabric (s : State) (a n : Nat) : (s.bump32 a n).fabric = s.fabric := rfl
@[simp] theorem State.bump32_group (s : State) (a n : Nat) : (s.bump32 a n).group = s.group := rfl
@[simp] theorem State.bump32_bridge (s : State) (a n : Nat) : (s.bump32 a n).bridge = s.bridge := rfl
@[simp] theorem State.bump32_obs (s : State) (a n : Nat) : (s.bump32 a n).obs = s.obs := rfl
@[simp] theorem State.bump32_integ (s : State) (a n : Nat) : (s.bump32 a n).integ = s.integ := rfl
@[simp] theorem State.bump32_power (s : State) (a n : Nat) : (s.bump32 a n).power = s.power := rfl
@[simp] theorem State.bump32_module (s : State) (a n : Nat) : (s.bump32 a n).module = s.module := rfl
@[simp] theorem State.bump32_fw (s : State) (a n : Nat) : (s.bump32 a n).fw = s.fw := rfl
@[simp] theorem State.bump32_secure (s : State) (a n : Nat) : (s.bump32 a n).secure = s.secure := rfl

/-! `bump64` -/

@[simp] theorem State.bump64_pending (s : State) (a n : Nat) : (s.bump64 a n).pending = s.pending := rfl
@[simp] theorem State.bump64_fresh (s : State) (a n : Nat) : (s.bump64 a n).fresh = s.fresh := rfl
@[simp] theorem State.bump64_out (s : State) (a n : Nat) : (s.bump64 a n).out = s.out := rfl
@[simp] theorem State.bump64_now (s : State) (a n : Nat) : (s.bump64 a n).now = s.now := rfl
@[simp] theorem State.bump64_latch (s : State) (a n : Nat) : (s.bump64 a n).latch = s.latch := rfl
@[simp] theorem State.bump64_shadow (s : State) (a n : Nat) : (s.bump64 a n).shadow = s.shadow := rfl
@[simp] theorem State.bump64_beat (s : State) (a n : Nat) : (s.bump64 a n).beat = s.beat := rfl
@[simp] theorem State.bump64_time (s : State) (a n : Nat) : (s.bump64 a n).time = s.time := rfl
@[simp] theorem State.bump64_sessions (s : State) (a n : Nat) : (s.bump64 a n).sessions = s.sessions := rfl
@[simp] theorem State.bump64_windows (s : State) (a n : Nat) : (s.bump64 a n).windows = s.windows := rfl
@[simp] theorem State.bump64_jobs (s : State) (a n : Nat) : (s.bump64 a n).jobs = s.jobs := rfl
@[simp] theorem State.bump64_ports (s : State) (a n : Nat) : (s.bump64 a n).ports = s.ports := rfl
@[simp] theorem State.bump64_hc (s : State) (a n : Nat) : (s.bump64 a n).hc = s.hc := rfl
@[simp] theorem State.bump64_mt (s : State) (a n : Nat) : (s.bump64 a n).mt = s.mt := rfl
@[simp] theorem State.bump64_tm (s : State) (a n : Nat) : (s.bump64 a n).tm = s.tm := rfl
@[simp] theorem State.bump64_mem (s : State) (a n : Nat) : (s.bump64 a n).mem = s.mem := rfl
@[simp] theorem State.bump64_dataKey (s : State) (a n : Nat) : (s.bump64 a n).dataKey = s.dataKey := rfl
@[simp] theorem State.bump64_signer (s : State) (a n : Nat) : (s.bump64 a n).signer = s.signer := rfl
@[simp] theorem State.bump64_models (s : State) (a n : Nat) : (s.bump64 a n).models = s.models := rfl
@[simp] theorem State.bump64_flow (s : State) (a n : Nat) : (s.bump64 a n).flow = s.flow := rfl
@[simp] theorem State.bump64_cells (s : State) (a n : Nat) : (s.bump64 a n).cells = s.cells := rfl
@[simp] theorem State.bump64_copies (s : State) (a n : Nat) : (s.bump64 a n).copies = s.copies := rfl
@[simp] theorem State.bump64_fabric (s : State) (a n : Nat) : (s.bump64 a n).fabric = s.fabric := rfl
@[simp] theorem State.bump64_group (s : State) (a n : Nat) : (s.bump64 a n).group = s.group := rfl
@[simp] theorem State.bump64_bridge (s : State) (a n : Nat) : (s.bump64 a n).bridge = s.bridge := rfl
@[simp] theorem State.bump64_obs (s : State) (a n : Nat) : (s.bump64 a n).obs = s.obs := rfl
@[simp] theorem State.bump64_integ (s : State) (a n : Nat) : (s.bump64 a n).integ = s.integ := rfl
@[simp] theorem State.bump64_power (s : State) (a n : Nat) : (s.bump64 a n).power = s.power := rfl
@[simp] theorem State.bump64_module (s : State) (a n : Nat) : (s.bump64 a n).module = s.module := rfl
@[simp] theorem State.bump64_fw (s : State) (a n : Nat) : (s.bump64 a n).fw = s.fw := rfl
@[simp] theorem State.bump64_secure (s : State) (a n : Nat) : (s.bump64 a n).secure = s.secure := rfl

/-! `emit` -/

@[simp] theorem State.emit_pending (s : State) (o : Output) : (s.emit o).pending = s.pending := rfl
@[simp] theorem State.emit_fresh (s : State) (o : Output) : (s.emit o).fresh = s.fresh := rfl
@[simp] theorem State.emit_now (s : State) (o : Output) : (s.emit o).now = s.now := rfl
@[simp] theorem State.emit_regs (s : State) (o : Output) : (s.emit o).regs = s.regs := rfl
@[simp] theorem State.emit_latch (s : State) (o : Output) : (s.emit o).latch = s.latch := rfl
@[simp] theorem State.emit_shadow (s : State) (o : Output) : (s.emit o).shadow = s.shadow := rfl
@[simp] theorem State.emit_beat (s : State) (o : Output) : (s.emit o).beat = s.beat := rfl
@[simp] theorem State.emit_time (s : State) (o : Output) : (s.emit o).time = s.time := rfl
@[simp] theorem State.emit_sessions (s : State) (o : Output) : (s.emit o).sessions = s.sessions := rfl
@[simp] theorem State.emit_windows (s : State) (o : Output) : (s.emit o).windows = s.windows := rfl
@[simp] theorem State.emit_jobs (s : State) (o : Output) : (s.emit o).jobs = s.jobs := rfl
@[simp] theorem State.emit_ports (s : State) (o : Output) : (s.emit o).ports = s.ports := rfl
@[simp] theorem State.emit_hc (s : State) (o : Output) : (s.emit o).hc = s.hc := rfl
@[simp] theorem State.emit_mt (s : State) (o : Output) : (s.emit o).mt = s.mt := rfl
@[simp] theorem State.emit_tm (s : State) (o : Output) : (s.emit o).tm = s.tm := rfl
@[simp] theorem State.emit_mem (s : State) (o : Output) : (s.emit o).mem = s.mem := rfl
@[simp] theorem State.emit_dataKey (s : State) (o : Output) : (s.emit o).dataKey = s.dataKey := rfl
@[simp] theorem State.emit_signer (s : State) (o : Output) : (s.emit o).signer = s.signer := rfl
@[simp] theorem State.emit_models (s : State) (o : Output) : (s.emit o).models = s.models := rfl
@[simp] theorem State.emit_flow (s : State) (o : Output) : (s.emit o).flow = s.flow := rfl
@[simp] theorem State.emit_cells (s : State) (o : Output) : (s.emit o).cells = s.cells := rfl
@[simp] theorem State.emit_copies (s : State) (o : Output) : (s.emit o).copies = s.copies := rfl
@[simp] theorem State.emit_fabric (s : State) (o : Output) : (s.emit o).fabric = s.fabric := rfl
@[simp] theorem State.emit_group (s : State) (o : Output) : (s.emit o).group = s.group := rfl
@[simp] theorem State.emit_bridge (s : State) (o : Output) : (s.emit o).bridge = s.bridge := rfl
@[simp] theorem State.emit_obs (s : State) (o : Output) : (s.emit o).obs = s.obs := rfl
@[simp] theorem State.emit_integ (s : State) (o : Output) : (s.emit o).integ = s.integ := rfl
@[simp] theorem State.emit_power (s : State) (o : Output) : (s.emit o).power = s.power := rfl
@[simp] theorem State.emit_module (s : State) (o : Output) : (s.emit o).module = s.module := rfl
@[simp] theorem State.emit_fw (s : State) (o : Output) : (s.emit o).fw = s.fw := rfl
@[simp] theorem State.emit_secure (s : State) (o : Output) : (s.emit o).secure = s.secure := rfl
@[simp] theorem State.emit_reg (s : State) (o : Output) (r : Nat) : (s.emit o).reg r = s.reg r := rfl
@[simp] theorem State.emit_out (s : State) (o : Output) : (s.emit o).out = s.out ++ [o] := rfl

/-! `draw` -/

@[simp] theorem State.draw_pending (s : State) (k : Nat) : ((s.draw k).2).pending = s.pending := rfl
@[simp] theorem State.draw_out (s : State) (k : Nat) : ((s.draw k).2).out = s.out := rfl
@[simp] theorem State.draw_now (s : State) (k : Nat) : ((s.draw k).2).now = s.now := rfl
@[simp] theorem State.draw_regs (s : State) (k : Nat) : ((s.draw k).2).regs = s.regs := rfl
@[simp] theorem State.draw_latch (s : State) (k : Nat) : ((s.draw k).2).latch = s.latch := rfl
@[simp] theorem State.draw_shadow (s : State) (k : Nat) : ((s.draw k).2).shadow = s.shadow := rfl
@[simp] theorem State.draw_beat (s : State) (k : Nat) : ((s.draw k).2).beat = s.beat := rfl
@[simp] theorem State.draw_time (s : State) (k : Nat) : ((s.draw k).2).time = s.time := rfl
@[simp] theorem State.draw_sessions (s : State) (k : Nat) : ((s.draw k).2).sessions = s.sessions := rfl
@[simp] theorem State.draw_windows (s : State) (k : Nat) : ((s.draw k).2).windows = s.windows := rfl
@[simp] theorem State.draw_jobs (s : State) (k : Nat) : ((s.draw k).2).jobs = s.jobs := rfl
@[simp] theorem State.draw_ports (s : State) (k : Nat) : ((s.draw k).2).ports = s.ports := rfl
@[simp] theorem State.draw_hc (s : State) (k : Nat) : ((s.draw k).2).hc = s.hc := rfl
@[simp] theorem State.draw_mt (s : State) (k : Nat) : ((s.draw k).2).mt = s.mt := rfl
@[simp] theorem State.draw_tm (s : State) (k : Nat) : ((s.draw k).2).tm = s.tm := rfl
@[simp] theorem State.draw_mem (s : State) (k : Nat) : ((s.draw k).2).mem = s.mem := rfl
@[simp] theorem State.draw_dataKey (s : State) (k : Nat) : ((s.draw k).2).dataKey = s.dataKey := rfl
@[simp] theorem State.draw_signer (s : State) (k : Nat) : ((s.draw k).2).signer = s.signer := rfl
@[simp] theorem State.draw_models (s : State) (k : Nat) : ((s.draw k).2).models = s.models := rfl
@[simp] theorem State.draw_flow (s : State) (k : Nat) : ((s.draw k).2).flow = s.flow := rfl
@[simp] theorem State.draw_cells (s : State) (k : Nat) : ((s.draw k).2).cells = s.cells := rfl
@[simp] theorem State.draw_copies (s : State) (k : Nat) : ((s.draw k).2).copies = s.copies := rfl
@[simp] theorem State.draw_fabric (s : State) (k : Nat) : ((s.draw k).2).fabric = s.fabric := rfl
@[simp] theorem State.draw_group (s : State) (k : Nat) : ((s.draw k).2).group = s.group := rfl
@[simp] theorem State.draw_bridge (s : State) (k : Nat) : ((s.draw k).2).bridge = s.bridge := rfl
@[simp] theorem State.draw_obs (s : State) (k : Nat) : ((s.draw k).2).obs = s.obs := rfl
@[simp] theorem State.draw_integ (s : State) (k : Nat) : ((s.draw k).2).integ = s.integ := rfl
@[simp] theorem State.draw_power (s : State) (k : Nat) : ((s.draw k).2).power = s.power := rfl
@[simp] theorem State.draw_module (s : State) (k : Nat) : ((s.draw k).2).module = s.module := rfl
@[simp] theorem State.draw_fw (s : State) (k : Nat) : ((s.draw k).2).fw = s.fw := rfl
@[simp] theorem State.draw_secure (s : State) (k : Nat) : ((s.draw k).2).secure = s.secure := rfl
@[simp] theorem State.draw_reg (s : State) (k : Nat) (r : Nat) : ((s.draw k).2).reg r = s.reg r := rfl

/-! `drawBytes` -/

@[simp] theorem State.drawBytes_pending (s : State) (k n : Nat) : ((s.drawBytes k n).2).pending = s.pending := rfl
@[simp] theorem State.drawBytes_out (s : State) (k n : Nat) : ((s.drawBytes k n).2).out = s.out := rfl
@[simp] theorem State.drawBytes_now (s : State) (k n : Nat) : ((s.drawBytes k n).2).now = s.now := rfl
@[simp] theorem State.drawBytes_regs (s : State) (k n : Nat) : ((s.drawBytes k n).2).regs = s.regs := rfl
@[simp] theorem State.drawBytes_latch (s : State) (k n : Nat) : ((s.drawBytes k n).2).latch = s.latch := rfl
@[simp] theorem State.drawBytes_shadow (s : State) (k n : Nat) : ((s.drawBytes k n).2).shadow = s.shadow := rfl
@[simp] theorem State.drawBytes_beat (s : State) (k n : Nat) : ((s.drawBytes k n).2).beat = s.beat := rfl
@[simp] theorem State.drawBytes_time (s : State) (k n : Nat) : ((s.drawBytes k n).2).time = s.time := rfl
@[simp] theorem State.drawBytes_sessions (s : State) (k n : Nat) : ((s.drawBytes k n).2).sessions = s.sessions := rfl
@[simp] theorem State.drawBytes_windows (s : State) (k n : Nat) : ((s.drawBytes k n).2).windows = s.windows := rfl
@[simp] theorem State.drawBytes_jobs (s : State) (k n : Nat) : ((s.drawBytes k n).2).jobs = s.jobs := rfl
@[simp] theorem State.drawBytes_ports (s : State) (k n : Nat) : ((s.drawBytes k n).2).ports = s.ports := rfl
@[simp] theorem State.drawBytes_hc (s : State) (k n : Nat) : ((s.drawBytes k n).2).hc = s.hc := rfl
@[simp] theorem State.drawBytes_mt (s : State) (k n : Nat) : ((s.drawBytes k n).2).mt = s.mt := rfl
@[simp] theorem State.drawBytes_tm (s : State) (k n : Nat) : ((s.drawBytes k n).2).tm = s.tm := rfl
@[simp] theorem State.drawBytes_mem (s : State) (k n : Nat) : ((s.drawBytes k n).2).mem = s.mem := rfl
@[simp] theorem State.drawBytes_dataKey (s : State) (k n : Nat) : ((s.drawBytes k n).2).dataKey = s.dataKey := rfl
@[simp] theorem State.drawBytes_signer (s : State) (k n : Nat) : ((s.drawBytes k n).2).signer = s.signer := rfl
@[simp] theorem State.drawBytes_models (s : State) (k n : Nat) : ((s.drawBytes k n).2).models = s.models := rfl
@[simp] theorem State.drawBytes_flow (s : State) (k n : Nat) : ((s.drawBytes k n).2).flow = s.flow := rfl
@[simp] theorem State.drawBytes_cells (s : State) (k n : Nat) : ((s.drawBytes k n).2).cells = s.cells := rfl
@[simp] theorem State.drawBytes_copies (s : State) (k n : Nat) : ((s.drawBytes k n).2).copies = s.copies := rfl
@[simp] theorem State.drawBytes_fabric (s : State) (k n : Nat) : ((s.drawBytes k n).2).fabric = s.fabric := rfl
@[simp] theorem State.drawBytes_group (s : State) (k n : Nat) : ((s.drawBytes k n).2).group = s.group := rfl
@[simp] theorem State.drawBytes_bridge (s : State) (k n : Nat) : ((s.drawBytes k n).2).bridge = s.bridge := rfl
@[simp] theorem State.drawBytes_obs (s : State) (k n : Nat) : ((s.drawBytes k n).2).obs = s.obs := rfl
@[simp] theorem State.drawBytes_integ (s : State) (k n : Nat) : ((s.drawBytes k n).2).integ = s.integ := rfl
@[simp] theorem State.drawBytes_power (s : State) (k n : Nat) : ((s.drawBytes k n).2).power = s.power := rfl
@[simp] theorem State.drawBytes_module (s : State) (k n : Nat) : ((s.drawBytes k n).2).module = s.module := rfl
@[simp] theorem State.drawBytes_fw (s : State) (k n : Nat) : ((s.drawBytes k n).2).fw = s.fw := rfl
@[simp] theorem State.drawBytes_secure (s : State) (k n : Nat) : ((s.drawBytes k n).2).secure = s.secure := rfl
@[simp] theorem State.drawBytes_reg (s : State) (k n : Nat) (r : Nat) : ((s.drawBytes k n).2).reg r = s.reg r := rfl

/-! `updSession` -/

@[simp] theorem State.updSession_pending (s : State) (id : Nat) (f : Session → Session) : (s.updSession id f).pending = s.pending := rfl
@[simp] theorem State.updSession_fresh (s : State) (id : Nat) (f : Session → Session) : (s.updSession id f).fresh = s.fresh := rfl
@[simp] theorem State.updSession_out (s : State) (id : Nat) (f : Session → Session) : (s.updSession id f).out = s.out := rfl
@[simp] theorem State.updSession_now (s : State) (id : Nat) (f : Session → Session) : (s.updSession id f).now = s.now := rfl
@[simp] theorem State.updSession_regs (s : State) (id : Nat) (f : Session → Session) : (s.updSession id f).regs = s.regs := rfl
@[simp] theorem State.updSession_latch (s : State) (id : Nat) (f : Session → Session) : (s.updSession id f).latch = s.latch := rfl
@[simp] theorem State.updSession_shadow (s : State) (id : Nat) (f : Session → Session) : (s.updSession id f).shadow = s.shadow := rfl
@[simp] theorem State.updSession_beat (s : State) (id : Nat) (f : Session → Session) : (s.updSession id f).beat = s.beat := rfl
@[simp] theorem State.updSession_time (s : State) (id : Nat) (f : Session → Session) : (s.updSession id f).time = s.time := rfl
@[simp] theorem State.updSession_windows (s : State) (id : Nat) (f : Session → Session) : (s.updSession id f).windows = s.windows := rfl
@[simp] theorem State.updSession_jobs (s : State) (id : Nat) (f : Session → Session) : (s.updSession id f).jobs = s.jobs := rfl
@[simp] theorem State.updSession_ports (s : State) (id : Nat) (f : Session → Session) : (s.updSession id f).ports = s.ports := rfl
@[simp] theorem State.updSession_hc (s : State) (id : Nat) (f : Session → Session) : (s.updSession id f).hc = s.hc := rfl
@[simp] theorem State.updSession_mt (s : State) (id : Nat) (f : Session → Session) : (s.updSession id f).mt = s.mt := rfl
@[simp] theorem State.updSession_tm (s : State) (id : Nat) (f : Session → Session) : (s.updSession id f).tm = s.tm := rfl
@[simp] theorem State.updSession_mem (s : State) (id : Nat) (f : Session → Session) : (s.updSession id f).mem = s.mem := rfl
@[simp] theorem State.updSession_dataKey (s : State) (id : Nat) (f : Session → Session) : (s.updSession id f).dataKey = s.dataKey := rfl
@[simp] theorem State.updSession_signer (s : State) (id : Nat) (f : Session → Session) : (s.updSession id f).signer = s.signer := rfl
@[simp] theorem State.updSession_models (s : State) (id : Nat) (f : Session → Session) : (s.updSession id f).models = s.models := rfl
@[simp] theorem State.updSession_flow (s : State) (id : Nat) (f : Session → Session) : (s.updSession id f).flow = s.flow := rfl
@[simp] theorem State.updSession_cells (s : State) (id : Nat) (f : Session → Session) : (s.updSession id f).cells = s.cells := rfl
@[simp] theorem State.updSession_copies (s : State) (id : Nat) (f : Session → Session) : (s.updSession id f).copies = s.copies := rfl
@[simp] theorem State.updSession_fabric (s : State) (id : Nat) (f : Session → Session) : (s.updSession id f).fabric = s.fabric := rfl
@[simp] theorem State.updSession_group (s : State) (id : Nat) (f : Session → Session) : (s.updSession id f).group = s.group := rfl
@[simp] theorem State.updSession_bridge (s : State) (id : Nat) (f : Session → Session) : (s.updSession id f).bridge = s.bridge := rfl
@[simp] theorem State.updSession_obs (s : State) (id : Nat) (f : Session → Session) : (s.updSession id f).obs = s.obs := rfl
@[simp] theorem State.updSession_integ (s : State) (id : Nat) (f : Session → Session) : (s.updSession id f).integ = s.integ := rfl
@[simp] theorem State.updSession_power (s : State) (id : Nat) (f : Session → Session) : (s.updSession id f).power = s.power := rfl
@[simp] theorem State.updSession_module (s : State) (id : Nat) (f : Session → Session) : (s.updSession id f).module = s.module := rfl
@[simp] theorem State.updSession_fw (s : State) (id : Nat) (f : Session → Session) : (s.updSession id f).fw = s.fw := rfl
@[simp] theorem State.updSession_secure (s : State) (id : Nat) (f : Session → Session) : (s.updSession id f).secure = s.secure := rfl
@[simp] theorem State.updSession_reg (s : State) (id : Nat) (f : Session → Session) (r : Nat) : (s.updSession id f).reg r = s.reg r := rfl
@[simp] theorem State.updSession_sessions (s : State) (id : Nat) (f : Session → Session) :
    (s.updSession id f).sessions = s.sessions.map (fun x => if x.id = id then f x else x) := rfl

/-! `advance` -/

@[simp] theorem State.advance_pending (s : State) (t : Nat) : (advance t s).pending = s.pending := rfl
@[simp] theorem State.advance_fresh (s : State) (t : Nat) : (advance t s).fresh = s.fresh := rfl
@[simp] theorem State.advance_out (s : State) (t : Nat) : (advance t s).out = s.out := rfl
@[simp] theorem State.advance_regs (s : State) (t : Nat) : (advance t s).regs = s.regs := rfl
@[simp] theorem State.advance_latch (s : State) (t : Nat) : (advance t s).latch = s.latch := rfl
@[simp] theorem State.advance_shadow (s : State) (t : Nat) : (advance t s).shadow = s.shadow := rfl
@[simp] theorem State.advance_beat (s : State) (t : Nat) : (advance t s).beat = s.beat := rfl
@[simp] theorem State.advance_sessions (s : State) (t : Nat) : (advance t s).sessions = s.sessions := rfl
@[simp] theorem State.advance_windows (s : State) (t : Nat) : (advance t s).windows = s.windows := rfl
@[simp] theorem State.advance_jobs (s : State) (t : Nat) : (advance t s).jobs = s.jobs := rfl
@[simp] theorem State.advance_ports (s : State) (t : Nat) : (advance t s).ports = s.ports := rfl
@[simp] theorem State.advance_hc (s : State) (t : Nat) : (advance t s).hc = s.hc := rfl
@[simp] theorem State.advance_mt (s : State) (t : Nat) : (advance t s).mt = s.mt := rfl
@[simp] theorem State.advance_tm (s : State) (t : Nat) : (advance t s).tm = s.tm := rfl
@[simp] theorem State.advance_mem (s : State) (t : Nat) : (advance t s).mem = s.mem := rfl
@[simp] theorem State.advance_dataKey (s : State) (t : Nat) : (advance t s).dataKey = s.dataKey := rfl
@[simp] theorem State.advance_signer (s : State) (t : Nat) : (advance t s).signer = s.signer := rfl
@[simp] theorem State.advance_models (s : State) (t : Nat) : (advance t s).models = s.models := rfl
@[simp] theorem State.advance_flow (s : State) (t : Nat) : (advance t s).flow = s.flow := rfl
@[simp] theorem State.advance_cells (s : State) (t : Nat) : (advance t s).cells = s.cells := rfl
@[simp] theorem State.advance_copies (s : State) (t : Nat) : (advance t s).copies = s.copies := rfl
@[simp] theorem State.advance_fabric (s : State) (t : Nat) : (advance t s).fabric = s.fabric := rfl
@[simp] theorem State.advance_group (s : State) (t : Nat) : (advance t s).group = s.group := rfl
@[simp] theorem State.advance_bridge (s : State) (t : Nat) : (advance t s).bridge = s.bridge := rfl
@[simp] theorem State.advance_obs (s : State) (t : Nat) : (advance t s).obs = s.obs := rfl
@[simp] theorem State.advance_integ (s : State) (t : Nat) : (advance t s).integ = s.integ := rfl
@[simp] theorem State.advance_power (s : State) (t : Nat) : (advance t s).power = s.power := rfl
@[simp] theorem State.advance_module (s : State) (t : Nat) : (advance t s).module = s.module := rfl
@[simp] theorem State.advance_fw (s : State) (t : Nat) : (advance t s).fw = s.fw := rfl
@[simp] theorem State.advance_secure (s : State) (t : Nat) : (advance t s).secure = s.secure := rfl
@[simp] theorem State.advance_reg (s : State) (t : Nat) (r : Nat) : (advance t s).reg r = s.reg r := rfl
@[simp] theorem State.advance_now (s : State) (t : Nat) : (advance t s).now = max s.now t := rfl

/-! `raise` -/

@[simp] theorem State.raise_pending (s : State) (a v : Nat) : (s.raise a v).pending = s.pending := by unfold State.raise; split <;> rfl
@[simp] theorem State.raise_fresh (s : State) (a v : Nat) : (s.raise a v).fresh = s.fresh := by unfold State.raise; split <;> rfl
@[simp] theorem State.raise_out (s : State) (a v : Nat) : (s.raise a v).out = s.out := by unfold State.raise; split <;> rfl
@[simp] theorem State.raise_now (s : State) (a v : Nat) : (s.raise a v).now = s.now := by unfold State.raise; split <;> rfl
@[simp] theorem State.raise_latch (s : State) (a v : Nat) : (s.raise a v).latch = s.latch := by unfold State.raise; split <;> rfl
@[simp] theorem State.raise_shadow (s : State) (a v : Nat) : (s.raise a v).shadow = s.shadow := by unfold State.raise; split <;> rfl
@[simp] theorem State.raise_beat (s : State) (a v : Nat) : (s.raise a v).beat = s.beat := by unfold State.raise; split <;> rfl
@[simp] theorem State.raise_time (s : State) (a v : Nat) : (s.raise a v).time = s.time := by unfold State.raise; split <;> rfl
@[simp] theorem State.raise_sessions (s : State) (a v : Nat) : (s.raise a v).sessions = s.sessions := by unfold State.raise; split <;> rfl
@[simp] theorem State.raise_windows (s : State) (a v : Nat) : (s.raise a v).windows = s.windows := by unfold State.raise; split <;> rfl
@[simp] theorem State.raise_jobs (s : State) (a v : Nat) : (s.raise a v).jobs = s.jobs := by unfold State.raise; split <;> rfl
@[simp] theorem State.raise_ports (s : State) (a v : Nat) : (s.raise a v).ports = s.ports := by unfold State.raise; split <;> rfl
@[simp] theorem State.raise_hc (s : State) (a v : Nat) : (s.raise a v).hc = s.hc := by unfold State.raise; split <;> rfl
@[simp] theorem State.raise_mt (s : State) (a v : Nat) : (s.raise a v).mt = s.mt := by unfold State.raise; split <;> rfl
@[simp] theorem State.raise_tm (s : State) (a v : Nat) : (s.raise a v).tm = s.tm := by unfold State.raise; split <;> rfl
@[simp] theorem State.raise_mem (s : State) (a v : Nat) : (s.raise a v).mem = s.mem := by unfold State.raise; split <;> rfl
@[simp] theorem State.raise_dataKey (s : State) (a v : Nat) : (s.raise a v).dataKey = s.dataKey := by unfold State.raise; split <;> rfl
@[simp] theorem State.raise_signer (s : State) (a v : Nat) : (s.raise a v).signer = s.signer := by unfold State.raise; split <;> rfl
@[simp] theorem State.raise_models (s : State) (a v : Nat) : (s.raise a v).models = s.models := by unfold State.raise; split <;> rfl
@[simp] theorem State.raise_flow (s : State) (a v : Nat) : (s.raise a v).flow = s.flow := by unfold State.raise; split <;> rfl
@[simp] theorem State.raise_cells (s : State) (a v : Nat) : (s.raise a v).cells = s.cells := by unfold State.raise; split <;> rfl
@[simp] theorem State.raise_copies (s : State) (a v : Nat) : (s.raise a v).copies = s.copies := by unfold State.raise; split <;> rfl
@[simp] theorem State.raise_fabric (s : State) (a v : Nat) : (s.raise a v).fabric = s.fabric := by unfold State.raise; split <;> rfl
@[simp] theorem State.raise_group (s : State) (a v : Nat) : (s.raise a v).group = s.group := by unfold State.raise; split <;> rfl
@[simp] theorem State.raise_bridge (s : State) (a v : Nat) : (s.raise a v).bridge = s.bridge := by unfold State.raise; split <;> rfl
@[simp] theorem State.raise_obs (s : State) (a v : Nat) : (s.raise a v).obs = s.obs := by unfold State.raise; split <;> rfl
@[simp] theorem State.raise_integ (s : State) (a v : Nat) : (s.raise a v).integ = s.integ := by unfold State.raise; split <;> rfl
@[simp] theorem State.raise_power (s : State) (a v : Nat) : (s.raise a v).power = s.power := by unfold State.raise; split <;> rfl
@[simp] theorem State.raise_module (s : State) (a v : Nat) : (s.raise a v).module = s.module := by unfold State.raise; split <;> rfl
@[simp] theorem State.raise_fw (s : State) (a v : Nat) : (s.raise a v).fw = s.fw := by unfold State.raise; split <;> rfl
@[simp] theorem State.raise_secure (s : State) (a v : Nat) : (s.raise a v).secure = s.secure := by unfold State.raise; split <;> rfl

end Sys2Proof.Machine
end

