-- ==== Sys2Proof/Laws/Commands.lean ====
section
/-!
SUPPORT. What running a command does: a command that is `ready` runs its own action on the state `begun` leaves and is settled.
-/
namespace Sys2Proof.Machine

@[simp] theorem State.tenantExists_updSession (s : State) (id : Nat) (f : Session → Session) (t : Nat) :
    (s.updSession id f).tenantExists t = s.tenantExists t := rfl

theorem State.find_map_id (l : List Session) (f : Session → Session) (id j : Nat) (hf : ∀ y, (f y).id = y.id) :
    (l.map (fun x => if x.id = id then f x else x)).find? (fun x => x.id == j) =
      (l.find? (fun x => x.id == j)).map (fun x => if x.id = id then f x else x) := by
  induction l with
  | nil => rfl
  | cons y l ih =>
    have hy : (if y.id = id then f y else y).id = y.id := by split <;> simp [hf]
    simp only [List.map_cons, List.find?_cons, hy]
    split
    · rfl
    · exact ih

/-- Taking a command from the mailbox touches the bridge and the ingress FIFO alone (R328). -/
@[simp] theorem takeMailbox_regs (s : State) : (takeMailbox s).regs = s.regs := by
  unfold takeMailbox
  split
  · rfl
  · split <;> rfl

@[simp] theorem takeMailbox_reg (s : State) (a : Nat) : (takeMailbox s).reg a = s.reg a := by simp [State.reg]

@[simp] theorem takeMailbox_mem (s : State) : (takeMailbox s).mem = s.mem := by
  unfold takeMailbox
  split
  · rfl
  · split <;> rfl

@[simp] theorem takeMailbox_sessions (s : State) : (takeMailbox s).sessions = s.sessions := by
  unfold takeMailbox
  split
  · rfl
  · split <;> rfl

/-- What a session reads as after an update that keeps its identifier. -/
theorem State.session_updSession (s : State) (id j : Nat) (f : Session → Session) (hf : ∀ y, (f y).id = y.id) :
    (s.updSession id f).session j = (s.session j).map (fun x => if x.id = id then f x else x) :=
  State.find_map_id s.sessions f id j hf

/-- The session that is found has the identifier asked for. -/
theorem State.session_id {s : State} {j : Nat} {x : Session} (h : s.session j = some x) : x.id = j := by
  have := List.find?_some h
  simpa using this

/-- A command whose header nothing refuses runs its action and its reply leaves. -/
theorem runOne_permitted (f : CmdFn) (op : Nat) (c : Cmd) (x : Session) (p : Bytes) (s0 b : State)
    (hb : b = (s0.updSession x.id (fun y => { y with e := x.e + 1 })).bump64 Addr.CMD_EXECUTED)
    (hr : b.tenantRefused x c.tenant = false) (h1 : op ≠ 0x0A0A) (h2 : op ≠ 0x0004) :
    runOne f x { seq := x.e + 1, opcode := op, tag := c.tag, tenant := c.tenant, params := p, bad := 0 } s0 =
      (let r := f (envOf c x) p b
       let t1 := r.2.updSession x.id (fun y => { y with cache := ((x.e + 1, replyOf op c x r.1 r.2.device) :: y.cache).take replyCache })
       if b.bridge.busy ∧ !t1.bridge.busy then t1.emit (.reply (replyOf op c x r.1 r.2.device))
       else sendReply (replyOf op c x r.1 r.2.device) t1) := by
  have hbusy : s0.bridge = b.bridge := by rw [hb]; rfl
  unfold runOne
  simp only [ne_eq, not_true_eq_false, ↓reduceIte, h1, false_and, h2, ← hb, hr, Bool.false_eq_true, hbusy]
  rfl

/-- A command that is ready runs its own action from `begun` and is settled; SESSION_CLOSE and ZEROISE apart, whose end R351 and
R462 give. -/
theorem runCommand_ready (f : CmdFn) (op : Nat) (c : Cmd) (p : Bytes) (x : Session) (s : State) (h : ready c x s = true)
    (h1 : op ≠ 0x0A0A) (h2 : op ≠ 0x0004) :
    runCommand f op c p s =
      settle op c x (f (envOf c x) p (begun c x s)).1 (begun c x s) (f (envOf c x) p (begun c x s)).2 := by
  simp only [ready, Bool.and_eq_true, decide_eq_true_eq, Bool.not_eq_true'] at h
  obtain ⟨⟨⟨⟨⟨ha, hs⟩, hi⟩, ht⟩, hc⟩, hr⟩ := h
  have he : expireIdle c.session (advance c.t s) = advance c.t s := by
    simp [expireIdle, hs, hi]
  have hbad : tenantBad c.tenant = 0 := by simp [tenantBad]; omega
  have hbr : (begun c x s).tenantRefused x c.tenant = false := by
    have hne : Addr.TENANT_EXISTS (c.tenant / 32) ≠ Addr.CMD_EXECUTED := by
      simp only [Addr.TENANT_EXISTS, Addr.CMD_EXECUTED]; omega
    have hreg : (begun c x s).reg (Addr.TENANT_EXISTS (c.tenant / 32)) = s.reg (Addr.TENANT_EXISTS (c.tenant / 32)) := by
      unfold begun
      simp only [State.bump64, State.reg_setReg_other hne, State.updSession_reg]
      split <;> simp [State.reg]
    have hx : (begun c x s).tenantExists c.tenant = (advance c.t s).tenantExists c.tenant := by
      simp [State.tenantExists, State.flag, hreg]
    simpa [State.tenantRefused, hx] using hr
  unfold runCommand
  simp only [ha, Bool.not_true, Bool.false_eq_true, ↓reduceIte, he, hs, ht, hbad]
  rw [runOne_permitted f op c x p _ (begun c x s) rfl hbr h1 h2]
  rfl

/-- A row whose meaning is a command's completes wherever its action answers as asked. -/
theorem completes_of {i : Instr} {f : CmdFn} {op : Nat} {c : Cmd} {x : Session} {p : Bytes} {s : State} {r : Reply} {P : State → Prop}
    (hi : exec i s = .next (runCommand f op c p s)) (h : ready c x s = true) (h1 : op ≠ 0x0A0A) (h2 : op ≠ 0x0004)
    (hr : (f (envOf c x) p (begun c x s)).1 = r) (hP : P (f (envOf c x) p (begun c x s)).2) : completes i op c x s r P :=
  ⟨_, by rw [hi, runCommand_ready f op c p x s h h1 h2, hr], hP⟩

end Sys2Proof.Machine
end

