-- ==== Sys2Proof/Laws/Memory.lean ====
section
/-!
SUPPORT. The laws of device memory: a byte reads what was written to it, a write leaves every other byte alone, and every
memory operation keeps the canonical form.
-/
namespace Sys2Proof.Machine

@[simp] theorem memByte_memPut_same (m : MemState) (a : Nat) (b : Byte) : memByte (memPut m a b) a = b := by
  simp [memByte, memPut]

theorem memByte_memPut_other {a c : Nat} (h : c ≠ a) (m : MemState) (b : Byte) : memByte (memPut m a b) c = memByte m c := by
  simp [memByte, memPut, tabGet_tabSet_other h]

/-- A write of consecutive bytes leaves the bytes outside them alone. -/
theorem memByte_memWrite_outside (m : MemState) (a c : Nat) (bs : Bytes) (h : c < a ∨ a + bs.length ≤ c) :
    memByte (memWrite m a bs) c = memByte m c := by
  induction bs generalizing m a with
  | nil => rfl
  | cons b bs ih =>
    have hl : (b :: bs).length = bs.length + 1 := rfl
    rw [memWrite, ih _ _ (by omega), memByte_memPut_other (by omega)]

/-- A write of consecutive bytes: each byte reads what was written. -/
theorem memByte_memWrite_inside (m : MemState) (a : Nat) (bs : Bytes) (i : Nat) (h : i < bs.length) :
    memByte (memWrite m a bs) (a + i) = bs.getD i 0#8 := by
  induction bs generalizing m a i with
  | nil => simp at h
  | cons b bs ih =>
    cases i with
    | zero =>
      rw [memWrite, memByte_memWrite_outside _ _ _ _ (by omega)]
      simp
    | succ i =>
      have := ih (memPut m a b) (a + 1) i (by simpa using h)
      rw [memWrite, show a + (i + 1) = a + 1 + i by omega, this]
      simp

theorem memWrite_keyOf (m : MemState) (a : Nat) (bs : Bytes) : (memWrite m a bs).keyOf = m.keyOf := by
  induction bs generalizing m a with
  | nil => rfl
  | cons b bs ih => rw [memWrite, ih]; rfl

@[simp] theorem memMark_bytes (m : MemState) (a n key : Nat) : (memMark m a n key).bytes = m.bytes := rfl

theorem Memory.wf_memPut (m : MemState) (a : Nat) (b : Byte) (h : Memory.wf m = true) : Memory.wf (memPut m a b) = true :=
  tabWf_tabSet (fun _ => 0#8) a b m.bytes h

theorem Memory.wf_memWrite (m : MemState) (a : Nat) (bs : Bytes) (h : Memory.wf m = true) : Memory.wf (memWrite m a bs) = true := by
  induction bs generalizing m a with
  | nil => exact h
  | cons b bs ih => exact ih _ _ (Memory.wf_memPut m a b h)

theorem Memory.wf_memMark (m : MemState) (a n key : Nat) (h : Memory.wf m = true) : Memory.wf (memMark m a n key) = true := h

theorem Memory.wf_writeBytes (s : State) (t a : Nat) (bs : Bytes) (h : Memory.wf s.mem = true) :
    Memory.wf (s.writeBytes t a bs).mem = true :=
  Memory.wf_memMark _ _ _ _ (Memory.wf_memWrite s.mem a bs h)

/-- The memory after reset is canonical. -/
theorem Memory.wf_reset : Memory.wf State.reset.mem = true := rfl

/-- A write of bytes leaves the bytes outside them alone. -/
theorem State.memByte_writeBytes_outside (s : State) (t a c : Nat) (bs : Bytes) (h : c < a ∨ a + bs.length ≤ c) :
    memByte (s.writeBytes t a bs).mem c = memByte s.mem c :=
  memByte_memWrite_outside s.mem a c bs h

end Sys2Proof.Machine
end

