-- ==== Sys2Proof/Tests/Slice0.lean ====
section
/-!
SUPPORT. Tests. A small booted device and what is set on it for each row; the ill-formed terms that WellFormed refuses; header-core words written
out from the fields of R100; and, for each statement, the states and operands that meet its hypotheses (meets_…), most with the effect that a step on
them has. Expected values are computed by hand from the spec's tables and rules.
-/
namespace Sys2Proof.Tests
set_option Elab.async false
open Sys2Proof Sys2Proof.Machine

/-- The state a command leads to; the reset state where it stops. -/
def nx : Host.Outcome State Fault Refusal → State
  | .next s => s
  | _ => State.reset
/-- The state a command leads to from a state. -/
def go (i : Instr) (s : State) : State := nx (exec i s)
/-- Whether a command answers a next state. -/
def runs (i : Instr) (s : State) : Bool :=
  match exec i s with
  | .next _ => true
  | _ => false
/-- The last reply that left. -/
def lastReply (s : State) : Option (Nat × Bytes) :=
  s.out.reverse.findSome? (fun o => match o with
    | .reply p => some (p.status, p.params)
    | _ => none)
/-- The status of the last reply. -/
def lastStatus (s : State) : Option Nat := (lastReply s).map Prod.fst
/-- A session of the owner and one of tenant 5, on the management port. -/
def own : Session := { id := 1, tenant := 0, transport := .mgmt, peer := 7, key := [], lastAuth := 0 }
def ten : Session := { id := 2, tenant := 5, transport := .mgmt, peer := 8, key := [], lastAuth := 0 }
/-- A device whose firmware runs, with tenants 0 and 5 and the two sessions. -/
def up : State := makeTenant 5 (makeTenant 0 { (State.reset.setField Addr.FW_STATE 0 3 1).setFlag Addr.SEC_STATUS 3 true with sessions := [own, ten] })
/-- Their commands, four seconds after reset. -/
def c0 : Cmd := ⟨secs 4, 1, 0, 9⟩
def c5 : Cmd := ⟨secs 4, 2, 5, 9⟩
/-- The action states of those commands. -/
def b0 (s : State) : State := begun c0 own s
def b5 (s : State) : State := begun c5 ten s

theorem test_ready : ready c0 own up = true ∧ ready c5 ten up = true := by decide +kernel

/-! Sessions -/

theorem test_step_idles : step State.reset = .next State.reset := rfl
theorem test_step_takes_front (i j : Instr) : step { up with pending := [i, j] } = exec i { up with pending := [j] } := rfl

/-- SESSION_OPEN of the owner. -/
def hand0 : Hand := ⟨secs 4, .mgmt, 7, 0, 9, 0, false⟩
theorem meets_session_open : up.answers = true ∧ (advance hand0.t up).transportOn hand0.transport = true ∧ handBad hand0 = false ∧
    (zeros 129).length = 129 ∧ up.flag Addr.SEC_STATUS 3 = true ∧ up.mayHandshake 0 = true ∧ (advance hand0.t up).lockedOut 0 = false ∧
    up.quotaFree 0 = true ∧ up.placeFree 0 = true ∧ up.secure.handshakes.length < 16 := by decide +kernel
/-- SESSION_KEY of the owner's pending handshake 77. -/
def pendingHand : Handshake := ⟨77, 0, .mgmt, 7, secs 1, []⟩
def withHand : State := { up with secure.handshakes := [pendingHand] }
def keyParams : Bytes := toBE 4 77 ++ zeros 1092 ++ zeros sigBytes
theorem meets_session_key : (withHand.answers = true ∧ (advance hand0.t withHand).transportOn .mgmt = true ∧ handBad hand0 = false ∧
    be keyParams 1092 4 = 0) ∧ (withHand.secure.handshakes.find? (fun k => k.id == 77 && k.transport == .mgmt && k.peer == 7 && k.tenant == 0 &&
      decide (max withHand.now hand0.t < k.opened + secs 30)) = some pendingHand ∧ withHand.placeFree 0 = true ∧ withHand.quotaFree 0 = true) := by decide +kernel
theorem test_key_params_length : keyParams.length = 1096 + 0 + sigBytes := by decide +kernel

theorem meets_session_commands : ready c0 own up = true ∧ be (toBE 4 2) 0 4 ≠ own.id ∧ ((advance c0.t up).session 2).isSome = true ∧
    ((advance c0.t up).session 1).any (fun y => y.tenant == owner && y.transport == .mgmt) = true := by decide +kernel
theorem test_session_close : (go (.sessionClose c0 (zeros 4)) up).session 1 = none ∧ (go (.sessionClose c0 (toBE 4 2)) up).session 2 = none := by decide +kernel
theorem test_device_info : lastReply (go (.deviceInfo c5 []) up) =
    some (0, toBE 4 (up.reg Addr.DEVICE_ID) ++ toBE 4 (up.reg Addr.CAPS) ++ toBE 8 (up.reg Addr.SERIAL) ++ toBE 4 (up.reg Addr.FW_VERSION) ++ zeros 4) := by decide +kernel
theorem test_echo : lastReply (go (.echo c5 [1#8, 2#8]) up) = some (0, [1#8, 2#8]) := by decide +kernel
theorem test_event_subscribe : ((go (.eventSubscribe c5 (toLE 32 6)) up).session 2).map Session.mask = some 6#256 := by decide +kernel
theorem test_event_sink : (go (.eventSink c0 (toBE 4 1)) up).reg Addr.EVENT_SINK = 1 := by decide +kernel
/-- DEVICE_INFO with reserved parameters is refused (R348). -/
theorem test_device_info_refused : lastStatus (go (.deviceInfo c5 [0#8]) up) = some St.BAD_PARAM := by decide +kernel
/-- A tenant's command that names another tenant is refused (R349). -/
theorem test_other_tenant : lastStatus (go (.echo ⟨secs 4, 2, 0, 9⟩ []) up) = some St.NOT_PERMITTED := by decide +kernel

/-- A command packet of session 2 with SEQ n: ECHO without parameters, its tag zeros. -/
def echoPacket (n : Nat) : Bytes :=
  toBE 1 1 ++ toBE 1 2 ++ toBE 2 8 ++ toBE 4 9 ++ toBE 2 5 ++ toBE 2 0xFFFF ++ toBE 4 0 ++ toBE 4 0 ++ toBE 4 2 ++ toBE 8 n ++ zeros 16
theorem meets_command_packet : up.limik = true ∧ up.secError = false ∧ wellFormedPacket (echoPacket 1) (header1 (echoPacket 1)) = true ∧
    up.ingressTurn .mgmt (echoPacket 1) = true ∧ 8192 ≤ (header1 (echoPacket 1)).target ∧ (header1 (echoPacket 1)).session = 2 ∧ (header1 (echoPacket 1)).tagged = true ∧
    (takeIngress .mgmt (echoPacket 1) (advance 0 up)).any (fun s0 => let s1 := noteRead (ingressFifo .mgmt) {} s0
      s1.session 2 == some ten && !s1.idleOver ten && s1.transportOn .mgmt && !s1.secError && (s1.relayOf .mgmt (echoPacket 1)).isNone) = true := by decide +kernel
/-- The owner's session after SEQ 3, with SEQ 6 held and the reply of SEQ 2 kept. -/
def own3 : Session := { own with e := 3, held := [⟨6, 8, 9, 0, [], 0⟩], cache := [(2, ⟨.mgmt, 7, 1, 8, 9, 0, 2, 0, true, [], []⟩)] }
theorem meets_seq_order : (own3.e + 64 < 68 ∧ (1 ≤ own3.e ∧ ∀ c ∈ own3.cache, c.1 ≠ 1) ∧ (own3.e + 1 < 6 ∧ own3.held.any (fun q => q.seq == 6) = true)) ∧
    (2 ≤ own3.e ∧ (own3.cache.find? (fun c => c.1 == 2)).isSome = true) ∧
    (own3.e + 1 < 67 ∧ 67 ≤ own3.e + 64 ∧ own3.held.any (fun q => q.seq == 67) = false) := by decide
theorem test_seq_held : ((arriveInOrder own3 { header1 (echoPacket 67) with seq := 67 } [] { up with sessions := [own3] }).session 1).map (fun y => (y.e, y.held.length)) =
    some (3, 2) := by decide +kernel
theorem test_seq_replayed : (arriveInOrder own3 (header1 (echoPacket 2)) [] { up with sessions := [own3] }).reg Addr.CMD_REPLAYED = 1 := by decide +kernel
/-- SEQ 4 and then SEQ 5 let the held SEQ 6 run. -/
theorem test_seq_runs : ((arriveInOrder { own3 with e := 4 } (header1 (echoPacket 5)) [] { up with sessions := [{ own3 with e := 4 }] }).session 1).map (fun y => (y.e, y.held.length)) =
    some (6, 0) := by decide +kernel

theorem meets_settling : ∀ y, up.session own.id = some y → ∀ k ∈ y.held, k.seq ≠ y.e + 1 := by
  intro y h
  have : up.session own.id = some own := by decide +kernel
  rw [this] at h; cases h; decide
/-- A session of the fabric, and one whose mailbox request was there at a function-level reset. -/
theorem meets_settling_kinds : ({ own with transport := .fabric } : Session).transport = .fabric ∧ ({ up with bridge.mute := true } : State).bridge.mute = true ∧
    up.bridge.mute = false := by decide +kernel
def mergedEvent : Event := { opcode := 0xFF24, tenant := 0, count := 3 }
def withWindow : State := { up with windows := [⟨4, 10, ms 1, mergedEvent⟩] }
def lockedState : State := ({ up with secure.lockUntil := [(5, secs 60)] }).setFlag (Addr.T_STATE 5) 4 true
theorem meets_session_clocks : (withWindow.window 0xFF24 4).isSome = true ∧ withWindow.on = true ∧ 10 + ms 1 ≤ secs 1 ∧
    (up.limik = true ∧ up.session 2 = some ten ∧ ten.lastAuth + secs (up.reg Addr.SESSION_IDLE) ≤ secs 100000) ∧
    (pendingHand ∈ withHand.secure.handshakes ∧ pendingHand.opened + secs 30 ≤ secs 31) ∧
    tabFind 5 lockedState.secure.lockUntil = some (secs 60) := by decide +kernel
theorem test_session_idle : (go (.sessionIdleExpiry (secs 100000) 2) up).session 2 = none := by decide +kernel
theorem test_handshake_expiry : (go (.handshakeExpiry (secs 31) 77) withHand).secure.handshakes = [] := by decide +kernel
theorem test_lockout_expiry : (go (.lockoutExpiry (secs 60) 5) lockedState).lockedOut 5 = false := by decide +kernel
theorem test_event_window : (go (.eventWindowClose (secs 1) 0xFF24 4) withWindow).windows = [] := by decide +kernel
/-- A full queue of tenant 5's session, and one with two places free after a loss. -/
def fullQueue : Session := { ten with queue := List.replicate 4096 (1, mergedEvent), eseq := 4096 }
def afterLoss : Session := { ten with queue := [], eseq := 4096, lost := 2, lostAt := some (3, 4) }
theorem meets_event_queues : (ten.lost = 0 ∧ ten.queue.length < 4096) ∧ (0 < afterLoss.lost ∧ afterLoss.queue.length + 2 ≤ 4096) ∧
    (0 < afterLoss.lost ∧ 4096 < ({ afterLoss with queue := fullQueue.queue } : Session).queue.length + 2) ∧
    (fullQueue.lost = 0 ∧ 4096 ≤ fullQueue.queue.length) := by decide +kernel
theorem test_event_loss : (enqueueEvent (9, 9) mergedEvent fullQueue).lost = 1 ∧ ((enqueueEvent (9, 9) mergedEvent afterLoss).queue.map (fun q => (q.1, q.2.opcode))) =
    [(4097, 0xFF02), (4098, 0xFF24)] ∧ (enqueueEvent (9, 9) mergedEvent fullQueue).lostAt = some (9, 9) := by decide +kernel
theorem meets_event_delivery : ∀ x ∈ ([] : List Session), up.transportOn x.transport = false := by decide

/-! Registers -/

theorem meets_csr : csrOk (toBE 4 0x20020 ++ toBE 2 1 ++ zeros 2) = true ∧ zerosAt (toBE 4 0x20020 ++ toBE 2 1 ++ zeros 2) 6 2 = true ∧
    readWords (readWord (envOf c0 own)) 0x20020 1 (b0 up) = (St.OK, [2400], b0 up) ∧
    readWords (readShadow (envOf c0 own)) 0x20020 1 (b0 up) = (St.OK, [0], b0 up) ∧
    ((writeWords (envOf c0 own) Addr.TJ_LIMIT [90] (b0 up)).1 = St.OK ∧ (writeWords (envOf c0 own) Addr.TJ_LIMIT [90, 200] (b0 up)).1 ≠ St.OK) := by decide +kernel
theorem meets_csr_modify : Addr.TEST_INTERVAL % 4 = 0 ∧ (blockIn Addr.TEST_INTERVAL blocks).isSome = true ∧
    (b0 up).mayWriteWord (envOf c0 own) Addr.TEST_INTERVAL = true ∧ ((locate Addr.TEST_INTERVAL).map (fun l => l.row.acc)) = some .rw ∧
    ((locate Addr.DEVICE_ID).map (fun l => l.row.acc)) = some .ro ∧ (b0 up).mayWriteWord (envOf c0 own) Addr.DEVICE_ID = true := by decide +kernel
theorem test_csr_read : lastReply (go (.csrRead c0 (toBE 4 0x20020 ++ toBE 2 1 ++ zeros 2)) up) = some (0, toBE 2 1 ++ zeros 2 ++ toBE 4 2400) := by decide +kernel
theorem test_csr_write : (go (.csrWrite c0 (toBE 4 Addr.TJ_LIMIT ++ toBE 2 1 ++ zeros 2 ++ toBE 4 90)) up).reg Addr.TJ_LIMIT = 90 := by decide +kernel
theorem test_csr_modify : (go (.csrModify c0 (toBE 4 Addr.TJ_LIMIT ++ toBE 4 1 ++ toBE 4 1)) (up.setReg Addr.TJ_LIMIT 90)).reg Addr.TJ_LIMIT = 91 := by decide +kernel
theorem test_counter_read : lastReply (go (.counterRead c0 (toBE 4 0x20020 ++ toBE 2 1 ++ [1#8, 0#8])) up) =
    some (0, toBE 2 1 ++ zeros 2 ++ toBE 4 0 ++ toBE 4 0) := by decide +kernel
theorem meets_plain_register : (locate Addr.TJ_LIMIT).any (fun l => l.row.acc == .rw && l.block == .power && l.row.accepts (l.merged 90 (b0 up)) && !l.row.accepts (l.merged 0 (b0 up))) = true ∧
    (b0 up).mayWriteWord (envOf c0 own) Addr.TJ_LIMIT = true := by decide +kernel
theorem test_register_write : (go (.registerWrite c0 Addr.TJ_LIMIT 91#32) up).reg Addr.TJ_LIMIT = 91 ∧
    lastStatus (go (.registerWrite c0 Addr.TJ_LIMIT 0#32) up) = some St.BAD_PARAM := by decide +kernel
/-- A device with an ENERGY above 2^32 and one with a packet in the header-to-stage FIFO of core 0. -/
def energetic : State := up.setReg Addr.ENERGY (2 ^ 32 + 5)
theorem meets_lo_read : (locate Addr.ENERGY).any (fun l => l.row.pair && !l.hiHalf && l.row.acc != .wo) = true ∧ (b0 up).mayReadWord (envOf c0 own) Addr.ENERGY = true := by decide +kernel
theorem test_lo_read : lastReply (go (.loRegisterRead c0 Addr.ENERGY) energetic) = some (0, toBE 2 1 ++ zeros 2 ++ toBE 4 5) ∧
    (go (.loRegisterRead c0 Addr.ENERGY) energetic).latched (Addr.ENERGY + 4) = 1 := by decide +kernel
theorem meets_rc_read : (locate (Addr.MAX_STEPS 3)).any (fun l => l.row.acc == .rc && !l.row.pair && !l.hiHalf && l.block != .fifo && l.block != .cell) = true ∧
    (b0 up).mayReadWord (envOf c0 own) (Addr.MAX_STEPS 3) = true ∧ (fifoKind 0x80).isSome = true ∧
    (b0 up).mayReadWord (envOf c0 own) (Addr.HIGH_WATER 0x80) = true ∧ (b0 up).mayReadWord (envOf c0 own) (Addr.OCC_PKTS 0x80) = true := by decide +kernel
theorem test_rc_read : (go (.rcRegisterRead c0 (Addr.MAX_STEPS 3)) (up.setReg (Addr.MAX_STEPS 3) 40)).reg (Addr.MAX_STEPS 3) = 0 := by decide +kernel
theorem test_occ_read : lastReply (go (.occPktsRead c0 0x80) (commitPacket 0x80 ⟨5, none, []⟩ up)) = some (0, toBE 2 1 ++ zeros 2 ++ toBE 4 1) := by decide +kernel
theorem test_ts_read : ((go (.tsDataRead c0 ⟨2, {}⟩) (commitPacket 0x8F2 ⟨1, none, [7#256]⟩ up)).fifo 0x8F2).pkts = [] := by decide +kernel
/-- Cell 3 as tenant 5's, BULK, with two words read out. -/
def withCell : State := (up.setReg (Addr.CELL_STATE 3) (2 + 5 * 256)).updCell 3 (fun x => { x with readOut := [9#256, 8#256] })
theorem meets_store_read : (b5 withCell).tenantReads ten.tenant (Addr.STORE_DATA 3 0) = true := by decide +kernel
theorem test_store_read : lastReply (go (.storeDataRead c5 3) withCell) = some (0, toBE 2 8 ++ zeros 2 ++ toBE 4 9 ++ zeros 28) ∧
    ((go (.storeDataRead c5 3) withCell).cellx 3).readOut = [8#256] := by decide +kernel

/-! Ill-formed terms, one for each check of WellFormed -/

/-- The checks of a command's header, of a handshake's, and of the lengths of their parameters and of a packet. -/
theorem ill_headers : (Instr.echo ⟨0, 2 ^ 32, 0, 0⟩ []).wf = false ∧ (Instr.echo ⟨0, 0, 65536, 0⟩ []).wf = false ∧ (Instr.echo ⟨0, 0, 0, 2 ^ 32⟩ []).wf = false ∧
    (Instr.echo ⟨0, 0, 0, 0⟩ []).wf = true ∧ (Instr.sessionOpen { hand0 with tenant := 65536 } []).wf = false ∧ (Instr.sessionOpen { hand0 with tag := 2 ^ 32 } []).wf = false ∧
    (Instr.sessionKey { hand0 with seq := 2 ^ 64 } []).wf = false ∧ (Instr.sessionOpen hand0 []).wf = true := by decide +kernel
theorem ill_lengths (p : Bytes) (h : p.length = 65536) : (Instr.echo ⟨0, 0, 0, 0⟩ p).wf = false ∧ (Instr.sessionKey hand0 p).wf = false ∧
    (Instr.commandPacketArrive 0 .mgmt 0 ⟨p, {}⟩).wf = false := by simp [Instr.wf, cmdOk, handOk, h]
theorem ill_lengths_met : ∃ p : Bytes, p.length = 65536 := ⟨List.replicate 65536 0#8, List.length_replicate⟩
theorem ill_operands_1 : ∀ i ∈ ([.registerWrite ⟨0, 0, 0, 0⟩ 4294967296 0#32, .loRegisterRead ⟨0, 0, 0, 0⟩ 4294967296, .rcRegisterRead ⟨0, 0, 0, 0⟩ 4294967296, .occPktsRead ⟨0, 0, 0, 0⟩ 2304,
    .tsDataRead ⟨0, 0, 0, 0⟩ ⟨16, {}⟩, .storeDataRead ⟨0, 0, 0, 0⟩ 256, .lockoutExpiry 0 256, .spokeTimeoutExpiry 0 20,
    .groupRefSwitch 0 12, .barrierArrive 0 256 0, .barrierRelease 0 256 0, .portCtrlWrite ⟨0, 0, 0, 0⟩ 16 0#32,
    .linkStateChange 0 16 0 false 0, .linkStateChange 0 0 8 false 0, .hiSerUpdate 0 16 0 0 (List.replicate 8 0), .hiSerUpdate 0 0 0 0 [1], .frameReceive 0 64 [] .badFcs none,
    .pfcRefresh 0 64 0, .pfcRefresh 0 0 9, .pfcFrameReceive 0 64 false 0 [], .pauseExpiry 0 64 0,
    .pauseExpiry 0 0 9, .packetCommit 0 2304 [], .dropRest ⟨0, 0, 0, 0⟩ 2304 0#32, .packetAssign 0 16 0 false] : List Instr), i.wf = false := by decide +kernel
theorem ill_operands_2 : ∀ i ∈ ([.hcNop 2048, .hcLd 2048 0 0 0 false 0, .hcLd 0 16 0 0 false 0, .hcLd 0 0 16 0 false 0,
    .hcLd 0 0 0 4 false 0, .hcLd 0 0 0 0 false 512, .hcMovi 2048 0 0 0, .hcMovi 0 16 0 0,
    .hcMovi 0 0 4 0, .hcMovi 0 0 0 65536, .hcAlu 2048 0 0 0 0, .hcAlu 0 16 0 0 0,
    .hcAlu 0 0 16 0 0, .hcAlu 0 0 0 16 0, .hcAlu 0 0 0 0 8, .hcAlui 2048 0 0 0 0,
    .hcAlui 0 16 0 0 0, .hcAlui 0 0 16 0 0, .hcAlui 0 0 0 8 0, .hcAlui 0 0 0 0 16384,
    .hcExt 2048 0 0 0 0, .hcExt 0 16 0 0 0, .hcExt 0 0 16 0 0, .hcExt 0 0 0 64 0] : List Instr), i.wf = false := by decide +kernel
theorem ill_operands_3 : ∀ i ∈ ([.hcExt 0 0 0 0 64, .hcBr 2048 0 0 0 0, .hcBr 0 16 0 0 0, .hcBr 0 0 16 0 0,
    .hcBr 0 0 0 4 0, .hcBr 0 0 0 0 4096, .hcBri 2048 0 0 0 0, .hcBri 0 16 0 0 0,
    .hcBri 0 0 4 0 0, .hcBri 0 0 0 256 0, .hcBri 0 0 0 0 4096, .hcJmp 2048 0,
    .hcJmp 0 4096, .hcDisp 2048 0 0 0, .hcDisp 0 16 0 0, .hcDisp 0 0 16 0,
    .hcDisp 0 0 0 4096, .hcHdr 2048 0 1 false 1, .hcHdr 0 16 1 false 1, .hcHdr 0 0 1 false 512,
    .hcAdv 2048 0 false 1, .hcAdv 0 16 false 1, .hcAdv 0 0 false 512, .hcLen 2048 0 false false] : List Instr), i.wf = false := by decide +kernel
theorem ill_operands_4 : ∀ i ∈ ([.hcLen 0 16 false false, .hcFrag 2048 0 0 0 false, .hcFrag 0 16 0 0 false, .hcFrag 0 0 16 0 false,
    .hcFrag 0 0 0 16 false, .hcMeta 2048 0 384 0, .hcMeta 0 16 384 0, .hcMeta 0 0 384 64,
    .hcDone 2048, .hcFail 2048 1, .progValidate ⟨0, 0, 0, 0⟩ 16 0#32, .progFlip ⟨0, 0, 0, 0⟩ 16 0#32,
    .parseBankFlip 0 16, .stageLookup 0 0 12 ⟨[], {}⟩, .recircPassStart 0 16, .entryRead ⟨0, 0, 0, 0⟩ 12,
    .entryWrite ⟨0, 0, 0, 0⟩ 12, .entryInvalidate ⟨0, 0, 0, 0⟩ 12, .coldFillComplete 0 256 ⟨0, false⟩, .flowScan 0 256 0 false,
    .labelQueuePoll 0 ⟨256, []⟩, .inlineLaunch 0 256 {}, .cellSlotExchange 0 256, .modelLoadComplete 0 256 0] : List Instr), i.wf = false := by decide +kernel
theorem ill_operands_5 : ∀ i ∈ ([.modelLoadComplete 0 0 16, .modelSwapPoint 0 256 0, .modelSwapPoint 0 0 16, .frameTransmit 0 ⟨64, {}⟩,
    .shApply ⟨0, 0, 0, 0⟩ 4096 0#32, .stepLaunch 0 256 [], .stepCheckDone 0 256 0 ⟨0, 0, false, false, 0, 0⟩, .recoatCompare 0 256 0 ⟨false, false, false, false, false, 0, 0, {}, {}, {}⟩,
    .zeroingDone 0 256, .storeCmd ⟨0, 0, 0, 0⟩ 256 0#32, .checkpointWriteDone 0 256 0 ⟨false, []⟩, .ckptDoneLog 0 0 0 64,
    .jobRestart 0 256 0, .cellAckTimeout 0 256, .cellFence 0 256 0, .fenceReclaimDone 0 256,
    .testKernelDone 0 256 0#32 false 0, .scrubRead 0 16 0 0, .ruleEntryRewrite 0 12 0 0 0, .ruleEntryRewrite 0 0 2 0 0,
    .ruleEntryRewrite 0 0 0 6 0, .linkFrameReceive 0 24 0 0 0 false, .fabricPacketReceive 0 24 0#256 ⟨[], {}⟩, .wrData 0 24 0#256 []] : List Instr), i.wf = false := by decide +kernel
theorem ill_operands_6 : ∀ i ∈ ([.rdReq 0 24 0#256 [], .rdData 0 24 0#256 [], .fabAck 0 24 0#256 [], .fabNotify 0 24 0#256,
    .fabConfirm 0 24 0#256, .fabRevoke 0 24 0#256, .fabCredit 0 24 [], .fabricPortDown 0 24 0,
    .fabricPortTrained 0 24 0 0, .fabricPortTrained 0 0 8192 0, .fabricPortTrained 0 0 0 8192, .miscableRecheck 0 24 0 0,
    .miscableRecheck 0 0 8192 0, .miscableRecheck 0 0 0 8192, .memberLost 0 64, .calmNeedReport 0 64 0 0 0,
    .dumpCopyDone 0 256 0 0 0, .hangTimeoutExpiry 0 256 0, .tenantKeyZeroise 0 256, .periodicSelftest 0 64,
    .mbFaultClear 0 65536, .shaperOpen 0 4096, .i3cAddressAssign 0 false 128, .hcHdr 0 0 0 false 1] : List Instr), i.wf = false := by decide +kernel
theorem ill_operands_7 : ∀ i ∈ ([.hcHdr 0 0 128 false 1, .hcHdr 0 0 1 true 0, .hcMeta 0 0 383 1, .hcMeta 0 0 1000 25,
    .hcMeta 0 0 961 0, .hcFail 0 0, .hcFail 0 5] : List Instr), i.wf = false := by decide +kernel

/-! Memory, copies and cells -/

/-- The image of a local copy of one word from HBM offset 0 to HBM offset 64. -/
def copyImage : Bytes := toLE 8 0 ++ toLE 8 64 ++ toLE 8 0 ++ toLE 4 32 ++ toLE 2 0 ++ toLE 2 1 ++ zeros 32
theorem meets_copy_submit : up.fw.hbmFailed = false ∧ descOk (descOfImage copyImage) = true ∧ spaceOf (descOfImage copyImage).src ≤ 3 ∧
    spaceOf (descOfImage copyImage).dst ≤ 3 ∧ (tabGet [] 2 up.copies.soft).length + 1 ≤ 64 := by decide +kernel
theorem test_copy_submit : lastStatus (go (.copySubmit c5 (toBE 1 2 ++ toBE 1 1 ++ zeros 2 ++ copyImage)) up) = some St.ACCEPTED ∧
    (tabGet [] 2 (go (.copySubmit c5 (toBE 1 2 ++ toBE 1 1 ++ zeros 2 ++ copyImage)) up).copies.soft).length = 1 := by decide +kernel
theorem test_copy_status : lastReply (go (.copyStatus c5 (toBE 1 2 ++ zeros 3)) up) = some (0, zeros 4) := by decide +kernel
/-- MEM_WINDOW_SET of window 3 of tenant 5, sent by the owner for it: blocks 16 to 19, readable and writable. -/
def c05 : Cmd := ⟨secs 4, 1, 5, 9⟩
def windowParams : Bytes := toBE 1 3 ++ toBE 1 7 ++ zeros 2 ++ toBE 4 16 ++ toBE 4 4
theorem meets_mem_window : ready c05 own up = true ∧ windowRefused 5 (16 * 65536) (4 * 65536) (begun c05 own up) = false ∧ (16 + 4) * 65536 ≤ hbmBytes := by decide +kernel
theorem test_mem_window : (go (.memWindowSet c05 windowParams) up).memWindow 5 3 = ⟨16, 4, true, true⟩ := by decide +kernel
theorem test_mem_map : lastStatus (go (.memMapRead c5 []) up) = some St.OK := by decide +kernel
theorem meets_page_retire : flowTenants (b0 up) = [] ∧ up.mem.retired.contains (2, 1) = false ∧
    (({ up with mem.retired := [(2, 1)] } : State).mem.retired.contains (2, 1)) = true := by decide +kernel
theorem test_page_retire : lastStatus (go (.hbmPageRetire c0 (toBE 1 2 ++ zeros 7 ++ toBE 8 4096)) { up with mem.retired := [(2, 1)] }) = some St.OK := by decide +kernel
/-- CELL_ASSIGN of cells 0 and 17 to BULK for tenant 5; cell 17 UNCONFIGURED again. -/
def assignParams : Bytes := toBE 1 1 ++ zeros 1 ++ toBE 1 2 ++ zeros 29 ++ toBE 1 2 ++ toBE 1 5 ++ zeros 2
def passedTests (s : State) : State := ([0, 17] : List Nat).foldl (fun s c => s.updCell c (fun x => { x with qualified := true })) s
def withBulk : State := passedTests up |> fun s => (s.setReg (Addr.CELL_STATE 0) (2 + 5 * 256)).setReg (Addr.CELL_STATE 17) (2 + 5 * 256)
theorem meets_cell_assign : (∀ i ∈ cellMask assignParams 0, assignRefused i 2 5 (b0 (passedTests up)) = none) ∧ cellMask assignParams 0 = [0, 17] ∧
    (∀ i ∈ [17], assignRefused i 0 0 (b0 withBulk) = none) ∧ (assignRefused 0 2 5 (b0 withBulk)).isSome = true := by decide +kernel
theorem test_cell_assign : (go (.cellAssign c0 assignParams) (passedTests up)).cellState 17 = 2 ∧ (go (.cellAssign c0 assignParams) (passedTests up)).cellTenant 0 = 5 ∧
    lastReply (go (.cellAssign c0 assignParams) withBulk) = some (St.BAD_PARAM, [0#8]) := by decide +kernel
theorem test_cell_query : (lastReply (go (.cellQuery c5 (toBE 1 3 ++ zeros 31)) up)).map (fun r => r.2.length) = some 8 := by decide +kernel
def haltedCell : State := (withBulk.setFlag Addr.HALTED 0 true).setReg (Addr.STORE_ADDR 0) 5
theorem meets_store_cmd : (b5 haltedCell).cellState 0 = 2 ∧ (b5 haltedCell).cellTenant 0 = ten.tenant ∧ (b5 haltedCell).halted (0 / 16) = true ∧ (1#32).toNat % 2 = 1 := by decide +kernel
theorem test_store_cmd : ((go (.storeCmd c5 0 1#32) haltedCell).cellx 0).readOut.length = 8 := by decide +kernel
theorem meets_zeroing : (up.setReg (Addr.CELL_STATE 9) 32).flag (Addr.CELL_STATE 9) 5 = true := by decide +kernel
theorem test_zeroing : (go (.zeroingDone 1 9) (up.setReg (Addr.CELL_STATE 9) 32)).flag (Addr.CELL_STATE 9) 5 = false := by decide +kernel

/-! The beat and the time base -/

theorem meets_beat_writes : (6 % 4 ≠ 3 ∧ (4 % 4 ≠ 3 ∧ (b0 up).joined = false ∧ 4 % 4 ≠ 2)) ∧ ((b0 up).beatMode ≠ 2 ∧ 500 ≤ 2000 % 4096 ∧ 2000 % 4096 ≤ 2000) ∧
    (∀ k < 16, bitAt 3 k = true → (b0 up).cellsIn k 1 = []) ∧ splitsJob (3 % 2 ^ 16) (b0 up) = false ∧
    (b0 (up.setReg Addr.HALT_AT 9000)).zc < (b0 (up.setReg Addr.HALT_AT 9000)).reg Addr.HALT_AT ∧
    (b0 (up.setReg Addr.RESUME_AT 9)).zc < (b0 (up.setReg Addr.RESUME_AT 9)).reg Addr.RESUME_AT ∧ (b0 (up.setReg Addr.TIME_CTRL 8)).flag Addr.TIME_CTRL 3 = true := by decide +kernel
theorem test_beat_ctrl : (go (.beatCtrlWrite c0 4#32) up).reg Addr.BEAT_CTRL = 4 ∧ (go (.beatRateTargetWrite c0 800#32) up).reg Addr.BEAT_RATE_TARGET = 800 ∧
    lastStatus (go (.beatCtrlWrite c0 3#32) up) = some St.BAD_PARAM := by decide +kernel
theorem test_spoke_reattach : (go (.spokeReattach c0 6#32) (up.setReg Addr.SPOKE_DETACHED 4)).beat.reattach = 4 := by decide +kernel
theorem test_halt_mask : (go (.haltMaskWrite c0 3#32) (up.setReg Addr.HALT_AT 9000)).beat.haltArm = some (3, 9000) ∧
    (go (.resumeMaskWrite c0 3#32) (up.setReg Addr.RESUME_AT 9)).beat.resumeArm = some (3, 9) := by decide +kernel
theorem test_snap : (go (.snap c0 1#32) up).beat.snapPending = true := by decide +kernel
theorem test_time_step : (go (.timeStepNsWrite c0 5#32) (up.setReg Addr.TIME_CTRL 8)).time.tod = (b0 (up.setReg Addr.TIME_CTRL 8)).time.tod + 5000000000000 := by decide +kernel
/-- The next beat of a device at 500 beats per microsecond is due 2 ns after the last. -/
theorem meets_beat_issue : up.mayIssue 2000 [] = true := by decide +kernel
theorem test_beat_issue : (go (.beatIssue 2000 [] []) up).zc = 1 := by decide +kernel
def spokeSilent : Nat := 1000000000000
theorem meets_silence : up.on = true ∧ up.beat.lastIssue + us (up.reg Addr.SPOKE_TIMEOUT) ≤ spokeSilent ∧ up.flag Addr.SPOKE_DETACHED 19 = false := by decide +kernel
theorem test_stream_hang : runs (.streamHang spokeSilent) up = true := by decide +kernel
theorem test_spoke_timeout : (go (.spokeTimeoutExpiry spokeSilent 3) up).halted 3 = true ∧ (go (.spokeTimeoutExpiry spokeSilent 19) up).flag Addr.SPOKE_DETACHED 19 = true := by decide +kernel
def armedHalt : State := { up with beat.haltArm := some (3, 0), beat.resumeArm := some (3, 0) }
theorem meets_halts : armedHalt.beat.haltArm = some (3, 0) ∧ armedHalt.beat.resumeArm = some (3, 0) ∧ 0 ≤ armedHalt.zc ∧ armedHalt.detached 1 = false := by decide +kernel
theorem test_cluster_halt : (go (.clusterHalt 1) armedHalt).halted 1 = true ∧ (go (.clusterHalt 1) armedHalt).halted 2 = false := by decide +kernel
theorem test_cluster_resume : (go (.clusterResume 1) (go (.clusterHalt 1) armedHalt)).halted 1 = false := by decide +kernel
def gust : GustSequence := { id := 4, cluster := 0, inl := false, base := 0, next := 0, size := 8, interval := 0, cells := [0, 1, 2] }
def gusting : State := { withBulk with beat.gusts := [gust] }
theorem meets_gust : gusting.beat.gusts.find? (fun g => g.id == 4) = some gust ∧ gust.base + gust.next * gust.interval ≤ gust.base + gust.run ∧
    (∀ i ∈ gust.cells, i < 256) := by decide +kernel
theorem test_gust : (go (.gustRelease 1 4) gusting).beat.released = [0, 1, 2] := by decide +kernel
def servoed : State := up.setReg Addr.TIME_CTRL 10
theorem meets_time : servoed.timeSource ≠ 0 ∧ servoed.timeState ≠ 3 ∧ servoed.limik = true ∧ servoed.flag Addr.TIME_CTRL 3 = true ∧
    (up.setReg Addr.TIME_CTRL 4).flag Addr.TIME_CTRL 2 = true ∧ (advance 1000 (up.setReg Addr.TIME_CTRL 4)).ns ≤ 4 ∧
    ({ up with time.lastPps := some 5 } : State).time.lastPps = some 5 ∧ (up.setReg Addr.TIME_CTRL 2).timeSource = 2 ∧
    (ppsOffset (advance (secs 1) (up.setReg Addr.TIME_CTRL 2))).natAbs ≤ 1000000 := by decide +kernel
theorem test_servo : (go (.timeServoUpdate 1000 500 600000) servoed).reg Addr.TIME_FREQ_ADJ = 500000 ∧ (go (.timeSourceLost 1000) servoed).timeState = 3 := by decide +kernel
theorem test_pps_in : (go (.ppsInEdge (secs 1) 100) up).time.ppsCount = 1 ∧ (go (.ppsInEdge (secs 1) 99) up).time.ppsCount = 0 := by decide +kernel
theorem test_pps_out : (go (.ppsOutPulse 1000) (up.setReg Addr.TIME_CTRL 4)).out = [.pps 100000] := by decide +kernel

/-! Ports -/

theorem meets_port_ctrl : (b0 up).portMode (partner 0) = 0 ∧ (b0 up).portMode 0 = 0 ∧ ((b0 up).setReg (Addr.PORT_CTRL 0) 1).reservedSum ≤ bufferPages := by decide +kernel
theorem test_port_ctrl : (go (.portCtrlWrite c0 0 1#32) up).portMode 0 = 1 ∧ lastStatus (go (.portCtrlWrite c0 0 5#32) up) = some St.BAD_PARAM := by decide +kernel
/-- Port 0 with one sub-port of eight lanes, up, PFC on priority 3 and its intake FIFO enabled. -/
def linked : State := ((((up.setReg (Addr.PORT_CTRL 0) 9).setFlag (Addr.PORT_STATUS 0) 8 true).setFlag (Addr.FIFO_CTRL 0) 0 true).setReg (Addr.SUB_CTRL 0 0) (2 + 8 * 256)).setReg (Addr.MAX_FRAME 0 0) 1518 |> fun s => s.setReg (Addr.RESERVED_PAGES 0 0) 16
theorem meets_link : 0 < subPortsOf (linked.portMode 0) ∧ linked.on = true := by decide +kernel
theorem test_link_state : (go (.linkStateChange 1 0 0 false 0) linked).subUp 0 0 = false := by decide +kernel
theorem test_hi_ser : (go (.hiSerUpdate 1 0 7 9 [0, 3]) linked).reg (Addr.FEC_UNCORR_CW 0) = 7 ∧
    (go (.hiSerUpdate 1 0 7 9 [0, 3]) linked).reg (Addr.FEC_CORR_CW 0) = 9 ∧ (go (.hiSerUpdate 1 0 7 9 [0, 3]) linked).reg (Addr.FEC_SYMBOL_ERR 0 1) = 3 := by decide +kernel
def frame64 : Bytes := zeros 64
theorem meets_frame : linked.placeOf 0 = some (0, 0) ∧ linked.subUp 0 0 = true ∧ isPauseFrame frame64 = false ∧ linked.flag (Addr.FIFO_CTRL 0) 0 = true ∧
    linked.arriving 0 = none ∧ linked.secError = false ∧ 64 ≤ frame64.length ∧ frame64.length ≤ linked.reg (Addr.MAX_FRAME 0 0) := by decide +kernel
theorem test_frame : ((go (.frameReceive 1 0 frame64 .good none) linked).fifo 0).pkts.length = 1 ∧
    (go (.frameReceive 1 0 frame64 .badFcs none) linked).reg (Addr.REWIND_COUNT 0) = 1 ∧
    (go (.frameReceive 1 0 frame64 .partly none) linked).ports.packets.map (fun q => decide (q.at_ = .receiving)) = [true] := by decide +kernel
theorem meets_frame_pages :
    let s1 := advance 1 linked
    let desc (b : Bytes) : Desc := ⟨(s1.rxTime 0).1, (s1.rxTime 0).2, s1.zc, b.length, 0, s1.field (Addr.INTAKE_TENANT 0 0) 0 8, intakePrio s1 0 0 b, ptpEvent b⟩
    let s2 (b : Bytes) : State := { s1 with ports.packets := [{ id := 1, desc := desc b, bytes := b }], ports.nextPkt := 2 }
    linked.ports.packets = [] ∧ linked.ports.nextPkt = 1 ∧ (takePages 0 0 0 (desc (zeros 60)).prio 1 (pagesOf 60) 0 (s2 (zeros 60))).2 = none ∧
      (takePages 0 0 0 (desc frame64).prio 1 (pagesOf 64) 0 (s2 frame64)).2 = none := by decide +kernel
def xoffSent : State := { linked with ports.xoff := [(fcKey 0 3, 1)], ports.paused := [(fcKey 0 3, 5000)] }
theorem meets_pauses : xoffSent.placeOf 0 = some (0, 0) ∧ tabGet 0 (fcKey 0 3) xoffSent.ports.xoff ≠ 0 ∧
    3 ∈ xoffSent.fcWatched 0 0 ∧ xoffSent.reg (Addr.XON_THRESH 0 0) ≤ xoffSent.pagesHeld 0 (some 3) ∧ tabGet 0 (fcKey 0 3) xoffSent.ports.xoff - 1 + 16384 * 2560 / lanesOf (xoffSent.portMode 0) ≤ secs 1 ∧
    linked.flowMode 0 0 = 2 ∧ bitAt (linked.pfcEn 0 0) 3 = true ∧ tabGet 0 (fcKey 0 3) xoffSent.ports.paused ≠ 0 ∧ tabGet 0 (fcKey 0 3) xoffSent.ports.paused ≤ 5000 ∧
    (linked.setReg (Addr.SUB_CTRL 0 0) 1).flowMode 0 0 = 1 := by decide +kernel
/-- The same port under PAUSE, with an XOFF out. -/
def pauseSent : State := { linked.setReg (Addr.SUB_CTRL 0 0) 1 with ports.xoff := [(fcKey 0 8, 1)] }
theorem meets_pause_mode : pauseSent.placeOf 0 = some (0, 0) ∧ pauseSent.subUp 0 0 = true ∧ 8 ∈ pauseSent.fcWatched 0 0 ∧ tabGet 0 (fcKey 0 8) pauseSent.ports.xoff ≠ 0 ∧
    pauseSent.reg (Addr.XON_THRESH 0 0) ≤ pauseSent.pagesHeld 0 none ∧ tabGet 0 (fcKey 0 8) pauseSent.ports.xoff - 1 + 16384 * 2560 / lanesOf (pauseSent.portMode 0) ≤ secs 1 := by decide +kernel
theorem test_pause_mode : (go (.pfcRefresh (secs 1) 0 8) pauseSent).out = [.pfc 0 true 0 [0xFFFF]] ∧
    tabGet 0 (fcKey 0 8) (go (.pfcFrameReceive 0 0 true 0 [10]) pauseSent).ports.paused = 3200 := by decide +kernel
theorem test_pfc_refresh : (go (.pfcRefresh (secs 1) 0 3) xoffSent).out.length = 1 := by decide +kernel
theorem test_pfc_receive : tabGet 0 (fcKey 0 3) (go (.pfcFrameReceive 0 0 false 8 [0, 0, 0, 10, 0, 0, 0, 0]) linked).ports.paused = 3200 := by decide +kernel
theorem test_pause_expiry : (go (.pauseExpiry 5000 0 3) xoffSent).ports.paused = [] := by decide +kernel
/-- The words of a frame of 64 bytes behind its descriptor; and a time-stamp FIFO whose packet is being read. -/
def intakeWords : List W256 := [wordOfDesc ⟨0, 0, 0, 64, 0, 0, 0, false⟩, 7#256, 8#256]
def readingTs : State := up.setFifo 0x8F0 ⟨[⟨5, none, []⟩, ⟨3, none, []⟩], some 1⟩
theorem meets_packet_fifo : up.on = true ∧ fifoKind 0x40 = some 1 ∧ up.fifoFits 0x40 2 = true ∧ fifoKind 0x8E1 = some 4 ∧ up.fifoFits 0x8E1 2 = true ∧ fifoKind 0x8F0 = some 5 ∧
    up.fifoFits 0x8F0 2 = true ∧ up.fifoFits 0x8E1 16385 = false ∧ ((b0 readingTs).fifo 0x8F0).reading.isSome = true ∧ ((b0 up).fifo 0x80).reading = none := by decide +kernel
theorem meets_packet_intake : let q : Pkt := { id := 1, desc := ⟨0, 0, 0, 64, 0, 0, 0, false⟩, bytes := toLE 32 7 ++ toLE 32 8 }
    descOfWord (intakeWords.getD 0 0#256).toNat = q.desc ∧ linked.on = true ∧ linked.ports.nextPkt = 1 ∧
    (takePages 0 0 0 0 1 (pagesOf 64) 0 { advance 0 linked with ports.packets := [q], ports.nextPkt := 2 }).2 = none := by decide +kernel
theorem test_packet_commit : (go (.packetCommit 0 0x40 [1#256, 2#256]) up).reg (Addr.COMMIT_COUNT 0x40) = 1 ∧
    ((go (.packetCommit 0 0 intakeWords) linked).packet 1).map (fun q => q.bytes.take 33) = some (toLE 32 7 ++ [8#8]) ∧
    (go (.packetCommit 0 0x8E1 [1#256]) up).reg (Addr.HIGH_WATER 0x8E1) = 1 := by decide +kernel
theorem test_drop_rest : (go (.dropRest c0 0x8F0 1#32) readingTs).fifo 0x8F0 = ⟨[⟨3, none, []⟩], none⟩ ∧
    (go (.dropRest c0 0x8F0 1#32) readingTs).reg (Addr.DROP_REST_COUNT 0x8F0) = 1 := by decide +kernel

/-! Header cores -/

/-- Instruction words written out by the fields of R100: NOP; LD R3, S 15, 4 bytes, X, OFF 20; ALU R1 := R2 SUB R4; EXT R7 := R8[15:12]. -/
theorem test_words_1 : hcDecode 7 0b00000000000000000000000000000000 = some (.hcNop 7) ∧
    hcDecode 7 0b00000100111111101000000000010100 = some (.hcLd 7 3 15 2 true 20) ∧
    hcDecode 7 0b00001100010010010000000000000001 = some (.hcAlu 7 1 2 4 1) ∧
    hcDecode 7 0b00010101111000001100000100000000 = some (.hcExt 7 7 8 12 4) := by decide +kernel
/-- BRI R5 NE 6 to 9; DISP on R6, table 2, default 77; HDR type 9 of 14 bytes; META of 16 bits of R3 at 400; FAIL 2. -/
theorem test_words_2 : hcDecode 7 0b00100101010100000110000000001001 = some (.hcBri 7 5 1 6 9) ∧
    hcDecode 7 0b00101101100010000000000001001101 = some (.hcDisp 7 6 2 77) ∧
    hcDecode 7 0b01000000000001001100000000001110 = some (.hcHdr 7 0 9 true 14) ∧
    hcDecode 7 0b01100000110110010000010000000000 = some (.hcMeta 7 3 400 16) ∧
    hcDecode 7 0b11111100000000000000000000000010 = some (.hcFail 7 2) := by decide +kernel
/-- Opcode 0x06, a nonzero reserved field and META at 383 decode to none. -/
theorem test_words_3 : hcDecode 7 0b00011000000000000000000000000000 = none ∧ hcDecode 7 0b00000000000000000000000000000001 = none ∧
    hcDecode 7 0b01100000110101111111010000000000 = none := by decide +kernel
theorem meets_words : (Instr.hcDisp 7 6 2 77).wf = true ∧ (hcEncode (.hcDisp 7 6 2 77)).isSome = true := by decide +kernel

/-- Packet 1 of 100 bytes, 0, 1, 2 and so on, on logical port 0; and a core of number 3 that parses it at address 10 after one step, cursor 14. -/
def packet100 : Pkt := { id := 1, desc := ⟨0, 0, 0, 100, 0, 0, 0, false⟩, bytes := (List.range 100).map (BitVec.ofNat 8), at_ := .core }
def core3 : Core := { n := 3, pkt := 1, bank := 0, regs := (List.range 16).map (BitVec.ofNat 64), c := 14, pc := 10, stack := [(9, 0, 14)], limit := 100, steps := 1 }
/-- The device with that core at the instruction of a word. -/
def cored (c : Core) (w : Nat) : State :=
  { up with ports.packets := [packet100], hc.cores := [c], hc.prog := [(progKey 0 0 c.pc, BitVec.ofNat 32 w)] }
theorem coreAt_cored (c : Core) (w : Nat) (hn : c.n = 3) (hs : c.steps = 1) (hf : c.finished = false) (hw : w < 2 ^ 32) (hb : c.bank = 0)
    (hcap : 1 < (cored c w).reg (Addr.STEP_CAP 0)) : coreAt 3 w (cored c w) c := by
  refine ⟨⟨c, by simp [State.core, cored, hn], by simp [hs]⟩, hf, ?_, by simpa [hs] using hcap⟩
  simpa [State.progWord, cored, hb, tabGet, tabFind] using hw
/-- Every instruction's word of the statements about header cores is one the core can be at. -/
theorem meets_core_words : ∀ w ∈ [encNop, encLd 1 0 2 false 0, encMovi 1 0 7, encAlu 1 2 3 0, encAlui 1 2 1 5, encExt 1 2 0 0, encMeta 3 400 16, encBr 2 3 0 9,
    encBri 2 2 5 9, encJmp 9, encDisp 2 1 77, encHdr 0 9 true 20, encAdv 0 true 20, encLen 4 false false, encFrag 13 14 0 false, encDone, encFail 2],
    w < 2 ^ 32 ∧ 1 < (cored core3 w).reg (Addr.STEP_CAP 0) := by decide +kernel
theorem meets_core_operands : core3.c + 0 + 2 ^ 2 ≤ frameLength (cored core3 0) core3 ∧ core3.c + 0 + 2 ^ 2 ≤ 512 ∧ core3.pc ≠ 4095 ∧
    (core3.stack.length ≠ 16 ∧ core3.c + 20 ≤ frameLength (cored core3 0) core3) ∧ frameLength (cored core3 0) core3 < core3.c + 90 ∧
    (core3.stack.getLast? = some (9, 0, 14) ∧ 0 + 100 ≤ core3.limit ∧ 0 + 14 ≤ 0 + 14 ∧ core3.limit < 0 + 101) ∧
    (bits 0x2000 0 13 = 0 ∧ bitAt 0x2000 13 = true ∧ 0 < core3.stack.length ∧ core3.stack.length ≤ 1) := by decide +kernel
/-- Five words from a core at work, which end its packet's parse. -/
theorem meets_packet_parse : (cored core3 0).on = true ∧ (cored core3 0).core 3 = some core3 ∧ core3.finished = false ∧
    (cored core3 0).packet core3.pkt = some packet100 ∧ (cored core3 0).fifoFits 0x83 5 = true := by decide +kernel
theorem test_packet_parse : ((go (.packetCommit 0 0x83 (List.replicate 5 1#256)) (cored core3 0)).packet 1).map (fun q => decide (q.at_ = .parsed)) = some true := by decide +kernel
theorem test_ld : ((go (.hcLd 3 1 0 2 false 0) (cored core3 (encLd 1 0 2 false 0))).core 3).map (fun c => (c.reg 1, c.pc, c.steps)) = some (0x0E0F1011, 11, 2) := by decide +kernel
theorem test_movi : ((go (.hcMovi 3 1 2 7) (cored core3 (encMovi 1 2 7))).core 3).map (fun c => c.reg 1) = some (7 * 2 ^ 32 + 1) := by decide +kernel
theorem test_alu : ((go (.hcAlu 3 1 2 3 1) (cored core3 (encAlu 1 2 3 1))).core 3).map (fun c => c.reg 1) = some (2 ^ 64 - 1) ∧
    ((go (.hcAlui 3 1 2 5 66) (cored core3 (encAlui 1 2 5 66))).core 3).map (fun c => c.reg 1) = some 8 := by decide +kernel
theorem test_ext : ((go (.hcExt 3 1 15 1 3) (cored core3 (encExt 1 15 1 3))).core 3).map (fun c => c.reg 1) = some 7 := by decide +kernel
theorem test_branches : ((go (.hcBri 3 2 2 5 9) (cored core3 (encBri 2 2 5 9))).core 3).map Core.pc = some 9 ∧
    ((go (.hcBr 3 2 3 0 9) (cored core3 (encBr 2 3 0 9))).core 3).map Core.pc = some 11 ∧ ((go (.hcJmp 3 9) (cored core3 (encJmp 9))).core 3).map Core.pc = some 9 := by decide +kernel
/-- Table 1 of the bank: entry 0 not valid, entries 1 and 2 valid for 2, to 500 and 600. -/
def dispatched : State := { cored core3 (encDisp 2 1 77) with
  hc.disp := [(dispKey 0 0 32, BitVec.ofNat 32 (2 + 400 * 2 ^ 16)), (dispKey 0 0 33, BitVec.ofNat 32 (2 + 500 * 2 ^ 16 + 2 ^ 28)), (dispKey 0 0 34, BitVec.ofNat 32 (2 + 600 * 2 ^ 16 + 2 ^ 28))] }
theorem test_disp : ((go (.hcDisp 3 2 1 77) dispatched).core 3).map Core.pc = some 500 ∧
    ((go (.hcDisp 3 2 1 77) (cored core3 (encDisp 2 1 77))).core 3).map Core.pc = some 77 := by decide +kernel
theorem test_hdr : ((go (.hcHdr 3 0 9 true 20) (cored core3 (encHdr 0 9 true 20))).core 3).map (fun c => (c.stack, c.c)) = some ([(9, 0, 14), (9, 14, 20)], 34) ∧
    ((go (.hcAdv 3 0 true 20) (cored core3 (encAdv 0 true 20))).core 3).map Core.c = some 34 := by decide +kernel
/-- A claim of 4 bytes, shorter than its own 14-byte header. -/
theorem test_len : (go (.hcLen 3 4 false false) (cored core3 (encLen 4 false false))).reg (Addr.ST_LEN_CONFLICT 0) = 1 ∧
    ((go (.hcLen 3 15 false false) (cored core3 (encLen 15 false false))).core 3).map (fun c => (c.limit, c.limitIsFrame)) = some (15, false) := by decide +kernel
def fragCore : Core := { core3 with regs := core3.regs.set 13 0x2000#64 }
theorem test_frag : ((go (.hcFrag 3 13 14 0 false) (cored fragCore (encFrag 13 14 0 false))).core 3).map (fun c => (c.frag, c.fragId)) = some (1, 14) ∧
    ((go (.hcFrag 3 0 14 0 false) (cored fragCore (encFrag 0 14 0 false))).core 3).map Core.frag = some 0 := by decide +kernel
theorem test_meta : ((go (.hcMeta 3 3 400 16) (cored core3 (encMeta 3 400 16))).core 3).map (fun c => busBits c.bus 400 16) = some 3 := by decide +kernel
theorem test_done : ((go (.hcDone 3) (cored core3 encDone)).packet 1).map (fun q => (busBits q.bus 0 3, busBits q.bus 3 5)) = some (0, 1) ∧
    ((go (.hcFail 3 2) (cored core3 (encFail 2))).packet 1).map (fun q => (busBits q.bus 0 3, busBits q.bus 109 12)) = some (2, 10) := by decide +kernel
def capped : State := cored { core3 with steps := 2000 } encNop
theorem meets_parse_end : hcEncode (.hcNop 3) = some (3, encNop) ∧ (capped.core 3).isSome = true ∧ capped.progWord 0 0 10 = encNop ∧ capped.reg (Addr.STEP_CAP 0) ≤ 2000 ∧
    (capped.packet 1 = some packet100 ∧ core3.stack.length ≤ 16 ∧ core3.c < 1024 ∧ packet100.desc.length < 16384 ∧ core3.n < 2048 ∧ capped.fifoFits (0x80 + core3.n) 5 = true) := by decide +kernel
theorem test_steps : (go (.hcNop 3) capped).reg (Addr.ST_STEPS 0) = 1 ∧ (go (.hcNop 3) (cored { core3 with pc := 4095 } encNop)).reg (Addr.ST_FAULT 0) = 1 := by decide +kernel
/-- Packet 1 at the head of the intake FIFO of logical port 0, whose group is enabled. -/
def intake : State := ({ linked with ports := { linked.ports with packets := [{ packet100 with at_ := .intake }] } }.setFifo 0 ⟨[⟨5, some 1, []⟩], none⟩).setFlag (Addr.HC_CTRL 0) 0 true
theorem meets_assign : intake.groupTakes 0 = true ∧ (firstCommitted (eligibleHeads intake 0)).map Pkt.id = some 1 ∧ idleCore intake 0 = some 0 := by decide +kernel
theorem test_assign : ((go (.packetAssign 1 0 2 false) intake).core 0).map (fun c => (c.pkt, c.reg 15)) = some (1, 100) ∧
    (go (.packetAssign 1 0 0 true) intake).reg (Addr.ABORTED 0) = 1 ∧ (go (.packetAssign 1 0 2 false) intake).reg (Addr.CORR_COUNT 0) = 2 := by decide +kernel

/-! Program banks -/

/-- A staging bank 1 of group 2 with one JMP, and one with an unknown opcode; a bank marked valid; a flip pending for beat 0. -/
def staged : State := { up with hc.prog := [(progKey 2 1 0, BitVec.ofNat 32 (encJmp 0))] }
def badBank : State := { up with hc.prog := [(progKey 2 1 5, BitVec.ofNat 32 (6 * 2 ^ 26))] }
def validBank : State := up.setFlag (Addr.PROG_STATUS 2) 1 true
def flipping : State := { up.setFlag (Addr.PROG_STATUS 2) 12 true with hc.flip := [(2, 1)] }
theorem meets_banks : (b0 up).stagingClosed 2 = false ∧ validateBank (b0 staged) 2 ((b0 staged).stageBank 2) = none ∧
    (validateBank (b0 badBank) 2 ((b0 badBank).stageBank 2)).isSome = true ∧ flipRefused (b0 validBank) 2 = none ∧ (b0 validBank).flag (Addr.HC_CTRL 2) 1 = false ∧
    flipRefused (b0 (validBank.setFlag (Addr.HC_CTRL 2) 1 true)) 2 = none ∧
    flipping.flag (Addr.PROG_STATUS 2) 12 = true ∧ tabGet 0 2 flipping.hc.flip - 1 ≤ flipping.zc ∧ setBits (be (toBE 2 4) 0 2) 16 = [2] := by decide +kernel
theorem test_prog_validate : (go (.progValidate c0 2 1#32) staged).flag (Addr.PROG_STATUS 2) 1 = true ∧
    (go (.progValidate c0 2 1#32) badBank).reg (Addr.HC_VALIDATE_ERR 2) % 4096 = 5 := by decide +kernel
theorem test_prog_flip : (go (.progFlip c0 2 1#32) validBank).flag (Addr.PROG_STATUS 2) 12 = true ∧
    (go (.progFlip c0 2 1#32) (validBank.setFlag (Addr.HC_CTRL 2) 1 true)).flag (Addr.PROG_STATUS 2) 2 = true := by decide +kernel
theorem test_parse_bank_flip : (go (.parseBankFlip 1 2) flipping).activeBank 2 = 1 := by decide +kernel
theorem test_parse_flip : (go (.parseFlip c0 (toBE 2 4)) validBank).flag (Addr.PROG_STATUS 2) 12 = true := by decide +kernel
/-- A parse image of 8 words (total 64 + 32 + 2,048) at the start of the owner's window 0. -/
def imageHead : Bytes := toLE 4 0x42565052 ++ toLE 2 1 ++ zeros 18 ++ toLE 2 8 ++ zeros 6 ++ toLE 8 2144 ++ zeros 24
def imageLen : Nat := 2144 + sigBytes
def imaged : State := { up with mem.windows := [(0, ⟨0, 16, true, true⟩)] }.writeBytes 0 0 imageHead
/-- The same with bytes of the image written over: a word of opcode 6, and a stated step count of 200 and of 60,000 for sub-port 0. -/
def overwritten (off : Nat) (bs : Bytes) : State := imaged.writeBytes 0 off bs
def imageOf (s : State) : Bytes := s.readBytes owner 0 2144
theorem meets_parse_good : (∀ a < 8, validateWord (le (imageOf (b0 imaged)) (64 + 4 * a) 4) = 0) ∧ (imageOf (b0 imaged)).drop 96 = zeros 2048 ∧
    (∀ i < 8, le (imageOf (b0 imaged)) (8 + 2 * i) 2 ≤ (b0 imaged).reg (Addr.STEP_CAP 2) ∧ le (imageOf (b0 imaged)) (8 + 2 * i) 2 ≤ 107) := by decide +kernel
theorem meets_parse_refused : validateWord (le (imageOf (overwritten 64 (toLE 4 0x18000000))) 64 4) ≠ 0 ∧ setBits 4 16 ≠ [] ∧
    parseHeaderOk (imageOf (overwritten 8 (toLE 2 200))) imageLen = true ∧ 107 < le (imageOf (overwritten 8 (toLE 2 200))) 8 2 ∧ 200 ≤ imaged.reg (Addr.STEP_CAP 2) ∧
    bitAt (le (imageOf (overwritten 8 (toLE 2 200))) 6 2) 0 = false ∧ imaged.reg (Addr.STEP_CAP 2) < le (imageOf (overwritten 8 (toLE 2 60000))) 8 2 ∧
    parseHeaderOk (imageOf (overwritten 8 (toLE 2 60000))) imageLen = true := by decide +kernel
theorem meets_parse_load : parseHeaderOk imageHead imageLen = true ∧ (b0 imaged).inWindows owner 0 imageLen false = true ∧
    parseHeaderOk ((b0 imaged).readBytes owner 0 64) imageLen = true ∧ (∀ g ∈ setBits 4 16, (b0 imaged).stagingClosed g = false) := by decide +kernel
theorem test_parse_load_refused : lastStatus (go (.parseLoad c0 (toBE 2 4 ++ zeros 6 ++ toBE 8 0 ++ toBE 4 100)) imaged) = some St.BAD_PARAM := by decide +kernel

/-! Match stages and rules -/

/-- Stage 0's staging bank 1 leased to a tenant, with template 1 that any tenant may use and DROP's operation word after the header. -/
def leasedTo (t : Nat) : State :=
  { ((up.setReg (Addr.EXACT_QUOTA 5) 10).setFlag Addr.EPOCH_STATUS 3 true).setReg Addr.STAGE_HOLDER t with mt.templ := [(templKey 0 0 1, 0x100#32 :: 0x44000000#32 :: List.replicate 14 0#32), (templKey 0 1 1, 0x100#32 :: 0x44000000#32 :: List.replicate 14 0#32)] }
/-- An exact entry of tenant 5: key 7, template 1, parameter 9, version 0. -/
def image5 : Nat := 7 + 5 * 2 ^ 384 + 1 * 2 ^ 392 + 9 * 2 ^ 406 + 2 ^ 511
def slot5 : Nat := exactSlot 0 7 5
def ruleParams : Bytes := toBE 2 1 ++ zeros 2 ++ toBE 1 0 ++ toBE 1 1 ++ zeros 2 ++ toBE 4 slot5 ++ toLE 64 image5
theorem meets_rule_write : (b5 (leasedTo 5)).stagingBank = 1 ∧ (b5 (leasedTo 5)).holds 5 = true ∧ be ruleParams 8 4 < tableSize 0 ∧ le ruleParams 12 64 = image5 ∧
    imageRefused (b5 (leasedTo 5)) 5 0 0 slot5 image5 = none ∧ bankRefused (b5 (leasedTo 5)) 5 0 0 slot5 image5 1 1 = none := by decide +kernel
theorem test_rule_write : lastReply (go (.ruleWrite c5 ruleParams) (leasedTo 5)) = some (0, toBE 2 1) ∧
    (go (.ruleWrite c5 ruleParams) (leasedTo 5)).entryAt 0 0 1 slot5 = image5 := by decide +kernel
/-- The same device with that entry in the active bank. -/
def withEntry : State := { leasedTo 5 with mt.exact := [(entryKey 0 0 slot5, BitVec.ofNat 512 image5)], mt.keysel := [(keyselKey 0 0 0, 0x8190#32)] }
def readParams : Bytes := toBE 1 0 ++ toBE 1 0 ++ toBE 2 1 ++ toBE 4 slot5
theorem test_rule_read : lastReply (go (.ruleRead c5 readParams) withEntry) = some (0, toLE 64 image5) ∧
    lastReply (go (.ruleRead c0 readParams) withEntry) = some (0, zeros 64) := by decide +kernel
theorem meets_flip : (b5 (leasedTo 5)).ruleDrain = 0 ∧ (b5 (leasedTo 5)).flipPending = false ∧ parseArmed (b5 (leasedTo 5)) = false := by decide +kernel
theorem test_flip : lastStatus (go (.ruleEpochFlip c5 []) (leasedTo 5)) = some St.OK ∧ (go (.ruleEpochFlip c5 []) (leasedTo 5)).flipPending = true ∧
    lastStatus (go (.ruleEpochFlip c5 []) (leasedTo 0)) = some St.NOT_PERMITTED := by decide +kernel
def copied : State := up.setFlag Addr.EPOCH_STATUS 2 true
theorem meets_stage_open : (b5 copied).stageReady = true ∧ (b5 copied).leaseHeld = false := by decide +kernel
theorem test_stage_open : (go (.ruleStageOpen c5 []) copied).holds 5 = true ∧ lastStatus (go (.ruleStageOpen c5 []) (leasedTo 0)) = some St.BUSY := by decide +kernel
theorem test_stage_close : (go (.ruleStageClose c5 []) (leasedTo 5)).leaseHeld = false ∧ (go (.ruleStageClose c0 []) (leasedTo 5)).leaseHeld = false := by decide +kernel
/-- Template 4095 of stage 11: owner's tenant, egress port 3. -/
def templateParams : Bytes := toBE 2 1 ++ zeros 2 ++ toBE 1 11 ++ toBE 1 0 ++ toBE 2 4095 ++ zeros 4 ++ toLE 4 0 ++ toLE 4 0x14000003 ++ zeros 56
theorem meets_template : validateTemplate (wordsLE (slice templateParams 12 64)) = 0 ∧ validateTemplate (0 :: List.replicate 15 0x54000000) = 1 := by decide +kernel
theorem test_template : lastReply (go (.ruleTemplateWrite c0 templateParams) (leasedTo 0)) = some (0, toBE 2 1) ∧
    ((go (.ruleTemplateWrite c0 templateParams) (leasedTo 0)).templAt 11 1 4095).getD 1 0 = 0x14000003 := by decide +kernel
def record5 : FragRecord := { id := 1, key := [9], tenant := 5, result := {}, used := 0 }
theorem test_frag_flush : (go (.fragFlush c5 (zeros 4)) { up with mt.frags := [record5, { record5 with id := 2, tenant := 0 }] }).mt.frags.map FragRecord.id = [2] := by decide +kernel
/-- ENTRY_SEL of stage 3 at the image's slot of staging bank 1, ENTRY_DATA its words. -/
def selected (bank : Nat) : State :=
  ((List.range 16).foldl (fun (s : State) k => s.setReg (Addr.ENTRY_DATA 0 k) (bits (image5 - 5 * 2 ^ 384) (32 * k) 32)) (leasedTo 0)).setReg (Addr.ENTRY_SEL 0) (exactSlot 0 7 0 + bank * 2 ^ 20)
theorem meets_entry_write : bits ((b0 (selected 1)).reg (Addr.ENTRY_SEL 0)) 20 1 = (b0 (selected 1)).stagingBank ∧
    imageRefused (b0 (selected 1)) 0 0 0 (exactSlot 0 7 0) ((b0 (selected 1)).entryData 0 16) = none ∧
    bankRefused (b0 (selected 1)) 0 0 0 (exactSlot 0 7 0) ((b0 (selected 1)).entryData 0 16) 1 1 = none ∧
    (entryOf 0 ((b0 (selected 1)).entryAt 0 0 1 (exactSlot 0 7 0))).tenant = 0 := by decide +kernel
theorem test_entry_write : (go (.entryWrite c0 0) (selected 1)).entryAt 0 0 1 (exactSlot 0 7 0) = image5 - 5 * 2 ^ 384 ∧
    (go (.entryInvalidate c0 0) (go (.entryWrite c0 0) (selected 1))).entryAt 0 0 1 (exactSlot 0 7 0) = 0 := by decide +kernel
theorem test_entry_read : (go (.entryRead c0 0) (go (.entryWrite c0 0) (selected 1))).reg (Addr.ENTRY_DATA 0 0) = 7 := by decide +kernel

/-- Packet 1 of tenant 5 before stage 0 of pass 1, whose key is the 8 bits of the bus at 400: 7. -/
def at0 : Pkt := { packet100 with at_ := .stage 0, pass := 1, tenant := 5, bus := setBus 0 400 8 7, stamped := true }
def looking : State := { withEntry with ports.packets := [at0] }
theorem meets_lookup : readsLost looking at0 0 0 = false ∧ lookupKey looking at0 0 0 0 = some 7 ∧ lookupKey looking at0 0 0 1 = none := by decide +kernel
theorem test_lookup : ((go (.stageLookup 1 1 0 ⟨[], {}⟩) looking).packet 1).map (fun q => (q.at_, q.hit, q.result.drop)) = some (.stage 1, true, true) ∧
    (go (.stageLookup 1 1 0 ⟨[], {}⟩) looking).reg (Addr.EXACT_HITS 0) = 1 := by decide +kernel
theorem test_recirc : ((go (.recircPassStart 1 2) { up with ports.packets := [{ at0 with pass := 2, at_ := .recirc }], mt.recircQ := [(2, [1])] }).packet 1).map
    (fun q => (q.pass, q.at_)) = some (3, .stage 0) := by decide +kernel
def ruleFlipping : State := { leasedTo 5 with mt.flipAt := some 0 }
theorem meets_flip_beat : ruleFlipping.secure.waitFlip = [] ∧ 0 ≤ ruleFlipping.zc ∧ ruleFlipping.models = [] ∧ parseArmed ruleFlipping = false := by decide +kernel
theorem test_flip_beat : (go (.ruleEpochFlipBeat 1) ruleFlipping).ruleBank = 1 ∧ (go (.ruleEpochFlipBeat 1) ruleFlipping).prevEpoch = 0 ∧
    (go (.ruleEpochFlipBeat 1) ruleFlipping).leaseHeld = false := by decide +kernel
theorem test_copy_done : (go (.stagingCopyDone 1) { withEntry with mt.copying := true }).entryAt 0 0 1 slot5 = image5 := by decide +kernel
/-- A packet of epoch 1 drains after a flip at instant 0. -/
def draining : State := { up with mt.lastFlip := some 0, ports.packets := [{ at0 with epoch := 1 }] }
theorem meets_drain : draining.ruleDrain = 1 ∧ 0 + us 100 ≤ us 200 ∧ draining.mt.drainReported = false := by decide +kernel
theorem test_drain : (go (.epochDrainSlow (us 200)) draining).mt.drainReported = true ∧ (go (.epochDrainSlow (us 99)) draining).mt.drainReported = false := by decide +kernel
theorem test_lease_expiry : (leasedTo 5).mt.leaseUntil ≤ secs 4 ∧ (leasedTo 5).leaseHeld = true ∧ (leasedTo 5).flipPending = false ∧ (leasedTo 5).mt.leaseUntil ≤ (leasedTo 5).beat.lastIssue ∧ (go (.stageLeaseExpiry (secs 4)) (leasedTo 5)).leaseHeld = false := by decide +kernel
theorem test_rewrite : (go (.ruleEntryRewrite 1 2 0 1 5) { up with mt.lost := [(0, 3), (1, wordKey 1 2 0 5)] }).mt.lost = [(0, 3)] := by decide +kernel

/-- Packet 1 at step 9 with nothing to do, and with exception code 128. -/
def nine (e : Option Nat) : Pkt := { at0 with at_ := .resolve, hit := true, result := { egress := some (false, 3), queue := some 2, exc := e } }
def atNine (e : Option Nat) : State := { up with ports.packets := [nine e] }
theorem meets_resolve : (exceptionReason (resolveGroup (advance 1 (atNine none)) (nine none)) = none) ∧
    (editFrame (advance 1 (atNine none)) (resolveGroup (advance 1 (atNine none)) (nine none))).2.1 = none := by decide +kernel
/-- A packet that takes its port default goes to step 10 as it is. -/
theorem test_via_default : ((go (.actionResolve 1 1) { up with ports.packets := [{ nine none with viaDefault := true }] }).packet 1).map Pkt.at_ = some .admission := by decide +kernel
theorem test_resolve : ((go (.actionResolve 1 1) (atNine none)).packet 1).map Pkt.at_ = some .admission := by decide +kernel
theorem meets_exception : exceptionReason (resolveGroup (advance 1 (atNine (some 128))) (nine (some 128))) = some 128 ∧
    (tabGet (0, 0) 0 (refillException 0 (advance 1 (atNine (some 128)))).mt.bucket).1 + exceptionUnit ≤ (atNine (some 128)).reg Addr.EXC_BURST * exceptionUnit := by decide +kernel
theorem test_exception : (go (.actionResolve 1 1) (atNine (some 128))).packet 1 = none ∧ (go (.actionResolve 1 1) (atNine (some 128))).reg Addr.EXC_ADMITTED = 1 := by decide +kernel
/-- Packet 1, a later fragment, next of core group 0; a record of its key. -/
def later : Pkt := { packet100 with at_ := .parsed, bus := setBus 0 50 2 2 }
def later2 : State := { up with ports.packets := [later], hc.order := [(0, [0])] }
def recorded : State := { later2 with mt.frags := [{ record5 with key := fragKey later }] }
theorem meets_fragment : takesNew later2 later = true ∧ later.frag = 2 ∧ later2.mt.fragWait.length < 4096 ∧ takesNew recorded later = true ∧
    0 < us (recorded.reg Addr.FRAG_LIFE) := by decide +kernel
theorem test_fragment : ((go (.fragLookup 1 ⟨1, {}⟩) recorded).packet 1).map (fun q => (q.tenant, q.at_)) = some (5, .resolve) ∧
    (go (.fragLookup 1 ⟨1, {}⟩) later2).mt.fragWait = [1] ∧ (go (.fragLookup 1 ⟨1, { bad := true }⟩) recorded).packet 1 = none := by decide +kernel
theorem test_frag_timeout : (go (.fragWaitTimeout (secs 4) 1) { up with ports.packets := [{ later with at_ := .fragWait }], mt.fragWait := [1] }).reg Addr.FRAG_TIMEOUTS = 1 := by decide +kernel
theorem test_frag_expire : (go (.fragRecordExpire (secs 400) 1) recorded).mt.frags = [] := by decide +kernel

/-! Flow memory and the encoder -/

/-- FLOW_REGION_SET for tenant 5: enabled, base 16 MiB, 4,096 records, 1,000 packets per second, ways 0 to 3, no rings. -/
def regionParams : Bytes := toBE 1 5 ++ toBE 1 1 ++ zeros 2 ++ toBE 4 16 ++ toBE 4 1 ++ toBE 4 1000 ++ toBE 4 15 ++ zeros 8 ++ zeros 4 ++ zeros 8 ++ zeros 4
/-- Tenant 5 with that region. -/
def flowing : State := (((up.setFlag (Addr.FLOW_TCTRL 5) 0 true).setReg (Addr.FLOW_BASE 5) 16).setReg (Addr.FLOW_RECORDS 5) 1).setReg (Addr.WAY_MASK 5) 15
theorem meets_region : (b0 up).tenantExists 5 = true ∧ (b0 up).flag (Addr.FLOW_TCTRL 5) 0 = false ∧
    (b0 up).reg (Addr.IDLE_TIMEOUT 5) + (b0 up).reg Addr.SCAN_PERIOD ≤ 4200 ∧ regionParams.length = 44 ∧ be regionParams 16 4 = 15 ∧ up.flow.lines = [] := by decide +kernel
theorem flowTenants_flowing : flowTenants flowing = [5] := by decide +kernel
theorem meets_region_place : placementRefused flowing 5 = none := by
  unfold placementRefused
  rw [flowTenants_flowing]
  decide +kernel
/-- A live hot half of the zero key in slot 0 and one without the VALID bit, in cache lines whose cold halves are in. -/
def hotLive : Nat := keyTag (zeros 40) + 5 * 2 ^ 32 + 2 ^ 48 + 3 * 2 ^ 96
def lineOfKey (h : Nat) : FlowLine := { tenant := 5, slot := flowSlot (zeros 40) 4096, hot := BitVec.ofNat 1024 h, coldIn := true }
def cached (h : Nat) : State := { flowing with flow.lines := [(3, lineOfKey h)] }
theorem meets_flow_remove : ((b5 (cached hotLive)).flowOn 5 && hotValid ((b5 (cached hotLive)).hotOf 5 (flowSlot (zeros 40) 4096)) &&
      hotTag ((b5 (cached hotLive)).hotOf 5 (flowSlot (zeros 40) 4096)) == keyTag (zeros 40)) = true ∧
    hotValid ((b5 (cached 0)).hotOf 5 (flowSlot (zeros 40) 4096)) = false := by decide +kernel
theorem test_flow_read : (lastReply (go (.flowRead c5 (toBE 1 1 ++ zeros 3 ++ toBE 4 (flowSlot (zeros 40) 4096) ++ zeros 40)) (cached hotLive))).map
      (fun r => (r.1, r.2.take 8, natLE (slice r.2 8 128))) = some (0, toBE 1 1 ++ zeros 3 ++ toBE 4 (flowSlot (zeros 40) 4096), hotLive) ∧
    (lastReply (go (.flowRead c5 (zeros 48)) (cached 0))).map (fun r => (r.1, r.2.take 4, r.2.length)) = some (0, zeros 4, 264) := by decide +kernel
theorem test_flow_flush : tabGet 0 5 (go (.flowFlush c5 []) flowing).flow.flushing = 4000001 := by decide +kernel

/-- A package with one feature (the frame length), and selector 2 of tenant 5 whose slot A serves it on cells 0 and 1. -/
def package1 : Package := { f := 1, w := 2, nrep := 1, features := [2 + 0 * 16 + 1 * 2 ^ 19] }
def serving (log2N : Nat) : Selector := { a := { state := 4, pkg := package1, replicas := [[0, 1]], log2N } }
/-- Packet 1 before step 5, taken in on beat 0, on a device at a later beat. -/
def atFive : Pkt := { packet100 with at_ := .encode, pass := 1, tenant := 5, model := 2, vclass := 3, hash := 1, stamped := true }
def encoding (m : Tab Selector) : State :=
  { (up.setReg (Addr.VCLASS_DEFAULT 3) 77).setReg Addr.ZC_ROOT 9 with ports.packets := [atFive], models := m }
theorem meets_encode : mergeReady (encoding []) atFive = true ∧ servingSlot (encoding []) 5 2 0 = none ∧
    servingSlot (encoding [(82, serving 1)]) 5 2 0 = some 0 ∧ sampled ((serving 1).slot 0) 1 = false ∧ sampled ((serving 0).slot 0) 1 = true ∧
    (encoding [(82, serving 0)]).flowOn 5 = false ∧ queuesFree (encoding [(82, serving 0)]) (nextReplica (serving 0) 0) = true ∧
    retentionFree (encoding [(82, serving 0)]) = true ∧ (nextReplica (serving 0) 0).Nodup := by decide +kernel
theorem test_encode : ((go (.featureEncode (secs 4) 1 ⟨false, false⟩) (encoding [(82, serving 1)])).packet 1).map (fun q => (q.verdict, q.vsrc, q.pass)) = some (77, 2, 2) ∧
    ((go (.featureEncode (secs 4) 1 ⟨false, false⟩) (encoding [(82, serving 0)])).packet 1).map (fun q => (q.vector, q.slot, q.at_)) = some ([100], some 0, .infer) := by decide +kernel
def filling : State := { flowing with flow.lines := [(3, { lineOfKey hotLive with coldIn := false, filling := true })] }
theorem meets_fill : filling.lineOf 5 (flowSlot (zeros 40) 4096) = some (3, { lineOfKey hotLive with coldIn := false, filling := true }) := by decide +kernel
theorem meets_scan : (cached hotLive).flowOn 5 = true ∧ flowSlot (zeros 40) 4096 < (cached hotLive).flowRecords 5 ∧ hotValid ((cached hotLive).hotOf 5 (flowSlot (zeros 40) 4096)) = true ∧
    (cached hotLive).slotRetired 5 (flowSlot (zeros 40) 4096) = false ∧ ((cached hotLive).reg (Addr.IDLE_TIMEOUT 5) * 1000000 ≤
      hotIdle ((cached hotLive).hotOf 5 (flowSlot (zeros 40) 4096)) (advance (secs 2000) (cached hotLive)).nowUs) := by decide +kernel
/-- A label queue at 0 with its producer one ahead of its consumer, in clear in the tenant's memory. -/
def labelled : State := { (flowing.setReg (Addr.LABEL_ENTRIES 5) 4) with mem.bytes := [(0, 1#8)] }
theorem meets_label : labelled.flowOn 5 = true ∧
    min ((le (labelled.readBytes 5 (labelled.reg (Addr.LABEL_BASE 5)) 8) 0 4 + 2 ^ 32 - le (labelled.readBytes 5 (labelled.reg (Addr.LABEL_BASE 5)) 8) 4 4) % 2 ^ 32) 4 = 1 := by decide +kernel
theorem test_label : (go (.labelQueuePoll 1 ⟨5, []⟩) labelled).reg (Addr.LABEL_STALE 5) = 1 := by decide +kernel
theorem test_fill : ((go (.coldFillComplete 1 5 ⟨flowSlot (zeros 40) 4096, false⟩) filling).lineOf 5 (flowSlot (zeros 40) 4096)).map (fun l => (l.2.filling, l.2.cold)) = some (false, 0#1024) ∧
    ((go (.coldFillComplete 1 5 ⟨flowSlot (zeros 40) 4096, true⟩) filling).lineOf 5 (flowSlot (zeros 40) 4096)).map (fun l => (l.2.filling, l.2.coldBad)) = some (false, true) := by decide +kernel

/-! Models and verdicts -/

/-- A session of the owner sending for itself; slot B of selector 2 of tenant 5 READY beside the slot that serves. -/
def readyB : Selector := { serving 0 with b := { state := 2, pkg := package1, replicas := [[2, 3]] } }
def modelled (x : Selector) : State := { up with models := [(82, x)] }
def swapParams (f : Nat) : Bytes := toBE 1 2 ++ toBE 1 f ++ zeros 2
theorem meets_model_swap : ((checkDrains (b5 (modelled readyB))).selector 5 2).find 5 = none ∧ readyB.standby = 1 ∧
    (((checkDrains (b5 (modelled readyB))).selector 5 2).slot 1).state = 2 ∧ (((checkDrains (b5 (modelled readyB))).selector 5 2).slot 1).was = false ∧
    ((checkDrains (b5 (modelled readyB))).selector 5 2).armed = false ∧ ((checkDrains (b5 (modelled readyB))).selector 5 2).swapAt = none := by decide +kernel
theorem test_model_swap : lastStatus (go (.modelSwap c5 (swapParams 0)) (modelled readyB)) = some St.ACCEPTED ∧
    ((go (.modelSwap c5 (swapParams 0)) (modelled readyB)).selector 5 2).swapAt.isSome = true ∧
    ((go (.modelSwap c5 (swapParams 1)) (modelled readyB)).selector 5 2).armed = true ∧
    lastReply (go (.modelSwap c5 (swapParams 2)) (modelled readyB)) = some (0, zeros 8) := by decide +kernel
theorem test_model_unload : lastStatus (go (.modelUnload c5 (swapParams 1)) (modelled readyB)) = some St.OK ∧
    (((go (.modelUnload c5 (swapParams 1)) (modelled readyB)).selector 5 2).slot 1).state = 0 ∧
    lastStatus (go (.modelUnload c5 (swapParams 0)) (modelled readyB)) = some St.ACCEPTED := by decide +kernel
theorem test_model_status : (lastReply (go (.modelStatus c5 []) (modelled readyB))).map (fun r => (r.1, r.2.length)) = some (0, 512) := by decide +kernel
/-- MODEL_LOAD of a region of zeros, which is no package. -/
def loadParams : Bytes := toBE 1 2 ++ zeros 7 ++ toBE 8 0 ++ toBE 8 4096
theorem meets_model_load : up.fw.hbmFailed = false ∧ loadParams.length = 24 ∧ byteAt loadParams 1 ≤ 1 ∧ zerosAt loadParams 2 6 = true := by decide +kernel
theorem test_model_load : lastStatus (go (.modelLoad c5 loadParams) up) = some St.BAD_PARAM := by decide +kernel

def loadingB : Selector := { readyB with b := { readyB.b with state := 1 } }
theorem meets_load_complete : loadingB.find 1 = some 1 ∧ (loadingB.slot 1).replicas ≠ [] := by decide +kernel
theorem test_load_complete : (((go (.modelLoadComplete 1 5 2) (modelled loadingB)).selector 5 2).slot 1).state = 2 := by decide +kernel
def swapping : Selector := { readyB with swapAt := some 0 }
theorem meets_swap_point : swapping.swapAt = some 0 ∧ swapping.unloading = false ∧ (swapping.slot swapping.standby).state = 2 ∧ swapping.find 4 = some 0 := by decide +kernel
theorem test_swap_point : (((go (.modelSwapPoint 1 5 2) (modelled swapping)).selector 5 2).slot 1).state = 4 ∧
    ((go (.modelSwapPoint 1 5 2) (modelled swapping)).selector 5 2).find 4 = some 1 := by decide +kernel
/-- Cell 7 with slot A's placement active and slot B's in standby, slot B serving and slot A EMPTY. -/
def exchanging : State :=
  (modelled { a := {}, b := { state := 4, pkg := package1, replicas := [[7, 8]] } }).updCell 7 (fun y => { y with active := some (82, 0, 0), standby := some (82, 1, 0) })
theorem meets_exchange : (exchanging.cellx 7).active = some (82, 0, 0) ∧ (exchanging.slotOf (82, 0, 0)).state = 0 ∧ (exchanging.slotOf (82, 1, 0)).state = 4 := by decide +kernel
theorem test_exchange : ((go (.cellSlotExchange 1 7) exchanging).cellx 7).active = some (82, 1, 0) ∧ (go (.cellSlotExchange 1 7) exchanging).reg (Addr.PROG_BANK 7) % 2 = 1 := by decide +kernel

/-- Packet 1 inferred on cells 0 and 1, cell 0 having launched it; cell 1 INLINE, released, its queue holding packets 1 and 4. -/
def inferring : Pkt := { atFive with at_ := .infer, slot := some 0, replica := 0, launched := [0], vector := [100] }
def launching : State :=
  { ((modelled (serving 0)).setReg (Addr.CELL_STATE 1) (1 + 5 * 256)).updCell 1 (fun y => { y with inQ := [1, 4], active := some (82, 0, 1) }) with
    ports.packets := [inferring], beat.released := [0, 1] }
def noFlaw : LaunchFlaw := {}
theorem meets_launch : launching.inlineOpen 1 = true ∧ (launching.ports.packets.map Pkt.id).Nodup ∧ inferring.at_ = .infer ∧
    (∀ x ∈ launching.ports.packets, x.at_ ≠ .chain) ∧ (launching.replicaOf inferring).all (inferring.launched ++ [1]).contains = true := by decide +kernel
/-- A screed skew, as any other flaw, sends the verdict to a recoat (R186). -/
theorem test_launch_skew : ((go (.inlineLaunch 1 1 { skew := some (3, 4, 5) }) launching).packet 1).map Pkt.at_ = some .recoat := by decide +kernel
theorem test_launch : ((go (.inlineLaunch 1 1 noFlaw) launching).cellx 1).inQ = [4] ∧
    ((go (.inlineLaunch 1 1 noFlaw) launching).packet 1).map Pkt.at_ = some .hold := by decide +kernel
def holding : State := { up.setReg (Addr.ZC_INLINE 0) 30 with ports.packets := [{ inferring with at_ := .hold, verdictBeat := 6, verdict := 5 }] }
theorem test_verdict : ((go (.verdictRelease 1 1) holding).packet 1).map (fun q => (q.pass, q.verdict, q.vsrc)) = some (2, 5, 1) ∧
    ((go (.verdictRelease 1 1) (holding.setReg (Addr.ZC_INLINE 0) 29)).packet 1).map Pkt.at_ = some .hold := by decide +kernel
/-- Packet 1's verdict flagged on the replica of cells 0 and 1; another replica on cells 4 and 5. -/
def twoReplicas : Selector := { a := { state := 4, pkg := package1, replicas := [[0, 1], [4, 5]] } }
def flagged1 : Pkt := { inferring with at_ := .recoat, flagged := true, flaws := [(0, 1)], verdict := 5, deadline := us 50, vclass := 3 }
def recoating : State := { modelled twoReplicas with ports.packets := [flagged1] }
def cleanRuns : RecoatRuns := { recoatClean := true, repeatClean := true, equal := true, firstEqual := false, thirdClean := true, third := 0, row := 0 }
theorem meets_recoat : us 40 ≤ flagged1.deadline ∧ recoating.peersOf flagged1 ≠ [] ∧
    (recoating.transientsOf ((flagged1.flaws.head?.map Prod.fst).getD flagged1.replica)).length + 1 < recoating.reg Addr.TRANSIENT_LIMIT := by decide +kernel
theorem test_recoat : (go (.inlineRecoat (us 40) 1 cleanRuns) recoating).reg Addr.RECOATS = 1 ∧ (go (.recoatDeadline (us 51) 1) recoating).reg Addr.RECOAT_MISSED = 1 := by decide +kernel

/-! Jobs and copies -/

/-- The program of a rank: step 1 with a barrier after it, then step 2 from job beat 9, each with one result word and one operation word; and a
job of two ranks on cells 0 and 17 for tenant 5. -/
def program2 : CellProgram :=
  { mode := 0, heads := [(BitVec.ofNat 256 (1 + 2 ^ 128 + 2 ^ 160 + 2 ^ 183), 0#256), (BitVec.ofNat 256 (2 + 9 * 2 ^ 64 + 2 ^ 128 + 2 ^ 160), 0#256)], queue0 := [], queue1 := [] }
/-- The headers of that program, and a header that waits for counter 3 at 7, by the table of R209. -/
theorem test_step_header : program2.steps = [⟨1, 0, 1, 0, 1, 0, true, []⟩, ⟨2, 9, 1, 0, 1, 0, false, []⟩] ∧
    (stepOfWords 0 ((3 + 16 + 7 * 2 ^ 32) * 2 ^ 64)).waits = [(3, 7)] ∧ stepWordsOk (2 ^ 143) 0 = false := by decide +kernel
def job8 : Job := { id := 8, tenant := 5, session := 2, tag := 9, cells := [0, 17], image := { (default : JobImage) with ranks := [program2, program2] },
                    startBeat := 64, ckptBase := 0, ckptLen := 65536, ckptEvery := 0 }
def working (j : Job) : State :=
  { ([0, 17] : List Nat).foldl (fun s c => s.updCell c (fun x => { x with prog := some program2, qualified := true })) withBulk with jobs := [j], beat.released := [0, 17] }
theorem meets_job_start : up.fw.hbmFailed = false ∧ (b5 up).jobs.any (fun j => j.live && j.tenant == 5 && j.id == 8) = false ∧
    zerosAt (toBE 8 8 ++ zeros 80) 52 4 = true ∧ zerosAt (toBE 8 8 ++ zeros 80) 82 6 = true ∧ (toBE 8 8 ++ zeros 80).length = 88 := by decide +kernel
theorem meets_job : (b5 (working job8)).job 5 8 = some job8 ∧ job8.live = true ∧ job8.ckptLen ≠ 0 := by decide +kernel
theorem test_job_checkpoint : ((go (.jobCheckpoint c5 (toBE 8 8)) (working job8)).job 5 8).map Job.ckptAsked = some true := by decide +kernel
theorem test_job_cancel : ((go (.jobCancel c5 (toBE 8 8)) (working job8)).job 5 8).map Job.state = some 7 ∧
    lastStatus (go (.jobCancel c5 (toBE 8 8)) (working job8)) = some St.OK := by decide +kernel
theorem test_job_status : lastReply (go (.jobStatus c5 (toBE 8 8)) (working { job8 with state := 1, lastStep := 7 })) =
    some (0, toBE 1 1 ++ zeros 7 ++ toBE 8 7 ++ zeros 16) := by decide +kernel

theorem meets_step_launch : (working job8).jobOfCell 0 = some job8 ∧ (working job8).bulkOpen job8 0 = true ∧ ((working job8).cellx 0).opens = [] ∧
    program2.steps[((working job8).cellx 0).next]? = some ⟨1, 0, 1, 0, 1, 0, true, []⟩ ∧ (working job8).reg (Addr.COMMIT_OCC 0) + 1 ≤ 16384 ∧
    ((progBarriers program2).filter (fun i => decide (i < 0))).length ≤ job8.lastBarrier ∧ job8.dumpHolds [] = false ∧
    (runStep job8 0 1 [] [] (advance 1 (working job8))).results.length ≤ 1 ∧ job8.image.regions = [] := by decide +kernel
/-- The vector unit on worked rows (R259): a sum, a tie of TOPK, the signs of zero under MAX, one rounding of FMA (1 + 2⁻²³ squared less
1 + 2⁻²² is 2⁻⁴⁶), and a −0 that keeps its sign when it is widened (R167). -/
theorem test_vector : sumRow [0x3F800000, 0x40000000, 0x40400000] = 0x40C00000 ∧
    topkRow 2 [0x3F800000, 0x40400000, 0x40400000] = [(0x40400000, 1), (0x40400000, 2)] ∧ maxFp 0x80000000 0 = 0 ∧
    fmaFp 0x3F800001 0x3F800001 0xBF800002 = 0x28800000 := by decide +kernel
theorem test_minus_zero : (⟨3, [0x80], oneFp, 0, none, 0⟩ : RowRead).values = [0x80000000] := by decide +kernel
theorem test_step_launch : (go (.stepLaunch 1 0 []) (working job8)).reg (Addr.STEP_LAUNCHED 0) = 1 ∧ (go (.stepLaunch 1 0 []) (working job8)).reg (Addr.COMMIT_OCC 0) = 1 := by decide +kernel
/-- Cell 0 with step 1 open, its result 6 for word 3; step 2 is still to launch. -/
def open1 : OpenStep := { index := 0, step := 1, results := [(3, 6#256)] }
def opened (o : OpenStep) : State := ((working job8).updCell 0 (fun x => { x with opens := [o], next := 1 })).setReg (Addr.COMMIT_OCC 0) 1
def goodCheck : StepCheck := { mismatches := 0, row := 0, storeBad := false, bufferBad := false, corrected := 0 }
theorem meets_step_check : (opened open1).bulkSampled 8 1 (job8.rank 0) = false ∧ ((opened open1).cellx 0).prog = some program2 ∧
    ((opened open1).cellx 0).next < program2.steps.length ∧ (open1.results.map (fun r => r.1 % storeWords)).Nodup ∧ (opened open1).flag Addr.INT_CTRL 0 = true := by decide +kernel
theorem test_step_commit : (go (.stepCheckDone 1 0 1 goodCheck) (opened open1)).storeWord 0 3 = 6#256 ∧ (go (.stepCheckDone 1 0 1 goodCheck) (opened open1)).reg (Addr.STEP_COMMITTED 0) = 1 := by decide +kernel
theorem test_step_flag : ((go (.stepCheckDone 1 0 1 { goodCheck with mismatches := 1 }) (opened open1)).cellx 0).opens.map OpenStep.suspect = [1] ∧
    ((go (.stepCheckDone 1 0 1 { goodCheck with walks := 1 }) (opened open1)).cellx 0).opens.map OpenStep.suspect = [1] := by decide +kernel
theorem meets_recoat_compare : ((opened { open1 with suspect := 1 }).cellx 0).opens.find? (fun o => o.step == 1 && o.suspect != 0) = some { open1 with suspect := 1 } ∧
    (job8.peer (opened { open1 with suspect := 1 }) 0).isSome = true ∧ ((opened { open1 with suspect := 1 }).transientsOf 0).length + 1 < (opened { open1 with suspect := 1 }).reg Addr.TRANSIENT_LIMIT := by decide +kernel
theorem test_recoat_compare : (go (.recoatCompare 1 0 1 cleanRuns) (opened { open1 with suspect := 1 })).reg Addr.RECOATS = 1 ∧
    (go (.recoatCompare 1 0 1 cleanRuns) (opened { open1 with suspect := 1 })).storeWord 0 3 = 6#256 := by decide +kernel

/-- A copy of 64 bytes from HBM 0 to HBM 128, within tenant 5's window 0; as a software copy, as head of cell 0's queue, and under way. -/
def copy64 : CopyDesc := { src := 0, dst := 128, launch := 0, length := 64, rows := 0, flags := 0, srcStride := 0, dstStride := 0, step := 0, copyTag := 0 }
def soft64 : SoftCopy := ⟨5, 2, 9, 0, copy64⟩
def windowed : State := { working job8 with mem.windows := [(80, ⟨0, 4, true, true⟩)], mem.bytes := [(0, 1#8), (33, 2#8)] }
def queued : State := { windowed with copies.soft := [(3, [soft64])] }
theorem meets_soft_copy : queued.copyBeatOpen queued.beat.kSoft copy64 = true ∧ queued.mustFollow (512 + 3) copy64 = false ∧ CopyFlag.waitCommit copy64 = false ∧
    queued.copyPeer copy64 = none ∧ CopyFlag.spec copy64 = false ∧ queued.copyCause 5 none copy64 = 0 := by decide +kernel
def celled : State := windowed.updCell 0 (fun x => { x with q0 := [(4, copy64)] })
theorem meets_cell_copy : ((celled.cellx 0).headCopy 0).map (fun y => (y.1, y.2.1)) = some (4, copy64) ∧ celled.jobOfCell 0 = some job8 ∧ job8.state = 0 ∧
    celled.cellCopyReady 0 0 copy64 = true ∧ celled.copyCause 5 (some 8) copy64 = 0 := by decide +kernel
theorem test_copy_launch : (go (.copyLaunch 1 515) queued).copies.flights.map (fun f => (f.queue, f.desc)) = [(515, copy64)] ∧
    (go (.copyLaunch 1 0) celled).copies.flights.map Flight.job = [8] := by decide +kernel
def flight1 : Flight := { id := 1, queue := 515, slot := 0, tenant := 5, job := 0, session := 2, tag := 9, desc := copy64, launched := 0 }
def flying : State := { windowed with copies.flights := [flight1] }
theorem meets_copy_complete : flying.endCause 5 flight1.own false copy64 ≠ 3 ∧ flying.endCause 5 flight1.own true copy64 ≠ 3 ∧ flight1.held = [] ∧
    flying.mustWait flight1 = false ∧ flying.cellsStay flight1 = true ∧ flying.obs.trace = none ∧ flying.obs.sends = [] ∧ flying.beatWrites = [] := by decide +kernel
theorem test_copy_complete : (go (.copyComplete 1 1 ⟨false, 0⟩) flying).readSpan 5 0 160 = flying.readSpan 5 0 32 ∧ (go (.copyComplete 1 1 ⟨false, 0⟩) flying).copies.flights = [] := by decide +kernel

/-- Both cells have committed step 1, so both clusters are ready for barrier 1, whose B is 9. -/
def committed : State := ((working job8).setReg (Addr.STEP_COMMITTED 0) 1).setReg (Addr.STEP_COMMITTED 17) 1
theorem meets_barrier : job8.grouped = false ∧ job8.clusters = [0, 1] ∧
    (job8.clusters.filter (fun k => !job8.atBarrier.contains k && (job8.cells.filter (fun c => c / 16 == k)).all (fun c => committed.pastBarrier c 1))) = [0, 1] ∧
    committed.barrierBeat job8 1 = 9 := by decide +kernel
theorem test_barrier : ((go (.barrierArrive 1 5 8) committed).job 5 8).map (fun j => (j.lastBarrier, j.state)) = some (1, 1) ∧
    (go (.barrierArrive 1 5 8) committed).halted 1 = true ∧ (go (.barrierArrive 1 5 8) committed).zcBulk 1 = 9 := by decide +kernel
/-- The job halted at a barrier of a group of devices 0 and 3; this device is the manager. -/
def grouped8 : Job := { job8 with state := 1, lastBarrier := 1, atBarrier := [0, 1], image := { job8.image with members := [0, 3] } }
def managing (j : Job) : State := (working j).setReg Addr.MANAGER 64
theorem meets_resume : (managing { grouped8 with arrivals := [(0, 5), (3, 7)] }).limik = true ∧ (managing grouped8).isManager = true ∧ grouped8.ckptAt ≠ grouped8.lastBarrier ∧
    ∀ m ∈ grouped8.image.members, (([(0, 5), (3, 7)] : List (Nat × Nat)).map Prod.fst).contains m = true := by decide +kernel
theorem test_resume : ((go (.managerResume 9 8) (managing { grouped8 with arrivals := [(0, 5), (3, 7)] })).job 5 8).map Job.resumeAt =
    some (some (7 + 16000 * (managing grouped8).reg Addr.RESUME_MARGIN)) := by decide +kernel
def halted8 : Job := { job8 with state := 1, lastBarrier := 1, atBarrier := [0, 1], barrierBeat := 9 }
/-- It, on a later beat than the one its clusters halted on; cluster 1 is also halted by HALT_MASK. -/
def releasing : State := { ((working halted8).setReg Addr.ZC_ROOT 9).setReg Addr.HALTED 3 with beat.causes := [(0, [.barrier]), (1, [.mask, .barrier])] }
theorem meets_release : releasing.mayRelease halted8 = true ∧ releasing.haltCauses 0 = [.barrier] ∧ releasing.haltCauses 1 = [.mask, .barrier] := by decide +kernel
theorem test_release : ((go (.barrierRelease 1 5 8) releasing).job 5 8).map (fun j => (j.state, j.atBarrier)) = some (3, []) ∧
    (go (.barrierRelease 1 5 8) releasing).halted 0 = false ∧ (go (.barrierRelease 1 5 8) releasing).halted 1 = true := by decide +kernel
def checkpointing : Job := { job8 with state := 2, lastBarrier := 1, atBarrier := [0, 1] }
theorem test_checkpoint : ((go (.checkpointWriteDone 1 5 8 ⟨true, []⟩) (working checkpointing)).job 5 8).map (fun j => (j.state, j.ckptBarrier, j.nextSlot)) = some (1, 1, 1) := by decide +kernel
theorem meets_ckpt_done : (managing { grouped8 with ckptDone := [(0, 1)] }).isManager = true ∧ grouped8.loggedBarrier < 1 ∧
    (managing { grouped8 with ckptDone := [(0, 1)] }).group.pendingLog.any (fun r => r.kind == 5 && r.body == [8, 1]) = false := by decide +kernel
theorem test_ckpt_done : (go (.ckptDoneLog 1 8 1 3) (managing { grouped8 with ckptDone := [(0, 1)] })).group.pendingLog.map LogRecord.body = [[8, 1]] ∧
    (go (.ckptDoneLog 1 8 1 3) (managing grouped8)).group.pendingLog = [] := by decide +kernel
/-- RESTARTING with slot 0 VALID in memory: job 8, barrier 1, B 9. -/
def restarting : Job := { job8 with state := 4 }
def stored : State := { working restarting with mem.bytes := [(0, 8#8), (8, 1#8), (16, 9#8), (31, 0x80#8)] }
theorem meets_restart : stored.lastSlot restarting = some (0, 1, 9) ∧ rankCells stored restarting = some [0, 17] ∧ stored.field Addr.CALM_BULK 0 9 ≠ 256 := by decide +kernel
theorem test_restart : ((go (.jobRestart 1 5 8) stored).job 5 8).map (fun j => (j.state, j.lastBarrier)) = some (0, 1) ∧ (go (.jobRestart 1 5 8) stored).reg Addr.RESTARTS = 1 := by decide +kernel

/-! The traffic manager -/

/-- POLICER_SET of policer 65,535: MODE 1, selector at 384, tenant 5, CIR 100, PIR 200, CBS 1,000. -/
def polParams : Bytes := toBE 2 0xFFFF ++ zeros 2 ++ toBE 4 (1 + 384 * 256 + 5 * 2 ^ 24) ++ toBE 4 100 ++ toBE 4 200 ++ toBE 4 1000 ++ zeros 4
theorem test_policer_set : lastStatus (go (.policerSet c0 polParams) up) = some St.OK ∧ (go (.policerSet c0 polParams) up).reg (Addr.CIR 65535) = 100 ∧
    lastStatus (go (.policerSet c0 (polParams.set 6 3#8)) up) = some St.BAD_PARAM := by decide +kernel
/-- QUEUE_SET of queue 7 for tenant 5, enabled, quantum 64, limits 30, 20, 10, no shaper; of port 3: queues 8 to 11. -/
def queueParams : Bytes := toBE 1 0 ++ toBE 1 0 ++ toBE 2 7 ++ toBE 4 (64 + 5 * 256) ++ toBE 4 64 ++ toBE 4 30 ++ toBE 4 20 ++ toBE 4 10 ++ toBE 4 4096
def portParams : Bytes := toBE 1 1 ++ toBE 1 0 ++ toBE 2 3 ++ toBE 4 (8 + 4 * 1024) ++ toBE 4 4096
theorem meets_queue_set : queueParams.length = 28 ∧ be queueParams 8 4 = 64 ∧ bitAt (be queueParams 4 4 &&& 0x7FFC0) 6 = true ∧ bitAt (be queueParams 24 4) 12 = true ∧
    (b0 up).rangeBad 3 (be portParams 4 4) = false := by decide +kernel
theorem test_queue_set : (go (.queueSet c0 queueParams) up).tmOwned 0 7 5 = true ∧ (go (.queueSet c0 portParams) up).qRange 3 = (8, 4, 0) := by decide +kernel
/-- SHAPER_SET of shaper 4,095: 8,000 kb/s, 1,500 bytes, filled. -/
def shaperParams (fill : Nat) : Bytes := toBE 2 4095 ++ toBE 1 fill ++ zeros 1 ++ toBE 4 8000 ++ toBE 4 1500 ++ toBE 4 64
theorem test_shaper_set : (go (.shaperSet c0 (shaperParams 1)) up).shTokens 4095 = 1500 * 2 ^ 32 ∧ (go (.shaperSet c0 (shaperParams 2)) up).shTokens 4095 = 0 := by decide +kernel
theorem test_sh_apply : (go (.shApply c0 9 1#32) ((up.setReg (Addr.SH_RATE_NEXT 9) 70).setReg (Addr.SH_BURST_NEXT 9) 80)).reg (Addr.SH_RATE 9) = 70 ∧
    (go (.shApply c0 9 1#32) ((up.setReg (Addr.SH_RATE_NEXT 9) 70).setReg (Addr.SH_BURST_NEXT 9) 80)).shTokens 9 = 80 * 2 ^ 32 := by decide +kernel
theorem test_tm_read : lastStatus (go (.tmRead c0 (zeros 2 ++ toBE 2 1022 ++ toBE 2 2)) (up.setReg (Addr.OCC_HIGH 1023) 5)) = some St.OK ∧
    (go (.tmRead c0 (zeros 2 ++ toBE 2 1022 ++ toBE 2 2)) (up.setReg (Addr.OCC_HIGH 1023) 5)).reg (Addr.OCC_HIGH 1023) = 0 := by decide +kernel
def fenceParams : Bytes := toBE 1 0 ++ toBE 1 5 ++ zeros 2 ++ toBE 8 (2 ^ 63) ++ toBE 2 3 ++ zeros 2
theorem test_fence_set : (go (.fenceSet c0 fenceParams) up).reg (Addr.TPORTS 5) = 2 ^ 63 ∧ (go (.fenceSet c0 fenceParams) up).reg (Addr.TCLASSES 5) = 3 ∧
    (go (.fenceSet c0 (toBE 1 1 ++ toBE 1 63 ++ zeros 2 ++ toBE 2 9 ++ zeros 10)) up).reg (Addr.PORT_CLASSES 63) = 9 := by decide +kernel
theorem test_mirror_set : (go (.mirrorSet c0 (toBE 1 15 ++ zeros 3 ++ toBE 4 (2 ^ 24 + 5) ++ toBE 4 64)) up).reg (Addr.TRUNCATE 15) = 64 ∧
    lastStatus (go (.mirrorSet c0 (toBE 1 15 ++ zeros 3 ++ toBE 4 5 ++ toBE 4 63)) up) = some St.BAD_PARAM := by decide +kernel

/-- Logical port 0 with queues 0 to 3, of which tenant 5 owns queue 2, and its fence open to port 0 and class 0. -/
def egress : State := [(Addr.PQ_CFG 0, 4 * 1024), (Addr.Q_CFG 2, 64 + 5 * 256), (Addr.QUANTUM 2, 200), (Addr.GREEN_LIMIT 2, 4), (Addr.TPORTS 5, 1), (Addr.TCLASSES 5, 1),
  (Addr.PORT_CLASSES 0, 1), (Addr.Q_SHAPER 2, 4096), (Addr.PORT_SHAPER 0, 4096)].foldl (fun s r => s.setReg r.1 r.2) (linked.setFlag (Addr.PORT_CTRL 0) 3 true)
/-- Packet 1 of tenant 5 at step 10, of one page, to port 0 and queue 2. -/
def admitted : Pkt := { packet100 with at_ := .admission, tenant := 5, shared := 1, result := { egress := some (false, 0), queue := some 2 } }
def admitting (pages : Nat) : State := { egress with ports.packets := [{ admitted with shared := pages }] }
theorem meets_admit : egress.queueOf 0 (some 2) = some 2 ∧ egress.fence 0 5 0 0 2 none = 0 ∧ (admitting 1).occPages 2 + admitted.pages ≤ (admitting 1).reg (colourLimit 2 0) ∧
    (admitting 5).reg (colourLimit 2 0) < (admitting 5).occPages 2 + 5 := by decide +kernel
theorem test_admit : ((go (.tmAdmit 1 1) (admitting 1)).queue 2).map QFrame.pages = [1] ∧ (go (.tmAdmit 1 1) (admitting 5)).reg (Addr.TAIL_DROP 2) = 1 := by decide +kernel
/-- A frame of 100 bytes at the head of queue 2, the port's only active queue. -/
def frameOf : QFrame := { pkt := 1, bytes := packet100.bytes, pages := 1 }
def sending : State := { egress with tm.queues := [(2, [frameOf])], tm.active := [(0, [2])], ports.packets := [{ admitted with at_ := .queued }] }
theorem meets_transmit : sending.activeQ 0 = [2] ∧ (advance 1 sending).eligible 0 2 = true ∧ (advance 1 sending).shaperOpen (sending.reg (Addr.PORT_SHAPER 0)) = true ∧
    frameOf.bytes.length + 4 ≤ sending.reg (Addr.DEFICIT 2) + sending.reg (Addr.QUANTUM 2) ∧ sending.placeOf 0 = some (0, 0) ∧ sending.subUp 0 0 = true ∧
    (sending.fifo 0x40).pkts = [] ∧ sending.flag (Addr.PORT_CTRL 0) 6 = false ∧ sending.flag (Addr.PORT_CTRL 0) 3 = true ∧ sending.secError = false := by decide +kernel
theorem test_transmit : (go (.frameTransmit 1 ⟨0, {}⟩) sending).out = [.frame 0 packet100.bytes] ∧ (go (.frameTransmit 1 ⟨0, {}⟩) sending).reg (Addr.Q_TX_BYTES 2) = 104 ∧
    (go (.frameTransmit 1 ⟨0, {}⟩) sending).packet 1 = none := by decide +kernel
/-- A frame in the egress FIFO. -/
def standing : State := sending.setFifo 0x40 ⟨[⟨1, none, [7#256]⟩], none⟩
theorem meets_standing : (standing.fifo 0x40).pkts = [⟨1, none, [7#256]⟩] ∧ standing.placeOf 0 = some (0, 0) ∧ standing.subUp 0 0 = true ∧
    standing.flag (Addr.PORT_CTRL 0) 6 = false ∧ standing.flag (Addr.PORT_CTRL 0) 3 = true ∧ standing.secError = false := by decide +kernel
theorem test_standing : (go (.frameTransmit 1 ⟨0, {}⟩) standing).out = [.frame 0 (toLE 32 7)] ∧ ((go (.frameTransmit 1 ⟨0, {}⟩) standing).fifo 0x40).pkts = [] := by decide +kernel
/-- Shaper 9 of queue 2, refilled. -/
def shaped : State := { ((sending.setReg (Addr.Q_SHAPER 2) 9).setReg (Addr.SH_CFG 9) 64).setReg (Addr.SH_BURST 9) 100 with tm.active := [], tm.tokens := [(9, 2 ^ 32)] }
theorem meets_shaper_open : shaped.flag (Addr.SH_CFG 9) 6 = true ∧ (advance 1 shaped).shaperOpen 9 = true ∧ (advance 1 shaped).eligible 0 2 = true ∧
    (shaped.qRange 0).1 ≤ 2 ∧ 2 < (shaped.qRange 0).1 + (shaped.qRange 0).2.1 ∧ shaped.queue 2 ≠ [] := by decide +kernel
theorem test_shaper_open : (go (.shaperOpen 1 9) shaped).activeQ 0 = [2] := by decide +kernel
theorem meets_histogram : egress.on = true ∧ egress.histBin 2 = 0 ∧ sending.histBin 2 = 4 := by decide +kernel

/-! The group, the fabric and the bridge -/

/-- GROUP_JOIN as member 5 of group 2, MGR_ORDER 5, 6, 7, to a group of members 6 and 7. -/
def joinParams : Bytes := toBE 1 2 ++ toBE 1 5 ++ toBE 1 6 ++ toBE 1 3 ++ [5#8, 6#8, 7#8] ++ zeros 5 ++ zeros 12
def link67 : JoinInfo := { ownerMatch := true, live := [6, 7], term := 9, logIndex := 3, groupZc := 5000, rate := 500, t0 := 0, n0 := 0 }
theorem meets_join : joinParams.length = 24 ∧ link67.lease = true ∧ (b0 up).joined = false ∧ link67.live.contains 5 = false ∧ (b0 up).zc ≤ link67.groupZc ∧
    zerosAt joinParams 7 5 = true ∧ ([5, 6, 7] : List Nat).Nodup := by decide +kernel
theorem test_join : (go (.groupJoin c0 joinParams link67) up).member = 5 ∧ (go (.groupJoin c0 joinParams link67) up).groupNum = 2 ∧
    (go (.groupJoin c0 joinParams link67) up).beatMode = 2 ∧ (go (.groupJoin c0 joinParams link67) up).group.live = [5, 6, 7] := by decide +kernel
/-- Member 5 of group 2 with members 6 and 7; member 6 is manager, ports 0 and 2 are up with credits, TERM 9, LOG_INDEX 3. -/
def credits : Tab Nat := (List.range 96).map (fun i => (i, 100))
def grouped : State :=
  { (([(Addr.DEVICE_NUMBER, 2 ^ 13 + 133), (Addr.TERM, 9), (Addr.LOG_INDEX, 3), (Addr.FP_STATUS 0, 256), (Addr.FP_STATUS 2, 256), (Addr.FP_CTRL 0, 1), (Addr.FP_CTRL 2, 1),
      (Addr.FP_CTRL 5, 1), (Addr.MANAGER, 6 + 128)] : List (Nat × Nat)).foldl (fun (s : State) r => s.setReg r.1 r.2) withBulk) with
    group := { live := [5, 6, 7], order := [5, 6, 7], leaseHeld := true }, fabric := { granted := credits, credit := credits } }
/-- The same member as manager. -/
def manager5 : State := grouped.setReg Addr.MANAGER (5 + 64)
/-- A state with every fabric port down, so that no packet sent leaves it: how many flits a control packet has is free (log 19). -/
def dark (s : State) : State := (s.setReg (Addr.FP_STATUS 0) 0).setReg (Addr.FP_STATUS 2) 0
theorem test_leave : (go (.groupLeave c0 []) (dark grouped)).joined = false ∧ (go (.groupLeave c0 []) (dark grouped)).beatMode = 1 ∧ lastStatus (go (.groupLeave c0 []) up) = some St.BAD_PARAM := by decide +kernel
theorem meets_leave : (b0 grouped).joined = true := by decide +kernel
theorem test_status : (lastReply (go (.groupStatus c0 []) grouped)).map (fun r => (r.1, r.2.take 4, r.2.length)) = some (0, [2#8, 5#8, 6#8, 6#8], 1300) := by decide +kernel
theorem test_port_set : (go (.fabricPortSet c0 (toBE 4 5 ++ toBE 1 0 ++ zeros 3)) grouped).portUp 0 = false ∧
    (go (.fabricPortSet c0 (toBE 4 8 ++ toBE 1 1 ++ zeros 3)) grouped).flag (Addr.FP_CTRL 3) 0 = true := by decide +kernel
theorem test_route_set : (go (.routeSet c0 (toBE 1 0 ++ toBE 1 63 ++ toBE 1 1 ++ zeros 1 ++ toBE 4 7)) grouped).reg (Addr.MEMBER_ROUTE 63) = 7 ∧
    (go (.routeSet c0 (toBE 1 1 ++ toBE 1 127 ++ toBE 1 1 ++ zeros 1 ++ toBE 4 0x20005 ++ zeros 4)) grouped).reg (Addr.GROUP_ROUTE 127) = 0x20005 ∧
    (0x20005 &&& groupRouteMask) = 0x20005 := by decide +kernel
/-- LANDING_SET of zone 127 for job 8 of tenant 5: two slots of 1 KiB at 0, notifying cell 17. -/
def landingParams : Bytes := toBE 1 127 ++ toBE 1 17 ++ zeros 2 ++ toBE 4 1 ++ toBE 8 8 ++ toBE 8 0 ++ toBE 2 2 ++ zeros 2
theorem meets_landing_set : (b5 windowed).job 5 8 = some job8 ∧ job8.cells.contains 17 = true ∧ (b5 windowed).inWindows 5 0 4096 true = true ∧
    (b5 windowed).copies.zones = [] ∧ landingParams.length = 28 ∧ windowed.fw.hbmFailed = false := by decide +kernel
def zone127 : Zone := ⟨127, 5, 8, 0, 2, 1, 17, []⟩
theorem test_landing_set : (go (.landingSet c5 landingParams) windowed).copies.zones = [zone127] ∧
    (go (.landingClear c5 (toBE 1 127 ++ zeros 3)) { windowed with copies.zones := [zone127] }).copies.zones = [] := by decide +kernel
theorem test_bridge_set : (go (.bridgeSet c0 (toBE 1 15 ++ toBE 1 1 ++ toBE 1 5 ++ zeros 1 ++ toBE 8 4096)) up).reg (Addr.APERTURE_BASE 15) = 4096 ∧
    (go (.bridgeSet c0 (toBE 1 15 ++ toBE 1 1 ++ toBE 1 5 ++ zeros 1 ++ toBE 8 4096)) up).reg (Addr.APERTURE_CFG 15) = 1281 := by decide +kernel

/-- Reference port 1 down, and port 0 on the shortest path to the manager up. -/
def switching : State := grouped.setField Addr.GROUP_REF_PORT 0 4 1
theorem meets_ref_switch : switching.joined = true ∧ switching.isManager = false ∧ switching.portUp (switching.field Addr.GROUP_REF_PORT 0 4) = false ∧ switching.refChoice = some 0 := by decide +kernel
theorem test_ref_switch : (go (.groupRefSwitch 1 0) switching).field Addr.GROUP_REF_PORT 0 4 = 0 := by decide +kernel
def joining : State := { grouped with group.joinAt := some (0, 0, 5000) }
theorem meets_zc_join : joining.group.joinAt = some (0, 0, 5000) ∧ (0 < (advance 1 joining).sec ∨ (advance 1 joining).sec = 0 ∧ 0 ≤ (advance 1 joining).ns) := by decide +kernel
theorem test_zc_join : (go (.zcJoin 1 5000) joining).zc = 5000 := by decide +kernel
/-- The manager with a loss of member 7 to commit. -/
def logging : State := { manager5 with group := { manager5.group with pendingLog := [⟨4, 9, 0, [0, 7]⟩] } }
theorem meets_log_commit : logging.limik = true ∧ logging.isManager = true ∧ (logging.followersOf logging.member).length ≤ 2 := by decide +kernel
theorem test_log_commit : (go (.logCommit 1 2) (dark logging)).group.live = [5, 6] ∧ (go (.logCommit 1 2) (dark logging)).reg Addr.LOG_INDEX = 4 ∧ (go (.logCommit 1 0) (dark logging)).reg Addr.LOG_INDEX = 3 := by decide +kernel
theorem meets_renewal : manager5.limik = true ∧ manager5.group.lastRenewal + ms 10 ≤ secs 1 ∧ manager5.group.lastAck + ms 20 ≤ secs 1 := by decide +kernel
theorem test_renewal : (go (.leaseRenewal (secs 1)) (dark manager5)).group.leaseHeld = true ∧ (go (.leaseRenewal (secs 1)) (dark manager5)).nextSeq 3 = 6 ∧ (go (.managerStepdown (secs 1)) manager5).isManager = false := by decide +kernel
theorem meets_lease : grouped.joined = true ∧ 7 ≠ grouped.member ∧ grouped.reg Addr.TERM = 9 ∧ 6 = grouped.manager ∧ 6 ≠ grouped.member := by decide +kernel
theorem test_lease : (go (.leaseReceive 1 10 1 7) (dark grouped)).manager = 7 ∧ (go (.leaseReceive 1 8 1 7) (dark grouped)).manager = 6 ∧
    (go (.leaseReceive 1 9 2 7) (dark grouped)).manager = 6 ∧ (go (.leaseReceive 5 9 2 6) (dark grouped)).group.lastRenewal = 5 := by decide +kernel
/-- With two renewals missed; the same under SOURCE GROUP. -/
def missing : State := { grouped with group := { grouped.group with missed := 2 } }
def groupTimed : State := missing.setReg Addr.TIME_CTRL 3
theorem meets_missed : missing.group.lastRenewal + ms 10 * 3 ≤ secs 1 ∧ missing.isFollower = true ∧ missing.limik = true ∧ missing.isManager = false ∧
    missing.followersOf missing.manager = [7, 5] ∧ missing.liveOrder = [5, 6, 7] ∧ 2 < missing.reg Addr.LOG_INDEX ∧ missing.reg Addr.LOG_INDEX < 9 ∧
    groupTimed.timeSource = 3 ∧ groupTimed.group.leaseHeld = true ∧ grouped.group.missed < 2 := by decide +kernel
theorem test_missed : (go (.missedRenewal (secs 1) 2) (dark missing)).isManager = true ∧ (go (.missedRenewal (secs 1) 2) (dark missing)).reg Addr.TERM = 10 ∧
    (go (.missedRenewal (secs 1) 9) (dark missing)).isManager = false ∧ (go (.missedRenewal (secs 1) 9) (dark missing)).group.leaseHeld = false ∧
    (go (.missedRenewal (secs 1) 9) (dark groupTimed)).timeState = 3 ∧ (go (.missedRenewal (secs 1) 2) (dark grouped)).group.missed = 1 := by decide +kernel
theorem meets_member_lost : grouped.group.live.contains 7 = true ∧ 7 ≠ grouped.member := by decide +kernel
theorem test_member_lost : (go (.memberLost 1 7) (dark grouped)).group.live = [5, 6] ∧ (go (.memberLost 1 7) (dark manager5)).group.pendingLog.map LogRecord.body = [[0, 7]] := by decide +kernel
theorem test_routes : (go (.routeRecompute 1 (List.replicate 64 7) (List.replicate 128 0)) (dark manager5)).group.pendingLog.map LogRecord.kind = [3] := by decide +kernel

/-- Port 0 with frames 1 and 2 unacknowledged, frame 0 expected. -/
def cmdPkt : FabPkt := { vc := 0, cls := 0, dst := 134, hdr := 1 }
def unacked12 : State := { grouped with fabric := { grouped.fabric with flits := [(0, 60)], unacked := [(0, [(1, cmdPkt), (2, cmdPkt)])] } }
/-- The same with ACKSEQ 0 seen already, and with as many replays behind it as RETRY_LIMIT; and with as many bad frames as ERR_THRESH in this millisecond. -/
def replaying (n : Nat) : State := { unacked12 with fabric := { unacked12.fabric with acked := [(0, 0)], stuck := [(0, n)] } }
def erring : State := { unacked12 with fabric := { unacked12.fabric with errors := [(0, List.replicate (unacked12.reg (Addr.ERR_THRESH 0)) 0)] } }
theorem meets_frame_receive : unacked12.portUp 0 = true ∧ tabGet [] 0 grouped.fabric.unacked = [] ∧ frameAfter 2 1 < 512 ∧ frameAfter 2 2 < 512 ∧
    512 ≤ frameAfter 0 1 ∧ 512 ≤ frameAfter 0 2 ∧ tabGet 1024 0 unacked12.fabric.acked ≠ 0 ∧ tabGet 1024 0 (replaying 0).fabric.acked = 0 ∧
    0 < unacked12.reg (Addr.RETRY_LIMIT 0) ∧ 1 ≤ unacked12.reg (Addr.ERR_THRESH 0) := by decide +kernel
theorem test_frame_receive : (go (.linkFrameReceive 1 0 0 2 5 true) unacked12).fabric.unacked = [] ∧ tabGet 0 0 (go (.linkFrameReceive 1 0 0 2 5 true) unacked12).fabric.rxNext = 1 ∧
    (go (.linkFrameReceive 1 0 0 2 5 false) unacked12).reg (Addr.FP_FEC_UNCORR_CW 0) = 1 ∧ (go (.linkFrameReceive 1 0 0 2 5 false) erring).downCause 0 = 2 := by decide +kernel
theorem test_frame_replay : (tabGet [] 0 (go (.linkFrameReceive 1 0 0 0 5 true) unacked12).fabric.unacked).length = 2 ∧
    (go (.linkFrameReceive 1 0 0 0 5 true) unacked12).reg (Addr.REPLAYS 0) = 0 ∧ (go (.linkFrameReceive 1 0 0 0 5 true) (replaying 0)).out.getLast? = some (.link 0 0 [1, 2]) ∧
    (go (.linkFrameReceive 1 0 0 0 5 true) (replaying (unacked12.reg (Addr.RETRY_LIMIT 0)))).downCause 0 = 3 := by decide +kernel
theorem test_error_window : tabGet [] 0 (go (.linkFrameReceive (ms 1) 0 0 2 5 false) { unacked12 with fabric := { unacked12.fabric with errors := [(0, [0, 1])] } }).fabric.errors = [1, ms 1] := by decide +kernel
/-- A header for member 4 from member 6, which goes by port 2; and one for this device. -/
def headerTo (ty vc dst : Nat) : Header := { ty, vc, dst, src := 134, xfer := 1, tenant := 5 }
def passing : W256 := BitVec.ofNat 256 ((headerTo tyCmd 0 132).word 0)
/-- One for a member whose way is cut, and this device with no credits at port 2. -/
def strayed : W256 := BitVec.ofNat 256 ((headerTo tyCmd 0 181).word 0)
def spent : State := { grouped with fabric := { grouped.fabric with credit := [] } }
theorem meets_passing : grouped.mayReceive 0 = true ∧ headerValid passing.toNat = true ∧ (headerOf passing.toNat).len = (wordsOf []).length ∧
    (headerOf passing.toNat).dst ≠ grouped.device ∧ grouped.hop 134 132 (some 0) = .port 2 ∧ 1 ≤ tabGet 0 (creditKey 0 0 0) grouped.fabric.granted ∧
    (headerOf passing.toNat).ty ≠ tyCredit ∧ grouped.replayRoom 2 1 = true ∧ (headerOf strayed.toNat).dst = 181 ∧ grouped.hop 134 181 (some 0) = .cut ∧
    1 ≤ tabGet 0 (creditKey 2 0 (grouped.nextClass { vc := 0, cls := 0, dst := 132, hdr := passing.toNat, from_ := some 0 } 2)) grouped.fabric.credit := by decide +kernel
theorem test_passing : (go (.fabricPacketReceive 1 0 passing ⟨[], {}⟩) spent).fabric.held.map FabPkt.dst = [132] ∧
    (go (.fabricPacketReceive 1 0 strayed ⟨[], {}⟩) grouped).fabric.held.map FabPkt.dst = [181] ∧ (go (.fabricPacketReceive 1 0 passing ⟨[], {}⟩) grouped).reg (Addr.FLITS_TX 2) = 1 ∧
    tabGet 0 (creditKey 0 0 0) (go (.fabricPacketReceive 1 0 passing ⟨[], {}⟩) { grouped with fabric.granted := [] }).fabric.granted = 0 ∧
    (go (.fabricPacketReceive 1 0 passing ⟨[], {}⟩) { grouped with fabric.granted := [] }).portUp 0 = false := by decide +kernel
theorem test_port_down : (go (.fabricPortDown 1 0 5) (grouped.setFlag Addr.SPOKE_DETACHED 16 true)).downCause 0 = 5 ∧ (go (.fabricPortDown 1 0 2) grouped).downCause 0 = 2 ∧ (go (.fabricPortDown 1 0 2) grouped).portUp 2 = true := by decide +kernel
/-- Port 5, enabled, down, at the neighbour in -Y or +Y. -/
theorem meets_trained : grouped.mayTrain 5 = true ∧ grouped.partnerRight 5 (128 + neighbour 5 5) 7 = true ∧ grouped.partnerRight 5 128 7 = false ∧
    (grouped.setField (Addr.FP_STATUS 5) 9 4 7).downCause 5 = 7 ∧ (grouped.setField (Addr.FP_STATUS 5) 9 4 7).mayTrain 5 = true := by decide +kernel
theorem test_trained : (go (.fabricPortTrained 1 5 (128 + neighbour 5 5) 7) grouped).portUp 5 = true ∧ (go (.fabricPortTrained 1 5 128 7) grouped).downCause 5 = 7 ∧
    (go (.miscableRecheck 1 5 (128 + neighbour 5 5) 7) (grouped.setField (Addr.FP_STATUS 5) 9 4 7)).portUp 5 = true ∧
    (go (.miscableRecheck 1 5 128 7) (grouped.setField (Addr.FP_STATUS 5) 9 4 7)).reg (Addr.PARTNER 5) = 128 + 7 * 8192 + 2 ^ 18 := by decide +kernel
/-- Credits for port 2 let the packet held there go. -/
theorem test_credit_held : grouped.mayReceive 2 = true ∧ (go (.fabCredit 1 2 (List.replicate 32 1)) (go (.fabricPacketReceive 1 0 passing ⟨[], {}⟩) spent)).fabric.held = [] := by decide +kernel
theorem test_credit : tabGet 0 31 (go (.fabCredit 1 0 (List.replicate 31 0 ++ [9])) grouped).fabric.credit = 109 := by decide +kernel
/-- A remote copy under way since the start, a half pending since then, and a REVOKE sent then. -/
def remote1 : Flight := { flight1 with peer := some 134, awaiting := [40], desc := { copy64 with src := 133 * 2 ^ 47, dst := 134 * 2 ^ 47 } }
def pendingZone : Zone := { zone127 with entries := [(1, { pending := some (134, 3, 1) })] }
def lateSend : SendList := { id := 1, cell := 0, step := 3, job := 8, tenant := 5, size := 1, verdict := some false, revoking := [(134, 1)] }
def waiting : State := { grouped with mem.windows := [(80, ⟨0, 4, true, true⟩)], copies := { grouped.copies with flights := [remote1], zones := [pendingZone], sends := [lateSend] } }
/-- The same copy as head of queue 0 of cell 0. -/
def remoteQueued : Flight := { remote1 with queue := 0, job := 8 }
def waitingQueue : State := { waiting with copies := { waiting.copies with flights := [remoteQueued] } }
theorem meets_timeouts : remoteQueued.launched + us (waitingQueue.reg Addr.COPY_TIMEOUT) ≤ secs 1 ∧  remote1.launched + us (waiting.reg Addr.COPY_TIMEOUT) ≤ secs 1 ∧ (pendingZone.slot 1).since + us (waiting.reg Addr.SPEC_TIMEOUT) ≤ secs 9 ∧
    (pendingZone.slot 1).confirmed = false ∧ waiting.job 5 8 = none ∧ (lateSend.revoking.filter (fun r => r.2 != 0 && decide (r.2 - 1 + us (waiting.reg Addr.COPY_TIMEOUT) ≤ secs 1))) = [(134, 1)] := by decide +kernel
theorem test_timeouts : (go (.copyTimeoutExpiry (secs 1) 1) waitingQueue).reg (Addr.COPY_FAULTS 0) = 1 ∧
    tabGet (0, 0) (3 * 256 + 5) (go (.copyTimeoutExpiry (secs 1) 1) waiting).copies.lastFault = (6, 0) ∧ (go (.copyTimeoutExpiry (secs 1) 1) waiting).copies.flights = [] ∧
    ((go (.specTimeoutExpiry (secs 9) 127 1) waiting).copies.zones.map (fun z => z.entries)) = [[]] ∧
    (go (.revokeResend (secs 1) 1) (dark waiting)).nextSeq 3 = 1 := by decide +kernel

/-- Packets for this device from member 6: a write of two words at 64, a read of 64 bytes, the answer to a read, an acknowledgement of SEQ 40, a
NOTIFY of counter 3 of cell 17, CONFIRM and REVOKE of the pending tuple, and a command packet of one word. -/
def packetOf (h : Header) : W256 := BitVec.ofNat 256 (h.word 0)
def twoWords : Bytes := toLE 32 7 ++ toLE 32 8
def wrHeader : W256 := packetOf { headerTo tyWrData 2 133 with len := 2, addr := 64 }
def rdHeader : W256 := packetOf { headerTo tyRdReq 1 133 with len := 1, addr := 64 }
def rdFlit : Bytes := toLE 32 (64 * 2 ^ 192)
def ansHeader : W256 := packetOf { headerTo tyRdData 2 133 with len := 2, addr := 128 }
def ackHeader : W256 := packetOf { headerTo tyAck 3 133 with addr := 40 }
def noteHeader : W256 := packetOf { headerTo tyNotify 3 133 with ctr := 3, addr := 2 * 2 ^ 60 + 17 * 2 ^ 23 }
def tupleHeader (ty : Nat) : W256 := packetOf { headerTo ty 3 133 with job := 8, step := 3, attempt := 1 }
def cmdHeader : W256 := packetOf { headerTo tyCmd 0 133 with len := 1 }
def oneWord : Bytes := toLE 32 7
def reader1 : Flight := { flight1 with peer := some 134, awaiting := [2], desc := { copy64 with src := 134 * 2 ^ 47, dst := 133 * 2 ^ 47 + 128 } }
def reading : State := { waiting with copies := { waiting.copies with flights := [reader1] } }
theorem meets_taken : takenHere 0 wrHeader.toNat (wordsOf twoWords) waiting = true ∧ takenHere 0 rdHeader.toNat (wordsOf rdFlit) waiting = true ∧
    takenHere 0 ansHeader.toNat (wordsOf twoWords) reading = true ∧ takenHere 0 ackHeader.toNat [] waiting = true ∧ takenHere 0 noteHeader.toNat [] waiting = true ∧
    takenHere 0 (tupleHeader tyConfirm).toNat [] waiting = true ∧ takenHere 0 (tupleHeader tyRevoke).toNat [] waiting = true ∧
    takenHere 0 cmdHeader.toNat (wordsOf oneWord) waiting = true ∧ waiting.obs.trace = none ∧ waiting.obs.sends = [] ∧ waiting.beatWrites = [] := by decide +kernel
theorem meets_consumed : waiting.spanCause 5 none true false 0 64 64 = 0 ∧ (headerOf wrHeader.toNat).own = none ∧
    waiting.endCause 5 none false (readDesc (headerOf rdHeader.toNat) (64 * 2 ^ 192)) = 0 ∧
    reading.copies.flights.find? (fun f => f.id == 1 && f.peer == some 134 && !reading.localAddr f.desc f.desc.src) = some reader1 ∧ reader1.awaiting.headD 0 ≤ 2 ∧
    waiting.copies.flights.find? (fun f => f.id == 1 && f.peer == some 134) = some remote1 ∧ waiting.localAddr remote1.desc remote1.desc.src = true ∧
    remote1.awaiting = [40] ∧ bits (headerOf ackHeader.toNat).addr 0 32 = 40 := by decide +kernel
theorem meets_consumed_2 : cellOf (spaceOf (headerOf noteHeader.toNat).addr) (offsetOf (headerOf noteHeader.toNat).addr) = some 17 ∧ waiting.holdsCell 5 none 17 = true ∧
    (waiting.copies.zones.map Zone.num).Nodup ∧ (pendingZone.entries.map Prod.fst).Nodup ∧ pendingZone.job % 2 ^ 32 = 8 ∧ waiting.slotRead 127 1 = false ∧
    (waiting.setReg Addr.GLOBAL_CTRL 1).transportOn .fabric = true ∧ waiting.fifoFits 0x8E1 1 = true := by decide +kernel
theorem test_wr_data : (go (.wrData 1 0 wrHeader twoWords) waiting).readSpan 5 0 96 = 8#256 ∧ (go (.wrData 1 0 wrHeader twoWords) waiting).nextSeq 3 = 2 := by decide +kernel
theorem test_rd_req : (takeRdReq { headerTo tyRdReq 1 133 with addr := 64, len := 1 } [BitVec.ofNat 256 (33 * 2 ^ 192)] waiting).nextSeq 3 = 1 := by decide +kernel
theorem test_rd_data : (go (.rdData 1 0 ansHeader twoWords) reading).copies.flights = [] ∧ (go (.rdData 1 0 ansHeader twoWords) reading).readSpan 5 0 128 = 7#256 := by decide +kernel
/-- A read of 40 bytes at member 6's 65 that the host waits for, its two words, and an ACK of cause 2 for it. -/
def hostRead : RemoteAccess := { xfer := 1, peer := 134, tenant := 5, addr := 134 * 2 ^ 47 + 65, len := 40, write := false, missing := [64, 96] }
def asking : State := { waiting with bridge.remote := [hostRead] }
def hostAnswer : W256 := packetOf { headerTo tyRdData 2 133 with len := 2, addr := 64, cell := 0xFF }
def hostRefusal : W256 := packetOf { headerTo tyAck 3 133 with addr := 2 * 2 ^ 32, cell := 0xFF }
theorem meets_host_answers : takenHere 0 hostAnswer.toNat (wordsOf twoWords) asking = true ∧ takenHere 0 hostRefusal.toNat [] asking = true ∧
    asking.bridge.remote.find? (fun x => x.xfer == 1 && x.peer == 134) = some hostRead ∧ asking.bridge.waiting = [] ∧ hostRead.missing = hostRead.wordsOf ∧
    hostRead.wordsOf.headD 0 = 64 ∧ bits (headerOf hostRefusal.toNat).addr 32 3 = 2 ∧ asking.accessOf { headerTo tyRdData 2 133 with cell := 3 } = none := by decide +kernel
theorem test_host_answers : (go (.rdData 1 0 hostAnswer twoWords) asking).out.contains (.host (some ((twoWords.drop 1).take 40))) = true ∧
    (go (.fabAck 1 0 hostRefusal []) asking).reg Addr.BAR2_ABORTS = 1 ∧ (go (.fabAck 1 0 hostRefusal []) asking).bridge.remote = [] := by decide +kernel
theorem test_ack : (go (.fabAck 1 0 ackHeader []) waiting).copies.flights = [] := by decide +kernel
theorem test_notify : (go (.fabNotify 1 0 noteHeader) waiting).reg (Addr.ARRIVE 17 3) = 1 := by decide +kernel
theorem test_tuple : ((go (.fabConfirm 1 0 (tupleHeader tyConfirm)) waiting).copies.zones.map (fun z => (z.slot 1).cur)) = [1] ∧
    ((go (.fabRevoke 1 0 (tupleHeader tyRevoke)) waiting).copies.zones.map (fun z => (z.slot 1).pending)) = [none] := by decide +kernel

/-- The bridge up, its mailbox enabled, aperture 0 open to tenant 5's memory from 0. -/
def bridged : State := [(Addr.FP_CTRL 22, 5), (Addr.FP_CTRL 23, 5), (Addr.GLOBAL_CTRL, 2), (Addr.APERTURE_CFG 0, 1 + 5 * 256)].foldl (fun s r => s.setReg r.1 r.2)
  { up with mem.windows := [(80, ⟨0, 4, true, true⟩)], mem.bytes := [(33, 6#8)] }
/-- The same with the mailbox off, and with ingress FIFO 0x8E2 full; and as member 5 with aperture 0 on member 6's memory. -/
def mailboxOff : State := bridged.setReg Addr.GLOBAL_CTRL 0
def mailboxFull : State := bridged.setFifo 0x8E2 ⟨[⟨4096, none, []⟩], none⟩
def bridgedGroup : State := [(Addr.FP_CTRL 22, 5), (Addr.FP_CTRL 23, 5), (Addr.APERTURE_CFG 0, 1 + 5 * 256), (Addr.APERTURE_BASE 0, 134 * 2 ^ 47)].foldl (fun s r => s.setReg r.1 r.2)
  { grouped with group := { grouped.group with bridge := 5 } }
theorem meets_bridge : bridged.bridgeUp = true ∧ bridged.transportOn .mailbox = true ∧ bridged.fifoFits 0x8E2 (wordsOf (slice oneWord 0 32)).length = true ∧
    bridged.flag (Addr.APERTURE_CFG 0) 0 = true ∧ deviceOf (bridged.reg (Addr.APERTURE_BASE 0) + 33) = bridged.device ∧
    bridged.spanCause 5 none true false 0 32 32 = 0 ∧ bridged.spanCause 5 none false false 0 32 32 = 0 ∧ bridged.spanCause 5 none false false 0 (2 ^ 20) 32 ≠ 0 := by decide +kernel
theorem meets_bridge_2 : mailboxOff.bridgeUp = true ∧ mailboxOff.transportOn .mailbox = false ∧ mailboxFull.bridgeUp = true ∧ mailboxFull.transportOn .mailbox = true ∧
    mailboxFull.fifoFits 0x8E2 (wordsOf (slice oneWord 0 32)).length = false ∧ bridgedGroup.bridgeUp = true ∧ bridgedGroup.flag (Addr.APERTURE_CFG 0) 0 = true ∧
    deviceOf (bridgedGroup.reg (Addr.APERTURE_BASE 0) + 33) = 134 ∧ bridgedGroup.device = 133 ∧ bridgedGroup.hop 133 134 ≠ .none ∧ bridged.joined = false ∧ bridged.mergeWaits = false ∧
    bridged.flag (Addr.APERTURE_CFG 15) 0 = false := by decide +kernel
/-- A doorbell with a request of one word; and what the host writes beside it. -/
def ring7 : Bar0Write := { bytes := oneWord }
def clear7 : Bar0Write := { bytes := [], bell := false, cons := some 9, clearReply := true, msix := [(3, 77)] }
theorem test_doorbell : (go (.pcieBar0Doorbell 1 32 ring7) bridged).bridge.busy = true ∧
    (go (.pcieBar0Doorbell 1 32 ring7) { bridged with bridge.busy := true }).bridge.overrun = 1 ∧ (go (.pcieBar0Doorbell 1 32 ring7) mailboxOff).reg Addr.AUTH_DROPS = 1 ∧
    (go (.pcieBar0Doorbell 1 32 ring7) mailboxFull).reg (Addr.OVERFLOW_COUNT 0x8E2) = 1 := by decide +kernel
theorem test_bar0 : let u := go (.pcieBar0Doorbell 1 0 clear7) { bridged with bridge.replyReady := true }
    u.bridge.cons = 9 ∧ u.bridge.replyReady = false ∧ tabGet msixMasked 3 u.bridge.msix = 77 ∧ u.bridge.busy = false := by decide +kernel
theorem test_bar2 : (go (.pcieBar2Access 1 false 33 1 [] true) bridged).out = [.host (some [6#8])] ∧ (go (.pcieBar2Access 1 true 34 0 [9#8] true) bridged).readByte 5 33 = 6#8 ∧
    (go (.pcieBar2Access 1 true 34 0 [9#8] true) bridged).readByte 5 34 = 9#8 ∧ (go (.pcieBar2Access 1 false (2 ^ 20) 1 [] true) bridged).reg Addr.BAR2_ABORTS = 1 := by decide +kernel
theorem test_bar2_ends : (go (.pcieBar2Access 1 false (15 * apertureBytes) 1 [] true) bridged).out = [.unsupported] ∧
    (go (.pcieBar2Access 1 false (apertureBytes - 1) 2 [] true) bridged).reg Addr.BAR2_ABORTS = 1 ∧ (go (.pcieBar2Access 1 false 33 1 [] false) bridged).out = [.host none] := by decide +kernel
/-- The member's port to member 6 down, so that its packets are held; a write of a byte there waits for its word, and what comes next for it. -/
def asked : State := go (.pcieBar2Access 1 true 33 0 [9#8] true) (dark bridgedGroup)
theorem meets_merge : asked.mergeWaits = true ∧ asked.flag (Addr.APERTURE_CFG 0) 0 = true ∧ asked.bridgeUp = true := by decide +kernel
theorem test_bar2_remote : asked.nextSeq 1 = 1 ∧ asked.nextSeq 2 = 0 ∧ (go (.pcieBar2Access 1 true 64 0 oneWord true) (dark bridgedGroup)).nextSeq 2 = 1 ∧
    (go (.pcieBar2Access 1 false 33 1 [] true) (dark bridgedGroup)).bridge.remote.map RemoteAccess.missing = [[32]] ∧
    (go (.pcieBar2Access 1 false 33 1 [] true) asked).bridge.waiting = [⟨false, 33, 1, [], true⟩] := by decide +kernel
theorem test_flr : (go (.pcieFlr 1) bridged).reg (Addr.APERTURE_CFG 0) = 0 := by decide +kernel

/-! Integrity and field tests -/

theorem test_recoat_set : (go (.recoatSet c0 [0#8, 5#8, 0#8, 0#8]) up).field Addr.INT_CTRL 1 3 = 5 ∧ (go (.recoatSet c0 [1#8, 3#8, 0#8, 0#8]) up).field Addr.INT_CTRL 4 3 = 3 ∧
    lastStatus (go (.recoatSet c0 [1#8, 4#8, 0#8, 0#8]) up) = some St.BAD_PARAM := by decide +kernel
/-- A mask of cells 0 and 17. -/
def mask2 : Bytes := toBE 1 1 ++ zeros 1 ++ toBE 1 2 ++ zeros 29
def maskOf0 : Bytes := toBE 1 1 ++ zeros 31
theorem meets_masks : cellMask mask2 0 = [0, 17] ∧ cellMask maskOf0 0 = [0] ∧ cellMask (zeros 32) 0 = [] ∧ (b0 withBulk).cellState 0 ≠ 3 := by decide +kernel
theorem test_integrity_status : (lastReply (go (.integrityStatus c0 mask2) withBulk)).map (fun r => (r.1, r.2.length)) = some (0, 32) := by decide +kernel
theorem test_fence_cell : (go (.fenceCell c0 mask2) withBulk).cellState 17 = 3 ∧ (go (.fenceCell c0 maskOf0) withBulk).flag (Addr.FENCED 0) 0 = true := by decide +kernel
/-- A pack of no bytes is malformed. -/
theorem meets_test_pack : (b0 up).inWindows owner 0 0 false = true ∧ readTestPack ((b0 up).readBytes owner 0 0) 0 = none := by decide +kernel
theorem test_test_pack : lastStatus (go (.testPackLoad c0 (zeros 12)) up) = some St.BAD_PARAM := by decide +kernel
def packed : State := { withBulk with integ.kernels := [(7, 10), (8, 10)] }
theorem meets_test_run : (b0 packed).integ.kernels ≠ [] ∧ ∀ i ∈ cellMask mask2 0, (b0 packed).runnable i = true := by decide +kernel
theorem test_test_run : (go (.testRun c0 mask2) packed).integ.queue = [0, 17] := by decide +kernel
def signed1 : State := { up.setReg Addr.SIGNATURES 1 with integ.sigs := [[1#8, 2#8]] }
theorem test_signature_read : lastReply (go (.signatureRead c0 [0#8, 1#8]) signed1) = some (0, [1#8, 0#8, 0#8, 0#8, 0#8, 2#8, 1#8, 2#8]) := by decide +kernel

theorem meets_ack_timeout : withBulk.cellState 0 = 2 ∧ withBulk.detached (0 / 16) = false ∧ withBulk.beat.lastIssue + us (withBulk.reg Addr.CELL_ACK_TIMEOUT) ≤ secs 1 ∧ withBulk.on = true := by decide +kernel
theorem test_fences : (go (.cellAckTimeout (secs 1) 0) withBulk).cellState 0 = 3 ∧ (go (.cellFence 1 17 7) withBulk).cellState 17 = 3 := by decide +kernel
/-- In a handover the cell launches no more, and the fence waits. -/
def handingOver : State := withBulk.setField Addr.FW_STATE 0 3 2
theorem meets_held_fence : handingOver.stage = 2 ∧ handingOver.on = true ∧ handingOver.integ.heldFences = [] ∧ handingOver.cellState 0 = 2 := by decide +kernel
theorem test_held_fence : (go (.cellFence 1 17 7) handingOver).integ.heldFences.map (fun h => h.2.cell) = [17] ∧ (go (.cellFence 1 17 7) handingOver).cellState 17 = 2 ∧
    (go (.cellAckTimeout (secs 1) 0) handingOver).integ.heldFences.map (fun h => h.2.cell) = [0] := by decide +kernel
def reclaiming : State := withBulk.updCell 0 (fun x => { x with reclaim := some [0, 0, 0, 0, 0, 0, 0, 0] })
theorem test_reclaim : ((go (.fenceReclaimDone 1 0) reclaiming).cellx 0).reclaim = none := by decide +kernel
def queued0 : State := { packed with integ.queue := [0] }
theorem meets_test_start : queued0.limik = true ∧ queued0.integ.testing = none ∧ queued0.runnable 0 = true ∧ queued0.bulkLaunches (0 / 16) = true := by decide +kernel
/-- FIELD_EN set, all of the cells never tested: cell 0 is the oldest. -/
def fieldTesting : State := { packed.setFlag Addr.TEST_CTRL 0 true with integ.lastStart := none }
theorem meets_test_start_2 : fieldTesting.integ.queue = [] ∧ fieldTesting.flag Addr.TEST_CTRL 0 = true ∧ fieldTesting.oldestTested = some 0 := by decide +kernel
theorem test_test_start : (go (.fieldTestStart 1) queued0).integ.testing = some 0 ∧ (go (.fieldTestStart 1) fieldTesting).integ.testing = some 0 := by decide +kernel
def testing (kernel : Nat) : State := { packed.updCell 0 (fun x => { x with kernel }) with integ.testing := some 0 }
theorem test_kernel_done : ((go (.testKernelDone 1 0 7#32 false 10) (testing 0)).cellx 0).kernel = 1 ∧ (go (.testKernelDone 1 0 8#32 false 10) (testing 1)).reg Addr.TEST_PASSES = 1 ∧
    (go (.testKernelDone 1 0 8#32 false 11) (testing 1)).cellState 0 = 3 := by decide +kernel
def agedCell : State := up.updCell 3 (fun x => { x with testResult := 1, lastPass := 1 })
theorem test_stale : (go (.testStaleCheck (secs 40000000)) agedCell).flag (Addr.STALE 0) 3 = true ∧ (go (.testStaleCheck 5) agedCell).flag (Addr.STALE 0) 3 = false := by decide +kernel
theorem meets_scrub : (up.setFlag (Addr.HBM_STATUS 9) 0 true).flag (Addr.HBM_STATUS 9) 0 = true ∧ up.on = true ∧ 64 < stackBytes := by decide +kernel
theorem test_scrub : (go (.scrubRead 1 9 64 2) (up.setFlag (Addr.HBM_STATUS 9) 0 true)).reg (Addr.LAST_UNCORR 9) = 64 ∧
    (go (.scrubRead 1 9 64 1) (up.setFlag (Addr.HBM_STATUS 9) 0 true)).reg (Addr.HBM_C256_CORR 9) = 1 := by decide +kernel

/-! Power -/

theorem test_cap_set : lastStatus (go (.capSet c0 (toBE 2 2000 ++ [5#8, 0#8])) up) = some St.OK ∧ (go (.capSet c0 (toBE 2 2000 ++ [5#8, 0#8])) up).reg Addr.CAP = 2000 ∧
    lastStatus (go (.capSet c0 (toBE 2 1099 ++ [5#8, 0#8])) up) = some St.BAD_PARAM := by decide +kernel
theorem test_cap_priority : (go (.capPrioritySet c0 [2#8, 0#8, 1#8, 0#8]) up).priority = [2, 0, 1] ∧ lastStatus (go (.capPrioritySet c0 [2#8, 2#8, 1#8, 0#8]) up) = some St.BAD_PARAM := by decide +kernel
theorem test_power_status : (lastReply (go (.powerStatus c0 []) up)).map (fun r => r.2.length) = some 192 := by decide +kernel
theorem meets_primer_run : ∀ k ∈ setBits (be (toBE 2 9) 0 2) 16, (b0 up).detached k = false ∧ ∀ i ∈ clusterCells k, (b0 up).jobOfCell i = none := by decide +kernel
theorem test_primer_run : (go (.primerRun c0 (toBE 2 9)) up).power.primers = [0, 3] := by decide +kernel
def charged : State := { (working { job8 with energy0 := 40 }).setReg Addr.ENERGY 100 with fresh := 0 }
theorem meets_energy : ((b5 charged).jobs.filter (fun j => j.tenant == 5 && j.id == 8)).getLast? = some { job8 with energy0 := 40 } ∧ 40 ≤ (b5 charged).reg Addr.ENERGY := by decide +kernel
theorem test_energy : lastReply (go (.energyRead c5 (toBE 8 8)) charged) = some (0, toBE 8 60 ++ [8#8] ++ zeros 7) ∧ lastReply (go (.energyRead c5 (zeros 8)) charged) = some (0, zeros 8 ++ [4#8] ++ zeros 7) ∧
    lastReply (go (.energyRead c0 (zeros 8)) charged) = some (0, toBE 8 100 ++ zeros 8) := by decide +kernel

def fullLoad : LoadEst := { fixed := 1000000000000 }
theorem meets_cap_loop : up.limik = true ∧ up.power.lastLoop + ms 1 ≤ secs 1 ∧ (up.setReg Addr.CAP 100).effectiveCap < (go (.capControlLoop (secs 1) fullLoad) (up.setReg Addr.CAP 100)).reg Addr.FLOOR_EST := by decide +kernel
theorem test_cap_loop : (go (.capControlLoop (secs 1) fullLoad) (up.setReg Addr.CAP 100)).calmNeed = (256, 224, 224) := by decide +kernel
/-- 100 ms estimated at 2 W each are 200,000 µJ; an equal measurement moves a gain of 0 to 1024 (16,384 ÷ 16), none moves 65,535 to 61,439. -/
def estimated (gain joules : Nat) : State := { (up.setReg Addr.EST_GAIN gain).setReg Addr.ENERGY (7 + joules) with power.hist := List.replicate 200 2, power.energyAt := 7 }
theorem meets_est_gain : (estimated 0 200000).limik = true ∧ 0 < ((estimated 0 200000).power.hist.take 100).sum := by decide +kernel
theorem test_est_gain : (go (.estGainUpdate 1) (estimated 0 200000)).reg Addr.EST_GAIN = 1024 ∧ (go (.estGainUpdate 1) (estimated 65535 0)).reg Addr.EST_GAIN = 61439 := by decide +kernel
theorem test_power_sample : (go (.powerSample 1 50000 10) up).reg Addr.ENERGY = 5 ∧ (go (.powerSample 1 200000 10) up).reg Addr.VIN = 131071 ∧
    (go (.powerSample 1 50000 20000) { up with power.msCount := 99, power.msSum := 99000000000 }).reg Addr.P_IN_MEAS = 1000 := by decide +kernel
theorem meets_needs : manager5.isManager = true ∧ manager5.group.live.contains 7 = true := by decide +kernel
theorem test_needs : tabGet 0 7 (go (.calmNeedReport 1 7 3 4 5) (dark manager5)).group.needs = 3 + 4 * 512 + 5 * 2 ^ 18 := by decide +kernel
def ratioed : State := { grouped with group := { grouped.group with calm := [30, 40, 50, 0] } }
theorem meets_group_calm : ratioed.joined = true ∧ 0 ≤ ratioed.zc ∧ ratioed.calmNeed.1 < 30 := by decide +kernel
theorem test_group_calm : (go (.groupCalmApply 1) ratioed).reg Addr.CALM_BULK = 30 ∧ (go (.groupCalmApply 1) ratioed).flag Addr.PWR_STATUS 5 = true := by decide +kernel
def hbms (x : Int) : List Int := x :: List.replicate 15 40
theorem test_thermal : (go (.thermalSample 1 [50, 60, -5, 10, 70] (hbms 50)) up).reg Addr.TJ_MAX = 70 + 4 * 256 ∧ (go (.thermalSample 1 [50, 60, -5, 10, 70] (hbms 105)) up).on = false ∧
    (go (.thermalSample 1 [124, 60, -5, 10, 70] (hbms 50)) up).reg Addr.THERMAL_CAP = up.reg Addr.THERMAL_CAP - 50 := by decide +kernel
theorem meets_thermal : ((up.reg Addr.TJ_LIMIT : Nat) : Int) < 124 ∧ (70 : Int) < (up.reg Addr.TJ_LIMIT : Int) - 3 ∧ (hbms 50).length = 16 ∧ up.on = true := by decide +kernel
theorem test_thermal_trip : (go (.thermalTrip 1) { up with module.tj := 125 }).on = false ∧ (go (.thermalTrip 1) { up with module.tj := 124, module.hbmT := 104 }).on = true := by decide +kernel
/-- Cluster 3 waits for a primer pass; with an INLINE cell; and passes in each part. -/
def priming : State := { up with power.primers := [3] }
def primed (ph : Nat) (v : Bool) : State := { up with power.primer := some (3, ph, 0), power.voided := v, power.margin := -4 }
theorem meets_primer : priming.cellsIn 3 1 = [] ∧ (priming.setReg (Addr.CELL_STATE 48) 1).cellsIn 3 1 ≠ [] ∧ 0 + ms 5 ≤ secs 1 ∧ priming.limik = true := by decide +kernel
theorem test_primer : (go (.primerPhase 5 0) priming).power.primer = some (3, 0, 5) ∧ (go (.primerPhase 5 0) (priming.setReg (Addr.CELL_STATE 48) 1)).flag (Addr.PRIMER_STATUS 3) 1 = true ∧
    (go (.primerPhase (secs 1) 9) (primed 1 false)).power.margin = 9 ∧ (go (.primerPhase (secs 1) 9) (primed 2 true)).power.primer = some (3, 2, secs 1) ∧
    (go (.primerPhase (secs 1) 9) (primed 4 false)).reg (Addr.CL_ACK_MARGIN 3) = 65532 + 65536 := by decide +kernel

/-! Observation -/

def freezeParams (scope : Nat) : Bytes := toBE 8 8000 ++ toBE 1 scope ++ zeros 3
theorem meets_freeze : (b0 up).zc + 8000 ≤ be (freezeParams 0) 0 8 ∧ (b0 up).obs.freezeAt = none ∧ (b0 manager5).group.pendingLog = [] ∧ (b0 manager5).isManager = true ∧
    (b0 manager5).zc + 8000 ≤ 8000 := by decide +kernel
theorem test_freeze : (go (.freeze c0 (freezeParams 0)) up).obs.freezeAt = some (8000, false) ∧ (go (.freeze c0 (freezeParams 1)) (dark manager5)).group.pendingLog.map LogRecord.body = [[8000]] ∧
    lastStatus (go (.freeze c0 (toBE 8 7999 ++ zeros 4)) up) = some St.BAD_PARAM := by decide +kernel
/-- TRACE_ARM of cell 0 for tenant 5, mode 0 to 2, a sample every 16 beats, no spill, cause 5; and the session it opens. -/
def traceParams (mode : Nat) : Bytes := [0#8] ++ toBE 1 mode ++ [4#8, 2#8] ++ toBE 1 1 ++ zeros 31 ++ zeros 8 ++ toBE 4 10 ++ zeros 12 ++ [16#8] ++ zeros 27
def session5 (mode : Nat) : TraceSession := traceOf (envOf c5 ten) (traceParams mode)
theorem meets_trace_arm : (traceParams 2).length = 88 ∧ traceReservedOk (traceParams 2) = true ∧ traceFieldsOk (traceParams 2) = true ∧ (session5 2).group = false ∧ (session5 2).groups = [] ∧ (session5 2).cells = [0] ∧ (session5 2).met = 16 ∧
    (∀ i ∈ (session5 2).cells, (b5 withBulk).cellState i ≠ 0 ∧ (b5 withBulk).cellTenant i = 5) ∧ spillRefused (session5 2) 0 0 (b5 withBulk) = none ∧ withBulk.obs.trace = none := by decide +kernel
theorem test_trace_arm : (go (.traceArm c5 (traceParams 2)) withBulk).obs.trace = some (session5 2) ∧ (go (.traceArm c5 (traceParams 2)) withBulk).traceMode = 2 := by decide +kernel
/-- The armed session. -/
def tracing (mode : Nat) : State := go (.traceArm c5 (traceParams mode)) withBulk
theorem meets_disarm : (b5 (tracing 0)).obs.trace = some (session5 0) ∧ (session5 0).tenant = 5 ∧ traceReservedOk (2#8 :: zeros 87) = true := by decide +kernel
theorem test_disarm : (go (.traceArm c5 (2#8 :: zeros 87)) (tracing 0)).obs.trace = none := by decide +kernel
/-- Die 0's ring with two records from sequence number 4; and full. -/
def ringed (mode : Nat) : State := (tracing mode).setRing 0 { recs := [1#256, 2#256], first := 4 }
theorem meets_trace_read : (b5 (ringed 0)).obs.trace.any (fun y => y.tenant == 5) = true := by decide +kernel
theorem test_trace_read : lastReply (go (.traceRead c5 (zeros 4 ++ toBE 8 5 ++ toBE 4 2048)) (ringed 0)) = some (0, toBE 8 6 ++ toLE 32 2) := by decide +kernel
/-- Job 8 with region 3 of 32 bytes from word 0 in each rank's store. -/
def region3 : JobRegion := { desc := 3, base := 0, bytes := 32, screedBase := 0, screedBytes := 0, blocks := [] }
def regioned : Job := { job8 with image := { job8.image with regions := [region3] } }
def dumpable (j : Job) : State := { working j with mem.windows := [(80, ⟨0, 4, true, true⟩)] }
def dumpParams : Bytes := toBE 8 8 ++ toBE 2 3 ++ [2#8, 15#8] ++ zeros 8 ++ toBE 8 128 ++ toBE 4 64
theorem meets_dump_arm : (b5 (dumpable regioned)).job 5 8 = some regioned ∧ regioned.imageRegion 3 = some region3 ∧ regioned.regionBytes region3 ≤ 64 ∧
    (b5 (dumpable regioned)).inWindows 5 128 64 true = true ∧ (List.range 4).find? (fun i => !regioned.dumps.any (fun d => d.num == i)) = some 0 := by decide +kernel
theorem test_dump_arm : lastReply (go (.dumpArm c5 dumpParams) (dumpable regioned)) = some (0, [0#8]) := by decide +kernel
def swatchParams (op : Nat) : Bytes := toBE 8 8 ++ toBE 2 3 ++ [9#8] ++ toBE 1 op ++ zeros 16 ++ toBE 8 0 ++ toBE 4 2
def swatch9 : Swatch := ⟨9, 3, 0, 0, 0, 0, 0, 2, 0⟩
theorem meets_swatch : (b5 (dumpable regioned)).inWindows 5 0 (32 + 64 * 2) true = true ∧ be (swatchParams 0) 36 4 = 2 ∧ (swatchParams 0).length = 40 := by decide +kernel
theorem test_swatch : ((go (.swatchSet c5 (swatchParams 0)) (dumpable regioned)).job 5 8).map Job.swatches = some [swatch9] ∧
    ((go (.swatchSet c5 (swatchParams 1)) (dumpable { regioned with swatches := [swatch9] })).job 5 8).map Job.swatches = some [] := by decide +kernel
theorem test_waitfor : (lastReply (go (.waitforRead c5 (zeros 16)) (dumpable regioned))).map (fun r => (r.1, r.2.take 8)) = some (0, zeros 8) := by decide +kernel

/-- A capture due on beat 1. -/
def freezing : State := { up with obs.freezeAt := some (1, false) }
theorem meets_capture : freezing.on = true ∧ 1 ≤ freezing.zc + 1 ∧ isShadowed (Addr.CELL_STATE 0) = true := by decide +kernel
theorem test_capture : (go (.freezeCapture 1) freezing).reg Addr.FREEZE_ZC = 1 ∧ (go (.freezeCapture 1) freezing).obs.freezeAt = none := by decide +kernel
theorem meets_stipple : (ringed 0).on = true ∧ ((session5 0).sources (sourceDie 0)).contains 0 = true ∧
    sampledOn ((ringed 0).reg Addr.TRACE_SP) (((session5 0).sources 0).idxOf 0) ((session5 0).sources 0).length (ringed 0).zc = true ∧
    (ringed 0).cellTenant 0 = 5 ∧ (ringed 0).flag Addr.TRACE_CTRL 4 = false ∧ ((ringed 0).ring 0).stopped = false ∧ ((ringed 0).ring 0).post = none ∧
    ((ringed 0).ring 0).recs.length < (ringed 0).ringRoom := by decide +kernel
theorem test_stipple : (go (.stippleSample 1 0) (ringed 0)).reg (Addr.RING_WRITTEN 0) = 1 ∧ ((go (.stippleSample 1 0) (ringed 0)).ring 0).recs.length = 3 := by decide +kernel
/-- The same ring with a spill region and as many records waiting for it as wait at most. -/
def spilling : State := ((tracing 0).setReg Addr.TRACE_LEN 1).setRing 0 { recs := [1#256, 2#256], first := 4, behind := 131072 }
theorem meets_stipple_drop : spilling.obs.trace = some (session5 0) ∧ spilling.spillRecords ≠ 0 ∧ 131072 ≤ spilling.backlog (spilling.ring 0) ∧ (session5 0).left.contains 0 = false ∧
    (spilling.ring 0).stopped = false ∧ ((ringed 0).ring 0).dropped = 0 := by decide +kernel
theorem test_stipple_drop : (go (.stippleSample 1 0) spilling).reg (Addr.LOST 0) = 1 ∧ ((go (.stippleSample 1 0) spilling).ring 0).recs.length = 2 := by decide +kernel
theorem meets_trigger : (ringed 2).traceMode = 2 ∧ (ringed 2).flag Addr.TRACE_CTRL 2 = true ∧ (ringed 2).flag Addr.TRACE_CTRL 3 = false ∧
    (session5 2).group = false ∧ lowestCause ((ringed 2).causesMet (session5 2)) = some 5 := by decide +kernel
theorem test_trigger : (go (.traceTrigger 1 5 0 0) (ringed 2)).reg Addr.TRIG_CAUSE = 5 ∧ ((go (.traceTrigger 1 5 0 0) (ringed 2)).ring 3).post = some 10 := by decide +kernel
/-- Dump 0 of region 3 to 128, fired at step 1. -/
def fired0 : Job := { regioned with dumps := [⟨0, 3, none, 1, 128, 64, 2, 9, some 1, toLE 32 6 ++ toLE 32 0⟩] }
theorem meets_dump_done : (dumpable fired0).job 5 8 = some fired0 ∧ fired0.live = true ∧ fired0.state ≠ 4 ∧ (dumpable fired0).inWindows 5 128 64 true = true ∧
    ({ fired0 with state := 4 } : Job).state = 4 := by decide +kernel
theorem test_dump_done : (go (.dumpCopyDone 1 5 8 0 0) (dumpable fired0)).readByte 5 128 = 6#8 ∧ (go (.dumpCopyDone 1 5 8 0 0) (dumpable fired0)).readByte 5 160 = 0#8 ∧
    ((go (.dumpCopyDone 1 5 8 0 0) (dumpable { fired0 with state := 4 })).job 5 8).map (fun j => j.dumps.map Dump.fired) = some [none] := by decide +kernel
theorem meets_hang : (working job8).limik = true ∧ job8.state = 0 ∧ (working job8).flag Addr.PWR_STATUS 1 = false ∧ (∀ k ∈ job8.clusters, (working job8).halted k = false) ∧
    job8.lastProgress + ms ((working job8).reg Addr.HANG_TIMEOUT) ≤ secs 100000 := by decide +kernel
theorem test_hang : (go (.hangTimeoutExpiry (secs 100000) 5 8) (working job8)).reg Addr.HANG_SUSPECTS = 1 ∧
    (go (.hangTimeoutExpiry (secs 100000) 5 8) (working { job8 with state := 1 })).reg Addr.HANG_SUSPECTS = 0 := by decide +kernel

/-! Security and tenancy: measurements are of an opaque digest, so only what comes before one is computed here -/

theorem meets_attest : (b5 up).secure.reports.length < 4 ∧ (zeros 32).length = 32 := by decide +kernel
/-- TENANT_CREATE of tenant 9 with 100 entries and 2 sessions, and its update. -/
def createParams (update : Nat) : Bytes := [9#8] ++ toBE 1 update ++ zeros 2 ++ toBE 4 100 ++ [2#8] ++ zeros 7 ++ zeros 432
def with9 : State := makeTenant 9 up
theorem meets_tenant_create : (createParams 0).length = 448 ∧ zerosAt (createParams 0) 2 2 = true ∧ zerosAt (createParams 0) 9 7 = true ∧ (b0 up).tenantExists 9 = false ∧
    (b0 with9).tenantExists 9 = true ∧ zerosAt (createParams 1) 16 432 = true ∧ (b0 with9).exactUse 9 ≤ 100 ∧ (b0 with9).sessionsOf 9 ≤ 2 := by decide +kernel
theorem meets_tenant_destroy : (b0 with9).tenantState 9 ≠ 2 ∧ ∀ y ∈ (b0 with9).subPorts, (b0 with9).field (Addr.INTAKE_TENANT y.1 y.2) 0 8 ≠ 9 := by decide +kernel
def dataKeyParams : Bytes := [1#8] ++ zeros 3 ++ List.replicate 32 1#8 ++ List.replicate 32 2#8
theorem meets_key_install : (dataKeyParams.drop 4).take 32 ≠ (dataKeyParams.drop 4).drop 32 ∧ dataKeyParams.length = 68 ∧ (b5 up).keyInUse 5 = false ∧
    ([2#8] ++ zeros 3 ++ zeros 432 : Bytes).length = 436 := by decide +kernel
theorem meets_zero_key : lastStatus (go (.keyInstall c5 ([1#8] ++ zeros 67)) up) = some St.BAD_PARAM := by decide +kernel
/-- A device without tenants, its owner's session alone, not in the approved mode. -/
def alone : State := makeTenant 0 { (State.reset.setField Addr.FW_STATE 0 3 1).setFlag Addr.SEC_STATUS 3 true with sessions := [own] }
theorem meets_approved : ready c0 own alone = true ∧ (∀ k < 255, (b0 alone).tenantExists (k + 1) = false) ∧ (b0 alone).flag Addr.SEC_STATUS 2 = false := by decide +kernel
theorem test_approved : lastStatus (go (.approvedModeSet c0 (zeros 4)) alone) = some St.OK ∧ (go (.approvedModeSet c0 (zeros 4)) alone).sessions.length = 1 := by decide +kernel

theorem meets_zeroise : ready c0 own up = true ∧ up.module.rails = true ∧ zerosAt [1#8, 0#8, 0#8, 0#8] 1 3 = true := by decide +kernel
theorem test_zeroise : (go (.zeroise c0 [1#8, 0#8, 0#8, 0#8]) up).sessions = [] ∧ (go (.zeroise c0 [1#8, 0#8, 0#8, 0#8]) up).reg Addr.LAST_RESET = 2 ∧ (go (.zeroise c0 [1#8, 0#8, 0#8, 0#8]) up).out = [] := by decide +kernel
theorem test_tamper : (go (.tamperDetect 1) up).flag Addr.SEC_STATUS 4 = true ∧ (go (.tamperDetect 1) { up with module.rails := false }).flag Addr.SEC_STATUS 4 = true := by decide +kernel
theorem meets_report : ({ up with secure.reports := [⟨2, 9, 5, [1#8]⟩] } : State).session 2 = some ten ∧ up.transportOn ten.transport = true ∧ up.limik = true ∧ up.secError = false ∧
    ten.queue.length < 4096 ∧ ten.lost = 0 := by decide +kernel
theorem test_report : (go (.attestReportDone 1) { up with secure.reports := [⟨2, 9, 5, [1#8]⟩] }).secure.reports = [] := by decide +kernel
def destroying : State := with9.setReg (Addr.T_STATE 9) 2
theorem meets_key_zeroise : destroying.tenantState 9 = 2 ∧ 9 ∉ destroying.secure.waitFlip ∧ destroying.stampedWith 9 = false ∧ destroying.on = true := by decide +kernel
theorem meets_selftest : 0 < (up.setReg Addr.SELFTEST_PERIOD 24).reg Addr.SELFTEST_PERIOD ∧ up.secure.lastTest + secs (3600 * 24) ≤ secs 90000 := by decide +kernel
theorem test_selftest : (go (.periodicSelftest (secs 90000) 0) (up.setReg Addr.SELFTEST_PERIOD 24)).secure.lastTest = secs 90000 := by decide +kernel
theorem test_error_state : (go (.selftestFailure 1 11) up).secError = true ∧ (go (.selftestFailure 1 11) up).reg Addr.SEC_ERR_CAUSE = 11 ∧
    (go (.selftestFailure 1 12) up).secError = false := by decide +kernel
theorem meets_boot_key : (up.setFlag Addr.SEC_STATUS 3 false).limik = true := by decide +kernel
theorem test_boot_key : (go (.bootKeyReady 1) (up.setFlag Addr.SEC_STATUS 3 false)).flag Addr.SEC_STATUS 3 = true := by decide +kernel

/-! Firmware and the module -/

/-- An image of version 5, SVN 2, staged and allowed; FW_STAGE of 64 bytes that are no image. -/
def image5fw : FwImage := { version := 5, svn := 2 }
def ownerWindow : State := { up with mem.windows := [(0, ⟨0, 4, true, true⟩)] }
def stagedFw : State := { up.setFlag Addr.FW_STATE 4 true with fw.staged := some image5fw }
theorem meets_fw_stage : up.fw.hbmFailed = false ∧ (b0 ownerWindow).inWindows owner 0 64 false = true ∧ readFwImage ((b0 ownerWindow).readBytes owner 0 64) 64 = none := by decide +kernel
theorem meets_fw_activate : (b0 stagedFw).fw.staged = some image5fw ∧ (b0 stagedFw).flag Addr.FW_STATE 4 = true ∧ (b0 stagedFw).acceptedWork = false ∧
    (b0 stagedFw).reg Addr.FUSE_SVN < image5fw.svn ∧ image5fw.minMajor ≤ (b0 stagedFw).field Addr.FW_VERSION 16 8 := by decide +kernel
theorem test_fw_activate : (go (.fwActivate c0 [3#8, 0#8, 0#8, 0#8]) stagedFw).module.flash = image5fw ∧ (go (.fwActivate c0 [3#8, 0#8, 0#8, 0#8]) stagedFw).reg Addr.FUSE_SVN = 2 ∧
    (go (.fwActivate c0 (zeros 4)) stagedFw).stage = 2 := by decide +kernel
theorem test_fw_status : (lastReply (go (.fwStatus c0 []) up)).map (fun r => (r.1, r.2.length)) = some (0, 28) := by decide +kernel
theorem test_device_reset : (go (.deviceReset c0 []) up).stage = 0 ∧ (go (.deviceReset c0 []) up).reg Addr.LAST_RESET = 2 ∧ lastStatus (go (.deviceReset c0 []) up) = some St.OK := by decide +kernel

theorem meets_boot : State.reset.on = true ∧ State.reset.stage = 0 ∧ State.reset.secError = false ∧ State.reset.module.flash.good = true ∧ State.reset.fwAllowed State.reset.module.flash = true := by decide +kernel
theorem meets_boot_2 : ({ State.reset with module.flash.good := false } : State).module.flash.good = false ∧ ({ State.reset with module.flash.good := false } : State).stage = 0 := by decide +kernel
theorem meets_hbm : up.stage = 1 ∧ up.fw.trained = 0 ∧ up.fw.hbmFailed = false ∧ up.cellState 9 ≠ 3 := by decide +kernel
theorem test_hbm : (go (.hbmTrainDone 1 65535 [9]) up).cellState 9 = 3 ∧ (go (.hbmTrainDone 1 65535 []) up).flag (Addr.HBM_STATUS 15) 0 = true ∧
    (go (.hbmTrainDone 1 1 []) up).fw.hbmFailed = true := by decide +kernel
def recovering : State := State.reset.setField Addr.FW_STATE 0 3 3
theorem meets_recovery : recovering.stage = 3 ∧ recovering.fw.lastFetch = none ∧ readFwImage [] 0 = none := by decide +kernel
theorem test_recovery : (go (.recoveryFetch 1 []) recovering).stage = 3 ∧ (go (.recoveryFetch 1 []) recovering).fw.lastFetch = some 1 := by decide +kernel
theorem test_address : (go (.mgmtAddressConfig 1 [5] (some 6)) up).fw.ipv4 = some 6 := by decide +kernel
/-- A handover under way since the start, FUSE_SVN to be raised. -/
def handing : State := { stagedFw.setField Addr.FW_STATE 0 3 2 with fw.handover := some (0, true) }
theorem meets_handover : handing.stage = 2 ∧ handing.on = true ∧ 0 + secs 2 < secs 3 := by decide +kernel
theorem test_handover : runs (.handoverTimeout (secs 3)) handing = true ∧ runs (.handoverResume 5) handing = true ∧ (go (.handoverResume (secs 3)) handing).stage = 2 := by decide +kernel
theorem test_flash : (go (.flashWriteDone 1) { stagedFw with fw.writing := some true }).module.flash = image5fw ∧ (go (.flashWriteDone 1) { stagedFw with fw.writing := some true }).reg Addr.FUSE_SVN = 2 := by decide +kernel
theorem meets_image_staged : (stagedFw.setFlag Addr.FW_STATE 4 false).flag Addr.FW_STATE 4 = false ∧ (stagedFw.setFlag Addr.FW_STATE 4 false).fw.staged = some image5fw ∧ stagedFw.stage = 1 := by decide +kernel
theorem test_image_staged : (go (.fwImageStaged 1) (stagedFw.setFlag Addr.FW_STATE 4 false)).flag Addr.FW_STATE 4 = true := by decide +kernel

/-- The rails down, nothing tripped; a trip that has cooled; MB_FAULT bits 2 and 4, of which bit 4 persists. -/
def unpowered : State := { up with module.rails := false }
def cooledTrip (mv : Nat) : State := { unpowered with module := { unpowered.module with tripped := true, tj := 60, hbmT := 60, vin := mv } }
def faulty : State := { up with module := { up.module with mbFault := 0x14, persists := 0x10 } }
theorem meets_module : unpowered.module.rails = false ∧ unpowered.module.tripped = false ∧ up.module.present = true ∧ up.module.rails = true ∧ up.module.hold = 0 ∧
    up.module.aux = true ∧ up.module.i3c = none := by decide +kernel
theorem meets_trip_clear : (cooledTrip 48000).module.tripped = true ∧ (cooledTrip 48000).cooled = true ∧ (cooledTrip 48000).module.present = true ∧
    (cooledTrip 48000).module.aux = true ∧ (cooledTrip 39999).cooled = true := by decide +kernel
theorem test_power_on : (go (.powerOn 1 48000) unpowered).pwrGood = true ∧ (go (.powerOn 1 39999) unpowered).pwrGood = false ∧ (go (.pinReset 1 1000) up).reg Addr.LAST_RESET = 1 := by decide +kernel
theorem test_power_off : (go (.powerRemove 1 30000) up).on = false ∧ (go (.powerRemove 1 30000) up).module.aux = false := by decide +kernel
theorem test_absolute : exec (.overvoltage 1 80001) up = .fault .beyondAbsoluteRatings ∧ exec (.reversePolarity 1 (-64001)) up = .fault .beyondAbsoluteRatings := ⟨rfl, rfl⟩
theorem test_overvoltage : bitAt (go (.overvoltage 1 80000) up).module.mbFault 1 = true ∧ (go (.reversePolarity 1 (-64000)) up).module.reverse = true := by decide +kernel
theorem test_refclk : (go (.refclkSysLoss 1 false) up).on = false ∧ (go (.refclkSysLoss 2 true) (go (.refclkSysLoss 1 false) up)).on = true := by decide +kernel
theorem test_sense : (go (.senseFault 1 true 48000) up).reg Addr.VIN = 47700 ∧ bitAt (go (.senseFault 1 true 48000) up).module.mbFault 3 = true := by decide +kernel
theorem test_present : runs (.presentNOpen 1) up = true ∧ (go (.presentNOpen 1) up).module.present = false := by decide +kernel
theorem test_aux : bitAt (go (.auxOverload 1 true) up).module.mbFault 4 = true := by decide +kernel
theorem test_trip_clear : (go (.tripClear 1 .pwrEn) (cooledTrip 66000)).on = true ∧ (go (.tripClear 1 .rstN) (cooledTrip 48000)).reg Addr.LAST_RESET = 1 ∧
    (go (.tripClear 1 .input) (cooledTrip 48000)).module.tripped = false ∧ (go (.tripClear 1 .pwrEn) (cooledTrip 39999)).on = false ∧
    (go (.tripClear 1 .pwrEn) (cooledTrip 39999)).module.tripped = false := by decide +kernel
theorem test_fault_clear : (go (.mbFaultClear 1 0xFFFF) faulty).module.mbFault = 0x10 := by decide +kernel
theorem test_i3c : (go (.i3cAddressAssign 1 true 127) up).module.i3c = some 127 := by decide +kernel

/-! The invariant and the rules -/

theorem meets_tables : up.tablesWf = true ∧ runs (.echo c0 []) up = true := by decide +kernel
theorem meets_step : ∃ u, step { up with pending := [.echo c0 []] } = .next u := ⟨_, rfl⟩
theorem test_idle : step up = .next up := rfl
/-- Member 5 with member 4 one step down in X: the pair is 1, and SRC + DST even gives its port 2, odd its port 3. -/
theorem meets_hop : grouped.joined = true ∧ 132 ≠ grouped.device ∧ 132 / 64 = grouped.groupNum ∧ grouped.reg (Addr.MEMBER_ROUTE 4) = 0x3F ∧
    (4 / 4 ^ 0 % 4 + 4 - grouped.member / 4 ^ 0 % 4) % 4 = 3 ∧ grouped.portUp 2 = true ∧ grouped.portUp 3 = false := by decide +kernel
theorem test_hop : grouped.hop 134 132 = .port 2 ∧ grouped.hop 133 132 = .port 2 ∧ grouped.hop 133 181 = .cut := by decide +kernel
/-- A VOTE grid of two trees of depth 1 and three classes, its leaves 0: class 0 has two votes. -/
def voteGrid : Bytes := (List.range 100).map (fun i => if i = 0 then 1#8 else if i = 2 then 8#8 else if i = 96 ∨ i = 97 then 1#8 else 0#8)
theorem meets_votes : gridAgg voteGrid = 1 ∧ gridTrees voteGrid = [0, 1] ∧ gridNclass voteGrid = 3 := by decide +kernel
theorem test_votes : (rankResult voteGrid [5]).out.take 3 = [2, 0, 0] ∧ verdictWord voteGrid [1, 4, 4] % 256 = 1 := by decide +kernel

end Sys2Proof.Tests
end

/-!
PROOFS. Header cores: what an instruction does to the core that is at it, and the branches (R100 to R102) and the header
instructions (R94 to R97) read off from that.
-/
namespace Sys2Proof.Machine

/-! One instruction of a core that is at it (R89 to R91, R97) -/

/-- A core while it issues an instruction: the step is counted. -/
def Core.issuing (c : Core) : Core := { c with steps := c.steps + 1 }

@[simp] theorem Core.issuing_c (c : Core) : c.issuing.c = c.c := rfl
@[simp] theorem Core.issuing_stack (c : Core) : c.issuing.stack = c.stack := rfl
@[simp] theorem Core.issuing_limit (c : Core) : c.issuing.limit = c.limit := rfl
@[simp] theorem Core.issuing_limitIsFrame (c : Core) : c.issuing.limitIsFrame = c.limitIsFrame := rfl

/-- The state that the outcome of an instruction issued at address `pc` leaves. -/
def hcLand (n pc : Nat) (s : State) : HcOut → State
  | .next c => if c.pc = 4095 then finishParse c psFault 4095 s else s.updCore n (fun _ => { c with pc := c.pc + 1 })
  | .jump c target => s.updCore n (fun _ => { c with pc := target })
  | .stop c e => finishParse c e (if e = 0 then 0 else pc) s

/-- A core at an instruction runs it: the outcome is the action's, on the core with the step counted. -/
theorem hcRun_of_coreAt {n w : Nat} {s : State} {c : Core} (h : coreAt n w s c) (act : State → Core → HcOut) :
    hcRun n w act s = hcLand n c.pc s (act s c.issuing) := by
  obtain ⟨⟨c0, hcore, hbank⟩, hfin, hword, hcap⟩ := h
  have runs : ¬ (c.finished = true ∨ s.progWord (n / 128) c.bank c.pc ≠ w) := by simp [hfin, hword]
  simp only [hcRun, hcore, ← hbank, if_neg runs, if_neg (Nat.not_le.2 hcap)]
  change _ = hcLand n c.pc s (act s { c with steps := c.steps + 1 })
  cases act s { c with steps := c.steps + 1 } <;> rfl

theorem hcLand_next {c : Core} (hpc : c.pc ≠ 4095) (n pc : Nat) (s : State) :
    hcLand n pc s (.next c.issuing) = s.updCore n (fun _ => goesOn c) := if_neg hpc

/-- An instruction that changes its core to `c'` and goes on. -/
theorem hcLand_goesOn {o : HcOut} {c' : Core} (ho : o = .next c'.issuing) (hpc : c'.pc ≠ 4095) {n pc : Nat} {s : State} :
    (Host.Outcome.next (hcLand n pc s o) : Host.Outcome State Fault Refusal) = .next (s.updCore n (fun _ => goesOn c')) :=
  congrArg _ (ho ▸ hcLand_next hpc n pc s)

theorem hcLand_jump (n pc target : Nat) (s : State) (c : Core) :
    hcLand n pc s (.jump c.issuing target) = s.updCore n (fun _ => goesTo c target) := rfl

theorem hcLand_fail {e : Nat} (he : e ≠ 0) (n pc : Nat) (s : State) (c : Core) :
    hcLand n pc s (.stop c e) = finishParse c e pc s := by
  simp [hcLand, he]

theorem hcLand_ok (n pc : Nat) (s : State) (c : Core) : hcLand n pc s (.stop c psOk) = finishParse c 0 0 s := rfl

/-! Branches (R100 to R102) -/

/-- COND on the numbers of two registers is COND on the words. -/
theorem hcCond_toNat (cond : Nat) (S T : W64) : hcCond cond S.toNat T.toNat = condHolds cond S T := by
  match cond with
  | 0 => exact decide_eq_decide.2 BitVec.toNat_inj
  | 1 => exact congrArg not (decide_eq_decide.2 BitVec.toNat_inj)
  | 2 => rfl
  | _ + 3 => rfl

/-- The first hit of a table is the one DISP branches on. -/
theorem dispTarget_of_first {entry : Nat → Nat} {v k e : Nat} (he : e < k)
    (hit : bitAt (entry e) 28 = true ∧ bits (entry e) 0 16 = v % 65536)
    (first : ∀ f < e, ¬ (bitAt (entry f) 28 = true ∧ bits (entry f) 0 16 = v % 65536)) :
    dispTarget ((List.range k).map entry) v = some (bits (entry e) 16 12) := by
  have found : (List.range k).find? (fun e => bitAt (entry e) 28 && bits (entry e) 0 16 == v % 2 ^ 16) = some e := by
    simpa [List.find?_range_eq_some, he, hit, -not_and, not_and_or] using first
  rw [dispTarget, List.find?_map, Function.comp_def, found]
  rfl

/-- A table with no hit leaves DISP its DEFAULT. -/
theorem dispTarget_of_none {entry : Nat → Nat} {v k : Nat}
    (none_hit : ∀ e < k, ¬ (bitAt (entry e) 28 = true ∧ bits (entry e) 0 16 = v % 65536)) :
    dispTarget ((List.range k).map entry) v = none := by
  simpa [dispTarget] using none_hit

/-- A conditional branch: to its target where the condition holds, to the next address where it does not. -/
theorem hcLand_branch (n pc target : Nat) (s : State) (c : Core) (holds : Bool) :
    (holds = true → hcLand n pc s (if holds then .jump c.issuing target else .next c.issuing) = s.updCore n (fun _ => goesTo c target)) ∧
    (holds = false → c.pc ≠ 4095 →
      hcLand n pc s (if holds then .jump c.issuing target else .next c.issuing) = s.updCore n (fun _ => goesOn c)) := by
  constructor
  · rintro rfl
    exact hcLand_jump n pc target s c
  · rintro rfl hpc
    exact hcLand_next hpc n pc s

section
variable {n : Nat} {s : State} {c : Core}

theorem exec_hcBr {src tgt cond target : Nat} (hsrc : src < 16) (htgt : tgt < 16) (hcond : cond < 4) (htarget : target < 4096)
    (h : coreAt n (encBr src tgt cond target) s c) :
    exec (.hcBr n src tgt cond target) s = .next (hcLand n c.pc s
      (if condHolds cond (c.regs.getD src 0#64) (c.regs.getD tgt 0#64) then .jump c.issuing target else .next c.issuing)) := by
  show Host.Outcome.next (hcRun n _ _ s) = _
  rw [hcRun_of_coreAt h, ← hcCond_toNat, Nat.mod_eq_of_lt hsrc, Nat.mod_eq_of_lt htgt, Nat.mod_eq_of_lt (by omega : cond < 8),
    Nat.mod_eq_of_lt htarget]
  rfl

theorem exec_hcBri {src cond imm target : Nat} (hsrc : src < 16) (hcond : cond < 4) (himm : imm < 256) (htarget : target < 4096)
    (h : coreAt n (encBri src cond imm target) s c) :
    exec (.hcBri n src cond imm target) s = .next (hcLand n c.pc s
      (if condHolds cond (c.regs.getD src 0#64) (BitVec.ofNat 64 imm) then .jump c.issuing target else .next c.issuing)) := by
  have imm_toNat : (BitVec.ofNat 64 imm).toNat = imm := Nat.mod_eq_of_lt (by omega)
  show Host.Outcome.next (hcRun n _ _ s) = _
  rw [hcRun_of_coreAt h, ← hcCond_toNat, imm_toNat, Nat.mod_eq_of_lt hsrc, Nat.mod_eq_of_lt hcond, Nat.mod_eq_of_lt himm,
    Nat.mod_eq_of_lt htarget]
  rfl

theorem exec_hcJmp {target : Nat} (htarget : target < 4096) (h : coreAt n (encJmp target) s c) :
    exec (.hcJmp n target) s = .next (s.updCore n (fun _ => goesTo c target)) := by
  show Host.Outcome.next (hcRun n _ _ s) = _
  rw [hcRun_of_coreAt h, Nat.mod_eq_of_lt htarget, hcLand_jump]

theorem exec_hcDisp {src tbl dflt : Nat} (hsrc : src < 16) (htbl : tbl < 16) (hdflt : dflt < 4096) (h : coreAt n (encDisp src tbl dflt) s c) :
    exec (.hcDisp n src tbl dflt) s = .next (s.updCore n (fun _ => goesTo c ((dispTarget
      ((List.range 32).map (fun e => s.dispWord (n / 128) c.bank (32 * tbl + e))) (c.reg src)).getD dflt))) := by
  show Host.Outcome.next (hcRun n _ _ s) = _
  rw [hcRun_of_coreAt h, Nat.mod_eq_of_lt hsrc, Nat.mod_eq_of_lt htbl, Nat.mod_eq_of_lt hdflt]
  rfl

end

/-- Settles O22: each branch lands where its condition or its table says. -/
theorem headerCoreBranches : Obligations.HeaderCoreBranches := by
  intro n s c
  refine ⟨?br, ?bri, ?jmp, ?disp⟩
  case br =>
    intro src tgt cond target hsrc htgt hcond htarget h
    rw [exec_hcBr hsrc htgt hcond htarget h]
    simpa only [Host.Outcome.next.injEq] using hcLand_branch n c.pc target s c _
  case bri =>
    intro src cond imm target hsrc hcond himm htarget h
    rw [exec_hcBri hsrc hcond himm htarget h]
    simpa only [Host.Outcome.next.injEq] using hcLand_branch n c.pc target s c _
  case jmp => exact fun _ => exec_hcJmp
  case disp =>
    intro src tbl dflt hsrc htbl hdflt h
    rw [exec_hcDisp hsrc htbl hdflt h]
    constructor
    · intro e he hit first
      rw [dispTarget_of_first he hit first]
      rfl
    · intro none_hit
      rw [dispTarget_of_none none_hit]
      rfl

/-! Header instructions (R94 to R97) -/

/-- A length fits where it ends within the frame and within the window. -/
theorem hcAdvance_fits {len k : Nat} {c : Core} (frame : c.c + k ≤ len) (window : c.c + k ≤ 512) : hcAdvance len c.issuing k = none := by
  simp [hcAdvance, Nat.not_lt.2 frame, Nat.not_lt.2 window]

theorem hcAdvance_past_frame {len k : Nat} {c : Core} (frame : len < c.c + k) : hcAdvance len c.issuing k = some psLenConflict := if_pos frame

theorem hcAdvance_past_window {len k : Nat} {c : Core} (frame : c.c + k ≤ len) (window : 512 < c.c + k) :
    hcAdvance len c.issuing k = some psDepth := by
  simp [hcAdvance, Nat.not_lt.2 frame, window]

section
variable {len k e : Nat} {c : Core}

theorem hcHeader_full (full : c.stack.length = 16) (len ty k : Nat) : hcHeader len c.issuing ty k = .stop c.issuing psDepth := if_pos full

theorem hcHeader_empty (room : c.stack.length ≠ 16) (hk : k = 0) (len ty : Nat) : hcHeader len c.issuing ty k = .stop c.issuing psFault := by
  simp [hcHeader, room, hk]

theorem hcHeader_fits (room : c.stack.length ≠ 16) (hk : k ≠ 0) (fits : hcAdvance len c.issuing k = none) (ty : Nat) :
    hcHeader len c.issuing ty k = .next (Core.issuing { c with stack := c.stack ++ [(ty, c.c, k)], c := c.c + k }) := by
  simp only [hcHeader, Core.issuing_stack, if_neg room, if_neg hk, fits]
  rfl

theorem hcHeader_past (room : c.stack.length ≠ 16) (hk : k ≠ 0) (past : hcAdvance len c.issuing k = some e) (ty : Nat) :
    hcHeader len c.issuing ty k = .stop c.issuing e := by
  simp [hcHeader, room, hk, past]

/-- ADV by `k` (R94): the cursor moves where the length fits. -/
def hcMove (len : Nat) (c : Core) (k : Nat) : HcOut :=
  match hcAdvance len c k with
  | some e => .stop c e
  | none => .next { c with c := c.c + k }

theorem hcMove_fits (fits : hcAdvance len c.issuing k = none) : hcMove len c.issuing k = .next (Core.issuing { c with c := c.c + k }) := by
  simp only [hcMove, fits]
  rfl

theorem hcMove_past (past : hcAdvance len c.issuing k = some e) : hcMove len c.issuing k = .stop c.issuing e := by
  simp [hcMove, past]

end

/-- The checks of R95 on a claim that ends at `claim`, of a header that ends at `headerEnd`. -/
def ClaimFits (len : Nat) (c : Core) (strict base : Bool) (headerEnd claim : Nat) : Prop :=
  claim ≤ c.limit ∧ (base = true ∨ headerEnd ≤ claim) ∧ (strict = true → c.limit ≤ claim ∨ (c.limitIsFrame = true ∧ len ≤ 64))

theorem hcLen_no_header {c : Core} (empty : c.stack = []) (len v : Nat) (strict base : Bool) :
    hcLen len c.issuing v strict base = .stop c.issuing psFault := by
  simp [hcLen, empty]

/-- LEN on a recorded header tests the claim and, where it fits, makes it the limit. -/
theorem hcLen_top {len v ty o k : Nat} {strict base : Bool} {c : Core} (top : c.stack.getLast? = some (ty, o, k)) {claim : Nat}
    (hclaim : (if base then o + k else o) + v = claim) :
    (ClaimFits len c strict base (o + k) claim →
      hcLen len c.issuing v strict base = .next (Core.issuing { c with limit := claim, limitIsFrame := false })) ∧
    (¬ ClaimFits len c strict base (o + k) claim → hcLen len c.issuing v strict base = .stop c.issuing psLenConflict) := by
  simp only [hcLen, Core.issuing_stack, top, hclaim, Core.issuing_limit, Core.issuing_limitIsFrame]
  constructor
  · rintro ⟨within, own, accounted⟩
    rw [if_neg (Nat.not_lt.2 within), if_neg (by simpa [imp_iff_not_or] using own),
      if_neg (by simpa [imp_iff_not_or, or_assoc] using accounted)]
    rfl
  · intro unfit
    split_ifs with past short trailing
    · rfl
    · rfl
    · rfl
    · refine absurd ⟨Nat.not_lt.1 past, ?_, ?_⟩ unfit
      · simpa [imp_iff_not_or] using short
      · simpa [imp_iff_not_or, or_assoc] using trailing

theorem hcFrag_whole {sv : Nat} (off : bits sv 0 13 = 0) (mf : bitAt sv 13 = false) (c : Core) (tv ipidx : Nat) (v6 : Bool) :
    hcFrag c.issuing sv tv ipidx v6 = .next c.issuing := if_pos ⟨off, mf⟩

/-- The fields FRAG records of a fragment of kind `k`, 1 for the first and 2 for a later one. -/
def Core.markFrag (c : Core) (k tv ipidx : Nat) (v6 : Bool) : Core :=
  { c with frag := k, fragId := bits tv 0 32, fragProto := bits tv 32 8, fragIpidx := ipidx, fragV6 := v6 }

section
variable {c : Core} {sv ipidx : Nat}

theorem hcFrag_first (off : bits sv 0 13 = 0) (mf : bitAt sv 13 = true) (recorded : ipidx < c.stack.length) (tv : Nat) (v6 : Bool) :
    hcFrag c.issuing sv tv ipidx v6 = .next (c.markFrag 1 tv ipidx v6).issuing := by
  simp [hcFrag, Core.markFrag, Core.issuing, off, mf, Nat.not_le.2 recorded]

theorem hcFrag_later (off : bits sv 0 13 ≠ 0) (recorded : ipidx < c.stack.length) (tv : Nat) (v6 : Bool) :
    hcFrag c.issuing sv tv ipidx v6 = .stop (c.markFrag 2 tv ipidx v6).issuing psOk := by
  simp [hcFrag, Core.markFrag, Core.issuing, off, Nat.not_le.2 recorded]

theorem hcFrag_unrecorded (fragment : bits sv 0 13 ≠ 0 ∨ bitAt sv 13 = true) (missing : c.stack.length ≤ ipidx) (tv : Nat) (v6 : Bool) :
    hcFrag c.issuing sv tv ipidx v6 = .stop c.issuing psFault := by
  have marks : ¬ (bits sv 0 13 = 0 ∧ bitAt sv 13 = false) := by simpa [imp_iff_not_or] using fragment
  rw [hcFrag, if_neg marks, if_pos (by exact missing)]

end

section
variable {n : Nat} {s : State} {c : Core}

theorem exec_hcHdr {src ty immLen : Nat} {i : Bool} (hsrc : src < 16) (hty : ty < 128) (himm : immLen < 512)
    (h : coreAt n (encHdr src ty i immLen) s c) :
    exec (.hcHdr n src ty i immLen) s =
      .next (hcLand n c.pc s (hcHeader (frameLength s c) c.issuing ty (if i then immLen else c.reg src))) := by
  show Host.Outcome.next (hcRun n _ _ s) = _
  rw [hcRun_of_coreAt h, Nat.mod_eq_of_lt hsrc, Nat.mod_eq_of_lt hty, Nat.mod_eq_of_lt himm]
  rfl

theorem exec_hcAdv {src immLen : Nat} {i : Bool} (hsrc : src < 16) (himm : immLen < 512) (h : coreAt n (encAdv src i immLen) s c) :
    exec (.hcAdv n src i immLen) s = .next (hcLand n c.pc s (hcMove (frameLength s c) c.issuing (if i then immLen else c.reg src))) := by
  show Host.Outcome.next (hcRun n _ _ s) = _
  rw [hcRun_of_coreAt h, Nat.mod_eq_of_lt hsrc, Nat.mod_eq_of_lt himm]
  unfold hcMove
  rfl

theorem exec_hcLen {src : Nat} {strict base : Bool} (hsrc : src < 16) (h : coreAt n (encLen src strict base) s c) :
    exec (.hcLen n src strict base) s = .next (hcLand n c.pc s (hcLen (frameLength s c) c.issuing (c.reg src) strict base)) := by
  show Host.Outcome.next (hcRun n _ _ s) = _
  rw [hcRun_of_coreAt h, Nat.mod_eq_of_lt hsrc]
  rfl

theorem exec_hcFrag {src tgt ipidx : Nat} {v6 : Bool} (hsrc : src < 16) (htgt : tgt < 16) (hip : ipidx < 16)
    (h : coreAt n (encFrag src tgt ipidx v6) s c) :
    exec (.hcFrag n src tgt ipidx v6) s = .next (hcLand n c.pc s (hcFrag c.issuing (c.reg src) (c.reg tgt) ipidx v6)) := by
  show Host.Outcome.next (hcRun n _ _ s) = _
  rw [hcRun_of_coreAt h, Nat.mod_eq_of_lt hsrc, Nat.mod_eq_of_lt htgt, Nat.mod_eq_of_lt hip]
  rfl

theorem exec_hcDone (h : coreAt n encDone s c) : exec (.hcDone n) s = .next (finishParse c.issuing 0 0 s) := by
  show Host.Outcome.next (hcRun n _ _ s) = _
  rw [hcRun_of_coreAt h, hcLand_ok]

theorem exec_hcFail {code : Nat} (hpos : code ≠ 0) (hcode : code < 8) (h : coreAt n (encFail code) s c) :
    exec (.hcFail n code) s = .next (finishParse c.issuing code c.pc s) := by
  show Host.Outcome.next (hcRun n _ _ s) = _
  rw [hcRun_of_coreAt h, Nat.mod_eq_of_lt hcode, hcLand_fail hpos]

end

/-- Settles O23: each header instruction lands where the lemma of its outcome says. -/
theorem headerCoreHeaderInstructions : Obligations.HeaderCoreHeaderInstructions := by
  intro n s c hpc failed
  have ends {o : HcOut} {e : Nat} (ho : o = .stop c.issuing e) (he : e ≠ 0) : .next (hcLand n c.pc s o) = failed e :=
    congrArg _ (ho ▸ hcLand_fail he n c.pc s _)
  refine ⟨?hdr, ?adv, ?len, ?lenNone, ?frag, ?done, ?fail⟩
  case hdr =>
    intro src ty i immLen hsrc hty himm h
    rw [exec_hcHdr hsrc hty himm h]
    intro k
    refine ⟨fun room hk frame window => ?_, fun full => ?_, fun room hk => ?_, fun room hk frame => ?_, fun room hk frame window => ?_⟩
    · exact hcLand_goesOn (hcHeader_fits room hk.ne' (hcAdvance_fits frame window) ty) hpc
    · exact ends (hcHeader_full full _ ty k) (by decide)
    · exact ends (hcHeader_empty room hk _ ty) (by decide)
    · exact ends (hcHeader_past room hk (hcAdvance_past_frame frame) ty) (by decide)
    · exact ends (hcHeader_past room hk (hcAdvance_past_window frame window) ty) (by decide)
  case adv =>
    intro src i immLen hsrc himm h
    rw [exec_hcAdv hsrc himm h]
    intro k
    refine ⟨fun frame window => ?_, fun frame => ?_, fun frame window => ?_⟩
    · exact hcLand_goesOn (hcMove_fits (hcAdvance_fits frame window)) hpc
    · exact ends (hcMove_past (hcAdvance_past_frame frame)) (by decide)
    · exact ends (hcMove_past (hcAdvance_past_window frame window)) (by decide)
  case len =>
    intro src strict base ty o k hsrc h top
    rw [exec_hcLen hsrc h]
    obtain ⟨narrows, conflicts⟩ := hcLen_top (len := frameLength s c) (v := c.reg src) (strict := strict) (base := base) top rfl
    exact ⟨fun fits => hcLand_goesOn (narrows fits) hpc, fun unfit => ends (conflicts unfit) (by decide)⟩
  case lenNone =>
    intro src strict base hsrc h empty
    rw [exec_hcLen hsrc h]
    exact ends (hcLen_no_header empty _ _ strict base) (by decide)
  case frag =>
    intro src tgt ipidx v6 hsrc htgt hip h
    rw [exec_hcFrag hsrc htgt hip h]
    refine ⟨fun off mf => ?_, fun off mf recorded => ?_, fun off recorded => ?_, fun fragment missing => ?_⟩
    · exact hcLand_goesOn (hcFrag_whole off mf c _ ipidx v6) hpc
    · exact hcLand_goesOn (hcFrag_first off mf recorded _ v6) hpc
    · exact congrArg (fun o => Host.Outcome.next (hcLand n c.pc s o)) (hcFrag_later off recorded _ v6)
    · exact ends (hcFrag_unrecorded fragment missing _ v6) (by decide)
  case done => exact exec_hcDone
  case fail => exact fun code hpos hle h => exec_hcFail (by omega) (by omega) h

end Sys2Proof.Machine

/-!
PROOFS. Tree ensembles under VOTE: the walk to an exit leaf (R230), the counts of one rank and the winning class (R234).
-/
namespace Sys2Proof.Machine

/-! The walk (R230) -/

/-- The node that the walk of tree `t` enters from node `n`. -/
def walkStep (g : Bytes) (v : List Nat) (t n : Nat) : Nat :=
  let f := gridSelector g (256 * t + n)
  2 * n + b2n (!featureLess (gridKind g f) (v.getD f 0) (gridThreshold g (256 * t + n)))

theorem treeWalk_fst (g : Bytes) (v : List Nat) (t d n : Nat) : (treeWalk g v t d n).1 = (walkStep g v t)^[d] n := by
  induction d generalizing n with
  | zero => rfl
  | succ d ih => exact ih (walkStep g v t n)

theorem exitLeaf_fst (g : Bytes) (v : List Nat) (t : Nat) :
    (exitLeaf g v t).1 = (walkStep g v t)^[gridDepth g t] 1 - 2 ^ gridDepth g t :=
  congrArg (· - 2 ^ gridDepth g t) (treeWalk_fst g v t (gridDepth g t) 1)

/-! The counts of one rank (R234) -/

/-- The class that the exit leaf of tree `t` names. -/
def votedClass (g : Bytes) (v : List Nat) (t : Nat) : Nat := gridLeaf g (256 * t + (exitLeaf g v t).1) % 256

/-- One vote for class `c` adds one to that class's count and to no other. -/
theorem getD_modify_succ {out : List Nat} {k : Nat} (hk : k < out.length) (c : Nat) :
    (out.modify c (· + 1)).getD k 0 = out.getD k 0 + if c = k then 1 else 0 := by
  rw [List.getD_eq_getElem _ _ (by simpa using hk), List.getD_eq_getElem _ _ hk, List.getElem_modify]
  split <;> rfl

/-- Votes taken one after another add, to each class of the counts, the number of voters that name it. -/
theorem getD_foldl_votes (voted : Nat → Nat) (trees : List Nat) {out : List Nat} {k : Nat} (hk : k < out.length) :
    (trees.foldl (fun o t => o.modify (voted t) (· + 1)) out).getD k 0 = out.getD k 0 + trees.countP (fun t => voted t == k) := by
  induction trees generalizing out with
  | nil => rfl
  | cons t trees ih =>
    have counted : k < (out.modify (voted t) (· + 1)).length := by simpa using hk
    rw [List.foldl_cons, ih counted, getD_modify_succ hk, List.countP_cons]
    simp only [beq_iff_eq]
    omega

/-- Under VOTE the outputs of a rank are 16 counts from 0, one vote of each present tree after another. -/
theorem rankResult_out_of_vote {g : Bytes} (vote : gridAgg g = 1) (v : List Nat) :
    (rankResult g v).out = (gridTrees g).foldl (fun o t => o.modify (votedClass g v t) (· + 1)) (List.replicate 16 0) := by
  simp only [rankResult, vote, one_ne_zero, if_false]
  exact (List.foldl_hom RankResult.out (fun _ _ => rfl)).symm

theorem rankResult_count {g : Bytes} (vote : gridAgg g = 1) (v : List Nat) {k : Nat} (hk : k < 16) :
    (rankResult g v).out.getD k 0 = (gridTrees g).countP (fun t => votedClass g v t == k) := by
  rw [rankResult_out_of_vote vote, getD_foldl_votes _ _ (by simpa using hk), List.getD_replicate _ hk, Nat.zero_add]

/-! The winner (R234) -/

theorem winner_succ (out : List Nat) (n : Nat) :
    winner out (n + 1) = if out.getD (winner out n) 0 < out.getD n 0 then n else winner out n := by
  rw [winner, List.range_succ, List.foldl_append]
  rfl

theorem winner_le (out : List Nat) (n : Nat) : winner out n ≤ n - 1 := by
  induction n with
  | zero => rfl
  | succ n ih =>
    rw [winner_succ]
    split <;> omega

/-- Among the first `n` classes none has more votes than the winner, and none below the winner has as many. -/
theorem winner_best (out : List Nat) (n : Nat) : ∀ k < n,
    out.getD k 0 ≤ out.getD (winner out n) 0 ∧ (out.getD k 0 = out.getD (winner out n) 0 → winner out n ≤ k) := by
  induction n with
  | zero => exact fun k hk => absurd hk (Nat.not_lt_zero k)
  | succ n ih =>
    intro k hk
    have below := winner_le out n
    rw [winner_succ]
    rcases Nat.lt_succ_iff_lt_or_eq.1 hk with earlier | rfl
    · obtain ⟨most, lowest⟩ := ih k earlier
      split
      · omega
      · exact ⟨most, lowest⟩
    · split <;> omega

theorem verdictWord_class {g : Bytes} (vote : gridAgg g = 1) (out : List Nat) (fits : gridNclass g ≤ 16) :
    verdictWord g out % 256 = winner out (gridNclass g) := by
  have below := winner_le out (gridNclass g)
  simp only [verdictWord, if_pos vote]
  omega

/-- Settles O60: the walk doubles and adds the test's bit, each vote adds one to one count, and the winner is kept by a strict
comparison of the counts in ascending class order. -/
theorem votesAreCountedExactly : Obligations.VotesAreCountedExactly := by
  intro g v vote
  refine ⟨?leaf, ?counts, ?verdict⟩
  case leaf =>
    exact fun t => ⟨fun i => (walkStep g v t)^[i] 1, rfl, fun i _ => Function.iterate_succ_apply' _ i 1, exitLeaf_fst g v t⟩
  case counts => exact fun k hk => rankResult_count vote v hk
  case verdict =>
    intro out some_class fits
    have below := winner_le out (gridNclass g)
    simp only [verdictWord_class vote out fits]
    exact ⟨by omega, winner_best out (gridNclass g)⟩

end Sys2Proof.Machine

/-!
PROOFS. Dimension order within a group: the pair of the first dimension that differs, and the port of that pair (R309).
-/
namespace Sys2Proof.Machine

/-! The pair (R308, R309) -/

/-- The coordinates of a member are the base-4 digits of its number, X lowest. -/
theorem coord_eq_digit (m : Nat) {dim : Nat} (hdim : dim < 3) : coord m dim = m / 4 ^ dim % 4 := by
  interval_cases dim <;> simp [coord]

theorem coord_lt (m dim : Nat) : coord m dim < 4 := by
  unfold coord
  split_ifs <;> exact Nat.mod_lt _ (by decide)

theorem coord_delta_eq_zero_iff (m d dim : Nat) : (coord d dim + 4 - coord m dim) % 4 = 0 ↔ coord m dim = coord d dim := by
  have hm := coord_lt m dim
  have hd := coord_lt d dim
  omega

/-- The next torus hop is in the first dimension whose coordinates differ. -/
theorem torusPair_of_first_difference {m d dim : Nat} (hdim : dim < 3) (differs : coord m dim ≠ coord d dim)
    (agree : ∀ i < dim, coord m i = coord d i) :
    torusPair m d = some (2 * dim + if (coord d dim + 4 - coord m dim) % 4 = 3 then 1 else 0) := by
  have found : (List.range 3).find? (fun i => coord m i != coord d i) = some dim :=
    List.find?_range_eq_some.2 ⟨by simpa using differs, List.mem_range.2 hdim, fun i hi => by simpa using agree i hi⟩
  simp only [torusPair, found]

/-! The port of a pair (R309) -/

theorem pairPort_first {s : State} {j src dst : Nat} (up : s.portUp (2 * j + (src + dst) % 2) = true) :
    s.pairPort j src dst = some (2 * j + (src + dst) % 2) :=
  if_pos up

theorem pairPort_other {s : State} {j src dst : Nat} (down : s.portUp (2 * j + (src + dst) % 2) = false)
    (up : s.portUp (2 * j + (1 - (src + dst) % 2)) = true) :
    s.pairPort j src dst = some (2 * j + (1 - (src + dst) % 2)) := by
  have second : (src + dst + 1) % 2 = 1 - (src + dst) % 2 := by omega
  simp [State.pairPort, second, down, up]

/-! The hop (R309, R310) -/

theorem viaOf_eq_none {s : State} {m : Nat} (h : s.reg (Addr.MEMBER_ROUTE m) = 0x3F) : s.viaOf m = none := by
  simp [State.viaOf, h]

/-- A packet that starts here for a member without a VIA entry leaves by the pair of its next torus hop. -/
theorem hopMember_of_pair {s : State} {src dst d j p : Nat} (cls : Nat) (noVia : s.viaOf d = none)
    (pair : torusPair s.member d = some j) (port : s.pairPort j src dst = some p) :
    s.hopMember src dst d none cls = .port p := by
  simp [State.hopMember, noVia, pair, port]

theorem hop_within_group {s : State} {src dst : Nat} (joined : s.joined = true) (elsewhere : dst ≠ s.device)
    (group : dst / 64 = s.groupNum) : s.hop src dst = s.hopMember src dst (dst % 64) none 0 := by
  simp [State.hop, joined, elsewhere, group]

/-- Settles O59: the first dimension whose coordinates differ gives the pair, SRC + DST and the ports that are up give the port. -/
theorem packetsGoByDimensionOrder : Obligations.PacketsGoByDimensionOrder := by
  intro s src dst dim joined elsewhere group route coordinate delta hdim differs agree j first other
  have delta_coord (i : Nat) (hi : i < 3) : delta i = (coord (dst % 64) i + 4 - coord s.member i) % 4 := by
    rw [coord_eq_digit _ hi, coord_eq_digit _ hi]
  have pair : torusPair s.member (dst % 64) = some j := by
    rw [torusPair_of_first_difference hdim, ← delta_coord dim hdim]
    · exact congrArg some (apply_ite (2 * dim + ·) (delta dim = 3) 1 0)
    · exact fun same => differs ((delta_coord dim hdim).trans ((coord_delta_eq_zero_iff _ _ _).2 same))
    · exact fun i hi => (coord_delta_eq_zero_iff _ _ _).1 ((delta_coord i (hi.trans hdim)).symm.trans (agree i hi))
  have leaves {p : Nat} (port : s.pairPort j src dst = some p) : s.hop src dst = .port p :=
    (hop_within_group joined elsewhere group).trans (hopMember_of_pair 0 (viaOf_eq_none route) pair port)
  exact ⟨fun up => leaves (pairPort_first up), fun down up => leaves (pairPort_other down up)⟩

end Sys2Proof.Machine

/-!
PROOFS. Event queues: what taking an event does to a session's queue, and what delivering an event counts while no transport is
on (R355).
-/
namespace Sys2Proof.Machine

/-! One event at one queue -/

/-- An event is lost where its place, and after a loss that of the notice before it, is not free. -/
theorem losesEvent_eq (x : Session) :
    losesEvent x = decide (4096 < x.queue.length + if x.lost = 0 then 1 else 2) := by
  have none_free : 4096 - x.queue.length = 0 ↔ 4096 < x.queue.length + 1 := by omega
  have one_free : 4096 - x.queue.length < 2 ↔ 4096 < x.queue.length + 2 := by omega
  rw [Bool.eq_iff_iff]
  by_cases kept : x.lost = 0
  · simp [losesEvent, eventPlaces, kept, none_free]
  · simp [losesEvent, eventPlaces, kept, one_free]

/-- The notice EV_EVENTS_LOST that goes before event `e` in the queue of session `x`. -/
def lossNotice (e : Event) (x : Session) : Event :=
  { e with
    opcode := evEventsLost, body := [x.lost, (x.lostAt.getD (0, 0)).1, (x.lostAt.getD (0, 0)).2]
    count := 1, session := 0, tag := 0, status := 0 }

section
variable (now : Nat × Nat) (e : Event) {x : Session}

theorem enqueueEvent_of_place (kept : x.lost = 0) (place : x.queue.length < 4096) :
    enqueueEvent now e x = { x with queue := x.queue ++ [(x.eseq + 1, e)], eseq := x.eseq + 1 } := by
  have free : eventPlaces - x.queue.length ≠ 0 := by simp only [eventPlaces]; omega
  simp only [enqueueEvent, if_pos kept, if_neg free]

theorem enqueueEvent_of_first_loss (kept : x.lost = 0) (full : 4096 ≤ x.queue.length) :
    enqueueEvent now e x = { x with lost := 1, lostAt := some now } := by
  have free : eventPlaces - x.queue.length = 0 := by simp only [eventPlaces]; omega
  simp only [enqueueEvent, if_pos kept, if_pos free]

theorem enqueueEvent_of_two_places (lossy : 0 < x.lost) (places : x.queue.length + 2 ≤ 4096) :
    enqueueEvent now e x =
      { x with
        queue := x.queue ++ [(x.eseq + 1, lossNotice e x), (x.eseq + 2, e)]
        eseq := x.eseq + 2, lost := 0, lostAt := none } := by
  have free : ¬ eventPlaces - x.queue.length < 2 := by simp only [eventPlaces]; omega
  simp only [enqueueEvent, if_neg lossy.ne', if_neg free]
  rfl

theorem enqueueEvent_of_further_loss (lossy : 0 < x.lost) (full : 4096 < x.queue.length + 2) :
    enqueueEvent now e x = { x with lost := x.lost + 1 } := by
  have free : eventPlaces - x.queue.length < 2 := by simp only [eventPlaces]; omega
  simp only [enqueueEvent, if_neg lossy.ne', if_pos free]

end

@[simp] theorem enqueueEvent_transport (now : Nat × Nat) (e : Event) (x : Session) :
    (enqueueEvent now e x).transport = x.transport := by
  rcases Nat.eq_zero_or_pos x.lost with kept | lossy
  · rcases Nat.lt_or_ge x.queue.length 4096 with place | full
    · rw [enqueueEvent_of_place now e kept place]
    · rw [enqueueEvent_of_first_loss now e kept full]
  · rcases Nat.lt_or_ge 4096 (x.queue.length + 2) with full | places
    · rw [enqueueEvent_of_further_loss now e lossy full]
    · rw [enqueueEvent_of_two_places now e lossy places]

/-! Delivery while no transport is on -/

theorem State.flag_bump32_other {a b : Nat} (h : b ≠ a) (s : State) (n i : Nat) : (s.bump32 a n).flag b i = s.flag b i :=
  congrArg (bitAt · i) (State.reg_setReg_other h s _)

/-- Counting in EVENTS_LOST turns no transport on or off. -/
theorem State.transportOn_bump32_eventsLost (s : State) (n : Nat) (tr : Transport) :
    (s.bump32 Addr.EVENTS_LOST n).transportOn tr = s.transportOn tr := by
  have control (i : Nat) : (s.bump32 Addr.EVENTS_LOST n).flag Addr.GLOBAL_CTRL i = s.flag Addr.GLOBAL_CTRL i :=
    State.flag_bump32_other (by decide) s n i
  have ports (p i : Nat) : (s.bump32 Addr.EVENTS_LOST n).flag (Addr.FP_CTRL p) i = s.flag (Addr.FP_CTRL p) i :=
    State.flag_bump32_other (by simp only [Addr.FP_CTRL, Addr.EVENTS_LOST]; omega) s n i
  have joined : (s.bump32 Addr.EVENTS_LOST n).joined = s.joined := State.flag_bump32_other (by decide) s n 13
  have member : (s.bump32 Addr.EVENTS_LOST n).member = s.member :=
    congrArg (bits · 0 13 % 64) (State.reg_setReg_other (by decide) s _)
  cases tr with
  | mgmt => rfl
  | fabric => exact control 0
  | mailbox =>
    simp only [State.transportOn, State.bridgeUp, control, ports, joined, member, State.bump32_group]

/-- With every session's transport off nothing leaves a queue. -/
theorem sendEvents_of_transports_off {s : State} (off : ∀ x ∈ s.sessions, s.transportOn x.transport = false) :
    sendEvents s = s := by
  have stays (x : Session) (hx : x ∈ s.sessions) : (s.transportOn x.transport && s.stage != 2) = false := by
    rw [off x hx, Bool.false_and]
  dsimp only [sendEvents]
  rw [List.filter_eq_nil_iff.2 fun x hx => by simp [stays x hx],
    List.map_congr_left (g := id) fun x hx => by simp [stays x hx], List.map_id, List.foldl_nil]

theorem deliverTo_of_transports_off (sel : Session → Bool) (e : Event) {s : State}
    (off : ∀ x ∈ s.sessions, s.transportOn x.transport = false) :
    deliverTo sel e s =
      ({ s with sessions := s.sessions.map (fun x => if sel x then enqueueEvent (s.sec, s.ns) e x else x) } : State).bump32
        Addr.EVENTS_LOST (s.sessions.filter (fun x => sel x && losesEvent x)).length := by
  refine sendEvents_of_transports_off fun y hy => ?_
  obtain ⟨x, hx, rfl⟩ := List.mem_map.1 hy
  rw [State.transportOn_bump32_eventsLost]
  have same : (if sel x then enqueueEvent (s.sec, s.ns) e x else x).transport = x.transport := by split <;> simp
  rw [same]
  exact off x hx

/-- Settles O9: the places that are free and what was lost before decide which equation of the queue holds; with every transport off
a delivery is the queueing and the count alone. -/
theorem eventQueuesLoseByNotice : Obligations.EventQueuesLoseByNotice := by
  refine ⟨?place, ?firstLoss, ?notice, ?furtherLoss, ?delivery⟩
  case place =>
    exact fun now e x kept place => ⟨enqueueEvent_of_place now e kept place, by rw [losesEvent_eq, if_pos kept, decide_eq_false_iff_not]; omega⟩
  case firstLoss =>
    exact fun now e x kept full => ⟨enqueueEvent_of_first_loss now e kept full, by rw [losesEvent_eq, if_pos kept, decide_eq_true_iff]; omega⟩
  case notice =>
    exact fun now e x lossy places =>
      ⟨⟨lossNotice e x, rfl, rfl, enqueueEvent_of_two_places now e lossy places⟩,
        by rw [losesEvent_eq, if_neg lossy.ne', decide_eq_false_iff_not]; omega⟩
  case furtherLoss =>
    exact fun now e x lossy full =>
      ⟨enqueueEvent_of_further_loss now e lossy full, by rw [losesEvent_eq, if_neg lossy.ne', decide_eq_true_iff]; omega⟩
  case delivery =>
    intro sel e s off
    rw [deliverTo_of_transports_off sel e off]
    refine ⟨?_, rfl⟩
    rw [State.bump32, State.reg_setReg_same]
    exact Nat.mod_eq_of_lt (by omega)

end Sys2Proof.Machine

/-!
PROOFS. Header-core words: the fields of an instruction word, and encoding and decoding as inverses (R100).
-/
namespace Sys2Proof.Machine

/-! Fields and reserved bits -/

/-- A word has no bit of a run of ones where the field under the run is 0. -/
theorem and_ones_eq_zero_iff (w lo k : Nat) : w &&& (2 ^ k - 1) * 2 ^ lo = 0 ↔ bits w lo k = 0 := by
  have field : w &&& (2 ^ k - 1) * 2 ^ lo = (bits w lo k) * 2 ^ lo := by
    rw [← Nat.shiftLeft_eq, ← Nat.shiftLeft_eq, bits, ← Nat.shiftRight_eq_div_pow, ← Nat.and_two_pow_sub_one_eq_mod,
      Nat.shiftLeft_and_distrib]
    apply Nat.eq_of_testBit_eq
    intro i
    by_cases h : lo ≤ i <;> simp [h]
  rw [field]
  simp

theorem and_eq_zero_of_bits {w m lo k : Nat} (hm : m = (2 ^ k - 1) * 2 ^ lo) (h : bits w lo k = 0) : w &&& m = 0 :=
  hm ▸ (and_ones_eq_zero_iff w lo k).2 h

theorem and_eq_zero_of_two_bits {w m lo k lo' k' : Nat} (hm : m = (2 ^ k - 1) * 2 ^ lo ||| (2 ^ k' - 1) * 2 ^ lo') (h : bits w lo k = 0)
    (h' : bits w lo' k' = 0) : w &&& m = 0 := by
  rw [hm, Nat.and_or_distrib_left, and_eq_zero_of_bits rfl h, and_eq_zero_of_bits rfl h', Nat.or_zero]

theorem b2n_bitAt (w i : Nat) : b2n (bitAt w i) = bits w i 1 := by
  rcases Nat.mod_two_eq_zero_or_one (w / 2 ^ i) with h | h <;> simp [b2n, bitAt, bits, h]

/-- A one-bit field that holds a truth value reads as it. -/
theorem bitAt_of_bits {w i : Nat} {b : Bool} (h : bits w i 1 = b2n b) : bitAt w i = b := by
  rw [← b2n_bitAt] at h
  revert h
  cases bitAt w i <;> cases b <;> simp [b2n]

theorem bits_zero_left (w k : Nat) : bits w 0 k = w % 2 ^ k := by simp [bits]

theorem bits_lt (w lo k : Nat) : bits w lo k < 2 ^ k := Nat.mod_lt _ (by positivity)

/-- The part of a reserved run that a mask covers is 0 where the mask meets no bit. -/
theorem bits_eq_zero_of_and {w m lo k : Nat} (hm : m &&& (2 ^ k - 1) * 2 ^ lo = (2 ^ k - 1) * 2 ^ lo) (h : w &&& m = 0) : bits w lo k = 0 := by
  rw [← and_ones_eq_zero_iff, ← hm, ← Nat.and_assoc, h, Nat.zero_and]

/-! The fields of each word, and the word from its fields -/

theorem encNop_eq : encNop = 0 := rfl

theorem encLd_fields {d src sz off : Nat} {x : Bool} (hd : d < 16) (hsrc : src < 16) (hsz : sz < 4) (hoff : off < 512) :
    encLd d src sz x off < 2 ^ 32 ∧ bits (encLd d src sz x off) 26 6 = 0x01 ∧ bits (encLd d src sz x off) 22 4 = d ∧
      bits (encLd d src sz x off) 18 4 = src ∧ bits (encLd d src sz x off) 16 2 = sz ∧ bits (encLd d src sz x off) 15 1 = b2n x ∧
      bits (encLd d src sz x off) 0 9 = off ∧ bits (encLd d src sz x off) 9 6 = 0 := by
  cases x <;> simp [encLd, hcWord, bits, b2n] <;> omega

theorem encLd_of_fields {w : Nat} (hw : w < 2 ^ 32) (hop : bits w 26 6 = 0x01) (h9 : bits w 9 6 = 0) :
    encLd (bits w 22 4) (bits w 18 4) (bits w 16 2) (bitAt w 15) (bits w 0 9) = w := by
  simp only [encLd, hcWord, bits, b2n_bitAt] at *
  omega

theorem encMovi_fields {d k imm : Nat} (hd : d < 16) (hk : k < 4) (himm : imm < 65536) :
    encMovi d k imm < 2 ^ 32 ∧ bits (encMovi d k imm) 26 6 = 0x02 ∧ bits (encMovi d k imm) 22 4 = d ∧ bits (encMovi d k imm) 20 2 = k ∧
      bits (encMovi d k imm) 0 16 = imm ∧ bits (encMovi d k imm) 16 4 = 0 := by
  simp [encMovi, hcWord, bits]
  omega

theorem encMovi_of_fields {w : Nat} (hw : w < 2 ^ 32) (hop : bits w 26 6 = 0x02) (h16 : bits w 16 4 = 0) :
    encMovi (bits w 22 4) (bits w 20 2) (bits w 0 16) = w := by
  simp only [encMovi, hcWord, bits] at *
  omega

theorem encAlu_fields {d src tgt fn : Nat} (hd : d < 16) (hsrc : src < 16) (htgt : tgt < 16) (hfn : fn < 16) :
    encAlu d src tgt fn < 2 ^ 32 ∧ bits (encAlu d src tgt fn) 26 6 = 0x03 ∧ bits (encAlu d src tgt fn) 22 4 = d ∧
      bits (encAlu d src tgt fn) 18 4 = src ∧ bits (encAlu d src tgt fn) 14 4 = tgt ∧ bits (encAlu d src tgt fn) 0 4 = fn ∧
      bits (encAlu d src tgt fn) 4 10 = 0 := by
  simp [encAlu, hcWord, bits]
  omega

theorem encAlu_of_fields {w : Nat} (hw : w < 2 ^ 32) (hop : bits w 26 6 = 0x03) (h4 : bits w 4 10 = 0) :
    encAlu (bits w 22 4) (bits w 18 4) (bits w 14 4) (bits w 0 4) = w := by
  simp only [encAlu, hcWord, bits] at *
  omega

theorem encAlui_fields {d src fn imm : Nat} (hd : d < 16) (hsrc : src < 16) (hfn : fn < 16) (himm : imm < 16384) :
    encAlui d src fn imm < 2 ^ 32 ∧ bits (encAlui d src fn imm) 26 6 = 0x04 ∧ bits (encAlui d src fn imm) 22 4 = d ∧
      bits (encAlui d src fn imm) 18 4 = src ∧ bits (encAlui d src fn imm) 14 4 = fn ∧ bits (encAlui d src fn imm) 0 14 = imm := by
  simp [encAlui, hcWord, bits]
  omega

theorem encAlui_of_fields {w : Nat} (hw : w < 2 ^ 32) (hop : bits w 26 6 = 0x04) :
    encAlui (bits w 22 4) (bits w 18 4) (bits w 14 4) (bits w 0 14) = w := by
  simp only [encAlui, hcWord, bits] at *
  omega

theorem encExt_fields {d src pos wid : Nat} (hd : d < 16) (hsrc : src < 16) (hpos : pos < 64) (hwid : wid < 64) :
    encExt d src pos wid < 2 ^ 32 ∧ bits (encExt d src pos wid) 26 6 = 0x05 ∧ bits (encExt d src pos wid) 22 4 = d ∧
      bits (encExt d src pos wid) 18 4 = src ∧ bits (encExt d src pos wid) 12 6 = pos ∧ bits (encExt d src pos wid) 6 6 = wid ∧
      bits (encExt d src pos wid) 0 6 = 0 := by
  simp [encExt, hcWord, bits]
  omega

theorem encExt_of_fields {w : Nat} (hw : w < 2 ^ 32) (hop : bits w 26 6 = 0x05) (h0 : bits w 0 6 = 0) :
    encExt (bits w 22 4) (bits w 18 4) (bits w 12 6) (bits w 6 6) = w := by
  simp only [encExt, hcWord, bits] at *
  omega

theorem encBr_fields {src tgt cond target : Nat} (hsrc : src < 16) (htgt : tgt < 16) (hcond : cond < 8) (htarget : target < 4096) :
    encBr src tgt cond target < 2 ^ 32 ∧ bits (encBr src tgt cond target) 26 6 = 0x08 ∧ bits (encBr src tgt cond target) 22 4 = src ∧
      bits (encBr src tgt cond target) 18 4 = tgt ∧ bits (encBr src tgt cond target) 15 3 = cond ∧ bits (encBr src tgt cond target) 0 12 = target ∧
      bits (encBr src tgt cond target) 12 3 = 0 := by
  simp [encBr, hcWord, bits]
  omega

theorem encBr_of_fields {w : Nat} (hw : w < 2 ^ 32) (hop : bits w 26 6 = 0x08) (h12 : bits w 12 3 = 0) :
    encBr (bits w 22 4) (bits w 18 4) (bits w 15 3) (bits w 0 12) = w := by
  simp only [encBr, hcWord, bits] at *
  omega

theorem encBri_fields {src cond imm target : Nat} (hsrc : src < 16) (hcond : cond < 4) (himm : imm < 256) (htarget : target < 4096) :
    encBri src cond imm target < 2 ^ 32 ∧ bits (encBri src cond imm target) 26 6 = 0x09 ∧ bits (encBri src cond imm target) 22 4 = src ∧
      bits (encBri src cond imm target) 20 2 = cond ∧ bits (encBri src cond imm target) 12 8 = imm ∧
      bits (encBri src cond imm target) 0 12 = target := by
  simp [encBri, hcWord, bits]
  omega

theorem encBri_of_fields {w : Nat} (hw : w < 2 ^ 32) (hop : bits w 26 6 = 0x09) :
    encBri (bits w 22 4) (bits w 20 2) (bits w 12 8) (bits w 0 12) = w := by
  simp only [encBri, hcWord, bits] at *
  omega

theorem encJmp_fields {target : Nat} (htarget : target < 4096) :
    encJmp target < 2 ^ 32 ∧ bits (encJmp target) 26 6 = 0x0A ∧ bits (encJmp target) 0 12 = target ∧ bits (encJmp target) 12 14 = 0 := by
  simp [encJmp, hcWord, bits]
  omega

theorem encJmp_of_fields {w : Nat} (hw : w < 2 ^ 32) (hop : bits w 26 6 = 0x0A) (h12 : bits w 12 14 = 0) :
    encJmp (bits w 0 12) = w := by
  simp only [encJmp, hcWord, bits] at *
  omega

theorem encDisp_fields {src tbl dflt : Nat} (hsrc : src < 16) (htbl : tbl < 16) (hdflt : dflt < 4096) :
    encDisp src tbl dflt < 2 ^ 32 ∧ bits (encDisp src tbl dflt) 26 6 = 0x0B ∧ bits (encDisp src tbl dflt) 22 4 = src ∧
      bits (encDisp src tbl dflt) 18 4 = tbl ∧ bits (encDisp src tbl dflt) 0 12 = dflt ∧ bits (encDisp src tbl dflt) 12 6 = 0 := by
  simp [encDisp, hcWord, bits]
  omega

theorem encDisp_of_fields {w : Nat} (hw : w < 2 ^ 32) (hop : bits w 26 6 = 0x0B) (h12 : bits w 12 6 = 0) :
    encDisp (bits w 22 4) (bits w 18 4) (bits w 0 12) = w := by
  simp only [encDisp, hcWord, bits] at *
  omega

theorem encHdr_fields {src ty immLen : Nat} {i : Bool} (hsrc : src < 16) (hty : ty < 128) (himmLen : immLen < 512) :
    encHdr src ty i immLen < 2 ^ 32 ∧ bits (encHdr src ty i immLen) 26 6 = 0x10 ∧ bits (encHdr src ty i immLen) 22 4 = src ∧
      bits (encHdr src ty i immLen) 15 7 = ty ∧ bits (encHdr src ty i immLen) 14 1 = b2n i ∧ bits (encHdr src ty i immLen) 0 9 = immLen ∧
      bits (encHdr src ty i immLen) 9 5 = 0 := by
  cases i <;> simp [encHdr, hcWord, bits, b2n] <;> omega

theorem encHdr_of_fields {w : Nat} (hw : w < 2 ^ 32) (hop : bits w 26 6 = 0x10) (h9 : bits w 9 5 = 0) :
    encHdr (bits w 22 4) (bits w 15 7) (bitAt w 14) (bits w 0 9) = w := by
  simp only [encHdr, hcWord, bits, b2n_bitAt] at *
  omega

theorem encAdv_fields {src immLen : Nat} {i : Bool} (hsrc : src < 16) (himmLen : immLen < 512) :
    encAdv src i immLen < 2 ^ 32 ∧ bits (encAdv src i immLen) 26 6 = 0x11 ∧ bits (encAdv src i immLen) 22 4 = src ∧
      bits (encAdv src i immLen) 14 1 = b2n i ∧ bits (encAdv src i immLen) 0 9 = immLen ∧ bits (encAdv src i immLen) 15 7 = 0 ∧
      bits (encAdv src i immLen) 9 5 = 0 := by
  cases i <;> simp [encAdv, hcWord, bits, b2n] <;> omega

theorem encAdv_of_fields {w : Nat} (hw : w < 2 ^ 32) (hop : bits w 26 6 = 0x11) (h15 : bits w 15 7 = 0) (h9 : bits w 9 5 = 0) :
    encAdv (bits w 22 4) (bitAt w 14) (bits w 0 9) = w := by
  simp only [encAdv, hcWord, bits, b2n_bitAt] at *
  omega

theorem encLen_fields {src : Nat} {strict base : Bool} (hsrc : src < 16) :
    encLen src strict base < 2 ^ 32 ∧ bits (encLen src strict base) 26 6 = 0x12 ∧ bits (encLen src strict base) 22 4 = src ∧
      bits (encLen src strict base) 21 1 = b2n strict ∧ bits (encLen src strict base) 20 1 = b2n base ∧ bits (encLen src strict base) 0 20 = 0 := by
  cases strict <;> cases base <;> simp [encLen, hcWord, bits, b2n] <;> omega

theorem encLen_of_fields {w : Nat} (hw : w < 2 ^ 32) (hop : bits w 26 6 = 0x12) (h0 : bits w 0 20 = 0) :
    encLen (bits w 22 4) (bitAt w 21) (bitAt w 20) = w := by
  simp only [encLen, hcWord, bits, b2n_bitAt] at *
  omega

theorem encFrag_fields {src tgt ipidx : Nat} {v6 : Bool} (hsrc : src < 16) (htgt : tgt < 16) (hipidx : ipidx < 16) :
    encFrag src tgt ipidx v6 < 2 ^ 32 ∧ bits (encFrag src tgt ipidx v6) 26 6 = 0x13 ∧ bits (encFrag src tgt ipidx v6) 22 4 = src ∧
      bits (encFrag src tgt ipidx v6) 18 4 = tgt ∧ bits (encFrag src tgt ipidx v6) 14 4 = ipidx ∧ bits (encFrag src tgt ipidx v6) 13 1 = b2n v6 ∧
      bits (encFrag src tgt ipidx v6) 0 13 = 0 := by
  cases v6 <;> simp [encFrag, hcWord, bits, b2n] <;> omega

theorem encFrag_of_fields {w : Nat} (hw : w < 2 ^ 32) (hop : bits w 26 6 = 0x13) (h0 : bits w 0 13 = 0) :
    encFrag (bits w 22 4) (bits w 18 4) (bits w 14 4) (bitAt w 13) = w := by
  simp only [encFrag, hcWord, bits, b2n_bitAt] at *
  omega

theorem encMeta_fields {src off wid : Nat} (hsrc : src < 16) (hoff : off < 1024) (hwid : wid < 64) :
    encMeta src off wid < 2 ^ 32 ∧ bits (encMeta src off wid) 26 6 = 0x18 ∧ bits (encMeta src off wid) 22 4 = src ∧
      bits (encMeta src off wid) 12 10 = off ∧ bits (encMeta src off wid) 6 6 = wid ∧ bits (encMeta src off wid) 0 6 = 0 := by
  simp [encMeta, hcWord, bits]
  omega

theorem encMeta_of_fields {w : Nat} (hw : w < 2 ^ 32) (hop : bits w 26 6 = 0x18) (h0 : bits w 0 6 = 0) :
    encMeta (bits w 22 4) (bits w 12 10) (bits w 6 6) = w := by
  simp only [encMeta, hcWord, bits] at *
  omega

theorem encDone_fields :
    encDone < 2 ^ 32 ∧ bits encDone 26 6 = 0x3E ∧ bits encDone 0 26 = 0 := by
  norm_num [encDone, hcWord, bits]

theorem encDone_of_fields {w : Nat} (hw : w < 2 ^ 32) (hop : bits w 26 6 = 0x3E) (h0 : bits w 0 26 = 0) :
    encDone = w := by
  simp only [encDone, hcWord, bits] at *
  omega

theorem encNop_fields :
    encNop < 2 ^ 32 ∧ bits encNop 26 6 = 0x00 ∧ bits encNop 0 26 = 0 := by
  norm_num [encNop_eq, bits]

theorem encNop_of_fields {w : Nat} (hw : w < 2 ^ 32) (hop : bits w 26 6 = 0x00) (h0 : bits w 0 26 = 0) :
    encNop = w := by
  rw [encNop_eq]
  simp only [bits] at *
  omega

theorem encFail_fields {code : Nat} (hcode : code < 8) :
    encFail code < 2 ^ 32 ∧ bits (encFail code) 26 6 = 0x3F ∧ bits (encFail code) 0 3 = code ∧ bits (encFail code) 3 23 = 0 := by
  simp [encFail, hcWord, bits]
  omega

theorem encFail_of_fields {w : Nat} (hw : w < 2 ^ 32) (hop : bits w 26 6 = 0x3F) (h3 : bits w 3 23 = 0) :
    encFail (bits w 0 3) = w := by
  simp only [encFail, hcWord, bits] at *
  omega

/-! Encoding and decoding -/

/-- The conditions of R100 and R101 on the fields of a word, by its opcode, that validation tests beside the reserved bits. -/
def fieldsAdmitted (w : Nat) : Prop :=
  ¬ (bits w 26 6 = 3 ∧ 7 < bits w 0 4 ∨ bits w 26 6 = 4 ∧ 7 < bits w 14 4 ∨ bits w 26 6 = 8 ∧ 3 < bits w 15 3 ∨
      bits w 26 6 = 0x3F ∧ (bits w 0 3 = 0 ∨ 4 < bits w 0 3)) ∧
  ¬ (bits w 26 6 = 0x10 ∧ (bits w 15 7 = 0 ∨ bitAt w 14 = true ∧ bits w 0 9 = 0)) ∧
  ¬ (bits w 26 6 = 0x18 ∧ (bits w 12 10 < 384 ∨ 1024 < bits w 12 10 + width64 (bits w 6 6)))

theorem validateWord_eq_zero_iff {w op m : Nat} (hop : bits w 26 6 = op) (hm : hcReserved op = some m) :
    validateWord w = 0 ↔ w &&& m = 0 ∧ fieldsAdmitted w := by
  subst hop
  simp only [validateWord, hm, fieldsAdmitted, bits_zero_left, Nat.reducePow]
  split_ifs <;> simp_all

/-- A word that validates and, once it does, decodes to `i`. -/
theorem decodes_of {w op m n : Nat} {i : Instr} (hop : bits w 26 6 = op) (hm : hcReserved op = some m) (lt : w < 2 ^ 32) (reserved : w &&& m = 0)
    (admitted : fieldsAdmitted w) (run : validateWord w = 0 → hcDecode n w = some i) :
    w < 2 ^ 32 ∧ validateWord w = 0 ∧ hcDecode n w = some i :=
  have valid := (validateWord_eq_zero_iff hop hm).2 ⟨reserved, admitted⟩
  ⟨lt, valid, run valid⟩

/-- A well-formed instruction's word has 32 bits, is valid and decodes to it (R100). -/
theorem hcDecode_hcEncode {i : Instr} {n w : Nat} (hwf : i.wf = true) (hw : hcEncode i = some (n, w)) :
    w < 2 ^ 32 ∧ validateWord w = 0 ∧ hcDecode n w = some i := by
  unfold hcEncode at hw
  split at hw
  all_goals
    cases hw
  all_goals
    simp only [Instr.wf, Bool.and_eq_true, decide_eq_true_eq] at hwf
  next =>
    obtain ⟨hlt, hop, r0⟩ := encNop_fields
    exact decodes_of hop rfl hlt (and_eq_zero_of_bits rfl r0) (by simp [fieldsAdmitted, hop]) fun valid => by simp [hcDecode, valid, hop]
  next d src sz x off =>
    obtain ⟨⟨⟨⟨-, hd⟩, hsrc⟩, hsz⟩, hoff⟩ := hwf
    obtain ⟨hlt, hop, fd, fsrc, fsz, fx, foff, r9⟩ := encLd_fields (x := x) hd hsrc hsz hoff
    exact decodes_of hop rfl hlt (and_eq_zero_of_bits rfl r9) (by simp [fieldsAdmitted, hop]) fun valid =>
        by simp [hcDecode, valid, hop, fd, fsrc, fsz, bitAt_of_bits fx, foff]
  next d k imm =>
    obtain ⟨⟨⟨-, hd⟩, hk⟩, himm⟩ := hwf
    obtain ⟨hlt, hop, fd, fk, fimm, r16⟩ := encMovi_fields hd hk himm
    exact decodes_of hop rfl hlt (and_eq_zero_of_bits rfl r16) (by simp [fieldsAdmitted, hop]) fun valid =>
        by simp [hcDecode, valid, hop, fd, fk, fimm]
  next d src tgt fn =>
    obtain ⟨⟨⟨⟨-, hd⟩, hsrc⟩, htgt⟩, hfn⟩ := hwf
    obtain ⟨hlt, hop, fd, fsrc, ftgt, ffn, r4⟩ := encAlu_fields hd hsrc htgt (show fn < 16 by omega)
    exact decodes_of hop rfl hlt (and_eq_zero_of_bits rfl r4) (by simp [fieldsAdmitted, hop, ffn, Nat.le_of_lt_succ hfn]) fun valid =>
        by simp [hcDecode, valid, hop, fd, fsrc, ftgt, ffn]
  next d src fn imm =>
    obtain ⟨⟨⟨⟨-, hd⟩, hsrc⟩, hfn⟩, himm⟩ := hwf
    obtain ⟨hlt, hop, fd, fsrc, ffn, fimm⟩ := encAlui_fields hd hsrc (show fn < 16 by omega) himm
    exact decodes_of hop rfl hlt (Nat.and_zero _) (by simp [fieldsAdmitted, hop, ffn, Nat.le_of_lt_succ hfn]) fun valid =>
        by simp [hcDecode, valid, hop, fd, fsrc, ffn, fimm]
  next d src pos wid =>
    obtain ⟨⟨⟨⟨-, hd⟩, hsrc⟩, hpos⟩, hwid⟩ := hwf
    obtain ⟨hlt, hop, fd, fsrc, fpos, fwid, r0⟩ := encExt_fields hd hsrc hpos hwid
    exact decodes_of hop rfl hlt (and_eq_zero_of_bits rfl r0) (by simp [fieldsAdmitted, hop]) fun valid =>
        by simp [hcDecode, valid, hop, fd, fsrc, fpos, fwid]
  next src tgt cond target =>
    obtain ⟨⟨⟨⟨-, hsrc⟩, htgt⟩, hcond⟩, htarget⟩ := hwf
    obtain ⟨hlt, hop, fsrc, ftgt, fcond, ftarget, r12⟩ := encBr_fields hsrc htgt (show cond < 8 by omega) htarget
    exact decodes_of hop rfl hlt (and_eq_zero_of_bits rfl r12) (by simp [fieldsAdmitted, hop, fcond, Nat.le_of_lt_succ hcond]) fun valid =>
        by simp [hcDecode, valid, hop, fsrc, ftgt, fcond, ftarget]
  next src cond imm target =>
    obtain ⟨⟨⟨⟨-, hsrc⟩, hcond⟩, himm⟩, htarget⟩ := hwf
    obtain ⟨hlt, hop, fsrc, fcond, fimm, ftarget⟩ := encBri_fields hsrc hcond himm htarget
    exact decodes_of hop rfl hlt (Nat.and_zero _) (by simp [fieldsAdmitted, hop]) fun valid =>
        by simp [hcDecode, valid, hop, fsrc, fcond, fimm, ftarget]
  next target =>
    obtain ⟨-, htarget⟩ := hwf
    obtain ⟨hlt, hop, ftarget, r12⟩ := encJmp_fields htarget
    exact decodes_of hop rfl hlt (and_eq_zero_of_bits rfl r12) (by simp [fieldsAdmitted, hop]) fun valid => by simp [hcDecode, valid, hop, ftarget]
  next src tbl dflt =>
    obtain ⟨⟨⟨-, hsrc⟩, htbl⟩, hdflt⟩ := hwf
    obtain ⟨hlt, hop, fsrc, ftbl, fdflt, r12⟩ := encDisp_fields hsrc htbl hdflt
    exact decodes_of hop rfl hlt (and_eq_zero_of_bits rfl r12) (by simp [fieldsAdmitted, hop]) fun valid =>
        by simp [hcDecode, valid, hop, fsrc, ftbl, fdflt]
  next src ty i immLen =>
    obtain ⟨⟨⟨⟨-, hsrc⟩, hpos, hty⟩, himmLen⟩, hlen⟩ := hwf
    obtain ⟨hlt, hop, fsrc, fty, fi, fimmLen, r9⟩ := encHdr_fields (i := i) hsrc hty himmLen
    exact decodes_of hop rfl hlt (and_eq_zero_of_bits rfl r9) (by simpa [fieldsAdmitted, hop, fty, bitAt_of_bits fi, fimmLen, imp_iff_not_or] using
        ⟨Nat.ne_of_gt hpos, by simpa [Nat.pos_iff_ne_zero] using hlen⟩) fun valid =>
        by simp [hcDecode, valid, hop, fsrc, fty, bitAt_of_bits fi, fimmLen]
  next src i immLen =>
    obtain ⟨⟨-, hsrc⟩, himmLen⟩ := hwf
    obtain ⟨hlt, hop, fsrc, fi, fimmLen, r15, r9⟩ := encAdv_fields (i := i) hsrc himmLen
    exact decodes_of hop rfl hlt (and_eq_zero_of_two_bits rfl r15 r9) (by simp [fieldsAdmitted, hop]) fun valid =>
        by simp [hcDecode, valid, hop, fsrc, bitAt_of_bits fi, fimmLen]
  next src strict base =>
    obtain ⟨-, hsrc⟩ := hwf
    obtain ⟨hlt, hop, fsrc, fstrict, fbase, r0⟩ := encLen_fields (strict := strict) (base := base) hsrc
    exact decodes_of hop rfl hlt (and_eq_zero_of_bits rfl r0) (by simp [fieldsAdmitted, hop]) fun valid =>
        by simp [hcDecode, valid, hop, fsrc, bitAt_of_bits fstrict, bitAt_of_bits fbase]
  next src tgt ipidx v6 =>
    obtain ⟨⟨⟨-, hsrc⟩, htgt⟩, hipidx⟩ := hwf
    obtain ⟨hlt, hop, fsrc, ftgt, fipidx, fv6, r0⟩ := encFrag_fields (v6 := v6) hsrc htgt hipidx
    exact decodes_of hop rfl hlt (and_eq_zero_of_bits rfl r0) (by simp [fieldsAdmitted, hop]) fun valid =>
        by simp [hcDecode, valid, hop, fsrc, ftgt, fipidx, bitAt_of_bits fv6]
  next src off wid =>
    obtain ⟨⟨⟨⟨-, hsrc⟩, hlow⟩, hwid⟩, hhigh⟩ := hwf
    have hoff : off < 1024 := by split_ifs at hhigh <;> omega
    obtain ⟨hlt, hop, fsrc, foff, fwid, r0⟩ := encMeta_fields hsrc hoff hwid
    exact decodes_of hop rfl hlt (and_eq_zero_of_bits rfl r0) (by simp [fieldsAdmitted, hop, foff, fwid, hlow, width64, hhigh]) fun valid =>
        by simp [hcDecode, valid, hop, fsrc, foff, fwid]
  next =>
    obtain ⟨hlt, hop, r0⟩ := encDone_fields
    exact decodes_of hop rfl hlt (and_eq_zero_of_bits rfl r0) (by simp [fieldsAdmitted, hop]) fun valid => by simp [hcDecode, valid, hop]
  next code =>
    obtain ⟨-, hpos, hcode⟩ := hwf
    obtain ⟨hlt, hop, fcode, r3⟩ := encFail_fields (show code < 8 by omega)
    exact decodes_of hop rfl hlt (and_eq_zero_of_bits rfl r3)
        (by simp [fieldsAdmitted, hop, fcode, Nat.le_of_lt_succ hcode, Nat.ne_of_gt hpos]) fun valid => by simp [hcDecode, valid, hop, fcode]

theorem word_eq {n v w : Nat} (h : v = w) : some (n, v) = some (n, w) := by rw [h]

/-- A 32-bit word that decodes is the word of a well-formed instruction (R100). -/
theorem hcEncode_of_hcDecode {n w : Nat} {i : Instr} (hn : n < 2048) (hw : w < 2 ^ 32) (h : hcDecode n w = some i) :
    i.wf = true ∧ hcEncode i = some (n, w) := by
  simp only [hcDecode] at h
  split_ifs at h with valid
  rw [not_not] at valid
  split at h
  all_goals
    rename_i hop
    cases h
  · obtain ⟨hres, side⟩ := (validateWord_eq_zero_iff hop rfl).1 valid
    refine ⟨?_, word_eq (encNop_of_fields hw hop (bits_eq_zero_of_and rfl hres))⟩
    simpa [Instr.wf] using hn
  · obtain ⟨hres, side⟩ := (validateWord_eq_zero_iff hop rfl).1 valid
    refine ⟨?_, word_eq (encLd_of_fields hw hop (bits_eq_zero_of_and rfl hres))⟩
    simpa [Instr.wf] using ⟨⟨⟨⟨hn, bits_lt w 22 4⟩, bits_lt w 18 4⟩, bits_lt w 16 2⟩, bits_lt w 0 9⟩
  · obtain ⟨hres, side⟩ := (validateWord_eq_zero_iff hop rfl).1 valid
    refine ⟨?_, word_eq (encMovi_of_fields hw hop (bits_eq_zero_of_and rfl hres))⟩
    simpa [Instr.wf] using ⟨⟨⟨hn, bits_lt w 22 4⟩, bits_lt w 20 2⟩, bits_lt w 0 16⟩
  · obtain ⟨hres, side⟩ := (validateWord_eq_zero_iff hop rfl).1 valid
    refine ⟨?_, word_eq (encAlu_of_fields hw hop (bits_eq_zero_of_and rfl hres))⟩
    simp [fieldsAdmitted, hop] at side
    simpa [Instr.wf] using ⟨⟨⟨⟨hn, bits_lt w 22 4⟩, bits_lt w 18 4⟩, bits_lt w 14 4⟩, Nat.lt_succ_of_le side⟩
  · obtain ⟨hres, side⟩ := (validateWord_eq_zero_iff hop rfl).1 valid
    refine ⟨?_, word_eq (encAlui_of_fields hw hop)⟩
    simp [fieldsAdmitted, hop] at side
    simpa [Instr.wf] using ⟨⟨⟨⟨hn, bits_lt w 22 4⟩, bits_lt w 18 4⟩, Nat.lt_succ_of_le side⟩, bits_lt w 0 14⟩
  · obtain ⟨hres, side⟩ := (validateWord_eq_zero_iff hop rfl).1 valid
    refine ⟨?_, word_eq (encExt_of_fields hw hop (bits_eq_zero_of_and rfl hres))⟩
    simpa [Instr.wf] using ⟨⟨⟨⟨hn, bits_lt w 22 4⟩, bits_lt w 18 4⟩, bits_lt w 12 6⟩, bits_lt w 6 6⟩
  · obtain ⟨hres, side⟩ := (validateWord_eq_zero_iff hop rfl).1 valid
    refine ⟨?_, word_eq (encBr_of_fields hw hop (bits_eq_zero_of_and rfl hres))⟩
    simp [fieldsAdmitted, hop] at side
    simpa [Instr.wf] using ⟨⟨⟨⟨hn, bits_lt w 22 4⟩, bits_lt w 18 4⟩, Nat.lt_succ_of_le side⟩, bits_lt w 0 12⟩
  · obtain ⟨hres, side⟩ := (validateWord_eq_zero_iff hop rfl).1 valid
    refine ⟨?_, word_eq (encBri_of_fields hw hop)⟩
    simpa [Instr.wf] using ⟨⟨⟨⟨hn, bits_lt w 22 4⟩, bits_lt w 20 2⟩, bits_lt w 12 8⟩, bits_lt w 0 12⟩
  · obtain ⟨hres, side⟩ := (validateWord_eq_zero_iff hop rfl).1 valid
    refine ⟨?_, word_eq (encJmp_of_fields hw hop (bits_eq_zero_of_and rfl hres))⟩
    simpa [Instr.wf] using ⟨hn, bits_lt w 0 12⟩
  · obtain ⟨hres, side⟩ := (validateWord_eq_zero_iff hop rfl).1 valid
    refine ⟨?_, word_eq (encDisp_of_fields hw hop (bits_eq_zero_of_and rfl hres))⟩
    simpa [Instr.wf] using ⟨⟨⟨hn, bits_lt w 22 4⟩, bits_lt w 18 4⟩, bits_lt w 0 12⟩
  · obtain ⟨hres, side⟩ := (validateWord_eq_zero_iff hop rfl).1 valid
    refine ⟨?_, word_eq (encHdr_of_fields hw hop (bits_eq_zero_of_and rfl hres))⟩
    simp [fieldsAdmitted, hop] at side
    simpa [Instr.wf] using
        ⟨⟨⟨⟨hn, bits_lt w 22 4⟩, Nat.pos_of_ne_zero side.1, bits_lt w 15 7⟩, bits_lt w 0 9⟩, by simpa [imp_iff_not_or,
        Nat.pos_iff_ne_zero] using side.2⟩
  · obtain ⟨hres, side⟩ := (validateWord_eq_zero_iff hop rfl).1 valid
    refine ⟨?_, word_eq (encAdv_of_fields hw hop (bits_eq_zero_of_and rfl hres) (bits_eq_zero_of_and rfl hres))⟩
    simpa [Instr.wf] using ⟨⟨hn, bits_lt w 22 4⟩, bits_lt w 0 9⟩
  · obtain ⟨hres, side⟩ := (validateWord_eq_zero_iff hop rfl).1 valid
    refine ⟨?_, word_eq (encLen_of_fields hw hop (bits_eq_zero_of_and rfl hres))⟩
    simpa [Instr.wf] using ⟨hn, bits_lt w 22 4⟩
  · obtain ⟨hres, side⟩ := (validateWord_eq_zero_iff hop rfl).1 valid
    refine ⟨?_, word_eq (encFrag_of_fields hw hop (bits_eq_zero_of_and rfl hres))⟩
    simpa [Instr.wf] using ⟨⟨⟨hn, bits_lt w 22 4⟩, bits_lt w 18 4⟩, bits_lt w 14 4⟩
  · obtain ⟨hres, side⟩ := (validateWord_eq_zero_iff hop rfl).1 valid
    refine ⟨?_, word_eq (encMeta_of_fields hw hop (bits_eq_zero_of_and rfl hres))⟩
    simp [fieldsAdmitted, hop] at side
    simpa [Instr.wf] using ⟨⟨⟨⟨hn, bits_lt w 22 4⟩, side.1⟩, bits_lt w 6 6⟩, side.2⟩
  · obtain ⟨hres, side⟩ := (validateWord_eq_zero_iff hop rfl).1 valid
    refine ⟨?_, word_eq (encDone_of_fields hw hop (bits_eq_zero_of_and rfl hres))⟩
    simpa [Instr.wf] using hn
  · obtain ⟨hres, side⟩ := (validateWord_eq_zero_iff hop rfl).1 valid
    refine ⟨?_, word_eq (encFail_of_fields hw hop (bits_eq_zero_of_and rfl hres))⟩
    simp [fieldsAdmitted, hop] at side
    simpa [Instr.wf] using ⟨hn, Nat.pos_of_ne_zero side.1, Nat.lt_succ_of_le side.2⟩

/-- Settles O25: encoding then decoding gives the instruction back, and decoding then encoding the word, each instruction by the fields
of its word. -/
theorem headerCoreWordsDecode : Obligations.HeaderCoreWordsDecode :=
  ⟨fun _ _ _ => hcDecode_hcEncode, fun _ _ _ => hcEncode_of_hcDecode⟩

end Sys2Proof.Machine

/-!
PROOFS. Every step keeps the register file and memory in canonical form (log 9): one lemma for each function that changes the
state, in the order of the model, each by the lemmas of the functions it calls.
-/
namespace Sys2Proof.Machine
/-- The register file and device memory are in canonical form. -/
def TablesOk (s : State) : Prop := s.tablesWf = true

/-- The state beside an answer has canonical tables. -/
def PairOk {α : Type} (r : α × State) : Prop := TablesOk r.2

/-- The state before an answer has canonical tables. -/
def FstOk {α : Type} (r : State × α) : Prop := TablesOk r.1

/-- The state, where there is one, has canonical tables. -/
def OptOk (o : Option State) : Prop := ∀ t, o = some t → TablesOk t

/-- The next state, where a step answers one, has canonical tables. -/
def OutOk (o : Host.Outcome State Fault Refusal) : Prop := ∀ t, o = .next t → TablesOk t

/-- The state at the end of a triple has canonical tables. -/
def TripleOk {α β : Type} (r : α × β × State) : Prop := TablesOk r.2.2

/-! The predicates and the ways a state is put together -/

section
variable {α : Type} {c : Prop} [Decidable c]

theorem ok_ite {s t : State} (hs : c → TablesOk s) (ht : ¬ c → TablesOk t) : TablesOk (if c then s else t) := by
  split
  · exact hs ‹_›
  · exact ht ‹_›

theorem pairOk_ite {s t : α × State} (hs : c → PairOk s) (ht : ¬ c → PairOk t) : PairOk (if c then s else t) := by
  split
  · exact hs ‹_›
  · exact ht ‹_›

theorem fstOk_ite {s t : State × α} (hs : c → FstOk s) (ht : ¬ c → FstOk t) : FstOk (if c then s else t) := by
  split
  · exact hs ‹_›
  · exact ht ‹_›

theorem outOk_ite {s t} (hs : c → OutOk s) (ht : ¬ c → OutOk t) : OutOk (if c then s else t) := by
  split
  · exact hs ‹_›
  · exact ht ‹_›

theorem optOk_ite {s t : Option State} (hs : c → OptOk s) (ht : ¬ c → OptOk t) : OptOk (if c then s else t) := by
  split
  · exact hs ‹_›
  · exact ht ‹_›

theorem tripleOk_ite {β : Type} {s t : α × β × State} (hs : c → TripleOk s) (ht : ¬ c → TripleOk t) : TripleOk (if c then s else t) := by
  split
  · exact hs ‹_›
  · exact ht ‹_›

end
theorem ok_when {c : Prop} [Decidable c] {s t : State} (ok : TablesOk s) (change : TablesOk s → TablesOk t) : TablesOk (if c then t else s) :=
  ok_ite (fun _ => change ok) (fun _ => ok)

theorem ok_unless {c : Prop} [Decidable c] {s t : State} (ok : TablesOk s) (change : TablesOk s → TablesOk t) : TablesOk (if c then s else t) :=
  ok_ite (fun _ => ok) (fun _ => change ok)

theorem ok_elim {α : Type} {o : Option α} {s : State} {f : α → State} (ok : TablesOk s) (hf : ∀ x, TablesOk (f x)) : TablesOk (o.elim s f) := by
  cases o with
  | none => exact ok
  | some x => exact hf x

theorem optOk_none : OptOk none := by rintro _ ⟨⟩

theorem optOk_some {s : State} (h : TablesOk s) : OptOk (some s) := by rintro _ ⟨⟩; exact h

theorem outOk_next {s : State} (h : TablesOk s) : OutOk (.next s) := by rintro _ ⟨⟩; exact h

theorem outOk_fault {r} : OutOk (.fault r) := by rintro _ ⟨⟩

theorem ok_foldl {α : Type} {f : State → α → State} {l : List α} {s : State} (hf : ∀ s x, TablesOk s → TablesOk (f s x)) (h : TablesOk s) :
    TablesOk (l.foldl f s) := by
  induction l generalizing s with
  | nil => exact h
  | cons x l ih => exact ih (hf s x h)

theorem pairOk_foldl {α β : Type} {f : β × State → α → β × State} {l : List α}
    {s : β × State} (hf : ∀ s x, PairOk s → PairOk (f s x)) (h : PairOk s) :
    PairOk (l.foldl f s) := by
  induction l generalizing s with
  | nil => exact h
  | cons x l ih => exact ih (hf s x h)

theorem fstOk_foldl {α β : Type} {f : State × β → α → State × β} {l : List α} {s : State × β} (hf : ∀ s x, FstOk s → FstOk (f s x)) (h : FstOk s) :
    FstOk (l.foldl f s) := by
  induction l generalizing s with
  | nil => exact h
  | cons x l ih => exact ih (hf s x h)

theorem ok_of_pair {α : Type} {r : α × State} {a : α} {s : State} (e : r = (a, s)) (h : PairOk r) : TablesOk s := by subst e; exact h

theorem ok_of_fst {α : Type} {r : State × α} {a : α} {s : State} (e : r = (s, a)) (h : FstOk r) : TablesOk s := by subst e; exact h

theorem ok_of_triple {α β : Type} {r : α × β × State} {a : α} {b : β}
    {s : State} (e : r = (a, b, s)) (h : TripleOk r) : TablesOk s := by subst e; exact h

theorem ok_getD {o : Option State} {s : State} (ho : OptOk o) (h : TablesOk s) : TablesOk (o.getD s) := by
  cases o with
  | none => exact h
  | some t => exact ho t rfl

/-- A register write keeps the tables (`tabWf_tabSet`). -/
theorem tablesOk_setReg {s : State} {a v : Nat} (h : TablesOk s) : TablesOk (s.setReg a v) := by
  unfold TablesOk State.tablesWf at *
  simp only [Bool.and_eq_true] at *
  exact ⟨tabWf_tabSet (fun a => BitVec.ofNat 64 (regReset a)) a _ s.regs h.1, h.2⟩

/-- A state with the registers of `s` and a memory as canonical as its own. -/
theorem tablesOk_of_mem {s t : State}
    (h : TablesOk s) (hr : t.regs = s.regs) (hm : Memory.wf s.mem = true → Memory.wf t.mem = true) : TablesOk t := by
  simp only [TablesOk, State.tablesWf, State.regsWf, State.memWf, Bool.and_eq_true] at *
  exact ⟨hr ▸ h.1, hm h.2⟩

/-- A memory write keeps the tables (`Memory.wf_writeBytes`). -/
theorem tablesOk_writeBytes {s : State} {t a : Nat} {bs : Bytes} (h : TablesOk s) : TablesOk (s.writeBytes t a bs) :=
  tablesOk_of_mem h rfl (Memory.wf_writeBytes s t a bs)

/-- A state with other fields than the register file and memory changed. -/
theorem tablesOk_with {s : State} {pending : List Instr} {fresh : Nat} {out : List Output} {now : Nat} {latch : Tab W32} {shadow : Tab W64}
    {beat : BeatState} {time : TimeState} {sessions : List Session} {windows : List Window} {jobs : List Job} {ports : PortState} {hc : HcState}
    {mt : MatchState} {tm : TmState} {dataKey : Tab Nat} {signer : Tab Bytes} {models : Tab Selector} {flow : FlowState} {cells : Tab CellX}
    {copies : CopyState} {fabric : FabricState} {group : GroupState} {bridge : BridgeState} {obs : ObsState} {integ : IntegState}
    {power : PowerState} {module : ModuleState} {fw : FwState} {secure : SecState} (ok : TablesOk s) :
    TablesOk { s with
      pending, fresh, out, now, latch, shadow, beat, time, sessions, windows, jobs, ports,
      hc, mt, tm, dataKey, signer, models, flow, cells, copies, fabric, group, bridge,
      obs, integ, power, module, fw, secure } := ok

/-- Also the key places, windows and retired pages of memory do not touch the tables. -/
theorem tablesOk_withMem {s : State} {pending : List Instr} {fresh : Nat} {out : List Output} {now : Nat} {latch : Tab W32} {shadow : Tab W64}
    {beat : BeatState} {time : TimeState} {sessions : List Session} {windows : List Window} {jobs : List Job} {ports : PortState} {hc : HcState}
    {mt : MatchState} {tm : TmState} {dataKey : Tab Nat} {signer : Tab Bytes} {models : Tab Selector} {flow : FlowState} {cells : Tab CellX}
    {copies : CopyState} {fabric : FabricState} {group : GroupState} {bridge : BridgeState} {obs : ObsState} {integ : IntegState}
    {power : PowerState} {module : ModuleState} {fw : FwState} {secure : SecState} {keyOf : Tab Nat} {wins : Tab MemWindow}
    {retired : List (Nat × Nat)} (ok : TablesOk s) :
    TablesOk { s with
      pending, fresh, out, now, latch, shadow, beat, time, sessions, windows, jobs, ports,
      hc, mt, tm, dataKey, signer, models, flow, cells, copies, fabric, group, bridge,
      obs, integ, power, module, fw, secure, mem := ⟨s.mem.bytes, keyOf, wins, retired⟩ } := ok

/-! The functions of `Machine/Base` -/

theorem tablesOk_setField {s : State} {a lo w x : Nat} (ok : TablesOk s) : TablesOk (State.setField s a lo w x) :=
  tablesOk_setReg ok

theorem tablesOk_setFlag {s : State} {a i : Nat} {b : Bool} (ok : TablesOk s) : TablesOk (State.setFlag s a i b) :=
  tablesOk_setField ok

theorem tablesOk_bump32 {s : State} {a n : Nat} (ok : TablesOk s) : TablesOk (State.bump32 s a n) :=
  tablesOk_setReg ok

theorem tablesOk_bump64 {s : State} {a n : Nat} (ok : TablesOk s) : TablesOk (State.bump64 s a n) :=
  tablesOk_setReg ok

theorem tablesOk_raise {s : State} {a v : Nat} (ok : TablesOk s) : TablesOk (State.raise s a v) :=
  ok_ite (fun _ => tablesOk_setReg ok) (fun _ => ok)

theorem tablesOk_draw {s : State} {topic : Nat} (ok : TablesOk s) : PairOk (State.draw s topic) :=
  tablesOk_with ok

theorem tablesOk_drawBytes {s : State} {topic len : Nat} (ok : TablesOk s) : PairOk (State.drawBytes s topic len) :=
  tablesOk_with ok

theorem tablesOk_deviceBeat {s : State} {least : Nat} (ok : TablesOk s) : PairOk (State.deviceBeat s least) :=
  tablesOk_with ok

theorem tablesOk_emit {s : State} {o : Output} (ok : TablesOk s) : TablesOk (State.emit s o) :=
  tablesOk_with ok

theorem tablesOk_advance {t : Nat} {s : State} (ok : TablesOk s) : TablesOk (advance t s) :=
  tablesOk_with ok

/-! The functions of `Machine/Route` -/

theorem tablesOk_recordSend {p : Nat} {k : FabPkt} {s : State} (ok : TablesOk s) : TablesOk (recordSend p k s) :=
  ok_ite (fun _ => tablesOk_with ok) (fun _ => ok)

theorem tablesOk_putOut {p : Nat} {k routed : FabPkt} {s : State} (ok : TablesOk s) : TablesOk (putOut p k routed s) :=
  tablesOk_emit (tablesOk_recordSend (tablesOk_bump64 (tablesOk_with ok)))

theorem tablesOk_takeSeq {h : Header} {n : Nat} {s : State} (ok : TablesOk s) : PairOk (takeSeq h n s) :=
  tablesOk_with ok

theorem tablesOk_sendCredit {p : Nat} {fields : List Nat} {s : State} (ok : TablesOk s) : TablesOk (sendCredit p fields s) :=
  tablesOk_putOut (tablesOk_takeSeq ok)

theorem tablesOk_returnCredit {p vc cls n : Nat} {s : State} (ok : TablesOk s) : TablesOk (returnCredit p vc cls n s) :=
  ok_ite (fun _ => ok) (fun _ => ok_foldl (fun _ _ h1 => tablesOk_sendCredit h1) (tablesOk_with ok))

theorem tablesOk_transmit {p : Nat} {k routed : FabPkt} {s : State} (ok : TablesOk s) : TablesOk (transmit p k routed s) := by
  unfold transmit
  dsimp only
  split
  · exact ok_unless (tablesOk_putOut (tablesOk_with ok)) (fun h1 => tablesOk_returnCredit h1)
  · exact tablesOk_putOut (tablesOk_with ok)

theorem tablesOk_routeFrom {src : Nat} {k : FabPkt} {s : State} (ok : TablesOk s) : TablesOk (routeFrom src k s) := by
  unfold routeFrom
  split
  · exact ok_ite (fun _ => tablesOk_transmit ok) (fun _ => tablesOk_with ok)
  · exact tablesOk_with ok
  · split
    · exact ok_unless (tablesOk_bump32 ok) (fun h1 => tablesOk_returnCredit h1)
    · exact tablesOk_bump32 ok
  · exact ok

theorem tablesOk_route {k : FabPkt} {s : State} (ok : TablesOk s) : TablesOk (route k s) :=
  tablesOk_routeFrom ok

theorem tablesOk_routeHeld {s : State} (ok : TablesOk s) : TablesOk (routeHeld s) :=
  ok_foldl (fun _ _ h1 => tablesOk_route h1) (tablesOk_with ok)

theorem tablesOk_sendRaw {h : Header} {data : List W256} {s : State} (ok : TablesOk s) : TablesOk (sendRaw h data s) :=
  tablesOk_routeFrom (tablesOk_takeSeq ok)

theorem tablesOk_sendCmd {dst : Nat} {packet : Bytes} {s : State} (ok : TablesOk s) : TablesOk (sendCmd dst packet s) :=
  tablesOk_sendRaw ok

/-! The functions of `Machine/Ops` -/

theorem tablesOk_updSession {s : State} {id : Nat} {f : Session → Session} (ok : TablesOk s) : TablesOk (State.updSession s id f) :=
  tablesOk_with ok

theorem tablesOk_signal {v : Nat} {s : State} (ok : TablesOk s) : TablesOk (signal v s) :=
  ok_ite (fun _ => tablesOk_with ok) (fun _ => tablesOk_emit ok)

theorem tablesOk_ringPacket {opcode : Nat} {packet : Bytes} {out : Output}
    {s : State} (ok : TablesOk s) : TablesOk (ringPacket opcode packet out s) :=
  ok_ite (fun _ => tablesOk_bump32 ok) (fun _ => tablesOk_signal (tablesOk_emit (tablesOk_with ok)))

theorem tablesOk_sendEvent {x : Session} {s : State} {q : Nat × Event} (ok : TablesOk s) : TablesOk (sendEvent x s q) := by
  unfold sendEvent
  refine tablesOk_bump64 ?_
  split
  · exact tablesOk_ringPacket ok
  · exact tablesOk_sendCmd (tablesOk_emit ok)
  · exact tablesOk_emit ok

theorem tablesOk_sendEvents {s : State} (ok : TablesOk s) : TablesOk (sendEvents s) :=
  ok_foldl (fun _ _ h1 => ok_foldl (fun _ _ h2 => tablesOk_sendEvent h2) h1) (tablesOk_with ok)

theorem tablesOk_traceEvent {opcode : Nat} {s : State} (ok : TablesOk s) : TablesOk (traceEvent opcode s) := by
  unfold traceEvent
  split
  · exact ok_ite (fun _ => tablesOk_with ok) (fun _ => ok)
  · exact ok

theorem tablesOk_deliverTo {sel : Session → Bool} {e : Event} {s : State} (ok : TablesOk s) : TablesOk (deliverTo sel e s) :=
  tablesOk_sendEvents (tablesOk_bump32 (tablesOk_with ok))

theorem tablesOk_deliver {e : Event} {s : State} (ok : TablesOk s) : TablesOk (deliver e s) :=
  tablesOk_deliverTo (tablesOk_traceEvent ok)

theorem tablesOk_raiseEvent {s : State} {opcode tenant : Nat} {body : List Nat}
    {region : Nat} (ok : TablesOk s) : TablesOk (State.raiseEvent s opcode tenant body region) :=
  tablesOk_deliver ok

theorem tablesOk_raiseAmong {s : State} {opcode : Nat} {body : List Nat}
    {tenants : List (Nat × List Nat)} (ok : TablesOk s) : TablesOk (State.raiseAmong s opcode body tenants) :=
  ok_foldl (fun _ _ h1 => tablesOk_deliverTo h1) (tablesOk_raiseEvent ok)

theorem tablesOk_raiseFor {s : State} {opcode tenant session tag status : Nat} {body : List Nat}
    {region : Nat} (ok : TablesOk s) : TablesOk (State.raiseFor s opcode tenant session tag status body region) :=
  tablesOk_deliver ok

theorem tablesOk_closeWindow {opcode key : Nat} {s : State} (ok : TablesOk s) : TablesOk (closeWindow opcode key s) := by
  unfold closeWindow
  split
  · exact ok
  · exact tablesOk_deliver (tablesOk_with ok)

theorem tablesOk_coalesce {e : Event} {key length : Nat} {merge : List Nat → List Nat → List Nat}
    {s : State} (ok : TablesOk s) : TablesOk (coalesce e key length merge s) := by
  unfold coalesce
  split
  · exact ok_ite (fun _ => tablesOk_with ok) (fun _ => tablesOk_with (tablesOk_closeWindow ok))
  · exact tablesOk_with ok

theorem tablesOk_coalesceEvent {s : State} {opcode tenant key length : Nat} {body : List Nat}
    {region : Nat} (ok : TablesOk s) : TablesOk (State.coalesceEvent s opcode tenant key length body region) :=
  tablesOk_coalesce ok

theorem tablesOk_noteUncorr {s : State} {place index : Nat} (ok : TablesOk s) : TablesOk (State.noteUncorr s place index) :=
  tablesOk_coalesceEvent ok

theorem tablesOk_refuse {c : Nat} {s : State} (ok : TablesOk s) : PairOk (refuse c s) :=
  ok

theorem tablesOk_ownerOnly {f : CmdFn} {e : Env} {p : Bytes}
    {s : State} (hf : ∀ x0 x1 x2, TablesOk x2 → PairOk (f x0 x1 x2)) (ok : TablesOk s) : PairOk (ownerOnly f e p s) :=
  pairOk_ite (fun _ => hf _ _ _ ok) (fun _ => tablesOk_refuse ok)

/-! The functions of `Machine/Memory` -/

theorem tablesOk_countHbm {write : Bool} {a n : Nat} {s : State} (ok : TablesOk s) : TablesOk (countHbm write a n s) :=
  ok_foldl (fun _ _ h1 => tablesOk_bump64 h1) ok

theorem tablesOk_storeBytes {s : State} {t a : Nat} {bs : Bytes} (ok : TablesOk s) : TablesOk (State.storeBytes s t a bs) :=
  tablesOk_countHbm (tablesOk_writeBytes ok)

/-! The functions of `Machine/Beat` -/

theorem tablesOk_updJob {s : State} {tenant id : Nat} {f : Job → Job} (ok : TablesOk s) : TablesOk (State.updJob s tenant id f) :=
  tablesOk_with ok

theorem tablesOk_latchCalms {s : State} (ok : TablesOk s) : TablesOk (latchCalms s) :=
  tablesOk_with ok

theorem tablesOk_bumpCells {f : Nat → Nat} {cs : List Nat} {s : State} (ok : TablesOk s) : TablesOk (bumpCells f cs s) :=
  ok_foldl (fun _ _ h1 => tablesOk_bump64 h1) ok

theorem tablesOk_deliverBulk {k : Nat} {s : State} (ok : TablesOk s) : TablesOk (deliverBulk k s) :=
  ok_ite (fun _ => ok) (fun _ => ok_ite (fun _ => tablesOk_bumpCells (tablesOk_with ok)) (fun _ => tablesOk_bump64 (tablesOk_with ok)))

theorem tablesOk_deliverInline {k : Nat} {s : State} (ok : TablesOk s) : TablesOk (deliverInline k s) :=
  ok_ite (fun _ => ok) (fun _ => ok_ite (fun _ => tablesOk_bumpCells (tablesOk_with ok)) (fun _ => tablesOk_bump64 (tablesOk_with ok)))

theorem tablesOk_endRamps {s : State} (ok : TablesOk s) : TablesOk (endRamps s) :=
  ok_foldl (fun _ _ h1 => tablesOk_setFlag h1) (ok_foldl (fun _ _ h2 => tablesOk_setFlag h2) (tablesOk_with ok))

theorem tablesOk_deliverBeat {s : State} (ok : TablesOk s) : TablesOk (deliverBeat s) :=
  tablesOk_endRamps (tablesOk_bumpCells (ok_foldl (fun _ _ h1 => tablesOk_deliverInline (tablesOk_deliverBulk h1)) (tablesOk_with ok)))

theorem tablesOk_reattachSpokes {s : State} (ok : TablesOk s) : TablesOk (reattachSpokes s) :=
  ok_foldl (fun _ _ h1 => ok_when (tablesOk_setFlag h1) (fun h2 => tablesOk_setReg (tablesOk_setFlag h2))) (tablesOk_with ok)

theorem tablesOk_alignGroup {t : Nat} {s : State} (ok : TablesOk s) : TablesOk (alignGroup t s) :=
  tablesOk_setField ok

theorem tablesOk_reschedule {t : Nat} {stretched : Bool} {s : State} (ok : TablesOk s) : TablesOk (reschedule t stretched s) :=
  ok_ite (fun _ => tablesOk_setFlag (tablesOk_setFlag (tablesOk_with ok))) (fun _ => ok_ite (fun _ =>
      tablesOk_setFlag (tablesOk_setFlag (tablesOk_with ok))) (fun _ => ok_ite (fun _ =>
      tablesOk_raiseEvent (tablesOk_setFlag (tablesOk_bump32 (tablesOk_setFlag (tablesOk_setFlag (tablesOk_with (tablesOk_setFlag (tablesOk_setFlag
      (ok_when (tablesOk_with ok) (fun h1 => tablesOk_alignGroup h1)))))))))) (fun _ =>
      ok_when (tablesOk_setFlag (tablesOk_setFlag (ok_when (tablesOk_with ok) (fun h3 => tablesOk_alignGroup h3)))) (fun h2 =>
      tablesOk_raiseEvent h2))))

theorem tablesOk_issueBeat {t : Nat} {late lateCells : List Nat} {s : State} (ok : TablesOk s) : TablesOk (issueBeat t late lateCells s) :=
  tablesOk_reattachSpokes (tablesOk_deliverBeat (tablesOk_latchCalms (ok_when (tablesOk_reschedule (ok_when (ok_when (tablesOk_with
      (tablesOk_bump64 ok)) (fun h3 => ok_when (tablesOk_bumpCells (tablesOk_bump64 h3)) (fun h4 => tablesOk_coalesce h4))) (fun h2 =>
      tablesOk_coalesceEvent (tablesOk_setFlag (tablesOk_bump32 h2))))) (fun h1 =>
      tablesOk_setReg (tablesOk_setReg (tablesOk_setReg (tablesOk_with h1)))))))

theorem outOk_execBeatIssue {t : Nat} {late lateCells : List Nat} {s : State} (ok : TablesOk s) : OutOk (execBeatIssue t late lateCells s) :=
  outOk_next (ok_ite (fun _ => tablesOk_issueBeat (tablesOk_advance ok)) (fun _ => ok))

theorem outOk_execStreamHang {t : Nat} {s : State} (ok : TablesOk s) : OutOk (execStreamHang t s) :=
  outOk_next (ok_ite (fun _ => tablesOk_raiseEvent (tablesOk_advance ok)) (fun _ => ok))

theorem tablesOk_showHalt {k : Nat} {s : State} (ok : TablesOk s) : TablesOk (showHalt k s) :=
  ok_foldl (fun _ _ h1 => tablesOk_setFlag h1) (tablesOk_setFlag (tablesOk_setFlag ok))

theorem tablesOk_setCauses {k : Nat} {l : List HaltCause} {s : State} (ok : TablesOk s) : TablesOk (setCauses k l s) :=
  tablesOk_showHalt (tablesOk_with ok)

theorem tablesOk_haltClusters {why : HaltCause} {ks : List Nat} {s : State} (ok : TablesOk s) : TablesOk (haltClusters why ks s) :=
  tablesOk_with (ok_foldl (fun _ _ h1 => tablesOk_setCauses h1) ok)

theorem tablesOk_unhaltClusters {whys : List HaltCause} {ks : List Nat} {s : State} (ok : TablesOk s) : TablesOk (unhaltClusters whys ks s) :=
  ok_foldl (fun _ _ h1 => tablesOk_setCauses h1) ok

theorem tablesOk_releaseGust {g : GustSequence} {s : State} (ok : TablesOk s) : TablesOk (releaseGust g s) :=
  tablesOk_with (ok_foldl (fun _ _ h1 => tablesOk_setFlag (tablesOk_setFlag h1)) (ok_ite (fun _ => ok) (fun _ => ok_foldl (fun _ _ h2 =>
      ok_ite (fun _ => h2) (fun _ => tablesOk_with (tablesOk_setReg h2))) ok)))

theorem tablesOk_startRelease {inl : Bool} {cells : List Nat} {s : State} (ok : TablesOk s) : TablesOk (startRelease inl cells s) := by
  unfold startRelease
  split
  · exact ok
  · exact tablesOk_releaseGust (tablesOk_with ok)

theorem tablesOk_activateBank {c : Nat} {s : State} (ok : TablesOk s) : TablesOk (activateBank c s) :=
  ok_ite (fun _ => tablesOk_setReg ok) (fun _ => ok)

theorem tablesOk_releaseJob {j : Job} {ks : List Nat} {s : State} (ok : TablesOk s) : TablesOk (releaseJob j ks s) :=
  tablesOk_startRelease (ok_ite (fun _ => ok) (fun _ => ok_foldl (fun _ _ h1 => tablesOk_activateBank h1) ok))

theorem outOk_execGustRelease {t id : Nat} {s : State} (ok : TablesOk s) : OutOk (execGustRelease t id s) := by
  unfold execGustRelease
  refine outOk_next ?_
  split
  · exact ok_ite (fun _ => tablesOk_releaseGust (tablesOk_advance ok)) (fun _ => ok)
  · exact ok

theorem tablesOk_wrHaltMask {v : Nat} {s : State} (ok : TablesOk s) : PairOk (wrHaltMask v s) :=
  pairOk_ite (fun _ => ok) (fun _ => pairOk_ite (fun _ => ok) (fun _ => tablesOk_with (tablesOk_setReg ok)))

theorem tablesOk_wrResumeMask {v : Nat} {s : State} (ok : TablesOk s) : PairOk (wrResumeMask v s) :=
  pairOk_ite (fun _ => ok) (fun _ => tablesOk_with (tablesOk_setReg ok))

theorem tablesOk_setJobState {tenant id st status : Nat} {s : State} (ok : TablesOk s) : TablesOk (setJobState tenant id st status s) := by
  unfold setJobState
  split
  · exact ok
  · exact ok_unless (tablesOk_updJob ok) (fun h1 => tablesOk_raiseEvent h1)

theorem tablesOk_tellHalted {before s : State} (ok : TablesOk before) (ok : TablesOk s) : TablesOk (tellHalted before s) :=
  ok_foldl (fun _ _ h1 => tablesOk_raiseEvent h1) ok

theorem tablesOk_moveJobs {ks : List Nat} {a b : Nat} {s : State} (ok : TablesOk s) : TablesOk (moveJobs ks a b s) :=
  ok_foldl (fun _ _ h1 => tablesOk_setJobState h1) ok

theorem outOk_execClusterHalt {t : Nat} {s : State} (ok : TablesOk s) : OutOk (execClusterHalt t s) := by
  unfold execClusterHalt
  refine outOk_next ?_
  split
  · exact ok_ite (fun _ => tablesOk_moveJobs (tablesOk_tellHalted ok (tablesOk_haltClusters (tablesOk_with (tablesOk_advance ok))))) (fun _ => ok)
  · exact ok

theorem tablesOk_resumeClusters {ks : List Nat} {s : State} (ok : TablesOk s) : TablesOk (resumeClusters ks s) :=
  tablesOk_startRelease (ok_foldl (fun _ _ h1 => tablesOk_releaseJob h1) (tablesOk_moveJobs (tablesOk_tellHalted ok (tablesOk_unhaltClusters ok))))

theorem outOk_execClusterResume {t : Nat} {s : State} (ok : TablesOk s) : OutOk (execClusterResume t s) := by
  unfold execClusterResume
  refine outOk_next ?_
  split
  · exact ok_ite (fun _ => tablesOk_resumeClusters (tablesOk_with (tablesOk_advance ok))) (fun _ => ok)
  · exact ok

theorem tablesOk_wrBeatCtrl {v : Nat} {s : State} (ok : TablesOk s) : PairOk (wrBeatCtrl v s) :=
  pairOk_ite (fun _ => ok) (fun _ => pairOk_ite (fun _ => ok) (fun _ => pairOk_ite (fun _ => tablesOk_setReg ok) (fun _ =>
      tablesOk_with (tablesOk_setReg ok))))

theorem tablesOk_wrBeatRateTarget {v : Nat} {s : State} (ok : TablesOk s) : PairOk (wrBeatRateTarget v s) :=
  pairOk_ite (fun _ => ok) (fun _ => pairOk_ite (fun _ => ok) (fun _ => ok_when (tablesOk_setReg ok) (fun h1 => tablesOk_with h1)))

theorem tablesOk_wrSpokeReattach {v : Nat} {s : State} (ok : TablesOk s) : PairOk (wrSpokeReattach v s) :=
  tablesOk_with ok

theorem tablesOk_wrSnap {v : Nat} {s : State} (ok : TablesOk s) : PairOk (wrSnap v s) :=
  ok_ite (fun _ => tablesOk_with ok) (fun _ => ok)

theorem tablesOk_wrGustCtrl {v : Nat} {s : State} (ok : TablesOk s) : PairOk (wrGustCtrl v s) :=
  pairOk_ite (fun _ => ok) (fun _ => tablesOk_setReg ok)

theorem tablesOk_wrTimeCtrl {v : Nat} {s : State} (ok : TablesOk s) : PairOk (wrTimeCtrl v s) :=
  pairOk_ite (fun _ => ok) (fun _ => ok_unless (tablesOk_setReg ok) (fun h1 => tablesOk_with h1))

theorem tablesOk_stepTime {dns : Int} {s : State} (ok : TablesOk s) : TablesOk (stepTime dns s) :=
  tablesOk_raiseEvent (tablesOk_with ok)

theorem tablesOk_wrTimeStepNs {v : Nat} {s : State} (ok : TablesOk s) : PairOk (wrTimeStepNs v s) :=
  pairOk_ite (fun _ => tablesOk_stepTime ok) (fun _ => ok)

theorem tablesOk_wrTimeFreqAdj {v : Nat} {s : State} (ok : TablesOk s) : PairOk (wrTimeFreqAdj v s) :=
  pairOk_ite (fun _ => ok) (fun _ => tablesOk_setReg ok)

theorem tablesOk_servoState {offsetNs : Int} {s : State} (ok : TablesOk s) : TablesOk (servoState offsetNs s) :=
  tablesOk_with (tablesOk_setField ok)

theorem tablesOk_correctTime {offsetNs : Int} {s : State} (ok : TablesOk s) : TablesOk (correctTime offsetNs s) :=
  ok_ite (fun _ => tablesOk_stepTime (tablesOk_with ok)) (fun _ => tablesOk_with ok)

theorem tablesOk_holdover {s : State} (ok : TablesOk s) : TablesOk (holdover s) :=
  tablesOk_with (tablesOk_raiseEvent (tablesOk_setField ok))

theorem outOk_execTimeSourceLost {t : Nat} {s : State} (ok : TablesOk s) : OutOk (execTimeSourceLost t s) :=
  outOk_next (ok_ite (fun _ => ok) (fun _ => tablesOk_holdover (tablesOk_advance ok)))

theorem outOk_execPpsInEdge {t widthNs : Nat} {s : State} (ok : TablesOk s) : OutOk (execPpsInEdge t widthNs s) :=
  outOk_next (ok_ite (fun _ => ok) (fun _ => ok_when (tablesOk_with (tablesOk_advance ok)) (fun h1 => tablesOk_correctTime (tablesOk_servoState h1))))

theorem outOk_execPpsOutPulse {t : Nat} {s : State} (ok : TablesOk s) : OutOk (execPpsOutPulse t s) :=
  outOk_next (ok_ite (fun _ => tablesOk_emit (tablesOk_advance ok)) (fun _ => ok))

/-! The functions of `Machine/Queues` -/

theorem tablesOk_setQueue {s : State} {q : Nat} {fs : List QFrame} (ok : TablesOk s) : TablesOk (State.setQueue s q fs) :=
  tablesOk_with ok

theorem tablesOk_setActiveQ {s : State} {L : Nat} {l : List Nat} (ok : TablesOk s) : TablesOk (State.setActiveQ s L l) :=
  tablesOk_with ok

theorem tablesOk_rejoin {L : Nat} {s : State} (ok : TablesOk s) : TablesOk (rejoin L s) :=
  ok_ite (fun _ => ok) (fun _ => tablesOk_setActiveQ ok)

theorem tablesOk_rejoinAll {s : State} (ok : TablesOk s) : TablesOk (rejoinAll s) :=
  ok_foldl (fun _ _ h1 => tablesOk_rejoin h1) ok

/-! The functions of `Machine/Ports` -/

theorem tablesOk_updPacket {s : State} {id : Nat} {f : Pkt → Pkt} (ok : TablesOk s) : TablesOk (State.updPacket s id f) :=
  tablesOk_with ok

theorem tablesOk_receivePause {p k L : Nat} {pause : Bool} {enables : Nat} {times : List Nat}
    {s : State} (ok : TablesOk s) : TablesOk (receivePause p k L pause enables times s) :=
  tablesOk_rejoin (ok_ite (fun _ => ok_when (tablesOk_bump32 ok) (fun h1 => tablesOk_with h1)) (fun _ => ok_foldl (fun _ _ h2 =>
      ok_when (tablesOk_bump32 h2) (fun h3 => tablesOk_with h3)) ok))

theorem tablesOk_putPause {p k L : Nat} {pause : Bool} {enables : Nat} {times : List Nat}
    {s : State} (ok : TablesOk s) : TablesOk (putPause p k L pause enables times s) :=
  ok_ite (fun _ => tablesOk_receivePause ok) (fun _ => ok_ite (fun _ => tablesOk_emit ok) (fun _ => ok))

theorem tablesOk_sendPfc {p k L prio q : Nat} {s : State} (ok : TablesOk s) : TablesOk (sendPfc p k L prio q s) :=
  ok_ite (fun _ => ok) (fun _ => ok_ite (fun _ => tablesOk_putPause (tablesOk_bump32 ok)) (fun _ => tablesOk_putPause (tablesOk_bump32 ok)))

theorem tablesOk_xoffRise {p k L prio : Nat} {s : State} (ok : TablesOk s) : TablesOk (xoffRise p k L prio s) :=
  ok_ite (fun _ => tablesOk_with (tablesOk_sendPfc ok)) (fun _ => ok)

theorem tablesOk_xonFall {p k L prio : Nat} {s : State} (ok : TablesOk s) : TablesOk (xonFall p k L prio s) :=
  ok_ite (fun _ => tablesOk_with (tablesOk_sendPfc ok)) (fun _ => ok)

theorem tablesOk_pfcUpdate {L : Nat} {prio : Option Nat} {s : State} (ok : TablesOk s) : TablesOk (pfcUpdate L prio s) := by
  unfold pfcUpdate
  split
  · exact ok
  · refine ok_foldl (fun _ _ h1 => ?_) ok
    split
    · exact ok_ite (fun _ => tablesOk_xoffRise h1) (fun _ => h1)
    · exact tablesOk_xonFall h1

theorem tablesOk_takePage {p k L prio id : Nat} {s : State} (ok : TablesOk s) : OptOk (takePage p k L prio id s) :=
  optOk_ite (fun _ => optOk_none) (fun _ => optOk_ite (fun _ => optOk_some (tablesOk_pfcUpdate (tablesOk_updPacket ok))) (fun _ =>
      optOk_ite (fun _ => optOk_some (tablesOk_pfcUpdate (tablesOk_updPacket ok))) (fun _ => optOk_ite (fun _ =>
      optOk_some (tablesOk_pfcUpdate (tablesOk_updPacket ok))) (fun _ => optOk_none))))

theorem tablesOk_takePages {p k L prio id n d : Nat} {s : State} (ok : TablesOk s) : FstOk (takePages p k L prio id n d s) := by
  induction n generalizing d s with
  | zero => exact ok
  | succ n ih =>
    unfold takePages
    split
    · rename_i heq
      exact ih (tablesOk_takePage ok _ heq)
    · exact ok

theorem tablesOk_checkRetire {s : State} (ok : TablesOk s) : TablesOk (checkRetire s) :=
  ok_ite (fun _ => tablesOk_with (tablesOk_setFlag ok)) (fun _ => ok)

theorem tablesOk_freePacket {id : Nat} {s : State} (ok : TablesOk s) : TablesOk (freePacket id s) := by
  unfold freePacket
  split
  · exact ok
  · exact tablesOk_checkRetire (tablesOk_pfcUpdate (tablesOk_with ok))

theorem tablesOk_setFifo {s : State} {f : Nat} {x : Fifo} (ok : TablesOk s) : TablesOk (State.setFifo s f x) :=
  tablesOk_with ok

theorem tablesOk_commitPacket {f : Nat} {q : FifoPkt} {s : State} (ok : TablesOk s) : TablesOk (commitPacket f q s) :=
  tablesOk_raise (tablesOk_bump64 (tablesOk_setFifo ok))

theorem tablesOk_rewindPacket {f : Nat} {full : Bool} {n : Nat} {s : State} (ok : TablesOk s) : TablesOk (rewindPacket f full n s) :=
  ok_when (tablesOk_raise (tablesOk_bump32 ok)) (fun h1 => tablesOk_bump32 h1)

theorem tablesOk_overflowPacket {f : Nat} {s : State} (ok : TablesOk s) : TablesOk (overflowPacket f s) :=
  tablesOk_rewindPacket ok

theorem tablesOk_noteRead {f : Nat} {r : FifoRead} {s : State} (ok : TablesOk s) : TablesOk (noteRead f r s) :=
  ok_when (tablesOk_bump32 ok) (fun h1 => tablesOk_noteUncorr (tablesOk_bump32 (tablesOk_bump32 h1)))

theorem tablesOk_popFifo {f : Nat} {s : State} (ok : TablesOk s) : TablesOk (popFifo f s) :=
  tablesOk_setFifo ok

theorem tablesOk_dropRest {f : Nat} {s : State} (ok : TablesOk s) : TablesOk (dropRest f s) :=
  ok_ite (fun _ => tablesOk_bump32 (tablesOk_popFifo ok)) (fun _ => ok)

theorem tablesOk_wrDropRest {f v : Nat} {s : State} (ok : TablesOk s) : PairOk (wrDropRest f v s) :=
  ok_ite (fun _ => tablesOk_dropRest ok) (fun _ => ok)

theorem tablesOk_commitFrame {p k L id len : Nat} {s : State} (ok : TablesOk s) : TablesOk (commitFrame p k L id len s) :=
  tablesOk_commitPacket (tablesOk_bump64 (tablesOk_bump64 (tablesOk_updPacket ok)))

theorem tablesOk_intakeFrame {p k L : Nat} {fr : Bytes} {fin : FrameEnd} {pcs : Option Nat}
    {s : State} (ok : TablesOk s) : TablesOk (intakeFrame p k L fr fin pcs s) := by
  unfold intakeFrame
  refine ok_ite (fun _ => ok) (fun _ => ?_)
  refine ok_ite (fun _ => tablesOk_rewindPacket (ok_elim ok (fun _ => tablesOk_freePacket ok))) (fun _ => ?_)
  dsimp only
  split
  · exact tablesOk_rewindPacket (tablesOk_bump64 (tablesOk_freePacket (tablesOk_takePages (ok_ite (fun _ => tablesOk_updPacket ok) (fun _ =>
      tablesOk_with ok)))))
  · exact ok_ite (fun _ => tablesOk_raise (tablesOk_takePages (ok_ite (fun _ => tablesOk_updPacket ok) (fun _ => tablesOk_with ok)))) (fun _ =>
      tablesOk_commitFrame (tablesOk_takePages (ok_ite (fun _ => tablesOk_updPacket ok) (fun _ => tablesOk_with ok))))

theorem tablesOk_receiveFrame {L : Nat} {fr : Bytes} {fin : FrameEnd} {pcs : Option Nat}
    {s : State} (ok : TablesOk s) : TablesOk (receiveFrame L fr fin pcs s) := by
  unfold receiveFrame
  split
  · exact ok
  · exact ok_ite (fun _ => ok) (fun _ => ok_ite (fun _ => ok) (fun _ => ok_ite (fun _ => ok_ite (fun _ => tablesOk_receivePause ok) (fun _ =>
      tablesOk_receivePause ok)) (fun _ => tablesOk_intakeFrame ok)))

theorem outOk_execFrameReceive {t L : Nat} {fr : Bytes} {fin : FrameEnd} {pcs : Option Nat}
    {s : State} (ok : TablesOk s) : OutOk (execFrameReceive t L fr fin pcs s) :=
  outOk_next (tablesOk_receiveFrame (tablesOk_advance ok))

theorem outOk_execPfcRefresh {t L prio : Nat} {s : State} (ok : TablesOk s) : OutOk (execPfcRefresh t L prio s) := by
  unfold execPfcRefresh
  refine outOk_next ?_
  split
  · exact ok
  · exact ok_ite (fun _ => tablesOk_with (tablesOk_sendPfc (tablesOk_advance ok))) (fun _ => ok)

theorem outOk_execPfcFrameReceive {t L : Nat} {pause : Bool} {enables : Nat} {times : List Nat}
    {s : State} (ok : TablesOk s) : OutOk (execPfcFrameReceive t L pause enables times s) := by
  unfold execPfcFrameReceive
  refine outOk_next ?_
  split
  · exact ok
  · exact ok_ite (fun _ => tablesOk_receivePause (tablesOk_advance ok)) (fun _ => ok)

theorem tablesOk_commitIntake {f : Nat} {words : List W256} {s : State} (ok : TablesOk s) : TablesOk (commitIntake f words s) := by
  unfold commitIntake
  split
  · exact ok
  · refine ok_ite (fun _ => ok) (fun _ => ?_)
    dsimp only
    split
    · exact tablesOk_rewindPacket (tablesOk_bump64 (tablesOk_freePacket (tablesOk_takePages (tablesOk_with ok))))
    · exact tablesOk_commitFrame (tablesOk_takePages (tablesOk_with ok))

theorem tablesOk_rewindReceiving {p k f : Nat} {fcs : Bool} {s : State} (ok : TablesOk s) : TablesOk (rewindReceiving p k f fcs s) :=
  ok_foldl (fun _ _ h1 => ok_when (tablesOk_rewindPacket (tablesOk_freePacket h1)) (fun h2 => tablesOk_bump64 h2)) ok

theorem outOk_execLinkStateChange {t p k : Nat} {up : Bool} {lanes : Nat}
    {s : State} (ok : TablesOk s) : OutOk (execLinkStateChange t p k up lanes s) :=
  outOk_next (ok_ite (fun _ => tablesOk_setFlag (tablesOk_setFlag (tablesOk_setField (tablesOk_setFlag (ok_unless (tablesOk_advance ok) (fun h1 =>
      tablesOk_rewindReceiving h1)))))) (fun _ => ok))

theorem tablesOk_countSymbols {p : Nat} {symbols : List Nat} {s : State} (ok : TablesOk s) : TablesOk (countSymbols p symbols s) :=
  ok_foldl (fun _ _ h1 => tablesOk_bump32 h1) ok

theorem outOk_execHiSerUpdate {t p n m : Nat} {symbols : List Nat} {s : State} (ok : TablesOk s) : OutOk (execHiSerUpdate t p n m symbols s) :=
  outOk_next (ok_ite (fun _ => ok) (fun _ => tablesOk_setFlag (tablesOk_countSymbols (tablesOk_bump64 (tablesOk_bump64 (tablesOk_advance ok))))))

theorem tablesOk_wrPortCtrl {p v : Nat} {s : State} (ok : TablesOk s) : PairOk (wrPortCtrl p v s) :=
  pairOk_ite (fun _ => ok) (fun _ => pairOk_ite (fun _ => ok) (fun _ => pairOk_ite (fun _ => tablesOk_setReg ok) (fun _ => pairOk_ite (fun _ =>
      ok) (fun _ => ok_when (ok_foldl (fun _ _ h2 => tablesOk_rewindReceiving h2) (tablesOk_setField (tablesOk_setReg ok))) (fun h1 =>
      tablesOk_setFlag h1)))))

theorem tablesOk_wrSubPort {p k a v0 : Nat} {s : State} (ok : TablesOk s) : PairOk (wrSubPort p k a v0 s) :=
  pairOk_ite (fun _ => ok) (fun _ => pairOk_ite (fun _ => ok) (fun _ => pairOk_ite (fun _ => ok) (fun _ => pairOk_ite (fun _ => ok) (fun _ =>
      pairOk_ite (fun _ => ok) (fun _ => tablesOk_setReg ok)))))

theorem tablesOk_wrFifoCtrl {f v : Nat} {s : State} (ok : TablesOk s) : PairOk (wrFifoCtrl f v s) :=
  pairOk_ite (fun _ => ok) (fun _ => pairOk_ite (fun _ => ok) (fun _ => ok_unless (tablesOk_setReg ok) (fun h1 => tablesOk_rewindReceiving h1)))

/-! The functions of `Machine/Header` -/

theorem tablesOk_updCore {s : State} {n : Nat} {f : Core → Core} (ok : TablesOk s) : TablesOk (State.updCore s n f) :=
  tablesOk_with ok

theorem tablesOk_emitParsed {c : Core} {pstat : Nat} {bus : W1024} {q : Pkt}
    {s : State} (ok : TablesOk s) : TablesOk (emitParsed c pstat bus q s) := by
  unfold emitParsed
  refine tablesOk_checkRetire ?_
  split
  · exact tablesOk_bump32 (ok_when (tablesOk_raise (tablesOk_bump64 (tablesOk_bump64 (tablesOk_commitPacket (tablesOk_updCore
      (tablesOk_updPacket ok)))))) (fun h1 => tablesOk_bump32 h1))
  · exact ok_when (tablesOk_raise (tablesOk_bump64 (tablesOk_bump64 (tablesOk_commitPacket (tablesOk_updCore (tablesOk_updPacket ok))))))
      (fun h2 => tablesOk_bump32 h2)

theorem tablesOk_finishParse {c : Core} {pstat failPc : Nat} {s : State} (ok : TablesOk s) : TablesOk (finishParse c pstat failPc s) := by
  unfold finishParse
  refine ok_ite (fun _ => ok) (fun _ => ?_)
  split
  · exact ok
  · exact tablesOk_emitParsed ok

theorem tablesOk_hcRun {n word : Nat} {act : State → Core → HcOut} {s : State} (ok : TablesOk s) : TablesOk (hcRun n word act s) := by
  unfold hcRun
  split
  · exact ok
  · refine ok_ite (fun _ => ok) (fun _ => ?_)
    refine ok_ite (fun _ => tablesOk_finishParse ok) (fun _ => ?_)
    split
    · exact ok_ite (fun _ => tablesOk_finishParse ok) (fun _ => tablesOk_updCore ok)
    · exact tablesOk_updCore ok
    · exact tablesOk_finishParse ok

theorem outOk_execHcNop {n : Nat} {s : State} (ok : TablesOk s) : OutOk (execHcNop n s) :=
  outOk_next (tablesOk_hcRun ok)

theorem outOk_execHcLd {n d src sz : Nat} {x : Bool} {off : Nat} {s : State} (ok : TablesOk s) : OutOk (execHcLd n d src sz x off s) :=
  outOk_next (tablesOk_hcRun ok)

theorem outOk_execHcMovi {n d k imm : Nat} {s : State} (ok : TablesOk s) : OutOk (execHcMovi n d k imm s) :=
  outOk_next (tablesOk_hcRun ok)

theorem outOk_execHcAlu {n d src tgt fn : Nat} {s : State} (ok : TablesOk s) : OutOk (execHcAlu n d src tgt fn s) :=
  outOk_next (tablesOk_hcRun ok)

theorem outOk_execHcAlui {n d src fn imm : Nat} {s : State} (ok : TablesOk s) : OutOk (execHcAlui n d src fn imm s) :=
  outOk_next (tablesOk_hcRun ok)

theorem outOk_execHcExt {n d src pos wid : Nat} {s : State} (ok : TablesOk s) : OutOk (execHcExt n d src pos wid s) :=
  outOk_next (tablesOk_hcRun ok)

theorem outOk_execHcBr {n src tgt cond target : Nat} {s : State} (ok : TablesOk s) : OutOk (execHcBr n src tgt cond target s) :=
  outOk_next (tablesOk_hcRun ok)

theorem outOk_execHcBri {n src cond imm target : Nat} {s : State} (ok : TablesOk s) : OutOk (execHcBri n src cond imm target s) :=
  outOk_next (tablesOk_hcRun ok)

theorem outOk_execHcJmp {n target : Nat} {s : State} (ok : TablesOk s) : OutOk (execHcJmp n target s) :=
  outOk_next (tablesOk_hcRun ok)

theorem outOk_execHcDisp {n src tbl dflt : Nat} {s : State} (ok : TablesOk s) : OutOk (execHcDisp n src tbl dflt s) :=
  outOk_next (tablesOk_hcRun ok)

theorem outOk_execHcHdr {n src ty : Nat} {i : Bool} {immLen : Nat} {s : State} (ok : TablesOk s) : OutOk (execHcHdr n src ty i immLen s) :=
  outOk_next (tablesOk_hcRun ok)

theorem outOk_execHcAdv {n src : Nat} {i : Bool} {immLen : Nat} {s : State} (ok : TablesOk s) : OutOk (execHcAdv n src i immLen s) :=
  outOk_next (tablesOk_hcRun ok)

theorem outOk_execHcLen {n src : Nat} {strict base : Bool} {s : State} (ok : TablesOk s) : OutOk (execHcLen n src strict base s) :=
  outOk_next (tablesOk_hcRun ok)

theorem outOk_execHcFrag {n src tgt ipidx : Nat} {v6 : Bool} {s : State} (ok : TablesOk s) : OutOk (execHcFrag n src tgt ipidx v6 s) :=
  outOk_next (tablesOk_hcRun ok)

theorem outOk_execHcMeta {n src off wid : Nat} {s : State} (ok : TablesOk s) : OutOk (execHcMeta n src off wid s) :=
  outOk_next (tablesOk_hcRun ok)

theorem outOk_execHcDone {n : Nat} {s : State} (ok : TablesOk s) : OutOk (execHcDone n s) :=
  outOk_next (tablesOk_hcRun ok)

theorem outOk_execHcFail {n code : Nat} {s : State} (ok : TablesOk s) : OutOk (execHcFail n code s) :=
  outOk_next (tablesOk_hcRun ok)

theorem tablesOk_assignPacket {g n : Nat} {q : Pkt} {bad : Bool} {s : State} (ok : TablesOk s) : TablesOk (assignPacket g n q bad s) :=
  ok_ite (fun _ => tablesOk_freePacket (tablesOk_bump32 (tablesOk_popFifo ok))) (fun _ => tablesOk_with (tablesOk_updPacket (tablesOk_popFifo ok)))

theorem outOk_execPacketAssign {t g k : Nat} {bad : Bool} {s : State} (ok : TablesOk s) : OutOk (execPacketAssign t g k bad s) := by
  unfold execPacketAssign
  refine outOk_next ?_
  refine ok_ite (fun _ => ?_) (fun _ => ok)
  split
  · exact tablesOk_assignPacket (tablesOk_noteRead (tablesOk_advance ok))
  · exact ok

theorem tablesOk_wrProgStage {g a v : Nat} {s : State} (ok : TablesOk s) : PairOk (wrProgStage g a v s) :=
  pairOk_ite (fun _ => ok) (fun _ => tablesOk_with (tablesOk_setFlag ok))

theorem tablesOk_wrDispStage {g i v : Nat} {s : State} (ok : TablesOk s) : PairOk (wrDispStage g i v s) :=
  pairOk_ite (fun _ => ok) (fun _ => tablesOk_with (tablesOk_setFlag ok))

theorem tablesOk_validateStage {g : Nat} {s : State} (ok : TablesOk s) : TablesOk (validateStage g s) := by
  unfold validateStage
  split
  · exact tablesOk_setFlag (tablesOk_setReg ok)
  · exact tablesOk_setFlag (tablesOk_setReg ok)

theorem tablesOk_wrProgValidate {g v : Nat} {s : State} (ok : TablesOk s) : PairOk (wrProgValidate g v s) :=
  pairOk_ite (fun _ => ok) (fun _ => pairOk_ite (fun _ => ok) (fun _ => tablesOk_validateStage ok))

theorem tablesOk_setFlip {g b : Nat} {s : State} (ok : TablesOk s) : TablesOk (setFlip g b s) :=
  ok_ite (fun _ => tablesOk_setFlag ok) (fun _ => tablesOk_with (tablesOk_setFlag ok))

theorem tablesOk_wrProgFlip {g v : Nat} {s : State} (ok : TablesOk s) : PairOk (wrProgFlip g v s) := by
  unfold wrProgFlip
  refine pairOk_ite (fun _ => ok) (fun _ => ?_)
  split
  · exact ok
  · exact tablesOk_setFlip (tablesOk_deviceBeat ok)

theorem tablesOk_flipBank {g b : Nat} {s : State} (ok : TablesOk s) : TablesOk (flipBank g b s) :=
  tablesOk_setReg (tablesOk_setReg (tablesOk_with ok))

theorem outOk_execParseBankFlip {t g : Nat} {s : State} (ok : TablesOk s) : OutOk (execParseBankFlip t g s) :=
  outOk_next (ok_ite (fun _ => tablesOk_flipBank (tablesOk_advance ok)) (fun _ => ok))

theorem tablesOk_wrHcCtrl {g v : Nat} {s : State} (ok : TablesOk s) : PairOk (wrHcCtrl g v s) :=
  pairOk_ite (fun _ => ok) (fun _ => tablesOk_setReg ok)

theorem tablesOk_writeParseImage {img : Bytes} {words g : Nat} {s : State} (ok : TablesOk s) : TablesOk (writeParseImage img words g s) :=
  tablesOk_with (tablesOk_setFlag ok)

theorem tablesOk_cmdParseLoad {env : Env} {p : Bytes} {s : State} (ok : TablesOk s) : PairOk (cmdParseLoad env p s) :=
  pairOk_ite (fun _ => tablesOk_refuse ok) (fun _ => pairOk_ite (fun _ => tablesOk_refuse ok) (fun _ => pairOk_ite (fun _ =>
      tablesOk_refuse ok) (fun _ => pairOk_ite (fun _ => tablesOk_refuse ok) (fun _ => pairOk_ite (fun _ => tablesOk_refuse ok) (fun _ =>
      pairOk_ite (fun _ => tablesOk_refuse ok) (fun _ => pairOk_ite (fun _ => ok_foldl (fun _ _ h1 =>
      tablesOk_setFlag h1) (ok_foldl (fun _ _ h2 => tablesOk_validateStage h2) (ok_foldl (fun _ _ h3 =>
      tablesOk_writeParseImage h3) ok))) (fun _ => pairOk_ite (fun _ => ok_foldl (fun _ _ h4 => tablesOk_setFlag h4) (ok_foldl (fun _ _ h5 =>
      tablesOk_validateStage h5) (ok_foldl (fun _ _ h6 => tablesOk_writeParseImage h6) ok))) (fun _ => tablesOk_countHbm (ok_foldl (fun _ _ h7 =>
      tablesOk_validateStage h7) (ok_foldl (fun _ _ h8 => tablesOk_writeParseImage h8) ok))))))))))

theorem tablesOk_cmdParseFlip {env : Env} {p : Bytes} {s : State} (ok : TablesOk s) : PairOk (cmdParseFlip env p s) := by
  unfold cmdParseFlip
  refine pairOk_ite (fun _ => tablesOk_refuse ok) (fun _ => ?_)
  refine pairOk_ite (fun _ => tablesOk_refuse ok) (fun _ => ?_)
  dsimp only
  split
  · exact tablesOk_refuse ok
  · exact ok_foldl (fun _ _ h1 => tablesOk_setFlip h1) (tablesOk_deviceBeat ok)

/-! The functions of `Machine/Match` -/

theorem tablesOk_retirePacket {id : Nat} {s : State} (ok : TablesOk s) : TablesOk (retirePacket id s) :=
  tablesOk_checkRetire (tablesOk_updPacket ok)

theorem tablesOk_loseWord {stage bank : Nat} {s : State} {b : Nat × Nat} (ok : TablesOk s) : TablesOk (loseWord stage bank s b) :=
  ok_ite (fun _ => ok) (fun _ => tablesOk_raiseEvent (tablesOk_with ok))

theorem tablesOk_dropLost {id : Nat} {s : State} (ok : TablesOk s) : TablesOk (dropLost id s) :=
  tablesOk_freePacket (tablesOk_bump32 ok)

theorem tablesOk_takeFromCore {q : Pkt} {s : State} (ok : TablesOk s) : TablesOk (takeFromCore q s) :=
  tablesOk_popFifo (tablesOk_with ok)

theorem tablesOk_stampPacket {q : Pkt} {s : State} (ok : TablesOk s) : TablesOk (stampPacket q s) :=
  tablesOk_updPacket ok

theorem tablesOk_setSelector {s : State} {t sel : Nat} {x : Selector} (ok : TablesOk s) : TablesOk (State.setSelector s t sel x) :=
  tablesOk_with ok

theorem tablesOk_toVerdictPass {id verdict src : Nat} {s : State} (ok : TablesOk s) : TablesOk (toVerdictPass id verdict src s) :=
  tablesOk_updPacket ok

theorem tablesOk_takePortDefault {id : Nat} {s : State} (ok : TablesOk s) : TablesOk (takePortDefault id s) := by
  unfold takePortDefault
  split
  · exact ok
  · exact tablesOk_retirePacket (tablesOk_updPacket ok)

theorem tablesOk_endFirstPass {q : Pkt} {s : State} (ok : TablesOk s) : TablesOk (endFirstPass q s) := by
  unfold endFirstPass
  refine ok_ite (fun _ => tablesOk_retirePacket (tablesOk_updPacket (tablesOk_updPacket ok))) (fun _ => ?_)
  split
  · exact ok_ite (fun _ => tablesOk_updPacket (tablesOk_updPacket ok)) (fun _ => tablesOk_toVerdictPass (tablesOk_updPacket ok))
  · exact tablesOk_toVerdictPass (tablesOk_updPacket ok)

theorem tablesOk_endLaterPass {q : Pkt} {s : State} (ok : TablesOk s) : TablesOk (endLaterPass q s) :=
  ok_ite (fun _ => ok_ite (fun _ => tablesOk_takePortDefault (tablesOk_bump32 ok)) (fun _ => ok_ite (fun _ =>
      tablesOk_takePortDefault (tablesOk_bump32 ok)) (fun _ => tablesOk_with (tablesOk_updPacket ok)))) (fun _ =>
      tablesOk_retirePacket (tablesOk_updPacket ok))

theorem tablesOk_beforeWrites {s : State} (ok : TablesOk s) : TablesOk (State.beforeWrites s) :=
  ok_ite (fun _ => tablesOk_with ok) (fun _ => ok)

theorem tablesOk_noteWrite {s : State} (ok : TablesOk s) : TablesOk (noteWrite s) :=
  ok_ite (fun _ => ok) (fun _ => tablesOk_with ok)

theorem tablesOk_runStage {q0 : Pkt} {stage : Nat} {bad : List (Nat × Nat)} {s0 : State} (ok : TablesOk s0) : TablesOk (runStage q0 stage bad s0) :=
  ok_ite (fun _ => tablesOk_dropLost (ok_foldl (fun _ _ h1 => tablesOk_loseWord h1) (tablesOk_bump64 ok))) (fun _ =>
      ok_unless (tablesOk_updPacket (ok_unless (ok_when (ok_when (ok_when (ok_foldl (fun _ _ h7 =>
      tablesOk_loseWord h7) (tablesOk_bump64 ok)) (fun h6 => tablesOk_bump64 h6)) (fun h5 => tablesOk_bump64 (ok_when (ok_foldl (fun _ _ h9 =>
      tablesOk_loseWord h9) (tablesOk_bump64 ok)) (fun h8 => tablesOk_bump64 h8)))) (fun h4 => tablesOk_bump32 h4)) (fun h3 =>
      tablesOk_bump32 (ok_when (ok_when (ok_when (ok_foldl (fun _ _ h13 => tablesOk_loseWord h13) (tablesOk_bump64 ok)) (fun h12 =>
      tablesOk_bump64 h12)) (fun h11 => tablesOk_bump64 (ok_when (ok_foldl (fun _ _ h15 =>
      tablesOk_loseWord h15) (tablesOk_bump64 ok)) (fun h14 => tablesOk_bump64 h14)))) (fun h10 => tablesOk_bump32 h10))))) (fun h2 =>
      ok_ite (fun _ => ok_ite (fun _ => tablesOk_dropLost h2) (fun _ => tablesOk_endFirstPass h2)) (fun _ => tablesOk_endLaterPass h2)))

theorem tablesOk_takeChecked {q : Pkt} {chk : FifoRead} {s : State} (ok : TablesOk s) : TablesOk (takeChecked q chk s) :=
  ok_when (tablesOk_noteRead (tablesOk_takeFromCore ok)) (fun h1 => tablesOk_freePacket h1)

theorem outOk_execStageLookup {t id stage : Nat} {bad : Checked (List (Nat × Nat))}
    {s : State} (ok : TablesOk s) : OutOk (execStageLookup t id stage bad s) := by
  unfold execStageLookup
  refine outOk_next ?_
  split
  · exact ok
  · refine ok_ite (fun _ => tablesOk_runStage (tablesOk_advance ok)) (fun _ => ?_)
    refine ok_ite (fun _ => ?_) (fun _ => ok)
    dsimp only
    split
    · exact tablesOk_runStage (tablesOk_stampPacket (tablesOk_takeChecked (tablesOk_advance ok)))
    · exact tablesOk_stampPacket (tablesOk_takeChecked (tablesOk_advance ok))

theorem outOk_execRecircPassStart {t p : Nat} {s : State} (ok : TablesOk s) : OutOk (execRecircPassStart t p s) := by
  unfold execRecircPassStart
  refine outOk_next ?_
  split
  · exact ok
  · exact tablesOk_with (tablesOk_updPacket (tablesOk_advance ok))

theorem tablesOk_putEntry {table stage bank i v : Nat} {s0 : State} (ok : TablesOk s0) : TablesOk (putEntry table stage bank i v s0) :=
  ok_ite (fun _ => tablesOk_with (tablesOk_noteWrite ok)) (fun _ => tablesOk_with (tablesOk_noteWrite ok))

theorem tablesOk_applyEntry {t stage bank op table i img0 : Nat}
    {s : State} (ok : TablesOk s) : PairOk (applyEntry t stage bank op table i img0 s) := by
  unfold applyEntry
  refine pairOk_ite (fun _ => ok) (fun _ => ?_)
  refine pairOk_ite (fun _ => ok) (fun _ => ?_)
  refine pairOk_ite (fun _ => pairOk_ite (fun _ => ok) (fun _ => ok_foldl (fun _ _ h1 => ok_ite (fun _ => tablesOk_putEntry h1) (fun _ =>
      h1)) ok)) (fun _ => ?_)
  split
  · exact ok
  · dsimp only
    split
    · exact ok
    · exact ok_foldl (fun _ _ h2 => tablesOk_putEntry h2) ok

theorem tablesOk_stageInvalid {stage kind i cause : Nat} {s : State} (ok : TablesOk s) : PairOk (stageInvalid stage kind i cause s) :=
  tablesOk_setReg ok

theorem tablesOk_putTemplate {stage i : Nat} {ws : List Nat} {s : State} (ok : TablesOk s) : PairOk (putTemplate stage i ws s) :=
  pairOk_ite (fun _ => tablesOk_stageInvalid ok) (fun _ => tablesOk_with ok)

theorem tablesOk_putKeysel {stage i v : Nat} {s : State} (ok : TablesOk s) : PairOk (putKeysel stage i v s) :=
  pairOk_ite (fun _ => tablesOk_stageInvalid ok) (fun _ => tablesOk_with ok)

theorem tablesOk_putMiss {stage v : Nat} {s : State} (ok : TablesOk s) : PairOk (putMiss stage v s) :=
  pairOk_ite (fun _ => tablesOk_stageInvalid ok) (fun _ => tablesOk_with ok)

theorem tablesOk_putHash {r v : Nat} {s : State} (ok : TablesOk s) : PairOk (putHash r v s) :=
  pairOk_ite (fun _ => tablesOk_stageInvalid ok) (fun _ => tablesOk_with ok)

theorem tablesOk_asHolder {f : State → Nat × State} {s : State} (hf : ∀ x0, TablesOk x0 → PairOk (f x0)) (ok : TablesOk s) : PairOk (asHolder f s) :=
  pairOk_ite (fun _ => hf _ ok) (fun _ => ok)

theorem tablesOk_wrKeyselStage {stage i v : Nat} {s : State} (ok : TablesOk s) : PairOk (wrKeyselStage stage i v s) :=
  tablesOk_asHolder (fun _ h1 => tablesOk_putKeysel h1) ok

theorem tablesOk_wrMissStage {stage v : Nat} {s : State} (ok : TablesOk s) : PairOk (wrMissStage stage v s) :=
  tablesOk_asHolder (fun _ h1 => tablesOk_putMiss h1) ok

theorem tablesOk_wrHashStage {r v : Nat} {s : State} (ok : TablesOk s) : PairOk (wrHashStage r v s) :=
  tablesOk_asHolder (fun _ h1 => tablesOk_putHash h1) ok

theorem tablesOk_wrTernRange {stage t v : Nat} {s : State} (ok : TablesOk s) : PairOk (wrTernRange stage t v s) :=
  pairOk_ite (fun _ => ok) (fun _ => pairOk_ite (fun _ => ok) (fun _ => pairOk_ite (fun _ => ok) (fun _ => tablesOk_setReg ok)))

theorem tablesOk_entryCmd {t stage cmd : Nat} {s : State} (ok : TablesOk s) : PairOk (entryCmd t stage cmd s) :=
  pairOk_ite (fun _ => pairOk_ite (fun _ => ok_foldl (fun _ _ h1 => tablesOk_setReg h1) ok) (fun _ => pairOk_ite (fun _ => ok_foldl (fun _ _ h2 =>
      tablesOk_setReg h2) ok) (fun _ => ok))) (fun _ => pairOk_ite (fun _ => tablesOk_applyEntry ok) (fun _ => pairOk_ite (fun _ =>
      pairOk_ite (fun _ => ok) (fun _ => tablesOk_asHolder (fun _ h3 => tablesOk_putTemplate h3) ok)) (fun _ => ok)))

theorem tablesOk_wrEntryCmd {t stage v : Nat} {s : State} (ok : TablesOk s) : PairOk (wrEntryCmd t stage v s) :=
  pairOk_ite (fun _ => ok) (fun _ => tablesOk_setReg (pairOk_ite (fun _ => tablesOk_entryCmd ok) (fun _ => ok)))

theorem tablesOk_wrEntrySel {stage v : Nat} {s : State} (ok : TablesOk s) : PairOk (wrEntrySel stage v s) :=
  pairOk_ite (fun _ => ok) (fun _ => tablesOk_setReg ok)

theorem tablesOk_endLease {s : State} (ok : TablesOk s) : TablesOk (endLease s) :=
  tablesOk_with (tablesOk_setReg (tablesOk_setFlag (tablesOk_setFlag ok)))

theorem tablesOk_cmdRuleStageOpen {env : Env} {p : Bytes} {s : State} (ok : TablesOk s) : PairOk (cmdRuleStageOpen env p s) :=
  pairOk_ite (fun _ => tablesOk_refuse ok) (fun _ => pairOk_ite (fun _ => tablesOk_refuse ok) (fun _ =>
      tablesOk_with (tablesOk_setReg (tablesOk_setFlag ok))))

theorem tablesOk_cmdRuleStageClose {env : Env} {p : Bytes} {s : State} (ok : TablesOk s) : PairOk (cmdRuleStageClose env p s) :=
  pairOk_ite (fun _ => tablesOk_refuse ok) (fun _ => pairOk_ite (fun _ => tablesOk_refuse ok) (fun _ => pairOk_ite (fun _ =>
      tablesOk_refuse ok) (fun _ => tablesOk_endLease ok)))

theorem tablesOk_cmdRuleEpochFlip {env : Env} {p : Bytes} {s : State} (ok : TablesOk s) : PairOk (cmdRuleEpochFlip env p s) :=
  pairOk_ite (fun _ => tablesOk_refuse ok) (fun _ => pairOk_ite (fun _ => tablesOk_refuse ok) (fun _ => pairOk_ite (fun _ =>
      tablesOk_refuse ok) (fun _ => pairOk_ite (fun _ => tablesOk_refuse ok) (fun _ => tablesOk_with (tablesOk_setFlag (tablesOk_deviceBeat ok))))))

theorem tablesOk_fixEpochs {g e : Nat} {s : State} (ok : TablesOk s) : TablesOk (fixEpochs g e s) :=
  tablesOk_with ok

theorem tablesOk_fireLinked {e b : Nat} {s : State} (ok : TablesOk s) : TablesOk (fireLinked e b s) :=
  ok_foldl (fun _ _ h1 => tablesOk_flipBank (tablesOk_fixEpochs h1)) ok

theorem tablesOk_ruleFlip {b : Nat} {s : State} (ok : TablesOk s) : TablesOk (ruleFlip b s) :=
  tablesOk_checkRetire (tablesOk_raiseEvent (tablesOk_fireLinked (tablesOk_with (tablesOk_setReg (tablesOk_setReg (tablesOk_setReg
      (tablesOk_setReg ok)))))))

theorem outOk_execStagingCopyDone {t : Nat} {s : State} (ok : TablesOk s) : OutOk (execStagingCopyDone t s) :=
  outOk_next (ok_ite (fun _ => tablesOk_setFlag (tablesOk_with (tablesOk_advance ok))) (fun _ => ok))

theorem outOk_execEpochDrainSlow {t : Nat} {s : State} (ok : TablesOk s) : OutOk (execEpochDrainSlow t s) := by
  unfold execEpochDrainSlow
  refine outOk_next ?_
  split
  · exact ok_ite (fun _ => tablesOk_with (tablesOk_raiseEvent (tablesOk_advance ok))) (fun _ => ok)
  · exact ok

theorem outOk_execStageLeaseExpiry {t : Nat} {s : State} (ok : TablesOk s) : OutOk (execStageLeaseExpiry t s) :=
  outOk_next (ok_ite (fun _ => tablesOk_endLease (tablesOk_raiseEvent (tablesOk_advance ok))) (fun _ => ok))

theorem outOk_execRuleEntryRewrite {t stage bank table i : Nat} {s : State} (ok : TablesOk s) : OutOk (execRuleEntryRewrite t stage bank table i s) :=
  outOk_next (ok_ite (fun _ => tablesOk_with (tablesOk_advance ok)) (fun _ => ok))

theorem tablesOk_partialReply {code done : Nat} {s : State} (ok : TablesOk s) : PairOk (partialReply code done s) :=
  ok

theorem tablesOk_ruleRecords {t : Nat} {p : Bytes} {n done o : Nat} {s : State} (ok : TablesOk s) : PairOk (ruleRecords t p n done o s) := by
  induction n generalizing done o s with
  | zero => exact tablesOk_partialReply ok
  | succ n ih =>
    unfold ruleRecords
    exact pairOk_ite (fun _ => tablesOk_partialReply ok)
      (fun _ => pairOk_ite (fun _ => ih (tablesOk_applyEntry ok)) (fun _ => tablesOk_partialReply (tablesOk_applyEntry ok)))

theorem tablesOk_cmdRuleWrite {env : Env} {p : Bytes} {s : State} (ok : TablesOk s) : PairOk (cmdRuleWrite env p s) :=
  pairOk_ite (fun _ => tablesOk_partialReply ok) (fun _ => tablesOk_ruleRecords ok)

theorem tablesOk_cmdRuleRead {env : Env} {p : Bytes} {s : State} (ok : TablesOk s) : PairOk (cmdRuleRead env p s) :=
  pairOk_ite (fun _ => tablesOk_refuse ok) (fun _ => ok)

theorem tablesOk_templateRecord {stage kind i : Nat} {d : Bytes} {s : State} (ok : TablesOk s) : PairOk (templateRecord stage kind i d s) := by
  unfold templateRecord
  refine pairOk_ite (fun _ => ok) (fun _ => ?_)
  split
  · exact pairOk_ite (fun _ => ok) (fun _ => tablesOk_putTemplate ok)
  · exact pairOk_ite (fun _ => ok) (fun _ => tablesOk_putKeysel ok)
  · exact pairOk_ite (fun _ => ok) (fun _ => tablesOk_putMiss ok)
  · refine pairOk_ite (fun _ => ok) (fun _ => ?_)
    dsimp only
    split
    · exact tablesOk_stageInvalid ok
    · exact ok_foldl (fun _ _ h1 => tablesOk_putHash h1) ok

theorem tablesOk_templateRecords {p : Bytes} {n done o : Nat} {s : State} (ok : TablesOk s) : PairOk (templateRecords p n done o s) := by
  induction n generalizing done o s with
  | zero => exact tablesOk_partialReply ok
  | succ n ih =>
    unfold templateRecords
    exact pairOk_ite (fun _ => tablesOk_partialReply ok)
      (fun _ => pairOk_ite (fun _ => ih (tablesOk_templateRecord ok)) (fun _ => tablesOk_partialReply (tablesOk_templateRecord ok)))

theorem tablesOk_cmdRuleTemplateWrite {env : Env} {p : Bytes} {s : State} (ok : TablesOk s) : PairOk (cmdRuleTemplateWrite env p s) :=
  pairOk_ite (fun _ => tablesOk_partialReply ok) (fun _ => pairOk_ite (fun _ => tablesOk_partialReply ok) (fun _ => tablesOk_templateRecords ok))

theorem tablesOk_dropEntries {t : Nat} {s : State} (ok : TablesOk s) : TablesOk (dropEntries t s) :=
  tablesOk_with ok

/-! The functions of `Machine/Flow` -/

theorem tablesOk_updLine {s : State} {key : Nat} {f : FlowLine → FlowLine} (ok : TablesOk s) : TablesOk (State.updLine s key f) :=
  tablesOk_with ok

theorem tablesOk_putHot {s : State} {t r hot : Nat} (ok : TablesOk s) : TablesOk (State.putHot s t r hot) := by
  unfold State.putHot
  split
  · exact tablesOk_updLine ok
  · exact tablesOk_storeBytes ok

theorem tablesOk_writeBack {l : FlowLine} {s : State} (ok : TablesOk s) : TablesOk (writeBack l s) :=
  ok_when (ok_ite (fun _ => tablesOk_storeBytes ok) (fun _ => ok)) (fun h1 => tablesOk_storeBytes h1)

theorem tablesOk_allocLine {t r hash : Nat} {line : FlowLine} {s : State} (ok : TablesOk s) : OptOk (allocLine t r hash line s) := by
  unfold allocLine
  dsimp only
  split
  · exact optOk_some (tablesOk_with ok)
  · split
    · exact optOk_some (tablesOk_with (tablesOk_bump64 (tablesOk_writeBack ok)))
    · exact optOk_none

theorem tablesOk_writeDigest {t r reason : Nat} {coldBad : Bool} {s : State} (ok : TablesOk s) : TablesOk (writeDigest t r reason coldBad s) :=
  ok_ite (fun _ => tablesOk_bump32 ok) (fun _ => ok_ite (fun _ => tablesOk_bump32 (tablesOk_countHbm ok)) (fun _ =>
      tablesOk_storeBytes (tablesOk_storeBytes (tablesOk_countHbm ok))))

theorem tablesOk_noteCold {bad : Bool} {t : Nat} {s : State} (ok : TablesOk s) : TablesOk (noteCold bad t s) :=
  ok_ite (fun _ => tablesOk_noteUncorr ok) (fun _ => ok)

theorem tablesOk_endFlow {t r reason : Nat} {coldBad : Bool} {s : State} (ok : TablesOk s) : TablesOk (endFlow t r reason coldBad s) :=
  ok_ite (fun _ => ok) (fun _ => tablesOk_setReg (tablesOk_bump32 (tablesOk_putHot (tablesOk_noteCold (tablesOk_writeDigest ok)))))

theorem tablesOk_readsColdBad {s : State} (ok : TablesOk s) : PairOk (readsColdBad s) :=
  tablesOk_with ok

theorem tablesOk_endIfRetired {t r : Nat} {s : State} (ok : TablesOk s) : TablesOk (endIfRetired t r s) :=
  ok_ite (fun _ => tablesOk_endFlow (tablesOk_readsColdBad ok)) (fun _ => ok)

theorem tablesOk_periodicDigest {t r now : Nat} {coldBad : Bool} {s : State} (ok : TablesOk s) : TablesOk (periodicDigest t r now coldBad s) :=
  ok_ite (fun _ => tablesOk_putHot (tablesOk_noteCold (tablesOk_writeDigest ok))) (fun _ => ok)

theorem tablesOk_startColdFill {t r : Nat} {s : State} (ok : TablesOk s) : TablesOk (startColdFill t r s) := by
  unfold startColdFill
  split
  · exact ok_ite (fun _ => ok) (fun _ => tablesOk_bump64 (tablesOk_updLine ok))
  · exact ok

theorem tablesOk_dropCold {t r : Nat} {s : State} (ok : TablesOk s) : TablesOk (dropCold t r s) := by
  unfold dropCold
  split
  · exact tablesOk_updLine (tablesOk_noteCold ok)
  · exact ok

theorem tablesOk_touchCold {q : Pkt} {r iat : Nat} {rev coldBad : Bool} {s : State} (ok : TablesOk s) : PairOk (touchCold q r iat rev coldBad s) := by
  unfold touchCold
  dsimp only
  split
  · exact pairOk_ite (fun _ => tablesOk_updLine (ok_ite (fun _ => tablesOk_dropCold ok) (fun _ => ok))) (fun _ => ok_when (ok_ite (fun _ =>
      tablesOk_dropCold ok) (fun _ => ok)) (fun h1 => tablesOk_startColdFill (tablesOk_bump32 h1)))
  · exact ok_ite (fun _ => tablesOk_dropCold ok) (fun _ => ok)

theorem tablesOk_createRecord {q : Pkt} {key : Bytes} {r : Nat} {s : State} (ok : TablesOk s) : FstOk (createRecord q key r s) := by
  unfold createRecord
  dsimp only
  split
  · exact tablesOk_updLine ok
  · exact ok

theorem tablesOk_updCell {s : State} {c : Nat} {f : CellX → CellX} (ok : TablesOk s) : TablesOk (State.updCell s c f) :=
  tablesOk_with ok

theorem tablesOk_sendVector {id : Nat} {s : State} (ok : TablesOk s) : TablesOk (sendVector id s) := by
  unfold sendVector
  split
  · exact ok
  · exact ok_foldl (fun _ _ h1 => tablesOk_updCell h1) (tablesOk_updPacket (tablesOk_setSelector ok))

theorem tablesOk_startInference {id : Nat} {s : State} (ok : TablesOk s) : TablesOk (startInference id s) := by
  unfold startInference
  split
  · exact ok
  · refine ok_ite (fun _ => tablesOk_sendVector ok) (fun _ => ?_)
    split
    · exact tablesOk_sendVector (tablesOk_updPacket (ok_ite (fun _ => tablesOk_bump32 ok) (fun _ => ok)))
    · exact tablesOk_sendVector (tablesOk_updPacket ok)

theorem tablesOk_chainOrInfer {id : Nat} {s : State} (ok : TablesOk s) : TablesOk (chainOrInfer id s) := by
  unfold chainOrInfer
  split
  · exact ok
  · exact ok_ite (fun _ => tablesOk_startInference ok) (fun _ => ok_ite (fun _ =>
      tablesOk_toVerdictPass (tablesOk_updPacket (tablesOk_bump32 ok))) (fun _ => tablesOk_updPacket ok))

theorem tablesOk_startOrShed {id : Nat} {shed : Bool} {s : State} (ok : TablesOk s) : TablesOk (startOrShed id shed s) := by
  unfold startOrShed
  refine ok_ite (fun _ => ?_) (fun _ => tablesOk_chainOrInfer ok)
  split
  · exact tablesOk_toVerdictPass (tablesOk_updPacket (tablesOk_bump64 ok))
  · exact ok

/-- The state a flow lookup goes on with has canonical tables. -/
def LookOk : FlowLookup → Prop
  | .wait => True
  | .absent s => TablesOk s
  | .found s _ => TablesOk s

theorem lookOk_ite {c : Prop} [Decidable c] {a b : FlowLookup} (ha : c → LookOk a) (hb : ¬ c → LookOk b) : LookOk (if c then a else b) := by
  split
  · exact ha ‹_›
  · exact hb ‹_›

theorem lookOk_flowLookup {q : Pkt} {hotBad coldBad : Bool} {s : State} (ok : TablesOk s) : LookOk (flowLookup q hotBad coldBad s) := by
  unfold flowLookup
  refine lookOk_ite (fun _ => tablesOk_bump32 ok) (fun _ => ?_)
  dsimp only
  split
  · trivial
  · rename_i s1 h
    have ok1 : TablesOk s1 := by
      split at h
      · cases h
        exact tablesOk_bump64 (tablesOk_with (tablesOk_updLine ok))
      · obtain ⟨s0, h0, rfl⟩ := Option.map_eq_some_iff.mp h
        exact tablesOk_bump64 (tablesOk_countHbm (tablesOk_with (tablesOk_allocLine ok _ h0)))
    refine lookOk_ite (fun _ => tablesOk_createRecord (tablesOk_noteUncorr (tablesOk_coalesceEvent (tablesOk_bump32
      (ok_ite (fun _ => ok1) (fun _ => tablesOk_bump32 ok1)))))) (fun _ => ?_)
    refine lookOk_ite (fun _ => tablesOk_createRecord (tablesOk_bump32 (tablesOk_bump32 ok1))) (fun _ => ?_)
    refine lookOk_ite (fun _ => tablesOk_touchCold (tablesOk_putHot ok1)) (fun _ => ?_)
    refine lookOk_ite (fun _ => tablesOk_createRecord (tablesOk_bump32 (tablesOk_bump32 (tablesOk_endFlow ok1)))) (fun _ => ?_)
    refine lookOk_ite (fun _ => tablesOk_createRecord (tablesOk_bump32 (tablesOk_bump32 (tablesOk_endFlow ok1)))) (fun _ => ?_)
    exact tablesOk_bump32 (ok_ite (fun _ => tablesOk_startColdFill ok1) (fun _ => ok1))

theorem tablesOk_flowLookup {q : Pkt} {hotBad coldBad : Bool} {s s1 : State} (ok : TablesOk s)
    (h : flowLookup q hotBad coldBad s = .absent s1 ∨ ∃ v, flowLookup q hotBad coldBad s = .found s1 v) : TablesOk s1 := by
  have look : LookOk (flowLookup q hotBad coldBad s) := lookOk_flowLookup ok
  obtain h | ⟨v, h⟩ := h
  · rw [h] at look; exact look
  · rw [h] at look; exact look

theorem tablesOk_encodePacket {q : Pkt} {i : Nat} {hotBad coldBad : Bool}
    {s : State} (ok : TablesOk s) : OptOk (encodePacket q i hotBad coldBad s) := by
  have looked (s1 : State) (h : (if s.flowOn q.tenant then flowLookup q hotBad coldBad s else .absent s) = .absent s1 ∨
      ∃ v, (if s.flowOn q.tenant then flowLookup q hotBad coldBad s else .absent s) = .found s1 v) : TablesOk s1 := by
    split at h
    · exact tablesOk_flowLookup ok h
    · simp only [FlowLookup.absent.injEq, reduceCtorEq, exists_false, or_false] at h
      exact h ▸ ok
  unfold encodePacket
  refine optOk_ite (fun _ => optOk_none) (fun _ => ?_)
  dsimp only
  split
  · exact optOk_none
  · rename_i heq
    exact optOk_some (tablesOk_startOrShed (tablesOk_updPacket (looked _ (.inl heq))))
  · rename_i heq
    exact optOk_some (tablesOk_startOrShed (tablesOk_updPacket (tablesOk_periodicDigest (looked _ (.inr ⟨_, heq⟩)))))

theorem tablesOk_releaseMerged {q : Pkt} {s : State} (ok : TablesOk s) : TablesOk (releaseMerged q s) :=
  ok_ite (fun _ => ok) (fun _ => tablesOk_updPacket (tablesOk_raise ok))

theorem outOk_execFeatureEncode {t id : Nat} {bad : RecordBad} {s : State} (ok : TablesOk s) : OutOk (execFeatureEncode t id bad s) := by
  unfold execFeatureEncode
  refine outOk_next ?_
  split
  · exact ok
  · refine ok_ite (fun _ => ?_) (fun _ => ok)
    refine ok_unless (tablesOk_releaseMerged (tablesOk_advance ok)) (fun h1 => ?_)
    split
    · exact ok_ite (fun _ => ok_getD (tablesOk_encodePacket h1) h1) (fun _ => tablesOk_toVerdictPass h1)
    · exact tablesOk_toVerdictPass h1

theorem outOk_execColdFillComplete {t tenant : Nat} {fill : ColdFill}
    {s : State} (ok : TablesOk s) : OutOk (execColdFillComplete t tenant fill s) := by
  unfold execColdFillComplete
  refine outOk_next ?_
  split
  · exact ok_ite (fun _ => tablesOk_updLine (tablesOk_noteCold (tablesOk_countHbm (tablesOk_advance ok)))) (fun _ => ok)
  · exact ok

theorem outOk_execFlowScan {t tenant r : Nat} {coldBad : Bool} {s : State} (ok : TablesOk s) : OutOk (execFlowScan t tenant r coldBad s) :=
  outOk_next (ok_ite (fun _ => ok) (fun _ => ok_ite (fun _ => ok_unless (tablesOk_advance ok) (fun h1 => tablesOk_endFlow h1)) (fun _ =>
      ok_ite (fun _ => tablesOk_endFlow (tablesOk_advance ok)) (fun _ => ok_ite (fun _ => tablesOk_endFlow (tablesOk_advance ok)) (fun _ =>
      ok_ite (fun _ => tablesOk_endFlow (tablesOk_advance ok)) (fun _ => ok_ite (fun _ => tablesOk_endFlow (tablesOk_advance ok)) (fun _ =>
      tablesOk_periodicDigest (tablesOk_advance ok))))))))

theorem tablesOk_resetByLabel {t r : Nat} {s : State} (ok : TablesOk s) : TablesOk (resetByLabel t r s) :=
  tablesOk_noteUncorr (tablesOk_coalesceEvent (tablesOk_bump32 (tablesOk_putHot (ok_ite (fun _ => tablesOk_setReg ok) (fun _ => ok)))))

theorem tablesOk_readForLabel {t r : Nat} {s : State} (ok : TablesOk s) : TablesOk (readForLabel t r s) :=
  ok_ite (fun _ => tablesOk_bump64 (tablesOk_countHbm ok)) (fun _ => ok)

theorem tablesOk_applyLabel {t : Nat} {hotBad : List Nat} {rec : Bytes} {s0 : State} (ok : TablesOk s0) : TablesOk (applyLabel t hotBad rec s0) :=
  ok_ite (fun _ => tablesOk_bump32 (tablesOk_resetByLabel (tablesOk_readForLabel ok))) (fun _ => ok_ite (fun _ =>
      tablesOk_bump32 (tablesOk_putHot (tablesOk_readForLabel ok))) (fun _ => tablesOk_bump32 (tablesOk_readForLabel ok)))

theorem outOk_execLabelQueuePoll {t : Nat} {poll : LabelPoll} {s : State} (ok : TablesOk s) : OutOk (execLabelQueuePoll t poll s) :=
  outOk_next (ok_ite (fun _ => ok) (fun _ => tablesOk_storeBytes (ok_foldl (fun _ _ h1 =>
      tablesOk_applyLabel (tablesOk_countHbm h1)) (tablesOk_countHbm (tablesOk_advance ok)))))

theorem tablesOk_setLabel {q : Pkt} {label : Nat} {s : State} (ok : TablesOk s) : TablesOk (setLabel q label s) := by
  unfold setLabel
  split
  · exact ok_ite (fun _ => tablesOk_putHot ok) (fun _ => ok)
  · exact ok

theorem tablesOk_writeModelState {q : Pkt} {st : Bytes} {s : State} (ok : TablesOk s) : TablesOk (writeModelState q st s) := by
  unfold writeModelState
  split
  · exact ok_ite (fun _ => tablesOk_putHot ok) (fun _ => ok)
  · exact ok

theorem tablesOk_startChained {x : Pkt} {s : State} (ok : TablesOk s) : TablesOk (startChained x s) :=
  ok_ite (fun _ => tablesOk_toVerdictPass (tablesOk_updPacket ok)) (fun _ => ok_ite (fun _ => tablesOk_startInference ok) (fun _ =>
      ok_ite (fun _ => tablesOk_startOrShed ok) (fun _ => ok)))

theorem tablesOk_startChains {some_ : Pkt → Bool} {s : State} (ok : TablesOk s) : TablesOk (startChains some_ s) :=
  ok_foldl (fun _ _ h1 => ok_ite (fun _ => tablesOk_startChained h1) (fun _ => h1)) ok

theorem tablesOk_advanceChain {q : Pkt} {s : State} (ok : TablesOk s) : TablesOk (advanceChain q s) := by
  unfold advanceChain
  dsimp only
  split
  · exact ok_unless (tablesOk_startChains ok) (fun h1 => tablesOk_endIfRetired h1)
  · exact tablesOk_startChains ok

theorem tablesOk_moveRegion {t base : Nat} {s : State} (ok : TablesOk s) : TablesOk (moveRegion t base s) :=
  tablesOk_setReg (tablesOk_setReg (tablesOk_with (ok_foldl (fun _ _ h1 => tablesOk_writeBack h1) (tablesOk_setReg ok))))

theorem tablesOk_flowChange {t : Nat} {s s' : State} (ok : TablesOk s) (ok' : TablesOk s') : PairOk (flowChange t s s') := by
  unfold flowChange
  refine pairOk_ite (fun _ => ok) (fun _ => pairOk_ite (fun _ => ok) (fun _ => pairOk_ite (fun _ => ok) (fun _ => pairOk_ite (fun _ => ok) (fun _ =>
    pairOk_ite (fun _ => ?_) (fun _ => ok')))))
  split
  · exact ok
  · exact ok_ite (fun _ => tablesOk_moveRegion ok') (fun _ => ok')

theorem tablesOk_wrFlowTenant {byOwner : Bool} {t a v : Nat} {s : State} (ok : TablesOk s) : PairOk (wrFlowTenant byOwner t a v s) :=
  pairOk_ite (fun _ => ok) (fun _ => tablesOk_flowChange ok (tablesOk_setReg ok))

theorem tablesOk_wrScanPeriod {v : Nat} {s : State} (ok : TablesOk s) : PairOk (wrScanPeriod v s) :=
  pairOk_ite (fun _ => ok) (fun _ => tablesOk_setReg ok)

theorem tablesOk_cmdFlowRegionSet {env : Env} {p : Bytes} {s : State} (ok : TablesOk s) : PairOk (cmdFlowRegionSet env p s) :=
  pairOk_ite (fun _ => tablesOk_refuse ok) (fun _ => pairOk_ite (fun _ => tablesOk_refuse ok) (fun _ =>
      tablesOk_flowChange ok (tablesOk_setReg (tablesOk_setReg (tablesOk_setReg (tablesOk_setReg (tablesOk_setReg (tablesOk_setReg (tablesOk_setReg
      (tablesOk_setReg (tablesOk_setFlag ok)))))))))))

theorem tablesOk_cmdFlowRemove {env : Env} {p : Bytes} {s : State} (ok : TablesOk s) : PairOk (cmdFlowRemove env p s) :=
  pairOk_ite (fun _ => tablesOk_refuse ok) (fun _ => ok_ite (fun _ => tablesOk_endFlow (tablesOk_readsColdBad ok)) (fun _ => ok))

theorem tablesOk_cmdFlowRead {env : Env} {p : Bytes} {s : State} (ok : TablesOk s) : PairOk (cmdFlowRead env p s) :=
  pairOk_ite (fun _ => tablesOk_refuse ok) (fun _ => pairOk_ite (fun _ => tablesOk_refuse ok) (fun _ => ok))

theorem tablesOk_cmdFlowFlush {env : Env} {p : Bytes} {s : State} (ok : TablesOk s) : PairOk (cmdFlowFlush env p s) :=
  pairOk_ite (fun _ => tablesOk_refuse ok) (fun _ => tablesOk_with ok)

theorem bytes_losePage (stack off : Nat) (m : MemState) : (losePage stack off m).bytes = m.bytes := by
  unfold losePage
  generalize List.range 16 = l
  induction l generalizing m with
  | nil => rfl
  | cons i l ih => exact ih _

theorem tablesOk_cmdHbmPageRetire {env : Env} {p : Bytes} {s : State} (ok : TablesOk s) : PairOk (cmdHbmPageRetire env p s) := by
  have ok1 : TablesOk { s with mem := losePage (byteAt p 0) (be p 8 8) { s.mem with retired := s.mem.retired ++ [(byteAt p 0, be p 8 8 / 4096)] } } :=
    tablesOk_of_mem ok rfl (fun h => by simpa only [Memory.wf, bytes_losePage] using h)
  unfold cmdHbmPageRetire
  refine pairOk_ite (fun _ => ok) (fun _ => pairOk_ite (fun _ => ok) (fun _ => pairOk_ite (fun _ => ok) (fun _ => pairOk_ite (fun _ =>
      ok) (fun _ => ?_))))
  refine ok_foldl (fun _ _ h => ok_foldl (fun _ _ h => tablesOk_endIfRetired h) h) (tablesOk_bump32 (tablesOk_bump32 ?_))
  dsimp only
  split
  · exact tablesOk_withMem ok
  · exact ok1

/-! The functions of `Machine/Actions` -/

theorem tablesOk_setGroupReg {a v : Nat} {s : State} (ok : TablesOk s) : TablesOk (setGroupReg a v s) :=
  tablesOk_with (tablesOk_setReg ok)

theorem tablesOk_refillException {L : Nat} {s : State} (ok : TablesOk s) : TablesOk (refillException L s) :=
  tablesOk_with ok

theorem tablesOk_refillExceptions {s : State} (ok : TablesOk s) : TablesOk (refillExceptions s) :=
  ok_foldl (fun _ _ h1 => tablesOk_refillException h1) ok

theorem tablesOk_admitException {q : Pkt} {reason : Nat} {s : State} (ok : TablesOk s) : TablesOk (admitException q reason s) :=
  ok_ite (fun _ => tablesOk_retirePacket (tablesOk_updPacket (tablesOk_with ok))) (fun _ => tablesOk_freePacket (tablesOk_deliver ok))

theorem tablesOk_toException {q : Pkt} {reason : Nat} {s0 : State} (ok : TablesOk s0) : TablesOk (toException q reason s0) :=
  ok_ite (fun _ => tablesOk_admitException (tablesOk_bump64 (tablesOk_with (tablesOk_refillException ok)))) (fun _ => ok_ite (fun _ =>
      tablesOk_freePacket (tablesOk_bump64 (tablesOk_refillException ok))) (fun _ =>
      tablesOk_takePortDefault (tablesOk_bump64 (tablesOk_refillException ok))))

theorem tablesOk_takeRecord {r : FragRecord} {id : Nat} {s : State} (ok : TablesOk s) : TablesOk (takeRecord r id s) :=
  tablesOk_updPacket (tablesOk_bump32 (tablesOk_with ok))

theorem tablesOk_recordFragment {q : Pkt} {reason : Option Nat} {s : State} (ok : TablesOk s) : TablesOk (recordFragment q reason s) :=
  ok_ite (fun _ => tablesOk_bump32 ok) (fun _ => ok_foldl (fun _ _ h1 => tablesOk_takeRecord h1) (tablesOk_with (tablesOk_bump32 (tablesOk_with ok))))

theorem outOk_execFragLookup {t : Nat} {pkt : Checked Nat} {s : State} (ok : TablesOk s) : OutOk (execFragLookup t pkt s) := by
  unfold execFragLookup
  refine outOk_next ?_
  split
  · exact ok
  · refine ok_ite (fun _ => ?_) (fun _ => ok)
    refine ok_unless (tablesOk_takeChecked (tablesOk_advance ok)) (fun h1 => ?_)
    dsimp only
    split
    · exact tablesOk_takeRecord (tablesOk_updPacket (tablesOk_bump64 h1))
    · exact ok_ite (fun _ => tablesOk_takePortDefault (tablesOk_bump32 (tablesOk_updPacket (tablesOk_bump64 h1)))) (fun _ =>
        tablesOk_with (tablesOk_updPacket (tablesOk_updPacket (tablesOk_bump64 h1))))

theorem outOk_execFragWaitTimeout {t id : Nat} {s : State} (ok : TablesOk s) : OutOk (execFragWaitTimeout t id s) := by
  unfold execFragWaitTimeout
  refine outOk_next ?_
  split
  · exact ok
  · exact ok_ite (fun _ => tablesOk_takePortDefault (tablesOk_bump32 (tablesOk_with (tablesOk_advance ok)))) (fun _ => ok)

theorem outOk_execFragRecordExpire {t record : Nat} {s : State} (ok : TablesOk s) : OutOk (execFragRecordExpire t record s) :=
  outOk_next (ok_ite (fun _ => tablesOk_with (tablesOk_advance ok)) (fun _ => ok))

theorem tablesOk_cmdFragFlush {env : Env} {p : Bytes} {s : State} (ok : TablesOk s) : PairOk (cmdFragFlush env p s) :=
  pairOk_ite (fun _ => tablesOk_refuse ok) (fun _ => pairOk_ite (fun _ => pairOk_ite (fun _ => tablesOk_with ok) (fun _ =>
      tablesOk_refuse ok)) (fun _ => tablesOk_with ok))

theorem tablesOk_resolvePacket {q0 : Pkt} {s0 : State} (ok : TablesOk s0) : TablesOk (resolvePacket q0 s0) := by
  unfold resolvePacket
  refine ok_ite (fun _ => ?_) (fun _ => ?_)
  · refine tablesOk_updPacket ?_
    refine tablesOk_updPacket ?_
    split
    · exact tablesOk_setLabel ok
    · exact ok
  · dsimp only
    split
    · refine tablesOk_toException ?_
      refine ok_unless ?_ (fun h1 => ok_foldl (fun _ _ h3 => tablesOk_bump32 h3) h1)
      refine ok_when ?_ (fun h2 => tablesOk_recordFragment h2)
      refine tablesOk_updPacket ?_
      split
      · exact tablesOk_setLabel ok
      · exact ok
    · refine tablesOk_updPacket ?_
      refine ok_foldl (fun _ _ h4 => tablesOk_bump32 h4) ?_
      refine ok_when ?_ (fun h5 => tablesOk_recordFragment h5)
      refine tablesOk_updPacket ?_
      split
      · exact tablesOk_setLabel ok
      · exact ok

theorem outOk_execActionResolve {t id : Nat} {s : State} (ok : TablesOk s) : OutOk (execActionResolve t id s) := by
  unfold execActionResolve
  refine outOk_next ?_
  split
  · exact ok
  · exact ok_ite (fun _ => tablesOk_resolvePacket (tablesOk_advance ok)) (fun _ => ok)

theorem tablesOk_wrEgroup {g w v : Nat} {s : State} (ok : TablesOk s) : PairOk (wrEgroup g w v s) :=
  pairOk_ite (fun _ => pairOk_ite (fun _ => ok) (fun _ => tablesOk_setGroupReg ok)) (fun _ => tablesOk_setGroupReg ok)

theorem tablesOk_wrEncap {e w v : Nat} {s : State} (ok : TablesOk s) : PairOk (wrEncap e w v s) :=
  pairOk_ite (fun _ => ok) (fun _ => tablesOk_setReg ok)

theorem tablesOk_wrPortDefault {L v : Nat} {s : State} (ok : TablesOk s) : PairOk (wrPortDefault L v s) :=
  pairOk_ite (fun _ => ok) (fun _ => tablesOk_setReg ok)

theorem tablesOk_wrExcRate {v0 : Nat} {s : State} (ok : TablesOk s) : PairOk (wrExcRate v0 s) :=
  pairOk_ite (fun _ => ok) (fun _ => tablesOk_setReg (tablesOk_refillExceptions ok))

theorem tablesOk_wrExcPortRate {L v0 : Nat} {s : State} (ok : TablesOk s) : PairOk (wrExcPortRate L v0 s) :=
  pairOk_ite (fun _ => ok) (fun _ => tablesOk_setReg (tablesOk_refillExceptions ok))

theorem tablesOk_wrExcBurst {v0 : Nat} {s : State} (ok : TablesOk s) : PairOk (wrExcBurst v0 s) :=
  pairOk_ite (fun _ => ok) (fun _ => ok_foldl (fun _ _ h1 => tablesOk_with h1) (tablesOk_setReg (tablesOk_refillExceptions ok)))

/-! The functions of `Machine/Trace` -/

theorem tablesOk_setRing {s : State} {d : Nat} {r : StippleRing} (ok : TablesOk s) : TablesOk (State.setRing s d r) :=
  tablesOk_with ok

theorem tablesOk_spill {d seq : Nat} {w : W256} {x : TraceSession} {s : State} (ok : TablesOk s) : TablesOk (spill d seq w x s) :=
  ok_ite (fun _ => ok) (fun _ => tablesOk_storeBytes ok)

theorem tablesOk_stopRing {d : Nat} {x : TraceSession} {s : State} (ok : TablesOk s) : TablesOk (stopRing d x s) :=
  ok_when (tablesOk_setRing ok) (fun h1 => tablesOk_raiseEvent (tablesOk_setFlag h1))

theorem tablesOk_appendRecord {d : Nat} {w : W256} {s : State} (ok : TablesOk s) : TablesOk (appendRecord d w s) := by
  unfold appendRecord
  split
  · exact ok
  · refine ok_ite (fun _ => ok) (fun _ => ?_)
    dsimp only
    split
    · exact ok_when (tablesOk_setRing (tablesOk_bump32 (tablesOk_spill ok))) (fun h1 => tablesOk_stopRing h1)
    · exact ok_ite (fun _ => ok_when (tablesOk_setRing (tablesOk_bump32 (tablesOk_spill ok))) (fun h2 => tablesOk_stopRing h2)) (fun _ =>
        tablesOk_coalesceEvent (tablesOk_bump32 (tablesOk_setRing (tablesOk_bump32 (tablesOk_spill ok)))))

theorem tablesOk_dropRecord {d : Nat} {w : W256} {s : State} (ok : TablesOk s) : TablesOk (dropRecord d w s) := by
  unfold dropRecord
  split
  · exact ok
  · exact tablesOk_coalesceEvent (tablesOk_bump32 (tablesOk_setRing ok))

theorem tablesOk_acceptRecord {d : Nat} {w : W256} {s : State} (ok : TablesOk s) : TablesOk (acceptRecord d w s) :=
  ok_ite (fun _ => tablesOk_appendRecord ok) (fun _ => tablesOk_appendRecord (tablesOk_appendRecord (tablesOk_setRing ok)))

theorem tablesOk_writeRecord {d : Nat} {w : W256} {s : State} (ok : TablesOk s) : TablesOk (writeRecord d w s) :=
  ok_ite (fun _ => tablesOk_dropRecord ok) (fun _ => tablesOk_acceptRecord ok)

theorem tablesOk_fabricRecord {kind peer port vc seq tenant xfer ty : Nat}
    {s : State} (ok : TablesOk s) : TablesOk (fabricRecord kind peer port vc seq tenant xfer ty s) :=
  ok_ite (fun _ => tablesOk_writeRecord ok) (fun _ => ok)

theorem tablesOk_traceCause {cause : Nat} {s : State} (ok : TablesOk s) : TablesOk (traceCause cause s) := by
  unfold traceCause
  split
  · exact tablesOk_with ok
  · exact ok

theorem tablesOk_fireTrigger {cause origin detail stamp zc : Nat}
    {s : State} (ok : TablesOk s) : TablesOk (fireTrigger cause origin detail stamp zc s) := by
  unfold fireTrigger
  split
  · exact ok
  · exact tablesOk_raiseEvent (tablesOk_setReg (tablesOk_setReg (tablesOk_setFlag (ok_foldl (fun _ _ h1 =>
      tablesOk_setRing (tablesOk_acceptRecord h1)) ok))))

/-! The functions of `Machine/Link` -/

theorem tablesOk_noteSends {s : State} (ok : TablesOk s) : TablesOk (noteSends s) :=
  ok_foldl (fun _ _ h1 => tablesOk_writeRecord h1) (tablesOk_with ok)

theorem tablesOk_dispatch {k : FabPkt} {s : State} (ok : TablesOk s) : TablesOk (dispatch k s) :=
  tablesOk_noteSends (tablesOk_route ok)

theorem tablesOk_retryHeld {s : State} (ok : TablesOk s) : TablesOk (retryHeld s) :=
  tablesOk_noteSends (tablesOk_routeHeld ok)

theorem tablesOk_sendPacket {h : Header} {data : List W256} {s : State} (ok : TablesOk s) : TablesOk (sendPacket h data s) :=
  tablesOk_noteSends (tablesOk_sendRaw ok)

theorem tablesOk_sendCtrl {k : CtrlKind} {dst : Nat} {args : List Nat} {s : State} (ok : TablesOk s) : TablesOk (sendCtrl k dst args s) :=
  ok_foldl (fun _ _ h1 => tablesOk_sendPacket h1) ok

theorem tablesOk_appendLog {kind : Nat} {body : List Nat} {s : State} (ok : TablesOk s) : TablesOk (appendLog kind body s) :=
  ok_foldl (fun _ _ h1 => tablesOk_sendCtrl h1) (tablesOk_with ok)

theorem tablesOk_logDecision {kind : Nat} {body : List Nat} {s : State} (ok : TablesOk s) : TablesOk (logDecision kind body s) :=
  ok_ite (fun _ => tablesOk_appendLog ok) (fun _ => ok_ite (fun _ => tablesOk_sendCtrl ok) (fun _ => ok))

theorem tablesOk_portDown {p cause : Nat} {s : State} (ok : TablesOk s) : TablesOk (portDown p cause s) :=
  tablesOk_retryHeld (ok_when (tablesOk_with (tablesOk_setField (tablesOk_setFlag ok))) (fun h1 => tablesOk_raiseEvent h1))

theorem tablesOk_openCredits {p : Nat} {s : State} (ok : TablesOk s) : TablesOk (openCredits p s) :=
  tablesOk_noteSends (ok_foldl (fun _ _ h1 => ok_ite (fun _ => h1) (fun _ => tablesOk_sendCredit h1)) (ok_foldl (fun _ _ h2 => tablesOk_with h2) ok))

theorem tablesOk_portTrained {p device partner : Nat} {s : State} (ok : TablesOk s) : TablesOk (portTrained p device partner s) :=
  tablesOk_retryHeld (tablesOk_raiseEvent (tablesOk_openCredits (tablesOk_setReg (tablesOk_setFlag (tablesOk_setField ok)))))

/-! The functions of `Machine/Cells` -/

theorem tablesOk_setStore {s : State} {c w : Nat} {v : W256} (ok : TablesOk s) : TablesOk (State.setStore s c w v) :=
  tablesOk_with ok

theorem tablesOk_bumpArrive {c ctr : Nat} {s : State} (ok : TablesOk s) : TablesOk (bumpArrive c ctr s) :=
  tablesOk_bump32 ok

theorem tablesOk_zeroCell {c : Nat} {s : State} (ok : TablesOk s) : TablesOk (zeroCell c s) :=
  tablesOk_setFlag (tablesOk_updCell (tablesOk_with (ok_foldl (fun _ _ h1 => tablesOk_setReg h1) ok)))

theorem outOk_execZeroingDone {t c : Nat} {s : State} (ok : TablesOk s) : OutOk (execZeroingDone t c s) :=
  outOk_next (ok_ite (fun _ => tablesOk_setFlag (tablesOk_advance ok)) (fun _ => ok))

theorem tablesOk_leaveTrace {c st tenant : Nat} {s : State} (ok : TablesOk s) : TablesOk (leaveTrace c st tenant s) := by
  unfold leaveTrace
  split
  · exact ok_ite (fun _ => tablesOk_with ok) (fun _ => ok)
  · exact ok

theorem tablesOk_setCellState {c st tenant : Nat} {s : State} (ok : TablesOk s) : TablesOk (setCellState c st tenant s) :=
  tablesOk_setFlag (tablesOk_leaveTrace (tablesOk_setField (tablesOk_setField ok)))

theorem tablesOk_unassignCell {c : Nat} {s : State} (ok : TablesOk s) : TablesOk (unassignCell c s) :=
  tablesOk_zeroCell (tablesOk_with (tablesOk_setFlag (tablesOk_setReg (tablesOk_setCellState ok))))

theorem tablesOk_enterPool {target tenant c : Nat} {s : State} (ok : TablesOk s) : TablesOk (enterPool target tenant c s) :=
  ok_when (tablesOk_updCell (tablesOk_setCellState (ok_ite (fun _ => tablesOk_zeroCell ok) (fun _ => ok)))) (fun h1 => tablesOk_setReg h1)

theorem tablesOk_cmdCellAssign {e : Env} {p : Bytes} {s : State} (ok : TablesOk s) : PairOk (cmdCellAssign e p s) := by
  unfold cmdCellAssign
  refine pairOk_ite (fun _ => tablesOk_refuse ok) (fun _ => ?_)
  refine pairOk_ite (fun _ => tablesOk_refuse ok) (fun _ => ?_)
  dsimp only
  split
  · exact ok
  · exact pairOk_ite (fun _ => ok_foldl (fun _ _ h1 => tablesOk_unassignCell h1) ok) (fun _ => ok_when (ok_foldl (fun _ _ h3 =>
      tablesOk_enterPool h3) ok) (fun h2 => tablesOk_startRelease h2))

theorem tablesOk_cmdCellQuery {e : Env} {p : Bytes} {s : State} (ok : TablesOk s) : PairOk (cmdCellQuery e p s) :=
  pairOk_ite (fun _ => tablesOk_refuse ok) (fun _ => ok)

theorem tablesOk_wrStoreCmd {t c v : Nat} {s : State} (ok : TablesOk s) : PairOk (wrStoreCmd t c v s) :=
  pairOk_ite (fun _ => ok) (fun _ => pairOk_ite (fun _ => ok) (fun _ => tablesOk_setReg (tablesOk_updCell (tablesOk_bump32 (tablesOk_with ok)))))

theorem tablesOk_rdStoreData {c i : Nat} {s : State} (ok : TablesOk s) : PairOk (rdStoreData c i s) :=
  ok_ite (fun _ => tablesOk_updCell ok) (fun _ => ok)

theorem tablesOk_cmdMemWindowSet {e : Env} {p : Bytes} {s : State} (ok : TablesOk s) : PairOk (cmdMemWindowSet e p s) :=
  pairOk_ite (fun _ => tablesOk_refuse ok) (fun _ => pairOk_ite (fun _ => tablesOk_refuse ok) (fun _ => pairOk_ite (fun _ =>
      tablesOk_withMem ok) (fun _ => pairOk_ite (fun _ => tablesOk_refuse ok) (fun _ => tablesOk_withMem ok))))

theorem tablesOk_cmdMemMapRead {e : Env} {p : Bytes} {s : State} (ok : TablesOk s) : PairOk (cmdMemMapRead e p s) :=
  pairOk_ite (fun _ => tablesOk_refuse ok) (fun _ => ok)

theorem tablesOk_stopCell {c : Nat} {s : State} (ok : TablesOk s) : TablesOk (stopCell c s) :=
  tablesOk_with (tablesOk_updCell (tablesOk_setFlag (tablesOk_setReg (tablesOk_setReg ok))))

theorem tablesOk_returnCells {j : Job} {s : State} (ok : TablesOk s) : TablesOk (returnCells j s) :=
  tablesOk_with (tablesOk_unhaltClusters (ok_foldl (fun _ _ h1 => tablesOk_updCell (tablesOk_setReg (tablesOk_stopCell h1))) ok))

theorem tablesOk_endJob {tenant id st status : Nat} {s : State} (ok : TablesOk s) : TablesOk (endJob tenant id st status s) := by
  unfold endJob
  split
  · exact ok_ite (fun _ => tablesOk_setJobState (tablesOk_returnCells ok)) (fun _ => ok)
  · exact ok

theorem tablesOk_failJob {tenant id status : Nat} {s : State} (ok : TablesOk s) : TablesOk (failJob tenant id status s) :=
  tablesOk_endJob ok

theorem tablesOk_failBack {tenant id status : Nat} {s : State} (ok : TablesOk s) : TablesOk (failBack tenant id status s) := by
  unfold failBack
  split
  · exact ok
  · exact ok_ite (fun _ => ok) (fun _ => ok_ite (fun _ => tablesOk_failJob ok) (fun _ => ok_ite (fun _ => tablesOk_failJob ok) (fun _ =>
      tablesOk_setJobState (tablesOk_updJob (tablesOk_with (tablesOk_unhaltClusters (ok_foldl (fun _ _ h1 => tablesOk_stopCell h1) ok)))))))

/-! The functions of `Machine/Copy` -/

theorem tablesOk_updSlot {s : State} {zone slot : Nat} {f : LandSlot → LandSlot} (ok : TablesOk s) : TablesOk (State.updSlot s zone slot f) :=
  tablesOk_with ok

theorem tablesOk_copyStore {src c w : Nat} {v : W256} {s : State} (ok : TablesOk s) : TablesOk (copyStore src c w v s) :=
  ok_ite (fun _ => ok) (fun _ => tablesOk_with (tablesOk_setStore ok))

theorem tablesOk_writeSpan {s : State} {t src ty off : Nat} {v : W256} (ok : TablesOk s) : TablesOk (State.writeSpan s t src ty off v) :=
  ok_ite (fun _ => tablesOk_copyStore ok) (fun _ => ok_ite (fun _ => ok) (fun _ => tablesOk_with (tablesOk_storeBytes ok)))

theorem tablesOk_countWords {k : Nat} {src dst : Option Nat} {n : Nat} {s : State} (ok : TablesOk s) : TablesOk (countWords k src dst n s) := by
  unfold countWords
  split
  · exact ok_ite (fun _ => tablesOk_bump64 ok) (fun _ => tablesOk_bump64 (tablesOk_bump64 ok))
  · exact tablesOk_bump64 ok
  · exact tablesOk_bump64 ok
  · exact tablesOk_bump64 (tablesOk_bump64 ok)

theorem tablesOk_moveWord {f : Flight} {s : State} {p : Nat × Nat} (ok : TablesOk s) : TablesOk (moveWord f s p) :=
  tablesOk_countWords (tablesOk_writeSpan (ok_ite (fun _ => ok) (fun _ => tablesOk_countHbm ok)))

theorem tablesOk_moveWords {f : Flight} {n : Nat} {s : State} (ok : TablesOk s) : TablesOk (moveWords f n s) :=
  ok_foldl (fun _ _ h1 => tablesOk_moveWord h1) ok

theorem tablesOk_dropFlight {id : Nat} {s : State} (ok : TablesOk s) : TablesOk (dropFlight id s) :=
  tablesOk_with ok

theorem tablesOk_syncQueues {c : Nat} {s : State} (ok : TablesOk s) : TablesOk (syncQueues c s) :=
  tablesOk_setField (tablesOk_setField ok)

theorem tablesOk_syncSoft {k : Nat} {s : State} (ok : TablesOk s) : TablesOk (syncSoft k s) :=
  tablesOk_setField ok

theorem tablesOk_copyFault {f : Flight} {cause : Nat} {s0 : State} (ok : TablesOk s0) : TablesOk (copyFault f cause s0) := by
  unfold copyFault
  dsimp only
  split
  · exact ok_ite (fun _ =>
      tablesOk_failJob (tablesOk_raiseEvent (tablesOk_bump32 (tablesOk_setReg (tablesOk_setFlag (tablesOk_dropFlight ok)))))) (fun _ =>
      tablesOk_failBack (tablesOk_raiseEvent (tablesOk_bump32 (tablesOk_setReg (tablesOk_setFlag (tablesOk_dropFlight ok))))))
  · exact tablesOk_raiseFor (tablesOk_with (tablesOk_setField (tablesOk_setFlag (tablesOk_dropFlight ok))))

theorem tablesOk_publish {z : Zone} {i : Nat} {s : State} (ok : TablesOk s) : TablesOk (publish z i s) :=
  tablesOk_updSlot (ok_foldl (fun _ _ h1 => tablesOk_bumpArrive h1) ok)

theorem tablesOk_confirmTuple {src job step attempt : Nat} {s : State} (ok : TablesOk s) : TablesOk (confirmTuple src job step attempt s) :=
  ok_foldl (fun _ _ h1 => ok_ite (fun _ => tablesOk_updSlot h1) (fun _ => tablesOk_publish h1)) ok

theorem tablesOk_dropPending {zone slot : Nat} {s : State} (ok : TablesOk s) : TablesOk (dropPending zone slot s) :=
  tablesOk_updSlot ok

theorem tablesOk_revokeTuple {src job step attempt : Nat} {s : State} (ok : TablesOk s) : TablesOk (revokeTuple src job step attempt s) :=
  ok_foldl (fun _ _ h1 => tablesOk_dropPending h1) ok

theorem tablesOk_endReads {flight : Nat} {s : State} (ok : TablesOk s) : TablesOk (endReads flight s) := by
  unfold endReads
  refine ok_foldl (fun _ _ h1 => ?_) (tablesOk_with ok)
  split
  · exact ok_ite (fun _ => tablesOk_publish h1) (fun _ => h1)
  · exact h1

theorem tablesOk_markPending {off src step attempt notice : Nat} {notify : Bool}
    {s : State} (ok : TablesOk s) : TablesOk (markPending off src step attempt notice notify s) := by
  unfold markPending
  split
  · exact ok
  · exact tablesOk_updSlot ok

theorem tablesOk_sendToken {ty : Nat} {x : SendList} {dev : Nat} {s : State} (ok : TablesOk s) : TablesOk (sendToken ty x dev s) :=
  tablesOk_sendPacket ok

theorem tablesOk_updSend {s : State} {id : Nat} {f : SendList → SendList} (ok : TablesOk s) : TablesOk (State.updSend s id f) :=
  tablesOk_with ok

theorem tablesOk_resendList {x : SendList} {s : State} (ok : TablesOk s) : TablesOk (resendList x s) :=
  tablesOk_syncQueues (tablesOk_updCell (tablesOk_updSend ok))

theorem tablesOk_advanceSend {id : Nat} {s : State} (ok : TablesOk s) : TablesOk (advanceSend id s) := by
  unfold advanceSend
  split
  · exact ok
  · refine ok_ite (fun _ => ok) (fun _ => ?_)
    split
    · exact ok
    · exact ok_ite (fun _ => ok) (fun _ => tablesOk_with (ok_foldl (fun _ _ h1 => ok_ite (fun _ => tablesOk_confirmTuple h1) (fun _ =>
        tablesOk_sendToken h1)) ok))
    · exact ok_ite (fun _ => ok) (fun _ => ok_ite (fun _ => tablesOk_with ok) (fun _ => ok_ite (fun _ => tablesOk_resendList ok) (fun _ => ok)))

theorem tablesOk_sendRevokes {id : Nat} {s : State} (ok : TablesOk s) : TablesOk (sendRevokes id s) := by
  unfold sendRevokes
  split
  · exact ok
  · exact ok_unless (tablesOk_updSend ok) (fun h1 => tablesOk_updSend (ok_foldl (fun _ _ h2 => ok_ite (fun _ => tablesOk_revokeTuple h2) (fun _ =>
      tablesOk_sendToken h2)) h1))

theorem tablesOk_advanceSends {s : State} (ok : TablesOk s) : TablesOk (advanceSends s) :=
  ok_foldl (fun _ _ h1 => tablesOk_advanceSend (tablesOk_sendRevokes h1)) ok

theorem tablesOk_settleSend {cell step : Nat} {good : Bool} {s : State} (ok : TablesOk s) : TablesOk (settleSend cell step good s) := by
  unfold settleSend
  split
  · exact ok
  · exact ok_ite (fun _ => tablesOk_advanceSends (tablesOk_updSend ok)) (fun _ => tablesOk_advanceSends (tablesOk_updSend ok))

theorem tablesOk_notifyCopy {f : Flight} {s : State} (ok : TablesOk s) : TablesOk (notifyCopy f s) := by
  unfold notifyCopy
  split
  · exact tablesOk_raiseFor ok
  · refine ok_ite (fun _ => ok) (fun _ => ?_)
    split
    · split
      · exact ok_ite (fun _ => tablesOk_bumpArrive ok) (fun _ => tablesOk_sendPacket ok)
      · exact tablesOk_bumpArrive ok
    · exact tablesOk_bumpArrive ok

theorem tablesOk_finishFlight {f : Flight} {s : State} (ok : TablesOk s) : TablesOk (finishFlight f s) :=
  tablesOk_advanceSends (tablesOk_endReads (tablesOk_notifyCopy (tablesOk_dropFlight ok)))

theorem tablesOk_beginReads {f : Flight} {s : State} (ok : TablesOk s) : TablesOk (beginReads f s) :=
  ok_ite (fun _ => ok) (fun _ => tablesOk_with ok)

theorem tablesOk_countCorrected {f : Flight} {n : Nat} {s : State} (ok : TablesOk s) : TablesOk (countCorrected f n s) := by
  unfold countCorrected
  dsimp only
  split
  · exact tablesOk_bump32 ok
  · exact ok_ite (fun _ => ok) (fun _ => tablesOk_bump32 ok)

theorem tablesOk_reportUncorr {f : Flight} {s : State} (ok : TablesOk s) : TablesOk (reportUncorr f s) :=
  ok_ite (fun _ => ok) (fun _ => tablesOk_raiseEvent (tablesOk_setReg (tablesOk_bump32 ok)))

theorem tablesOk_checkSource {f : Flight} {s : State} (ok : TablesOk s) : PairOk (checkSource f s) :=
  pairOk_ite (fun _ => tablesOk_reportUncorr (tablesOk_countCorrected (tablesOk_with ok))) (fun _ => tablesOk_countCorrected (tablesOk_with ok))

theorem tablesOk_launchRemote {f : Flight} {peer : Nat} {s : State} (ok : TablesOk s) : TablesOk (launchRemote f peer s) :=
  ok_ite (fun _ => ok_ite (fun _ => tablesOk_copyFault (tablesOk_checkSource ok)) (fun _ => ok_foldl (fun _ _ h1 =>
      tablesOk_countWords (tablesOk_sendPacket h1)) (tablesOk_with (tablesOk_checkSource ok)))) (fun _ => tablesOk_sendPacket (tablesOk_with ok))

theorem tablesOk_launchFlight {f : Flight} {s : State} (ok : TablesOk s) : TablesOk (launchFlight f s) := by
  unfold launchFlight
  refine ok_ite (fun _ => tablesOk_copyFault (tablesOk_with ok)) (fun _ => ?_)
  split
  · exact tablesOk_launchRemote (tablesOk_with ok)
  · exact tablesOk_beginReads (tablesOk_with (tablesOk_with ok))

theorem tablesOk_launchCellCopy {j : Job} {c q slot : Nat} {d : CopyDesc} {quiet : Bool}
    {s : State} (ok : TablesOk s) : TablesOk (launchCellCopy j c q slot d quiet s) := by
  unfold launchCellCopy
  refine tablesOk_launchFlight ?_
  refine tablesOk_syncQueues ?_
  refine ok_when ?_ (fun h1 => tablesOk_bump32 h1)
  split
  · exact tablesOk_updSend ok
  · exact ok

theorem tablesOk_copyLaunch {q : Nat} {s : State} (ok : TablesOk s) : TablesOk (copyLaunch q s) := by
  unfold copyLaunch
  refine ok_ite (fun _ => ?_) (fun _ => ?_)
  · dsimp only
    split
    · exact ok_ite (fun _ => tablesOk_launchCellCopy (tablesOk_updCell ok)) (fun _ => ok)
    · exact ok
  · dsimp only
    split
    · exact ok
    · exact ok_ite (fun _ => ok) (fun _ => tablesOk_launchFlight (tablesOk_syncSoft (tablesOk_with ok)))

theorem outOk_execCopyLaunch {t q : Nat} {s : State} (ok : TablesOk s) : OutOk (execCopyLaunch t q s) :=
  outOk_next (ok_ite (fun _ => tablesOk_copyLaunch (tablesOk_advance ok)) (fun _ => ok))

theorem tablesOk_markLocal {f : Flight} {s : State} (ok : TablesOk s) : TablesOk (markLocal f s) :=
  ok_ite (fun _ => ok) (fun _ => ok_foldl (fun _ _ h1 => tablesOk_markPending h1) ok)

theorem tablesOk_copyComplete {id : Nat} {bad : Bool} {corrected : Nat}
    {s : State} (ok : TablesOk s) : TablesOk (copyComplete id bad corrected s) := by
  unfold copyComplete
  split
  · exact ok
  · exact ok_ite (fun _ => ok) (fun _ => ok_ite (fun _ => ok_ite (fun _ =>
      tablesOk_advanceSends (tablesOk_endReads (tablesOk_dropFlight ok))) (fun _ => tablesOk_copyFault (tablesOk_endReads ok))) (fun _ =>
      ok_ite (fun _ => ok_ite (fun _ =>
      tablesOk_copyFault (tablesOk_endReads (tablesOk_moveWords (tablesOk_with (tablesOk_countCorrected (tablesOk_markLocal ok)))))) (fun _ =>
      tablesOk_copyFault (tablesOk_reportUncorr (tablesOk_endReads (tablesOk_moveWords (tablesOk_with (tablesOk_countCorrected
      (tablesOk_markLocal ok)))))))) (fun _ => tablesOk_finishFlight (tablesOk_moveWords (tablesOk_countCorrected (tablesOk_markLocal ok))))))

theorem outOk_execCopyComplete {t id : Nat} {check : CopyCheck} {s : State} (ok : TablesOk s) : OutOk (execCopyComplete t id check s) :=
  outOk_next (tablesOk_copyComplete (tablesOk_advance ok))

theorem outOk_execCopyTimeoutExpiry {t id : Nat} {s : State} (ok : TablesOk s) : OutOk (execCopyTimeoutExpiry t id s) := by
  unfold execCopyTimeoutExpiry
  refine outOk_next ?_
  split
  · exact ok_ite (fun _ => tablesOk_advanceSends (tablesOk_endReads (tablesOk_copyFault (tablesOk_advance ok)))) (fun _ => ok)
  · exact ok

theorem tablesOk_sendAck {h : Header} {cause : Nat} {s : State} (ok : TablesOk s) : TablesOk (sendAck h cause s) :=
  tablesOk_sendPacket ok

theorem tablesOk_takeWrData {h : Header} {data : List W256} {s : State} (ok : TablesOk s) : TablesOk (takeWrData h data s) :=
  ok_ite (fun _ => tablesOk_sendAck ok) (fun _ => tablesOk_sendAck (tablesOk_countWords (ok_foldl (fun _ _ h1 =>
      tablesOk_writeSpan h1) (ok_ite (fun _ => tablesOk_markPending ok) (fun _ => ok)))))

theorem tablesOk_takeRdReq {h : Header} {data : List W256} {s : State} (ok : TablesOk s) : TablesOk (takeRdReq h data s) :=
  ok_ite (fun _ => tablesOk_sendAck ok) (fun _ => ok_ite (fun _ => tablesOk_sendAck (tablesOk_checkSource ok)) (fun _ => ok_foldl (fun _ _ h1 =>
      tablesOk_sendPacket h1) (tablesOk_checkSource ok)))

theorem tablesOk_takeRdData {h : Header} {data : List W256} {s : State} (ok : TablesOk s) : TablesOk (takeRdData h data s) := by
  unfold takeRdData
  split
  · exact ok
  · exact ok_ite (fun _ => tablesOk_advanceSends (tablesOk_copyFault (tablesOk_endReads ok))) (fun _ => ok_ite (fun _ =>
      tablesOk_finishFlight (tablesOk_countWords (ok_foldl (fun _ _ h1 => ok_ite (fun _ => tablesOk_writeSpan h1) (fun _ => h1)) ok))) (fun _ =>
      tablesOk_with (tablesOk_countWords (ok_foldl (fun _ _ h2 => ok_ite (fun _ => tablesOk_writeSpan h2) (fun _ => h2)) ok))))

theorem tablesOk_takeAck {h : Header} {s : State} (ok : TablesOk s) : TablesOk (takeAck h s) := by
  unfold takeAck
  refine ok_ite (fun _ => ?_) (fun _ => ?_)
  · split
    · exact tablesOk_advanceSends (tablesOk_updSend ok)
    · exact ok
  · split
    · exact ok
    · exact ok_ite (fun _ => tablesOk_advanceSends (tablesOk_copyFault (tablesOk_endReads ok))) (fun _ => ok_ite (fun _ => ok) (fun _ =>
        ok_ite (fun _ => tablesOk_finishFlight ok) (fun _ => tablesOk_with ok)))

theorem tablesOk_takeNotify {h : Header} {s : State} (ok : TablesOk s) : TablesOk (takeNotify h s) := by
  unfold takeNotify
  split
  · exact ok_ite (fun _ => tablesOk_bumpArrive ok) (fun _ => ok)
  · exact ok

theorem tablesOk_takeConfirm {h : Header} {s : State} (ok : TablesOk s) : TablesOk (takeConfirm h s) :=
  tablesOk_confirmTuple ok

theorem tablesOk_takeRevoke {h : Header} {s : State} (ok : TablesOk s) : TablesOk (takeRevoke h s) :=
  tablesOk_sendPacket (tablesOk_revokeTuple ok)

theorem outOk_execRevokeResend {t id : Nat} {s : State} (ok : TablesOk s) : OutOk (execRevokeResend t id s) := by
  unfold execRevokeResend
  refine outOk_next ?_
  split
  · exact ok_ite (fun _ => ok) (fun _ => tablesOk_updSend (ok_foldl (fun _ _ h1 => tablesOk_sendToken h1) (tablesOk_advance ok)))
  · exact ok

theorem outOk_execSpecTimeoutExpiry {t zone slot : Nat} {s : State} (ok : TablesOk s) : OutOk (execSpecTimeoutExpiry t zone slot s) := by
  unfold execSpecTimeoutExpiry
  refine outOk_next ?_
  split
  · split
    · exact ok_ite (fun _ => tablesOk_failBack (tablesOk_raiseEvent (tablesOk_dropPending (tablesOk_advance ok)))) (fun _ => ok)
    · exact ok
  · exact ok

theorem tablesOk_cmdCopySubmit {e : Env} {p : Bytes} {s : State} (ok : TablesOk s) : PairOk (cmdCopySubmit e p s) :=
  pairOk_ite (fun _ => tablesOk_refuse ok) (fun _ => pairOk_ite (fun _ => tablesOk_refuse ok) (fun _ => pairOk_ite (fun _ =>
      tablesOk_refuse ok) (fun _ => tablesOk_syncSoft (tablesOk_with ok))))

theorem tablesOk_cmdCopyStatus {e : Env} {p : Bytes} {s : State} (ok : TablesOk s) : PairOk (cmdCopyStatus e p s) :=
  pairOk_ite (fun _ => tablesOk_refuse ok) (fun _ => ok)

theorem tablesOk_cmdLandingSet {e : Env} {p : Bytes} {s : State} (ok : TablesOk s) : PairOk (cmdLandingSet e p s) := by
  unfold cmdLandingSet
  refine pairOk_ite (fun _ => tablesOk_refuse ok) (fun _ => ?_)
  refine pairOk_ite (fun _ => tablesOk_refuse ok) (fun _ => ?_)
  split
  · exact tablesOk_refuse ok
  · exact pairOk_ite (fun _ => tablesOk_refuse ok) (fun _ => pairOk_ite (fun _ => tablesOk_refuse ok) (fun _ => pairOk_ite (fun _ =>
      tablesOk_refuse ok) (fun _ => ok_when (tablesOk_with ok) (fun h1 => tablesOk_logDecision h1))))

theorem tablesOk_cmdLandingClear {e : Env} {p : Bytes} {s : State} (ok : TablesOk s) : PairOk (cmdLandingClear e p s) := by
  unfold cmdLandingClear
  refine pairOk_ite (fun _ => tablesOk_refuse ok) (fun _ => ?_)
  split
  · exact ok
  · exact pairOk_ite (fun _ => tablesOk_refuse ok) (fun _ => pairOk_ite (fun _ => tablesOk_refuse ok) (fun _ =>
      ok_when (tablesOk_with ok) (fun h1 => tablesOk_logDecision h1)))

/-! The functions of `Machine/Aperture` -/

theorem tablesOk_hostWrite {tenant ty off : Nat} {data : Bytes} {s : State} (ok : TablesOk s) : TablesOk (hostWrite tenant ty off data s) :=
  ok_foldl (fun _ _ h1 => tablesOk_writeSpan h1) ok

theorem tablesOk_countRead {ty off len : Nat} {s : State} (ok : TablesOk s) : TablesOk (countRead ty off len s) :=
  ok_foldl (fun _ _ h1 => tablesOk_countHbm h1) ok

theorem tablesOk_bar2Abort {s : State} (ok : TablesOk s) : TablesOk (bar2Abort s) :=
  tablesOk_emit (tablesOk_bump32 ok)

theorem tablesOk_askWords {x : RemoteAccess} {off n : Nat} {s : State} (ok : TablesOk s) : TablesOk (askWords x off n s) :=
  tablesOk_sendPacket ok

theorem tablesOk_writeRemote {x : RemoteAccess} {s : State} (ok : TablesOk s) : TablesOk (writeRemote x s) :=
  ok_foldl (fun _ _ h1 => tablesOk_sendPacket h1) (tablesOk_with ok)

theorem tablesOk_startRemote {write : Bool} {tenant addr len : Nat} {data : Bytes}
    {s0 : State} (ok : TablesOk s0) : TablesOk (startRemote write tenant addr len data s0) :=
  ok_ite (fun _ => tablesOk_askWords (tablesOk_with (tablesOk_with ok))) (fun _ => ok_ite (fun _ =>
      tablesOk_writeRemote (tablesOk_with ok)) (fun _ => ok_foldl (fun _ _ h1 => tablesOk_askWords h1) (tablesOk_with (tablesOk_with ok))))

theorem tablesOk_hostAccess {x : HostAccess} {s : State} (ok : TablesOk s) : TablesOk (hostAccess x s) :=
  ok_unless (tablesOk_bar2Abort ok) (fun h1 => ok_ite (fun _ => h1) (fun _ => ok_ite (fun _ => tablesOk_startRemote ok) (fun _ => ok_ite (fun _ =>
      tablesOk_hostWrite ok) (fun _ => tablesOk_emit (tablesOk_countRead ok)))))

theorem tablesOk_resumeAccesses {n : Nat} {s : State} (ok : TablesOk s) : TablesOk (resumeAccesses n s) := by
  induction n generalizing s with
  | zero => exact ok
  | succ n ih =>
    unfold resumeAccesses
    split
    · exact ok
    · exact ok_ite (fun _ => ok) (fun _ => ih (tablesOk_hostAccess (tablesOk_with ok)))

theorem tablesOk_endAccess {xfer : Nat} {s : State} (ok : TablesOk s) : TablesOk (endAccess xfer s) :=
  tablesOk_resumeAccesses (tablesOk_with ok)

theorem tablesOk_takeBridgeData {x : RemoteAccess} {h : Header} {data : List W256}
    {s : State} (ok : TablesOk s) : TablesOk (takeBridgeData x h data s) :=
  ok_ite (fun _ => tablesOk_with ok) (fun _ => ok_ite (fun _ => tablesOk_resumeAccesses (tablesOk_writeRemote ok)) (fun _ =>
      tablesOk_emit (tablesOk_endAccess ok)))

theorem tablesOk_takeBridgeAck {x : RemoteAccess} {h : Header} {s : State} (ok : TablesOk s) : TablesOk (takeBridgeAck x h s) :=
  ok_ite (fun _ => tablesOk_bar2Abort (tablesOk_endAccess ok)) (fun _ => ok_ite (fun _ => tablesOk_endAccess ok) (fun _ => tablesOk_with ok))

/-! The functions of `Machine/Model` -/

theorem tablesOk_syncCell {c : Nat} {s : State} (ok : TablesOk s) : TablesOk (syncCell c s) :=
  tablesOk_setReg (tablesOk_updCell (tablesOk_setReg (tablesOk_setReg ok)))

theorem tablesOk_dropCell {key i c : Nat} {s : State} (ok : TablesOk s) : TablesOk (dropCell key i c s) :=
  tablesOk_syncCell (tablesOk_updCell ok)

theorem tablesOk_dropCells {key i : Nat} {cells : List Nat} {s : State} (ok : TablesOk s) : TablesOk (dropCells key i cells s) :=
  ok_foldl (fun _ _ h1 => tablesOk_dropCell h1) ok

theorem tablesOk_updModelSlot {s : State} {key i : Nat} {f : Slot → Slot} (ok : TablesOk s) : TablesOk (State.updModelSlot s key i f) :=
  tablesOk_with ok

theorem tablesOk_freePlacement {key i : Nat} {s : State} (ok : TablesOk s) : TablesOk (freePlacement key i s) :=
  tablesOk_dropCells (tablesOk_updModelSlot ok)

theorem tablesOk_exchangeCell {c : Nat} {s : State} (ok : TablesOk s) : TablesOk (exchangeCell c s) :=
  tablesOk_syncCell (tablesOk_setReg (tablesOk_updCell ok))

theorem tablesOk_putPlacement {key i : Nat} {s : State} (ok : TablesOk s) : TablesOk (putPlacement key i s) :=
  ok_foldl (fun _ _ h1 => ok_foldl (fun _ _ h2 => tablesOk_syncCell (tablesOk_updCell (ok_ite (fun _ => tablesOk_exchangeCell h2) (fun _ =>
      h2)))) h1) ok

theorem tablesOk_activateOwn {key i : Nat} {s : State} (ok : TablesOk s) : TablesOk (activateOwn key i s) :=
  ok_foldl (fun _ _ h1 => ok_ite (fun _ => tablesOk_exchangeCell h1) (fun _ => h1)) ok

theorem tablesOk_checkDrain {t sel : Nat} {s : State} (ok : TablesOk s) : TablesOk (checkDrain t sel s) := by
  unfold checkDrain
  dsimp only
  split
  · exact ok_ite (fun _ => tablesOk_setSelector ok) (fun _ => ok)
  · exact ok_ite (fun _ => ok) (fun _ => ok_when (tablesOk_raiseEvent (tablesOk_setSelector ok)) (fun h1 =>
      tablesOk_updModelSlot (tablesOk_freePlacement h1)))

theorem tablesOk_checkDrains {s : State} (ok : TablesOk s) : TablesOk (checkDrains s) :=
  ok_foldl (fun _ _ h1 => tablesOk_checkDrain h1) ok

theorem tablesOk_loadInto {e : Env} {t sel i : Nat} {sampling : Bool} {pkg : Package}
    {s : State} (ok : TablesOk s) : PairOk (loadInto e t sel i sampling pkg s) :=
  pairOk_ite (fun _ => tablesOk_refuse ok) (fun _ => pairOk_ite (fun _ => tablesOk_refuse ok) (fun _ => pairOk_ite (fun _ =>
      tablesOk_refuse ok) (fun _ => tablesOk_putPlacement (tablesOk_updModelSlot (tablesOk_updModelSlot (tablesOk_freePlacement ok))))))

theorem tablesOk_cmdModelLoad {e : Env} {p : Bytes} {s0 : State} (ok : TablesOk s0) : PairOk (cmdModelLoad e p s0) := by
  unfold cmdModelLoad
  refine pairOk_ite (fun _ => tablesOk_refuse (tablesOk_checkDrains ok)) (fun _ => ?_)
  dsimp only
  split
  · exact tablesOk_refuse (tablesOk_checkDrains ok)
  · refine pairOk_ite (fun _ => tablesOk_refuse (tablesOk_checkDrains ok)) (fun _ => ?_)
    refine pairOk_ite (fun _ => tablesOk_refuse (tablesOk_checkDrains ok)) (fun _ => ?_)
    refine pairOk_ite (fun _ => tablesOk_refuse (tablesOk_checkDrains ok)) (fun _ => ?_)
    split
    · exact tablesOk_refuse (tablesOk_checkDrains ok)
    · exact pairOk_ite (fun _ => tablesOk_countHbm (tablesOk_loadInto (tablesOk_checkDrains ok))) (fun _ =>
        tablesOk_loadInto (tablesOk_checkDrains ok))

theorem outOk_execModelLoadComplete {t tenant sel : Nat} {s : State} (ok : TablesOk s) : OutOk (execModelLoadComplete t tenant sel s) := by
  unfold execModelLoadComplete
  refine outOk_next ?_
  split
  · exact ok
  · exact ok_ite (fun _ => tablesOk_raiseEvent (tablesOk_updModelSlot (tablesOk_advance ok))) (fun _ =>
      tablesOk_raiseFor (tablesOk_updModelSlot (tablesOk_advance ok)))

theorem tablesOk_replaceSlot {t sel i : Nat} {s : State} (ok : TablesOk s) : OptOk (replaceSlot t sel i s) := by
  unfold replaceSlot
  dsimp only
  split
  · exact optOk_ite (fun _ => optOk_none) (fun _ => optOk_some (tablesOk_putPlacement (tablesOk_updModelSlot (tablesOk_freePlacement ok))))
  · exact optOk_none

theorem tablesOk_cmdModelSwap {e : Env} {p : Bytes} {s0 : State} (ok : TablesOk s0) : PairOk (cmdModelSwap e p s0) := by
  unfold cmdModelSwap
  refine pairOk_ite (fun _ => tablesOk_refuse (tablesOk_checkDrains ok)) (fun _ => ?_)
  refine pairOk_ite (fun _ => tablesOk_setSelector (tablesOk_checkDrains ok)) (fun _ => ?_)
  refine pairOk_ite (fun _ => tablesOk_refuse (tablesOk_checkDrains ok)) (fun _ => ?_)
  refine pairOk_ite (fun _ => tablesOk_refuse (tablesOk_checkDrains ok)) (fun _ => ?_)
  refine pairOk_ite (fun _ => tablesOk_refuse (tablesOk_checkDrains ok)) (fun _ => ?_)
  split
  · exact tablesOk_refuse (tablesOk_checkDrains ok)
  · rename_i heq
    have h1 := (optOk_ite (fun _ => tablesOk_replaceSlot (tablesOk_checkDrains ok)) (fun _ => optOk_some (tablesOk_checkDrains ok))) _ heq
    exact pairOk_ite (fun _ => tablesOk_setSelector h1) (fun _ => tablesOk_setSelector (tablesOk_deviceBeat h1))

theorem tablesOk_swapNow {t sel beat : Nat} {link : Option Nat} {s : State} (ok : TablesOk s) : TablesOk (swapNow t sel beat link s) :=
  tablesOk_checkDrain (tablesOk_raiseEvent (ok_unless (tablesOk_setSelector ok) (fun h1 => tablesOk_activateOwn h1)))

theorem outOk_execModelSwapPoint {t tenant sel : Nat} {s : State} (ok : TablesOk s) : OutOk (execModelSwapPoint t tenant sel s) := by
  unfold execModelSwapPoint
  refine outOk_next ?_
  dsimp only
  split
  · exact ok_ite (fun _ => ok_ite (fun _ => tablesOk_swapNow (tablesOk_advance ok)) (fun _ =>
      tablesOk_setSelector (tablesOk_advance ok))) (fun _ => ok)
  · exact ok

theorem tablesOk_flipBeat {t : Nat} {s : State} (ok : TablesOk s) : TablesOk (flipBeat t s) := by
  unfold flipBeat
  split
  · exact ok_ite (fun _ => ok_foldl (fun _ _ h1 => tablesOk_swapNow h1) (tablesOk_ruleFlip (tablesOk_advance ok))) (fun _ => ok)
  · exact ok

theorem outOk_execCellSlotExchange {t c : Nat} {s : State} (ok : TablesOk s) : OutOk (execCellSlotExchange t c s) := by
  unfold execCellSlotExchange
  refine outOk_next ?_
  split
  · exact ok_ite (fun _ => tablesOk_exchangeCell (tablesOk_advance ok)) (fun _ => ok)
  · exact ok_ite (fun _ => tablesOk_exchangeCell (tablesOk_advance ok)) (fun _ => ok)
  · exact ok

theorem tablesOk_cmdModelUnload {e : Env} {p : Bytes} {s0 : State} (ok : TablesOk s0) : PairOk (cmdModelUnload e p s0) := by
  unfold cmdModelUnload
  refine pairOk_ite (fun _ => tablesOk_refuse (tablesOk_checkDrains ok)) (fun _ => ?_)
  dsimp only
  split
  · exact tablesOk_refuse (tablesOk_checkDrains ok)
  · exact pairOk_ite (fun _ => tablesOk_refuse (tablesOk_checkDrains ok)) (fun _ =>
      tablesOk_setSelector (tablesOk_deviceBeat (tablesOk_checkDrains ok)))
  · exact tablesOk_updModelSlot (tablesOk_freePlacement (ok_when (tablesOk_checkDrains ok) (fun h1 => tablesOk_setSelector h1)))
  · exact tablesOk_updModelSlot (tablesOk_freePlacement (tablesOk_checkDrains ok))
  · exact tablesOk_refuse (tablesOk_checkDrains ok)

theorem tablesOk_cmdModelStatus {e : Env} {p : Bytes} {s0 : State} (ok : TablesOk s0) : PairOk (cmdModelStatus e p s0) :=
  pairOk_ite (fun _ => tablesOk_refuse (tablesOk_checkDrains ok)) (fun _ => tablesOk_checkDrains ok)

theorem tablesOk_degradeSlot {t sel i c : Nat} {s : State} (ok : TablesOk s) : TablesOk (degradeSlot t sel i c s) := by
  unfold degradeSlot
  refine ok_ite (fun _ => ok) (fun _ => ?_)
  refine ok_ite (fun _ => ?_) (fun _ => ?_)
  · split
    · exact tablesOk_raiseEvent (tablesOk_updModelSlot (tablesOk_dropCells (tablesOk_updModelSlot ok)))
    · exact tablesOk_raiseEvent (tablesOk_updModelSlot (tablesOk_dropCells (tablesOk_updModelSlot ok)))
  · split
    · rename_i heq
      have h1 := (tablesOk_replaceSlot (tablesOk_dropCells (tablesOk_updModelSlot ok))) _ heq
      exact tablesOk_raiseEvent h1
    · exact tablesOk_raiseEvent (tablesOk_updModelSlot (tablesOk_freePlacement (tablesOk_dropCells (tablesOk_updModelSlot ok))))

theorem tablesOk_degradeModels {c : Nat} {s : State} (ok : TablesOk s) : TablesOk (degradeModels c s) :=
  ok_foldl (fun _ _ h1 => ok_foldl (fun _ _ h2 => ok_ite (fun _ => tablesOk_degradeSlot h2) (fun _ => h2)) h1) (ok_foldl (fun _ _ h3 =>
      ok_foldl (fun _ _ h4 => ok_ite (fun _ => tablesOk_degradeSlot h4) (fun _ => h4)) h3) ok)

theorem tablesOk_dropModels {t : Nat} {s : State} (ok : TablesOk s) : TablesOk (dropModels t s) :=
  ok_foldl (fun _ _ h1 => tablesOk_with (tablesOk_freePlacement (tablesOk_freePlacement h1))) ok

/-! The functions of `Machine/Stats` -/

theorem tablesOk_writeRecordHere {tenant stats : Nat} {ws : List W256} {s : State} (ok : TablesOk s) : TablesOk (writeRecordHere tenant stats ws s) :=
  ok_foldl (fun _ _ h1 => tablesOk_writeSpan h1) ok

theorem tablesOk_writeRecordAt {tenant job stats : Nat} {ws : List W256}
    {s : State} (ok : TablesOk s) : TablesOk (writeRecordAt tenant job stats ws s) :=
  ok_ite (fun _ => tablesOk_writeRecordHere ok) (fun _ => tablesOk_sendPacket ok)

theorem tablesOk_checkDrift {tenant id start : Nat} {g : Region} {r : RegionRec}
    {s : State} (ok : TablesOk s) : PairOk (checkDrift tenant id start g r s) :=
  pairOk_ite (fun _ => tablesOk_raiseEvent ok) (fun _ => ok)

theorem tablesOk_putRec {s : State} {key i : Nat} {r : RegionRec} (ok : TablesOk s) : TablesOk (State.putRec s key i r) :=
  tablesOk_updModelSlot ok

theorem tablesOk_drawTally {region : Nat} {s : State} (ok : TablesOk s) : PairOk (drawTally region s) :=
  tablesOk_with ok

theorem tablesOk_inlineRegion {t sel i n w : Nat} {s : State} (ok : TablesOk s) : TablesOk (inlineRegion t sel i n w s) :=
  tablesOk_putRec (tablesOk_checkDrift (tablesOk_drawTally ok))

theorem tablesOk_recordWindow {t sel i w : Nat} {s : State} (ok : TablesOk s) : TablesOk (recordWindow t sel i w s) :=
  ok_ite (fun _ => tablesOk_putRec (tablesOk_writeRecordHere ok)) (fun _ => ok)

theorem tablesOk_closeWindows {q : Pkt} {s : State} (ok : TablesOk s) : TablesOk (closeWindows q s) := by
  unfold closeWindows
  split
  · exact ok
  · exact ok_foldl (fun _ _ h1 => tablesOk_recordWindow h1) ok

theorem tablesOk_inlineSkew {q : Pkt} {c : Nat} {k : Nat × Nat × Nat} {s : State} (ok : TablesOk s) : TablesOk (inlineSkew q c k s) := by
  unfold inlineSkew
  split
  · exact ok
  · exact tablesOk_raiseEvent (tablesOk_putRec ok)

/-! The functions of `Machine/Fence` -/

theorem tablesOk_writeSignature {f : Failure} {s : State} (ok : TablesOk s) : TablesOk (writeSignature f s) :=
  tablesOk_raiseEvent (tablesOk_bump32 (tablesOk_with (tablesOk_with ok)))

theorem tablesOk_cmdSignatureRead {e : Env} {p : Bytes} {s : State} (ok : TablesOk s) : PairOk (cmdSignatureRead e p s) :=
  pairOk_ite (fun _ => tablesOk_refuse ok) (fun _ => pairOk_ite (fun _ => tablesOk_refuse ok) (fun _ => ok))

theorem tablesOk_defaultVector {src : Nat} {q : Pkt} {s : State} (ok : TablesOk s) : TablesOk (defaultVector src q s) :=
  tablesOk_checkDrains (tablesOk_advanceChain (tablesOk_closeWindows (tablesOk_toVerdictPass (tablesOk_updPacket (ok_foldl (fun _ _ h1 =>
      tablesOk_updCell h1) ok)))))

theorem tablesOk_reclaimCell {c : Nat} {vectors : List Pkt} {s : State} (ok : TablesOk s) : FstOk (reclaimCell c vectors s) :=
  ok_foldl (fun _ _ h1 => tablesOk_defaultVector h1) (tablesOk_advanceSends (ok_foldl (fun _ _ h2 =>
      tablesOk_endReads h2) (tablesOk_syncQueues (tablesOk_setReg (tablesOk_updCell (tablesOk_with ok))))))

theorem tablesOk_restartHolder {c : Nat} {s : State} (ok : TablesOk s) : TablesOk (restartHolder c s) := by
  unfold restartHolder
  split
  · exact tablesOk_advanceSends (tablesOk_failBack ok)
  · exact ok

theorem tablesOk_takePack {pack : Nat × List (Nat × Nat)} {s : State} (ok : TablesOk s) : TablesOk (takePack pack s) :=
  tablesOk_raiseEvent (tablesOk_setReg (tablesOk_with ok))

theorem tablesOk_applyNextPack {s : State} (ok : TablesOk s) : TablesOk (applyNextPack s) := by
  unfold applyNextPack
  split
  · exact tablesOk_takePack ok
  · exact ok

theorem tablesOk_abandonTest {c : Nat} {s : State} (ok : TablesOk s) : TablesOk (abandonTest c s) :=
  ok_when (tablesOk_setFlag ok) (fun h1 => tablesOk_applyNextPack (tablesOk_with h1))

theorem tablesOk_closeFenced {c : Nat} {s : State} (ok : TablesOk s) : TablesOk (closeFenced c s) :=
  tablesOk_updCell (tablesOk_with (tablesOk_setFlag (tablesOk_setReg ok)))

theorem tablesOk_holdFence {keep : Bool} {f : Failure} {s : State} (ok : TablesOk s) : TablesOk (holdFence keep f s) :=
  ok_ite (fun _ => ok) (fun _ => tablesOk_with ok)

theorem tablesOk_fenceAs {keep : Bool} {f : Failure} {s0 : State} (ok : TablesOk s0) : TablesOk (fenceAs keep f s0) :=
  ok_ite (fun _ => ok) (fun _ => ok_ite (fun _ => tablesOk_holdFence ok) (fun _ =>
      tablesOk_raiseEvent (tablesOk_bump32 (tablesOk_updCell (tablesOk_checkDrains (tablesOk_startChains (tablesOk_abandonTest (ok_unless
      (tablesOk_reclaimCell (tablesOk_degradeModels (tablesOk_restartHolder (ok_unless (tablesOk_writeSignature ok) (fun h2 =>
      tablesOk_setFlag (tablesOk_setCellState h2)))))) (fun h1 => tablesOk_closeFenced h1)))))))))

theorem tablesOk_fenceCell {f : Failure} {s : State} (ok : TablesOk s) : TablesOk (fenceCell f s) :=
  tablesOk_fenceAs ok

theorem tablesOk_runHeldFences {s : State} (ok : TablesOk s) : TablesOk (runHeldFences s) :=
  ok_foldl (fun _ _ h1 => tablesOk_fenceAs h1) (tablesOk_with ok)

theorem outOk_execFenceReclaimDone {t c : Nat} {s : State} (ok : TablesOk s) : OutOk (execFenceReclaimDone t c s) := by
  unfold execFenceReclaimDone
  refine outOk_next ?_
  split
  · exact ok_ite (fun _ => ok) (fun _ => tablesOk_raiseEvent (tablesOk_updCell (tablesOk_advance ok)))
  · exact ok

theorem outOk_execCellFence {t c kind : Nat} {s : State} (ok : TablesOk s) : OutOk (execCellFence t c kind s) :=
  outOk_next (ok_ite (fun _ => tablesOk_fenceCell (tablesOk_advance ok)) (fun _ => ok))

theorem outOk_execCellAckTimeout {t c : Nat} {s : State} (ok : TablesOk s) : OutOk (execCellAckTimeout t c s) :=
  outOk_next (ok_ite (fun _ => tablesOk_fenceCell (tablesOk_advance ok)) (fun _ => ok))

theorem tablesOk_cmdFenceCell {e : Env} {p : Bytes} {s : State} (ok : TablesOk s) : PairOk (cmdFenceCell e p s) :=
  pairOk_ite (fun _ => tablesOk_refuse ok) (fun _ => pairOk_ite (fun _ => tablesOk_refuse ok) (fun _ => ok_foldl (fun _ _ h1 =>
      tablesOk_fenceCell h1) ok))

theorem tablesOk_countTransient {c work step row : Nat} {s : State} (ok : TablesOk s) : TablesOk (countTransient c work step row s) :=
  ok_when (tablesOk_bump32 (tablesOk_updCell ok)) (fun h1 => tablesOk_fenceCell (tablesOk_bump32 h1))

theorem tablesOk_permanent {f : Failure} {s : State} (ok : TablesOk s) : TablesOk (permanent f s) :=
  ok_ite (fun _ => ok) (fun _ => tablesOk_fenceCell (tablesOk_bump32 ok))

theorem tablesOk_detachCluster {k : Nat} {s : State} (ok : TablesOk s) : TablesOk (detachCluster k s) :=
  ok_foldl (fun _ _ h1 => tablesOk_fenceAs h1) (tablesOk_raiseEvent (tablesOk_with (tablesOk_haltClusters (tablesOk_setFlag (tablesOk_setFlag ok)))))

theorem outOk_execSpokeTimeoutExpiry {t i : Nat} {s : State} (ok : TablesOk s) : OutOk (execSpokeTimeoutExpiry t i s) :=
  outOk_next (ok_ite (fun _ => ok) (fun _ => ok_ite (fun _ => tablesOk_detachCluster (tablesOk_advance ok)) (fun _ => ok_foldl (fun _ _ h1 =>
      tablesOk_portDown h1) (tablesOk_raiseEvent (tablesOk_setFlag (tablesOk_advance ok))))))

theorem tablesOk_cmdRecoatSet {e : Env} {p : Bytes} {s : State} (ok : TablesOk s) : PairOk (cmdRecoatSet e p s) :=
  pairOk_ite (fun _ => tablesOk_refuse ok) (fun _ => pairOk_ite (fun _ => tablesOk_refuse ok) (fun _ => tablesOk_setField ok))

theorem tablesOk_wrIntCtrl {v : Nat} {s : State} (ok : TablesOk s) : PairOk (wrIntCtrl v s) :=
  pairOk_ite (fun _ => ok) (fun _ => tablesOk_setReg ok)

theorem tablesOk_wrCellAckTimeout {v : Nat} {s : State} (ok : TablesOk s) : PairOk (wrCellAckTimeout v s) :=
  pairOk_ite (fun _ => ok) (fun _ => tablesOk_setReg ok)

theorem tablesOk_cmdIntegrityStatus {e : Env} {p : Bytes} {s : State} (ok : TablesOk s) : PairOk (cmdIntegrityStatus e p s) :=
  pairOk_ite (fun _ => tablesOk_refuse ok) (fun _ => pairOk_ite (fun _ => tablesOk_refuse ok) (fun _ => ok))

/-! The functions of `Machine/Recoat` -/

theorem tablesOk_countFlags {c : Nat} {f : RunFlags} {s : State} (ok : TablesOk s) : TablesOk (countFlags c f s) :=
  tablesOk_bump32 (tablesOk_bump32 (ok_ite (fun _ => ok) (fun _ => tablesOk_coalesceEvent (tablesOk_bump64 (tablesOk_bump32 ok)))))

theorem tablesOk_countRuns {parties : List (Option (List Nat))} {r : RecoatRuns} {third : Bool}
    {s : State} (ok : TablesOk s) : TablesOk (countRuns parties r third s) :=
  ok_when (ok_elim (ok_elim ok (fun _ => ok_foldl (fun _ _ h2 => ok_elim h2 (fun _ => tablesOk_countFlags h2)) (ok_elim ok (fun _ =>
      tablesOk_countFlags ok)))) (fun _ => ok_foldl (fun _ _ h3 => ok_elim h3 (fun _ => tablesOk_countFlags h3)) (ok_elim (ok_elim ok (fun _ =>
      ok_foldl (fun _ _ h4 => ok_elim h4 (fun _ => tablesOk_countFlags h4)) (ok_elim ok (fun _ => tablesOk_countFlags ok)))) (fun _ =>
      tablesOk_countFlags (ok_elim ok (fun _ => ok_foldl (fun _ _ h5 => ok_elim h5 (fun _ => tablesOk_countFlags h5)) (ok_elim ok (fun _ =>
      tablesOk_countFlags ok)))))))) (fun h1 => ok_elim (ok_elim (ok_elim ok (fun _ => ok_foldl (fun _ _ h6 => ok_elim h6 (fun _ =>
      tablesOk_countFlags h6)) (ok_elim ok (fun _ => tablesOk_countFlags ok)))) (fun _ => ok_foldl (fun _ _ h7 => ok_elim h7 (fun _ =>
      tablesOk_countFlags h7)) (ok_elim (ok_elim ok (fun _ => ok_foldl (fun _ _ h8 => ok_elim h8 (fun _ =>
      tablesOk_countFlags h8)) (ok_elim ok (fun _ => tablesOk_countFlags ok)))) (fun _ => tablesOk_countFlags (ok_elim ok (fun _ =>
      ok_foldl (fun _ _ h9 => ok_elim h9 (fun _ => tablesOk_countFlags h9)) (ok_elim ok (fun _ => tablesOk_countFlags ok)))))))) (fun _ =>
      ok_foldl (fun _ _ h10 => ok_elim h10 (fun _ => tablesOk_countFlags h10)) (ok_elim (ok_elim (ok_elim ok (fun _ => ok_foldl (fun _ _ h11 =>
      ok_elim h11 (fun _ => tablesOk_countFlags h11)) (ok_elim ok (fun _ => tablesOk_countFlags ok)))) (fun _ => ok_foldl (fun _ _ h12 =>
      ok_elim h12 (fun _ => tablesOk_countFlags h12)) (ok_elim (ok_elim ok (fun _ => ok_foldl (fun _ _ h13 => ok_elim h13 (fun _ =>
      tablesOk_countFlags h13)) (ok_elim ok (fun _ => tablesOk_countFlags ok)))) (fun _ => tablesOk_countFlags (ok_elim ok (fun _ =>
      ok_foldl (fun _ _ h14 => ok_elim h14 (fun _ => tablesOk_countFlags h14)) (ok_elim ok (fun _ => tablesOk_countFlags ok)))))))) (fun _ =>
      tablesOk_countFlags (ok_elim (ok_elim ok (fun _ => ok_foldl (fun _ _ h15 => ok_elim h15 (fun _ =>
      tablesOk_countFlags h15)) (ok_elim ok (fun _ => tablesOk_countFlags ok)))) (fun _ => ok_foldl (fun _ _ h16 => ok_elim h16 (fun _ =>
      tablesOk_countFlags h16)) (ok_elim (ok_elim ok (fun _ => ok_foldl (fun _ _ h17 => ok_elim h17 (fun _ =>
      tablesOk_countFlags h17)) (ok_elim ok (fun _ => tablesOk_countFlags ok)))) (fun _ => tablesOk_countFlags (ok_elim ok (fun _ =>
      ok_foldl (fun _ _ h18 => ok_elim h18 (fun _ => tablesOk_countFlags h18)) (ok_elim ok (fun _ => tablesOk_countFlags ok))))))))))))

theorem tablesOk_reportRecoat {tenant : Nat} {v : Verdict374} {work step : Nat} {parties : List (Option Nat)} {row : Nat}
    {s : State} (ok : TablesOk s) : TablesOk (reportRecoat tenant v work step parties row s) :=
  ok_unless (ok_when (tablesOk_bump32 ok) (fun h2 => tablesOk_bump32 h2)) (fun h1 => tablesOk_raiseEvent h1)

/-! The functions of `Machine/Job` -/

theorem tablesOk_loadProgram {j : Job} {c next from_ : Nat} {s : State} (ok : TablesOk s) : TablesOk (loadProgram j c next from_ s) :=
  tablesOk_syncQueues (tablesOk_updCell (tablesOk_setReg (tablesOk_setReg (tablesOk_setFlag (tablesOk_setReg (tablesOk_setReg (tablesOk_setReg
      (ok_foldl (fun _ _ h1 => tablesOk_setReg h1) ok))))))))

theorem tablesOk_startCells {j : Job} {nexts : Nat → Nat} {beat : Nat} {s : State} (ok : TablesOk s) : TablesOk (startCells j nexts beat s) :=
  tablesOk_releaseJob (ok_foldl (fun _ _ h1 => tablesOk_setReg h1) (ok_foldl (fun _ _ h2 => tablesOk_loadProgram h2) ok))

theorem tablesOk_runJob {tenant id : Nat} {s : State} (ok : TablesOk s) : TablesOk (runJob tenant id s) := by
  unfold runJob
  split
  · exact tablesOk_setJobState ok
  · exact ok

theorem tablesOk_enterJob {j : Job} {s : State} (ok : TablesOk s) : TablesOk (enterJob j s) :=
  tablesOk_with ok

theorem tablesOk_cmdJobStart {e : Env} {p : Bytes} {s : State} (ok : TablesOk s) : PairOk (cmdJobStart e p s) := by
  unfold cmdJobStart
  refine pairOk_ite (fun _ => tablesOk_refuse ok) (fun _ => ?_)
  split
  · exact tablesOk_refuse ok
  · dsimp only
    split
    · exact tablesOk_refuse ok
    · exact tablesOk_runJob (tablesOk_raiseEvent (tablesOk_startCells (ok_foldl (fun _ _ h1 => ok_foldl (fun _ _ h2 =>
        tablesOk_setStore h2) (tablesOk_abandonTest h1)) (tablesOk_enterJob (tablesOk_countHbm ok)))))

theorem tablesOk_tracePc {c : Nat} {h : StepHeader} {s : State} (ok : TablesOk s) : TablesOk (tracePc c h s) := by
  unfold tracePc
  split
  · exact ok_ite (fun _ => tablesOk_traceCause ok) (fun _ => ok)
  · exact ok

theorem tablesOk_showGrids {j : Job} {c : Nat} {work : List StepOp} {s : State} (ok : TablesOk s) : TablesOk (showGrids j c work s) := by
  unfold showGrids
  refine ok_foldl (fun _ _ h1 => ?_) ok
  split
  · exact ok_elim h1 (fun _ => tablesOk_setReg h1)
  · exact h1

theorem tablesOk_launchNext {j : Job} {c : Nat} {p : CellProgram} {work : List StepOp}
    {s : State} (ok : TablesOk s) : TablesOk (launchNext j c p work s) := by
  unfold launchNext
  dsimp only
  split
  · exact ok
  · exact ok_ite (fun _ =>
      tablesOk_tracePc (tablesOk_showGrids (ok_unless (tablesOk_setFlag (tablesOk_updCell (tablesOk_bump64 (tablesOk_setReg
      (tablesOk_setReg ok))))) (fun h1 => tablesOk_with h1)))) (fun _ => ok)

theorem tablesOk_relaunch {j : Job} {c : Nat} {p : CellProgram} {o : OpenStep} {work : List StepOp}
    {s : State} (ok : TablesOk s) : TablesOk (relaunch j c p o work s) :=
  ok_ite (fun _ => ok) (fun _ => ok_elim (tablesOk_showGrids (tablesOk_updCell (tablesOk_bump64 (tablesOk_setReg ok)))) (fun _ =>
      tablesOk_tracePc (tablesOk_showGrids (tablesOk_updCell (tablesOk_bump64 (tablesOk_setReg ok))))))

theorem outOk_execStepLaunch {t c : Nat} {work : List StepOp} {s : State} (ok : TablesOk s) : OutOk (execStepLaunch t c work s) := by
  unfold execStepLaunch
  refine outOk_next ?_
  split
  · refine ok_ite (fun _ => ?_) (fun _ => ok)
    split
    · exact tablesOk_relaunch (tablesOk_advance ok)
    · exact tablesOk_launchNext (tablesOk_advance ok)
  · exact ok

theorem tablesOk_writeSwatch {t : Nat} {w : Swatch} {step : Nat} {v : SwatchValue} {crossed : Nat}
    {s : State} (ok : TablesOk s) : PairOk (writeSwatch t w step v crossed s) :=
  pairOk_ite (fun _ => ok) (fun _ => pairOk_ite (fun _ => tablesOk_countHbm ok) (fun _ =>
      tablesOk_storeBytes (tablesOk_storeBytes (tablesOk_countHbm ok))))

theorem tablesOk_fireDumps {tenant id step : Nat} {which : Dump → Bool}
    {s : State} (ok : TablesOk s) : TablesOk (fireDumps tenant id step which s) := by
  unfold fireDumps
  split
  · exact ok
  · exact tablesOk_updJob (tablesOk_bump32 ok)

theorem tablesOk_commitSwatch {tenant id step : Nat} {tiles : List Tally} {s : State}
    {w : Swatch} (ok : TablesOk s) : TablesOk (commitSwatch tenant id step tiles s w) := by
  unfold commitSwatch
  refine ok_ite (fun _ => ok) (fun _ => ?_)
  refine ok_unless (tablesOk_updJob (tablesOk_writeSwatch ok)) (fun h1 => ?_)
  refine tablesOk_fireDumps ?_
  split
  · exact ok_when (tablesOk_coalesceEvent h1) (fun h2 => tablesOk_traceCause h2)
  · exact tablesOk_coalesceEvent h1

theorem tablesOk_commitRegion {tenant id step : Nat} {tiles : List Tally} {s : State}
    {g : Region} (ok : TablesOk s) : TablesOk (commitRegion tenant id step tiles s g) := by
  unfold commitRegion
  split
  · exact ok
  · exact tablesOk_writeRecordAt (tablesOk_updJob (tablesOk_checkDrift ok))

theorem tablesOk_commitJudged {c : Nat} {o : OpenStep} {s : State} (ok : TablesOk s) : TablesOk (commitJudged c o s) := by
  unfold commitJudged
  refine ok_foldl (fun _ _ h1 => ?_) (ok_foldl (fun _ _ h2 => tablesOk_bump32 (tablesOk_bump32 h2)) ok)
  refine tablesOk_bump32 ?_
  refine tablesOk_bump32 ?_
  split
  · exact tablesOk_setReg (tablesOk_bump64 (tablesOk_bump64 h1))
  · exact tablesOk_bump64 (tablesOk_bump64 h1)

theorem tablesOk_commitStep {tenant id c : Nat} {o : OpenStep} {s : State} (ok : TablesOk s) : TablesOk (commitStep tenant id c o s) := by
  unfold commitStep
  split
  · exact ok
  · exact ok_when (tablesOk_settleSend (tablesOk_fireDumps (tablesOk_updJob (ok_foldl (fun _ _ h2 =>
      tablesOk_raiseEvent h2) (ok_foldl (fun _ _ h3 => tablesOk_commitSwatch h3) (tablesOk_commitJudged (ok_foldl (fun _ _ h4 =>
      tablesOk_commitRegion h4) (ok_when (tablesOk_updCell (tablesOk_setReg (tablesOk_setReg (ok_foldl (fun _ _ h6 =>
      tablesOk_setStore h6) ok)))) (fun h5 => tablesOk_setFlag h5))))))))) (fun h1 => tablesOk_advanceSends (tablesOk_endJob h1))

theorem tablesOk_updOpen {s : State} {c step : Nat} {f : OpenStep → OpenStep} (ok : TablesOk s) : TablesOk (State.updOpen s c step f) :=
  tablesOk_updCell ok

theorem tablesOk_freeBuffer {c : Nat} {o : OpenStep} {s : State} (ok : TablesOk s) : TablesOk (freeBuffer c o s) :=
  ok_ite (fun _ => ok) (fun _ => tablesOk_updOpen (tablesOk_setReg ok))

theorem tablesOk_reissueCopies {j : Job} {c : Nat} {o : OpenStep} {s : State} (ok : TablesOk s) : TablesOk (reissueCopies j c o s) :=
  ok_foldl (fun _ _ h1 => tablesOk_syncQueues (tablesOk_updCell h1)) (tablesOk_syncQueues (tablesOk_updCell ok))

theorem tablesOk_skewStep {j : Job} {c : Nat} {o : OpenStep} {k : Nat × Nat × Nat} {s : State} (ok : TablesOk s) : TablesOk (skewStep j c o k s) :=
  ok_ite (fun _ => tablesOk_reissueCopies (tablesOk_updOpen (tablesOk_freeBuffer (tablesOk_settleSend (tablesOk_raiseEvent
      (tablesOk_updJob ok)))))) (fun _ =>
      tablesOk_advanceSends (tablesOk_failBack (tablesOk_freeBuffer (tablesOk_settleSend (tablesOk_raiseEvent (tablesOk_updJob ok))))))

theorem tablesOk_checkStep {j : Job} {c : Nat} {o : OpenStep} {k : StepCheck} {s : State} (ok : TablesOk s) : TablesOk (checkStep j c o k s) := by
  unfold checkStep
  dsimp only
  split
  · exact tablesOk_skewStep (tablesOk_bump32 ok)
  · exact ok_ite (fun _ => tablesOk_advanceSends (tablesOk_failBack (tablesOk_noteUncorr (tablesOk_bump32 ok)))) (fun _ => ok_ite (fun _ =>
      tablesOk_settleSend (tablesOk_freeBuffer (tablesOk_updOpen (tablesOk_countFlags (ok_when (tablesOk_bump32 ok) (fun h1 =>
      tablesOk_noteUncorr h1)))))) (fun _ => ok_ite (fun _ => tablesOk_updOpen (tablesOk_bump32 ok)) (fun _ =>
      tablesOk_commitStep (tablesOk_bump32 ok))))

theorem outOk_execStepCheckDone {t c step : Nat} {k : StepCheck} {s : State} (ok : TablesOk s) : OutOk (execStepCheckDone t c step k s) := by
  unfold execStepCheckDone
  refine outOk_next ?_
  split
  · exact ok_ite (fun _ => tablesOk_checkStep (tablesOk_advance ok)) (fun _ => ok)
  · exact ok

theorem tablesOk_settleSuspect {j : Job} {c : Nat} {o : OpenStep} {r : RecoatRuns}
    {s : State} (ok : TablesOk s) : TablesOk (settleSuspect j c o r s) :=
  ok_unless (ok_when (ok_foldl (fun _ _ h3 => tablesOk_permanent h3) (ok_when (tablesOk_reportRecoat (tablesOk_countRuns (ok_ite (fun _ =>
      tablesOk_raiseEvent (tablesOk_bump32 ok)) (fun _ => ok)))) (fun h4 => tablesOk_commitStep h4))) (fun h2 =>
      tablesOk_countTransient h2)) (fun h1 => tablesOk_advanceSends (tablesOk_failBack h1))

theorem outOk_execRecoatCompare {t c step : Nat} {r : RecoatRuns} {s : State} (ok : TablesOk s) : OutOk (execRecoatCompare t c step r s) := by
  unfold execRecoatCompare
  refine outOk_next ?_
  split
  · exact tablesOk_settleSuspect (tablesOk_advance ok)
  · exact ok

theorem tablesOk_noteArrive {id member t : Nat} {s : State} (ok : TablesOk s) : TablesOk (noteArrive id member t s) :=
  tablesOk_with ok

theorem tablesOk_openSlot {j : Job} {s : State} (ok : TablesOk s) : TablesOk (openSlot j s) :=
  tablesOk_storeBytes ok

theorem tablesOk_reachBarrier {tenant id n b : Nat} {s : State} (ok : TablesOk s) : TablesOk (reachBarrier tenant id n b s) := by
  unfold reachBarrier
  split
  · exact ok
  · exact ok_unless (ok_when (tablesOk_updJob ok) (fun h2 => tablesOk_openSlot (tablesOk_setJobState (tablesOk_updJob h2)))) (fun h1 =>
      ok_ite (fun _ => tablesOk_noteArrive h1) (fun _ => tablesOk_sendCtrl h1))

theorem outOk_execBarrierArrive {t tenant id : Nat} {s : State} (ok : TablesOk s) : OutOk (execBarrierArrive t tenant id s) := by
  unfold execBarrierArrive
  refine outOk_next ?_
  split
  · exact ok
  · exact ok_ite (fun _ => ok) (fun _ => ok_when (tablesOk_setJobState (tablesOk_updJob (ok_foldl (fun _ _ h2 =>
      tablesOk_setReg h2) (tablesOk_haltClusters (tablesOk_advance ok))))) (fun h1 => tablesOk_reachBarrier h1))

theorem outOk_execManagerResume {t id : Nat} {s : State} (ok : TablesOk s) : OutOk (execManagerResume t id s) := by
  unfold execManagerResume
  refine outOk_next ?_
  split
  · exact ok_ite (fun _ => tablesOk_updJob (tablesOk_sendCtrl (tablesOk_advance ok))) (fun _ => ok)
  · exact ok

theorem outOk_execBarrierRelease {t tenant id : Nat} {s : State} (ok : TablesOk s) : OutOk (execBarrierRelease t tenant id s) := by
  unfold execBarrierRelease
  refine outOk_next ?_
  split
  · exact ok
  · exact ok_ite (fun _ => tablesOk_runJob (tablesOk_releaseJob (tablesOk_updJob (ok_foldl (fun _ _ h1 =>
      tablesOk_setReg h1) (tablesOk_unhaltClusters (tablesOk_advance ok)))))) (fun _ => ok)

theorem tablesOk_writeSlot {j : Job} {s : State} (ok : TablesOk s) : TablesOk (writeSlot j s) :=
  tablesOk_storeBytes (tablesOk_storeBytes (tablesOk_storeBytes (ok_foldl (fun _ _ h1 => tablesOk_countHbm h1) ok)))

theorem tablesOk_noteCkptDone {id barrier member : Nat} {s : State} (ok : TablesOk s) : TablesOk (noteCkptDone id barrier member s) := by
  unfold noteCkptDone
  split
  · exact ok
  · exact ok_when (tablesOk_updJob ok) (fun h1 => tablesOk_appendLog h1)

theorem outOk_execCheckpointWriteDone {t tenant id : Nat} {check : CkptCheck}
    {s0 : State} (ok : TablesOk s0) : OutOk (execCheckpointWriteDone t tenant id check s0) := by
  unfold execCheckpointWriteDone
  refine outOk_next ?_
  dsimp only
  split
  · exact ok
  · exact ok_ite (fun _ => ok) (fun _ => ok_ite (fun _ =>
      ok_unless (tablesOk_setJobState (tablesOk_raiseEvent (tablesOk_updJob (tablesOk_writeSlot (tablesOk_advance (ok_foldl (fun _ _ h2 =>
      ok_ite (fun _ => tablesOk_bump32 h2) (fun _ => h2)) ok)))))) (fun h1 => ok_ite (fun _ => tablesOk_noteCkptDone h1) (fun _ =>
      tablesOk_sendCtrl h1))) (fun _ => tablesOk_advanceSends (tablesOk_failBack (tablesOk_advance (ok_foldl (fun _ _ h3 => ok_ite (fun _ =>
      tablesOk_bump32 h3) (fun _ => h3)) ok)))))

theorem outOk_execCkptDoneLog {t id barrier member : Nat} {s : State} (ok : TablesOk s) : OutOk (execCkptDoneLog t id barrier member s) :=
  outOk_next (ok_ite (fun _ => tablesOk_noteCkptDone (tablesOk_advance ok)) (fun _ => ok))

theorem tablesOk_loadStore {c off : Nat} {bs : Bytes} {s : State} (ok : TablesOk s) : TablesOk (loadStore c off bs s) :=
  ok_foldl (fun _ _ h1 => tablesOk_setStore h1) ok

theorem tablesOk_loadContent {j : Job} {slot : Nat} {s : State} (ok : TablesOk s) : TablesOk (loadContent j slot s) :=
  fstOk_foldl (fun _ _ h1 => tablesOk_storeBytes h1) (fstOk_foldl (fun _ _ h2 => tablesOk_loadStore h2) ok)

theorem tablesOk_failDumps {j : Job} {s : State} (ok : TablesOk s) : TablesOk (failDumps j s) :=
  ok_foldl (fun _ _ h1 => tablesOk_raiseFor h1) ok

theorem outOk_execJobRestart {t tenant id : Nat} {s : State} (ok : TablesOk s) : OutOk (execJobRestart t tenant id s) := by
  unfold execJobRestart
  refine outOk_next ?_
  split
  · exact ok
  · refine ok_ite (fun _ => ok) (fun _ => ?_)
    dsimp only
    split
    · exact tablesOk_failJob (tablesOk_advance ok)
    · exact tablesOk_failJob (tablesOk_advance ok)
    · exact tablesOk_runJob (tablesOk_raiseEvent (tablesOk_bump32 (ok_when (tablesOk_startCells (tablesOk_countHbm (tablesOk_loadContent
        (tablesOk_failDumps (tablesOk_updJob (tablesOk_updJob (tablesOk_advance ok))))))) (fun h1 => tablesOk_sendCtrl h1))))

theorem tablesOk_restartGroupJob {id barrier : Nat} {s : State} (ok : TablesOk s) : TablesOk (restartGroupJob id barrier s) := by
  unfold restartGroupJob
  split
  · exact tablesOk_advanceSends (tablesOk_failBack (tablesOk_updJob ok))
  · exact ok

theorem tablesOk_cmdJobCheckpoint {e : Env} {p : Bytes} {s : State} (ok : TablesOk s) : PairOk (cmdJobCheckpoint e p s) := by
  unfold cmdJobCheckpoint
  refine pairOk_ite (fun _ => tablesOk_refuse ok) (fun _ => ?_)
  split
  · exact pairOk_ite (fun _ => tablesOk_updJob ok) (fun _ => tablesOk_refuse ok)
  · exact tablesOk_refuse ok

theorem tablesOk_cmdJobCancel {e : Env} {p : Bytes} {s : State} (ok : TablesOk s) : PairOk (cmdJobCancel e p s) := by
  unfold cmdJobCancel
  refine pairOk_ite (fun _ => tablesOk_refuse ok) (fun _ => ?_)
  split
  · exact pairOk_ite (fun _ => tablesOk_advanceSends (tablesOk_endJob ok)) (fun _ => tablesOk_refuse ok)
  · exact tablesOk_refuse ok

theorem tablesOk_cmdJobStatus {e : Env} {p : Bytes} {s : State} (ok : TablesOk s) : PairOk (cmdJobStatus e p s) := by
  unfold cmdJobStatus
  refine pairOk_ite (fun _ => tablesOk_refuse ok) (fun _ => ?_)
  split
  · exact ok
  · exact tablesOk_refuse ok

/-! The functions of `Machine/Group` -/

theorem tablesOk_chooseRef {s : State} (ok : TablesOk s) : TablesOk (chooseRef s) := by
  unfold chooseRef
  refine ok_ite (fun _ => ok) (fun _ => ?_)
  split
  · exact tablesOk_setField ok
  · exact ok

theorem tablesOk_setManager {m : Nat} {s : State} (ok : TablesOk s) : TablesOk (setManager m s) :=
  ok_unless (tablesOk_setReg ok) (fun h1 => tablesOk_chooseRef h1)

theorem tablesOk_wrGroupRefPort {v : Nat} {s : State} (ok : TablesOk s) : PairOk (wrGroupRefPort v s) :=
  pairOk_ite (fun _ => ok) (fun _ => tablesOk_chooseRef (tablesOk_setReg ok))

theorem outOk_execGroupRefSwitch {t p : Nat} {s : State} (ok : TablesOk s) : OutOk (execGroupRefSwitch t p s) :=
  outOk_next (ok_ite (fun _ => tablesOk_raiseEvent (tablesOk_setField (tablesOk_advance ok))) (fun _ => ok))

theorem tablesOk_reclaimDevice {d : Nat} {s : State} (ok : TablesOk s) : TablesOk (reclaimDevice d s) :=
  tablesOk_advanceSends (ok_foldl (fun _ _ h1 => ok_ite (fun _ => tablesOk_endReads (tablesOk_copyFault h1)) (fun _ => h1)) (tablesOk_with ok))

theorem tablesOk_loseMember {m : Nat} {s : State} (ok : TablesOk s) : TablesOk (loseMember m s) :=
  ok_unless (tablesOk_reclaimDevice (ok_foldl (fun _ _ h2 => tablesOk_failJob h2) (tablesOk_with ok))) (fun h1 => tablesOk_setManager h1)

theorem tablesOk_setRoutes {ws : List Nat} {s : State} (ok : TablesOk s) : TablesOk (setRoutes ws s) :=
  tablesOk_retryHeld (ok_foldl (fun _ _ h1 => tablesOk_setReg h1) (ok_foldl (fun _ _ h2 => tablesOk_setReg h2) ok))

theorem tablesOk_applyRecord {r : LogRecord} {s : State} (ok : TablesOk s) : TablesOk (applyRecord r s) := by
  unfold applyRecord
  split
  · exact ok_ite (fun _ => tablesOk_loseMember ok) (fun _ => ok)
  · exact ok_ite (fun _ => ok) (fun _ => tablesOk_setManager (tablesOk_with ok))
  · exact ok_ite (fun _ => ok) (fun _ => ok_ite (fun _ => tablesOk_with ok) (fun _ => tablesOk_with ok))
  · exact tablesOk_with ok
  · exact tablesOk_setRoutes ok
  · exact tablesOk_with ok
  · exact tablesOk_with ok
  · exact tablesOk_with ok
  · exact ok_ite (fun _ => ok) (fun _ => tablesOk_with (tablesOk_setFlag (tablesOk_setFlag ok)))
  · exact ok

theorem tablesOk_noteNeeds {m b c f : Nat} {s : State} (ok : TablesOk s) : TablesOk (noteNeeds m b c f s) :=
  ok_ite (fun _ => ok) (fun _ => ok_unless (tablesOk_with ok) (fun h1 => tablesOk_appendLog h1))

theorem tablesOk_sendable {r : LogRecord} {s : State} (ok : TablesOk s) : PairOk (sendable r s) :=
  pairOk_ite (fun _ => tablesOk_deviceBeat (s := s) (least := 4 * s.beat.rate) ok) (fun _ => ok)

theorem outOk_execLogCommit {t acks : Nat} {s : State} (ok : TablesOk s) : OutOk (execLogCommit t acks s) := by
  unfold execLogCommit
  refine outOk_next ?_
  split
  · exact ok_ite (fun _ =>
      tablesOk_applyRecord (tablesOk_sendCtrl (tablesOk_setReg (tablesOk_with (tablesOk_sendable (tablesOk_advance ok)))))) (fun _ => ok)
  · exact ok

theorem tablesOk_takeLogRecord {r : LogRecord} {s : State} (ok : TablesOk s) : TablesOk (takeLogRecord r s) :=
  ok_ite (fun _ => ok) (fun _ => tablesOk_applyRecord (tablesOk_setReg (tablesOk_with ok)))

theorem tablesOk_storeRecord {r : LogRecord} {s : State} (ok : TablesOk s) : TablesOk (storeRecord r s) :=
  ok_ite (fun _ => ok) (fun _ => tablesOk_sendCtrl (tablesOk_with ok))

theorem tablesOk_sendTime {s : State} (ok : TablesOk s) : TablesOk (sendTime s) :=
  ok_foldl (fun _ _ h1 => tablesOk_sendCtrl (tablesOk_sendCtrl h1)) ok

theorem tablesOk_takeTime {stamp delay : Nat} {s : State} (ok : TablesOk s) : TablesOk (takeTime stamp delay s) :=
  ok_ite (fun _ => tablesOk_correctTime (tablesOk_servoState ok)) (fun _ => ok)

theorem tablesOk_takeDelay {m stamp : Nat} {s : State} (ok : TablesOk s) : TablesOk (takeDelay m stamp s) :=
  ok_ite (fun _ => tablesOk_with ok) (fun _ => ok)

theorem tablesOk_sendLease {s : State} (ok : TablesOk s) : TablesOk (sendLease s) :=
  tablesOk_sendTime (tablesOk_sendCtrl (tablesOk_with ok))

theorem outOk_execLeaseRenewal {t : Nat} {s : State} (ok : TablesOk s) : OutOk (execLeaseRenewal t s) :=
  outOk_next (ok_ite (fun _ => tablesOk_sendLease (tablesOk_advance ok)) (fun _ => ok))

theorem tablesOk_resendArrives {s : State} (ok : TablesOk s) : TablesOk (resendArrives s) :=
  ok_foldl (fun _ _ h1 => ok_ite (fun _ => tablesOk_noteArrive h1) (fun _ => tablesOk_sendCtrl h1)) ok

theorem tablesOk_takeLease {term renewal sender : Nat} {s : State} (ok : TablesOk s) : TablesOk (takeLease term renewal sender s) :=
  ok_ite (fun _ => ok) (fun _ => ok_when (ok_when (tablesOk_with (tablesOk_setManager (tablesOk_setReg ok))) (fun h2 =>
      tablesOk_sendCtrl h2)) (fun h1 => tablesOk_resendArrives (tablesOk_with h1)))

theorem outOk_execLeaseReceive {t term renewal sender : Nat} {s : State} (ok : TablesOk s) : OutOk (execLeaseReceive t term renewal sender s) :=
  outOk_next (ok_ite (fun _ => tablesOk_takeLease (tablesOk_advance ok)) (fun _ => ok))

theorem tablesOk_sendLog {s : State} (ok : TablesOk s) : TablesOk (sendLog s) :=
  ok_foldl (fun _ _ h1 => ok_foldl (fun _ _ h2 => tablesOk_sendCtrl h2) h1) ok

theorem tablesOk_takeOver {s : State} (ok : TablesOk s) : TablesOk (takeOver s) :=
  tablesOk_resendArrives (tablesOk_sendLog (tablesOk_sendLease (tablesOk_raiseEvent (tablesOk_with (tablesOk_setManager (tablesOk_setReg ok))))))

theorem tablesOk_sendLogLength {s : State} (ok : TablesOk s) : TablesOk (sendLogLength s) :=
  ok_ite (fun _ => ok_foldl (fun _ _ h1 => tablesOk_sendCtrl h1) ok) (fun _ => ok)

theorem outOk_execMissedRenewal {t otherLog : Nat} {s : State} (ok : TablesOk s) : OutOk (execMissedRenewal t otherLog s) :=
  outOk_next (ok_ite (fun _ => ok_unless (tablesOk_sendLogLength (tablesOk_with (tablesOk_advance ok))) (fun h1 =>
      ok_when (ok_when (tablesOk_with h1) (fun h3 => tablesOk_holdover h3)) (fun h2 => tablesOk_takeOver h2))) (fun _ => ok))

theorem outOk_execManagerStepdown {t : Nat} {s : State} (ok : TablesOk s) : OutOk (execManagerStepdown t s) :=
  outOk_next (ok_ite (fun _ => tablesOk_raiseEvent (tablesOk_setFlag (tablesOk_with (tablesOk_advance ok)))) (fun _ => ok))

theorem outOk_execMemberLost {t m : Nat} {s : State} (ok : TablesOk s) : OutOk (execMemberLost t m s) :=
  outOk_next (ok_ite (fun _ => ok_ite (fun _ => tablesOk_appendLog (tablesOk_advance ok)) (fun _ =>
      tablesOk_loseMember (tablesOk_advance ok))) (fun _ => ok))

theorem outOk_execRouteRecompute {t : Nat} {members groups : List Nat}
    {s : State} (ok : TablesOk s) : OutOk (execRouteRecompute t members groups s) :=
  outOk_next (ok_ite (fun _ => tablesOk_appendLog (tablesOk_advance ok)) (fun _ => ok))

theorem tablesOk_cmdGroupJoin {link : Sys2Proof.JoinInfo} {e : Env} {p : Bytes} {s : State} (ok : TablesOk s) : PairOk (cmdGroupJoin link e p s) :=
  tablesOk_ownerOnly (fun _ _ _ h1 => pairOk_ite (fun _ => tablesOk_refuse h1) (fun _ => pairOk_ite (fun _ => tablesOk_refuse h1) (fun _ =>
      pairOk_ite (fun _ => tablesOk_refuse h1) (fun _ => pairOk_ite (fun _ => tablesOk_refuse h1) (fun _ => tablesOk_chooseRef (ok_ite (fun _ =>
      tablesOk_appendLog (tablesOk_appendLog (tablesOk_setManager (tablesOk_setField (tablesOk_setReg (tablesOk_setReg (tablesOk_setReg
      (tablesOk_with h1)))))))) (fun _ =>
      tablesOk_sendCtrl (tablesOk_with (tablesOk_setReg (tablesOk_setManager (tablesOk_setField (tablesOk_setReg (tablesOk_setReg (tablesOk_setReg
      (tablesOk_with h1))))))))))))))) ok

theorem outOk_execZcJoin {t groupZc : Nat} {s : State} (ok : TablesOk s) : OutOk (execZcJoin t groupZc s) := by
  unfold execZcJoin
  refine outOk_next ?_
  split
  · exact ok
  · exact ok_ite (fun _ => ok) (fun _ => tablesOk_raiseEvent (tablesOk_setReg (tablesOk_with (tablesOk_advance ok))))

theorem tablesOk_clearZones {js : List Job} {s : State} (ok : TablesOk s) : TablesOk (clearZones js s) :=
  tablesOk_with ok

theorem tablesOk_leaveGroup {s : State} (ok : TablesOk s) : TablesOk (leaveGroup s) :=
  tablesOk_retryHeld (tablesOk_with (tablesOk_setFlag (tablesOk_setReg (tablesOk_setReg (ok_foldl (fun _ _ h1 =>
      tablesOk_setReg h1) (ok_foldl (fun _ _ h2 =>
      tablesOk_setReg h2) (ok_when (tablesOk_setReg (tablesOk_setReg (tablesOk_setField (tablesOk_with (tablesOk_clearZones (ok_foldl
      (fun _ _ h4 => tablesOk_failJob h4) ok)))))) (fun h3 => tablesOk_holdover (tablesOk_setField h3)))))))))

theorem tablesOk_cmdGroupLeave {e : Env} {p : Bytes} {s : State} (ok : TablesOk s) : PairOk (cmdGroupLeave e p s) :=
  tablesOk_ownerOnly (fun _ _ _ h1 => pairOk_ite (fun _ => tablesOk_refuse h1) (fun _ => pairOk_ite (fun _ => tablesOk_refuse h1) (fun _ =>
      tablesOk_leaveGroup (tablesOk_sendCtrl h1)))) ok

theorem tablesOk_cmdGroupStatus {e : Env} {p : Bytes} {s : State} (ok : TablesOk s) : PairOk (cmdGroupStatus e p s) :=
  tablesOk_ownerOnly (fun _ _ _ h1 => pairOk_ite (fun _ => tablesOk_refuse h1) (fun _ => h1)) ok

theorem tablesOk_cmdRouteSet {e : Env} {p : Bytes} {s : State} (ok : TablesOk s) : PairOk (cmdRouteSet e p s) :=
  tablesOk_ownerOnly (fun _ _ _ h1 => pairOk_ite (fun _ => tablesOk_refuse h1) (fun _ => pairOk_ite (fun _ => tablesOk_refuse h1) (fun _ =>
      pairOk_ite (fun _ => pairOk_ite (fun _ => tablesOk_refuse h1) (fun _ => tablesOk_retryHeld (ok_foldl (fun _ _ h2 =>
      tablesOk_setReg h2) h1))) (fun _ => pairOk_ite (fun _ => tablesOk_refuse h1) (fun _ => tablesOk_retryHeld (ok_foldl (fun _ _ h3 =>
      tablesOk_setReg h3) h1)))))) ok

/-! The functions of `Machine/TraceArm` -/

theorem tablesOk_clearRings {s : State} (ok : TablesOk s) : TablesOk (clearRings s) :=
  ok_foldl (fun _ _ h1 => tablesOk_setReg (tablesOk_setReg h1)) (tablesOk_with ok)

theorem tablesOk_endTrace {s : State} (ok : TablesOk s) : TablesOk (endTrace s) := by
  unfold endTrace
  split
  · exact ok
  · exact ok_unless (tablesOk_setReg (tablesOk_with ok)) (fun h1 => tablesOk_clearRings h1)

theorem tablesOk_displaceTrace {tenant : Nat} {s : State} (ok : TablesOk s) : TablesOk (displaceTrace tenant s) := by
  unfold displaceTrace
  split
  · exact ok
  · exact ok_ite (fun _ => ok) (fun _ => tablesOk_raiseEvent (tablesOk_endTrace ok))

theorem tablesOk_armTrace {x : TraceSession} {p : Bytes} {s : State} (ok : TablesOk s) : TablesOk (armTrace x p s) :=
  tablesOk_setReg (tablesOk_setReg (tablesOk_setReg (tablesOk_setReg (tablesOk_setReg (tablesOk_setReg (tablesOk_setReg (tablesOk_setReg
      (tablesOk_clearRings (tablesOk_with ok)))))))))

theorem tablesOk_traceCommand {e : Env} {p : Bytes} {s : State} (ok : TablesOk s) : PairOk (traceCommand e p s) := by
  unfold traceCommand
  refine pairOk_ite (fun _ => tablesOk_refuse ok) (fun _ => ?_)
  refine pairOk_ite (fun _ => pairOk_ite (fun _ => tablesOk_refuse ok) (fun _ => pairOk_ite (fun _ => tablesOk_endTrace ok) (fun _ =>
      tablesOk_refuse ok))) (fun _ => ?_)
  refine pairOk_ite (fun _ => tablesOk_refuse ok) (fun _ => ?_)
  refine pairOk_ite (fun _ => tablesOk_refuse ok) (fun _ => ?_)
  refine pairOk_ite (fun _ => tablesOk_refuse ok) (fun _ => ?_)
  refine pairOk_ite (fun _ => tablesOk_refuse ok) (fun _ => ?_)
  refine pairOk_ite (fun _ => tablesOk_refuse ok) (fun _ => ?_)
  split
  · exact tablesOk_refuse ok
  · exact tablesOk_armTrace (tablesOk_displaceTrace ok)

theorem tablesOk_cmdTraceArm {e : Env} {p : Bytes} {s : State} (ok : TablesOk s) : PairOk (cmdTraceArm e p s) :=
  pairOk_ite (fun _ => tablesOk_sendCtrl (tablesOk_traceCommand ok)) (fun _ => tablesOk_traceCommand ok)

theorem tablesOk_takeTraceArm {tenant : Nat} {p : Bytes} {s : State} (ok : TablesOk s) : TablesOk (takeTraceArm tenant p s) :=
  tablesOk_traceCommand ok

/-! The functions of `Machine/Fabric` -/

theorem tablesOk_trainPort {p device port : Nat} {s : State} (ok : TablesOk s) : TablesOk (trainPort p device port s) :=
  ok_ite (fun _ => tablesOk_chooseRef (tablesOk_portTrained (tablesOk_setField ok))) (fun _ => tablesOk_portDown (tablesOk_setReg ok))

theorem outOk_execFabricPortTrained {t p device port : Nat} {s : State} (ok : TablesOk s) : OutOk (execFabricPortTrained t p device port s) :=
  outOk_next (ok_ite (fun _ => tablesOk_trainPort (tablesOk_advance ok)) (fun _ => ok))

theorem outOk_execMiscableRecheck {t p device port : Nat} {s : State} (ok : TablesOk s) : OutOk (execMiscableRecheck t p device port s) :=
  outOk_next (ok_ite (fun _ => ok_ite (fun _ => tablesOk_trainPort (tablesOk_advance ok)) (fun _ =>
      tablesOk_setReg (tablesOk_advance ok))) (fun _ => ok))

theorem outOk_execFabricPortDown {t p cause : Nat} {s : State} (ok : TablesOk s) : OutOk (execFabricPortDown t p cause s) :=
  outOk_next (ok_ite (fun _ => ok_when (tablesOk_portDown (tablesOk_advance ok)) (fun h1 => tablesOk_setField h1)) (fun _ => ok))

theorem tablesOk_softDown {p : Nat} {s : State} (ok : TablesOk s) : TablesOk (softDown p s) :=
  ok_ite (fun _ => tablesOk_portDown ok) (fun _ => tablesOk_setField ok)

theorem tablesOk_wrFpCtrl {p v : Nat} {s : State} (ok : TablesOk s) : PairOk (wrFpCtrl p v s) :=
  pairOk_ite (fun _ => tablesOk_softDown (tablesOk_softDown (tablesOk_setFlag (tablesOk_setFlag (ok_when (tablesOk_setReg ok) (fun h1 =>
      tablesOk_softDown h1)))))) (fun _ => ok_when (tablesOk_setReg ok) (fun h2 => tablesOk_softDown h2))

theorem tablesOk_portAction {action : Nat} {s : State} {p : Nat} (ok : TablesOk s) : TablesOk (portAction action s p) :=
  tablesOk_wrFpCtrl ok

theorem tablesOk_cmdFabricPortSet {e : Env} {p : Bytes} {s : State} (ok : TablesOk s) : PairOk (cmdFabricPortSet e p s) :=
  tablesOk_ownerOnly (fun _ _ _ h1 => pairOk_ite (fun _ => tablesOk_refuse h1) (fun _ => ok_foldl (fun _ _ h2 => tablesOk_portAction h2) h1)) ok

theorem tablesOk_badFrame {p : Nat} {s : State} (ok : TablesOk s) : TablesOk (badFrame p s) :=
  ok_when (tablesOk_bump64 (tablesOk_with ok)) (fun h1 => tablesOk_portDown h1)

theorem tablesOk_takeAckSeq {p ack : Nat} {s : State} (ok : TablesOk s) : TablesOk (takeAckSeq p ack s) :=
  ok_ite (fun _ => ok_unless (tablesOk_with ok) (fun h1 => tablesOk_retryHeld h1)) (fun _ => ok_ite (fun _ => tablesOk_with ok) (fun _ =>
      ok_ite (fun _ => tablesOk_portDown ok) (fun _ => tablesOk_emit (tablesOk_bump32 (tablesOk_with ok)))))

theorem outOk_execLinkFrameReceive {t p fseq ack k : Nat} {good : Bool}
    {s : State} (ok : TablesOk s) : OutOk (execLinkFrameReceive t p fseq ack k good s) :=
  outOk_next (ok_ite (fun _ => ok) (fun _ => ok_ite (fun _ => tablesOk_badFrame (tablesOk_bump64 (tablesOk_advance ok))) (fun _ =>
      tablesOk_takeAckSeq (ok_when (tablesOk_bump64 (tablesOk_advance ok)) (fun h1 => tablesOk_emit (tablesOk_with h1))))))

theorem tablesOk_takeCredit {p : Nat} {fields : List Nat} {s : State} (ok : TablesOk s) : TablesOk (takeCredit p fields s) :=
  tablesOk_retryHeld (tablesOk_with ok)

theorem tablesOk_takeDecision {m kind : Nat} {body : List Nat} {s : State} (ok : TablesOk s) : TablesOk (takeDecision m kind body s) := by
  unfold takeDecision
  split
  · exact ok_ite (fun _ => tablesOk_appendLog ok) (fun _ => ok)
  · exact ok_ite (fun _ => ok) (fun _ => ok_foldl (fun _ _ h1 => tablesOk_sendCtrl h1) (tablesOk_appendLog ok))
  · exact tablesOk_appendLog ok
  · exact ok

theorem tablesOk_takeCtrl {h : Header} {msg : Nat × List Nat} {s : State} (ok : TablesOk s) : TablesOk (takeCtrl h msg s) := by
  unfold takeCtrl
  dsimp only
  split
  · exact ok_ite (fun _ => tablesOk_noteArrive ok) (fun _ => ok)
  · exact ok_ite (fun _ => tablesOk_with ok) (fun _ => ok)
  · exact ok_ite (fun _ => tablesOk_noteCkptDone ok) (fun _ => ok)
  · exact ok_ite (fun _ => tablesOk_restartGroupJob ok) (fun _ => ok)
  · exact ok_ite (fun _ => tablesOk_fireTrigger ok) (fun _ => ok)
  · exact tablesOk_noteNeeds ok
  · exact ok_ite (fun _ => ok_ite (fun _ => tablesOk_loseMember ok) (fun _ => ok)) (fun _ => ok_ite (fun _ => tablesOk_takeLogRecord ok) (fun _ =>
      ok_ite (fun _ => tablesOk_takeDecision ok) (fun _ => ok)))
  · exact tablesOk_takeLease ok
  · exact ok_ite (fun _ => tablesOk_with ok) (fun _ => ok)
  · exact ok_ite (fun _ => tablesOk_takeTime ok) (fun _ => ok)
  · exact ok_ite (fun _ => tablesOk_sendCtrl ok) (fun _ => ok)
  · exact tablesOk_takeDelay ok
  · exact tablesOk_takeTraceArm ok
  · exact tablesOk_with ok
  · exact ok_ite (fun _ => tablesOk_storeRecord ok) (fun _ => ok)
  · exact ok

theorem tablesOk_takeCmd {p : Nat} {data : List W256} {s : State} (ok : TablesOk s) : TablesOk (takeCmd p data s) :=
  ok_ite (fun _ => tablesOk_bump32 ok) (fun _ => ok_ite (fun _ => tablesOk_commitPacket ok) (fun _ => tablesOk_bump32 (tablesOk_overflowPacket ok)))

theorem tablesOk_consume {p : Nat} {h : Header} {hdr : Nat} {data : List W256} {s : State} (ok : TablesOk s) : TablesOk (consume p h hdr data s) := by
  unfold consume
  refine ok_ite (fun _ => tablesOk_takeCmd ok) (fun _ => ?_)
  refine ok_ite (fun _ => ok) (fun _ => ?_)
  refine ok_ite (fun _ => tablesOk_takeRdReq ok) (fun _ => ?_)
  refine ok_ite (fun _ => tablesOk_takeWrData ok) (fun _ => ?_)
  refine ok_ite (fun _ => ?_) (fun _ => ?_)
  · split
    · exact tablesOk_takeBridgeData ok
    · exact tablesOk_takeRdData ok
  · refine ok_ite (fun _ => ?_) (fun _ => ?_)
    · split
      · exact tablesOk_takeBridgeAck ok
      · exact tablesOk_takeAck ok
    · refine ok_ite (fun _ => tablesOk_takeNotify ok) (fun _ => ?_)
      refine ok_ite (fun _ => tablesOk_takeConfirm ok) (fun _ => ?_)
      refine ok_ite (fun _ => tablesOk_takeRevoke ok) (fun _ => ?_)
      split
      · exact tablesOk_takeCtrl ok
      · exact ok

theorem tablesOk_acceptPacket {p hdr : Nat} {data : List W256} {s : State} (ok : TablesOk s) : TablesOk (acceptPacket p hdr data s) := by
  unfold acceptPacket
  dsimp only
  split
  · exact tablesOk_noteSends (tablesOk_returnCredit (tablesOk_bump32 ok))
  · exact tablesOk_noteSends (tablesOk_returnCredit (tablesOk_consume (tablesOk_fabricRecord (tablesOk_with ok))))

theorem tablesOk_receivePacket {p hdr : Nat} {data : List W256} {chk : FifoRead}
    {s : State} (ok : TablesOk s) : TablesOk (receivePacket p hdr data chk s) := by
  unfold receivePacket
  refine ok_ite (fun _ => tablesOk_portDown (tablesOk_rewindPacket (tablesOk_bump64 ok))) (fun _ => ?_)
  refine ok_ite (fun _ => ok_unless (tablesOk_noteRead (tablesOk_raise (tablesOk_bump64 (ok_unless (tablesOk_bump64 ok) (fun h2 =>
      tablesOk_with h2))))) (fun h1 => tablesOk_noteSends (tablesOk_returnCredit h1))) (fun _ => ?_)
  refine ok_ite (fun _ =>
      tablesOk_takeCredit (tablesOk_fabricRecord (tablesOk_noteRead (tablesOk_raise (tablesOk_bump64 (ok_unless (tablesOk_bump64 ok) (fun h3 =>
      tablesOk_with h3))))))) (fun _ => ?_)
  split
  · exact tablesOk_acceptPacket (tablesOk_noteRead (tablesOk_raise (tablesOk_bump64 (ok_unless (tablesOk_bump64 ok) (fun h4 => tablesOk_with h4)))))
  · exact tablesOk_dispatch (tablesOk_noteRead (tablesOk_raise (tablesOk_bump64 (ok_unless (tablesOk_bump64 ok) (fun h5 => tablesOk_with h5)))))

theorem outOk_execFabricPacketReceive {t p : Nat} {hdr : W256} {data : Checked Bytes}
    {s : State} (ok : TablesOk s) : OutOk (execFabricPacketReceive t p hdr data s) :=
  outOk_next (ok_ite (fun _ => tablesOk_receivePacket (tablesOk_advance ok)) (fun _ => ok))

theorem tablesOk_receiveTyped {ty t p hdr : Nat} {data : List W256} {s : State} (ok : TablesOk s) : TablesOk (receiveTyped ty t p hdr data s) :=
  ok_ite (fun _ => tablesOk_receivePacket (tablesOk_advance ok)) (fun _ => ok)

theorem outOk_execWrData {t p : Nat} {hdr : W256} {data : Bytes} {s : State} (ok : TablesOk s) : OutOk (execWrData t p hdr data s) :=
  outOk_next (tablesOk_receiveTyped ok)

theorem outOk_execRdReq {t p : Nat} {hdr : W256} {data : Bytes} {s : State} (ok : TablesOk s) : OutOk (execRdReq t p hdr data s) :=
  outOk_next (tablesOk_receiveTyped ok)

theorem outOk_execRdData {t p : Nat} {hdr : W256} {data : Bytes} {s : State} (ok : TablesOk s) : OutOk (execRdData t p hdr data s) :=
  outOk_next (tablesOk_receiveTyped ok)

theorem outOk_execFabAck {t p : Nat} {hdr : W256} {data : Bytes} {s : State} (ok : TablesOk s) : OutOk (execFabAck t p hdr data s) :=
  outOk_next (tablesOk_receiveTyped ok)

theorem outOk_execFabNotify {t p : Nat} {hdr : W256} {s : State} (ok : TablesOk s) : OutOk (execFabNotify t p hdr s) :=
  outOk_next (tablesOk_receiveTyped ok)

theorem outOk_execFabConfirm {t p : Nat} {hdr : W256} {s : State} (ok : TablesOk s) : OutOk (execFabConfirm t p hdr s) :=
  outOk_next (tablesOk_receiveTyped ok)

theorem outOk_execFabRevoke {t p : Nat} {hdr : W256} {s : State} (ok : TablesOk s) : OutOk (execFabRevoke t p hdr s) :=
  outOk_next (tablesOk_receiveTyped ok)

theorem outOk_execFabCredit {t p : Nat} {fields : List Nat} {s : State} (ok : TablesOk s) : OutOk (execFabCredit t p fields s) :=
  outOk_next (ok_ite (fun _ => tablesOk_takeCredit (tablesOk_raise (tablesOk_bump64 (tablesOk_bump64 (tablesOk_advance ok))))) (fun _ => ok))

/-! The functions of `Machine/Bridge` -/

theorem tablesOk_signalPending {s : State} (ok : TablesOk s) : TablesOk (signalPending s) :=
  ok_foldl (fun _ _ h1 => tablesOk_signal h1) (tablesOk_with ok)

theorem tablesOk_writeBar0 {w : Bar0Write} {s : State} (ok : TablesOk s) : TablesOk (writeBar0 w s) :=
  tablesOk_signalPending (tablesOk_with ok)

theorem outOk_execPcieBar0Doorbell {t len : Nat} {request : Bar0Write} {s : State} (ok : TablesOk s) : OutOk (execPcieBar0Doorbell t len request s) :=
  outOk_next (ok_ite (fun _ => ok) (fun _ => ok_unless (tablesOk_writeBar0 (tablesOk_advance ok)) (fun h1 => ok_ite (fun _ =>
      tablesOk_with h1) (fun _ => ok_ite (fun _ => tablesOk_bump32 h1) (fun _ => ok_ite (fun _ =>
      tablesOk_commitPacket (tablesOk_with h1)) (fun _ => tablesOk_overflowPacket h1))))))

theorem outOk_execPcieBar2Access {t : Nat} {write : Bool} {offset len : Nat} {data : Bytes} {inTime : Bool}
    {s : State} (ok : TablesOk s) : OutOk (execPcieBar2Access t write offset len data inTime s) :=
  outOk_next (ok_ite (fun _ => ok) (fun _ => ok_ite (fun _ => tablesOk_emit (tablesOk_advance ok)) (fun _ => ok_ite (fun _ =>
      tablesOk_with (tablesOk_advance ok)) (fun _ => tablesOk_hostAccess (tablesOk_advance ok)))))

theorem outOk_execPcieFlr {t : Nat} {s : State} (ok : TablesOk s) : OutOk (execPcieFlr t s) :=
  outOk_next (ok_ite (fun _ => ok_foldl (fun _ _ h1 => tablesOk_setReg (tablesOk_setReg h1)) (tablesOk_with (tablesOk_advance ok))) (fun _ => ok))

theorem tablesOk_cmdBridgeSet {e : Env} {p : Bytes} {s : State} (ok : TablesOk s) : PairOk (cmdBridgeSet e p s) :=
  tablesOk_ownerOnly (fun _ _ _ h1 => pairOk_ite (fun _ => tablesOk_refuse h1) (fun _ => tablesOk_setReg (tablesOk_setReg h1))) ok

/-! The functions of `Machine/Inline` -/

theorem tablesOk_enterHold {q : Pkt} {s : State} (ok : TablesOk s) : TablesOk (enterHold q s) :=
  tablesOk_updPacket (tablesOk_updCell ok)

theorem tablesOk_noteFlaw {c : Nat} {f : LaunchFlaw} {q : Pkt} {s0 : State} (ok : TablesOk s0) : TablesOk (noteFlaw c f q s0) := by
  unfold noteFlaw
  refine tablesOk_updPacket ?_
  split
  · exact tablesOk_inlineSkew (tablesOk_countFlags (ok_when (tablesOk_bump32 ok) (fun h1 => tablesOk_noteUncorr h1)))
  · exact tablesOk_countFlags (ok_when (tablesOk_bump32 ok) (fun h2 => tablesOk_noteUncorr h2))

theorem tablesOk_numberLaunch {q : Pkt} {s : State} (ok : TablesOk s) : TablesOk (numberLaunch q s) :=
  ok_ite (fun _ => tablesOk_updPacket (tablesOk_updModelSlot ok)) (fun _ => ok)

theorem tablesOk_inlineLaunch {c : Nat} {f : LaunchFlaw} {s : State} (ok : TablesOk s) : TablesOk (inlineLaunch c f s) := by
  unfold inlineLaunch
  dsimp only
  split
  · exact ok
  · split
    · exact tablesOk_updCell ok
    · refine tablesOk_startChains ?_
      split
      · exact ok_when (tablesOk_noteFlaw (tablesOk_numberLaunch (tablesOk_setFlag (tablesOk_updCell (ok_ite (fun _ => ok) (fun _ =>
          ok_ite (fun _ => tablesOk_exchangeCell ok) (fun _ => ok))))))) (fun h1 => tablesOk_enterHold h1)
      · exact tablesOk_noteFlaw (tablesOk_numberLaunch (tablesOk_setFlag (tablesOk_updCell (ok_ite (fun _ => ok) (fun _ => ok_ite (fun _ =>
          tablesOk_exchangeCell ok) (fun _ => ok))))))

theorem outOk_execInlineLaunch {t c : Nat} {f : LaunchFlaw} {s : State} (ok : TablesOk s) : OutOk (execInlineLaunch t c f s) :=
  outOk_next (ok_ite (fun _ => tablesOk_inlineLaunch (tablesOk_advance ok)) (fun _ => ok))

theorem tablesOk_countGrid {cells : List Nat} {rs : List RankResult} {s : State} (ok : TablesOk s) : TablesOk (countGrid cells rs s) := by
  unfold countGrid
  refine ok_foldl (fun _ _ h1 => ?_) ok
  refine tablesOk_bump32 ?_
  refine tablesOk_bump32 ?_
  split
  · exact tablesOk_setReg (tablesOk_bump64 (tablesOk_bump64 h1))
  · exact tablesOk_bump64 (tablesOk_bump64 h1)

theorem tablesOk_inlineStats {q : Pkt} {s : State} (ok : TablesOk s) : TablesOk (inlineStats q s) := by
  unfold inlineStats
  split
  · exact ok
  · exact ok_foldl (fun _ _ h1 => tablesOk_inlineRegion h1) ok

theorem tablesOk_noteServing {t : Nat} {s : State} (ok : TablesOk s) : TablesOk (noteServing t s) :=
  tablesOk_with ok

theorem tablesOk_serveVerdict {q : Pkt} {cells : List Nat} {s : State} (ok : TablesOk s) : TablesOk (serveVerdict q cells s) := by
  unfold serveVerdict
  refine tablesOk_checkDrains ?_
  refine tablesOk_advanceChain ?_
  refine tablesOk_noteServing ?_
  refine tablesOk_closeWindows ?_
  refine ok_foldl (fun _ _ h1 => ok_ite (fun _ => h1) (fun _ => tablesOk_setFlag h1)) ?_
  refine tablesOk_toVerdictPass ?_
  split
  · exact tablesOk_writeModelState (ok_ite (fun _ => tablesOk_countGrid ok) (fun _ => tablesOk_inlineStats ok))
  · exact ok_ite (fun _ => tablesOk_countGrid ok) (fun _ => tablesOk_inlineStats ok)

theorem outOk_execVerdictRelease {t id : Nat} {s : State} (ok : TablesOk s) : OutOk (execVerdictRelease t id s) := by
  unfold execVerdictRelease
  refine outOk_next ?_
  split
  · exact ok_ite (fun _ => tablesOk_serveVerdict (ok_when (tablesOk_advance ok) (fun h1 => tablesOk_bump32 h1))) (fun _ => ok)
  · exact ok

theorem tablesOk_settleInline {q : Pkt} {v : Verdict374} {own : Nat} {r : RecoatRuns}
    {s : State} (ok : TablesOk s) : TablesOk (settleInline q v own r s) :=
  ok_when (ok_foldl (fun _ _ h2 => tablesOk_permanent h2) (ok_ite (fun _ =>
      tablesOk_serveVerdict (tablesOk_reportRecoat (tablesOk_countRuns ok))) (fun _ =>
      tablesOk_updPacket (tablesOk_reportRecoat (tablesOk_countRuns ok))))) (fun h1 => tablesOk_countTransient h1)

theorem outOk_execInlineRecoat {t id : Nat} {runs : RecoatRuns} {s : State} (ok : TablesOk s) : OutOk (execInlineRecoat t id runs s) := by
  unfold execInlineRecoat
  refine outOk_next ?_
  split
  · exact ok_ite (fun _ => tablesOk_settleInline (tablesOk_advance ok)) (fun _ => ok_ite (fun _ =>
      tablesOk_settleInline (ok_when (tablesOk_advance ok) (fun h1 => tablesOk_raiseEvent (tablesOk_bump32 h1)))) (fun _ => ok))
  · exact ok

theorem outOk_execRecoatDeadline {t id : Nat} {s : State} (ok : TablesOk s) : OutOk (execRecoatDeadline t id s) := by
  unfold execRecoatDeadline
  refine outOk_next ?_
  split
  · exact ok_ite (fun _ => tablesOk_defaultVector (tablesOk_coalesceEvent (tablesOk_bump32 (tablesOk_advance ok)))) (fun _ => ok)
  · exact ok

/-! The functions of `Machine/Reset` -/

theorem tablesOk_startBeat {s : State} (ok : TablesOk s) : TablesOk (startBeat s) :=
  tablesOk_with ok

theorem tablesOk_resetDevice {cause : Nat} {s : State} (_ok : TablesOk s) : TablesOk (resetDevice cause s) :=
  tablesOk_startBeat (tablesOk_setReg (tablesOk_setReg (ok_foldl (fun _ _ h => tablesOk_setReg h) rfl)))

theorem tablesOk_powerDown {s : State} (ok : TablesOk s) : TablesOk (powerDown s) :=
  tablesOk_with (tablesOk_resetDevice ok)

/-! The functions of `Machine/Power` -/

theorem outOk_execPowerSample {t mv ma : Nat} {s : State} (ok : TablesOk s) : OutOk (execPowerSample t mv ma s) :=
  outOk_next (ok_ite (fun _ => ok) (fun _ => ok_ite (fun _ =>
      tablesOk_with (tablesOk_with (tablesOk_bump64 (tablesOk_setReg (tablesOk_setReg (tablesOk_advance ok)))))) (fun _ =>
      tablesOk_setReg (tablesOk_with (tablesOk_with (tablesOk_bump64 (tablesOk_setReg (tablesOk_setReg (tablesOk_advance ok)))))))))

theorem outOk_execEstGainUpdate {t : Nat} {s : State} (ok : TablesOk s) : OutOk (execEstGainUpdate t s) :=
  outOk_next (ok_ite (fun _ => ok) (fun _ => ok_when (tablesOk_with (tablesOk_setReg (tablesOk_setReg (tablesOk_advance ok)))) (fun h1 =>
      tablesOk_raiseEvent h1)))

theorem tablesOk_suspendBulk {s : State} (ok : TablesOk s) : TablesOk (suspendBulk s) :=
  tablesOk_raiseAmong (tablesOk_setFlag (tablesOk_bump32 ok))

theorem tablesOk_resumeJob {s : State} {j : Job} (ok : TablesOk s) : TablesOk (resumeJob s j) :=
  tablesOk_releaseJob (tablesOk_updJob (tablesOk_with ok))

theorem tablesOk_resumeBulk {s : State} (ok : TablesOk s) : TablesOk (resumeBulk s) :=
  tablesOk_raiseAmong (tablesOk_setFlag (ok_foldl (fun _ _ h1 => tablesOk_resumeJob h1) ok))

theorem tablesOk_setCalm {bulk copy fabric : Nat} {s : State} (ok : TablesOk s) : TablesOk (setCalm bulk copy fabric s) :=
  ok_ite (fun _ => tablesOk_suspendBulk (ok_unless (ok_unless (tablesOk_setReg (tablesOk_setReg (tablesOk_setReg ok))) (fun h2 =>
      tablesOk_with h2)) (fun h1 => tablesOk_with h1))) (fun _ =>
      ok_when (ok_unless (ok_unless (tablesOk_setReg (tablesOk_setReg (tablesOk_setReg ok))) (fun h5 => tablesOk_with h5)) (fun h4 =>
      tablesOk_with h4)) (fun h3 => tablesOk_resumeBulk h3))

theorem tablesOk_applyCalm {s : State} (ok : TablesOk s) : TablesOk (applyCalm s) := by
  unfold applyCalm
  dsimp only
  split
  · exact ok_ite (fun _ => tablesOk_setCalm ok) (fun _ => tablesOk_setCalm ok)
  · exact tablesOk_setCalm ok

theorem tablesOk_beginPeriod {l : LoadEst} {s : State} (ok : TablesOk s) : TablesOk (beginPeriod l s) :=
  tablesOk_setReg (ok_foldl (fun _ _ h1 => tablesOk_setReg h1) (ok_ite (fun _ => ok) (fun _ => tablesOk_raiseEvent (tablesOk_setFlag ok))))

theorem tablesOk_judgeFloor {before : Nat} {s : State} (ok : TablesOk s) : TablesOk (judgeFloor before s) :=
  ok_ite (fun _ => ok_ite (fun _ => ok) (fun _ => tablesOk_raiseEvent (tablesOk_bump32 (tablesOk_setFlag ok)))) (fun _ => ok_ite (fun _ =>
      tablesOk_raiseEvent (tablesOk_setFlag ok)) (fun _ => ok))

theorem tablesOk_shedInline {l : LoadEst} {left : Nat} {falling : Bool} {s : State} (ok : TablesOk s) : TablesOk (shedInline l left falling s) :=
  ok_unless (tablesOk_setFlag (tablesOk_setReg ok)) (fun h1 => tablesOk_raiseAmong h1)

theorem tablesOk_controlLoop {l : LoadEst} {s0 : State} (ok : TablesOk s0) : TablesOk (controlLoop l s0) :=
  tablesOk_shedInline (tablesOk_applyCalm (tablesOk_setReg (tablesOk_with (tablesOk_judgeFloor (tablesOk_setReg (tablesOk_setReg (tablesOk_setReg
      (tablesOk_beginPeriod ok))))))))

theorem tablesOk_reportNeeds {s : State} (ok : TablesOk s) : TablesOk (reportNeeds s) :=
  ok_ite (fun _ => ok) (fun _ => ok_ite (fun _ => tablesOk_noteNeeds ok) (fun _ => tablesOk_sendCtrl ok))

theorem outOk_execCapControlLoop {t : Nat} {l : LoadEst} {s : State} (ok : TablesOk s) : OutOk (execCapControlLoop t l s) :=
  outOk_next (ok_ite (fun _ => tablesOk_reportNeeds (tablesOk_controlLoop (tablesOk_advance ok))) (fun _ => ok))

theorem outOk_execCalmNeedReport {t m bulk copy fabric : Nat} {s : State} (ok : TablesOk s) : OutOk (execCalmNeedReport t m bulk copy fabric s) :=
  outOk_next (ok_ite (fun _ => tablesOk_noteNeeds (tablesOk_advance ok)) (fun _ => ok))

theorem outOk_execGroupCalmApply {t : Nat} {s : State} (ok : TablesOk s) : OutOk (execGroupCalmApply t s) := by
  unfold execGroupCalmApply
  refine outOk_next ?_
  split
  · exact ok_ite (fun _ => ok_when (tablesOk_setFlag (tablesOk_applyCalm (tablesOk_with (tablesOk_advance ok)))) (fun h1 =>
      tablesOk_coalesceEvent h1)) (fun _ => ok)
  · exact ok

theorem tablesOk_cmdPrimerRun {e : Env} {p : Bytes} {s : State} (ok : TablesOk s) : PairOk (cmdPrimerRun e p s) :=
  tablesOk_ownerOnly (fun _ _ _ h1 => pairOk_ite (fun _ => tablesOk_refuse h1) (fun _ => pairOk_ite (fun _ => tablesOk_refuse h1) (fun _ =>
      tablesOk_with h1))) ok

theorem tablesOk_startPrimer {k : Nat} {s : State} (ok : TablesOk s) : TablesOk (startPrimer k s) :=
  tablesOk_setFlag (tablesOk_setFlag (tablesOk_setFlag (tablesOk_haltClusters (tablesOk_with ok))))

theorem tablesOk_endPrimer {k : Nat} {s : State} (ok : TablesOk s) : TablesOk (endPrimer k s) :=
  ok_when (tablesOk_raiseEvent (ok_unless (tablesOk_unhaltClusters (tablesOk_with (tablesOk_setFlag (tablesOk_setFlag (tablesOk_setFlag
      (tablesOk_setReg (tablesOk_setFlag (tablesOk_setReg ok)))))))) (fun h2 => tablesOk_startRelease h2))) (fun h1 => tablesOk_raiseEvent h1)

theorem outOk_execPrimerPhase {t : Nat} {margin : Int} {s : State} (ok : TablesOk s) : OutOk (execPrimerPhase t margin s) := by
  unfold execPrimerPhase
  refine outOk_next ?_
  refine ok_ite (fun _ => ok) (fun _ => ?_)
  split
  · exact ok_ite (fun _ => ok) (fun _ => ok_ite (fun _ => tablesOk_with (tablesOk_advance ok)) (fun _ => ok_ite (fun _ =>
      tablesOk_with (ok_when (tablesOk_advance ok) (fun h1 => tablesOk_with h1))) (fun _ =>
      tablesOk_endPrimer (ok_when (tablesOk_advance ok) (fun h2 => tablesOk_with h2)))))
  · split
    · exact ok
    · exact ok_ite (fun _ => tablesOk_startPrimer (tablesOk_advance ok)) (fun _ => tablesOk_setFlag (tablesOk_advance ok))

theorem tablesOk_trip {bit : Nat} {s : State} (ok : TablesOk s) : TablesOk (trip bit s) :=
  tablesOk_powerDown (tablesOk_with ok)

theorem tablesOk_thermalCap {tj : Int} {s : State} (ok : TablesOk s) : TablesOk (thermalCap tj s) :=
  ok_ite (fun _ => ok_unless (tablesOk_setFlag (tablesOk_setReg ok)) (fun h1 => tablesOk_raiseEvent h1)) (fun _ => ok_ite (fun _ =>
      ok_when (tablesOk_setReg ok) (fun h2 => tablesOk_setFlag h2)) (fun _ => ok))

theorem tablesOk_thermAlert {tj : Int} {s : State} (ok : TablesOk s) : TablesOk (thermAlert tj s) :=
  ok_ite (fun _ => ok_ite (fun _ => ok) (fun _ => tablesOk_raiseEvent (tablesOk_with ok))) (fun _ => ok_ite (fun _ => tablesOk_with ok) (fun _ => ok))

theorem tablesOk_standbySample {tj th : Int} {s : State} (ok : TablesOk s) : TablesOk (standbySample tj th s) :=
  ok_ite (fun _ => tablesOk_with ok) (fun _ => ok)

theorem outOk_execThermalSample {t : Nat} {dies hbms : List Int} {s : State} (ok : TablesOk s) : OutOk (execThermalSample t dies hbms s) :=
  outOk_next (ok_ite (fun _ => ok) (fun _ => ok_ite (fun _ => tablesOk_standbySample (tablesOk_advance ok)) (fun _ => ok_ite (fun _ =>
      tablesOk_trip (ok_when (tablesOk_thermAlert (tablesOk_thermalCap (ok_foldl (fun _ _ h2 =>
      tablesOk_setField h2) (tablesOk_with (tablesOk_setReg (tablesOk_setReg (tablesOk_advance ok))))))) (fun h1 =>
      tablesOk_setCalm h1))) (fun _ => ok_when (ok_when (tablesOk_thermAlert (tablesOk_thermalCap (ok_foldl (fun _ _ h5 =>
      tablesOk_setField h5) (tablesOk_with (tablesOk_setReg (tablesOk_setReg (tablesOk_advance ok))))))) (fun h4 =>
      tablesOk_setCalm h4)) (fun h3 => tablesOk_trip h3)))))

theorem outOk_execThermalTrip {t : Nat} {s : State} (ok : TablesOk s) : OutOk (execThermalTrip t s) :=
  outOk_next (ok_ite (fun _ => ok) (fun _ => ok_ite (fun _ => tablesOk_trip (tablesOk_advance ok)) (fun _ => ok_ite (fun _ =>
      tablesOk_trip (tablesOk_advance ok)) (fun _ => ok))))

theorem tablesOk_cmdCapSet {e : Env} {p : Bytes} {s : State} (ok : TablesOk s) : PairOk (cmdCapSet e p s) :=
  tablesOk_ownerOnly (fun _ _ _ h1 => pairOk_ite (fun _ => tablesOk_refuse h1) (fun _ => tablesOk_setReg (tablesOk_setReg h1))) ok

theorem tablesOk_cmdCapPrioritySet {e : Env} {p : Bytes} {s : State} (ok : TablesOk s) : PairOk (cmdCapPrioritySet e p s) :=
  tablesOk_ownerOnly (fun _ _ _ h1 => pairOk_ite (fun _ => tablesOk_refuse h1) (fun _ => tablesOk_setReg h1)) ok

theorem tablesOk_cmdPowerStatus {e : Env} {p : Bytes} {s : State} (ok : TablesOk s) : PairOk (cmdPowerStatus e p s) :=
  tablesOk_ownerOnly (fun _ _ _ h1 => pairOk_ite (fun _ => tablesOk_refuse h1) (fun _ => h1)) ok

theorem tablesOk_cmdEnergyRead {e : Env} {p : Bytes} {s : State} (ok : TablesOk s) : PairOk (cmdEnergyRead e p s) := by
  unfold cmdEnergyRead
  refine pairOk_ite (fun _ => tablesOk_refuse ok) (fun _ => ?_)
  refine pairOk_ite (fun _ => pairOk_ite (fun _ => ok) (fun _ => ok)) (fun _ => ?_)
  split
  · exact tablesOk_refuse ok
  · exact pairOk_ite (fun _ => ok) (fun _ => ok)

/-! The functions of `Machine/Tm` -/

theorem tablesOk_freshSets {s : State} (ok : TablesOk s) : TablesOk (freshSets s) :=
  ok_ite (fun _ => ok) (fun _ => tablesOk_with ok)

theorem tablesOk_setFence {a v : Nat} {s : State} (ok : TablesOk s) : TablesOk (setFence a v s) :=
  tablesOk_with (tablesOk_setReg ok)

theorem tablesOk_chargeShaper {w l : Nat} {s : State} (ok : TablesOk s) : TablesOk (chargeShaper w l s) :=
  ok_ite (fun _ => ok) (fun _ => tablesOk_with ok)

theorem tablesOk_releasePacket {id : Nat} {s : State} (ok : TablesOk s) : TablesOk (releasePacket id s) :=
  ok_ite (fun _ => ok) (fun _ => tablesOk_freePacket ok)

theorem tablesOk_flushWhere {q : Nat} {keep : QFrame → Bool} {s : State} (ok : TablesOk s) : TablesOk (flushWhere q keep s) :=
  ok_when (ok_foldl (fun _ _ h2 => tablesOk_releasePacket h2) (tablesOk_bump32 (tablesOk_setQueue ok))) (fun h1 => tablesOk_with (tablesOk_setReg h1))

theorem tablesOk_flushQueue {q : Nat} {s : State} (ok : TablesOk s) : TablesOk (flushQueue q s) :=
  ok_ite (fun _ => ok) (fun _ => tablesOk_flushWhere ok)

theorem tablesOk_flushPort {L : Nat} {s : State} (ok : TablesOk s) : TablesOk (flushPort L s) :=
  ok_foldl (fun _ _ h1 => tablesOk_flushQueue h1) ok

theorem tablesOk_wrPortMode {p v : Nat} {s : State} (ok : TablesOk s) : PairOk (wrPortMode p v s) :=
  pairOk_ite (fun _ => ok_foldl (fun _ _ h1 => tablesOk_flushPort h1) (tablesOk_wrPortCtrl (tablesOk_refillExceptions ok))) (fun _ => ok)

theorem tablesOk_fillPolicer {p : Nat} {s : State} (ok : TablesOk s) : TablesOk (fillPolicer p s) :=
  tablesOk_with ok

theorem tablesOk_setBuckets {p tc te : Nat} {s : State} (ok : TablesOk s) : TablesOk (setBuckets p tc te s) :=
  tablesOk_with ok

theorem tablesOk_withPolicer {s : State} {p : Nat} {x : List Nat × Nat × Nat} (ok : TablesOk s) : TablesOk (State.withPolicer s p x) :=
  tablesOk_setBuckets (ok_foldl (fun _ _ h1 => tablesOk_setReg h1) ok)

theorem tablesOk_policeNow {q : Pkt} {p : Nat} {s : State} (ok : TablesOk s) : TripleOk (policeNow q p s) :=
  ok_when (tablesOk_bump64 (ok_when (tablesOk_setBuckets ok) (fun h2 => tablesOk_bump32 h2))) (fun h1 => tablesOk_bump64 h1)

theorem tablesOk_police {q : Pkt} {p : Nat} {s : State} (ok : TablesOk s) : TripleOk (police q p s) := by
  unfold police
  split
  · exact tablesOk_policeNow ok
  · exact tablesOk_with (tablesOk_withPolicer (tablesOk_policeNow (tablesOk_withPolicer ok)))

theorem tablesOk_enqueue {L q c : Nat} {f : QFrame} {s : State} (ok : TablesOk s) : TablesOk (enqueue L q c f s) :=
  ok_ite (fun _ => tablesOk_bump32 ok) (fun _ => tablesOk_rejoin (tablesOk_raise (tablesOk_raise (tablesOk_bump64 (tablesOk_setQueue ok)))))

theorem tablesOk_mirrorCopy {p : Pkt} {m : Nat} {s : State} (ok : TablesOk s) : TablesOk (mirrorCopy p m s) := by
  unfold mirrorCopy
  dsimp only
  split
  · exact ok_ite (fun _ => tablesOk_enqueue (tablesOk_bump32 ok)) (fun _ => tablesOk_bump32 ok)
  · exact tablesOk_bump32 ok

theorem tablesOk_fencePacket {p : Pkt} {s : State} (ok : TablesOk s) : PairOk (fencePacket p s) := by
  unfold fencePacket
  split
  · dsimp only
    split
    · exact pairOk_ite (fun _ => ok) (fun _ => tablesOk_coalesceEvent (tablesOk_bump32 ok))
    · exact pairOk_ite (fun _ => tablesOk_coalesceEvent (tablesOk_bump32 ok)) (fun _ => tablesOk_bump32 ok)
  · exact ok

theorem tablesOk_admitPacket {p : Pkt} {s : State} (ok : TablesOk s) : TablesOk (admitPacket p s) := by
  unfold admitPacket
  refine tablesOk_releasePacket ?_
  refine tablesOk_updPacket ?_
  split
  · exact ok_foldl (fun _ _ h1 => tablesOk_mirrorCopy h1) (tablesOk_fencePacket ok)
  · refine ok_unless ?_ (fun h2 => tablesOk_enqueue h2)
    split
    · exact tablesOk_police (ok_foldl (fun _ _ h3 => tablesOk_mirrorCopy h3) (tablesOk_fencePacket ok))
    · exact ok_foldl (fun _ _ h4 => tablesOk_mirrorCopy h4) (tablesOk_fencePacket ok)

theorem outOk_execTmAdmit {t id : Nat} {s : State} (ok : TablesOk s) : OutOk (execTmAdmit t id s) := by
  unfold execTmAdmit
  refine outOk_next ?_
  split
  · exact ok
  · exact ok_ite (fun _ => tablesOk_admitPacket (tablesOk_advance ok)) (fun _ => ok)

theorem tablesOk_stampTx {p L tag : Nat} {s : State} (ok : TablesOk s) : TablesOk (stampTx p L tag s) :=
  ok_ite (fun _ => tablesOk_bump32 ok) (fun _ => tablesOk_commitPacket ok)

theorem tablesOk_macSend {p k L : Nat} {bytes : Bytes} {tag : Option Nat} {s : State} (ok : TablesOk s) : TablesOk (macSend p k L bytes tag s) := by
  unfold macSend
  refine ok_ite (fun _ => ?_) (fun _ => ?_)
  · refine tablesOk_receiveFrame ?_
    split
    · exact tablesOk_stampTx (tablesOk_bump64 (tablesOk_bump64 ok))
    · exact tablesOk_bump64 (tablesOk_bump64 ok)
  · refine ok_when ?_ (fun h1 => tablesOk_emit h1)
    split
    · exact tablesOk_stampTx (tablesOk_bump64 (tablesOk_bump64 ok))
    · exact tablesOk_bump64 (tablesOk_bump64 ok)

theorem tablesOk_sendHead {L q : Nat} {chk : FifoRead} {f : QFrame} {rest : List QFrame}
    {s : State} (ok : TablesOk s) : TablesOk (sendHead L q chk f rest s) := by
  unfold sendHead
  refine tablesOk_releasePacket ?_
  split
  · exact ok_unless (tablesOk_noteRead (tablesOk_chargeShaper (tablesOk_chargeShaper (tablesOk_setReg (tablesOk_setQueue ok))))) (fun h1 =>
      tablesOk_macSend (tablesOk_bump64 (tablesOk_bump64 h1)))
  · exact tablesOk_bump32 (tablesOk_chargeShaper (tablesOk_chargeShaper (tablesOk_setReg (tablesOk_setQueue ok))))

theorem tablesOk_endVisit {L : Nat} {l : List Nat} {s : State} (ok : TablesOk s) : TablesOk (endVisit L l s) :=
  tablesOk_with (tablesOk_setActiveQ ok)

/-- The quantum a queue takes at the start of its turn (R289) keeps the tables. -/
theorem tablesOk_creditTurn (s : State) (L q : Nat) (ok : TablesOk s) :
    TablesOk (if (tabGet 0 L s.tm.credited == q + 1) = true then s else
      { s.setReg (Addr.DEFICIT q) (s.reg (Addr.DEFICIT q) + s.reg (Addr.QUANTUM q)) with
        tm.credited := tabSet 0 L (q + 1) s.tm.credited }) :=
  ok_ite (fun _ => ok) (fun _ => tablesOk_with (tablesOk_setReg ok))

theorem tablesOk_drr {L : Nat} {chk : FifoRead} {fuel : Nat} {s : State} (ok : TablesOk s) : TablesOk (drr L chk fuel s) := by
  induction fuel generalizing s with
  | zero => exact ok
  | succ n ih =>
    unfold drr
    split
    · exact ok
    · rename_i q rest _
      refine ok_ite (fun _ => ok) (fun _ => ?_)
      have ok1 := tablesOk_creditTurn s L q ok
      dsimp only
      generalize (if (tabGet 0 L s.tm.credited == q + 1) = true then s else
          { s.setReg (Addr.DEFICIT q) (s.reg (Addr.DEFICIT q) + s.reg (Addr.QUANTUM q)) with
        tm.credited := tabSet 0 L (q + 1) s.tm.credited }) = s1 at ok1 ⊢
      split
      · exact ih (tablesOk_endVisit (tablesOk_setReg ok1))
      · exact ok_ite (fun _ => ih (tablesOk_endVisit ok1)) (fun _ => ok_ite (fun _ => tablesOk_sendHead ok1) (fun _ => ih (tablesOk_endVisit ok1)))

theorem tablesOk_sendCommitted {L : Nat} {chk : FifoRead} {q : FifoPkt} {s : State} (ok : TablesOk s) : TablesOk (sendCommitted L chk q s) := by
  unfold sendCommitted
  dsimp only
  split
  · exact ok_unless (tablesOk_popFifo ok) (fun h1 => ok_unless (tablesOk_noteRead h1) (fun h2 => tablesOk_macSend h2))
  · exact tablesOk_popFifo ok

theorem outOk_execFrameTransmit {t : Nat} {lport : Checked Nat} {s : State} (ok : TablesOk s) : OutOk (execFrameTransmit t lport s) := by
  unfold execFrameTransmit
  refine outOk_next ?_
  refine ok_ite (fun _ => ?_) (fun _ => ok)
  split
  · exact tablesOk_sendCommitted (tablesOk_advance ok)
  · exact tablesOk_drr (tablesOk_rejoin (tablesOk_advance ok))

theorem outOk_execPauseExpiry {t L prio : Nat} {s : State} (ok : TablesOk s) : OutOk (execPauseExpiry t L prio s) :=
  outOk_next (ok_ite (fun _ => tablesOk_rejoin (tablesOk_with (tablesOk_advance ok))) (fun _ => ok))

theorem outOk_execShaperOpen {t i : Nat} {s : State} (ok : TablesOk s) : OutOk (execShaperOpen t i s) :=
  outOk_next (ok_ite (fun _ => tablesOk_rejoinAll (tablesOk_advance ok)) (fun _ => ok))

theorem tablesOk_sampleQueue {q : Nat} {s : State} (ok : TablesOk s) : TablesOk (sampleQueue q s) :=
  tablesOk_setReg ok

theorem outOk_execQueueHistogramSample {t : Nat} {s : State} (ok : TablesOk s) : OutOk (execQueueHistogramSample t s) :=
  outOk_next (ok_ite (fun _ => ok_foldl (fun _ _ h1 => tablesOk_sampleQueue h1) (tablesOk_advance ok)) (fun _ => ok))

theorem tablesOk_setPolicer {p cfg cir pir cbs ebs : Nat} {cfgWritten : Bool}
    {s : State} (ok : TablesOk s) : PairOk (setPolicer p cfg cir pir cbs ebs cfgWritten s) :=
  pairOk_ite (fun _ => ok) (fun _ =>
      ok_when (tablesOk_setReg (tablesOk_setReg (tablesOk_setReg (tablesOk_setReg (tablesOk_setReg ok))))) (fun h1 => tablesOk_fillPolicer h1))

theorem tablesOk_wrPolicer {p w v : Nat} {s : State} (ok : TablesOk s) : PairOk (wrPolicer p w v s) :=
  tablesOk_setPolicer ok

theorem tablesOk_setQueueCfg {named : Bool} {q cfg quantum g y r sh : Nat}
    {s : State} (ok : TablesOk s) : PairOk (setQueueCfg named q cfg quantum g y r sh s) := by
  unfold setQueueCfg
  refine pairOk_ite (fun _ => ok) (fun _ => ?_)
  refine pairOk_ite (fun _ => ok) (fun _ => ?_)
  dsimp only
  split
  · exact tablesOk_rejoin (ok_unless (tablesOk_setReg (tablesOk_setReg (tablesOk_setReg (tablesOk_setReg (tablesOk_setReg (tablesOk_setReg ok))))))
      (fun h1 => tablesOk_flushQueue h1))
  · exact ok_unless (tablesOk_setReg (tablesOk_setReg (tablesOk_setReg (tablesOk_setReg (tablesOk_setReg (tablesOk_setReg ok)))))) (fun h2 =>
      tablesOk_flushQueue h2)

theorem tablesOk_wrQueue {q w v : Nat} {s : State} (ok : TablesOk s) : PairOk (wrQueue q w v s) :=
  tablesOk_setQueueCfg ok

theorem tablesOk_setPortQueues {L pq sh : Nat} {s : State} (ok : TablesOk s) : PairOk (setPortQueues L pq sh s) :=
  pairOk_ite (fun _ => ok) (fun _ => tablesOk_rejoinAll (tablesOk_with (tablesOk_setReg (tablesOk_setReg ok))))

theorem tablesOk_wrPqCfg {L v : Nat} {s : State} (ok : TablesOk s) : PairOk (wrPqCfg L v s) :=
  tablesOk_setPortQueues ok

theorem tablesOk_wrPortShaper {L v : Nat} {s : State} (ok : TablesOk s) : PairOk (wrPortShaper L v s) :=
  tablesOk_setPortQueues ok

theorem tablesOk_applyShaper {i fill rate burst : Nat} {s : State} (ok : TablesOk s) : PairOk (applyShaper i fill rate burst s) :=
  pairOk_ite (fun _ => ok) (fun _ => tablesOk_rejoinAll (tablesOk_with (tablesOk_freshSets (tablesOk_bump32 (tablesOk_setReg (tablesOk_setReg ok))))))

theorem tablesOk_wrShApply {i v : Nat} {s : State} (ok : TablesOk s) : PairOk (wrShApply i v s) :=
  tablesOk_applyShaper ok

theorem tablesOk_wrShCfg {i v : Nat} {s : State} (ok : TablesOk s) : PairOk (wrShCfg i v s) :=
  tablesOk_rejoinAll (tablesOk_setReg ok)

theorem tablesOk_wrTruncate {m v : Nat} {s : State} (ok : TablesOk s) : PairOk (wrTruncate m v s) :=
  pairOk_ite (fun _ => ok) (fun _ => tablesOk_setReg ok)

theorem tablesOk_cmdPolicerSet {env : Env} {p : Bytes} {s : State} (ok : TablesOk s) : PairOk (cmdPolicerSet env p s) :=
  pairOk_ite (fun _ => tablesOk_refuse ok) (fun _ => pairOk_ite (fun _ => tablesOk_refuse ok) (fun _ => pairOk_ite (fun _ =>
      tablesOk_with (tablesOk_freshSets (tablesOk_setPolicer ok))) (fun _ => tablesOk_refuse ok)))

theorem tablesOk_cmdQueueSet {env : Env} {p : Bytes} {s : State} (ok : TablesOk s) : PairOk (cmdQueueSet env p s) :=
  pairOk_ite (fun _ => tablesOk_refuse ok) (fun _ => pairOk_ite (fun _ => pairOk_ite (fun _ => tablesOk_refuse ok) (fun _ =>
      tablesOk_setPortQueues ok)) (fun _ => pairOk_ite (fun _ => tablesOk_refuse ok) (fun _ => tablesOk_setQueueCfg ok)))

theorem tablesOk_cmdShaperSet {env : Env} {p : Bytes} {s : State} (ok : TablesOk s) : PairOk (cmdShaperSet env p s) :=
  pairOk_ite (fun _ => tablesOk_refuse ok) (fun _ => pairOk_ite (fun _ => tablesOk_refuse ok) (fun _ => tablesOk_applyShaper (tablesOk_setReg ok)))

theorem tablesOk_cmdFenceSet {env : Env} {p : Bytes} {s : State} (ok : TablesOk s) : PairOk (cmdFenceSet env p s) :=
  pairOk_ite (fun _ => tablesOk_refuse ok) (fun _ => pairOk_ite (fun _ => tablesOk_refuse ok) (fun _ => pairOk_ite (fun _ => pairOk_ite (fun _ =>
      tablesOk_refuse ok) (fun _ => tablesOk_setFence (tablesOk_setFence ok))) (fun _ => pairOk_ite (fun _ => tablesOk_refuse ok) (fun _ =>
      tablesOk_setFence ok))))

theorem tablesOk_cmdMirrorSet {env : Env} {p : Bytes} {s : State} (ok : TablesOk s) : PairOk (cmdMirrorSet env p s) :=
  pairOk_ite (fun _ => tablesOk_refuse ok) (fun _ => pairOk_ite (fun _ => tablesOk_refuse ok) (fun _ => pairOk_ite (fun _ =>
      tablesOk_setReg (tablesOk_wrTruncate ok)) (fun _ => tablesOk_refuse ok)))

theorem tablesOk_cmdTmRead {env : Env} {p : Bytes} {s : State} (ok : TablesOk s) : PairOk (cmdTmRead env p s) :=
  pairOk_ite (fun _ => tablesOk_refuse ok) (fun _ => pairOk_ite (fun _ => tablesOk_refuse ok) (fun _ => ok_ite (fun _ => ok_foldl (fun _ _ h1 =>
      tablesOk_setReg h1) ok) (fun _ => ok)))

theorem tablesOk_closeFence {t : Nat} {s : State} (ok : TablesOk s) : TablesOk (closeFence t s) :=
  tablesOk_setReg (tablesOk_setReg ok)

theorem tablesOk_flushTenant {t : Nat} {s : State} (ok : TablesOk s) : TablesOk (flushTenant t s) :=
  ok_foldl (fun _ _ h1 => tablesOk_flushWhere h1) ok

/-! The functions of `Machine/Derived` -/

theorem tablesOk_captureShadow {s : State} (ok : TablesOk s) : TablesOk (captureShadow s) :=
  tablesOk_with ok

/-! The functions of `Machine/Integrity` -/

theorem tablesOk_cmdTestPackLoad {e : Env} {p : Bytes} {s : State} (ok : TablesOk s) : PairOk (cmdTestPackLoad e p s) := by
  unfold cmdTestPackLoad
  refine pairOk_ite (fun _ => tablesOk_refuse ok) (fun _ => ?_)
  refine pairOk_ite (fun _ => tablesOk_refuse ok) (fun _ => ?_)
  refine pairOk_ite (fun _ => tablesOk_refuse ok) (fun _ => ?_)
  refine pairOk_ite (fun _ => tablesOk_refuse ok) (fun _ => ?_)
  dsimp only
  split
  · exact tablesOk_refuse ok
  · exact pairOk_ite (fun _ => tablesOk_refuse ok) (fun _ => pairOk_ite (fun _ => tablesOk_refuse ok) (fun _ => pairOk_ite (fun _ =>
      tablesOk_countHbm (tablesOk_with ok)) (fun _ => tablesOk_takePack (tablesOk_countHbm ok))))

theorem tablesOk_startTest {c : Nat} {s : State} (ok : TablesOk s) : TablesOk (startTest c s) :=
  tablesOk_with (tablesOk_setFlag (tablesOk_updCell ok))

theorem outOk_execFieldTestStart {t : Nat} {s : State} (ok : TablesOk s) : OutOk (execFieldTestStart t s) := by
  unfold execFieldTestStart
  refine outOk_next ?_
  refine ok_ite (fun _ => ok) (fun _ => ?_)
  split
  · exact ok_ite (fun _ => ok) (fun _ => ok_when (tablesOk_with (tablesOk_advance ok)) (fun h1 =>
      tablesOk_startTest (tablesOk_with (tablesOk_advance ok))))
  · refine ok_ite (fun _ => ok) (fun _ => ?_)
    split
    · exact tablesOk_startTest (tablesOk_advance ok)
    · exact ok

theorem tablesOk_endTest {c result : Nat} {s : State} (ok : TablesOk s) : TablesOk (endTest c result s) :=
  tablesOk_raiseEvent (ok_when (tablesOk_bump32 (tablesOk_setFlag (tablesOk_updCell (tablesOk_with ok)))) (fun h1 => tablesOk_setFlag h1))

theorem outOk_execTestKernelDone {t c : Nat} {crc : W32} {flagged : Bool} {beats : Nat}
    {s : State} (ok : TablesOk s) : OutOk (execTestKernelDone t c crc flagged beats s) :=
  outOk_next (ok_ite (fun _ => ok) (fun _ => ok_ite (fun _ => ok_ite (fun _ => tablesOk_updCell (tablesOk_advance ok)) (fun _ =>
      tablesOk_applyNextPack (tablesOk_endTest (tablesOk_advance ok)))) (fun _ => tablesOk_applyNextPack (ok_ite (fun _ =>
      tablesOk_writeSignature (tablesOk_endTest (tablesOk_advance ok))) (fun _ => tablesOk_permanent (tablesOk_endTest (tablesOk_advance ok)))))))

theorem outOk_execTestStaleCheck {t : Nat} {s : State} (ok : TablesOk s) : OutOk (execTestStaleCheck t s) :=
  outOk_next (ok_ite (fun _ => ok) (fun _ => ok_foldl (fun _ _ h1 => ok_unless (tablesOk_setFlag h1) (fun h2 =>
      tablesOk_raiseEvent (tablesOk_updCell h2))) (tablesOk_advance ok)))

theorem tablesOk_cmdTestRun {e : Env} {p : Bytes} {s : State} (ok : TablesOk s) : PairOk (cmdTestRun e p s) :=
  pairOk_ite (fun _ => tablesOk_refuse ok) (fun _ => pairOk_ite (fun _ => tablesOk_refuse ok) (fun _ => pairOk_ite (fun _ =>
      tablesOk_refuse ok) (fun _ => tablesOk_with ok)))

theorem tablesOk_noteScrubbed {m : Nat} {s : State} (ok : TablesOk s) : TablesOk (noteScrubbed m s) :=
  ok_ite (fun _ => tablesOk_with ok) (fun _ => tablesOk_setReg (tablesOk_with ok))

theorem outOk_execScrubRead {t m offset error : Nat} {s : State} (ok : TablesOk s) : OutOk (execScrubRead t m offset error s) :=
  outOk_next (ok_ite (fun _ => ok) (fun _ => ok_when (ok_ite (fun _ => tablesOk_bump32 (tablesOk_advance ok)) (fun _ =>
      ok_when (tablesOk_advance ok) (fun h2 => ok_unless (tablesOk_setReg (tablesOk_bump32 h2)) (fun h3 => tablesOk_raiseEvent h3)))) (fun h1 =>
      tablesOk_noteScrubbed h1)))

/-! The functions of `Machine/Observe` -/

theorem tablesOk_cmdFreeze {e : Env} {p : Bytes} {s : State} (ok : TablesOk s) : PairOk (cmdFreeze e p s) :=
  pairOk_ite (fun _ => tablesOk_refuse ok) (fun _ => pairOk_ite (fun _ => tablesOk_refuse ok) (fun _ => pairOk_ite (fun _ =>
      tablesOk_refuse ok) (fun _ => pairOk_ite (fun _ => tablesOk_refuse ok) (fun _ => pairOk_ite (fun _ =>
      tablesOk_appendLog (tablesOk_with ok)) (fun _ => tablesOk_with (tablesOk_setFlag (tablesOk_setFlag (tablesOk_with ok))))))))

theorem outOk_execFreezeCapture {t : Nat} {s : State} (ok : TablesOk s) : OutOk (execFreezeCapture t s) := by
  unfold execFreezeCapture
  refine outOk_next ?_
  split
  · exact ok
  · exact ok_ite (fun _ => ok) (fun _ =>
      tablesOk_raiseFor (tablesOk_with (tablesOk_setReg (tablesOk_setReg (tablesOk_setReg (tablesOk_setReg (tablesOk_bump32 (tablesOk_captureShadow
      (tablesOk_advance ok)))))))))

theorem outOk_execStippleSample {t source : Nat} {s : State} (ok : TablesOk s) : OutOk (execStippleSample t source s) := by
  unfold execStippleSample
  refine outOk_next ?_
  split
  · exact ok
  · exact ok_ite (fun _ => ok) (fun _ => tablesOk_writeRecord (tablesOk_advance ok))

theorem outOk_execTraceTrigger {t cause origin detail : Nat} {s : State} (ok : TablesOk s) : OutOk (execTraceTrigger t cause origin detail s) := by
  unfold execTraceTrigger
  refine outOk_next ?_
  split
  · exact ok
  · exact ok_ite (fun _ => ok) (fun _ => ok_when (tablesOk_fireTrigger (tablesOk_advance ok)) (fun h1 => tablesOk_sendCtrl h1))

theorem tablesOk_cmdTraceRead {e : Env} {p : Bytes} {s : State} (ok : TablesOk s) : PairOk (cmdTraceRead e p s) :=
  pairOk_ite (fun _ => tablesOk_refuse ok) (fun _ => pairOk_ite (fun _ => tablesOk_refuse ok) (fun _ => ok))

theorem tablesOk_cmdSwatchSet {e : Env} {p : Bytes} {s : State} (ok : TablesOk s) : PairOk (cmdSwatchSet e p s) := by
  unfold cmdSwatchSet
  refine pairOk_ite (fun _ => tablesOk_refuse ok) (fun _ => ?_)
  split
  · exact tablesOk_refuse ok
  · exact pairOk_ite (fun _ => tablesOk_refuse ok) (fun _ => pairOk_ite (fun _ => pairOk_ite (fun _ => tablesOk_updJob ok) (fun _ =>
      tablesOk_refuse ok)) (fun _ => pairOk_ite (fun _ => tablesOk_refuse ok) (fun _ => pairOk_ite (fun _ => tablesOk_refuse ok) (fun _ =>
      tablesOk_updJob ok))))

theorem tablesOk_cmdDumpArm {e : Env} {p : Bytes} {s : State} (ok : TablesOk s) : PairOk (cmdDumpArm e p s) := by
  unfold cmdDumpArm
  refine pairOk_ite (fun _ => tablesOk_refuse ok) (fun _ => ?_)
  split
  · exact tablesOk_refuse ok
  · split
    · exact tablesOk_refuse ok
    · refine pairOk_ite (fun _ => tablesOk_refuse ok) (fun _ => ?_)
      refine pairOk_ite (fun _ => ?_) (fun _ => ?_)
      · split
        · exact tablesOk_refuse ok
        · exact tablesOk_updJob ok
      · refine pairOk_ite (fun _ => tablesOk_refuse ok) (fun _ => ?_)
        refine pairOk_ite (fun _ => tablesOk_refuse ok) (fun _ => ?_)
        split
        · exact tablesOk_refuse ok
        · exact tablesOk_updJob ok

theorem outOk_execDumpCopyDone {t tenant id num fault : Nat} {s : State} (ok : TablesOk s) : OutOk (execDumpCopyDone t tenant id num fault s) := by
  unfold execDumpCopyDone
  refine outOk_next ?_
  split
  · exact ok
  · split
    · exact ok
    · exact ok_ite (fun _ => tablesOk_raiseFor (tablesOk_updJob (tablesOk_advance ok))) (fun _ =>
        tablesOk_raiseFor (tablesOk_storeBytes (tablesOk_updJob (tablesOk_advance ok))))

theorem tablesOk_cmdWaitforRead {e : Env} {p : Bytes} {s : State} (ok : TablesOk s) : PairOk (cmdWaitforRead e p s) := by
  unfold cmdWaitforRead
  refine pairOk_ite (fun _ => tablesOk_refuse ok) (fun _ => ?_)
  refine pairOk_ite (fun _ => ok) (fun _ => ?_)
  refine pairOk_ite (fun _ => tablesOk_refuse ok) (fun _ => ?_)
  split
  · exact tablesOk_refuse ok
  · exact ok

theorem outOk_execHangTimeoutExpiry {t tenant id : Nat} {s : State} (ok : TablesOk s) : OutOk (execHangTimeoutExpiry t tenant id s) := by
  unfold execHangTimeoutExpiry
  refine outOk_next ?_
  split
  · exact ok
  · exact ok_ite (fun _ => ok) (fun _ => tablesOk_raiseEvent (tablesOk_bump32 (tablesOk_updJob (tablesOk_advance ok))))

/-! The functions of `Machine/Security` -/

theorem tablesOk_extendMeas {i : Nat} {d : Bytes} {s : State} (ok : TablesOk s) : TablesOk (extendMeas i d s) :=
  ok_foldl (fun _ _ h1 => tablesOk_setReg h1) ok

theorem tablesOk_closeSession {id cause : Nat} {s : State} (ok : TablesOk s) : TablesOk (closeSession id cause s) := by
  unfold closeSession
  split
  · exact ok
  · exact tablesOk_raiseEvent (ok_when (tablesOk_with ok) (fun h1 => tablesOk_setReg h1))

theorem tablesOk_makeTenant {t : Nat} {s : State} (ok : TablesOk s) : TablesOk (makeTenant t s) :=
  tablesOk_setReg (tablesOk_setFlag (tablesOk_with ok))

theorem tablesOk_cmdTenantCreate {e : Env} {p : Bytes} {s : State} (ok : TablesOk s) : PairOk (cmdTenantCreate e p s) :=
  pairOk_ite (fun _ => tablesOk_refuse ok) (fun _ => pairOk_ite (fun _ => tablesOk_refuse ok) (fun _ => pairOk_ite (fun _ => pairOk_ite (fun _ =>
      tablesOk_refuse ok) (fun _ => pairOk_ite (fun _ => tablesOk_refuse ok) (fun _ => pairOk_ite (fun _ => tablesOk_refuse ok) (fun _ =>
      tablesOk_extendMeas (tablesOk_setReg (tablesOk_setReg ok)))))) (fun _ => pairOk_ite (fun _ => tablesOk_refuse ok) (fun _ =>
      tablesOk_raiseEvent (tablesOk_extendMeas (tablesOk_with (tablesOk_setReg (tablesOk_setReg (tablesOk_makeTenant ok)))))))))

theorem tablesOk_resetItem {a n : Nat} {s : State} (ok : TablesOk s) : TablesOk (resetItem a n s) := by
  unfold resetItem
  refine ok_foldl (fun _ _ h1 => ?_) ok
  split
  · exact ok_ite (fun _ => tablesOk_setReg h1) (fun _ => h1)
  · exact h1

theorem tablesOk_dropTraffic {t : Nat} {s : State} (ok : TablesOk s) : TablesOk (dropTraffic t s) :=
  tablesOk_rejoinAll (ok_foldl (fun _ _ h1 => tablesOk_resetItem h1) (ok_foldl (fun _ _ h2 => tablesOk_resetItem h2) (ok_foldl (fun _ _ h3 =>
      tablesOk_resetItem h3) ok)))

theorem tablesOk_releaseTenant {t : Nat} {s : State} (ok : TablesOk s) : TablesOk (releaseTenant t s) :=
  tablesOk_setFlag (tablesOk_withMem (tablesOk_dropTraffic (tablesOk_flushTenant (ok_foldl (fun _ _ h1 => ok_ite (fun _ =>
      tablesOk_setCellState h1) (fun _ => tablesOk_unassignCell h1)) (tablesOk_with (tablesOk_resetItem (tablesOk_dropEntries ok)))))))

theorem tablesOk_cmdTenantDestroy {e : Env} {p : Bytes} {s : State} (ok : TablesOk s) : PairOk (cmdTenantDestroy e p s) :=
  pairOk_ite (fun _ => tablesOk_refuse ok) (fun _ => pairOk_ite (fun _ => tablesOk_refuse ok) (fun _ => pairOk_ite (fun _ =>
      tablesOk_refuse ok) (fun _ => pairOk_ite (fun _ => tablesOk_refuse ok) (fun _ => pairOk_ite (fun _ =>
      tablesOk_with (tablesOk_dropModels (ok_foldl (fun _ _ h1 =>
      tablesOk_advanceSends (tablesOk_endJob h1)) (tablesOk_closeFence (ok_when (ok_foldl (fun _ _ h3 =>
      tablesOk_closeSession h3) (tablesOk_setField ok)) (fun h2 => tablesOk_endTrace h2)))))) (fun _ =>
      tablesOk_releaseTenant (ok_when (tablesOk_dropModels (ok_foldl (fun _ _ h5 =>
      tablesOk_advanceSends (tablesOk_endJob h5)) (tablesOk_closeFence (ok_when (ok_foldl (fun _ _ h7 =>
      tablesOk_closeSession h7) (tablesOk_setField ok)) (fun h6 => tablesOk_endTrace h6))))) (fun h4 => tablesOk_endLease h4)))))))

theorem outOk_execRuleEpochFlipBeat {t : Nat} {s : State} (ok : TablesOk s) : OutOk (execRuleEpochFlipBeat t s) :=
  outOk_next (ok_unless (tablesOk_flipBeat ok) (fun h1 => ok_foldl (fun _ _ h2 => tablesOk_releaseTenant h2) (tablesOk_with h1)))

theorem outOk_execTenantKeyZeroise {t tenant : Nat} {s : State} (ok : TablesOk s) : OutOk (execTenantKeyZeroise t tenant s) :=
  outOk_next (ok_ite (fun _ => ok) (fun _ =>
      tablesOk_raiseEvent (tablesOk_extendMeas (tablesOk_setReg (tablesOk_setReg (tablesOk_setReg (tablesOk_setFlag (tablesOk_with
      (tablesOk_advance ok)))))))))

theorem tablesOk_cmdKeyInstall {e : Env} {p : Bytes} {s : State} (ok : TablesOk s) : PairOk (cmdKeyInstall e p s) :=
  pairOk_ite (fun _ => tablesOk_refuse ok) (fun _ => pairOk_ite (fun _ => tablesOk_refuse ok) (fun _ => pairOk_ite (fun _ =>
      tablesOk_refuse ok) (fun _ => pairOk_ite (fun _ => pairOk_ite (fun _ => tablesOk_refuse ok) (fun _ => pairOk_ite (fun _ =>
      tablesOk_refuse ok) (fun _ => tablesOk_raiseEvent (tablesOk_extendMeas (tablesOk_setFlag (tablesOk_with ok)))))) (fun _ =>
      tablesOk_raiseEvent (tablesOk_extendMeas (ok_ite (fun _ => tablesOk_with ok) (fun _ => tablesOk_with ok)))))))

theorem tablesOk_cmdSignerRegister {e : Env} {p : Bytes} {s : State} (ok : TablesOk s) : PairOk (cmdSignerRegister e p s) :=
  pairOk_ite (fun _ => tablesOk_refuse ok) (fun _ => tablesOk_raiseEvent (tablesOk_extendMeas (tablesOk_setFlag (tablesOk_with ok))))

theorem tablesOk_cmdAttest {e : Env} {p : Bytes} {s : State} (ok : TablesOk s) : PairOk (cmdAttest e p s) :=
  pairOk_ite (fun _ => tablesOk_refuse ok) (fun _ => pairOk_ite (fun _ => tablesOk_refuse ok) (fun _ => tablesOk_with ok))

theorem outOk_execAttestReportDone {t : Nat} {s : State} (ok : TablesOk s) : OutOk (execAttestReportDone t s) := by
  unfold execAttestReportDone
  refine outOk_next ?_
  split
  · exact ok
  · exact ok_ite (fun _ => ok) (fun _ => tablesOk_raiseFor (tablesOk_with (tablesOk_advance ok)))

theorem tablesOk_zeroise {mode : Nat} {s : State} (ok : TablesOk s) : TablesOk (zeroise mode s) :=
  tablesOk_resetDevice (tablesOk_with ok)

theorem tablesOk_cmdZeroise {e : Env} {p : Bytes} {s : State} (ok : TablesOk s) : PairOk (cmdZeroise e p s) :=
  pairOk_ite (fun _ => tablesOk_refuse ok) (fun _ => pairOk_ite (fun _ => tablesOk_refuse ok) (fun _ => tablesOk_zeroise ok))

theorem outOk_execTamperDetect {t : Nat} {s : State} (ok : TablesOk s) : OutOk (execTamperDetect t s) :=
  outOk_next (ok_ite (fun _ => tablesOk_setFlag (tablesOk_zeroise (tablesOk_with (tablesOk_advance ok)))) (fun _ =>
      tablesOk_setFlag (tablesOk_setField (tablesOk_with (tablesOk_with (tablesOk_advance ok))))))

theorem tablesOk_wrJtagCtrl {v : Nat} {s : State} (ok : TablesOk s) : PairOk (wrJtagCtrl v s) :=
  pairOk_ite (fun _ => ok) (fun _ => pairOk_ite (fun _ => ok) (fun _ => tablesOk_extendMeas (tablesOk_setReg ok)))

theorem tablesOk_cmdApprovedModeSet {e : Env} {p : Bytes} {s : State} (ok : TablesOk s) : PairOk (cmdApprovedModeSet e p s) :=
  pairOk_ite (fun _ => tablesOk_refuse ok) (fun _ => pairOk_ite (fun _ => tablesOk_refuse ok) (fun _ => pairOk_ite (fun _ =>
      tablesOk_refuse ok) (fun _ => pairOk_ite (fun _ => ok) (fun _ =>
      tablesOk_extendMeas (tablesOk_setFlag (tablesOk_setReg (tablesOk_with (ok_when (tablesOk_setFlag (tablesOk_setFlag ok)) (fun h1 =>
      ok_when (tablesOk_wrJtagCtrl h1) (fun h2 => tablesOk_setReg h2))))))))))

theorem tablesOk_wrSelftestPeriod {v : Nat} {s : State} (ok : TablesOk s) : PairOk (wrSelftestPeriod v s) :=
  pairOk_ite (fun _ => ok) (fun _ => tablesOk_setReg ok)

theorem outOk_execPeriodicSelftest {t engine : Nat} {s : State} (ok : TablesOk s) : OutOk (execPeriodicSelftest t engine s) :=
  outOk_next (ok_ite (fun _ => ok) (fun _ => tablesOk_with (tablesOk_advance ok)))

theorem tablesOk_enterError {cause : Nat} {s : State} (ok : TablesOk s) : TablesOk (enterError cause s) :=
  tablesOk_with (tablesOk_setFlag (tablesOk_setField (tablesOk_setReg ok)))

theorem outOk_execSelftestFailure {t cause : Nat} {s : State} (ok : TablesOk s) : OutOk (execSelftestFailure t cause s) :=
  outOk_next (ok_ite (fun _ => ok) (fun _ => tablesOk_enterError (tablesOk_advance ok)))

theorem outOk_execBootKeyReady {t : Nat} {s : State} (ok : TablesOk s) : OutOk (execBootKeyReady t s) :=
  outOk_next (ok_ite (fun _ => ok) (fun _ => ok_when (ok_when (tablesOk_setFlag (tablesOk_advance ok)) (fun h2 =>
      tablesOk_raiseEvent (tablesOk_with h2))) (fun h1 => tablesOk_raiseEvent h1)))

/-! The functions of `Machine/Firmware` -/

theorem tablesOk_setStage {n : Nat} {s : State} (ok : TablesOk s) : TablesOk (setStage n s) :=
  tablesOk_setField ok

theorem tablesOk_runImage {f : FwImage} {s : State} (ok : TablesOk s) : TablesOk (runImage f s) :=
  tablesOk_setStage (tablesOk_extendMeas (tablesOk_setReg (tablesOk_setReg (tablesOk_with ok))))

theorem tablesOk_measureBoot {s : State} (ok : TablesOk s) : TablesOk (measureBoot s) :=
  tablesOk_extendMeas (tablesOk_extendMeas ok)

theorem outOk_execBootRomStart {t selftest : Nat} {s : State} (ok : TablesOk s) : OutOk (execBootRomStart t selftest s) :=
  outOk_next (ok_ite (fun _ => ok) (fun _ => ok_ite (fun _ =>
      tablesOk_enterError (tablesOk_measureBoot (tablesOk_bump32 (tablesOk_advance ok)))) (fun _ => ok_ite (fun _ =>
      tablesOk_runImage (tablesOk_setFlag (tablesOk_measureBoot (tablesOk_bump32 (tablesOk_advance ok))))) (fun _ =>
      tablesOk_setStage (tablesOk_setFlag (tablesOk_measureBoot (tablesOk_bump32 (tablesOk_advance ok))))))))

theorem tablesOk_bootTest {failed : List Nat} {s : State} (ok : TablesOk s) : TablesOk (bootTest failed s) :=
  ok_foldl (fun _ _ h1 => ok_ite (fun _ => tablesOk_permanent (tablesOk_endTest h1)) (fun _ => tablesOk_endTest h1)) ok

theorem outOk_execHbmTrainDone {t hbms : Nat} {failed : List Nat} {s : State} (ok : TablesOk s) : OutOk (execHbmTrainDone t hbms failed s) :=
  outOk_next (ok_ite (fun _ => ok) (fun _ => tablesOk_with (tablesOk_bootTest (ok_foldl (fun _ _ h1 =>
      tablesOk_setFlag h1) (tablesOk_with (tablesOk_advance ok))))))

theorem outOk_execRecoveryFetch {t : Nat} {image : Bytes} {s : State} (ok : TablesOk s) : OutOk (execRecoveryFetch t image s) := by
  unfold execRecoveryFetch
  refine outOk_next ?_
  refine ok_ite (fun _ => ok) (fun _ => ?_)
  dsimp only
  split
  · exact ok_when (tablesOk_with (tablesOk_advance ok)) (fun h1 => tablesOk_runImage (tablesOk_with h1))
  · exact tablesOk_with (tablesOk_advance ok)

theorem outOk_execMgmtAddressConfig {t : Nat} {prefixes : List Nat} {ipv4 : Option Nat}
    {s : State} (ok : TablesOk s) : OutOk (execMgmtAddressConfig t prefixes ipv4 s) :=
  outOk_next (ok_ite (fun _ => tablesOk_with (tablesOk_advance ok)) (fun _ => ok))

theorem tablesOk_cmdFwStage {e : Env} {p : Bytes} {s : State} (ok : TablesOk s) : PairOk (cmdFwStage e p s) := by
  unfold cmdFwStage
  refine pairOk_ite (fun _ => tablesOk_refuse ok) (fun _ => ?_)
  refine pairOk_ite (fun _ => tablesOk_refuse ok) (fun _ => ?_)
  refine pairOk_ite (fun _ => tablesOk_refuse ok) (fun _ => ?_)
  dsimp only
  split
  · exact tablesOk_refuse ok
  · exact pairOk_ite (fun _ => tablesOk_refuse ok) (fun _ => pairOk_ite (fun _ => tablesOk_refuse ok) (fun _ => pairOk_ite (fun _ =>
      tablesOk_refuse ok) (fun _ => tablesOk_setFlag (tablesOk_countHbm (tablesOk_with ok)))))

theorem outOk_execFwImageStaged {t : Nat} {s : State} (ok : TablesOk s) : OutOk (execFwImageStaged t s) := by
  unfold execFwImageStaged
  refine outOk_next ?_
  split
  · exact ok_ite (fun _ => ok) (fun _ => tablesOk_raiseEvent (tablesOk_setFlag (tablesOk_advance ok)))
  · exact ok

theorem tablesOk_stepDown {s : State} (ok : TablesOk s) : TablesOk (stepDown s) :=
  ok_ite (fun _ => tablesOk_raiseEvent (tablesOk_setFlag (tablesOk_with ok))) (fun _ => ok)

theorem tablesOk_writeFlash {f : FwImage} {commit : Bool} {s : State} (ok : TablesOk s) : TablesOk (writeFlash f commit s) :=
  ok_when (tablesOk_with ok) (fun h1 => tablesOk_setReg h1)

theorem tablesOk_cmdFwActivate {e : Env} {p : Bytes} {s : State} (ok : TablesOk s) : PairOk (cmdFwActivate e p s) := by
  unfold cmdFwActivate
  refine pairOk_ite (fun _ => tablesOk_refuse ok) (fun _ => ?_)
  refine pairOk_ite (fun _ => tablesOk_refuse ok) (fun _ => ?_)
  split
  · exact tablesOk_refuse ok
  · exact pairOk_ite (fun _ => tablesOk_refuse ok) (fun _ => pairOk_ite (fun _ => tablesOk_refuse ok) (fun _ => pairOk_ite (fun _ =>
      tablesOk_resetDevice (tablesOk_writeFlash ok)) (fun _ => tablesOk_setStage (tablesOk_with (tablesOk_stepDown (tablesOk_raiseEvent ok))))))

theorem tablesOk_resumeFirmware {t0 : Nat} {f : FwImage} {s : State} (ok : TablesOk s) : TablesOk (resumeFirmware t0 f s) :=
  tablesOk_runHeldFences (tablesOk_sendEvents (ok_foldl (fun _ _ h1 =>
      tablesOk_freePacket (tablesOk_deliver h1)) (tablesOk_runImage (tablesOk_with ok))))

theorem outOk_execHandoverResume {t : Nat} {s : State} (ok : TablesOk s) : OutOk (execHandoverResume t s) := by
  unfold execHandoverResume
  refine outOk_next ?_
  split
  · exact ok_ite (fun _ => ok) (fun _ => tablesOk_raiseEvent (tablesOk_with (tablesOk_resumeFirmware (tablesOk_advance ok))))
  · exact ok

theorem outOk_execHandoverTimeout {t : Nat} {s : State} (ok : TablesOk s) : OutOk (execHandoverTimeout t s) := by
  unfold execHandoverTimeout
  refine outOk_next ?_
  split
  · exact ok_ite (fun _ => ok) (fun _ =>
      tablesOk_raiseEvent (tablesOk_setFlag (tablesOk_with (tablesOk_resumeFirmware (ok_elim (tablesOk_advance ok) (fun _ =>
      tablesOk_extendMeas (tablesOk_advance ok)))))))
  · exact ok

theorem outOk_execFlashWriteDone {t : Nat} {s : State} (ok : TablesOk s) : OutOk (execFlashWriteDone t s) := by
  unfold execFlashWriteDone
  refine outOk_next ?_
  split
  · exact ok_ite (fun _ => ok) (fun _ =>
      ok_when (tablesOk_setFlag (tablesOk_raiseEvent (tablesOk_with (tablesOk_writeFlash (tablesOk_advance ok))))) (fun h1 => tablesOk_raiseEvent h1))
  · exact ok

theorem tablesOk_cmdFwStatus {e : Env} {p : Bytes} {s : State} (ok : TablesOk s) : PairOk (cmdFwStatus e p s) :=
  pairOk_ite (fun _ => tablesOk_refuse ok) (fun _ => pairOk_ite (fun _ => tablesOk_refuse ok) (fun _ => ok))

theorem tablesOk_cmdDeviceReset {e : Env} {p : Bytes} {s : State} (ok : TablesOk s) : PairOk (cmdDeviceReset e p s) :=
  pairOk_ite (fun _ => tablesOk_refuse ok) (fun _ => pairOk_ite (fun _ => tablesOk_refuse ok) (fun _ => tablesOk_resetDevice ok))

theorem tablesOk_needsHbm {f : CmdFn} {e : Env} {p : Bytes}
    {s : State} (hf : ∀ x0 x1 x2, TablesOk x2 → PairOk (f x0 x1 x2)) (ok : TablesOk s) : PairOk (needsHbm f e p s) :=
  pairOk_ite (fun _ => tablesOk_refuse ok) (fun _ => hf _ _ _ ok)

/-! The functions of `Machine/ModuleHw` -/

theorem tablesOk_mbSet {bit : Nat} {persists : Bool} {s : State} (ok : TablesOk s) : TablesOk (mbSet bit persists s) :=
  tablesOk_with ok

theorem tablesOk_setAux {on : Bool} {s : State} (ok : TablesOk s) : TablesOk (setAux on s) :=
  tablesOk_with ok

theorem tablesOk_startPower {cause mv : Nat} {s : State} (ok : TablesOk s) : TablesOk (startPower cause mv s) :=
  tablesOk_resetDevice (tablesOk_with ok)

theorem outOk_execPowerOn {t mv : Nat} {s : State} (ok : TablesOk s) : OutOk (execPowerOn t mv s) :=
  outOk_next (ok_ite (fun _ => ok) (fun _ => tablesOk_startPower (tablesOk_advance ok)))

theorem outOk_execPowerRemove {t mv : Nat} {s : State} (ok : TablesOk s) : OutOk (execPowerRemove t mv s) :=
  outOk_next (tablesOk_setAux (tablesOk_with (ok_when (tablesOk_advance ok) (fun h1 => tablesOk_powerDown h1))))

theorem tablesOk_restart {cause : Nat} {s : State} (ok : TablesOk s) : TablesOk (restart cause s) :=
  ok_ite (fun _ => ok) (fun _ => tablesOk_startPower ok)

theorem tablesOk_clearTrip {how : ClearKind} {s : State} (ok : TablesOk s) : TablesOk (clearTrip how s) := by
  unfold clearTrip
  refine ok_ite (fun _ => ok) (fun _ => ?_)
  dsimp only
  split
  · exact tablesOk_restart (tablesOk_with ok)
  · exact tablesOk_restart (tablesOk_with ok)
  · exact tablesOk_setAux (tablesOk_with (tablesOk_with ok))

theorem outOk_execTripClear {t : Nat} {how : ClearKind} {s : State} (ok : TablesOk s) : OutOk (execTripClear t how s) :=
  outOk_next (ok_ite (fun _ => tablesOk_clearTrip (tablesOk_advance ok)) (fun _ => ok))

theorem outOk_execPinReset {t lowNs : Nat} {s : State} (ok : TablesOk s) : OutOk (execPinReset t lowNs s) :=
  outOk_next (ok_ite (fun _ => ok) (fun _ => ok_ite (fun _ => tablesOk_resetDevice (tablesOk_advance ok)) (fun _ => ok_ite (fun _ =>
      tablesOk_clearTrip (tablesOk_advance ok)) (fun _ => ok))))

theorem outOk_execRefclkSysLoss {t : Nat} {good : Bool} {s : State} (ok : TablesOk s) : OutOk (execRefclkSysLoss t good s) :=
  outOk_next (ok_ite (fun _ => ok_unless (tablesOk_advance ok) (fun h1 => tablesOk_startBeat (tablesOk_with h1))) (fun _ =>
      ok_unless (tablesOk_advance ok) (fun h2 => tablesOk_setReg (tablesOk_resetDevice (tablesOk_with h2)))))

theorem outOk_execPresentNOpen {t : Nat} {s : State} (ok : TablesOk s) : OutOk (execPresentNOpen t s) :=
  outOk_next (tablesOk_setAux (tablesOk_with (ok_when (tablesOk_advance ok) (fun h1 => tablesOk_powerDown h1))))

theorem outOk_execOvervoltage {t mv : Nat} {s : State} (ok : TablesOk s) : OutOk (execOvervoltage t mv s) :=
  outOk_ite (fun _ => outOk_fault) (fun _ => outOk_next (ok_ite (fun _ => ok) (fun _ =>
      tablesOk_setAux (tablesOk_with (ok_when (tablesOk_mbSet (tablesOk_advance ok)) (fun h1 => tablesOk_powerDown h1))))))

theorem outOk_execReversePolarity {t : Nat} {mv : Int} {s : State} (ok : TablesOk s) : OutOk (execReversePolarity t mv s) :=
  outOk_ite (fun _ => outOk_fault) (fun _ => outOk_next (ok_ite (fun _ => ok) (fun _ =>
      tablesOk_setAux (tablesOk_with (ok_when (tablesOk_advance ok) (fun h1 => tablesOk_powerDown h1))))))

theorem outOk_execSenseFault {t : Nat} {crossed : Bool} {internalMv : Nat}
    {s : State} (ok : TablesOk s) : OutOk (execSenseFault t crossed internalMv s) :=
  outOk_next (ok_ite (fun _ => ok) (fun _ => ok_when (tablesOk_with (tablesOk_mbSet (tablesOk_advance ok))) (fun h1 => tablesOk_setReg h1)))

theorem outOk_execAuxOverload {t : Nat} {present : Bool} {s : State} (ok : TablesOk s) : OutOk (execAuxOverload t present s) :=
  outOk_next (ok_ite (fun _ => ok) (fun _ => ok_ite (fun _ => tablesOk_mbSet (tablesOk_advance ok)) (fun _ => tablesOk_with (tablesOk_advance ok))))

theorem outOk_execMbFaultClear {t mask : Nat} {s : State} (ok : TablesOk s) : OutOk (execMbFaultClear t mask s) :=
  outOk_next (ok_ite (fun _ => ok) (fun _ => tablesOk_with (tablesOk_advance ok)))

theorem outOk_execI3cAddressAssign {t : Nat} {entdaa : Bool} {addr : Nat}
    {s : State} (ok : TablesOk s) : OutOk (execI3cAddressAssign t entdaa addr s) :=
  outOk_next (ok_ite (fun _ => ok) (fun _ => tablesOk_with (tablesOk_advance ok)))

/-! The functions of `Machine/Csr` -/

theorem tablesOk_setLatch {a v : Nat} {s : State} (ok : TablesOk s) : TablesOk (setLatch a v s) :=
  tablesOk_with ok

theorem tablesOk_latchPair {key : Nat} {s : State} (ok : TablesOk s) : TablesOk (latchPair key s) :=
  ok_when (tablesOk_setLatch ok) (fun h1 => tablesOk_setLatch h1)

theorem tablesOk_readTsData {f j : Nat} {s : State} (ok : TablesOk s) : TablesOk (readTsData f j s) :=
  ok_ite (fun _ => tablesOk_popFifo ok) (fun _ => ok_ite (fun _ => ok) (fun _ => tablesOk_setFifo ok))

theorem tablesOk_readLoc {a : Nat} {l : Loc} {s : State} (ok : TablesOk s) : PairOk (readLoc a l s) :=
  pairOk_ite (fun _ => ok) (fun _ => pairOk_ite (fun _ => ok) (fun _ => pairOk_ite (fun _ => tablesOk_latchPair ok) (fun _ => pairOk_ite (fun _ =>
      ok) (fun _ => pairOk_ite (fun _ => tablesOk_setLatch ok) (fun _ => pairOk_ite (fun _ => tablesOk_setReg ok) (fun _ => pairOk_ite (fun _ =>
      ok_ite (fun _ => tablesOk_readTsData ok) (fun _ => ok)) (fun _ => pairOk_ite (fun _ => tablesOk_rdStoreData ok) (fun _ =>
      pairOk_ite (fun _ => tablesOk_setReg ok) (fun _ => ok)))))))))

theorem tablesOk_readWord {e : Env} {a : Nat} {s : State} (ok : TablesOk s) : TripleOk (readWord e a s) := by
  unfold readWord
  split
  · exact ok
  · refine tripleOk_ite (fun _ => ok) (fun _ => ?_)
    split
    · exact ok
    · exact tablesOk_readLoc ok

theorem tablesOk_readShadow {e : Env} {a : Nat} {s : State} (ok : TablesOk s) : TripleOk (readShadow e a s) := by
  unfold readShadow
  split
  · exact ok
  · refine tripleOk_ite (fun _ => ok) (fun _ => ?_)
    split
    · exact ok
    · exact tripleOk_ite (fun _ => ok) (fun _ => tripleOk_ite (fun _ => ok) (fun _ => ok))

theorem tablesOk_writePlain {l : Loc} {v : Nat} {s : State} (ok : TablesOk s) : PairOk (writePlain l v s) :=
  pairOk_ite (fun _ => tablesOk_setReg ok) (fun _ => ok)

theorem tablesOk_inRange {l : Loc} {v : Nat} {f : Nat → State → Nat × State}
    {s : State} (hf : ∀ x0 x1, TablesOk x1 → PairOk (f x0 x1)) (ok : TablesOk s) : PairOk (inRange l v f s) :=
  pairOk_ite (fun _ => hf _ _ ok) (fun _ => ok)

theorem tablesOk_wrGlobalCtrl {v : Nat} {s : State} (ok : TablesOk s) : PairOk (wrGlobalCtrl v s) :=
  tablesOk_sendEvents (tablesOk_setReg ok)

theorem tablesOk_wrBeatStatus {v : Nat} {s : State} (ok : TablesOk s) : PairOk (wrBeatStatus v s) :=
  tablesOk_setReg ok

theorem tablesOk_writeBeat {l : Loc} {a v : Nat} {s : State} (ok : TablesOk s) : PairOk (writeBeat l a v s) :=
  pairOk_ite (fun _ => tablesOk_wrBeatCtrl ok) (fun _ => pairOk_ite (fun _ => tablesOk_wrBeatRateTarget ok) (fun _ => pairOk_ite (fun _ =>
      tablesOk_wrBeatStatus ok) (fun _ => pairOk_ite (fun _ => tablesOk_wrSpokeReattach ok) (fun _ => pairOk_ite (fun _ =>
      tablesOk_wrHaltMask ok) (fun _ => pairOk_ite (fun _ => tablesOk_wrResumeMask ok) (fun _ => pairOk_ite (fun _ =>
      tablesOk_wrGustCtrl ok) (fun _ => pairOk_ite (fun _ => tablesOk_wrGroupRefPort ok) (fun _ => pairOk_ite (fun _ =>
      tablesOk_wrTimeCtrl ok) (fun _ => pairOk_ite (fun _ => tablesOk_wrTimeFreqAdj ok) (fun _ => pairOk_ite (fun _ =>
      tablesOk_wrTimeStepNs ok) (fun _ => pairOk_ite (fun _ => tablesOk_wrSnap ok) (fun _ => tablesOk_writePlain ok))))))))))))

theorem tablesOk_writePort {l : Loc} {a v : Nat} {s : State} (ok : TablesOk s) : PairOk (writePort l a v s) :=
  pairOk_ite (fun _ => tablesOk_wrPortMode ok) (fun _ => pairOk_ite (fun _ => pairOk_ite (fun _ => ok) (fun _ => tablesOk_inRange (fun _ _ h1 =>
      tablesOk_wrSubPort h1) ok)) (fun _ => tablesOk_writePlain ok))

theorem tablesOk_writeFifo {l : Loc} {v : Nat} {s : State} (ok : TablesOk s) : PairOk (writeFifo l v s) :=
  pairOk_ite (fun _ => ok) (fun _ => pairOk_ite (fun _ => tablesOk_wrFifoCtrl ok) (fun _ => tablesOk_wrDropRest ok))

theorem tablesOk_writeGroup {l : Loc} {v : Nat} {s : State} (ok : TablesOk s) : PairOk (writeGroup l v s) :=
  pairOk_ite (fun _ => tablesOk_wrHcCtrl ok) (fun _ => pairOk_ite (fun _ => tablesOk_wrProgValidate ok) (fun _ => pairOk_ite (fun _ =>
      tablesOk_wrProgFlip ok) (fun _ => pairOk_ite (fun _ => tablesOk_wrProgStage ok) (fun _ => pairOk_ite (fun _ =>
      tablesOk_wrDispStage ok) (fun _ => tablesOk_writePlain ok)))))

theorem tablesOk_writeStage {e : Env} {l : Loc} {v : Nat} {s : State} (ok : TablesOk s) : PairOk (writeStage e l v s) :=
  pairOk_ite (fun _ => tablesOk_wrMissStage ok) (fun _ => pairOk_ite (fun _ => tablesOk_wrEntrySel ok) (fun _ => pairOk_ite (fun _ =>
      tablesOk_wrEntryCmd ok) (fun _ => pairOk_ite (fun _ => tablesOk_wrKeyselStage ok) (fun _ => pairOk_ite (fun _ =>
      tablesOk_wrTernRange ok) (fun _ => tablesOk_writePlain ok)))))

theorem tablesOk_writeRule {l : Loc} {a v : Nat} {s : State} (ok : TablesOk s) : PairOk (writeRule l a v s) :=
  pairOk_ite (fun _ => tablesOk_wrHashStage ok) (fun _ => pairOk_ite (fun _ => tablesOk_wrExcRate ok) (fun _ => pairOk_ite (fun _ =>
      tablesOk_wrExcBurst ok) (fun _ => pairOk_ite (fun _ => tablesOk_wrExcPortRate ok) (fun _ => pairOk_ite (fun _ =>
      tablesOk_wrPortDefault ok) (fun _ => pairOk_ite (fun _ => tablesOk_wrEgroup ok) (fun _ => pairOk_ite (fun _ =>
      tablesOk_wrEncap ok) (fun _ => tablesOk_writePlain ok)))))))

theorem tablesOk_writeFlowTenant {e : Env} {l : Loc} {v : Nat} {s : State} (ok : TablesOk s) : PairOk (writeFlowTenant e l v s) :=
  pairOk_ite (fun _ => ok) (fun _ => tablesOk_inRange (fun _ _ h1 => tablesOk_wrFlowTenant h1) ok)

theorem tablesOk_writeTm {l : Loc} {a v : Nat} {s : State} (ok : TablesOk s) : PairOk (writeTm l a v s) :=
  pairOk_ite (fun _ => tablesOk_wrPolicer ok) (fun _ => pairOk_ite (fun _ => pairOk_ite (fun _ => tablesOk_wrShApply ok) (fun _ =>
      pairOk_ite (fun _ => tablesOk_wrShCfg ok) (fun _ => tablesOk_writePlain ok))) (fun _ => pairOk_ite (fun _ => tablesOk_wrQueue ok) (fun _ =>
      pairOk_ite (fun _ => pairOk_ite (fun _ => tablesOk_wrPqCfg ok) (fun _ => pairOk_ite (fun _ => tablesOk_wrPortShaper ok) (fun _ =>
      tablesOk_writePlain ok))) (fun _ => pairOk_ite (fun _ => tablesOk_wrTruncate ok) (fun _ => tablesOk_writePlain ok)))))

theorem tablesOk_writeBridge {l : Loc} {v : Nat} {s : State} (ok : TablesOk s) : PairOk (writeBridge l v s) :=
  pairOk_ite (fun _ => ok) (fun _ => tablesOk_writePlain ok)

theorem tablesOk_writeLoc {e : Env} {a v : Nat} {l : Loc} {s : State} (ok : TablesOk s) : PairOk (writeLoc e a v l s) := by
  unfold writeLoc
  split
  · exact pairOk_ite (fun _ => tablesOk_wrGlobalCtrl ok) (fun _ => tablesOk_writePlain ok)
  · exact tablesOk_writeBeat ok
  · exact pairOk_ite (fun _ => tablesOk_wrIntCtrl ok) (fun _ => pairOk_ite (fun _ => tablesOk_wrCellAckTimeout ok) (fun _ => tablesOk_writePlain ok))
  · exact pairOk_ite (fun _ => tablesOk_wrJtagCtrl ok) (fun _ => pairOk_ite (fun _ => tablesOk_wrSelftestPeriod ok) (fun _ => tablesOk_writePlain ok))
  · exact tablesOk_writePort ok
  · exact tablesOk_writeFifo ok
  · exact tablesOk_writeGroup ok
  · exact tablesOk_writeStage ok
  · exact tablesOk_writeRule ok
  · exact pairOk_ite (fun _ => tablesOk_wrScanPeriod ok) (fun _ => tablesOk_writePlain ok)
  · exact tablesOk_writeFlowTenant ok
  · exact tablesOk_writeTm ok
  · exact pairOk_ite (fun _ => tablesOk_wrFpCtrl ok) (fun _ => tablesOk_writePlain ok)
  · exact tablesOk_writeBridge ok
  · exact pairOk_ite (fun _ => tablesOk_wrStoreCmd ok) (fun _ => tablesOk_writePlain ok)
  · exact tablesOk_writePlain ok
  · exact tablesOk_writePlain ok
  · exact tablesOk_writePlain ok
  · exact tablesOk_writePlain ok
  · exact tablesOk_writePlain ok

theorem tablesOk_writeWord {e : Env} {a v : Nat} {s : State} (ok : TablesOk s) : PairOk (writeWord e a v s) := by
  unfold writeWord
  split
  · exact ok
  · refine pairOk_ite (fun _ => ok) (fun _ => ?_)
    split
    · exact ok
    · refine pairOk_ite (fun _ => ok) (fun _ => ?_)
      split
      · exact ok
      · exact ok
      · exact tablesOk_writeLoc ok
      · exact tablesOk_writeLoc ok
      · exact tablesOk_writeLoc ok
      · exact tablesOk_writeLoc ok

theorem tablesOk_readWords {f : Nat → State → Nat × Nat × State} {a n : Nat}
    {s : State} (hf : ∀ a s, TablesOk s → TripleOk (f a s)) (ok : TablesOk s) :
    TripleOk (readWords f a n s) := by
  induction n generalizing a s with
  | zero => exact ok
  | succ n ih =>
    unfold readWords
    exact tripleOk_ite (fun _ => ok) (fun _ => ih (hf _ _ ok))

theorem tablesOk_writeWords {e : Env} {a : Nat} {vs : List Nat} {s : State} (ok : TablesOk s) : TripleOk (writeWords e a vs s) := by
  induction vs generalizing a s with
  | nil => exact ok
  | cons v vs ih =>
    unfold writeWords
    exact tripleOk_ite (fun _ => ok) (fun _ => ih (tablesOk_writeWord ok))

theorem tablesOk_cmdCsrRead {e : Env} {p : Bytes} {s : State} (ok : TablesOk s) : PairOk (cmdCsrRead e p s) :=
  pairOk_ite (fun _ => tablesOk_refuse ok) (fun _ => tablesOk_readWords (fun _ _ h1 => tablesOk_readWord h1) ok)

theorem tablesOk_cmdCsrWrite {e : Env} {p : Bytes} {s : State} (ok : TablesOk s) : PairOk (cmdCsrWrite e p s) :=
  pairOk_ite (fun _ => tablesOk_refuse ok) (fun _ => tablesOk_writeWords ok)

theorem tablesOk_cmdCsrModify {e : Env} {p : Bytes} {s : State} (ok : TablesOk s) : PairOk (cmdCsrModify e p s) := by
  unfold cmdCsrModify
  refine pairOk_ite (fun _ => tablesOk_refuse ok) (fun _ => ?_)
  refine pairOk_ite (fun _ => tablesOk_refuse ok) (fun _ => ?_)
  split
  · exact tablesOk_refuse ok
  · refine pairOk_ite (fun _ => tablesOk_refuse ok) (fun _ => ?_)
    split
    · exact ok
    · exact tablesOk_refuse ok
    · exact tablesOk_refuse ok
    · exact tablesOk_refuse ok
    · exact pairOk_ite (fun _ => tablesOk_writeWord ok) (fun _ => tablesOk_refuse ok)
    · exact pairOk_ite (fun _ => tablesOk_writeWord ok) (fun _ => tablesOk_refuse ok)

theorem tablesOk_cmdCounterRead {e : Env} {p : Bytes} {s : State} (ok : TablesOk s) : PairOk (cmdCounterRead e p s) := by
  refine pairOk_ite (fun _ => tablesOk_refuse ok) (fun _ => tablesOk_readWords (fun a s h => ?_) ok)
  split
  · exact tablesOk_readShadow h
  · exact tablesOk_readWord h

/-! The functions of `Machine/Session` -/

theorem tablesOk_sendReply {p : SentPacket} {s : State} (ok : TablesOk s) : TablesOk (sendReply p s) := by
  unfold sendReply
  split
  · exact ok_ite (fun _ => tablesOk_with ok) (fun _ => tablesOk_signal (tablesOk_emit (tablesOk_with ok)))
  · exact tablesOk_noteSends (tablesOk_sendCmd (tablesOk_emit ok))
  · exact tablesOk_emit ok

theorem tablesOk_freeMailbox {tr : Transport} {s : State} (ok : TablesOk s) : TablesOk (freeMailbox tr s) :=
  ok_ite (fun _ => ok_ite (fun _ => tablesOk_with ok) (fun _ => tablesOk_with ok)) (fun _ => ok)

theorem tablesOk_takeMailbox {s : State} (ok : TablesOk s) : TablesOk (takeMailbox s) := by
  unfold takeMailbox
  split
  · exact tablesOk_with ok
  · exact ok_ite (fun _ => tablesOk_with (tablesOk_setFifo ok)) (fun _ => tablesOk_with (tablesOk_setFifo ok))

theorem tablesOk_openSession {h : Hand} {p : Bytes} {s : State} (ok : TablesOk s) : PairOk (openSession h p s) :=
  pairOk_ite (fun _ => tablesOk_refuse ok) (fun _ => pairOk_ite (fun _ => tablesOk_refuse ok) (fun _ => pairOk_ite (fun _ =>
      tablesOk_refuse ok) (fun _ => pairOk_ite (fun _ => tablesOk_refuse ok) (fun _ => tablesOk_with (tablesOk_with (tablesOk_with ok))))))

theorem tablesOk_failHandshake {t : Nat} {s : State} (ok : TablesOk s) : TablesOk (failHandshake t s) :=
  ok_ite (fun _ => tablesOk_with (tablesOk_bump32 ok)) (fun _ =>
      tablesOk_raiseEvent (tablesOk_setFlag (tablesOk_bump32 (tablesOk_with (tablesOk_bump32 ok)))))

theorem tablesOk_claim {cred p : Bytes} {s : State} (ok : TablesOk s) : TablesOk (claim cred p s) :=
  tablesOk_raiseEvent (tablesOk_extendMeas (tablesOk_setField (tablesOk_with ok)))

theorem tablesOk_keySession {h : Hand} {p : Bytes} {s : State} (ok : TablesOk s) : PairOk (keySession h p s) := by
  unfold keySession
  refine pairOk_ite (fun _ => tablesOk_refuse ok) (fun _ => ?_)
  split
  · exact tablesOk_refuse ok
  · exact pairOk_ite (fun _ => tablesOk_refuse ok) (fun _ => pairOk_ite (fun _ => tablesOk_refuse ok) (fun _ => pairOk_ite (fun _ =>
      tablesOk_failHandshake (tablesOk_with ok)) (fun _ => ok_unless (tablesOk_with (ok_unless (tablesOk_with ok) (fun h2 =>
      tablesOk_makeTenant h2))) (fun h1 => tablesOk_claim h1))))

theorem tablesOk_serveHand {f : Hand → Bytes → State → Reply × State} {op : Nat} {h : Hand} {p : Bytes}
    {s : State} (hf : ∀ x0 x1 x2, TablesOk x2 → PairOk (f x0 x1 x2)) (ok : TablesOk s) : TablesOk (serveHand f op h p s) :=
  tablesOk_sendReply (hf _ _ _ ok)

theorem tablesOk_handRow {f : Hand → Bytes → State → Reply × State} {op : Nat} {h : Hand} {p : Bytes}
    {s : State} (hf : ∀ x0 x1 x2, TablesOk x2 → PairOk (f x0 x1 x2)) (ok : TablesOk s) : TablesOk (handRow f op h p s) :=
  ok_ite (fun _ => ok) (fun _ => ok_ite (fun _ => tablesOk_bump32 (tablesOk_advance ok)) (fun _ =>
      tablesOk_serveHand hf (ok_when (tablesOk_advance ok) (fun h1 => tablesOk_takeMailbox h1))))

theorem outOk_execSessionOpen {h : Hand} {p : Bytes} {s : State} (ok : TablesOk s) : OutOk (execSessionOpen h p s) :=
  outOk_next (tablesOk_handRow (fun _ _ _ h1 => tablesOk_openSession h1) ok)

theorem outOk_execSessionKey {h : Hand} {p : Bytes} {s : State} (ok : TablesOk s) : OutOk (execSessionKey h p s) :=
  outOk_next (tablesOk_handRow (fun _ _ _ h1 => tablesOk_keySession h1) ok)

theorem outOk_execHandshakeExpiry {t id : Nat} {s : State} (ok : TablesOk s) : OutOk (execHandshakeExpiry t id s) :=
  outOk_next (ok_ite (fun _ => tablesOk_with (tablesOk_advance ok)) (fun _ => ok))

theorem outOk_execLockoutExpiry {t tenant : Nat} {s : State} (ok : TablesOk s) : OutOk (execLockoutExpiry t tenant s) := by
  unfold execLockoutExpiry
  refine outOk_next ?_
  split
  · exact ok_ite (fun _ => ok) (fun _ => tablesOk_setFlag (tablesOk_with (tablesOk_advance ok)))
  · exact ok

theorem tablesOk_expireIdle {id : Nat} {s : State} (ok : TablesOk s) : TablesOk (expireIdle id s) := by
  unfold expireIdle
  split
  · exact ok_ite (fun _ => tablesOk_closeSession ok) (fun _ => ok)
  · exact ok

theorem outOk_execSessionIdleExpiry {t id : Nat} {s : State} (ok : TablesOk s) : OutOk (execSessionIdleExpiry t id s) :=
  outOk_next (ok_ite (fun _ => tablesOk_expireIdle (tablesOk_advance ok)) (fun _ => ok))

theorem outOk_execEventWindowClose {t opcode key : Nat} {s : State} (ok : TablesOk s) : OutOk (execEventWindowClose t opcode key s) := by
  unfold execEventWindowClose
  refine outOk_next ?_
  split
  · exact ok_ite (fun _ => tablesOk_closeWindow (tablesOk_advance ok)) (fun _ => ok)
  · exact ok

theorem tablesOk_cmdSessionClose {e : Env} {p : Bytes} {s : State} (ok : TablesOk s) : PairOk (cmdSessionClose e p s) :=
  pairOk_ite (fun _ => tablesOk_refuse ok) (fun _ => pairOk_ite (fun _ => tablesOk_refuse ok) (fun _ => ok_ite (fun _ => ok) (fun _ =>
      tablesOk_closeSession ok)))

theorem tablesOk_cmdDeviceInfo {e : Env} {p : Bytes} {s : State} (ok : TablesOk s) : PairOk (cmdDeviceInfo e p s) :=
  pairOk_ite (fun _ => tablesOk_refuse ok) (fun _ => ok)

theorem tablesOk_cmdEcho {e : Env} {p : Bytes} {s : State} (ok : TablesOk s) : PairOk (cmdEcho e p s) :=
  pairOk_ite (fun _ => tablesOk_refuse ok) (fun _ => ok)

theorem tablesOk_cmdEventSubscribe {e : Env} {p : Bytes} {s : State} (ok : TablesOk s) : PairOk (cmdEventSubscribe e p s) :=
  pairOk_ite (fun _ => tablesOk_refuse ok) (fun _ => tablesOk_updSession ok)

theorem tablesOk_cmdEventSink {e : Env} {p : Bytes} {s : State} (ok : TablesOk s) : PairOk (cmdEventSink e p s) :=
  pairOk_ite (fun _ => tablesOk_refuse ok) (fun _ => pairOk_ite (fun _ => tablesOk_refuse ok) (fun _ => tablesOk_setReg ok))

theorem tablesOk_runOne {f : CmdFn} {x : Session} {h : HeldCommand}
    {s : State} (hf : ∀ x0 x1 x2, TablesOk x2 → PairOk (f x0 x1 x2)) (ok : TablesOk s) : TablesOk (runOne f x h s) :=
  ok_unless (tablesOk_updSession (pairOk_ite (fun _ => tablesOk_refuse (tablesOk_bump64 (tablesOk_updSession ok))) (fun _ => pairOk_ite (fun _ =>
      tablesOk_refuse (tablesOk_bump64 (tablesOk_updSession ok))) (fun _ => hf _ _ _ (tablesOk_bump64 (tablesOk_updSession ok)))))) (fun h1 =>
      ok_when (ok_ite (fun _ => tablesOk_emit h1) (fun _ => tablesOk_sendReply h1)) (fun h2 => tablesOk_closeSession h2))

/-! The functions of `Machine/Commands` -/

theorem tablesOk_cmdGroupJoinPacket {e : Env} {p : Bytes} {s : State} (ok : TablesOk s) : PairOk (cmdGroupJoinPacket e p s) :=
  tablesOk_cmdGroupJoin (tablesOk_with ok)

/-- A command's action keeps the tables. -/
def CmdOk (f : CmdFn) : Prop := ∀ e p s, TablesOk s → PairOk (f e p s)

/-- Every action of a command table keeps the tables. -/
inductive CmdsOk : List (Nat × CmdFn) → Prop
  | nil : CmdsOk []
  | cons {op f l} (h : CmdOk f) (hl : CmdsOk l) : CmdsOk ((op, f) :: l)

theorem CmdsOk.mem {l : List (Nat × CmdFn)} (hl : CmdsOk l) : ∀ x ∈ l, CmdOk x.2 := by
  induction hl with
  | nil => rintro _ ⟨⟩
  | cons h _ ih => exact List.forall_mem_cons.mpr ⟨h, ih⟩

theorem cmdOk_needsHbm {f : CmdFn} (h : CmdOk f) : CmdOk (needsHbm f) :=
  fun _ _ _ ok => tablesOk_needsHbm h ok

theorem tablesOk_cmdTable0 : CmdsOk cmdTable0 :=
  .cons (fun _ _ _ ok => tablesOk_cmdSessionClose ok) <|
  .cons (fun _ _ _ ok => tablesOk_cmdDeviceInfo ok) <|
  .cons (fun _ _ _ ok => tablesOk_cmdEcho ok) <|
  .cons (fun _ _ _ ok => tablesOk_cmdEventSubscribe ok) <|
  .cons (fun _ _ _ ok => tablesOk_cmdEventSink ok) <|
  .cons (fun _ _ _ ok => tablesOk_cmdCsrRead ok) <|
  .cons (fun _ _ _ ok => tablesOk_cmdCsrWrite ok) <|
  .cons (fun _ _ _ ok => tablesOk_cmdCsrModify ok) <|
  .nil

theorem tablesOk_cmdTable1 : CmdsOk cmdTable1 :=
  .cons (fun _ _ _ ok => tablesOk_cmdCopySubmit ok) <|
  .cons (fun _ _ _ ok => tablesOk_cmdCopyStatus ok) <|
  .cons (cmdOk_needsHbm fun _ _ _ ok => tablesOk_cmdMemWindowSet ok) <|
  .cons (fun _ _ _ ok => tablesOk_cmdMemMapRead ok) <|
  .cons (fun _ _ _ ok => tablesOk_cmdHbmPageRetire ok) <|
  .cons (fun _ _ _ ok => tablesOk_cmdRuleWrite ok) <|
  .cons (fun _ _ _ ok => tablesOk_cmdRuleRead ok) <|
  .cons (fun _ _ _ ok => tablesOk_cmdRuleEpochFlip ok) <|
  .cons (fun _ _ _ ok => tablesOk_cmdRuleStageOpen ok) <|
  .cons (fun _ _ _ ok => tablesOk_cmdRuleStageClose ok) <|
  .cons (fun _ _ _ ok => tablesOk_cmdParseLoad ok) <|
  .cons (fun _ _ _ ok => tablesOk_cmdParseFlip ok) <|
  .cons (fun _ _ _ ok => tablesOk_cmdRuleTemplateWrite ok) <|
  .cons (fun _ _ _ ok => tablesOk_cmdFragFlush ok) <|
  .nil

theorem tablesOk_cmdTable2 : CmdsOk cmdTable2 :=
  .cons (cmdOk_needsHbm fun _ _ _ ok => tablesOk_cmdModelLoad ok) <|
  .cons (fun _ _ _ ok => tablesOk_cmdModelSwap ok) <|
  .cons (fun _ _ _ ok => tablesOk_cmdModelUnload ok) <|
  .cons (fun _ _ _ ok => tablesOk_cmdModelStatus ok) <|
  .cons (cmdOk_needsHbm fun _ _ _ ok => tablesOk_cmdJobStart ok) <|
  .cons (fun _ _ _ ok => tablesOk_cmdJobCheckpoint ok) <|
  .cons (fun _ _ _ ok => tablesOk_cmdJobCancel ok) <|
  .cons (fun _ _ _ ok => tablesOk_cmdJobStatus ok) <|
  .cons (fun _ _ _ ok => tablesOk_cmdCellAssign ok) <|
  .cons (fun _ _ _ ok => tablesOk_cmdCellQuery ok) <|
  .cons (fun _ _ _ ok => tablesOk_cmdPolicerSet ok) <|
  .cons (fun _ _ _ ok => tablesOk_cmdQueueSet ok) <|
  .cons (fun _ _ _ ok => tablesOk_cmdShaperSet ok) <|
  .cons (fun _ _ _ ok => tablesOk_cmdTmRead ok) <|
  .cons (fun _ _ _ ok => tablesOk_cmdFenceSet ok) <|
  .cons (fun _ _ _ ok => tablesOk_cmdMirrorSet ok) <|
  .cons (cmdOk_needsHbm fun _ _ _ ok => tablesOk_cmdFlowRegionSet ok) <|
  .cons (fun _ _ _ ok => tablesOk_cmdFlowRemove ok) <|
  .cons (fun _ _ _ ok => tablesOk_cmdFlowRead ok) <|
  .cons (fun _ _ _ ok => tablesOk_cmdFlowFlush ok) <|
  .nil

theorem tablesOk_cmdTable3 : CmdsOk cmdTable3 :=
  .cons (fun _ _ _ ok => tablesOk_cmdGroupJoinPacket ok) <|
  .cons (fun _ _ _ ok => tablesOk_cmdGroupLeave ok) <|
  .cons (fun _ _ _ ok => tablesOk_cmdGroupStatus ok) <|
  .cons (fun _ _ _ ok => tablesOk_cmdFabricPortSet ok) <|
  .cons (fun _ _ _ ok => tablesOk_cmdRouteSet ok) <|
  .cons (cmdOk_needsHbm fun _ _ _ ok => tablesOk_cmdLandingSet ok) <|
  .cons (fun _ _ _ ok => tablesOk_cmdLandingClear ok) <|
  .cons (fun _ _ _ ok => tablesOk_cmdBridgeSet ok) <|
  .cons (fun _ _ _ ok => tablesOk_cmdRecoatSet ok) <|
  .cons (fun _ _ _ ok => tablesOk_cmdIntegrityStatus ok) <|
  .cons (fun _ _ _ ok => tablesOk_cmdFenceCell ok) <|
  .cons (fun _ _ _ ok => tablesOk_cmdTestPackLoad ok) <|
  .cons (fun _ _ _ ok => tablesOk_cmdTestRun ok) <|
  .cons (fun _ _ _ ok => tablesOk_cmdSignatureRead ok) <|
  .nil

theorem tablesOk_cmdTable4 : CmdsOk cmdTable4 :=
  .cons (fun _ _ _ ok => tablesOk_cmdCapSet ok) <|
  .cons (fun _ _ _ ok => tablesOk_cmdPowerStatus ok) <|
  .cons (fun _ _ _ ok => tablesOk_cmdPrimerRun ok) <|
  .cons (fun _ _ _ ok => tablesOk_cmdEnergyRead ok) <|
  .cons (fun _ _ _ ok => tablesOk_cmdCapPrioritySet ok) <|
  .cons (fun _ _ _ ok => tablesOk_cmdFreeze ok) <|
  .cons (fun _ _ _ ok => tablesOk_cmdCounterRead ok) <|
  .cons (fun _ _ _ ok => tablesOk_cmdTraceArm ok) <|
  .cons (fun _ _ _ ok => tablesOk_cmdTraceRead ok) <|
  .cons (fun _ _ _ ok => tablesOk_cmdDumpArm ok) <|
  .cons (fun _ _ _ ok => tablesOk_cmdSwatchSet ok) <|
  .cons (fun _ _ _ ok => tablesOk_cmdWaitforRead ok) <|
  .cons (fun _ _ _ ok => tablesOk_cmdAttest ok) <|
  .cons (fun _ _ _ ok => tablesOk_cmdTenantCreate ok) <|
  .cons (fun _ _ _ ok => tablesOk_cmdTenantDestroy ok) <|
  .cons (fun _ _ _ ok => tablesOk_cmdKeyInstall ok) <|
  .cons (fun _ _ _ ok => tablesOk_cmdSignerRegister ok) <|
  .cons (fun _ _ _ ok => tablesOk_cmdZeroise ok) <|
  .cons (fun _ _ _ ok => tablesOk_cmdApprovedModeSet ok) <|
  .cons (cmdOk_needsHbm fun _ _ _ ok => tablesOk_cmdFwStage ok) <|
  .cons (fun _ _ _ ok => tablesOk_cmdFwActivate ok) <|
  .cons (fun _ _ _ ok => tablesOk_cmdFwStatus ok) <|
  .cons (fun _ _ _ ok => tablesOk_cmdDeviceReset ok) <|
  .nil

theorem cmdOk_of_cmdOf {op : Nat} {f : CmdFn} (h : cmdOf op = some f) : CmdOk f := by
  obtain ⟨x, hx, rfl⟩ := Option.map_eq_some_iff.mp h
  have hm := List.mem_of_find?_eq_some hx
  simp only [List.mem_append] at hm
  obtain (((hm | hm) | hm) | hm) | hm := hm
  · exact tablesOk_cmdTable0.mem x hm
  · exact tablesOk_cmdTable1.mem x hm
  · exact tablesOk_cmdTable2.mem x hm
  · exact tablesOk_cmdTable3.mem x hm
  · exact tablesOk_cmdTable4.mem x hm

theorem tablesOk_actionOf {op : Nat} {e : Env} {p : Bytes} {s : State} (ok : TablesOk s) : PairOk (actionOf op e p s) := by
  unfold actionOf
  cases h : cmdOf op with
  | none => exact tablesOk_refuse ok
  | some f => exact cmdOk_of_cmdOf h e p s ok

theorem tablesOk_runHeld {id n : Nat} {s : State} (ok : TablesOk s) : TablesOk (runHeld id n s) := by
  induction n generalizing s with
  | zero => exact ok
  | succ n ih =>
    unfold runHeld
    split
    · exact ok
    · split
      · exact ok
      · exact ih (tablesOk_runOne (fun _ _ _ h => tablesOk_actionOf h) (tablesOk_updSession ok))

theorem tablesOk_notOpen {tr : Transport} {peer session op tag tenant seq : Nat}
    {s : State} (ok : TablesOk s) : TablesOk (notOpen tr peer session op tag tenant seq s) :=
  tablesOk_sendReply ok

theorem tablesOk_runCommand {f : CmdFn} {op : Nat} {c : Cmd} {p : Bytes}
    {s : State} (hf : ∀ x0 x1 x2, TablesOk x2 → PairOk (f x0 x1 x2)) (ok : TablesOk s) : TablesOk (runCommand f op c p s) := by
  unfold runCommand
  refine ok_ite (fun _ => ok) (fun _ => ?_)
  dsimp only
  split
  · exact tablesOk_notOpen (tablesOk_expireIdle (tablesOk_advance ok))
  · exact ok_ite (fun _ => tablesOk_bump32 (tablesOk_expireIdle (tablesOk_advance ok))) (fun _ =>
      tablesOk_runHeld (tablesOk_runOne hf (ok_when (tablesOk_updSession (tablesOk_expireIdle (tablesOk_advance ok))) (fun h1 =>
      tablesOk_takeMailbox h1))))

theorem tablesOk_takeIngress {tr : Transport} {packet : Bytes} {s : State} (ok : TablesOk s) : OptOk (takeIngress tr packet s) :=
  optOk_ite (fun _ => optOk_some (ok_when (tablesOk_setFifo ok) (fun h1 => tablesOk_with h1))) (fun _ => optOk_ite (fun _ =>
      optOk_some (tablesOk_raise (tablesOk_bump64 ok))) (fun _ => optOk_none))

theorem tablesOk_holdIngress {tr : Transport} {packet : Bytes} {s : State} (ok : TablesOk s) : TablesOk (holdIngress tr packet s) :=
  ok_ite (fun _ => ok) (fun _ => ok_ite (fun _ => tablesOk_commitPacket ok) (fun _ => tablesOk_overflowPacket ok))

theorem tablesOk_arriveHand {tr : Transport} {peer : Nat} {h : Header1} {p : Bytes}
    {s : State} (ok : TablesOk s) : TablesOk (arriveHand tr peer h p s) := by
  unfold arriveHand
  refine ok_ite (fun _ => tablesOk_freeMailbox (tablesOk_bump32 ok)) (fun _ => tablesOk_serveHand (fun _ _ _ ok => ?_) ok)
  split
  · exact tablesOk_refuse ok
  · split
    · exact tablesOk_openSession ok
    · exact tablesOk_keySession ok

theorem tablesOk_arriveInOrder {x : Session} {h : Header1} {params : Bytes}
    {s : State} (ok : TablesOk s) : TablesOk (arriveInOrder x h params s) := by
  unfold arriveInOrder
  refine ok_ite (fun _ => ?_) (fun _ => ok_unless (tablesOk_freeMailbox (tablesOk_bump32 ok)) (fun h1 => ok_ite (fun _ =>
      tablesOk_runHeld (tablesOk_runOne (fun _ _ _ h2 => tablesOk_actionOf h2) ok)) (fun _ => ok_ite (fun _ => h1) (fun _ =>
      tablesOk_freeMailbox (tablesOk_updSession ok)))))
  split
  · exact tablesOk_sendReply (tablesOk_bump32 ok)
  · exact tablesOk_freeMailbox (tablesOk_bump32 ok)

theorem tablesOk_arriveSession {tr : Transport} {peer : Nat} {h : Header1} {p : Bytes}
    {s0 : State} (ok : TablesOk s0) : TablesOk (arriveSession tr peer h p s0) := by
  unfold arriveSession
  dsimp only
  split
  · exact tablesOk_notOpen (tablesOk_expireIdle ok)
  · refine ok_unless (tablesOk_freeMailbox (tablesOk_bump32 (tablesOk_expireIdle ok))) (fun h1 => ?_)
    split
    · exact h1
    · exact tablesOk_arriveInOrder (tablesOk_updSession (tablesOk_expireIdle ok))

theorem tablesOk_noteRelay {tr : Transport} {peer target : Nat} {p : Bytes} {s : State} (ok : TablesOk s) : TablesOk (noteRelay tr peer target p s) :=
  tablesOk_with ok

theorem tablesOk_forwardPacket {tr : Transport} {peer target : Nat} {p : Bytes}
    {s : State} (ok : TablesOk s) : TablesOk (forwardPacket tr peer target p s) :=
  tablesOk_freeMailbox (ok_ite (fun _ => tablesOk_noteSends (tablesOk_sendCmd (tablesOk_noteRelay ok))) (fun _ => tablesOk_bump32 ok))

theorem tablesOk_relayPacket {tr : Transport} {peer : Nat} {p : Bytes} {s : State} (ok : TablesOk s) : TablesOk (relayPacket tr peer p s) := by
  unfold relayPacket
  refine ok_ite (fun _ => ok) (fun _ => ?_)
  split
  · exact ok_ite (fun _ => tablesOk_ringPacket ok) (fun _ => tablesOk_signal (tablesOk_emit (tablesOk_with ok)))
  · exact tablesOk_noteSends (tablesOk_sendCmd (tablesOk_emit ok))
  · exact tablesOk_emit ok

theorem tablesOk_arrivePacket {tr : Transport} {peer : Nat} {p : Bytes} {s : State} (ok : TablesOk s) : TablesOk (arrivePacket tr peer p s) := by
  unfold arrivePacket
  refine ok_ite (fun _ => tablesOk_freeMailbox (tablesOk_bump32 ok)) (fun _ => ?_)
  refine ok_ite (fun _ => tablesOk_freeMailbox (tablesOk_bump32 ok)) (fun _ => ?_)
  split
  · exact tablesOk_relayPacket ok
  · exact ok_ite (fun _ => tablesOk_forwardPacket ok) (fun _ => ok_ite (fun _ => tablesOk_arriveHand ok) (fun _ => tablesOk_arriveSession ok))

theorem outOk_execCommandPacketArrive {t : Nat} {tr : Transport} {peer : Nat} {packet : Checked Bytes}
    {s : State} (ok : TablesOk s) : OutOk (execCommandPacketArrive t tr peer packet s) := by
  unfold execCommandPacketArrive
  refine outOk_next ?_
  refine ok_ite (fun _ => tablesOk_holdIngress (tablesOk_advance ok)) (fun _ => ?_)
  refine ok_ite (fun _ => ok) (fun _ => ?_)
  split
  · exact tablesOk_freeMailbox (tablesOk_overflowPacket (tablesOk_advance ok))
  · rename_i heq
    have h1 := (tablesOk_takeIngress (tablesOk_advance ok)) _ heq
    exact ok_ite (fun _ => tablesOk_freeMailbox (tablesOk_noteRead h1)) (fun _ => tablesOk_arrivePacket (tablesOk_noteRead h1))

theorem outOk_execSessionClose {c : Cmd} {p : Bytes} {s : State} (ok : TablesOk s) : OutOk (execSessionClose c p s) :=
  outOk_next (tablesOk_runCommand (fun _ _ _ h1 => tablesOk_cmdSessionClose h1) ok)

theorem outOk_execDeviceInfo {c : Cmd} {p : Bytes} {s : State} (ok : TablesOk s) : OutOk (execDeviceInfo c p s) :=
  outOk_next (tablesOk_runCommand (fun _ _ _ h1 => tablesOk_cmdDeviceInfo h1) ok)

theorem outOk_execEcho {c : Cmd} {p : Bytes} {s : State} (ok : TablesOk s) : OutOk (execEcho c p s) :=
  outOk_next (tablesOk_runCommand (fun _ _ _ h1 => tablesOk_cmdEcho h1) ok)

theorem outOk_execEventSubscribe {c : Cmd} {p : Bytes} {s : State} (ok : TablesOk s) : OutOk (execEventSubscribe c p s) :=
  outOk_next (tablesOk_runCommand (fun _ _ _ h1 => tablesOk_cmdEventSubscribe h1) ok)

theorem outOk_execEventSink {c : Cmd} {p : Bytes} {s : State} (ok : TablesOk s) : OutOk (execEventSink c p s) :=
  outOk_next (tablesOk_runCommand (fun _ _ _ h1 => tablesOk_cmdEventSink h1) ok)

theorem outOk_execCsrRead {c : Cmd} {p : Bytes} {s : State} (ok : TablesOk s) : OutOk (execCsrRead c p s) :=
  outOk_next (tablesOk_runCommand (fun _ _ _ h1 => tablesOk_cmdCsrRead h1) ok)

theorem outOk_execCsrWrite {c : Cmd} {p : Bytes} {s : State} (ok : TablesOk s) : OutOk (execCsrWrite c p s) :=
  outOk_next (tablesOk_runCommand (fun _ _ _ h1 => tablesOk_cmdCsrWrite h1) ok)

theorem outOk_execCsrModify {c : Cmd} {p : Bytes} {s : State} (ok : TablesOk s) : OutOk (execCsrModify c p s) :=
  outOk_next (tablesOk_runCommand (fun _ _ _ h1 => tablesOk_cmdCsrModify h1) ok)

theorem outOk_execCopySubmit {c : Cmd} {p : Bytes} {s : State} (ok : TablesOk s) : OutOk (execCopySubmit c p s) :=
  outOk_next (tablesOk_runCommand (fun _ _ _ h1 => tablesOk_cmdCopySubmit h1) ok)

theorem outOk_execCopyStatus {c : Cmd} {p : Bytes} {s : State} (ok : TablesOk s) : OutOk (execCopyStatus c p s) :=
  outOk_next (tablesOk_runCommand (fun _ _ _ h1 => tablesOk_cmdCopyStatus h1) ok)

theorem outOk_execMemWindowSet {c : Cmd} {p : Bytes} {s : State} (ok : TablesOk s) : OutOk (execMemWindowSet c p s) :=
  outOk_next (tablesOk_runCommand (fun _ _ _ h1 => tablesOk_needsHbm (fun _ _ _ h2 => tablesOk_cmdMemWindowSet h2) h1) ok)

theorem outOk_execMemMapRead {c : Cmd} {p : Bytes} {s : State} (ok : TablesOk s) : OutOk (execMemMapRead c p s) :=
  outOk_next (tablesOk_runCommand (fun _ _ _ h1 => tablesOk_cmdMemMapRead h1) ok)

theorem outOk_execHbmPageRetire {c : Cmd} {p : Bytes} {s : State} (ok : TablesOk s) : OutOk (execHbmPageRetire c p s) :=
  outOk_next (tablesOk_runCommand (fun _ _ _ h1 => tablesOk_cmdHbmPageRetire h1) ok)

theorem outOk_execRuleWrite {c : Cmd} {p : Bytes} {s : State} (ok : TablesOk s) : OutOk (execRuleWrite c p s) :=
  outOk_next (tablesOk_runCommand (fun _ _ _ h1 => tablesOk_cmdRuleWrite h1) ok)

theorem outOk_execRuleRead {c : Cmd} {p : Bytes} {s : State} (ok : TablesOk s) : OutOk (execRuleRead c p s) :=
  outOk_next (tablesOk_runCommand (fun _ _ _ h1 => tablesOk_cmdRuleRead h1) ok)

theorem outOk_execRuleEpochFlip {c : Cmd} {p : Bytes} {s : State} (ok : TablesOk s) : OutOk (execRuleEpochFlip c p s) :=
  outOk_next (tablesOk_runCommand (fun _ _ _ h1 => tablesOk_cmdRuleEpochFlip h1) ok)

theorem outOk_execRuleStageOpen {c : Cmd} {p : Bytes} {s : State} (ok : TablesOk s) : OutOk (execRuleStageOpen c p s) :=
  outOk_next (tablesOk_runCommand (fun _ _ _ h1 => tablesOk_cmdRuleStageOpen h1) ok)

theorem outOk_execRuleStageClose {c : Cmd} {p : Bytes} {s : State} (ok : TablesOk s) : OutOk (execRuleStageClose c p s) :=
  outOk_next (tablesOk_runCommand (fun _ _ _ h1 => tablesOk_cmdRuleStageClose h1) ok)

theorem outOk_execParseLoad {c : Cmd} {p : Bytes} {s : State} (ok : TablesOk s) : OutOk (execParseLoad c p s) :=
  outOk_next (tablesOk_runCommand (fun _ _ _ h1 => tablesOk_cmdParseLoad h1) ok)

theorem outOk_execParseFlip {c : Cmd} {p : Bytes} {s : State} (ok : TablesOk s) : OutOk (execParseFlip c p s) :=
  outOk_next (tablesOk_runCommand (fun _ _ _ h1 => tablesOk_cmdParseFlip h1) ok)

theorem outOk_execRuleTemplateWrite {c : Cmd} {p : Bytes} {s : State} (ok : TablesOk s) : OutOk (execRuleTemplateWrite c p s) :=
  outOk_next (tablesOk_runCommand (fun _ _ _ h1 => tablesOk_cmdRuleTemplateWrite h1) ok)

theorem outOk_execFragFlush {c : Cmd} {p : Bytes} {s : State} (ok : TablesOk s) : OutOk (execFragFlush c p s) :=
  outOk_next (tablesOk_runCommand (fun _ _ _ h1 => tablesOk_cmdFragFlush h1) ok)

theorem outOk_execModelLoad {c : Cmd} {p : Bytes} {s : State} (ok : TablesOk s) : OutOk (execModelLoad c p s) :=
  outOk_next (tablesOk_runCommand (fun _ _ _ h1 => tablesOk_needsHbm (fun _ _ _ h2 => tablesOk_cmdModelLoad h2) h1) ok)

theorem outOk_execModelSwap {c : Cmd} {p : Bytes} {s : State} (ok : TablesOk s) : OutOk (execModelSwap c p s) :=
  outOk_next (tablesOk_runCommand (fun _ _ _ h1 => tablesOk_cmdModelSwap h1) ok)

theorem outOk_execModelUnload {c : Cmd} {p : Bytes} {s : State} (ok : TablesOk s) : OutOk (execModelUnload c p s) :=
  outOk_next (tablesOk_runCommand (fun _ _ _ h1 => tablesOk_cmdModelUnload h1) ok)

theorem outOk_execModelStatus {c : Cmd} {p : Bytes} {s : State} (ok : TablesOk s) : OutOk (execModelStatus c p s) :=
  outOk_next (tablesOk_runCommand (fun _ _ _ h1 => tablesOk_cmdModelStatus h1) ok)

theorem outOk_execJobStart {c : Cmd} {p : Bytes} {s : State} (ok : TablesOk s) : OutOk (execJobStart c p s) :=
  outOk_next (tablesOk_runCommand (fun _ _ _ h1 => tablesOk_needsHbm (fun _ _ _ h2 => tablesOk_cmdJobStart h2) h1) ok)

theorem outOk_execJobCheckpoint {c : Cmd} {p : Bytes} {s : State} (ok : TablesOk s) : OutOk (execJobCheckpoint c p s) :=
  outOk_next (tablesOk_runCommand (fun _ _ _ h1 => tablesOk_cmdJobCheckpoint h1) ok)

theorem outOk_execJobCancel {c : Cmd} {p : Bytes} {s : State} (ok : TablesOk s) : OutOk (execJobCancel c p s) :=
  outOk_next (tablesOk_runCommand (fun _ _ _ h1 => tablesOk_cmdJobCancel h1) ok)

theorem outOk_execJobStatus {c : Cmd} {p : Bytes} {s : State} (ok : TablesOk s) : OutOk (execJobStatus c p s) :=
  outOk_next (tablesOk_runCommand (fun _ _ _ h1 => tablesOk_cmdJobStatus h1) ok)

theorem outOk_execCellAssign {c : Cmd} {p : Bytes} {s : State} (ok : TablesOk s) : OutOk (execCellAssign c p s) :=
  outOk_next (tablesOk_runCommand (fun _ _ _ h1 => tablesOk_cmdCellAssign h1) ok)

theorem outOk_execCellQuery {c : Cmd} {p : Bytes} {s : State} (ok : TablesOk s) : OutOk (execCellQuery c p s) :=
  outOk_next (tablesOk_runCommand (fun _ _ _ h1 => tablesOk_cmdCellQuery h1) ok)

theorem outOk_execPolicerSet {c : Cmd} {p : Bytes} {s : State} (ok : TablesOk s) : OutOk (execPolicerSet c p s) :=
  outOk_next (tablesOk_runCommand (fun _ _ _ h1 => tablesOk_cmdPolicerSet h1) ok)

theorem outOk_execQueueSet {c : Cmd} {p : Bytes} {s : State} (ok : TablesOk s) : OutOk (execQueueSet c p s) :=
  outOk_next (tablesOk_runCommand (fun _ _ _ h1 => tablesOk_cmdQueueSet h1) ok)

theorem outOk_execShaperSet {c : Cmd} {p : Bytes} {s : State} (ok : TablesOk s) : OutOk (execShaperSet c p s) :=
  outOk_next (tablesOk_runCommand (fun _ _ _ h1 => tablesOk_cmdShaperSet h1) ok)

theorem outOk_execTmRead {c : Cmd} {p : Bytes} {s : State} (ok : TablesOk s) : OutOk (execTmRead c p s) :=
  outOk_next (tablesOk_runCommand (fun _ _ _ h1 => tablesOk_cmdTmRead h1) ok)

theorem outOk_execFenceSet {c : Cmd} {p : Bytes} {s : State} (ok : TablesOk s) : OutOk (execFenceSet c p s) :=
  outOk_next (tablesOk_runCommand (fun _ _ _ h1 => tablesOk_cmdFenceSet h1) ok)

theorem outOk_execMirrorSet {c : Cmd} {p : Bytes} {s : State} (ok : TablesOk s) : OutOk (execMirrorSet c p s) :=
  outOk_next (tablesOk_runCommand (fun _ _ _ h1 => tablesOk_cmdMirrorSet h1) ok)

theorem outOk_execFlowRegionSet {c : Cmd} {p : Bytes} {s : State} (ok : TablesOk s) : OutOk (execFlowRegionSet c p s) :=
  outOk_next (tablesOk_runCommand (fun _ _ _ h1 => tablesOk_needsHbm (fun _ _ _ h2 => tablesOk_cmdFlowRegionSet h2) h1) ok)

theorem outOk_execFlowRemove {c : Cmd} {p : Bytes} {s : State} (ok : TablesOk s) : OutOk (execFlowRemove c p s) :=
  outOk_next (tablesOk_runCommand (fun _ _ _ h1 => tablesOk_cmdFlowRemove h1) ok)

theorem outOk_execFlowRead {c : Cmd} {p : Bytes} {s : State} (ok : TablesOk s) : OutOk (execFlowRead c p s) :=
  outOk_next (tablesOk_runCommand (fun _ _ _ h1 => tablesOk_cmdFlowRead h1) ok)

theorem outOk_execFlowFlush {c : Cmd} {p : Bytes} {s : State} (ok : TablesOk s) : OutOk (execFlowFlush c p s) :=
  outOk_next (tablesOk_runCommand (fun _ _ _ h1 => tablesOk_cmdFlowFlush h1) ok)

theorem outOk_execGroupLeave {c : Cmd} {p : Bytes} {s : State} (ok : TablesOk s) : OutOk (execGroupLeave c p s) :=
  outOk_next (tablesOk_runCommand (fun _ _ _ h1 => tablesOk_cmdGroupLeave h1) ok)

theorem outOk_execGroupStatus {c : Cmd} {p : Bytes} {s : State} (ok : TablesOk s) : OutOk (execGroupStatus c p s) :=
  outOk_next (tablesOk_runCommand (fun _ _ _ h1 => tablesOk_cmdGroupStatus h1) ok)

theorem outOk_execFabricPortSet {c : Cmd} {p : Bytes} {s : State} (ok : TablesOk s) : OutOk (execFabricPortSet c p s) :=
  outOk_next (tablesOk_runCommand (fun _ _ _ h1 => tablesOk_cmdFabricPortSet h1) ok)

theorem outOk_execRouteSet {c : Cmd} {p : Bytes} {s : State} (ok : TablesOk s) : OutOk (execRouteSet c p s) :=
  outOk_next (tablesOk_runCommand (fun _ _ _ h1 => tablesOk_cmdRouteSet h1) ok)

theorem outOk_execLandingSet {c : Cmd} {p : Bytes} {s : State} (ok : TablesOk s) : OutOk (execLandingSet c p s) :=
  outOk_next (tablesOk_runCommand (fun _ _ _ h1 => tablesOk_needsHbm (fun _ _ _ h2 => tablesOk_cmdLandingSet h2) h1) ok)

theorem outOk_execLandingClear {c : Cmd} {p : Bytes} {s : State} (ok : TablesOk s) : OutOk (execLandingClear c p s) :=
  outOk_next (tablesOk_runCommand (fun _ _ _ h1 => tablesOk_cmdLandingClear h1) ok)

theorem outOk_execBridgeSet {c : Cmd} {p : Bytes} {s : State} (ok : TablesOk s) : OutOk (execBridgeSet c p s) :=
  outOk_next (tablesOk_runCommand (fun _ _ _ h1 => tablesOk_cmdBridgeSet h1) ok)

theorem outOk_execRecoatSet {c : Cmd} {p : Bytes} {s : State} (ok : TablesOk s) : OutOk (execRecoatSet c p s) :=
  outOk_next (tablesOk_runCommand (fun _ _ _ h1 => tablesOk_cmdRecoatSet h1) ok)

theorem outOk_execIntegrityStatus {c : Cmd} {p : Bytes} {s : State} (ok : TablesOk s) : OutOk (execIntegrityStatus c p s) :=
  outOk_next (tablesOk_runCommand (fun _ _ _ h1 => tablesOk_cmdIntegrityStatus h1) ok)

theorem outOk_execFenceCell {c : Cmd} {p : Bytes} {s : State} (ok : TablesOk s) : OutOk (execFenceCell c p s) :=
  outOk_next (tablesOk_runCommand (fun _ _ _ h1 => tablesOk_cmdFenceCell h1) ok)

theorem outOk_execTestPackLoad {c : Cmd} {p : Bytes} {s : State} (ok : TablesOk s) : OutOk (execTestPackLoad c p s) :=
  outOk_next (tablesOk_runCommand (fun _ _ _ h1 => tablesOk_cmdTestPackLoad h1) ok)

theorem outOk_execTestRun {c : Cmd} {p : Bytes} {s : State} (ok : TablesOk s) : OutOk (execTestRun c p s) :=
  outOk_next (tablesOk_runCommand (fun _ _ _ h1 => tablesOk_cmdTestRun h1) ok)

theorem outOk_execSignatureRead {c : Cmd} {p : Bytes} {s : State} (ok : TablesOk s) : OutOk (execSignatureRead c p s) :=
  outOk_next (tablesOk_runCommand (fun _ _ _ h1 => tablesOk_cmdSignatureRead h1) ok)

theorem outOk_execCapSet {c : Cmd} {p : Bytes} {s : State} (ok : TablesOk s) : OutOk (execCapSet c p s) :=
  outOk_next (tablesOk_runCommand (fun _ _ _ h1 => tablesOk_cmdCapSet h1) ok)

theorem outOk_execPowerStatus {c : Cmd} {p : Bytes} {s : State} (ok : TablesOk s) : OutOk (execPowerStatus c p s) :=
  outOk_next (tablesOk_runCommand (fun _ _ _ h1 => tablesOk_cmdPowerStatus h1) ok)

theorem outOk_execPrimerRun {c : Cmd} {p : Bytes} {s : State} (ok : TablesOk s) : OutOk (execPrimerRun c p s) :=
  outOk_next (tablesOk_runCommand (fun _ _ _ h1 => tablesOk_cmdPrimerRun h1) ok)

theorem outOk_execEnergyRead {c : Cmd} {p : Bytes} {s : State} (ok : TablesOk s) : OutOk (execEnergyRead c p s) :=
  outOk_next (tablesOk_runCommand (fun _ _ _ h1 => tablesOk_cmdEnergyRead h1) ok)

theorem outOk_execCapPrioritySet {c : Cmd} {p : Bytes} {s : State} (ok : TablesOk s) : OutOk (execCapPrioritySet c p s) :=
  outOk_next (tablesOk_runCommand (fun _ _ _ h1 => tablesOk_cmdCapPrioritySet h1) ok)

theorem outOk_execFreeze {c : Cmd} {p : Bytes} {s : State} (ok : TablesOk s) : OutOk (execFreeze c p s) :=
  outOk_next (tablesOk_runCommand (fun _ _ _ h1 => tablesOk_cmdFreeze h1) ok)

theorem outOk_execCounterRead {c : Cmd} {p : Bytes} {s : State} (ok : TablesOk s) : OutOk (execCounterRead c p s) :=
  outOk_next (tablesOk_runCommand (fun _ _ _ h1 => tablesOk_cmdCounterRead h1) ok)

theorem outOk_execTraceArm {c : Cmd} {p : Bytes} {s : State} (ok : TablesOk s) : OutOk (execTraceArm c p s) :=
  outOk_next (tablesOk_runCommand (fun _ _ _ h1 => tablesOk_cmdTraceArm h1) ok)

theorem outOk_execTraceRead {c : Cmd} {p : Bytes} {s : State} (ok : TablesOk s) : OutOk (execTraceRead c p s) :=
  outOk_next (tablesOk_runCommand (fun _ _ _ h1 => tablesOk_cmdTraceRead h1) ok)

theorem outOk_execDumpArm {c : Cmd} {p : Bytes} {s : State} (ok : TablesOk s) : OutOk (execDumpArm c p s) :=
  outOk_next (tablesOk_runCommand (fun _ _ _ h1 => tablesOk_cmdDumpArm h1) ok)

theorem outOk_execSwatchSet {c : Cmd} {p : Bytes} {s : State} (ok : TablesOk s) : OutOk (execSwatchSet c p s) :=
  outOk_next (tablesOk_runCommand (fun _ _ _ h1 => tablesOk_cmdSwatchSet h1) ok)

theorem outOk_execWaitforRead {c : Cmd} {p : Bytes} {s : State} (ok : TablesOk s) : OutOk (execWaitforRead c p s) :=
  outOk_next (tablesOk_runCommand (fun _ _ _ h1 => tablesOk_cmdWaitforRead h1) ok)

theorem outOk_execAttest {c : Cmd} {p : Bytes} {s : State} (ok : TablesOk s) : OutOk (execAttest c p s) :=
  outOk_next (tablesOk_runCommand (fun _ _ _ h1 => tablesOk_cmdAttest h1) ok)

theorem outOk_execTenantCreate {c : Cmd} {p : Bytes} {s : State} (ok : TablesOk s) : OutOk (execTenantCreate c p s) :=
  outOk_next (tablesOk_runCommand (fun _ _ _ h1 => tablesOk_cmdTenantCreate h1) ok)

theorem outOk_execTenantDestroy {c : Cmd} {p : Bytes} {s : State} (ok : TablesOk s) : OutOk (execTenantDestroy c p s) :=
  outOk_next (tablesOk_runCommand (fun _ _ _ h1 => tablesOk_cmdTenantDestroy h1) ok)

theorem outOk_execKeyInstall {c : Cmd} {p : Bytes} {s : State} (ok : TablesOk s) : OutOk (execKeyInstall c p s) :=
  outOk_next (tablesOk_runCommand (fun _ _ _ h1 => tablesOk_cmdKeyInstall h1) ok)

theorem outOk_execSignerRegister {c : Cmd} {p : Bytes} {s : State} (ok : TablesOk s) : OutOk (execSignerRegister c p s) :=
  outOk_next (tablesOk_runCommand (fun _ _ _ h1 => tablesOk_cmdSignerRegister h1) ok)

theorem outOk_execZeroise {c : Cmd} {p : Bytes} {s : State} (ok : TablesOk s) : OutOk (execZeroise c p s) :=
  outOk_next (tablesOk_runCommand (fun _ _ _ h1 => tablesOk_cmdZeroise h1) ok)

theorem outOk_execApprovedModeSet {c : Cmd} {p : Bytes} {s : State} (ok : TablesOk s) : OutOk (execApprovedModeSet c p s) :=
  outOk_next (tablesOk_runCommand (fun _ _ _ h1 => tablesOk_cmdApprovedModeSet h1) ok)

theorem outOk_execFwStage {c : Cmd} {p : Bytes} {s : State} (ok : TablesOk s) : OutOk (execFwStage c p s) :=
  outOk_next (tablesOk_runCommand (fun _ _ _ h1 => tablesOk_needsHbm (fun _ _ _ h2 => tablesOk_cmdFwStage h2) h1) ok)

theorem outOk_execFwActivate {c : Cmd} {p : Bytes} {s : State} (ok : TablesOk s) : OutOk (execFwActivate c p s) :=
  outOk_next (tablesOk_runCommand (fun _ _ _ h1 => tablesOk_cmdFwActivate h1) ok)

theorem outOk_execFwStatus {c : Cmd} {p : Bytes} {s : State} (ok : TablesOk s) : OutOk (execFwStatus c p s) :=
  outOk_next (tablesOk_runCommand (fun _ _ _ h1 => tablesOk_cmdFwStatus h1) ok)

theorem outOk_execDeviceReset {c : Cmd} {p : Bytes} {s : State} (ok : TablesOk s) : OutOk (execDeviceReset c p s) :=
  outOk_next (tablesOk_runCommand (fun _ _ _ h1 => tablesOk_cmdDeviceReset h1) ok)

theorem outOk_execGroupJoin {c : Cmd} {p : Bytes} {link : JoinInfo} {s : State} (ok : TablesOk s) : OutOk (execGroupJoin c p link s) :=
  outOk_next (tablesOk_runCommand (fun _ _ _ h1 => tablesOk_cmdGroupJoin h1) ok)

theorem tablesOk_writeCsr {c : Cmd} {addr : Nat} {v : W32} {s : State} (ok : TablesOk s) : TablesOk (writeCsr c addr v s) :=
  tablesOk_runCommand (fun _ _ _ h1 => tablesOk_cmdCsrWrite h1) ok

theorem tablesOk_readCsr {c : Cmd} {addr n : Nat} {s : State} (ok : TablesOk s) : TablesOk (readCsr c addr n s) :=
  tablesOk_runCommand (fun _ _ _ h1 => tablesOk_cmdCsrRead h1) ok

theorem outOk_execRegisterWrite {c : Cmd} {addr : Nat} {v : W32} {s : State} (ok : TablesOk s) : OutOk (execRegisterWrite c addr v s) :=
  outOk_next (tablesOk_writeCsr ok)

theorem outOk_execLoRegisterRead {c : Cmd} {addr : Nat} {s : State} (ok : TablesOk s) : OutOk (execLoRegisterRead c addr s) :=
  outOk_next (tablesOk_readCsr ok)

theorem outOk_execRcRegisterRead {c : Cmd} {addr : Nat} {s : State} (ok : TablesOk s) : OutOk (execRcRegisterRead c addr s) :=
  outOk_next (tablesOk_readCsr ok)

theorem outOk_execOccPktsRead {c : Cmd} {fifo : Nat} {s : State} (ok : TablesOk s) : OutOk (execOccPktsRead c fifo s) :=
  outOk_next (tablesOk_readCsr ok)

theorem tablesOk_checkRecord {f : Nat} {chk : FifoRead} {s : State} (ok : TablesOk s) : TablesOk (checkRecord f chk s) :=
  ok_ite (fun _ => ok) (fun _ => ok_when (tablesOk_noteRead ok) (fun h1 => tablesOk_popFifo h1))

theorem outOk_execTsDataRead {c : Cmd} {port : Checked Nat} {s : State} (ok : TablesOk s) : OutOk (execTsDataRead c port s) :=
  outOk_next (tablesOk_runCommand (fun _ _ _ h1 => tablesOk_cmdCsrRead (ok_ite (fun _ => tablesOk_checkRecord h1) (fun _ => h1))) ok)

theorem outOk_execStoreDataRead {c : Cmd} {cell : Nat} {s : State} (ok : TablesOk s) : OutOk (execStoreDataRead c cell s) :=
  outOk_next (tablesOk_readCsr ok)

theorem outOk_execBeatCtrlWrite {c : Cmd} {v : W32} {s : State} (ok : TablesOk s) : OutOk (execBeatCtrlWrite c v s) :=
  outOk_next (tablesOk_writeCsr ok)

theorem outOk_execBeatRateTargetWrite {c : Cmd} {v : W32} {s : State} (ok : TablesOk s) : OutOk (execBeatRateTargetWrite c v s) :=
  outOk_next (tablesOk_writeCsr ok)

theorem outOk_execSpokeReattach {c : Cmd} {v : W32} {s : State} (ok : TablesOk s) : OutOk (execSpokeReattach c v s) :=
  outOk_next (tablesOk_writeCsr ok)

theorem outOk_execHaltMaskWrite {c : Cmd} {v : W32} {s : State} (ok : TablesOk s) : OutOk (execHaltMaskWrite c v s) :=
  outOk_next (tablesOk_writeCsr ok)

theorem outOk_execResumeMaskWrite {c : Cmd} {v : W32} {s : State} (ok : TablesOk s) : OutOk (execResumeMaskWrite c v s) :=
  outOk_next (tablesOk_writeCsr ok)

theorem outOk_execSnap {c : Cmd} {v : W32} {s : State} (ok : TablesOk s) : OutOk (execSnap c v s) :=
  outOk_next (tablesOk_writeCsr ok)

theorem outOk_execTimeStepNsWrite {c : Cmd} {v : W32} {s : State} (ok : TablesOk s) : OutOk (execTimeStepNsWrite c v s) :=
  outOk_next (tablesOk_writeCsr ok)

theorem outOk_execPortCtrlWrite {c : Cmd} {port : Nat} {v : W32} {s : State} (ok : TablesOk s) : OutOk (execPortCtrlWrite c port v s) :=
  outOk_next (tablesOk_writeCsr ok)

theorem outOk_execDropRest {c : Cmd} {fifo : Nat} {v : W32} {s : State} (ok : TablesOk s) : OutOk (execDropRest c fifo v s) :=
  outOk_next (tablesOk_writeCsr ok)

theorem outOk_execProgValidate {c : Cmd} {group : Nat} {v : W32} {s : State} (ok : TablesOk s) : OutOk (execProgValidate c group v s) :=
  outOk_next (tablesOk_writeCsr ok)

theorem outOk_execProgFlip {c : Cmd} {group : Nat} {v : W32} {s : State} (ok : TablesOk s) : OutOk (execProgFlip c group v s) :=
  outOk_next (tablesOk_writeCsr ok)

theorem outOk_execEntryRead {c : Cmd} {stage : Nat} {s : State} (ok : TablesOk s) : OutOk (execEntryRead c stage s) :=
  outOk_next (tablesOk_writeCsr ok)

theorem outOk_execEntryWrite {c : Cmd} {stage : Nat} {s : State} (ok : TablesOk s) : OutOk (execEntryWrite c stage s) :=
  outOk_next (tablesOk_writeCsr ok)

theorem outOk_execEntryInvalidate {c : Cmd} {stage : Nat} {s : State} (ok : TablesOk s) : OutOk (execEntryInvalidate c stage s) :=
  outOk_next (tablesOk_writeCsr ok)

theorem outOk_execShApply {c : Cmd} {shaper : Nat} {v : W32} {s : State} (ok : TablesOk s) : OutOk (execShApply c shaper v s) :=
  outOk_next (tablesOk_writeCsr ok)

theorem outOk_execStoreCmd {c : Cmd} {cell : Nat} {v : W32} {s : State} (ok : TablesOk s) : OutOk (execStoreCmd c cell v s) :=
  outOk_next (tablesOk_writeCsr ok)

/-! The functions of `Machine/PacketCommit` -/

theorem tablesOk_commitEgress {L : Nat} {words : List W256} {s : State} (ok : TablesOk s) : TablesOk (commitEgress L words s) :=
  tablesOk_raise (tablesOk_commitPacket ok)

theorem tablesOk_commitParsed {n : Nat} {words : List W256} {s : State} (ok : TablesOk s) : TablesOk (commitParsed n words s) := by
  unfold commitParsed
  split
  · exact ok
  · split
    · exact ok
    · exact ok_ite (fun _ => ok) (fun _ => tablesOk_emitParsed ok)

theorem tablesOk_commitFabric {t p vc : Nat} {words : List W256} {s : State} (ok : TablesOk s) : TablesOk (commitFabric t p vc words s) := by
  unfold commitFabric
  split
  · exact ok
  · exact ok_ite (fun _ => ok) (fun _ => ok_ite (fun _ => tablesOk_overflowPacket (tablesOk_advance ok)) (fun _ =>
      tablesOk_receivePacket (tablesOk_advance ok)))

theorem outOk_execPacketCommit {t f : Nat} {words : List W256} {s : State} (ok : TablesOk s) : OutOk (execPacketCommit t f words s) := by
  unfold execPacketCommit
  refine outOk_next ?_
  split
  · exact ok
  · exact ok_ite (fun _ => ok) (fun _ => ok_ite (fun _ => ok_ite (fun _ => tablesOk_commitIntake (tablesOk_advance ok)) (fun _ => ok)) (fun _ =>
      ok_ite (fun _ => ok_ite (fun _ => tablesOk_commitEgress (tablesOk_advance ok)) (fun _ => ok)) (fun _ => ok_ite (fun _ =>
      tablesOk_commitParsed (tablesOk_advance ok)) (fun _ => ok_ite (fun _ => tablesOk_commitFabric ok) (fun _ => ok_ite (fun _ =>
      tablesOk_commitPacket (tablesOk_advance ok)) (fun _ => ok_ite (fun _ => tablesOk_overflowPacket (tablesOk_advance ok)) (fun _ => ok)))))))

/-! The functions of `Machine/PtpClock` -/

theorem tablesOk_sendClockMessage {s : State} (ok : TablesOk s) : TablesOk (sendClockMessage s) := by
  unfold sendClockMessage
  split
  · exact tablesOk_emit ok
  · split
    · exact ok
    · exact ok_ite (fun _ => ok) (fun _ => tablesOk_macSend (tablesOk_with (tablesOk_with (tablesOk_with ok))))

theorem outOk_execTimeServoUpdate {t : Nat} {offsetNs freqPpb : Int}
    {s : State} (ok : TablesOk s) : OutOk (execTimeServoUpdate t offsetNs freqPpb s) :=
  outOk_next (ok_ite (fun _ => ok) (fun _ => tablesOk_correctTime (tablesOk_servoState (tablesOk_setReg (ok_when (tablesOk_advance ok) (fun h1 =>
      tablesOk_sendClockMessage h1))))))

/-! The functions of `Machine/Step` -/

theorem tablesOk_withFetchWord {s : State} {nbits w : Nat} (ok : TablesOk s) : TablesOk (State.withFetchWord s nbits w) := by
  unfold State.withFetchWord
  split
  · exact tablesOk_with ok
  · exact ok

/-! A step -/

/-- Every command keeps the tables. -/
theorem outOk_exec (i : Instr) {s : State} (ok : TablesOk s) : OutOk (exec i s) := by
  cases i with
  | sessionOpen => exact outOk_execSessionOpen ok
  | sessionKey => exact outOk_execSessionKey ok
  | sessionClose => exact outOk_execSessionClose ok
  | deviceInfo => exact outOk_execDeviceInfo ok
  | echo => exact outOk_execEcho ok
  | eventSubscribe => exact outOk_execEventSubscribe ok
  | eventSink => exact outOk_execEventSink ok
  | csrRead => exact outOk_execCsrRead ok
  | csrWrite => exact outOk_execCsrWrite ok
  | csrModify => exact outOk_execCsrModify ok
  | registerWrite => exact outOk_execRegisterWrite ok
  | loRegisterRead => exact outOk_execLoRegisterRead ok
  | rcRegisterRead => exact outOk_execRcRegisterRead ok
  | occPktsRead => exact outOk_execOccPktsRead ok
  | tsDataRead => exact outOk_execTsDataRead ok
  | storeDataRead => exact outOk_execStoreDataRead ok
  | copySubmit => exact outOk_execCopySubmit ok
  | copyStatus => exact outOk_execCopyStatus ok
  | memWindowSet => exact outOk_execMemWindowSet ok
  | memMapRead => exact outOk_execMemMapRead ok
  | hbmPageRetire => exact outOk_execHbmPageRetire ok
  | ruleWrite => exact outOk_execRuleWrite ok
  | ruleRead => exact outOk_execRuleRead ok
  | ruleEpochFlip => exact outOk_execRuleEpochFlip ok
  | ruleStageOpen => exact outOk_execRuleStageOpen ok
  | ruleStageClose => exact outOk_execRuleStageClose ok
  | parseLoad => exact outOk_execParseLoad ok
  | parseFlip => exact outOk_execParseFlip ok
  | ruleTemplateWrite => exact outOk_execRuleTemplateWrite ok
  | fragFlush => exact outOk_execFragFlush ok
  | modelLoad => exact outOk_execModelLoad ok
  | modelSwap => exact outOk_execModelSwap ok
  | modelUnload => exact outOk_execModelUnload ok
  | modelStatus => exact outOk_execModelStatus ok
  | jobStart => exact outOk_execJobStart ok
  | jobCheckpoint => exact outOk_execJobCheckpoint ok
  | jobCancel => exact outOk_execJobCancel ok
  | jobStatus => exact outOk_execJobStatus ok
  | cellAssign => exact outOk_execCellAssign ok
  | cellQuery => exact outOk_execCellQuery ok
  | policerSet => exact outOk_execPolicerSet ok
  | queueSet => exact outOk_execQueueSet ok
  | shaperSet => exact outOk_execShaperSet ok
  | tmRead => exact outOk_execTmRead ok
  | fenceSet => exact outOk_execFenceSet ok
  | mirrorSet => exact outOk_execMirrorSet ok
  | flowRegionSet => exact outOk_execFlowRegionSet ok
  | flowRemove => exact outOk_execFlowRemove ok
  | flowRead => exact outOk_execFlowRead ok
  | flowFlush => exact outOk_execFlowFlush ok
  | groupJoin => exact outOk_execGroupJoin ok
  | groupLeave => exact outOk_execGroupLeave ok
  | groupStatus => exact outOk_execGroupStatus ok
  | fabricPortSet => exact outOk_execFabricPortSet ok
  | routeSet => exact outOk_execRouteSet ok
  | landingSet => exact outOk_execLandingSet ok
  | landingClear => exact outOk_execLandingClear ok
  | bridgeSet => exact outOk_execBridgeSet ok
  | recoatSet => exact outOk_execRecoatSet ok
  | integrityStatus => exact outOk_execIntegrityStatus ok
  | fenceCell => exact outOk_execFenceCell ok
  | testPackLoad => exact outOk_execTestPackLoad ok
  | testRun => exact outOk_execTestRun ok
  | signatureRead => exact outOk_execSignatureRead ok
  | capSet => exact outOk_execCapSet ok
  | powerStatus => exact outOk_execPowerStatus ok
  | primerRun => exact outOk_execPrimerRun ok
  | energyRead => exact outOk_execEnergyRead ok
  | capPrioritySet => exact outOk_execCapPrioritySet ok
  | freeze => exact outOk_execFreeze ok
  | counterRead => exact outOk_execCounterRead ok
  | traceArm => exact outOk_execTraceArm ok
  | traceRead => exact outOk_execTraceRead ok
  | dumpArm => exact outOk_execDumpArm ok
  | swatchSet => exact outOk_execSwatchSet ok
  | waitforRead => exact outOk_execWaitforRead ok
  | attest => exact outOk_execAttest ok
  | tenantCreate => exact outOk_execTenantCreate ok
  | tenantDestroy => exact outOk_execTenantDestroy ok
  | keyInstall => exact outOk_execKeyInstall ok
  | signerRegister => exact outOk_execSignerRegister ok
  | zeroise => exact outOk_execZeroise ok
  | approvedModeSet => exact outOk_execApprovedModeSet ok
  | fwStage => exact outOk_execFwStage ok
  | fwActivate => exact outOk_execFwActivate ok
  | fwStatus => exact outOk_execFwStatus ok
  | deviceReset => exact outOk_execDeviceReset ok
  | commandPacketArrive => exact outOk_execCommandPacketArrive ok
  | eventWindowClose => exact outOk_execEventWindowClose ok
  | sessionIdleExpiry => exact outOk_execSessionIdleExpiry ok
  | handshakeExpiry => exact outOk_execHandshakeExpiry ok
  | lockoutExpiry => exact outOk_execLockoutExpiry ok
  | beatCtrlWrite => exact outOk_execBeatCtrlWrite ok
  | beatRateTargetWrite => exact outOk_execBeatRateTargetWrite ok
  | beatIssue => exact outOk_execBeatIssue ok
  | spokeTimeoutExpiry => exact outOk_execSpokeTimeoutExpiry ok
  | streamHang => exact outOk_execStreamHang ok
  | spokeReattach => exact outOk_execSpokeReattach ok
  | haltMaskWrite => exact outOk_execHaltMaskWrite ok
  | clusterHalt => exact outOk_execClusterHalt ok
  | resumeMaskWrite => exact outOk_execResumeMaskWrite ok
  | clusterResume => exact outOk_execClusterResume ok
  | gustRelease => exact outOk_execGustRelease ok
  | snap => exact outOk_execSnap ok
  | timeStepNsWrite => exact outOk_execTimeStepNsWrite ok
  | timeServoUpdate => exact outOk_execTimeServoUpdate ok
  | timeSourceLost => exact outOk_execTimeSourceLost ok
  | ppsInEdge => exact outOk_execPpsInEdge ok
  | ppsOutPulse => exact outOk_execPpsOutPulse ok
  | groupRefSwitch => exact outOk_execGroupRefSwitch ok
  | zcJoin => exact outOk_execZcJoin ok
  | barrierArrive => exact outOk_execBarrierArrive ok
  | managerResume => exact outOk_execManagerResume ok
  | barrierRelease => exact outOk_execBarrierRelease ok
  | portCtrlWrite => exact outOk_execPortCtrlWrite ok
  | linkStateChange => exact outOk_execLinkStateChange ok
  | hiSerUpdate => exact outOk_execHiSerUpdate ok
  | frameReceive => exact outOk_execFrameReceive ok
  | pfcRefresh => exact outOk_execPfcRefresh ok
  | pfcFrameReceive => exact outOk_execPfcFrameReceive ok
  | pauseExpiry => exact outOk_execPauseExpiry ok
  | packetCommit => exact outOk_execPacketCommit ok
  | dropRest => exact outOk_execDropRest ok
  | packetAssign => exact outOk_execPacketAssign ok
  | hcNop => exact outOk_execHcNop ok
  | hcLd => exact outOk_execHcLd ok
  | hcMovi => exact outOk_execHcMovi ok
  | hcAlu => exact outOk_execHcAlu ok
  | hcAlui => exact outOk_execHcAlui ok
  | hcExt => exact outOk_execHcExt ok
  | hcBr => exact outOk_execHcBr ok
  | hcBri => exact outOk_execHcBri ok
  | hcJmp => exact outOk_execHcJmp ok
  | hcDisp => exact outOk_execHcDisp ok
  | hcHdr => exact outOk_execHcHdr ok
  | hcAdv => exact outOk_execHcAdv ok
  | hcLen => exact outOk_execHcLen ok
  | hcFrag => exact outOk_execHcFrag ok
  | hcMeta => exact outOk_execHcMeta ok
  | hcDone => exact outOk_execHcDone ok
  | hcFail => exact outOk_execHcFail ok
  | progValidate => exact outOk_execProgValidate ok
  | progFlip => exact outOk_execProgFlip ok
  | parseBankFlip => exact outOk_execParseBankFlip ok
  | stageLookup => exact outOk_execStageLookup ok
  | recircPassStart => exact outOk_execRecircPassStart ok
  | entryRead => exact outOk_execEntryRead ok
  | entryWrite => exact outOk_execEntryWrite ok
  | entryInvalidate => exact outOk_execEntryInvalidate ok
  | ruleEpochFlipBeat => exact outOk_execRuleEpochFlipBeat ok
  | stagingCopyDone => exact outOk_execStagingCopyDone ok
  | epochDrainSlow => exact outOk_execEpochDrainSlow ok
  | stageLeaseExpiry => exact outOk_execStageLeaseExpiry ok
  | actionResolve => exact outOk_execActionResolve ok
  | fragLookup => exact outOk_execFragLookup ok
  | fragWaitTimeout => exact outOk_execFragWaitTimeout ok
  | fragRecordExpire => exact outOk_execFragRecordExpire ok
  | featureEncode => exact outOk_execFeatureEncode ok
  | coldFillComplete => exact outOk_execColdFillComplete ok
  | flowScan => exact outOk_execFlowScan ok
  | labelQueuePoll => exact outOk_execLabelQueuePoll ok
  | inlineLaunch => exact outOk_execInlineLaunch ok
  | verdictRelease => exact outOk_execVerdictRelease ok
  | inlineRecoat => exact outOk_execInlineRecoat ok
  | recoatDeadline => exact outOk_execRecoatDeadline ok
  | cellSlotExchange => exact outOk_execCellSlotExchange ok
  | modelLoadComplete => exact outOk_execModelLoadComplete ok
  | modelSwapPoint => exact outOk_execModelSwapPoint ok
  | tmAdmit => exact outOk_execTmAdmit ok
  | frameTransmit => exact outOk_execFrameTransmit ok
  | shApply => exact outOk_execShApply ok
  | queueHistogramSample => exact outOk_execQueueHistogramSample ok
  | stepLaunch => exact outOk_execStepLaunch ok
  | stepCheckDone => exact outOk_execStepCheckDone ok
  | recoatCompare => exact outOk_execRecoatCompare ok
  | copyLaunch => exact outOk_execCopyLaunch ok
  | copyComplete => exact outOk_execCopyComplete ok
  | zeroingDone => exact outOk_execZeroingDone ok
  | storeCmd => exact outOk_execStoreCmd ok
  | checkpointWriteDone => exact outOk_execCheckpointWriteDone ok
  | ckptDoneLog => exact outOk_execCkptDoneLog ok
  | jobRestart => exact outOk_execJobRestart ok
  | cellAckTimeout => exact outOk_execCellAckTimeout ok
  | cellFence => exact outOk_execCellFence ok
  | fenceReclaimDone => exact outOk_execFenceReclaimDone ok
  | fieldTestStart => exact outOk_execFieldTestStart ok
  | testKernelDone => exact outOk_execTestKernelDone ok
  | testStaleCheck => exact outOk_execTestStaleCheck ok
  | scrubRead => exact outOk_execScrubRead ok
  | ruleEntryRewrite => exact outOk_execRuleEntryRewrite ok
  | linkFrameReceive => exact outOk_execLinkFrameReceive ok
  | fabricPacketReceive => exact outOk_execFabricPacketReceive ok
  | wrData => exact outOk_execWrData ok
  | rdReq => exact outOk_execRdReq ok
  | rdData => exact outOk_execRdData ok
  | fabAck => exact outOk_execFabAck ok
  | fabNotify => exact outOk_execFabNotify ok
  | fabConfirm => exact outOk_execFabConfirm ok
  | fabRevoke => exact outOk_execFabRevoke ok
  | fabCredit => exact outOk_execFabCredit ok
  | copyTimeoutExpiry => exact outOk_execCopyTimeoutExpiry ok
  | specTimeoutExpiry => exact outOk_execSpecTimeoutExpiry ok
  | fabricPortDown => exact outOk_execFabricPortDown ok
  | fabricPortTrained => exact outOk_execFabricPortTrained ok
  | miscableRecheck => exact outOk_execMiscableRecheck ok
  | routeRecompute => exact outOk_execRouteRecompute ok
  | leaseRenewal => exact outOk_execLeaseRenewal ok
  | leaseReceive => exact outOk_execLeaseReceive ok
  | missedRenewal => exact outOk_execMissedRenewal ok
  | managerStepdown => exact outOk_execManagerStepdown ok
  | logCommit => exact outOk_execLogCommit ok
  | memberLost => exact outOk_execMemberLost ok
  | pcieBar0Doorbell => exact outOk_execPcieBar0Doorbell ok
  | pcieBar2Access => exact outOk_execPcieBar2Access ok
  | pcieFlr => exact outOk_execPcieFlr ok
  | capControlLoop => exact outOk_execCapControlLoop ok
  | estGainUpdate => exact outOk_execEstGainUpdate ok
  | powerSample => exact outOk_execPowerSample ok
  | calmNeedReport => exact outOk_execCalmNeedReport ok
  | groupCalmApply => exact outOk_execGroupCalmApply ok
  | primerPhase => exact outOk_execPrimerPhase ok
  | thermalSample => exact outOk_execThermalSample ok
  | thermalTrip => exact outOk_execThermalTrip ok
  | freezeCapture => exact outOk_execFreezeCapture ok
  | stippleSample => exact outOk_execStippleSample ok
  | traceTrigger => exact outOk_execTraceTrigger ok
  | dumpCopyDone => exact outOk_execDumpCopyDone ok
  | hangTimeoutExpiry => exact outOk_execHangTimeoutExpiry ok
  | attestReportDone => exact outOk_execAttestReportDone ok
  | tenantKeyZeroise => exact outOk_execTenantKeyZeroise ok
  | tamperDetect => exact outOk_execTamperDetect ok
  | periodicSelftest => exact outOk_execPeriodicSelftest ok
  | selftestFailure => exact outOk_execSelftestFailure ok
  | bootKeyReady => exact outOk_execBootKeyReady ok
  | powerOn => exact outOk_execPowerOn ok
  | pinReset => exact outOk_execPinReset ok
  | powerRemove => exact outOk_execPowerRemove ok
  | bootRomStart => exact outOk_execBootRomStart ok
  | hbmTrainDone => exact outOk_execHbmTrainDone ok
  | recoveryFetch => exact outOk_execRecoveryFetch ok
  | mgmtAddressConfig => exact outOk_execMgmtAddressConfig ok
  | handoverResume => exact outOk_execHandoverResume ok
  | handoverTimeout => exact outOk_execHandoverTimeout ok
  | flashWriteDone => exact outOk_execFlashWriteDone ok
  | presentNOpen => exact outOk_execPresentNOpen ok
  | overvoltage => exact outOk_execOvervoltage ok
  | reversePolarity => exact outOk_execReversePolarity ok
  | senseFault => exact outOk_execSenseFault ok
  | auxOverload => exact outOk_execAuxOverload ok
  | tripClear => exact outOk_execTripClear ok
  | mbFaultClear => exact outOk_execMbFaultClear ok
  | fwImageStaged => exact outOk_execFwImageStaged ok
  | revokeResend => exact outOk_execRevokeResend ok
  | shaperOpen => exact outOk_execShaperOpen ok
  | refclkSysLoss => exact outOk_execRefclkSysLoss ok
  | i3cAddressAssign => exact outOk_execI3cAddressAssign ok

theorem outOk_step {s : State} (ok : TablesOk s) : OutOk (step s) := by
  unfold step
  split
  · exact outOk_next ok
  · exact outOk_exec _ ok

/-- Settles O58: each function that the commands are made of keeps the tables, down to the two writes of `Laws/Tables` and
`Laws/Memory`. -/
theorem everyStepKeepsTheTables : Obligations.EveryStepKeepsTheTables := by
  unfold Obligations.EveryStepKeepsTheTables
  exact fun _ _ ok h => outOk_step ok _ h

end Sys2Proof.Machine

/-!
PROOFS. What sending a packet of this device's own (R306, R307) and delivering an event (R352 to R355) leave alone.
-/
namespace Sys2Proof.Machine

/-! Packets of the device's own -/

/-- The register at `a` counts neither flits that leave nor packets without a route. -/
def UnsentReg (a : Nat) : Prop := a ≠ Addr.NO_ROUTE 0 ∧ ∀ p, a ≠ Addr.FLITS_TX p

/-- `t` is `s` after packets of its own were sent or held: the fabric's sequence numbers, credits, flits, replay buffers and held packets,
the counters of `UnsentReg`, what left the device, and the SEND records of an open trace session. -/
structure Sent (s t : State) : Prop where
  only : t = { s with
    regs := t.regs, out := t.out
    fabric := { s.fabric with seq := t.fabric.seq, credit := t.fabric.credit, flits := t.fabric.flits, unacked := t.fabric.unacked, held := t.fabric.held }
    obs := { s.obs with sends := t.obs.sends } }
  reg : ∀ a, UnsentReg a → t.reg a = s.reg a
  out : s.out <+: t.out
  sends : s.obs.trace = none → t.obs.sends = s.obs.sends

theorem Sent.refl (s : State) : Sent s s := ⟨rfl, fun _ _ => rfl, List.prefix_rfl, fun _ => rfl⟩

theorem Sent.trans {s t u : State} (h : Sent s t) (h' : Sent t u) : Sent s u where
  only := by rw [h'.only, h.only]
  reg a ha := (h'.reg a ha).trans (h.reg a ha)
  out := h.out.trans h'.out
  sends off := by
    have same : t.obs.trace = s.obs.trace := by rw [h.only]
    rw [h'.sends (same ▸ off), h.sends off]

theorem sent_emit (s : State) (o : Output) : Sent s (s.emit o) :=
  ⟨rfl, fun _ _ => rfl, List.prefix_append _ _, fun _ => rfl⟩

theorem sent_noRoute (s : State) (n : Nat) : Sent s (s.bump32 (Addr.NO_ROUTE 0) n) :=
  ⟨rfl, fun a ha => State.reg_setReg_other ha.1 _ _, List.prefix_rfl, fun _ => rfl⟩

theorem sent_flits (s : State) (p n : Nat) : Sent s (s.bump64 (Addr.FLITS_TX p) n) :=
  ⟨rfl, fun a ha => State.reg_setReg_other (ha.2 p) _ _, List.prefix_rfl, fun _ => rfl⟩

theorem sent_fabric (s : State) (seq credit flits : Tab Nat) (unacked : Tab (List (Nat × FabPkt))) (held : List FabPkt) :
    Sent s { s with fabric := { s.fabric with seq, credit, flits, unacked, held } } :=
  ⟨rfl, fun _ _ => rfl, List.prefix_rfl, fun _ => rfl⟩

theorem sent_sends {s : State} (traced : s.obs.trace ≠ none) (sends : List (Nat × W256)) : Sent s { s with obs.sends := sends } :=
  ⟨rfl, fun _ _ => rfl, List.prefix_rfl, fun off => absurd off traced⟩

theorem sent_recordSend (p : Nat) (k : FabPkt) (s : State) : Sent s (recordSend p k s) := by
  unfold recordSend
  dsimp only
  split
  · rename_i h
    refine sent_sends (fun off => ?_) _
    rw [State.samplesFabric, off] at h
    exact Bool.false_ne_true h.2.2
  · exact .refl s

theorem sent_putOut (p : Nat) (k routed : FabPkt) (s : State) : Sent s (putOut p k routed s) := by
  unfold putOut
  dsimp only
  exact (sent_fabric s _ _ _ _ _).trans ((sent_flits _ p _).trans ((sent_recordSend p k _).trans (sent_emit _ _)))

/-- A packet that came by no port takes no credits of another with it. -/
theorem sent_transmit {p : Nat} {k routed : FabPkt} (own : k.from_ = none) (s : State) : Sent s (transmit p k routed s) := by
  unfold transmit
  rw [own]
  exact (sent_fabric s _ _ _ _ _).trans (sent_putOut p k routed _)

theorem sent_routeFrom (src : Nat) {k : FabPkt} (own : k.from_ = none) (s : State) : Sent s (routeFrom src k s) := by
  unfold routeFrom
  split
  · dsimp only
    split
    · refine sent_transmit ?_ s
      exact own
    · exact sent_fabric s _ _ _ _ _
  · exact sent_fabric s _ _ _ _ _
  · rw [own]
    exact sent_noRoute s 1
  · exact .refl s

theorem sent_sendRaw (h : Header) (data : List W256) (s : State) : Sent s (sendRaw h data s) :=
  (sent_fabric s _ _ _ _ _).trans (sent_routeFrom _ rfl _)

theorem sent_sendCmd (dst : Nat) (packet : Bytes) (s : State) : Sent s (sendCmd dst packet s) := sent_sendRaw _ _ s

/-! Events -/

/-- The register at `a` counts no event, no flit that leaves and no packet without a route. -/
def UntoldReg (a : Nat) : Prop := UnsentReg a ∧ a ≠ Addr.EVENTS_SENT ∧ a ≠ Addr.EVENTS_LOST ∧ a ≠ Addr.EVQ_LOST

/-- A session but for its event queue. -/
def Session.unqueued (x : Session) : Session := { x with queue := [], eseq := 0, lost := 0, lostAt := none }

/-- `t` is `s` after events were queued to sessions and sent. -/
structure Told (s t : State) : Prop where
  only : t = { s with
    regs := t.regs, out := t.out, sessions := t.sessions
    fabric := { s.fabric with seq := t.fabric.seq, credit := t.fabric.credit, flits := t.fabric.flits, unacked := t.fabric.unacked, held := t.fabric.held }
    bridge := { s.bridge with ring := t.bridge.ring, prod := t.bridge.prod, msixPending := t.bridge.msixPending }
    obs := { s.obs with trace := t.obs.trace, sends := t.obs.sends } }
  reg : ∀ a, UntoldReg a → t.reg a = s.reg a
  sessions : t.sessions.map Session.unqueued = s.sessions.map Session.unqueued
  out : s.out <+: t.out
  trace : s.obs.trace = none → t.obs.trace = none
  sends : s.obs.trace = none → t.obs.sends = s.obs.sends

theorem Told.refl (s : State) : Told s s := ⟨rfl, fun _ _ => rfl, rfl, List.prefix_rfl, id, fun _ => rfl⟩

theorem Told.trans {s t u : State} (h : Told s t) (h' : Told t u) : Told s u where
  only := by rw [h'.only, h.only]
  reg a ha := (h'.reg a ha).trans (h.reg a ha)
  sessions := h'.sessions.trans h.sessions
  out := h.out.trans h'.out
  trace off := h'.trace (h.trace off)
  sends off := by rw [h'.sends (h.trace off), h.sends off]

theorem Sent.told {s t : State} (h : Sent s t) : Told s t where
  only := by rw [h.only]
  reg a ha := h.reg a ha.1
  sessions := by rw [h.only]
  out := h.out
  trace off := by rw [h.only]; exact off
  sends := h.sends

theorem Told.foldl {α : Type} {f : State → α → State} (hf : ∀ s x, Told s (f s x)) (l : List α) (s : State) : Told s (l.foldl f s) := by
  induction l generalizing s with
  | nil => exact .refl s
  | cons x l ih => exact (hf s x).trans (ih _)

section
variable {s t : State} (h : Told s t)
include h

theorem Told.pending : t.pending = s.pending := by rw [h.only]
theorem Told.fresh : t.fresh = s.fresh := by rw [h.only]
theorem Told.now : t.now = s.now := by rw [h.only]
theorem Told.latch : t.latch = s.latch := by rw [h.only]
theorem Told.shadow : t.shadow = s.shadow := by rw [h.only]
theorem Told.beat : t.beat = s.beat := by rw [h.only]
theorem Told.time : t.time = s.time := by rw [h.only]
theorem Told.windows : t.windows = s.windows := by rw [h.only]
theorem Told.jobs : t.jobs = s.jobs := by rw [h.only]
theorem Told.ports : t.ports = s.ports := by rw [h.only]
theorem Told.hc : t.hc = s.hc := by rw [h.only]
theorem Told.mt : t.mt = s.mt := by rw [h.only]
theorem Told.tm : t.tm = s.tm := by rw [h.only]
theorem Told.mem : t.mem = s.mem := by rw [h.only]
theorem Told.dataKey : t.dataKey = s.dataKey := by rw [h.only]
theorem Told.signer : t.signer = s.signer := by rw [h.only]
theorem Told.models : t.models = s.models := by rw [h.only]
theorem Told.flow : t.flow = s.flow := by rw [h.only]
theorem Told.cells : t.cells = s.cells := by rw [h.only]
theorem Told.copies : t.copies = s.copies := by rw [h.only]
theorem Told.group : t.group = s.group := by rw [h.only]
theorem Told.integ : t.integ = s.integ := by rw [h.only]
theorem Told.power : t.power = s.power := by rw [h.only]
theorem Told.module : t.module = s.module := by rw [h.only]
theorem Told.fw : t.fw = s.fw := by rw [h.only]
theorem Told.secure : t.secure = s.secure := by rw [h.only]

/-- The events change only queues: a session is open after them where it was. -/
theorem Told.session_isSome (id : Nat) : (t.session id).isSome = (s.session id).isSome := by
  have ids : t.sessions.map Session.id = s.sessions.map Session.id := by
    simpa [Function.comp_def, Session.unqueued] using congrArg (List.map Session.id) h.sessions
  have any (l : List Session) : (l.find? (fun x => x.id == id)).isSome = (l.map Session.id).any (· == id) := by
    rw [Bool.eq_iff_iff, List.find?_isSome]
    simp
  rw [State.session, State.session, any, any, ids]

theorem Told.session_none {id : Nat} (closed : s.session id = none) : t.session id = none := by
  have := h.session_isSome id
  simpa [closed] using this
end

theorem told_emit (s : State) (o : Output) : Told s (s.emit o) := (sent_emit s o).told

theorem told_bump32 {a : Nat} (ha : a = Addr.EVENTS_LOST ∨ a = Addr.EVQ_LOST) (s : State) (n : Nat) : Told s (s.bump32 a n) := by
  refine ⟨rfl, fun b hb => State.reg_setReg_other ?_ _ _, rfl, List.prefix_rfl, id, fun _ => rfl⟩
  obtain ⟨_, _, lost, ring⟩ := hb
  obtain rfl | rfl := ha
  · exact lost
  · exact ring

theorem told_eventsSent (s : State) (n : Nat) : Told s (s.bump64 Addr.EVENTS_SENT n) :=
  ⟨rfl, fun _ hb => State.reg_setReg_other hb.2.1 _ _, rfl, List.prefix_rfl, id, fun _ => rfl⟩

theorem told_signal (v : Nat) (s : State) : Told s (signal v s) := by
  unfold signal
  split
  · exact ⟨rfl, fun _ _ => rfl, rfl, List.prefix_rfl, id, fun _ => rfl⟩
  · exact told_emit s _

theorem told_ringPacket (opcode : Nat) (packet : Bytes) (out : Output) (s : State) : Told s (ringPacket opcode packet out s) := by
  unfold ringPacket
  dsimp only
  split
  · exact told_bump32 (.inr rfl) s 1
  · refine Told.trans (t := { s with bridge := _ }) ?_ ((told_emit _ out).trans (told_signal _ _))
    exact ⟨rfl, fun _ _ => rfl, rfl, List.prefix_rfl, id, fun _ => rfl⟩

theorem told_sendEvent (x : Session) (s : State) (q : Nat × Event) : Told s (sendEvent x s q) := by
  unfold sendEvent
  refine Told.trans ?_ (told_eventsSent _ 1)
  split
  · exact told_ringPacket _ _ _ s
  · exact (told_emit s _).trans (sent_sendCmd _ _ _).told
  · exact told_emit s _

/-- A change of the event queues of sessions. -/
theorem told_queues {f : Session → Session} (hf : ∀ x, (f x).unqueued = x.unqueued) (s : State) :
    Told s { s with sessions := s.sessions.map f } :=
  ⟨rfl, fun _ _ => rfl, by simp [Function.comp_def, hf], List.prefix_rfl, id, fun _ => rfl⟩

theorem told_sendEvents (s : State) : Told s (sendEvents s) := by
  unfold sendEvents
  refine (told_queues (fun x => ?_) s).trans (Told.foldl (fun s x => Told.foldl (told_sendEvent x) _ s) _ _)
  split
  · rfl
  · rfl

theorem enqueueEvent_unqueued (now : Nat × Nat) (e : Event) (x : Session) : (enqueueEvent now e x).unqueued = x.unqueued := by
  unfold enqueueEvent
  dsimp only
  split
  · split
    · rfl
    · rfl
  · split
    · rfl
    · rfl

theorem told_traceEvent (opcode : Nat) (s : State) : Told s (traceEvent opcode s) := by
  unfold traceEvent
  split
  · split
    · rename_i x h _
      exact ⟨rfl, fun _ _ => rfl, rfl, List.prefix_rfl, fun off => absurd (off.symm.trans h) nofun, fun _ => rfl⟩
    · exact .refl s
  · exact .refl s

theorem told_deliverTo (sel : Session → Bool) (e : Event) (s : State) : Told s (deliverTo sel e s) := by
  unfold deliverTo
  refine (told_queues (fun x => ?_) s).trans ((told_bump32 (.inl rfl) _ _).trans (told_sendEvents _))
  split
  · exact enqueueEvent_unqueued _ e x
  · rfl

theorem told_deliver (e : Event) (s : State) : Told s (deliver e s) := (told_traceEvent e.opcode s).trans (told_deliverTo _ e _)

theorem told_raiseEvent (s : State) (opcode tenant : Nat) (body : List Nat) (region : Nat) : Told s (s.raiseEvent opcode tenant body region) :=
  told_deliver _ s

theorem told_raiseFor (s : State) (opcode tenant session tag status : Nat) (body : List Nat) (region : Nat) :
    Told s (s.raiseFor opcode tenant session tag status body region) := told_deliver _ s

theorem told_raiseAmong (s : State) (opcode : Nat) (body : List Nat) (tenants : List (Nat × List Nat)) :
    Told s (s.raiseAmong opcode body tenants) :=
  (told_raiseEvent s _ _ _ _).trans (Told.foldl (fun s _ => told_deliverTo _ _ s) _ _)

end Sys2Proof.Machine

/-!
PROOFS. Fields and flags of numbers and registers: what a field reads after a write of it, of another field and of another register.
-/
namespace Sys2Proof.Machine

/-! Fields -/

/-- A number with a field replaced, put together from what lies below and above the field. -/
theorem putBits_eq (v lo w x : Nat) : putBits v lo w x = v % 2 ^ lo + 2 ^ lo * (x % 2 ^ w + 2 ^ w * (v / 2 ^ (lo + w))) := by
  have parts : v = v % 2 ^ lo + 2 ^ lo * (bits v lo w + 2 ^ w * (v / 2 ^ (lo + w))) := by
    rw [pow_add, ← Nat.div_div_eq_div_mul, bits, Nat.mod_add_div, Nat.mod_add_div]
  have field : putBits v lo w x + bits v lo w * 2 ^ lo = v + x % 2 ^ w * 2 ^ lo := by
    have : bits v lo w * 2 ^ lo ≤ v := by
      calc bits v lo w * 2 ^ lo ≤ v / 2 ^ lo * 2 ^ lo := Nat.mul_le_mul_right _ (Nat.mod_le _ _)
        _ ≤ v := Nat.div_mul_le_self _ _
    unfold putBits
    omega
  have := parts
  nlinarith

@[simp] theorem bits_putBits_same (v lo w x : Nat) : bits (putBits v lo w x) lo w = x % 2 ^ w := by
  rw [putBits_eq, bits, Nat.add_mul_div_left _ _ (by positivity), Nat.div_eq_of_lt (Nat.mod_lt _ (by positivity)), zero_add,
    Nat.add_mul_mod_self_left, Nat.mod_mod]

theorem putBits_mod (v lo w x : Nat) : putBits v lo w x % 2 ^ lo = v % 2 ^ lo := by
  rw [putBits_eq, Nat.add_mul_mod_self_left, Nat.mod_mod]

theorem putBits_div (v lo w x : Nat) : putBits v lo w x / 2 ^ (lo + w) = v / 2 ^ (lo + w) := by
  rw [putBits_eq, pow_add, ← Nat.div_div_eq_div_mul, Nat.add_mul_div_left _ _ (by positivity),
    Nat.div_eq_of_lt (Nat.mod_lt _ (by positivity)), zero_add, Nat.add_mul_div_left _ _ (by positivity),
    Nat.div_eq_of_lt (Nat.mod_lt _ (by positivity)), zero_add]

/-- A field keeps its value where another is replaced. -/
theorem bits_putBits_other {lo w lo' w' : Nat} (apart : lo + w ≤ lo' ∨ lo' + w' ≤ lo) (v x : Nat) :
    bits (putBits v lo w x) lo' w' = bits v lo' w' := by
  obtain above | below := apart
  · obtain ⟨d, rfl⟩ := Nat.exists_eq_add_of_le above
    rw [bits, bits, pow_add _ (lo + w), ← Nat.div_div_eq_div_mul, ← Nat.div_div_eq_div_mul, putBits_div]
  · have low (v : Nat) : bits v lo' w' = bits (v % 2 ^ lo) lo' w' := by
      obtain ⟨d, rfl⟩ := Nat.exists_eq_add_of_le below
      rw [bits, bits, add_assoc, pow_add, Nat.mod_mul_right_div_self, Nat.mod_mod_of_dvd _ (pow_dvd_pow 2 (Nat.le_add_right w' d))]
    rw [low, putBits_mod, ← low]

theorem putBits_lt {v lo w n : Nat} (hv : v < 2 ^ n) (fits : lo + w ≤ n) (x : Nat) : putBits v lo w x < 2 ^ n := by
  obtain ⟨d, rfl⟩ := Nat.exists_eq_add_of_le fits
  rw [pow_add, mul_comm] at hv ⊢
  rw [← Nat.div_lt_iff_lt_mul (by positivity)] at hv ⊢
  rwa [putBits_div]

@[simp] theorem bits_b2n (b : Bool) : b2n b % 2 ^ 1 = b2n b := by cases b <;> rfl

theorem bitAt_putBits_same (v i : Nat) (b : Bool) : bitAt (putBits v i 1 (b2n b)) i = b :=
  bitAt_of_bits (by rw [bits_putBits_same, bits_b2n])

theorem bitAt_putBits_other {lo w i : Nat} (apart : i < lo ∨ lo + w ≤ i) (v x : Nat) : bitAt (putBits v lo w x) i = bitAt v i := by
  have same : bits (putBits v lo w x) i 1 = bits v i 1 := bits_putBits_other (by omega) v x
  show (bits _ i 1 == 1) = (bits _ i 1 == 1)
  rw [same]

/-! Fields and flags of registers -/

namespace State
variable (s : State)

theorem reg_setField {a lo w : Nat} (fits : lo + w ≤ 64) (x : Nat) : (s.setField a lo w x).reg a = putBits (s.reg a) lo w x := by
  rw [setField, reg_setReg_same, Nat.mod_eq_of_lt (putBits_lt (s.reg_lt a) fits x)]

theorem reg_setField_other {a b : Nat} (h : b ≠ a) (lo w x : Nat) : (s.setField a lo w x).reg b = s.reg b :=
  reg_setReg_other h s _

theorem reg_setFlag_other {a b : Nat} (h : b ≠ a) (i : Nat) (v : Bool) : (s.setFlag a i v).reg b = s.reg b :=
  reg_setReg_other h s _

theorem reg_bump32_other {a b : Nat} (h : b ≠ a) (n : Nat) : (s.bump32 a n).reg b = s.reg b := reg_setReg_other h s _

theorem reg_bump64_other {a b : Nat} (h : b ≠ a) (n : Nat) : (s.bump64 a n).reg b = s.reg b := reg_setReg_other h s _

@[simp] theorem reg_bump32 (a n : Nat) : (s.bump32 a n).reg a = (s.reg a + n) % 2 ^ 32 := by
  rw [bump32, reg_setReg_same, Nat.mod_mod_of_dvd']
  norm_num

@[simp] theorem reg_bump64 (a n : Nat) : (s.bump64 a n).reg a = (s.reg a + n) % 2 ^ 64 := by
  rw [bump64, reg_setReg_same]
  exact Nat.mod_mod _ _

theorem field_setField {a lo w : Nat} (fits : lo + w ≤ 64) (x : Nat) : (s.setField a lo w x).field a lo w = x % 2 ^ w := by
  rw [field, reg_setField s fits, bits_putBits_same]

/-- Another field of the same register. -/
theorem field_setField_apart {a lo w lo' w' : Nat} (apart : lo + w ≤ lo' ∨ lo' + w' ≤ lo) (fits : lo + w ≤ 64) (x : Nat) :
    (s.setField a lo w x).field a lo' w' = s.field a lo' w' := by
  rw [field, reg_setField s fits, bits_putBits_other apart, field]

theorem flag_setField_apart {a lo w i : Nat} (apart : i < lo ∨ lo + w ≤ i) (fits : lo + w ≤ 64) (x : Nat) :
    (s.setField a lo w x).flag a i = s.flag a i := by
  rw [flag, reg_setField s fits, bitAt_putBits_other apart, flag]

theorem flag_setFlag {a i : Nat} (fits : i < 64) (b : Bool) : (s.setFlag a i b).flag a i = b := by
  rw [flag, setFlag, reg_setField s (by omega), bitAt_putBits_same]

theorem flag_setFlag_apart {a i j : Nat} (apart : j ≠ i) (fits : i < 64) (b : Bool) : (s.setFlag a i b).flag a j = s.flag a j :=
  flag_setField_apart s (by omega) (by omega) _

theorem field_setFlag_apart {a i lo w : Nat} (apart : i < lo ∨ lo + w ≤ i) (fits : i < 64) (b : Bool) :
    (s.setFlag a i b).field a lo w = s.field a lo w :=
  field_setField_apart s (by omega) (by omega) _

/-- Flags and fields of registers that read the same. -/
theorem flag_congr {s t : State} {a : Nat} (h : t.reg a = s.reg a) (i : Nat) : t.flag a i = s.flag a i := by rw [flag, flag, h]

theorem field_congr {s t : State} {a : Nat} (h : t.reg a = s.reg a) (lo w : Nat) : t.field a lo w = s.field a lo w := by rw [field, field, h]

end State

end Sys2Proof.Machine

/-!
PROOFS. A step and the state after reset; sessions, handshakes and lockouts that end on their clocks (R342, R453, R455, R503).
-/
namespace Sys2Proof.Machine

/-! A step, and the state after reset -/

/-- Settles O1: a step is `exec` of the front command on the queue's rest. -/
theorem stepRunsTheFrontCommand : Obligations.StepRunsTheFrontCommand := by
  unfold Obligations.StepRunsTheFrontCommand
  refine ⟨fun _ _ _ => rfl, fun s empty => ?_⟩
  unfold step
  rw [empty]

/-- A register that the reset state lists no value for reads its reset value. -/
theorem State.reset_reg (a : Nat) : State.reset.reg a = regReset a % 2 ^ 64 := by
  simp [State.reg, State.reset, tabGet, tabFind]

/-- Settles O2: the reset state lists no register and no byte. -/
theorem resetLeavesTheTables : Obligations.ResetLeavesTheTables := by
  unfold Obligations.ResetLeavesTheTables
  refine ⟨rfl, rfl, State.reset_reg, fun _ => rfl, rfl, rfl, rfl, ?_, ?_, ?_, ?_, ?_, ?_, ?_, rfl⟩
  all_goals decide +kernel

/-! Sessions, handshakes and lockouts end on their clocks -/

theorem exec_eventWindowClose_ended {t opcode key : Nat} {s : State} {w : Window} (found : s.window opcode key = some w) (on : s.on = true)
    (ended : w.opened + w.length ≤ t) :
    exec (.eventWindowClose t opcode key) s = .next (deliver w.event { advance t s with windows := windowsWithout opcode key s.windows }) := by
  have still : (advance t s).window opcode key = some w := found
  show Host.Outcome.next _ = _
  simp only [found, on, ended, and_self, ↓reduceIte, closeWindow, still]
  rfl

theorem State.window_windowsWithout (s : State) (opcode key : Nat) :
    State.window { s with windows := windowsWithout opcode key s.windows } opcode key = none := by
  simp only [State.window, windowsWithout, List.find?_eq_none, List.mem_filter]
  rintro w ⟨_, h⟩ this
  simp [this] at h

/-- A session that is closed is open no more, whatever its closing tells. -/
theorem State.session_closeSession (id cause : Nat) (s : State) : (closeSession id cause s).session id = none := by
  unfold closeSession
  split
  · assumption
  · refine (told_raiseEvent _ _ _ _ _).session_none ?_
    split
    all_goals simp [State.session]

theorem now_closeSession (id cause : Nat) (s : State) : (closeSession id cause s).now = s.now := by
  unfold closeSession
  split
  · rfl
  · rw [(told_raiseEvent _ _ _ _ _).now]
    split
    all_goals rfl

theorem exec_sessionIdleExpiry_idle {t id : Nat} {s : State} {x : Session} (limik : s.limik = true) (found : s.session id = some x)
    (idle : x.lastAuth + secs (s.reg Addr.SESSION_IDLE) ≤ max s.now t) :
    exec (.sessionIdleExpiry t id) s = .next (closeSession id 2 (advance t s)) := by
  have isOver : (advance t s).idleOver x = true := by
    rw [State.idleOver, State.advance_reg, State.advance_now, decide_eq_true idle]
  have closes : expireIdle id (advance t s) = closeSession id 2 (advance t s) := by
    rw [expireIdle, show (advance t s).session id = some x from found]
    exact if_pos isOver
  have row : exec (.sessionIdleExpiry t id) s = execSessionIdleExpiry t id s := rfl
  rw [row, execSessionIdleExpiry, found, closes, Option.any_some, if_pos ⟨limik, isOver⟩]

theorem handshakes_any_ended {t id : Nat} {l : List Handshake} {k : Handshake} (pending : k ∈ l) (named : k.id = id) (ended : k.opened + secs 30 ≤ t) :
    l.any (fun k => k.id == id && decide (k.opened + secs 30 ≤ t)) = true :=
  List.any_eq_true.mpr ⟨k, pending, by rw [named, beq_self_eq_true, Bool.true_and, decide_eq_true ended]⟩

theorem exec_handshakeExpiry_ended {t id : Nat} {s : State} {k : Handshake} (pending : k ∈ s.secure.handshakes) (named : k.id = id)
    (ended : k.opened + secs 30 ≤ t) :
    exec (.handshakeExpiry t id) s =
      .next { advance t s with secure := { s.secure with handshakes := s.secure.handshakes.filter (fun q => q.id != id) } } := by
  have row : exec (.handshakeExpiry t id) s = execHandshakeExpiry t id s := rfl
  rw [row, execHandshakeExpiry, if_pos (handshakes_any_ended pending named ended)]

theorem exec_lockoutExpiry_ended {t tenant v : Nat} {s : State} (locked : tabFind tenant s.secure.lockUntil = some v) (ended : v ≤ t) :
    exec (.lockoutExpiry t tenant) s = .next
      (({ advance t s with secure := { s.secure with lockUntil := tabErase tenant s.secure.lockUntil } }).setFlag (Addr.T_STATE tenant) 4 false) := by
  show Host.Outcome.next _ = _
  simp only [locked, Nat.not_lt.mpr ended, ↓reduceIte]

/-- Settles O8: each clock's row by the equation of its exec. -/
theorem sessionClocksRunOut : Obligations.SessionClocksRunOut := by
  unfold Obligations.SessionClocksRunOut
  intro t s
  refine ⟨fun opcode key w found on ended => ?_, fun id x limik found idle => ?_, fun id k pending named ended => ?_, fun tenant v locked ended => ?_⟩
  · exact ⟨_, exec_eventWindowClose_ended found on ended, (advance t s).window_windowsWithout opcode key, rfl, rfl, rfl⟩
  · exact ⟨_, exec_sessionIdleExpiry_idle limik found idle, State.session_closeSession _ _ _, now_closeSession _ _ _⟩
  · exact ⟨_, exec_handshakeExpiry_ended pending named ended, rfl, rfl, rfl⟩
  · refine ⟨_, exec_lockoutExpiry_ended locked ended, ?_, State.flag_setFlag _ (by omega) _, fun a ha => ?_⟩
    · simp [State.lockedOut, tabGet, tabFind_tabErase_same]
    · exact State.reg_setFlag_other _ (by simpa using ha) _ _

end Sys2Proof.Machine

/-!
PROOFS. The handshake (R340, R451 to R455): SESSION_OPEN and SESSION_KEY.
-/
namespace Sys2Proof.Machine

/-! Handshake packets -/

/-- The state in which a handshake packet that the device answers is served. -/
def handArrived (h : Hand) (s : State) : State :=
  if h.transport = .mailbox then takeMailbox (advance h.t s) else advance h.t s

/-- Taking a command from the mailbox changes the ingress FIFO and the bridge (R328). -/
theorem takeMailbox_only (s : State) : takeMailbox s = { s with ports := (takeMailbox s).ports, bridge := (takeMailbox s).bridge } := by
  unfold takeMailbox
  split
  · rfl
  · dsimp only
    split
    · rfl
    · rfl

section
variable (h : Hand) (s : State)

theorem handArrived_only : handArrived h s = { advance h.t s with ports := (handArrived h s).ports, bridge := (handArrived h s).bridge } := by
  unfold handArrived
  split
  · exact takeMailbox_only _
  · rfl

@[simp] theorem handArrived_regs : (handArrived h s).regs = s.regs := by rw [handArrived_only]; rfl
@[simp] theorem handArrived_reg (a : Nat) : (handArrived h s).reg a = s.reg a := State.reg_congr (handArrived_regs h s) a
@[simp] theorem handArrived_sessions : (handArrived h s).sessions = s.sessions := by rw [handArrived_only]; rfl
@[simp] theorem handArrived_secure : (handArrived h s).secure = s.secure := by rw [handArrived_only]; rfl
@[simp] theorem handArrived_module : (handArrived h s).module = s.module := by rw [handArrived_only]; rfl
@[simp] theorem handArrived_now : (handArrived h s).now = max s.now h.t := by rw [handArrived_only]; rfl

@[simp] theorem handArrived_flag (a i : Nat) : (handArrived h s).flag a i = s.flag a i := State.flag_congr (handArrived_reg h s a) i

@[simp] theorem handArrived_tenantExists (t : Nat) : (handArrived h s).tenantExists t = s.tenantExists t := handArrived_flag h s _ _

@[simp] theorem handArrived_mayHandshake (t : Nat) : (handArrived h s).mayHandshake t = s.mayHandshake t := by
  simp only [State.mayHandshake, State.tenantState, State.field, handArrived_module, handArrived_tenantExists, handArrived_reg]

@[simp] theorem handArrived_quotaFree (t : Nat) : (handArrived h s).quotaFree t = s.quotaFree t := by
  rw [State.quotaFree, State.sessionsOf, handArrived_sessions, handArrived_reg]
  rfl

@[simp] theorem handArrived_placeFree (t : Nat) : (handArrived h s).placeFree t = s.placeFree t := by
  rw [State.placeFree, State.ownerSessions, handArrived_sessions, handArrived_reg]
  rfl

@[simp] theorem handArrived_lockedOut (t : Nat) : (handArrived h s).lockedOut t = (advance h.t s).lockedOut t := by
  simp [State.lockedOut]
end

/-- A handshake packet of a device that answers, on a transport that is enabled, is served. -/
theorem handRow_answered {h : Hand} {s : State} (answers : s.answers = true) (enabled : (advance h.t s).transportOn h.transport = true)
    (f : Hand → Bytes → State → Reply × State) (op : Nat) (p : Bytes) :
    handRow f op h p s = serveHand f op h p (handArrived h s) := by
  simp only [handRow, answers, enabled, Bool.not_true, Bool.false_eq_true, ↓reduceIte]
  rfl

theorem serveHand_eq (f : Hand → Bytes → State → Reply × State) (op : Nat) (h : Hand) (p : Bytes) (s : State) :
    serveHand f op h p s = sendReply (SentPacket.close [] (f h p s).2.device (handReply op h (f h p s).1)) (f h p s).2 := rfl

/-! SESSION_OPEN -/

theorem freshId_pos (used : List Nat) (f : Nat) : 0 < freshId used f := by
  unfold freshId
  cases h : ((List.range (used.length + 1)).map (fun i => (f + i) % (2 ^ 32 - 1) + 1)).find? (fun i => !used.contains i) with
  | none => exact Nat.one_pos
  | some i =>
    obtain ⟨j, _, rfl⟩ := List.mem_map.mp (List.mem_of_find?_eq_some h)
    exact Nat.succ_pos _

theorem openSession_off_curve {h : Hand} {p : Bytes} {s : State} (off : Config.onCurve (slice p 32 97) = false) :
    openSession h p s = refuse St.BAD_PARAM s := by
  simp [openSession, off]

/-- What the reply to SESSION_OPEN carries after its HANDSHAKE (R453): the device's nonce and key share, and its certificates. -/
def openReplyRest (s : State) : Bytes :=
  let share := Config.freeBytes Topic.nonce.num (s.fresh + 1) 129
  slice share 0 32 ++ (slice share 32 97 ++ (zeros 3 ++ (toBE 4 s.identityCert.length ++ (toBE 4 s.bootCert.length ++ (s.identityCert ++ s.bootCert)))))

/-- The HANDSHAKE that a SESSION_OPEN begins (R453). -/
def openedId (s : State) : Nat := freshId s.secure.usedIds (Config.free Topic.handshake.num s.fresh)

/-- The handshake that a SESSION_OPEN begins, with its transcript (R453). -/
def begunHandshake (h : Hand) (p : Bytes) (s : State) : Handshake :=
  ⟨openedId s, h.tenant, h.transport, h.peer, s.now, p ++ (toBE 4 (openedId s) ++ openReplyRest s)⟩

/-- A SESSION_OPEN that nothing refuses (R453) begins a handshake. -/
theorem openSession_begins {h : Hand} {p : Bytes} {s : State} (header : handBad h = false) (len : p.length = 129)
    (curve : Config.onCurve (slice p 32 97) = true) (key : s.flag Addr.SEC_STATUS 3 = true) (may : s.mayHandshake h.tenant = true)
    (unlocked : s.lockedOut h.tenant = false) (quota : s.quotaFree h.tenant = true) (place : s.placeFree h.tenant = true)
    (few : s.secure.handshakes.length < 16) :
    openSession h p s = (⟨St.OK, toBE 4 (openedId s) ++ openReplyRest s⟩,
      { s with
        fresh := s.fresh + 1 + 1
        secure := { s.secure with handshakes := s.secure.handshakes ++ [begunHandshake h p s], usedIds := openedId s :: s.secure.usedIds } }) := by
  have few' : ¬ 16 ≤ s.secure.handshakes.length := by omega
  simp only [openSession, header, len, curve, key, may, unlocked, quota, place, few', Bool.false_eq_true, ne_eq, not_true_eq_false, Bool.not_true,
    or_self, ↓reduceIte, List.append_assoc]
  rfl

theorem length_toBE (n v : Nat) : (toBE n v).length = n := by
  induction n generalizing v with
  | zero => rfl
  | succ n ih => simp [toBE, ih]

/-- Settles O3: the packet is served in `handArrived`, where `openSession` either begins its handshake or refuses. -/
theorem sessionOpenBeginsAHandshake : Obligations.SessionOpenBeginsAHandshake := by
  unfold Obligations.SessionOpenBeginsAHandshake
  intro h p s answers enabled header len key may unlocked quota place few
  have row : exec (.sessionOpen h p) s = .next (handRow openSession 0 h p s) := rfl
  rw [row, handRow_answered answers enabled, serveHand_eq]
  refine ⟨_, _, rfl, ?_⟩
  cases curve : Config.onCurve (slice p 32 97) with
  | true =>
    rw [openSession_begins header len curve (by simpa using key) (by simpa using may) (by simpa using unlocked) (by simpa using quota)
      (by simpa using place) (by simpa using few)]
    refine ⟨by simp, by simp, fun _ => ⟨rfl, openedId (handArrived h s), freshId_pos _ _, ?_, List.mem_cons_self, ?_⟩, nofun⟩
    · exact List.take_left' (length_toBE 4 _)
    · simp [begunHandshake]
  | false =>
    rw [openSession_off_curve curve]
    exact ⟨handArrived_regs h s, handArrived_sessions h s, nofun, fun _ => ⟨rfl, handArrived_secure h s⟩⟩

/-! SESSION_KEY -/

/-- Whether SESSION_KEY of a handshake verifies (R452, R454): a voucher, where it carries one of `vl` bytes, is the owner's and good, and
both signatures over the transcript verify. -/
def keyGood (k : Handshake) (p : Bytes) (vl : Nat) (s : State) : Prop :=
  (vl = 0 ∨ (k.tenant = owner ∧ s.voucherGood (slice p 1096 vl) = true)) ∧
    verifyPair (if vl = 0 then s.credOf k.tenant else slice (slice p 1096 vl) 12 432) (k.transcript ++ p.take (1096 + vl)) (p.drop (1096 + vl)) = true

theorem not_keyGood_iff {k : Handshake} {p : Bytes} {vl : Nat} {s : State} :
    ¬ keyGood k p vl s ↔ (vl ≠ 0 ∧ (k.tenant ≠ owner ∨ (!s.voucherGood (slice p 1096 vl)) = true)) ∨
      (!verifyPair (if vl = 0 then s.credOf k.tenant else slice (slice p 1096 vl) 12 432)
        (k.transcript ++ p.take (1096 + vl)) (p.drop (1096 + vl))) = true := by
  simp only [keyGood, Bool.not_eq_true', ← Bool.not_eq_true]
  tauto

/-- The session that a good SESSION_KEY opens (R454), its tenant made to exist where it did not. -/
def keyOpened (k : Handshake) (p : Bytes) (vl : Nat) (s : State) : State :=
  let s1 := { s with secure.handshakes := s.secure.handshakes.filter (fun x => x.id != k.id) }
  let s2 := if s1.tenantExists k.tenant then s1 else makeTenant k.tenant s1
  { s2 with sessions := s2.sessions ++ [openedBy k (s.sessionOkm k (p.take (1096 + vl))) s2.now] }

/-- What SESSION_KEY checks before its signatures (R454, R455). -/
structure KeyTried (h : Hand) (p : Bytes) (k : Handshake) (s : State) : Prop where
  header : handBad h = false
  len : p.length = 1096 + be p 1092 4 + sigBytes
  voucher : be p 1092 4 = 0 ∨ (be p 1092 4 = voucherBytes ∧ s.module.ownerCred = none)
  found : s.secure.handshakes.find? (fun k => k.id == be p 0 4 && k.transport == h.transport && k.peer == h.peer && k.tenant == h.tenant &&
    decide (s.now < k.opened + secs 30)) = some k
  may : s.mayHandshake k.tenant = true
  place : s.placeFree k.tenant = true
  quota : s.quotaFree k.tenant = true

section
variable {h : Hand} {p : Bytes} {k : Handshake} {s : State} (tried : KeyTried h p k s)
include tried

theorem KeyTried.accepted : ¬(handBad h = true ∨ p.length ≠ 1096 + be p 1092 4 + sigBytes ∨
    be p 1092 4 ≠ 0 ∧ (be p 1092 4 ≠ voucherBytes ∨ s.module.ownerCred.isSome = true)) := by
  rintro (bad | bad | ⟨carried, bad⟩)
  · exact Bool.false_ne_true (tried.header.symm.trans bad)
  · exact bad tried.len
  · obtain none_ | ⟨len, unowned⟩ := tried.voucher
    · exact carried none_
    · rw [unowned] at bad
      obtain bad | bad := bad
      · exact bad len
      · exact Bool.false_ne_true bad

theorem keySession_good (good : keyGood k p (be p 1092 4) s) :
    keySession h p s = (⟨St.OK, toBE 4 k.id ++ keyConfirm (s.sessionOkm k (p.take (1096 + be p 1092 4))) (sha48 (k.transcript ++ p.take (1096 + be p 1092 4)))⟩,
      if be p 1092 4 = 0 then keyOpened k p (be p 1092 4) s
      else claim (slice (slice p 1096 (be p 1092 4)) 12 432) p (keyOpened k p (be p 1092 4) s)) := by
  rw [keySession, if_neg tried.accepted, tried.found]
  simp only [tried.may, tried.place, tried.quota, Bool.not_true, Bool.false_eq_true, or_self, ↓reduceIte]
  rw [if_neg (not_keyGood_iff.not.mp (not_not.mpr good))]
  split
  · rfl
  · rfl

theorem keySession_bad (bad : ¬ keyGood k p (be p 1092 4) s) :
    keySession h p s = (st St.AUTH_FAIL, failHandshake k.tenant { s with secure.handshakes := s.secure.handshakes.filter (fun x => x.id != k.id) }) := by
  rw [keySession, if_neg tried.accepted, tried.found]
  simp only [tried.may, tried.place, tried.quota, Bool.not_true, Bool.false_eq_true, or_self, ↓reduceIte]
  exact if_pos (not_keyGood_iff.mp bad)
end

/-! What a good and a bad SESSION_KEY leave -/

/-- Register writes one after the other change only registers. -/
theorem foldl_setReg_only (addr val : Nat → Nat) (l : List Nat) (s : State) :
    l.foldl (fun s j => s.setReg (addr j) (val j)) s = { s with regs := (l.foldl (fun s j => s.setReg (addr j) (val j)) s).regs } := by
  induction l generalizing s with
  | nil => rfl
  | cons j l ih =>
    rw [List.foldl_cons, ih]
    rfl

theorem extendMeas_only (i : Nat) (d : Bytes) (s : State) : extendMeas i d s = { s with regs := (extendMeas i d s).regs } := by
  simp only [extendMeas]
  exact foldl_setReg_only (fun j => Addr.MEAS (12 * i + j)) (fun j => le (sha48 (s.meas i ++ d)) (4 * j) 4) (List.range 12) s

theorem extendMeas_secure (i : Nat) (d : Bytes) (s : State) : (extendMeas i d s).secure = s.secure := by rw [extendMeas_only]

theorem extendMeas_sessions (i : Nat) (d : Bytes) (s : State) : (extendMeas i d s).sessions = s.sessions := by rw [extendMeas_only]

/-- Claiming a device (R452) leaves the handshakes, and every session open. -/
theorem claim_secure (cred p : Bytes) (s : State) : (claim cred p s).secure = s.secure := by
  rw [claim, (told_raiseEvent _ _ _ _ _).secure, extendMeas_secure, State.setField_secure]

theorem session_claim_isSome (cred p : Bytes) (s : State) (id : Nat) : ((claim cred p s).session id).isSome = (s.session id).isSome := by
  rw [claim, (told_raiseEvent _ _ _ _ _).session_isSome, State.session, extendMeas_sessions, State.setField_sessions]
  rfl

section
variable (k : Handshake) (p : Bytes) (vl : Nat) (s : State)

theorem keyOpened_handshakes : (keyOpened k p vl s).secure.handshakes = s.secure.handshakes.filter (fun x => x.id != k.id) := by
  unfold keyOpened
  dsimp only
  split
  · rfl
  · rfl

theorem keyOpened_sessions :
    (keyOpened k p vl s).sessions = s.sessions ++ [openedBy k (s.sessionOkm k (p.take (1096 + vl))) s.now] := by
  unfold keyOpened
  dsimp only
  split
  · rfl
  · rfl

theorem keyOpened_session : ((keyOpened k p vl s).session k.id).isSome = true := by
  rw [State.session, keyOpened_sessions, List.find?_isSome]
  exact ⟨_, List.mem_append_right _ (List.mem_singleton_self _), beq_self_eq_true _⟩

theorem tenantExists_makeTenant {t : Nat} (small : t ≤ 255) (s : State) : (makeTenant t s).tenantExists t = true := by
  unfold makeTenant State.tenantExists
  have apart : Addr.TENANT_EXISTS (t / 32) ≠ Addr.T_STATE t := by
    simp only [Addr.TENANT_EXISTS, Addr.T_STATE]
    omega
  rw [State.flag_congr (State.reg_setReg_other apart _ _), State.flag_setFlag _ (by omega)]

theorem keyOpened_tenantExists (small : k.tenant ≤ 255) : (keyOpened k p vl s).tenantExists k.tenant = true := by
  unfold keyOpened
  dsimp only
  split
  · assumption
  · exact tenantExists_makeTenant small _

theorem handshakes_failHandshake (t : Nat) : (failHandshake t s).secure.handshakes = s.secure.handshakes := by
  unfold failHandshake
  dsimp only
  split
  · rfl
  · rw [(told_raiseEvent _ _ _ _ _).secure]
    rfl

theorem untold_T_AUTH_FAILS {t : Nat} (small : t ≤ 255) : UntoldReg (Addr.T_AUTH_FAILS t) := by
  refine ⟨⟨?_, fun p => ?_⟩, ?_, ?_, ?_⟩
  all_goals
    simp only [Addr.T_AUTH_FAILS, Addr.NO_ROUTE, Addr.FLITS_TX, Addr.EVENTS_SENT, Addr.EVENTS_LOST, Addr.EVQ_LOST]
    omega

/-- A failed handshake is counted (R455), and neither the lockout it may begin nor its event counts there. -/
theorem reg_failHandshake {t : Nat} (small : t ≤ 255) :
    (failHandshake t s).reg (Addr.T_AUTH_FAILS t) = (s.reg (Addr.T_AUTH_FAILS t) + 1) % 2 ^ 32 := by
  have counter : Addr.T_AUTH_FAILS t ≠ Addr.LOCKOUTS := by
    simp only [Addr.T_AUTH_FAILS, Addr.LOCKOUTS]
    omega
  have state : Addr.T_AUTH_FAILS t ≠ Addr.T_STATE t := by
    simp only [Addr.T_AUTH_FAILS, Addr.T_STATE]
    omega
  unfold failHandshake
  dsimp only
  split
  · exact State.reg_bump32 s _ _
  · rw [(told_raiseEvent _ _ _ _ _).reg _ (untold_T_AUTH_FAILS small), State.reg_setFlag_other _ state, State.reg_bump32_other _ counter]
    exact State.reg_bump32 s _ _
end

/-- Settles O4: in `handArrived`, `keySession` is `keyOpened` where its signatures verify and `failHandshake` where they do not. -/
theorem sessionKeyOpensASession : Obligations.SessionKeyOpensASession := by
  unfold Obligations.SessionKeyOpensASession
  intro h p s k answers enabled header len voucher found may place quota
  have row : exec (.sessionKey h p) s = .next (handRow keySession 2 h p s) := rfl
  rw [row, handRow_answered answers enabled, serveHand_eq]
  have tried : KeyTried h p k (handArrived h s) :=
    ⟨header, len, by simpa using voucher, by simpa using found, by simpa using may, by simpa using place, by simpa using quota⟩
  have small : k.tenant ≤ 255 := by
    have named := List.find?_some found
    simp only [Bool.and_eq_true, beq_iff_eq] at named
    have := named.1.2
    simp [handBad] at header
    omega
  have sameGood : keyGood k p (be p 1092 4) (handArrived h s) ↔ keyGood k p (be p 1092 4) s := by
    simp [keyGood, State.voucherGood, State.credOf]
  have sameOkm (body : Bytes) : (handArrived h s).sessionOkm k body = s.sessionOkm k body := by
    simp [State.sessionOkm]
  have forgotten (l : List Handshake) : ∀ q ∈ l.filter (fun x => x.id != k.id), q.id ≠ k.id := by simp
  intro vl voucher cred tr okm good
  refine ⟨_, _, rfl, ?_⟩
  by_cases verified : keyGood k p (be p 1092 4) (handArrived h s)
  · rw [keySession_good tried verified]
    refine ⟨?_, fun _ => ⟨rfl, ?_, ?_, fun plain => ⟨?_, ?_⟩⟩, fun bad => absurd (sameGood.mp verified) bad⟩
    · split
      · rw [keyOpened_handshakes]
        exact forgotten _
      · rw [claim_secure, keyOpened_handshakes]
        exact forgotten _
    · rw [sameOkm]
      rfl
    · split
      · exact keyOpened_session k p _ _
      · rw [session_claim_isSome]
        exact keyOpened_session k p _ _
    · rw [if_pos plain]
      exact keyOpened_tenantExists k p _ _ small
    · rw [if_pos plain, keyOpened_sessions, sameOkm, handArrived_sessions, handArrived_now]
  · rw [keySession_bad tried verified]
    refine ⟨?_, fun fine => absurd (sameGood.mpr fine) verified, fun _ => ⟨rfl, ?_⟩⟩
    · rw [handshakes_failHandshake]
      exact forgotten _
    · rw [reg_failHandshake _ small]
      exact congrArg (fun v => (v + 1) % 2 ^ 32) (handArrived_reg h s _)
end Sys2Proof.Machine

/-!
PROOFS. What the trace records of packets and events leave alone (R429 to R434).
-/
namespace Sys2Proof.Machine

/-! Trace records -/

/-- The register at `a` is none of those that an open trace session's records change. -/
def UntracedReg (a : Nat) : Prop :=
  UntoldReg a ∧ a ≠ Addr.TRACE_CTRL ∧ (∀ k, a ≠ Addr.WR_BYTES k) ∧ (∀ d, a ≠ Addr.RING_WRITTEN d) ∧ ∀ d, a ≠ Addr.LOST d

/-- `t` is `s` after trace records went into their rings: but for what events change, the rings, the spilled records in memory, the open
windows of events and the counters of `UntracedReg`. -/
structure Noted (s t : State) : Prop where
  only : t = { s with
    regs := t.regs, out := t.out, sessions := t.sessions, windows := t.windows
    mem := { s.mem with bytes := t.mem.bytes, keyOf := t.mem.keyOf }
    fabric := { s.fabric with seq := t.fabric.seq, credit := t.fabric.credit, flits := t.fabric.flits, unacked := t.fabric.unacked, held := t.fabric.held }
    bridge := { s.bridge with ring := t.bridge.ring, prod := t.bridge.prod, msixPending := t.bridge.msixPending }
    obs := { s.obs with trace := t.obs.trace, sends := t.obs.sends, rings := t.obs.rings } }
  reg : ∀ a, UntracedReg a → t.reg a = s.reg a
  sessions : t.sessions.map Session.unqueued = s.sessions.map Session.unqueued
  out : s.out <+: t.out

theorem Told.noted {s t : State} (h : Told s t) : Noted s t where
  only := by rw [h.only]
  reg a ha := h.reg a ha.1
  sessions := h.sessions
  out := h.out

theorem Sent.noted {s t : State} (h : Sent s t) : Noted s t := h.told.noted

theorem Noted.refl (s : State) : Noted s s := (Told.refl s).noted

theorem Noted.trans {s t u : State} (h : Noted s t) (h' : Noted t u) : Noted s u where
  only := by rw [h'.only, h.only]
  reg a ha := (h'.reg a ha).trans (h.reg a ha)
  sessions := h'.sessions.trans h.sessions
  out := h.out.trans h'.out

theorem Noted.foldl {α : Type} {f : State → α → State} (hf : ∀ s x, Noted s (f s x)) (l : List α) (s : State) : Noted s (l.foldl f s) := by
  induction l generalizing s with
  | nil => exact .refl s
  | cons x l ih => exact (hf s x).trans (ih _)

section
variable {s t : State} (h : Noted s t)
include h

theorem Noted.now : t.now = s.now := by rw [h.only]
theorem Noted.jobs : t.jobs = s.jobs := by rw [h.only]
theorem Noted.cells : t.cells = s.cells := by rw [h.only]
theorem Noted.copies : t.copies = s.copies := by rw [h.only]
theorem Noted.group : t.group = s.group := by rw [h.only]
theorem Noted.secure : t.secure = s.secure := by rw [h.only]
theorem Noted.power : t.power = s.power := by rw [h.only]
theorem Noted.fw : t.fw = s.fw := by rw [h.only]
end

/-- A register write outside `UntracedReg`. -/
theorem noted_setReg {a : Nat} (ha : ∀ b, UntracedReg b → b ≠ a) (s : State) (v : Nat) : Noted s (s.setReg a v) :=
  ⟨rfl, fun b hb => State.reg_setReg_other (ha b hb) s v, rfl, List.prefix_rfl⟩

theorem noted_windows (s : State) (windows : List Window) : Noted s { s with windows } :=
  ⟨rfl, fun _ _ => rfl, rfl, List.prefix_rfl⟩

theorem noted_setRing (s : State) (d : Nat) (r : StippleRing) : Noted s (s.setRing d r) :=
  ⟨rfl, fun _ _ => rfl, rfl, List.prefix_rfl⟩

theorem noted_writeBytes (s : State) (t a : Nat) (bs : Bytes) : Noted s (s.writeBytes t a bs) := by
  refine ⟨?_, fun _ _ => rfl, rfl, List.prefix_rfl⟩
  have kept (m : MemState) (a : Nat) (bs : Bytes) : memWrite m a bs = { m with bytes := (memWrite m a bs).bytes } := by
    induction bs generalizing m a with
    | nil => rfl
    | cons b bs ih =>
      rw [memWrite, ih]
      rfl
  rw [State.writeBytes, kept]
  rfl

theorem noted_storeBytes (s : State) (t a : Nat) (bs : Bytes) : Noted s (s.storeBytes t a bs) :=
  (noted_writeBytes s t a bs).trans (Noted.foldl (fun s _ => noted_setReg (fun _ hb => hb.2.2.1 _) s _) _ _)

theorem noted_closeWindow (opcode key : Nat) (s : State) : Noted s (closeWindow opcode key s) := by
  unfold closeWindow
  split
  · exact .refl s
  · exact (noted_windows s _).trans (told_deliver _ _).noted

theorem noted_coalesce (e : Event) (key length : Nat) (merge : List Nat → List Nat → List Nat) (s : State) :
    Noted s (coalesce e key length merge s) := by
  unfold coalesce
  split
  · split
    · exact noted_windows s _
    · exact (noted_closeWindow _ _ s).trans (noted_windows _ _)
  · exact noted_windows s _

theorem noted_spill (d seq : Nat) (w : W256) (x : TraceSession) (s : State) : Noted s (spill d seq w x s) := by
  unfold spill
  dsimp only
  split
  · exact .refl s
  · exact noted_storeBytes s _ _ _

theorem noted_stopRing (d : Nat) (x : TraceSession) (s : State) : Noted s (stopRing d x s) := by
  unfold stopRing
  dsimp only
  split
  · exact (noted_setRing s _ _).trans ((noted_setReg (fun _ hb => hb.2.1) _ _).trans (told_raiseEvent _ _ _ _ _).noted)
  · exact noted_setRing s _ _

theorem noted_appendRecord (d : Nat) (w : W256) (s : State) : Noted s (appendRecord d w s) := by
  unfold appendRecord
  split
  · exact .refl s
  rename_i x _
  dsimp only
  split
  · exact .refl s
  have written : Noted s ((spill d ((s.ring d).first + (s.ring d).recs.length) w x s).bump32 (Addr.RING_WRITTEN d)) :=
    (noted_spill d _ w x s).trans (noted_setReg (fun _ hb => hb.2.2.2.1 d) _ _)
  refine written.trans ?_
  split
  · split
    · exact (noted_setRing _ _ _).trans (noted_stopRing _ _ _)
    · exact noted_setRing _ _ _
  · split
    · split
      · exact (noted_setRing _ _ _).trans (noted_stopRing _ _ _)
      · exact noted_setRing _ _ _
    · exact (noted_setRing _ _ _).trans ((noted_setReg (fun _ hb => hb.2.2.2.2 d) _ _).trans (noted_coalesce _ _ _ _ _))

theorem noted_dropRecord (d : Nat) (w : W256) (s : State) : Noted s (dropRecord d w s) := by
  unfold dropRecord
  split
  · exact .refl s
  · exact (noted_setRing s _ _).trans ((noted_setReg (fun _ hb => hb.2.2.2.2 d) _ _).trans (noted_coalesce _ _ _ _ _))

theorem noted_acceptRecord (d : Nat) (w : W256) (s : State) : Noted s (acceptRecord d w s) := by
  unfold acceptRecord
  dsimp only
  split
  · exact noted_appendRecord d w s
  · exact (noted_setRing s _ _).trans ((noted_appendRecord _ _ _).trans (noted_appendRecord _ _ _))

theorem noted_writeRecord (d : Nat) (w : W256) (s : State) : Noted s (writeRecord d w s) := by
  unfold writeRecord
  dsimp only
  split
  · exact noted_dropRecord d w s
  · exact noted_acceptRecord d w s

theorem noted_sends (s : State) (sends : List (Nat × W256)) : Noted s { s with obs.sends := sends } :=
  ⟨rfl, fun _ _ => rfl, rfl, List.prefix_rfl⟩

theorem noted_noteSends (s : State) : Noted s (noteSends s) :=
  (noted_sends s []).trans (Noted.foldl (fun s (r : Nat × W256) => noted_writeRecord r.1 r.2 s) _ _)

/-- No SEND record waits: noting them changes nothing. -/
theorem noteSends_of_none {s : State} (none_ : s.obs.sends = []) : noteSends s = s := by
  unfold noteSends
  rw [none_]
  show { s with obs := { s.obs with sends := [] } } = s
  rw [← none_]

/-- A packet that a device without a trace session sends leaves no record to note. -/
theorem noteSends_of_sent {s t : State} (off : untraced s) (h : Sent s t) : noteSends t = t :=
  noteSends_of_none ((h.sends off.1).trans off.2)

end Sys2Proof.Machine

/-!
PROOFS. The state in which a command's own action begins.
-/
namespace Sys2Proof.Machine

/-! The state a command's action begins in -/

section
variable (c : Cmd) (x : Session) (s : State)

theorem begun_only : begun c x s =
    { advance c.t s with regs := (begun c x s).regs, sessions := (begun c x s).sessions, ports := (begun c x s).ports, bridge := (begun c x s).bridge } := by
  unfold begun
  dsimp only
  split
  · rw [takeMailbox_only]
    rfl
  · rfl

@[simp] theorem begun_pending : (begun c x s).pending = s.pending := by rw [begun_only]; rfl
@[simp] theorem begun_fresh : (begun c x s).fresh = s.fresh := by rw [begun_only]; rfl
@[simp] theorem begun_out : (begun c x s).out = s.out := by rw [begun_only]; rfl
@[simp] theorem begun_now : (begun c x s).now = max s.now c.t := by rw [begun_only]; rfl
@[simp] theorem begun_latch : (begun c x s).latch = s.latch := by rw [begun_only]; rfl
@[simp] theorem begun_shadow : (begun c x s).shadow = s.shadow := by rw [begun_only]; rfl
@[simp] theorem begun_beat : (begun c x s).beat = s.beat := by rw [begun_only]; rfl
@[simp] theorem begun_windows : (begun c x s).windows = s.windows := by rw [begun_only]; rfl
@[simp] theorem begun_jobs : (begun c x s).jobs = s.jobs := by rw [begun_only]; rfl
@[simp] theorem begun_hc : (begun c x s).hc = s.hc := by rw [begun_only]; rfl
@[simp] theorem begun_mt : (begun c x s).mt = s.mt := by rw [begun_only]; rfl
@[simp] theorem begun_tm : (begun c x s).tm = s.tm := by rw [begun_only]; rfl
@[simp] theorem begun_mem : (begun c x s).mem = s.mem := by rw [begun_only]; rfl
@[simp] theorem begun_dataKey : (begun c x s).dataKey = s.dataKey := by rw [begun_only]; rfl
@[simp] theorem begun_signer : (begun c x s).signer = s.signer := by rw [begun_only]; rfl
@[simp] theorem begun_models : (begun c x s).models = s.models := by rw [begun_only]; rfl
@[simp] theorem begun_flow : (begun c x s).flow = s.flow := by rw [begun_only]; rfl
@[simp] theorem begun_cells : (begun c x s).cells = s.cells := by rw [begun_only]; rfl
@[simp] theorem begun_copies : (begun c x s).copies = s.copies := by rw [begun_only]; rfl
@[simp] theorem begun_fabric : (begun c x s).fabric = s.fabric := by rw [begun_only]; rfl
@[simp] theorem begun_group : (begun c x s).group = s.group := by rw [begun_only]; rfl
@[simp] theorem begun_obs : (begun c x s).obs = s.obs := by rw [begun_only]; rfl
@[simp] theorem begun_integ : (begun c x s).integ = s.integ := by rw [begun_only]; rfl
@[simp] theorem begun_power : (begun c x s).power = s.power := by rw [begun_only]; rfl
@[simp] theorem begun_module : (begun c x s).module = s.module := by rw [begun_only]; rfl
@[simp] theorem begun_fw : (begun c x s).fw = s.fw := by rw [begun_only]; rfl
@[simp] theorem begun_secure : (begun c x s).secure = s.secure := by rw [begun_only]; rfl

/-- A command's beginning counts in CMD_EXECUTED and changes no other register. -/
theorem begun_reg {a : Nat} (ha : a ≠ Addr.CMD_EXECUTED) : (begun c x s).reg a = s.reg a := by
  unfold begun
  rw [State.reg_bump64_other _ ha, State.updSession_reg]
  split
  · rw [takeMailbox_reg]
    rfl
  · rfl

theorem begun_flag {a : Nat} (ha : a ≠ Addr.CMD_EXECUTED) (i : Nat) : (begun c x s).flag a i = s.flag a i := State.flag_congr (begun_reg c x s ha) i

theorem begun_field {a : Nat} (ha : a ≠ Addr.CMD_EXECUTED) (lo w : Nat) : (begun c x s).field a lo w = s.field a lo w :=
  State.field_congr (begun_reg c x s ha) lo w

@[simp] theorem begun_device : (begun c x s).device = s.device := begun_field c x s (by decide) 0 13

/-- Its session is renewed (R342) and executes the next SEQ (R343). -/
theorem begun_sessions : (begun c x s).sessions =
    s.sessions.map (fun y => if y.id = x.id then { y with lastAuth := max s.now c.t, e := x.e + 1 } else y) := by
  have taken (t : State) : (if x.transport = .mailbox then takeMailbox t else t).sessions = t.sessions := by
    split
    · exact takeMailbox_sessions t
    · rfl
  unfold begun
  simp only [State.bump64_sessions, State.updSession_sessions, taken, List.map_map, State.advance_sessions, State.advance_now]
  refine List.map_congr_left fun y _ => ?_
  by_cases same : y.id = x.id
  · simp [same]
  · simp [same]

theorem begun_session (j : Nat) : (begun c x s).session j =
    (s.session j).map (fun y => if y.id = x.id then { y with lastAuth := max s.now c.t, e := x.e + 1 } else y) := by
  rw [State.session, begun_sessions]
  exact State.find_map_id s.sessions (fun y => { y with lastAuth := max s.now c.t, e := x.e + 1 }) x.id j (fun _ => rfl)
end

/-- A session whose command is ready is open, under its own identifier. -/
theorem session_of_ready {c : Cmd} {x : Session} {s : State} (h : ready c x s = true) : s.session x.id = some x := by
  simp only [ready, Bool.and_eq_true, decide_eq_true_eq] at h
  obtain ⟨⟨⟨⟨⟨_, found⟩, _⟩, _⟩, _⟩, _⟩ := h
  have found : s.session c.session = some x := found
  rwa [State.session_id found]
end Sys2Proof.Machine

/-!
PROOFS. Command packets by their SEQ (R337 to R345), and what follows a command's action (R338, R344, R346).
-/
namespace Sys2Proof.Machine

/-! What follows a command's action -/

/-- No command that session `id` holds back is next in its order (R343). -/
def NoneNext (id : Nat) (s : State) : Prop := ∀ y, s.session id = some y → ∀ k ∈ y.held, k.seq ≠ y.e + 1

theorem runHeld_of_noneNext {id : Nat} {s : State} (h : NoneNext id s) (n : Nat) : runHeld id n s = s := by
  cases n with
  | zero => rfl
  | succ n =>
    unfold runHeld
    split
    · rfl
    · rename_i y found
      have waits : y.held.find? (fun k => k.seq == y.e + 1) = none := by
        rw [List.find?_eq_none]
        exact fun k hk => by simpa using h y found k hk
      rw [waits]

/-- A session that events were queued to is found with what it held before. -/
theorem Noted.session {s t : State} (h : Noted s t) {id : Nat} {y : Session} (found : t.session id = some y) :
    ∃ x, s.session id = some x ∧ y.unqueued = x.unqueued := by
  have find (l : List Session) : (l.find? (fun x => x.id == id)).map Session.unqueued = (l.map Session.unqueued).find? (fun x => x.id == id) := by
    rw [List.find?_map]
    rfl
  have same : (t.session id).map Session.unqueued = (s.session id).map Session.unqueued := by
    rw [State.session, State.session, find, find, h.sessions]
  rw [found, Option.map_some] at same
  obtain ⟨x, hx, eq⟩ := Option.map_eq_some_iff.mp same.symm
  exact ⟨x, hx, eq.symm⟩

theorem Noted.noneNext {s t : State} (h : Noted s t) {id : Nat} (none_ : NoneNext id s) : NoneNext id t := by
  intro y found k hk
  obtain ⟨x, hx, eq⟩ := h.session found
  have held : y.unqueued.held = x.unqueued.held := congrArg Session.held eq
  have executed : y.unqueued.e = x.unqueued.e := congrArg Session.e eq
  have := none_ x hx k (held ▸ hk)
  exact executed ▸ this

/-- The reply that leaves is kept first among the session's replies (R344). -/
def keptReply (x : Session) (reply : SentPacket) (t : State) : State :=
  t.updSession x.id (fun y => { y with cache := ((x.e + 1, reply) :: y.cache).take replyCache })

theorem noneNext_keptReply {x : Session} {t : State} (none_ : NoneNext x.id t) (reply : SentPacket) : NoneNext x.id (keptReply x reply t) := by
  intro y found k hk
  rw [keptReply, State.session_updSession] at found
  · obtain ⟨y0, found0, rfl⟩ := Option.map_eq_some_iff.mp found
    have same := State.session_id found0
    simp only [same, ↓reduceIte] at hk ⊢
    exact none_ y0 found0 k hk
  · exact fun _ => rfl

theorem noted_sendReply_fabric {p : SentPacket} (fabric : p.transport = .fabric) (s : State) : Noted s (sendReply p s) := by
  unfold sendReply
  rw [fabric]
  exact (sent_emit s _).noted.trans ((sent_sendCmd _ _ _).noted.trans (noted_noteSends _))

theorem sessions_signal (v : Nat) (s : State) : (signal v s).sessions = s.sessions := by
  unfold signal
  split
  · rfl
  · rfl

theorem sendReply_sessions {p : SentPacket} (notFabric : p.transport ≠ .fabric) (s : State) : (sendReply p s).sessions = s.sessions := by
  unfold sendReply
  split
  · split
    · rfl
    · exact sessions_signal _ _
  · exact absurd ‹_› notFabric
  · rfl

theorem NoneNext.congr {id : Nat} {s t : State} (none_ : NoneNext id s) (same : t.sessions = s.sessions) : NoneNext id t := by
  intro y found
  exact none_ y (by rwa [State.session, ← same])

/-- Settling a command that holds none back sends its reply and no more (R344, R346). -/
theorem settle_of_noneNext {op : Nat} {c : Cmd} {x : Session} {r : Reply} {b t : State} (none_ : NoneNext x.id t)
    (busy : t.bridge.busy = b.bridge.busy) :
    settle op c x r b t = sendReply (replyOf op c x r t.device) (keptReply x (replyOf op c x r t.device) t) := by
  have stays : ¬(b.bridge.busy = true ∧ (!(keptReply x (replyOf op c x r t.device) t).bridge.busy) = true) := by
    rintro ⟨h, h'⟩
    have : t.bridge.busy = true := busy.trans h
    simp [keptReply, this] at h'
  unfold settle
  dsimp only
  rw [show (t.updSession x.id fun y => { y with cache := ((x.e + 1, replyOf op c x r t.device) :: y.cache).take replyCache }) =
    keptReply x (replyOf op c x r t.device) t from rfl, if_neg stays]
  refine runHeld_of_noneNext ?_ _
  have kept := noneNext_keptReply none_ (replyOf op c x r t.device)
  by_cases fabric : x.transport = .fabric
  · exact (noted_sendReply_fabric fabric _).noneNext kept
  · exact kept.congr (sendReply_sessions fabric _)

/-- The mailbox's reply (R328): it is free again, the reply stands in it, and vector 0 is signalled. -/
def mailboxReplied (p : SentPacket) (s : State) : State :=
  { s with bridge := { s.bridge with busy := false, replyReady := true, reply := p.packet } }.emit (.reply p)

theorem signal_only (v : Nat) (s : State) :
    signal v s = { s with out := (signal v s).out, bridge := { s.bridge with msixPending := (signal v s).bridge.msixPending } } := by
  unfold signal
  split
  · rfl
  · rfl

theorem signal_out (v : Nat) (s : State) :
    (signal v s).out = s.out ++ (if bitAt (tabGet msixMasked v s.bridge.msix) 96 = false then [.msix v] else []) := by
  unfold signal
  split
  · rename_i masked
    rw [masked]
    exact (List.append_nil _).symm
  · rename_i open_
    rw [if_pos (by simpa using open_)]
    rfl

theorem keptReply_session {x y : Session} {t : State} (found : t.session x.id = some y) (reply : SentPacket) :
    ((keptReply x reply t).session x.id).map (fun z => z.cache) = some (((x.e + 1, reply) :: y.cache).take replyCache) := by
  rw [keptReply, State.session_updSession, found]
  · simp [State.session_id found]
  · exact fun _ => rfl

/-- Settles O7: settling keeps the reply and sends it, by `settle_of_noneNext`. -/
theorem settlingOnlyReplies : Obligations.SettlingOnlyReplies := by
  unfold Obligations.SettlingOnlyReplies
  intro op c x r b t none_ busy u reply kept
  have settled : u = sendReply reply kept := settle_of_noneNext none_ busy
  have transport : reply.transport = x.transport := rfl
  refine ⟨fun fabric => ?_, fun mailbox mute => ?_, fun notFabric unmuted => ?_⟩
  · rw [settled, sendReply, transport, fabric]
    rfl
  · rw [settled, sendReply, transport, mailbox]
    exact if_pos mute
  · cases tr : x.transport with
    | fabric => exact absurd tr notFabric
    | mgmt =>
      have sent : u = kept.emit (.reply reply) := by
        rw [settled, sendReply, transport, tr]
      rw [sent]
      refine ⟨rfl, rfl, rfl, rfl, rfl, rfl, rfl, rfl, rfl, rfl, rfl, rfl, rfl, rfl, rfl, rfl, rfl, rfl, rfl, rfl, fun y found =>
          keptReply_session found reply, ?_⟩
      simp [State.emit, kept]
    | mailbox =>
      have sent : u = signal 0 (mailboxReplied reply kept) := by
        rw [settled, sendReply, transport, tr]
        exact if_neg (by simp [kept, unmuted tr])
      rw [sent, signal_only]
      refine ⟨rfl, rfl, rfl, rfl, rfl, rfl, rfl, rfl, rfl, rfl, rfl, rfl, rfl, rfl, rfl, rfl, rfl, rfl, rfl, rfl, fun y found =>
          keptReply_session found reply, ?_⟩
      show (signal 0 (mailboxReplied reply kept)).out = _
      rw [signal_out, show (mailboxReplied reply kept).out = t.out ++ [.reply reply] from rfl, List.append_assoc]
      simp only [true_and]
      rfl

/-! Command packets by their SEQ -/

theorem exec_commandPacketArrive_taken {t : Nat} {tr : Transport} {peer : Nat} {k : Bytes} {chk : FifoRead} {s s0 : State}
    (turn : s.ingressTurn tr k = true) (taken : takeIngress tr k (advance t s) = some s0) (good : chk.bad = false) (limik : s.limik = true)
    (healthy : (noteRead (ingressFifo tr) chk s0).secError = false) :
    exec (.commandPacketArrive t tr peer ⟨k, chk⟩) s = .next (arrivePacket tr peer k (noteRead (ingressFifo tr) chk s0)) := by
  have here : ¬(s.on = true ∧ (s.stage = 2 ∨ s.limik = true ∧ (!s.ingressTurn tr k) = true)) := by
    rintro ⟨_, away | ⟨_, waits⟩⟩
    · simp [State.limik, away] at limik
    · simp [turn] at waits
  have row : exec (.commandPacketArrive t tr peer ⟨k, chk⟩) s = execCommandPacketArrive t tr peer ⟨k, chk⟩ s := rfl
  rw [row, execCommandPacketArrive, if_neg here, if_neg (by simp [limik])]
  dsimp only
  rw [taken]
  dsimp only
  rw [if_neg (by simp [healthy, good])]

theorem expireIdle_active {id : Nat} {s : State} {x : Session} (found : s.session id = some x) (active : s.idleOver x = false) :
    expireIdle id s = s := by
  rw [expireIdle, found]
  exact if_neg (by rw [active]; exact Bool.false_ne_true)

/-- A packet of an open session that nothing drops (R337 to R342) is opened under its key and handled by its SEQ. -/
theorem arrivePacket_verified {tr : Transport} {peer : Nat} {k : Bytes} {s : State} {x : Session} (own : s.relayOf tr k = none)
    (enabled : s.transportOn tr = true) (formed : wellFormedPacket k (header1 k) = true)
    (here : 8192 ≤ (header1 k).target ∨ (header1 k).target = s.device) (nonzero : (header1 k).session ≠ 0)
    (found : s.session (header1 k).session = some x) (active : s.idleOver x = false) (byTransport : x.transport = tr) (byPeer : x.peer = peer)
    (tagged : (header1 k).tagged = true) :
    arrivePacket tr peer k s =
      (match Config.gcmOpen x.key (toBE 4 0 ++ toBE 8 (header1 k).seq) (k.take 32) (slice k 32 (header1 k).paramLen)
          (slice k (32 + (header1 k).paramLen) 16) with
       | none => freeMailbox tr (s.bump32 Addr.AUTH_DROPS)
       | some params => arriveInOrder x (header1 k) params (s.updSession x.id (fun y => { y with lastAuth := s.now }))) := by
  have stays : ¬((header1 k).target < 8192 ∧ (header1 k).target ≠ s.device) := by
    rintro ⟨small, other⟩
    obtain broadcast | device := here
    · omega
    · exact other device
  have sender : ¬(x.transport ≠ tr ∨ x.peer ≠ peer ∨ (!(header1 k).tagged) = true) := by
    simp [byTransport, byPeer, tagged]
  rw [arrivePacket]
  rw [if_neg (by simp [enabled]), if_neg (by simp [formed]), own]
  dsimp only
  rw [if_neg stays, if_neg nonzero, arriveSession]
  rw [expireIdle_active found active, found]
  exact if_neg sender

theorem State.reg_raise_other {a b : Nat} (h : b ≠ a) (s : State) (v : Nat) : (s.raise a v).reg b = s.reg b := by
  unfold State.raise
  split
  · exact State.reg_setReg_other h s v
  · rfl

/-- Taking a packet from its ingress FIFO counts in the FIFO's registers alone. -/
theorem reg_takeIngress {tr : Transport} {k : Bytes} {s s0 : State} {a : Nat} (taken : takeIngress tr k s = some s0)
    (commits : a ≠ Addr.COMMIT_COUNT (ingressFifo tr)) (water : a ≠ Addr.HIGH_WATER (ingressFifo tr)) : s0.reg a = s.reg a := by
  unfold takeIngress at taken
  dsimp only at taken
  split at taken
  · obtain rfl := Option.some.inj taken
    split
    · rfl
    · rfl
  · split at taken
    · obtain rfl := Option.some.inj taken
      rw [State.reg_raise_other water, State.reg_bump64_other _ commits]
    · exact absurd taken nofun

theorem reg_noteRead_good {f : Nat} {chk : FifoRead} {s : State} {a : Nat} (good : chk.bad = false) (corrected : a ≠ Addr.CORR_COUNT f) :
    (noteRead f chk s).reg a = s.reg a := by
  rw [noteRead, good]
  exact State.reg_bump32_other s corrected _

theorem device_taken {t : Nat} {tr : Transport} {k : Bytes} {chk : FifoRead} {s s0 : State} (taken : takeIngress tr k (advance t s) = some s0)
    (good : chk.bad = false) : (noteRead (ingressFifo tr) chk s0).device = s.device := by
  refine State.field_congr ?_ 0 13
  rw [reg_noteRead_good good, reg_takeIngress taken, State.advance_reg]
  all_goals cases tr <;> decide

section
variable {x : Session} {h : Header1} {params : Bytes} {s : State}

theorem arriveInOrder_beyond (beyond : x.e + 64 < h.seq) :
    arriveInOrder x h params s = freeMailbox x.transport (s.bump32 Addr.WINDOW_DROPS) := by
  rw [arriveInOrder]
  rw [if_neg (by omega), if_pos (show x.e + heldMax < h.seq from beyond)]

theorem arriveInOrder_forgotten (old : h.seq ≤ x.e) (gone : ∀ c ∈ x.cache, c.1 ≠ h.seq) :
    arriveInOrder x h params s = freeMailbox x.transport (s.bump32 Addr.WINDOW_DROPS) := by
  have none_ : x.cache.find? (fun c => c.1 == h.seq) = none := by
    rw [List.find?_eq_none]
    exact fun c hc => by simpa using gone c hc
  rw [arriveInOrder]
  rw [if_pos old, none_]

theorem arriveInOrder_kept (old : h.seq ≤ x.e) {c : Nat × SentPacket} (kept : x.cache.find? (fun c => c.1 == h.seq) = some c) :
    arriveInOrder x h params s = sendReply c.2 (s.bump32 Addr.CMD_REPLAYED) := by
  rw [arriveInOrder]
  rw [if_pos old, kept]

theorem arriveInOrder_again (ahead : x.e + 1 < h.seq) (held : x.held.any (fun q => q.seq == h.seq) = true) :
    arriveInOrder x h params s = freeMailbox x.transport (s.bump32 Addr.WINDOW_DROPS) := by
  rw [arriveInOrder]
  rw [if_neg (by omega), if_neg (by omega : ¬ h.seq = x.e + 1), if_pos held, ite_self]

end

/-- Settles O6: the packet by `arrivePacket_verified`, its SEQ by the branches of `arriveInOrder`. -/
theorem commandPacketsRunInSeqOrder : Obligations.CommandPacketsRunInSeqOrder := by
  unfold Obligations.CommandPacketsRunInSeqOrder
  refine ⟨fun t tr peer k chk s s0 x turn taken good own limik healthy enabled formed here nonzero found active byTransport byPeer tagged => ?_,
    fun x h params s => ⟨arriveInOrder_beyond, arriveInOrder_forgotten, arriveInOrder_again, fun old c kept => arriveInOrder_kept old kept,
      fun ahead within waits => ?_, fun next => ?_⟩⟩
  · rw [exec_commandPacketArrive_taken turn taken good limik healthy,
      arrivePacket_verified own enabled formed (by rwa [device_taken taken good]) nonzero found active byTransport byPeer
        tagged] <;> rfl
  · rw [arriveInOrder]
    rw [if_neg (by omega), if_neg (by simpa [heldMax] using within), if_neg (by omega : ¬ h.seq = x.e + 1), if_neg (by simp [waits])]
  · rw [arriveInOrder]
    rw [if_neg (by omega), if_neg (by simp [heldMax]; omega), if_pos next]
    rfl

end Sys2Proof.Machine

/-!
PROOFS. The session commands (R350, R351).
-/
namespace Sys2Proof.Machine

/-! SESSION_CLOSE -/

/-- The state in which a command that is ready runs in its session, before E advances. -/
def renewed (c : Cmd) (x : Session) (s : State) : State :=
  let s2 := (advance c.t s).updSession x.id (fun y => { y with lastAuth := (advance c.t s).now })
  if x.transport = .mailbox then takeMailbox s2 else s2

theorem begun_eq_renewed (c : Cmd) (x : Session) (s : State) :
    begun c x s = ((renewed c x s).updSession x.id (fun y => { y with e := x.e + 1 })).bump64 Addr.CMD_EXECUTED := rfl

theorem begun_tenantExists (c : Cmd) (x : Session) (s : State) (t : Nat) : (begun c x s).tenantExists t = s.tenantExists t := by
  refine begun_flag c x s ?_ _
  simp only [Addr.TENANT_EXISTS, Addr.CMD_EXECUTED]
  omega

theorem begun_tenantRefused_of_ready {c : Cmd} {x : Session} {s : State} (h : ready c x s = true) :
    (begun c x s).tenantRefused x c.tenant = false := by
  simp only [ready, Bool.and_eq_true, Bool.not_eq_true'] at h
  rw [State.tenantRefused, begun_tenantExists]
  exact h.2

theorem runCommand_renewed {f : CmdFn} {op : Nat} {c : Cmd} {p : Bytes} {x : Session} {s : State} (h : ready c x s = true) :
    runCommand f op c p s = runHeld x.id heldMax
      (runOne f x { seq := x.e + 1, opcode := op, tag := c.tag, tenant := c.tenant, params := p, bad := 0 } (renewed c x s)) := by
  simp only [ready, Bool.and_eq_true, decide_eq_true_eq, Bool.not_eq_true'] at h
  obtain ⟨⟨⟨⟨⟨answers, found⟩, active⟩, enabled⟩, tenant⟩, _⟩ := h
  have bad : tenantBad c.tenant = 0 := if_neg (by omega)
  rw [runCommand, if_neg (by simp [answers]), expireIdle_active found active]
  dsimp only
  rw [found]
  dsimp only
  rw [if_neg (by simp [enabled]), bad]
  rfl

/-- SESSION_CLOSE as it runs (R351): its reply leaves, and then the sending session closes where it is the one named. -/
theorem runOne_sessionClose {c : Cmd} {x : Session} {p : Bytes} {s : State} (h : ready c x s = true) {t : State}
    (acts : cmdSessionClose (envOf c x) p (begun c x s) = (ok, t)) (busy : t.bridge.busy = (begun c x s).bridge.busy) :
    runOne cmdSessionClose x { seq := x.e + 1, opcode := 0x0004, tag := c.tag, tenant := c.tenant, params := p, bad := 0 } (renewed c x s) =
      (let sent := sendReply (replyOf 0x0004 c x ok t.device) (keptReply x (replyOf 0x0004 c x ok t.device) t)
       if closeNamed (envOf c x) p = x.id then closeSession x.id 1 sent else sent) := by
  have stays : ¬((renewed c x s).bridge.busy = true ∧ (!(keptReply x (replyOf 0x0004 c x ok t.device) t).bridge.busy) = true) := by
    have same : (keptReply x (replyOf 0x0004 c x ok t.device) t).bridge.busy = (renewed c x s).bridge.busy := busy
    rw [same]
    simp
  unfold runOne
  simp only [ne_eq, not_true_eq_false, ↓reduceIte, ← begun_eq_renewed, begun_tenantRefused_of_ready h, Bool.false_eq_true]
  rw [show (⟨x.id, x.tenant, c.tenant, c.tag, x.transport⟩ : Env) = envOf c x from rfl, acts]
  dsimp only
  rw [if_neg (by decide)]
  unfold keptReply replyOf at stays ⊢
  simp only [if_neg stays, show (ok.status == St.OK) = true from rfl, true_and]

theorem noted_sendReply {p : SentPacket} (notMailbox : p.transport ≠ .mailbox) (s : State) : Noted s (sendReply p s) := by
  unfold sendReply
  split
  · exact absurd ‹_› notMailbox
  · exact (sent_emit s _).noted.trans ((sent_sendCmd _ _ _).noted.trans (noted_noteSends _))
  · exact (sent_emit s _).noted

/-- A reply that leaves is among what left the device. -/
theorem reply_mem_out {p : SentPacket} (notMailbox : p.transport ≠ .mailbox) (s : State) : .reply p ∈ (sendReply p s).out := by
  have last (t : State) : .reply p ∈ (t.emit (.reply p)).out := List.mem_append_right _ (List.mem_singleton_self _)
  unfold sendReply
  split
  · exact absurd ‹_› notMailbox
  · exact ((sent_sendCmd _ _ _).noted.trans (noted_noteSends _)).out.subset (last s)
  · exact last s

theorem out_closeSession (id cause : Nat) (s : State) : s.out <+: (closeSession id cause s).out := by
  unfold closeSession
  split
  · exact List.prefix_rfl
  · refine List.IsPrefix.trans ?_ (told_raiseEvent _ _ _ _ _).out
    split
    · exact List.prefix_rfl
    · exact List.prefix_rfl

theorem bridge_busy_closeSession (id cause : Nat) (s : State) : (closeSession id cause s).bridge.busy = s.bridge.busy := by
  unfold closeSession
  split
  · rfl
  · rw [(told_raiseEvent _ _ _ _ _).only]
    split
    · rfl
    · rfl

/-- An update of one session leaves the others. -/
theorem State.session_updSession_other {id j : Nat} (other : j ≠ id) (s : State) {f : Session → Session} (hf : ∀ y, (f y).id = y.id) :
    (s.updSession id f).session j = s.session j := by
  rw [State.session_updSession s id j f hf]
  cases found : s.session j with
  | none => rfl
  | some y => rw [Option.map_some, if_neg (State.session_id found ▸ other)]

theorem noneNext_of_closed {id : Nat} {s : State} (closed : s.session id = none) : NoneNext id s :=
  fun _ found => absurd (closed.symm.trans found) nofun

section
variable {c : Cmd} {x : Session} {s : State} {p : Bytes} (h : ready c x s = true)
include h

theorem begun_session_of_ready : (begun c x s).session x.id = some { x with lastAuth := max s.now c.t, e := x.e + 1 } := by
  rw [begun_session, session_of_ready h, Option.map_some, if_pos rfl]

theorem cmdSessionClose_own (len : p.length = 4) (named : closeNamed (envOf c x) p = x.id) :
    cmdSessionClose (envOf c x) p (begun c x s) = (ok, begun c x s) := by
  have sender : (envOf c x).session = x.id := rfl
  rw [cmdSessionClose, named, begun_session_of_ready h, sender]
  simp [len]

/-- SESSION_CLOSE of the sending session (R351). -/
theorem exec_sessionClose_own (len : p.length = 4) (named : closeNamed (envOf c x) p = x.id) :
    exec (.sessionClose c p) s = .next (closeSession x.id 1
      (sendReply (replyOf 0x0004 c x ok s.device) (keptReply x (replyOf 0x0004 c x ok s.device) (begun c x s)))) := by
  have row : exec (.sessionClose c p) s = .next (runCommand cmdSessionClose 0x0004 c p s) := rfl
  rw [row, runCommand_renewed h, runOne_sessionClose h (cmdSessionClose_own h len named) rfl, begun_device]
  dsimp only
  rw [if_pos named, runHeld_of_noneNext (noneNext_of_closed (State.session_closeSession _ _ _))]

/-- SESSION_CLOSE of another session by the owner completes like other commands. -/
theorem completes_sessionClose_other (len : p.length = 4) (nonzero : be p 0 4 ≠ 0) (other : be p 0 4 ≠ x.id) (byOwner : x.tenant = owner)
    (opened : (s.session (be p 0 4)).isSome = true) :
    completes (.sessionClose c p) 0x0004 c x s ok (fun t => t = closeSession (be p 0 4) 1 (begun c x s)) := by
  have named : closeNamed (envOf c x) p = be p 0 4 := if_neg nonzero
  have sender : (envOf c x).session = x.id := rfl
  have isOwner : (envOf c x).owner = true := by simp [Env.owner, envOf, byOwner]
  have acts : cmdSessionClose (envOf c x) p (begun c x s) = (ok, closeSession (be p 0 4) 1 (begun c x s)) := by
    have still : ((begun c x s).session (be p 0 4)).isNone = false := by
      rw [begun_session]
      simpa using opened
    rw [cmdSessionClose, named, sender, still, isOwner]
    simp [len, other]
  have row : exec (.sessionClose c p) s = .next (runCommand cmdSessionClose 0x0004 c p s) := rfl
  refine ⟨_, ?_, rfl⟩
  have busy := bridge_busy_closeSession (be p 0 4) 1 (begun c x s)
  rw [row, runCommand_renewed h, runOne_sessionClose h acts busy]
  dsimp only
  rw [if_neg (named ▸ other)]
  unfold settle
  dsimp only
  rw [if_neg]
  · rfl
  · rintro ⟨before, after⟩
    rw [← busy] at before
    simp [before] at after
end

theorem byteAt_lt (p : Bytes) (o : Nat) : byteAt p o < 256 := BitVec.isLt _

theorem be_lt (p : Bytes) (o n : Nat) : be p o n < 256 ^ n := by
  induction n with
  | zero => exact Nat.one_pos
  | succ n ih =>
    have := byteAt_lt p (o + n)
    rw [be, pow_succ]
    omega

/-- What does not depend on when a session was last heard and what it executed is true of it where its command began. -/
theorem begun_session_any (c : Cmd) (x : Session) (s : State) {j : Nat} {q : Session → Bool}
    (hq : ∀ y z : Session, q { y with lastAuth := z.lastAuth, e := z.e } = q y) : ((begun c x s).session j).any q = (s.session j).any q := by
  rw [begun_session]
  cases s.session j with
  | none => rfl
  | some y =>
    simp only [Option.map_some, Option.any_some]
    split
    · exact hq y { y with lastAuth := max s.now c.t, e := x.e + 1 }
    · rfl

/-- Settles O5: each command by its own action on the state `begun` leaves. -/
theorem sessionCommandsComplete : Obligations.SessionCommandsComplete := by
  unfold Obligations.SessionCommandsComplete
  intro c x s p h
  refine ⟨fun len own => ?_, fun len nonzero other byOwner opened => ?_, fun none_ => ?_, fun short => ?_, fun len => ?_, fun byOwner len sink => ?_⟩
  · have named : closeNamed (envOf c x) p = x.id := by
      unfold closeNamed
      split
      · rfl
      · exact own.resolve_left ‹_›
    refine ⟨_, exec_sessionClose_own h len named, State.session_closeSession _ _ _, fun notMailbox => ?_⟩
    exact (out_closeSession _ _ _).subset (reply_mem_out notMailbox _)
  · obtain ⟨t, done, rfl⟩ := completes_sessionClose_other h len nonzero other byOwner opened
    exact ⟨_, done, State.session_closeSession _ _ _⟩
  · subst none_
    refine completes_of (f := cmdDeviceInfo) rfl h (by decide) (by decide) ?_ rfl
    simp [cmdDeviceInfo, begun_reg c x s (show Addr.DEVICE_ID ≠ Addr.CMD_EXECUTED by decide), begun_reg c x s
        (show Addr.CAPS ≠ Addr.CMD_EXECUTED by decide),
      begun_reg c x s (show Addr.SERIAL ≠ Addr.CMD_EXECUTED by decide), begun_reg c x s (show Addr.FW_VERSION ≠ Addr.CMD_EXECUTED by decide)]
  · have acts : cmdEcho (envOf c x) p (begun c x s) = (⟨St.OK, p⟩, begun c x s) := if_neg (by omega)
    refine completes_of (f := cmdEcho) rfl h (by decide) (by decide) ?_ ?_
    · rw [acts]
    · rw [acts]
  · have acts : cmdEventSubscribe (envOf c x) p (begun c x s) =
        (ok, (begun c x s).updSession x.id (fun y => { y with mask := BitVec.ofNat 256 (natLE p) })) := if_neg (by omega)
    refine completes_of (f := cmdEventSubscribe) rfl h (by decide) (by decide) ?_ ?_
    · rw [acts]
    · rw [acts]
      dsimp only
      refine ⟨?_, fun j other => ?_⟩
      · rw [State.session_updSession, begun_session_of_ready h]
        · simp
        · exact fun _ => rfl
      · exact State.session_updSession_other other _ (fun _ => rfl)
  · have acts : cmdEventSink (envOf c x) p (begun c x s) = (ok, (begun c x s).setReg Addr.EVENT_SINK (be p 0 4)) := by
      have named : ¬(p.length ≠ 4 ∨ be p 0 4 ≠ 0 ∧
          (!((begun c x s).session (be p 0 4)).any (fun y => y.tenant == owner && y.transport == .mgmt)) = true) := by
        rintro (bad | ⟨nonzero, bad⟩)
        · exact bad len
        · rw [begun_session_any c x s (fun _ _ => rfl), show (s.session (be p 0 4)).any _ = true from sink.resolve_left nonzero] at bad
          exact Bool.false_ne_true bad
      rw [cmdEventSink, if_neg (by simp [Env.owner, envOf, byOwner]), if_neg named]
    refine completes_of (f := cmdEventSink) rfl h (by decide) (by decide) ?_ ?_
    · rw [acts]
    · rw [acts]
      refine ⟨?_, fun a ha => State.reg_setReg_other (by simpa using ha) _ _, fun a => ?_, ?_⟩
      · rw [State.reg_setReg_same, Nat.mod_eq_of_lt]
        exact (be_lt p 0 4).trans (by norm_num)
      · simp
      · simp

end Sys2Proof.Machine

/-!
PROOFS. Statements whose frames leave out a port that events may go by: a GROUP_ROUTE entry (R310) has three bits for a global pair, so that
it can name pairs 12 and 13, whose ports 24 to 27 `sendRegs` and `eventRegs` do not list.
-/
namespace Sys2Proof.Machine

/-! A global pair beyond the ports -/

/-- An event of no body, waiting in a session's queue. -/
def waitingEvent : Event := { opcode := 0xFFA2, tenant := 0, sec := 0, ns := 0, zc := 0, region := 0, device := 0 }

/-- A session of tenant 5 on the fabric, of a peer in group 1, that receives no further event. -/
def farSession : Session := { id := 3, tenant := 5, transport := .fabric, peer := 64, key := [], lastAuth := 0, queue := [(1, waitingEvent)] }

/-- `s` as member 0 of group 0 whose route to group 1 names, in the three bits of its entry, the global pair 12: its ports are 24 and 25, of
which 24 is up and has credit. -/
def strayed (s : State) : State :=
  { (([(Addr.DEVICE_NUMBER, 2 ^ 13), (Addr.GLOBAL_CTRL, 1), (Addr.GROUP_ROUTE 1, 2 ^ 17 + 6 * 2 ^ 14), (Addr.FP_STATUS 24, 256)] : List (Nat × Nat)).foldl
      (fun (s : State) r => s.setReg r.1 r.2) s) with
    sessions := [farSession], fabric.credit := [(creditKey 24 0 0, 100)] }

/-- FLITS_TX of port 24 is none of the registers that delivering events may change. -/
theorem flits24_not_mem : Addr.FLITS_TX 24 ∉ eventRegs := by decide +kernel

/-- The state a step answers. -/
def nextOf : Host.Outcome State Fault Refusal → State
  | .next s => s
  | _ => State.reset

theorem eq_nextOf {o : Host.Outcome State Fault Refusal} {u : State} (h : o = .next u) : u = nextOf o := by rw [h]; rfl


/-- FLITS_TX of port 24 counts after a step. -/
def movesFlits24 (i : Instr) (s : State) : Bool := (nextOf (exec i s)).reg (Addr.FLITS_TX 24) != s.reg (Addr.FLITS_TX 24)

/-- A step that counts flits at port 24 does not leave that register. -/
theorem absurd_of_movesFlits24 {i : Instr} {s u : State} (moves : movesFlits24 i s = true) (step : exec i s = .next u)
    (frame : u.reg (Addr.FLITS_TX 24) = s.reg (Addr.FLITS_TX 24)) : False := by
  rw [movesFlits24, ← eq_nextOf step, frame] at moves
  simp at moves

/-! The refutations -/

/-- A model that is loading, with a replica. -/
def loading : State := strayed { State.reset with models := [(0, { a := { state := 1, replicas := [[0]] } })] }

/-- Refutes O34: the event that a model is ready lets the events of a session of the fabric leave, and those may leave by port 24, which
`eventRegs` leaves out. -/
theorem not_modelsAreInstalledAndSwapped : ¬ Obligations.ModelsAreInstalledAndSwapped := by
  unfold Obligations.ModelsAreInstalledAndSwapped
  intro h
  obtain ⟨u, step, _, _, frame, _⟩ := (h 0 0 0 loading).1 0 (by decide +kernel) (by decide +kernel)
  exact absurd_of_movesFlits24 (by decide +kernel) step (frame _ (by decide +kernel))

/-- An accepted rule flip on its beat. -/
def flipping : State := strayed { State.reset with mt.flipAt := some 0 }

/-- Refutes O29: the flip's event lets the events of a session of the fabric leave by port 24, which `eventRegs` leaves out. -/
theorem not_flipsSwapTheBanks : ¬ Obligations.FlipsSwapTheBanks := by
  unfold Obligations.FlipsSwapTheBanks
  intro h
  obtain ⟨u, step, _, _, _, _, _, _, _, _, frame⟩ := (h 0 flipping).1 0 (by decide +kernel) (by decide +kernel) (by decide +kernel)
  exact absurd_of_movesFlits24 (by decide +kernel) step (frame (by decide +kernel) (by decide +kernel) _ (by decide +kernel))

/-- A device on which firmware runs. -/
def running : State := State.reset.setField Addr.FW_STATE 0 3 1

/-- A job of tenant 0 in state `state`. -/
def jobIn (state : Nat) : Job :=
  { id := 1, tenant := 0, session := 0, tag := 0, cells := [], image := ⟨[], [], [], [], [], [], [], [], []⟩, state, startBeat := 0, ckptBase := 0, ckptLen := 0, ckptEvery := 0 }

/-- A job that is being checkpointed. -/
def checkpointing : State := strayed { running with jobs := [jobIn 2] }

/-- Refutes O39: the checkpoint's event lets the events of a session of the fabric leave by port 24, which `eventRegs` leaves out. -/
theorem not_jobsMeetBarriersAndRestart : ¬ Obligations.JobsMeetBarriersAndRestart := by
  unfold Obligations.JobsMeetBarriersAndRestart
  intro h
  obtain ⟨u, j, step, _, _, _, _, _, frame⟩ := (h 0 1 checkpointing).2.2.2.1 0 (jobIn 2) (by decide +kernel) rfl (by decide +kernel) (by decide) []
  refine absurd_of_movesFlits24 (by decide +kernel) step (frame _ (by decide +kernel) fun k => ?_)
  simp only [Addr.FLITS_TX, Addr.RD_BYTES, Addr.WR_BYTES, Addr.CELL_C256_CORR]
  omega

/-- A joined device that waits for the group's Zephyr count. -/
def awaitingZc : State := strayed { running with group.joinAt := some (0, 0, 0) }

/-- Refutes O43: the event of the count's step lets the events of a session of the fabric leave by port 24, which `eventRegs` leaves out. -/
theorem not_groupActsAsOne : ¬ Obligations.GroupActsAsOne := by
  unfold Obligations.GroupActsAsOne
  intro h
  obtain ⟨u, step, _, _, _, frame⟩ := (h 0 awaitingZc).2.1 0 0 0 0 rfl (by decide +kernel) (by decide)
  exact absurd_of_movesFlits24 (by decide +kernel) step (frame _ (by decide +kernel))

/-- A cell whose records are still to be reported. -/
def reclaimed : State := strayed { running with cells := [(0, { reclaim := some [] })] }

/-- Refutes O48: the event of the records lets the events of a session of the fabric leave by port 24, which `eventRegs` leaves out. -/
theorem not_fencesTestsAndScrubs : ¬ Obligations.FencesTestsAndScrubs := by
  unfold Obligations.FencesTestsAndScrubs
  intro h
  obtain ⟨u, step, _, _, frame⟩ := (h 0 reclaimed 0 (by decide)).2.2.1 [] (by decide +kernel) (by decide +kernel)
  exact absurd_of_movesFlits24 (by decide +kernel) step (frame _ (by decide +kernel))

/-- A device whose estimate has been far off for nine updates. -/
def drifting : State := strayed { running with power := { running.power with hist := [1], drift := 9 } }

/-- Refutes O50: the event of the drift lets the events of a session of the fabric leave by port 24, which `eventRegs` leaves out. -/
theorem not_powerFollowsItsSamples : ¬ Obligations.PowerFollowsItsSamples := by
  unfold Obligations.PowerFollowsItsSamples
  intro h
  obtain ⟨u, step, _, _, _, frame⟩ := (h.1 0 drifting).2.1 (by decide +kernel) (by decide +kernel)
  exact absurd_of_movesFlits24 (by decide +kernel) step (frame _ (by decide +kernel))

/-- A running job that has not moved. -/
def hanging : State := strayed { running with jobs := [jobIn 0] }

/-- Refutes O52: the event of the suspect lets the events of a session of the fabric leave by port 24, which `eventRegs` leaves out. -/
theorem not_observationEventsRecord : ¬ Obligations.ObservationEventsRecord := by
  unfold Obligations.ObservationEventsRecord
  intro h
  obtain ⟨u, step, _, _, _, frame⟩ := (h (secs 3600) hanging).2.2.2.2 0 1 (jobIn 0) (by decide +kernel) (by decide +kernel) rfl (by decide +kernel)
    (by decide +kernel) (by decide +kernel)
  exact absurd_of_movesFlits24 (by decide +kernel) step (frame _ (by decide +kernel))

/-- A device that has to report that it was tampered with. -/
def tampered : State := strayed { running with module.tamperReport := true }

/-- Refutes O54: the event of the tampering lets the events of a session of the fabric leave by port 24, which `eventRegs` leaves out. -/
theorem not_securityEventsTakeEffect : ¬ Obligations.SecurityEventsTakeEffect := by
  unfold Obligations.SecurityEventsTakeEffect
  intro h
  obtain ⟨u, step, _, _, frame, _⟩ := (h.2 0 tampered).2.2.2.2.2.2 (by decide +kernel) (by decide +kernel)
  exact absurd_of_movesFlits24 (by decide +kernel) step (frame _ (by decide +kernel))

end Sys2Proof.Machine

/-!
PROOFS. The CSR and counter commands access their words one by one (R358, R359, R426).
-/
namespace Sys2Proof.Machine

/-! The words of a CSR command (R359) -/

theorem length_readWords {f : Nat → State → Nat × Nat × State} :
    ∀ {n a : Nat} {s t : State} {ws : List Nat}, readWords f a n s = (St.OK, ws, t) → ws.length = n
  | 0, _, _, _, _, read => by
    injection read with _ rest
    injection rest with words _
    rw [← words]
    rfl
  | n + 1, a, s, t, ws, read => by
    simp only [readWords] at read
    split at read
    · injection read with refused _
      contradiction
    · injection read with status rest
      injection rest with words _
      rw [← words, List.length_cons, length_readWords (f := f) (n := n) (Prod.ext status rfl)]

theorem readShadow_state (e : Env) (a : Nat) (s : State) : (readShadow e a s).2.2 = s := by
  unfold readShadow
  repeat' split
  all_goals rfl

theorem readWords_state {f : Nat → State → Nat × Nat × State} (stays : ∀ a s, (f a s).2.2 = s) :
    ∀ (n a : Nat) (s : State), (readWords f a n s).2.2 = s
  | 0, _, _ => rfl
  | n + 1, a, s => by
    simp only [readWords]
    split
    · rfl
    · exact (readWords_state stays n (a + 4) _).trans (stays a s)

theorem written_of_ok {e : Env} : ∀ {vs : List Nat} {a k : Nat} {s t : State}, writeWords e a vs s = (St.OK, k, t) → k = vs.length
  | [], _, _, _, _, written => by
    injection written with _ rest
    injection rest with count _
    exact count.symm
  | v :: vs, a, k, s, t, written => by
    simp only [writeWords] at written
    split at written
    · injection written with refused _
      contradiction
    · injection written with status rest
      injection rest with count _
      rw [← count, List.length_cons, written_of_ok (vs := vs) (Prod.ext status rfl)]

theorem zerosAt_two {p : Bytes} {o : Nat} (zero : zerosAt p o 2 = true) : byteAt p o = 0 ∧ byteAt p (o + 1) = 0 := by
  simpa [zerosAt, List.range_succ] using zero

/-- A word that is written is no word of a block that is absent, and its register takes the write. -/
theorem present_of_written {e : Env} {a v : Nat} {s t : State} {l : Loc} (at_ : locate a = some l) (written : writeWord e a v s = (St.OK, t)) :
    l.absent s = false := by
  unfold writeWord at written
  split at written
  · injection written with refused _
    contradiction
  · split at written
    · injection written with refused _
      contradiction
    · rw [at_] at written
      dsimp only at written
      split at written
      · injection written with refused _
        contradiction
      · exact Bool.eq_false_iff.mpr ‹_›

section
variable {c : Cmd} {x : Session} {s : State} {p : Bytes} (h : ready c x s = true)
include h

theorem completes_csrRead (len : p.length = 8) (good : csrOk p = true) (zero : zerosAt p 6 2 = true) {ws : List Nat} {t : State}
    (read : readWords (readWord (envOf c x)) (be p 0 4) (be p 4 2) (begun c x s) = (St.OK, ws, t)) :
    completes (.csrRead c p) 0x0100 c x s ⟨St.OK, toBE 2 (be p 4 2) ++ zeros 2 ++ ws.flatMap (toBE 4)⟩ (fun u => u = t) := by
  have acts : cmdCsrRead (envOf c x) p (begun c x s) = (⟨St.OK, toBE 2 (be p 4 2) ++ zeros 2 ++ ws.flatMap (toBE 4)⟩, t) := by
    simp only [cmdCsrRead]
    rw [if_neg (by simp [len, good, zero]), read, length_readWords read]
  exact completes_of (f := cmdCsrRead) rfl h (by decide) (by decide) (by rw [acts]) (by rw [acts])

theorem completes_counterRead_shadow (len : p.length = 8) (good : csrOk p = true) (shadow : byteAt p 6 = 1) (zero : byteAt p 7 = 0)
    {ws : List Nat} {t : State} (read : readWords (readShadow (envOf c x)) (be p 0 4) (be p 4 2) (begun c x s) = (St.OK, ws, t)) :
    completes (.counterRead c p) 0x0902 c x s
      ⟨St.OK, toBE 2 (be p 4 2) ++ zeros 2 ++ toBE 4 (s.reg Addr.FREEZE_ID) ++ ws.flatMap (toBE 4)⟩
      (fun u => u = begun c x s ∧ t = begun c x s) := by
  have stays : t = begun c x s := by
    have same := readWords_state (readShadow_state (envOf c x)) (be p 4 2) (be p 0 4) (begun c x s)
    rwa [read] at same
  have acts : cmdCounterRead (envOf c x) p (begun c x s) =
      (⟨St.OK, toBE 2 (be p 4 2) ++ zeros 2 ++ toBE 4 (s.reg Addr.FREEZE_ID) ++ ws.flatMap (toBE 4)⟩, t) := by
    simp only [cmdCounterRead]
    rw [if_neg (by simp [len, good, shadow, zero]), shadow]
    simp only [beq_self_eq_true, ↓reduceIte]
    rw [read, length_readWords read, begun_reg c x s (by decide)]
  exact completes_of (f := cmdCounterRead) rfl h (by decide) (by decide) (by rw [acts]) ⟨by rw [acts, stays], stays⟩

theorem completes_counterRead (len : p.length = 8) (good : csrOk p = true) (zero : zerosAt p 6 2 = true) {ws : List Nat} {t : State}
    (read : readWords (readWord (envOf c x)) (be p 0 4) (be p 4 2) (begun c x s) = (St.OK, ws, t)) :
    completes (.counterRead c p) 0x0902 c x s ⟨St.OK, toBE 2 (be p 4 2) ++ zeros 2 ++ ws.flatMap (toBE 4)⟩ (fun u => u = t) := by
  obtain ⟨plain, zero⟩ := zerosAt_two zero
  have acts : cmdCounterRead (envOf c x) p (begun c x s) = (⟨St.OK, toBE 2 (be p 4 2) ++ zeros 2 ++ ws.flatMap (toBE 4)⟩, t) := by
    simp only [cmdCounterRead]
    rw [if_neg (by simp [len, good, plain, zero]), plain]
    simp only [show ((0 : Nat) == 1) = false from rfl, Bool.false_eq_true, ↓reduceIte, List.append_nil]
    rw [read, length_readWords read]
  exact completes_of (f := cmdCounterRead) rfl h (by decide) (by decide) (by rw [acts]) (by rw [acts])

theorem completes_csrWrite (good : csrOk p = true) (len : p.length = 8 + 4 * be p 4 2) (zero : zerosAt p 6 2 = true) {st k : Nat} {t : State}
    (written : writeWords (envOf c x) (be p 0 4) ((List.range (be p 4 2)).map (fun i => be p (8 + 4 * i) 4)) (begun c x s) = (st, k, t)) :
    completes (.csrWrite c p) 0x0101 c x s ⟨st, toBE 2 k ++ zeros 2⟩ (fun u => u = t) := by
  have acts : cmdCsrWrite (envOf c x) p (begun c x s) = (⟨st, toBE 2 k ++ zeros 2⟩, t) := by
    simp only [cmdCsrWrite]
    rw [if_neg (by simp [len, good, zero]), written]
  exact completes_of (f := cmdCsrWrite) rfl h (by decide) (by decide) (by rw [acts]) (by rw [acts])

variable (len : p.length = 12) (aligned : be p 0 4 % 4 = 0) (placed : (blockIn (be p 0 4) blocks).isSome = true)
  (may : (begun c x s).mayWriteWord (envOf c x) (be p 0 4) = true) {l : Loc} (at_ : locate (be p 0 4) = some l)
include len aligned placed may at_

theorem completes_csrModify_rw (plain : be p 0 4 ≠ Addr.BEAT_STATUS) (access : l.row.acc = .rw) {t : State}
    (written : writeWord (envOf c x) (be p 0 4)
      (((begun c x s).modWord l &&& (0xFFFFFFFF - be p 4 4)) ||| (be p 8 4 &&& be p 4 4)) (begun c x s) = (St.OK, t)) :
    completes (.csrModify c p) 0x0102 c x s ⟨St.OK, toBE 4 (t.modWord l)⟩ (fun u => u = t) := by
  have acts : cmdCsrModify (envOf c x) p (begun c x s) = (⟨St.OK, toBE 4 (t.modWord l)⟩, t) := by
    simp only [cmdCsrModify]
    rw [if_neg (by simp [len, aligned, Option.isSome_iff_ne_none.mp placed]), if_neg (by simp [may]), at_]
    dsimp only
    rw [if_neg (by simp [present_of_written at_ written]), access]
    dsimp only
    rw [if_neg plain, written, if_pos rfl]
  exact completes_of (f := cmdCsrModify) rfl h (by decide) (by decide) (by rw [acts]) (by rw [acts])

theorem completes_csrModify_ro (present : l.absent (begun c x s) = false) (access : l.row.acc = .ro) :
    completes (.csrModify c p) 0x0102 c x s ⟨St.OK, toBE 4 ((begun c x s).modWord l)⟩ (fun u => u = begun c x s) := by
  have acts : cmdCsrModify (envOf c x) p (begun c x s) = (⟨St.OK, toBE 4 ((begun c x s).modWord l)⟩, begun c x s) := by
    simp only [cmdCsrModify]
    rw [if_neg (by simp [len, aligned, Option.isSome_iff_ne_none.mp placed]), if_neg (by simp [may]), at_]
    dsimp only
    rw [if_neg (by simp [present]), access]
  exact completes_of (f := cmdCsrModify) rfl h (by decide) (by decide) (by rw [acts]) (by rw [acts])
end

/-- Settles O10: each command's words are accessed by `readWords` and `writeWords`, whose counts are all the words where their status is OK. -/
theorem csrCommandsAccessWordByWord : Obligations.CsrCommandsAccessWordByWord := by
  unfold Obligations.CsrCommandsAccessWordByWord
  intro c x s p h
  refine ⟨?_, ?_, ?_, ?_, ?_, ?_⟩
  · intro len good zero ws t read
    exact ⟨length_readWords read, completes_csrRead h len good zero read⟩
  · intro len good shadow zero ws t read
    exact ⟨length_readWords read, completes_counterRead_shadow h len good shadow zero read⟩
  · intro len good zero ws t read
    exact completes_counterRead h len good zero read
  · intro good len zero st k t written
    refine ⟨fun all => ?_, completes_csrWrite h good len zero written⟩
    subst all
    simpa using written_of_ok written
  · intro len aligned placed may plain l at_ access t written
    exact completes_csrModify_rw h len aligned placed may at_ plain access written
  · intro len aligned placed may l at_ present access
    exact completes_csrModify_ro h len aligned placed may at_ present access
end Sys2Proof.Machine

/-!
PROOFS. CSR writes of one word, and the registers that have only their range to check (R359).
-/
namespace Sys2Proof.Machine

/-! The words of a CSR command in its bytes -/

theorem byteAt_append_right (pre q : Bytes) (o : Nat) : byteAt (pre ++ q) (pre.length + o) = byteAt q o := by
  simp only [byteAt, List.getD_eq_getElem?_getD, List.getElem?_append_right (Nat.le_add_right _ _), Nat.add_sub_cancel_left]

theorem be_append_right (pre q : Bytes) (o : Nat) : ∀ n, be (pre ++ q) (pre.length + o) n = be q o n
  | 0 => rfl
  | n + 1 => by rw [be, be, be_append_right pre q o n, Nat.add_assoc, byteAt_append_right]

theorem byteAt_append_left {p q : Bytes} {o : Nat} (inside : o < p.length) : byteAt (p ++ q) o = byteAt p o := by
  rw [byteAt, byteAt, List.getD_append _ _ _ _ inside]

theorem be_append_left {p q : Bytes} : ∀ {n : Nat}, n ≤ p.length → be (p ++ q) 0 n = be p 0 n
  | 0, _ => rfl
  | n + 1, h => by rw [be, be, be_append_left (Nat.le_of_succ_le h), byteAt_append_left (by omega)]

theorem be_toBE : ∀ n v, be (toBE n v) 0 n = v % 256 ^ n
  | 0, v => by simp [be, Nat.mod_one]
  | n + 1, v => by
    have last : byteAt (toBE n (v / 256) ++ [BitVec.ofNat 8 v]) (0 + n) = v % 256 := by
      have := byteAt_append_right (toBE n (v / 256)) [BitVec.ofNat 8 v] 0
      rw [length_toBE, Nat.add_zero] at this
      rw [Nat.zero_add, this]
      simp [byteAt]
    rw [toBE, be, be_append_left (by rw [length_toBE]), be_toBE, last, Nat.pow_succ, Nat.mul_comm (256 ^ n) 256, Nat.mod_mul]
    ring

/-- The bytes of a CSR command of `n` words from `a` (R358), with what follows them. -/
def csrBytes (a n : Nat) (rest : Bytes) : Bytes := toBE 4 a ++ toBE 2 n ++ zeros 2 ++ rest

theorem csrBytes_address {a : Nat} (n : Nat) (rest : Bytes) (ha : a < 2 ^ 32) : be (csrBytes a n rest) 0 4 = a := by
  rw [csrBytes, List.append_assoc, List.append_assoc, be_append_left (by rw [length_toBE]), be_toBE, Nat.mod_eq_of_lt (by omega)]

theorem csrBytes_count (a : Nat) {n : Nat} (rest : Bytes) (hn : n < 65536) : be (csrBytes a n rest) 4 2 = n := by
  have := be_append_right (toBE 4 a) (toBE 2 n ++ (zeros 2 ++ rest)) 0 2
  rw [length_toBE, be_append_left (by rw [length_toBE]), be_toBE, Nat.mod_eq_of_lt (by omega)] at this
  rwa [csrBytes, List.append_assoc, List.append_assoc]

theorem csrBytes_zeros (a n : Nat) (rest : Bytes) : zerosAt (csrBytes a n rest) 6 2 = true := by
  have zero (i : Nat) (hi : i < 2) : byteAt (csrBytes a n rest) (6 + i) = 0 := by
    have := byteAt_append_right (toBE 4 a ++ toBE 2 n) (zeros 2 ++ rest) i
    rw [List.length_append, length_toBE, length_toBE, byteAt_append_left (p := zeros 2) (by simpa [zeros] using hi)] at this
    rw [csrBytes, List.append_assoc, show 6 + i = 4 + 2 + i from rfl, this]
    have zero : ∀ i < 2, byteAt (zeros 2) i = 0 := by decide
    exact zero i hi
  simp [zerosAt, List.range_succ, zero 0, zero 1]

theorem csrBytes_word (a n : Nat) {v : Nat} (hv : v < 2 ^ 32): be (csrBytes a n (toBE 4 v)) 8 4 = v := by
  have := be_append_right (toBE 4 a ++ toBE 2 n ++ zeros 2) (toBE 4 v) 0 4
  rw [be_toBE, Nat.mod_eq_of_lt (by omega)] at this
  simpa [csrBytes, length_toBE, zeros] using this

theorem csrBytes_length (a n : Nat) (rest : Bytes) : (csrBytes a n rest).length = 8 + rest.length := by
  simp [csrBytes, length_toBE, zeros]
  omega

theorem csrOk_csrBytes {a n : Nat} (rest : Bytes) (ha : a < 2 ^ 32) (aligned : a % 4 = 0) (some_ : 1 ≤ n) (most : n ≤ 1024) :
    csrOk (csrBytes a n rest) = true := by
  rw [csrOk, csrBytes_address n rest ha, csrBytes_count a rest (by omega)]
  simp [aligned, some_, most]

/-! One word written -/

/-- A CSR_WRITE of one word. -/
theorem cmdCsrWrite_one {e : Env} {a v : Nat} {s : State} (ha : a < 2 ^ 32) (aligned : a % 4 = 0) (hv : v < 2 ^ 32) :
    cmdCsrWrite e (csrBytes a 1 (toBE 4 v)) s =
      (⟨(writeWords e a [v] s).1, toBE 2 (writeWords e a [v] s).2.1 ++ zeros 2⟩, (writeWords e a [v] s).2.2) := by
  have count := csrBytes_count a (n := 1) (toBE 4 v) (by decide)
  have formed : ¬((!csrOk (csrBytes a 1 (toBE 4 v))) = true ∨ (csrBytes a 1 (toBE 4 v)).length ≠ 8 + 4 * 1 ∨
      (!zerosAt (csrBytes a 1 (toBE 4 v)) 6 2) = true) := by
    simp [csrOk_csrBytes (toBE 4 v) ha aligned (Nat.le_refl 1), csrBytes_length, csrBytes_zeros, length_toBE]
  simp only [cmdCsrWrite, count]
  rw [if_neg formed, csrBytes_address 1 _ ha]
  simp only [List.range_one, List.map_cons, List.map_nil, Nat.mul_zero, Nat.add_zero]
  rw [csrBytes_word a 1 hv]

theorem writeWords_one {e : Env} {a v : Nat} {s t : State} (written : writeWord e a v s = (St.OK, t)) :
    writeWords e a [v] s = (St.OK, 1, t) := by
  simp [writeWords, written]

theorem writeWords_refused {e : Env} {a v st : Nat} {s t : State} (refused : writeWord e a v s = (st, t)) (status : st ≠ St.OK) :
    writeWords e a [v] s = (st, 0, s) := by
  simp [writeWords, refused, status]

theorem completes_written {i : Instr} {c : Cmd} {x : Session} {s t : State} {a v : Nat} {P : State → Prop}
    (row : exec i s = .next (runCommand cmdCsrWrite 0x0101 c (csrBytes a 1 (toBE 4 v)) s)) (h : ready c x s = true)
    (ha : a < 2 ^ 32) (aligned : a % 4 = 0) (hv : v < 2 ^ 32) (written : writeWord (envOf c x) a v (begun c x s) = (St.OK, t)) (holds : P t) :
    completes i 0x0101 c x s ⟨St.OK, toBE 2 1 ++ zeros 2⟩ P := by
  have acts := cmdCsrWrite_one (e := envOf c x) (s := begun c x s) ha aligned hv
  rw [writeWords_one written] at acts
  exact completes_of row h (by decide) (by decide) (by rw [acts]) (by rwa [acts])

theorem completes_refused {i : Instr} {c : Cmd} {x : Session} {s t : State} {a v st : Nat}
    (row : exec i s = .next (runCommand cmdCsrWrite 0x0101 c (csrBytes a 1 (toBE 4 v)) s)) (h : ready c x s = true)
    (ha : a < 2 ^ 32) (aligned : a % 4 = 0) (hv : v < 2 ^ 32) (refused : writeWord (envOf c x) a v (begun c x s) = (st, t)) (status : st ≠ St.OK) :
    completes i 0x0101 c x s ⟨st, toBE 2 0 ++ zeros 2⟩ (fun t => t = begun c x s) := by
  have acts := cmdCsrWrite_one (e := envOf c x) (s := begun c x s) ha aligned hv
  rw [writeWords_refused refused status] at acts
  exact completes_of row h (by decide) (by decide) (by rw [acts]) (by rw [acts])

/-! Registers that have only their range to check -/

theorem blockIn_of_locateIn {a : Nat} {l : Loc} : ∀ {bs : List Block}, locateIn a bs = some l → (blockIn a bs).isSome = true
  | b :: bs, found => by
    rw [blockIn]
    rw [locateIn] at found
    split
    · rfl
    · rename_i outside
      rw [if_neg outside] at found
      exact blockIn_of_locateIn found

/-- The blocks whose registers have only their range to check, and the identity block. -/
def plainBlock (b : BlockId) : Prop := b = .power ∨ b = .observe ∨ b = .group ∨ b = .hbm ∨ b = .cluster ∨ b = .identity

theorem writeWord_plain {e : Env} {a v : Nat} {l : Loc} {s : State} (may : s.mayWriteWord e a = true) (at_ : locate a = some l)
    (access : l.row.acc = .rw) (plain : l.block = .power ∨ l.block = .observe ∨ l.block = .group ∨ l.block = .hbm ∨ l.block = .cluster ∨
      (l.block = .identity ∧ a ≠ Addr.GLOBAL_CTRL)) : writeWord e a v s = writePlain l v s := by
  obtain ⟨b, placed⟩ := Option.isSome_iff_exists.mp (blockIn_of_locateIn at_)
  unfold writeWord
  rw [placed]
  dsimp only
  rw [if_neg (by simp [may]), at_]
  dsimp only
  rcases plain with block | block | block | block | block | ⟨block, other⟩
  case inr.inr.inr.inr.inr => rw [if_neg (by simp [Loc.absent, block]), access]; simp [writeLoc, block, other]
  all_goals rw [if_neg (by simp [Loc.absent, block]), access]; simp [writeLoc, block]

theorem writePlain_inRange {l : Loc} {v : Nat} {s : State} (inside : l.row.accepts (l.merged v s) = true) :
    writePlain l v s = (St.OK, s.setReg l.key (l.merged v s)) := if_pos inside

theorem writePlain_outside {l : Loc} {v : Nat} {s : State} (outside : l.row.accepts (l.merged v s) = false) :
    writePlain l v s = (St.BAD_PARAM, s) := if_neg (by simp [outside])

/-- Settles O11: the write is `writePlain`, which stores a value in range and refuses any other. -/
theorem plainRegistersTakeTheirRange : Obligations.PlainRegistersTakeTheirRange := by
  unfold Obligations.PlainRegistersTakeTheirRange
  intro c x s addr v l h may aligned bound at_ access plain
  refine ⟨fun inside => ?_, fun outside => ?_⟩
  · refine completes_written rfl h bound aligned v.isLt ((writeWord_plain may at_ access plain).trans (writePlain_inRange inside)) ⟨?_, ?_, ?_⟩
    · exact State.reg_setReg_same _ _ _
    · intro a other
      exact State.reg_setReg_other (by simpa using other) _ _
    · simp [sameMemory]
  · exact completes_refused rfl h bound aligned v.isLt ((writeWord_plain may at_ access plain).trans (writePlain_outside outside)) (by decide)
end Sys2Proof.Machine

/-!
PROOFS. What the replies that leave tell of the commands that ran: a command whose reply is the only one leaves a state known but for its sessions.
-/
namespace Sys2Proof.Machine

/-! What replies tell of the commands that ran -/

/-- Whether an output is a reply. -/
def Output.isReply : Output → Bool
  | .reply _ => true
  | _ => false

/-- A reply is among what has left the device. -/
def Replied (s : State) : Prop := ∃ q, Output.reply q ∈ s.out

theorem Replied.mono {s t : State} (h : Replied s) (kept : s.out <+: t.out) : Replied t := h.imp fun _ hq => kept.subset hq

/-- A step leaves what left the device, and whether the next reply of the mailbox is discarded (R332). -/
structure Keeps (s t : State) : Prop where
  mute : t.bridge.mute = s.bridge.mute
  out : s.out <+: t.out

theorem Keeps.refl (s : State) : Keeps s s := ⟨rfl, List.prefix_rfl⟩

theorem Keeps.trans {s t u : State} (h : Keeps s t) (h' : Keeps t u) : Keeps s u := ⟨h'.mute.trans h.mute, h.out.trans h'.out⟩

theorem Noted.keeps {s t : State} (h : Noted s t) : Keeps s t := ⟨by rw [h.only], h.out⟩

theorem Told.keeps {s t : State} (h : Told s t) : Keeps s t := h.noted.keeps

theorem Keeps.foldl {α : Type} {f : State → α → State} (hf : ∀ s x, Keeps s (f s x)) : ∀ (l : List α) (s : State), Keeps s (l.foldl f s)
  | [], s => .refl s
  | x :: l, s => (hf s x).trans (Keeps.foldl hf l (f s x))

theorem keeps_signal (v : Nat) (s : State) : Keeps s (signal v s) := (told_signal v s).keeps

/-- A reply that leaves stands after what left before; only a reply of the mailbox that is discarded leaves none. -/
theorem sendReply_out {p : SentPacket} {s : State} (mute : (sendReply p s).bridge.mute = true) :
    s.out ++ [.reply p] <+: (sendReply p s).out ∧ s.bridge.mute = true := by
  have emitted (t : State) (same : t.out = s.out) : (t.emit (.reply p)).out = s.out ++ [.reply p] := by rw [← same]; rfl
  unfold sendReply at mute ⊢
  split at mute
  · split at mute
    · contradiction
    · rename_i stays
      have kept := keeps_signal 0 ({ s with bridge := { s.bridge with busy := false, replyReady := true, reply := p.packet } }.emit (.reply p))
      exact absurd (kept.mute.symm.trans mute) stays
  · have kept := ((sent_sendCmd p.peer p.packet (s.emit (.reply p))).noted.trans (noted_noteSends _)).keeps
    exact ⟨emitted s rfl ▸ kept.out, kept.mute.symm.trans mute⟩
  · exact ⟨List.prefix_rfl, mute⟩

/-- The action of a command as `runOne` runs it: its header's refusal, then R349, then the action itself. -/
def acted (f : CmdFn) (y : Session) (h : HeldCommand) (s : State) : Reply × State :=
  let s0 := (s.updSession y.id (fun y => { y with e := h.seq })).bump64 Addr.CMD_EXECUTED
  if h.bad ≠ 0 then refuse h.bad s0 else if s0.tenantRefused y h.tenant then refuse St.NOT_PERMITTED s0
    else f ⟨y.id, y.tenant, h.tenant, h.tag, y.transport⟩ h.params s0

theorem keeps_acted {f : CmdFn} (keeps : ∀ e p s, Keeps s (f e p s).2) (y : Session) (h : HeldCommand) (s : State) :
    Keeps s (acted f y h s).2 := by
  have begun_ : Keeps s ((s.updSession y.id (fun y => { y with e := h.seq })).bump64 Addr.CMD_EXECUTED) := ⟨rfl, List.prefix_rfl⟩
  unfold acted
  dsimp only
  split
  · exact begun_
  · split
    · exact begun_
    · exact begun_.trans (keeps _ _ _)

theorem sessions_startBeat (s : State) : (startBeat s).sessions = s.sessions := rfl

theorem sessions_resetDevice (cause : Nat) (s : State) : (resetDevice cause s).sessions = [] := by
  unfold resetDevice
  dsimp only
  rw [sessions_startBeat, State.setReg_sessions, State.setReg_sessions, foldl_setReg_only]

/-- ZEROISE, where it is done, leaves no session. -/
theorem sessions_acted_zeroise {y : Session} {h : HeldCommand} {s : State} (done : (acted cmdZeroise y h s).1.status = St.OK) :
    (acted cmdZeroise y h s).2.sessions = [] := by
  unfold acted cmdZeroise at done ⊢
  dsimp only at done ⊢
  split at done
  · rename_i bad
    exact absurd done bad
  · split at done
    · exact absurd done (by decide : St.NOT_PERMITTED ≠ St.OK)
    · split at done
      · exact absurd done (by decide : St.NOT_PERMITTED ≠ St.OK)
      · split at done
        · exact absurd done (by decide : St.BAD_PARAM ≠ St.OK)
        · rename_i good refused owner_ formed
          rw [if_neg good, if_neg refused, if_neg owner_, if_neg formed]
          exact sessions_resetDevice _ _

/-- A command that ran in a session that is still open has replied. -/
theorem runOne_replied {y : Session} {h : HeldCommand} {s : State}
    (alive : (runOne (actionOf h.opcode) y h s).session y.id ≠ none) (mute : (runOne (actionOf h.opcode) y h s).bridge.mute = true) :
    ∃ q : SentPacket, q.opcode = h.opcode ∧
      (acted (actionOf h.opcode) y h s).2.out ++ [.reply q] <+: (runOne (actionOf h.opcode) y h s).out ∧
      (acted (actionOf h.opcode) y h s).2.bridge.mute = true := by
  generalize run : runOne (actionOf h.opcode) y h s = u at alive mute ⊢
  unfold runOne at run
  extract_lets e s0 r reply s1 done s2 at run
  have same : acted (actionOf h.opcode) y h s = r := rfl
  rw [same]
  split at run
  · rename_i zeroised
    obtain ⟨opcode, finished⟩ := zeroised
    refine absurd ?_ alive
    have empty : r.2.sessions = [] := by
      have action : actionOf h.opcode = cmdZeroise := by rw [opcode]; rfl
      rw [← same, action]
      exact sessions_acted_zeroise (by rw [← action, same]; simpa [done] using finished)
    rw [← run, State.session, State.updSession_sessions, empty]
    rfl
  · have sent : s2.bridge.mute = true → ∃ q : SentPacket, q.opcode = h.opcode ∧ r.2.out ++ [.reply q] <+: s2.out ∧ r.2.bridge.mute = true := by
      intro muted
      refine ⟨reply, rfl, ?_⟩
      by_cases freed : s.bridge.busy = true ∧ (!s1.bridge.busy) = true
      · rw [show s2 = s1.emit (.reply reply) from if_pos freed] at muted ⊢
        exact ⟨List.prefix_rfl, muted⟩
      · rw [show s2 = sendReply reply s1 from if_neg freed] at muted ⊢
        exact sendReply_out muted
    split at run
    · rw [← run] at alive
      exact absurd (State.session_closeSession _ _ _) alive
    · rw [← run] at mute ⊢
      exact sent mute

/-- The state in which a held command `h` of session `id` is taken to run. -/
def taken (id : Nat) (h : HeldCommand) (s : State) : State :=
  s.updSession id (fun y => { y with held := y.held.filter (fun k => k.seq != h.seq) })

/-- Where held commands have run, the last of them ran after one that replied, or first. -/
theorem runHeld_last (id : Nat) : ∀ (n : Nat) (s : State), runHeld id n s = s ∨
    ∃ y h v, v.session id = some y ∧ runHeld id n s = runOne (actionOf h.opcode) y h (taken id h v) ∧ (v = s ∨ (v.bridge.mute = true → Replied v))
  | 0, s => .inl rfl
  | n + 1, s => by
    rw [runHeld]
    split
    · exact .inl rfl
    · rename_i y found
      split
      · exact .inl rfl
      · rename_i h next
        refine .inr ?_
        rcases runHeld_last id n (runOne (actionOf h.opcode) y h (taken id h s)) with stays | ⟨y', h', v, found', last, before⟩
        · exact ⟨y, h, s, found, stays, .inl rfl⟩
        · refine ⟨y', h', v, found', last, .inr fun muted => ?_⟩
          rcases before with first | replied
          · rw [first] at found' muted ⊢
            have named : y.id = id := State.session_id found
            obtain ⟨q, _, out, _⟩ := runOne_replied (by rw [named, found']; exact Option.some_ne_none _) muted
            exact ⟨q, out.subset (List.mem_append_right _ (List.mem_singleton_self _))⟩
          · exact replied muted

/-- Held commands that have run leave more than one reply: after a state that has replied, where the only reply is of an opcode whose action
keeps replies, none has run. -/
theorem runHeld_eq_self {op id n : Nat} {s : State} (keeps : ∀ e p t, Keeps t (actionOf op e p t).2) (replied : Replied s)
    (alive : (runHeld id n s).session id ≠ none) (mute : (runHeld id n s).bridge.mute = true)
    (only : ∀ q : SentPacket, .reply q ∈ (runHeld id n s).out → q.opcode = op)
    (once : (runHeld id n s).out.countP Output.isReply ≤ 1) : runHeld id n s = s := by
  rcases runHeld_last id n s with stays | ⟨y, h, v, found, last, before⟩
  · exact stays
  rw [last] at alive mute only once
  obtain ⟨q, opcode, out, muted⟩ := runOne_replied (State.session_id found ▸ alive) mute
  have same : h.opcode = op := opcode ▸ only q (out.subset (List.mem_append_right _ (List.mem_singleton_self _)))
  have kept : Keeps v (acted (actionOf h.opcode) y h (taken id h v)).2 :=
    (show Keeps v (taken id h v) from ⟨rfl, List.prefix_rfl⟩).trans (keeps_acted (same ▸ keeps) y h _)
  have earlier : Replied v := by
    rcases before with first | replied'
    · exact first ▸ replied
    · exact replied' (kept.mute.symm.trans muted)
  obtain ⟨q0, there⟩ := earlier.mono kept.out
  have first : 0 < (acted (actionOf h.opcode) y h (taken id h v)).2.out.countP Output.isReply := List.countP_pos_iff.mpr ⟨_, there, rfl⟩
  have two := out.sublist.countP_le (p := Output.isReply)
  rw [List.countP_append] at two
  simp only [List.countP_singleton, Output.isReply, ↓reduceIte] at two
  omega

theorem State.session_emit (s : State) (o : Output) (id : Nat) : (s.emit o).session id = s.session id := rfl

/-- The parts of a state that sending a reply on the management port leaves. -/
def State.unsaid (s : State) : State := { s with sessions := [], out := [] }

/-- A state in which the reply of session `x`, of the management port, will be the only one to leave: its session is open, no session holds
commands back, no reply has left, and the mailbox, whose next reply is to be discarded, is as in `b`. -/
def onlyReplies (x : Session) (b t : State) : Bool :=
  x.transport == .mgmt && (t.session x.id).isSome && t.sessions.all (fun y => y.held.isEmpty) && t.bridge.busy == b.bridge.busy && t.bridge.mute &&
    t.out.countP Output.isReply == 0

theorem noneNext_of_unheld {t : State} (unheld : t.sessions.all (fun y => y.held.isEmpty) = true) (id : Nat) : NoneNext id t := by
  intro y found k hk
  have empty := List.all_eq_true.mp unheld y (List.mem_of_find?_eq_some found)
  rw [List.isEmpty_iff.mp empty] at hk
  exact absurd hk List.not_mem_nil

/-- What a command's action left, where its reply left by the management port and is the only one: the state that was settled is known but
for its sessions and what had left the device. -/
theorem unsaid_of_completes {i : Instr} {f : CmdFn} {op : Nat} {c : Cmd} {x : Session} {p : Bytes} {s : State} {r : Reply} {P : State → Prop}
    (row : exec i s = .next (runCommand f op c p s)) (h : ready c x s = true) (notZeroise : op ≠ 0x0A0A) (notClose : op ≠ 0x0004)
    (keeps : ∀ e p t, Keeps t (actionOf op e p t).2) (only : onlyReplies x (begun c x s) (f (envOf c x) p (begun c x s)).2 = true)
    (completed : completes i op c x s r P) : ∃ t, P t ∧ t.unsaid = (f (envOf c x) p (begun c x s)).2.unsaid := by
  obtain ⟨t, step, holds⟩ := completed
  refine ⟨t, holds, ?_⟩
  rw [row, runCommand_ready f op c p x s h notZeroise notClose] at step
  injection step with step
  generalize (f (envOf c x) p (begun c x s)).1 = r0, (f (envOf c x) p (begun c x s)).2 = t0 at *
  simp only [onlyReplies, Bool.and_eq_true, beq_iff_eq] at only
  obtain ⟨⟨⟨⟨⟨mgmt, alive⟩, unheld⟩, busy⟩, mute⟩, silent⟩ := only
  have said (r : Reply) (t : State) : sendReply (replyOf op c x r t.device) (keptReply x (replyOf op c x r t.device) t) =
      (keptReply x (replyOf op c x r t.device) t).emit (.reply (replyOf op c x r t.device)) := by
    unfold sendReply
    rw [show (replyOf op c x r t.device).transport = .mgmt from mgmt]
  rw [settle_of_noneNext (noneNext_of_unheld unheld _) busy, said] at step
  have replied : settle op c x r (begun c x s) t = runHeld x.id heldMax
      ((keptReply x (replyOf op c x r t.device) t).emit (.reply (replyOf op c x r t.device))) := by
    unfold settle
    extract_lets reply t1
    rw [show sendReply reply t1 = t1.emit (.reply reply) from said r t, ite_self]
    rfl
  rw [replied] at step
  have stays := runHeld_eq_self (op := op) (id := x.id) (n := heldMax) keeps
    (s := (keptReply x (replyOf op c x r t.device) t).emit (.reply (replyOf op c x r t.device)))
    ⟨_, List.mem_append_right _ (List.mem_singleton_self _)⟩ ?_ ?_ ?_ ?_
  · rw [stays] at step
    exact (congrArg State.unsaid step).symm
  all_goals rw [← step]
  · intro closed
    rw [State.session_emit, keptReply, State.session_updSession] at closed
    · rw [Option.map_eq_none_iff.mp closed] at alive
      contradiction
    · exact fun _ => rfl
  · exact mute
  · intro q there
    rcases List.mem_append.mp there with old | new
    · exact absurd rfl (List.countP_eq_zero.mp silent _ old)
    · rw [Output.reply.inj (List.mem_singleton.mp new)]
      rfl
  · refine (List.countP_append ..).le.trans ?_
    rw [show (keptReply x (replyOf op c x r0 t0.device) t0).out = t0.out from rfl, silent, Nat.zero_add]
    exact List.countP_le_length

end Sys2Proof.Machine

/-!
PROOFS. A time-stamp record read (R84): its check may change a register.
-/
namespace Sys2Proof.Machine

/-! Reads keep replies -/

theorem keeps_latchPair (key : Nat) (s : State) : Keeps s (latchPair key s) := by
  unfold latchPair
  dsimp only
  split
  · exact ⟨rfl, List.prefix_rfl⟩
  · exact ⟨rfl, List.prefix_rfl⟩

theorem keeps_readTsData (f j : Nat) (s : State) : Keeps s (readTsData f j s) := by
  unfold readTsData
  split
  · exact ⟨rfl, List.prefix_rfl⟩
  · split
    · exact .refl s
    · exact ⟨rfl, List.prefix_rfl⟩

theorem keeps_rdStoreData (c i : Nat) (s : State) : Keeps s (rdStoreData c i s).2 := by
  unfold rdStoreData
  dsimp only
  split
  · exact ⟨rfl, List.prefix_rfl⟩
  · exact .refl s

theorem keeps_ite {α : Type} {c : Prop} [Decidable c] {s : State} {r r' : α × State} (h : Keeps s r.2) (h' : Keeps s r'.2) :
    Keeps s (if c then r else r').2 := by
  split
  · exact h
  · exact h'

theorem keeps_readLoc (a : Nat) (l : Loc) (s : State) : Keeps s (readLoc a l s).2 := by
  unfold readLoc
  refine keeps_ite (.refl s) (keeps_ite (.refl s) (keeps_ite (keeps_latchPair _ s) (keeps_ite (.refl s) (keeps_ite ?_ (keeps_ite ?_
    (keeps_ite ?_ (keeps_ite (keeps_rdStoreData _ _ s) (keeps_ite ?_ (.refl s)))))))))
  case _ => exact ⟨rfl, List.prefix_rfl⟩
  case _ => exact ⟨rfl, List.prefix_rfl⟩
  case _ => 
    dsimp only
    split
    · exact keeps_readTsData _ _ s
    · exact .refl s
  case _ => exact ⟨rfl, List.prefix_rfl⟩

theorem keeps_readWord (e : Env) (a : Nat) (s : State) : Keeps s (readWord e a s).2.2 := by
  unfold readWord
  split
  · exact .refl s
  · split
    · exact .refl s
    · split
      · exact .refl s
      · exact keeps_readLoc a _ s

theorem keeps_readWords {f : Nat → State → Nat × Nat × State} (keeps : ∀ a s, Keeps s (f a s).2.2) :
    ∀ (n a : Nat) (s : State), Keeps s (readWords f a n s).2.2
  | 0, _, s => .refl s
  | n + 1, a, s => by
    simp only [readWords]
    split
    · exact .refl s
    · exact (keeps a s).trans (keeps_readWords keeps n (a + 4) _)

theorem keeps_cmdCsrRead (e : Env) (p : Bytes) (s : State) : Keeps s (cmdCsrRead e p s).2 := by
  unfold cmdCsrRead
  split
  · exact .refl s
  · exact keeps_readWords (keeps_readWord e) _ _ s

/-! A counter beyond its width -/

/-- A session of the owner on the management port. -/
def ownSession : Session := { id := 1, tenant := owner, transport := .mgmt, peer := 0, key := [], lastAuth := 1 }

/-- `s` with a tenant 0 and the owner's session, the mailbox's next reply to be discarded. -/
def attended (s : State) : State := { s.setFlag (Addr.TENANT_EXISTS 0) 0 true with sessions := [ownSession], bridge.mute := true }

/-- A command of the owner's session. -/
def ownCmd : Cmd := { t := 0, session := 1, tenant := owner, tag := 0 }

/-- A device whose first time-stamp FIFO holds a record, and whose count of corrected words there is beyond its 32 bits. -/
def overcounted : State := attended ((running.setReg (Addr.CORR_COUNT 0x8F0)
    (2 ^ 32)).setFifo 0x8F0 { pkts := [⟨1, none, [7#256]⟩], reading := none })

/-- The read of a time-stamp record as TS_DATA_READ runs it. -/
def cmdTsData (port : Checked Nat) : CmdFn := fun e p s => cmdCsrRead e p (if e.owner then checkRecord (0x8F0 + port.item % 16) port.chk s else s)

/-- Refutes O12: the check of a record that is read counts its corrected words modulo 2^32 (R361), so that a count beyond its 32 bits changes
where no word was corrected. -/
theorem not_readsWithEffects : ¬ Obligations.ReadsWithEffects := by
  unfold Obligations.ReadsWithEffects
  intro h
  have ready_ : ready ownCmd ownSession overcounted = true := by decide +kernel
  obtain ⟨_, _, _, _, read, _⟩ := h ownCmd ownSession overcounted ready_
  obtain ⟨t, ⟨_, frame, _⟩, same⟩ := unsaid_of_completes (f := cmdTsData ⟨0, {}⟩) (op := 0x0100) rfl ready_ (by decide) (by decide)
    (show ∀ e p t, Keeps t (cmdCsrRead e p t).2 from keeps_cmdCsrRead) (by decide +kernel) (read 0 (by decide) rfl)
  have kept : t.unsaid.regs = _ := congrArg State.regs same
  exact absurd (frame.symm.trans kept) (by decide +kernel)
end Sys2Proof.Machine

/-!
PROOFS. The memory and copy commands (R160, R213, R220, R221, R223).
-/
namespace Sys2Proof.Machine

/-! How a command that is ready completes -/

/-- A command that is ready completes with what its action answers. -/
theorem completes_acts {i : Instr} {f : CmdFn} {op : Nat} {c : Cmd} {x : Session} {p : Bytes} {s t : State} {r : Reply} {P : State → Prop}
    (row : exec i s = .next (runCommand f op c p s)) (h : ready c x s = true) (notZeroise : op ≠ 0x0A0A) (notClose : op ≠ 0x0004)
    (acts : f (envOf c x) p (begun c x s) = (r, t)) (holds : P t) : completes i op c x s r P :=
  completes_of row h notZeroise notClose (by rw [acts]) (by rwa [acts])

theorem envOf_owner {x : Session} (isOwner : x.tenant = owner) (c : Cmd) : (envOf c x).owner = true := by
  simp [Env.owner, envOf, isOwner]

theorem needsHbm_eq {s : State} (good : s.fw.hbmFailed = false) (f : CmdFn) (e : Env) (p : Bytes) : needsHbm f e p s = f e p s := by
  rw [needsHbm, if_neg (by simp [good])]

theorem sameMemory_of_mem {s t : State} (same : t.mem = s.mem) : sameMemory s t := by
  rw [sameMemory, same]
  exact ⟨fun _ => rfl, rfl⟩

/-! Copies queued by software (R213, R223) -/

theorem map_desc_mapIdx (tenant session tag next : Nat) (ds : List CopyDesc) :
    (ds.mapIdx (fun i d => (⟨tenant, session, tag, (next + i) % 64, d⟩ : SoftCopy))).map SoftCopy.desc = ds := by
  refine List.ext_getElem? fun i => ?_
  rw [List.getElem?_map, List.getElem?_mapIdx, Option.map_map]
  exact Option.map_id'

theorem syncSoft_copies (k : Nat) (s : State) : (syncSoft k s).copies = s.copies := rfl

theorem reg_syncSoft_other {k a : Nat} (other : a ≠ Addr.SWQ_STATUS k) (s : State) : (syncSoft k s).reg a = s.reg a :=
  State.reg_setField_other s other _ _ _

/-- The submitted descriptors as they stand in the queue of cluster `k`. -/
def submitted (e : Env) (k : Nat) (ds : List CopyDesc) (s : State) : State :=
  syncSoft k { s with
    copies.soft := tabSet [] k (tabGet [] k s.copies.soft ++
      ds.mapIdx (fun i d => (⟨e.tenant, e.session, e.tag, (s.copies.nextSlot + i) % 64, d⟩ : SoftCopy))) s.copies.soft
    copies.nextSlot := s.copies.nextSlot + ds.length }

section
variable {e : Env} {p : Bytes} {s : State}

theorem cmdCopySubmit_accepted (len : p.length = 4 + 64 * byteAt p 1) (zero : zerosAt p 2 2 = true) (queue : byteAt p 0 ≤ 15)
    (some_ : 1 ≤ byteAt p 1) (most : byteAt p 1 ≤ 64)
    (legal : ∀ d ∈ (List.range (byteAt p 1)).map (fun i => descOfImage (slice p (4 + 64 * i) 64)),
      descOk d = true ∧ spaceOf d.src ≤ 3 ∧ spaceOf d.dst ≤ 3)
    (fits : (tabGet [] (byteAt p 0) s.copies.soft).length + byteAt p 1 ≤ 64) :
    cmdCopySubmit e p s = (st St.ACCEPTED,
      submitted e (byteAt p 0) ((List.range (byteAt p 1)).map (fun i => descOfImage (slice p (4 + 64 * i) 64))) s) := by
  have formed : ¬(p.length < 4 ∨ p.length ≠ 4 + 64 * byteAt p 1 ∨ (!zerosAt p 2 2) = true ∨ 15 < byteAt p 0 ∨ byteAt p 1 = 0 ∨ 64 < byteAt p 1) := by
    simp only [zero, Bool.not_true, Bool.false_eq_true, false_or]
    omega
  have good : ¬((List.range (byteAt p 1)).map (fun i => descOfImage (slice p (4 + 64 * i) 64))).any
      (fun d => !descOk d || decide (3 < spaceOf d.src) || decide (3 < spaceOf d.dst)) = true := by
    rw [List.any_eq_true]
    rintro ⟨d, there, bad⟩
    obtain ⟨ok_, src, dst⟩ := legal d there
    simp [ok_] at bad
    omega
  simp only [cmdCopySubmit]
  rw [if_neg formed, if_neg good, if_neg (by omega), submitted, List.length_map, List.length_range]

theorem cmdCopyStatus_eq (len : p.length = 4) (zero : zerosAt p 1 3 = true) (queue : byteAt p 0 ≤ 15) :
    cmdCopyStatus e p s =
      (⟨St.OK, toBE 1 ((tabGet [] (byteAt p 0) s.copies.soft).filter (fun y => e.tenant == owner || y.tenant == e.tenant)).length ++
        toBE 1 (tabGet (0, 0) (byteAt p 0 * 256 + e.tenant) s.copies.lastFault).1 ++
        toBE 2 (tabGet (0, 0) (byteAt p 0 * 256 + e.tenant) s.copies.lastFault).2⟩, s) := by
  simp only [cmdCopyStatus]
  rw [if_neg (by simp [len, zero]; omega)]

/-! Memory windows (R220, R221) -/

theorem cmdMemWindowSet_removed (isOwner : e.owner = true) (len : p.length = 12) (zero : zerosAt p 2 2 = true) (window : byteAt p 0 ≤ 15)
    (flags : byteAt p 1 ≤ 7) (off : bitAt (byteAt p 1) 0 = false) :
    cmdMemWindowSet e p s = (ok, { s with mem.windows := tabSet {} (16 * e.tenant + byteAt p 0) {} s.mem.windows }) := by
  simp only [cmdMemWindowSet]
  rw [if_neg (by simp [isOwner]), if_neg (by simp [len, zero]; omega), if_pos (by simp [off])]

theorem cmdMemWindowSet_set (isOwner : e.owner = true) (len : p.length = 12) (zero : zerosAt p 2 2 = true) (window : byteAt p 0 ≤ 15)
    (flags : byteAt p 1 ≤ 7) (on : bitAt (byteAt p 1) 0 = true) (long : 0 < be p 8 4) (inside : (be p 4 4 + be p 8 4) * 65536 ≤ hbmBytes)
    (free : windowRefused e.tenant (be p 4 4 * 65536) (be p 8 4 * 65536) s = false) :
    cmdMemWindowSet e p s = (ok, { s with
      mem.windows := tabSet {} (16 * e.tenant + byteAt p 0) ⟨be p 4 4, be p 8 4, bitAt (byteAt p 1) 1, bitAt (byteAt p 1) 2⟩ s.mem.windows }) := by
  simp only [cmdMemWindowSet]
  rw [if_neg (by simp [isOwner]), if_neg (by simp [len, zero]; omega), if_neg (by simp [on]), if_neg (by simp [free]; omega)]

theorem memWindow_set {u w t k : Nat} (other : 16 * u + w ≠ 16 * t + k) (v : MemWindow) (s : State) :
    State.memWindow { s with mem.windows := tabSet {} (16 * t + k) v s.mem.windows } u w = s.memWindow u w :=
  tabGet_tabSet_other other _ _ _ _

theorem memWindow_set_same (t k : Nat) (v : MemWindow) (s : State) :
    State.memWindow { s with mem.windows := tabSet {} (16 * t + k) v s.mem.windows } t k = v :=
  tabGet_tabSet_same _ _ _ _

theorem memWindow_begun (c : Cmd) (x : Session) (s : State) (u w : Nat) : (begun c x s).memWindow u w = s.memWindow u w := by
  rw [State.memWindow, begun_mem, State.memWindow]

theorem sameMemory_windows (s : State) (l : Tab MemWindow) : sameMemory s { s with mem.windows := l } := ⟨fun _ => rfl, rfl⟩

theorem sameMemory_begun {c : Cmd} {x : Session} {s t : State} (same : sameMemory (begun c x s) t) : sameMemory s t := by
  rwa [sameMemory, begun_mem] at same

/-! Retired pages (R160) -/

theorem State.reg_of_regs {s t : State} (same : t.regs = s.regs) (a : Nat) : t.reg a = s.reg a := by rw [State.reg, same, State.reg]

theorem losePage_only (stack off : Nat) (m : MemState) : losePage stack off m = { m with keyOf := (losePage stack off m).keyOf } := by
  unfold losePage
  generalize List.range 16 = chunks
  induction chunks generalizing m with
  | nil => rfl
  | cons i chunks ih => rw [List.foldl_cons, ih]; rfl

theorem cmdHbmPageRetire_known (isOwner : e.owner = true) (len : p.length = 16) (stack : byteAt p 0 ≤ 15) (zero : zerosAt p 1 7 = true)
    (aligned : be p 8 8 % 4096 = 0) (inside : be p 8 8 < hbmBytes / 16) (known : s.mem.retired.contains (byteAt p 0, be p 8 8 / 4096) = true) :
    cmdHbmPageRetire e p s = (ok, s) := by
  simp only [cmdHbmPageRetire]
  rw [if_neg (by simp [isOwner]), if_neg (by simp [len, zero, aligned]; omega), if_pos known]

/-- The page of stack `k` at offset `o` is retired, its contents lost (R221). -/
def pageRetired (k o : Nat) (s : State) : State :=
  ({ s with mem := losePage k o { s.mem with retired := s.mem.retired ++ [(k, o / 4096)] } }.bump32 Addr.RETIRED_PAGES).bump32 (Addr.RETIRED k)

theorem pageRetired_mem (k o : Nat) (s : State) :
    (pageRetired k o s).mem = losePage k o { s.mem with retired := s.mem.retired ++ [(k, o / 4096)] } := rfl

theorem retired_apart (k : Nat) : Addr.RETIRED_PAGES ≠ Addr.RETIRED k := by
  simp only [Addr.RETIRED_PAGES, Addr.RETIRED]
  omega

theorem reg_pageRetired_count (k o : Nat) (s : State) : (pageRetired k o s).reg Addr.RETIRED_PAGES = (s.reg Addr.RETIRED_PAGES + 1) % 2 ^ 32 := by
  rw [pageRetired, State.reg_bump32_other _ (retired_apart k), State.reg_bump32,
    State.reg_of_regs (s := s) (by rfl)]

theorem reg_pageRetired_stack (k o : Nat) (s : State) : (pageRetired k o s).reg (Addr.RETIRED k) = (s.reg (Addr.RETIRED k) + 1) % 2 ^ 32 := by
  rw [pageRetired, State.reg_bump32, State.reg_bump32_other _ (retired_apart k).symm,
    State.reg_of_regs (s := s) (by rfl)]

theorem reg_pageRetired_other {k a : Nat} (o : Nat) (s : State) (other : a ∉ [Addr.RETIRED_PAGES, Addr.RETIRED k]) :
    (pageRetired k o s).reg a = s.reg a := by
  simp only [List.mem_cons, List.not_mem_nil, or_false, not_or] at other
  rw [pageRetired, State.reg_bump32_other _ other.2, State.reg_bump32_other _ other.1, State.reg_of_regs (s := s) (by rfl)]

theorem cmdHbmPageRetire_new (isOwner : e.owner = true) (len : p.length = 16) (stack : byteAt p 0 ≤ 15) (zero : zerosAt p 1 7 = true)
    (aligned : be p 8 8 % 4096 = 0) (inside : be p 8 8 < hbmBytes / 16) (new : s.mem.retired.contains (byteAt p 0, be p 8 8 / 4096) = false)
    (room : s.mem.retired.length < 4096) (noFlows : flowTenants s = []) :
    cmdHbmPageRetire e p s = (ok, pageRetired (byteAt p 0) (be p 8 8) s) := by
  simp only [cmdHbmPageRetire, noFlows, List.any_nil, Bool.false_eq_true, ↓reduceIte, List.foldl_nil]
  rw [if_neg (by simp [isOwner]), if_neg (by simp [len, zero, aligned]; omega), if_neg (Bool.eq_false_iff.mp new), if_neg (by omega)]
  rw [pageRetired]
end

/-- Settles O13: each command's action by its equation, and what that leaves. -/
theorem memoryCommandsComplete : Obligations.MemoryCommandsComplete := by
  unfold Obligations.MemoryCommandsComplete
  intro c x s p h good
  dsimp only
  have hbm : (begun c x s).fw.hbmFailed = false := by rw [begun_fw]; exact good
  refine ⟨?_, ?_, ?_, ?_, ?_, ?_⟩
  · intro len zero queue some_ most legal fits
    refine completes_acts (f := cmdCopySubmit) rfl h (by decide) (by decide)
      (cmdCopySubmit_accepted len zero queue some_ most legal (by rwa [begun_copies])) ⟨?_, ?_, ?_, ?_⟩
    · rw [submitted, syncSoft_copies, tabGet_tabSet_same, List.map_append, map_desc_mapIdx, begun_copies]
    · intro j other
      rw [submitted, syncSoft_copies, tabGet_tabSet_other other, begun_copies]
    · intro a other
      exact reg_syncSoft_other (by simpa using other) _
    · exact sameMemory_of_mem (begun_mem c x s)
  · intro len zero queue
    refine completes_acts (f := cmdCopyStatus) rfl h (by decide) (by decide) ?_ rfl
    rw [cmdCopyStatus_eq len zero queue, begun_copies]
    rfl
  · intro isOwner len zero window flags off
    refine completes_acts (f := needsHbm cmdMemWindowSet) rfl h (by decide) (by decide)
      ((needsHbm_eq hbm _ _ _).trans (cmdMemWindowSet_removed (envOf_owner isOwner c) len zero window flags off)) ⟨?_, ?_, rfl, ?_⟩
    · exact memWindow_set_same _ _ _ _
    · intro u w other
      exact (memWindow_set other _ _).trans (memWindow_begun c x s u w)
    · exact sameMemory_begun (sameMemory_windows _ _)
  · intro isOwner len zero window flags on long inside free
    refine completes_acts (f := needsHbm cmdMemWindowSet) rfl h (by decide) (by decide)
      ((needsHbm_eq hbm _ _ _).trans (cmdMemWindowSet_set (envOf_owner isOwner c) len zero window flags on long inside free)) ⟨?_, ?_, rfl, ?_⟩
    · exact memWindow_set_same _ _ _ _
    · intro u w other
      exact (memWindow_set other _ _).trans (memWindow_begun c x s u w)
    · exact sameMemory_begun (sameMemory_windows _ _)
  · rintro rfl
    refine ⟨_, ?_, completes_acts (f := cmdMemMapRead) rfl h (by decide) (by decide) rfl rfl⟩
    rfl
  · intro isOwner len stack zero aligned inside
    refine ⟨fun known => ?_, fun new room noFlows => ?_⟩
    · exact completes_acts (f := cmdHbmPageRetire) rfl h (by decide) (by decide)
        (cmdHbmPageRetire_known (envOf_owner isOwner c) len stack zero aligned inside (by rwa [begun_mem])) rfl
    · refine completes_acts (f := cmdHbmPageRetire) rfl h (by decide) (by decide)
        (cmdHbmPageRetire_new (envOf_owner isOwner c) len stack zero aligned inside (by rwa [begun_mem]) (by rwa [begun_mem]) noFlows)
            ⟨?_, ?_, ?_, ?_, ?_⟩
      · rw [pageRetired_mem, losePage_only, begun_mem]
      · rw [reg_pageRetired_count, begun_reg c x s (by decide)]
      · rw [reg_pageRetired_stack, begun_reg c x s]
        simp only [Addr.CMD_EXECUTED, Addr.RETIRED]
        omega
      · exact fun a other => reg_pageRetired_other _ _ other
      · intro a _
        rw [memByte, pageRetired_mem, bytes_losePage, begun_mem, memByte]
end Sys2Proof.Machine

/-!
PROOFS. The cell commands, the read-out of a store and the end of zeroing (R204, R205, R223, R224).
-/
namespace Sys2Proof.Machine

/-! Sorted lists -/

theorem mem_insertBy {α : Type} (le : α → α → Bool) (a b : α) : ∀ l, b ∈ insertBy le a l ↔ b = a ∨ b ∈ l
  | [] => by simp [insertBy]
  | c :: l => by
    rw [insertBy]
    split
    · simp
    · simp only [List.mem_cons, mem_insertBy le a b l]
      tauto

theorem mem_sortBy {α : Type} (le : α → α → Bool) (b : α) : ∀ l, b ∈ sortBy le l ↔ b ∈ l
  | [] => Iff.rfl
  | a :: l => by rw [sortBy, mem_insertBy, mem_sortBy le b l, List.mem_cons]

/-! Cells' states -/

/-- A step leaves memory, and the state and tenant of every cell. -/
structure SamePool (s t : State) : Prop where
  mem : t.mem = s.mem
  cell : ∀ i < 256, t.cellState i = s.cellState i ∧ t.cellTenant i = s.cellTenant i

theorem SamePool.refl (s : State) : SamePool s s := ⟨rfl, fun _ _ => ⟨rfl, rfl⟩⟩

theorem SamePool.trans {s t u : State} (h : SamePool s t) (h' : SamePool t u) : SamePool s u :=
  ⟨h'.mem.trans h.mem, fun i hi => ⟨(h'.cell i hi).1.trans (h.cell i hi).1, (h'.cell i hi).2.trans (h.cell i hi).2⟩⟩

/-- A register that is no cell's state. -/
def notCellState (a : Nat) : Prop := ∀ i < 256, Addr.CELL_STATE i ≠ a

theorem samePool_setReg {a : Nat} (other : notCellState a) (v : Nat) (s : State) : SamePool s (s.setReg a v) := by
  refine ⟨rfl, fun i hi => ⟨?_, ?_⟩⟩
  · exact State.field_congr (State.reg_setReg_other (other i hi) s v) 0 2
  · exact State.field_congr (State.reg_setReg_other (other i hi) s v) 8 8

theorem samePool_of_regs {s t : State} (mem : t.mem = s.mem) (regs : t.regs = s.regs) : SamePool s t :=
  ⟨mem, fun _ _ => ⟨State.field_congr (State.reg_of_regs regs _) 0 2, State.field_congr (State.reg_of_regs regs _) 8 8⟩⟩

/-- Flag bits 2 to 7 of CELL_STATE are no part of state and tenant. -/
theorem samePool_setFlag {c i : Nat} (flag : 2 ≤ i ∧ i < 8) (b : Bool) (s : State) : SamePool s (s.setFlag (Addr.CELL_STATE c) i b) := by
  refine ⟨rfl, fun j _ => ?_⟩
  by_cases same : j = c
  · subst same
    exact ⟨State.field_setFlag_apart s (by omega) (by omega) b, State.field_setFlag_apart s (by omega) (by omega) b⟩
  · have apart : Addr.CELL_STATE j ≠ Addr.CELL_STATE c := by
      simp only [Addr.CELL_STATE]
      omega
    exact ⟨State.field_congr (State.reg_setReg_other apart s _) 0 2, State.field_congr (State.reg_setReg_other apart s _) 8 8⟩

theorem SamePool.foldl {α : Type} {f : State → α → State} : ∀ {l : List α}, (∀ s, ∀ x ∈ l, SamePool s (f s x)) → ∀ s, SamePool s (l.foldl f s)
  | [], _, s => .refl s
  | x :: l, hf, s => (hf s x (List.mem_cons_self ..)).trans
      (SamePool.foldl (fun s y hy => hf s y (List.mem_cons_of_mem x hy)) (f s x))

theorem notCellState_clState {k : Nat} (hk : k < 16) : notCellState (Addr.CL_STATE k) := by
  intro i hi
  simp only [Addr.CL_STATE, Addr.CELL_STATE]
  omega

theorem samePool_releaseGust {g : GustSequence}
    (inline_ : g.inl = true) (cells : ∀ c ∈ g.cells, c < 256) (s : State) : SamePool s (releaseGust g s) := by
  unfold releaseGust
  simp only [inline_, ↓reduceIte]
  refine SamePool.trans (SamePool.foldl (fun s c hc => ?_) s) (samePool_of_regs rfl rfl)
  have bound := cells c (List.mem_of_mem_take (List.mem_filter.mp hc).1)
  exact (samePool_setFlag (by decide) true s).trans (samePool_setReg (notCellState_clState (by omega)) _ _)

theorem samePool_startRelease {cells : List Nat} (bound : ∀ c ∈ cells, c < 256) (s : State) : SamePool s (startRelease true cells s) := by
  unfold startRelease
  split
  · exact .refl s
  · rename_i c0 cs sorted
    extract_lets k g ks b b1
    have placed : ∀ c ∈ g.cells, c < 256 := fun c hc => bound c (by
      rw [← mem_sortBy (fun a b => decide (a ≤ b)), sorted]
      exact hc)
    refine SamePool.trans ?_ (samePool_releaseGust rfl placed _)
    exact samePool_of_regs rfl rfl

/-- A step on cell `c` leaves memory, and CELL_STATE of every other cell. -/
structure OnCell (c : Nat) (s t : State) : Prop where
  mem : t.mem = s.mem
  other : ∀ i < 256, i ≠ c → t.reg (Addr.CELL_STATE i) = s.reg (Addr.CELL_STATE i)

theorem OnCell.trans {c : Nat} {s t u : State} (h : OnCell c s t) (h' : OnCell c t u) : OnCell c s u :=
  ⟨h'.mem.trans h.mem, fun i hi hc => (h'.other i hi hc).trans (h.other i hi hc)⟩

theorem onCell_of_regs (c : Nat) {s t : State} (mem : t.mem = s.mem) (regs : t.regs = s.regs) : OnCell c s t :=
  ⟨mem, fun _ _ _ => State.reg_of_regs regs _⟩

theorem onCell_setReg {c a : Nat} (other : notCellState a) (v : Nat) (s : State) : OnCell c s (s.setReg a v) :=
  ⟨rfl, fun i hi _ => State.reg_setReg_other (other i hi) s v⟩

theorem onCell_setState (c v : Nat) (s : State) : OnCell c s (s.setReg (Addr.CELL_STATE c) v) := by
  refine ⟨rfl, fun i _ hc => State.reg_setReg_other ?_ s v⟩
  simp only [Addr.CELL_STATE]
  omega

theorem leaveTrace_only (c st tenant : Nat) (s : State) : leaveTrace c st tenant s = { s with obs := (leaveTrace c st tenant s).obs } := by
  unfold leaveTrace
  split
  · split
    · rfl
    · rfl
  · rfl

theorem onCell_leaveTrace (c d st tenant : Nat) (s : State) : OnCell c s (leaveTrace d st tenant s) :=
  onCell_of_regs c (by rw [leaveTrace_only]) (by rw [leaveTrace_only])

theorem onCell_setCellState (c st tenant : Nat) (s : State) : OnCell c s (setCellState c st tenant s) :=
  (((onCell_setState c _ s).trans (onCell_setState c _ _)).trans (onCell_leaveTrace c c st tenant _)).trans (onCell_setState c _ _)

/-- CELL_STATE as it stands after it was set: state, tenant, and bits 4 to 7 as they were. -/
theorem setCellState_fields (c tenant : Nat) {st : Nat} (hst : st < 4) (ht : tenant < 256) (s : State) :
    (setCellState c st tenant s).cellState c = st ∧ (setCellState c st tenant s).cellTenant c = tenant := by
  have kept (t : State) (lo w : Nat) : (leaveTrace c st tenant t).field (Addr.CELL_STATE c) lo w = t.field (Addr.CELL_STATE c) lo w :=
    State.field_congr (State.reg_of_regs (by rw [leaveTrace_only]) _) lo w
  unfold setCellState State.cellState State.cellTenant
  dsimp only
  constructor
  · rw [State.field_setFlag_apart _ (by omega) (by omega), kept, State.field_setField_apart _ (by omega) (by omega),
      State.field_setField _ (by omega), Nat.mod_eq_of_lt (by omega)]
  · rw [State.field_setFlag_apart _ (by omega) (by omega), kept, State.field_setField _ (by omega), Nat.mod_eq_of_lt (by omega)]

theorem notCellState_of_offset {a : Nat} (offset : a % 0x100000 ≠ 4) : notCellState a := by
  rintro i _ rfl
  simp only [Addr.CELL_STATE] at offset
  omega

theorem notCellState_zeroed {c a : Nat} (zeroed : a ∈ zeroedRegs c) : notCellState a := by
  refine notCellState_of_offset ?_
  rcases List.mem_append.mp zeroed with single | arrive
  · simp only [List.mem_cons, List.not_mem_nil, or_false] at single
    rcases single with rfl | rfl | rfl | rfl | rfl | rfl | rfl | rfl | rfl | rfl | rfl | rfl | rfl | rfl | rfl | rfl | rfl | rfl | rfl | rfl | rfl
    all_goals
      simp only [Addr.STEP_COMMITTED, Addr.STEP_LAUNCHED, Addr.COMMIT_OCC, Addr.PROG_BANK, Addr.COPYQ_STATUS, Addr.COPY_FAULT_INFO, Addr.INLINE_Q,
          Addr.BUSY_BEATS, Addr.CALMED_BEATS, Addr.STRETCH_BEATS, Addr.STALL_BEATS, Addr.CELL_C256_CORR, Addr.CELL_RESIDUE_FLAGS, Addr.COPY_FAULTS,
          Addr.GRID_STATUS, Addr.GRID_LAUNCHES, Addr.NAN_FEATURE, Addr.NAN_LAST, Addr.OUT_OVF, Addr.OUT_NAN, Addr.PATH_MISMATCH]
      omega
  · obtain ⟨i, small, rfl⟩ := List.mem_map.mp arrive
    have := List.mem_range.mp small
    simp only [Addr.ARRIVE]
    omega

theorem OnCell.foldl {α : Type} {f : State → α → State} {c : Nat} : ∀ {l : List α}, (∀ s, ∀ x ∈ l, OnCell c s (f s x)) → ∀ s, OnCell c s (l.foldl f s)
  | [], _, _ => onCell_of_regs c rfl rfl
  | x :: l, hf, s => (hf s x (List.mem_cons_self ..)).trans
      (OnCell.foldl (fun s y hy => hf s y (List.mem_cons_of_mem x hy)) (f s x))

theorem reg_foldl_setReg_other {b v : Nat} : ∀ {l : List Nat}, (∀ a ∈ l, b ≠ a) → ∀ s : State, (l.foldl (fun s a => s.setReg a v) s).reg b = s.reg b
  | [], _, _ => rfl
  | a :: l, other, s => (reg_foldl_setReg_other (fun d hd => other d (List.mem_cons_of_mem a hd)) (s.setReg a v)).trans
      (State.reg_setReg_other (other a (List.mem_cons_self ..)) s v)

/-- The registers that zeroing clears, cleared. -/
def cleared (c : Nat) (s : State) : State := (zeroedRegs c).foldl (fun s a => s.setReg a 0) s

/-- A cell whose store and sequencer hold nothing. -/
def stopped (c : Nat) (s : State) : State :=
  { s with copies.store := s.copies.store.filter (fun x => x.1 / storeWords != c) }.updCell c (fun x => { x with
    inQ := [], lastLaunch := 0, active := none, standby := none, prog := none, next := 0, opens := [], q0 := [], q1 := [], more0 := [], more1 := []
    again := [], again1 := [], resend := [], readOut := [], launches := 0, regs := {}, banks := [] })

theorem zeroCell_eq (c : Nat) (s : State) : zeroCell c s = (stopped c (cleared c s)).setFlag (Addr.CELL_STATE c) 5 true := rfl

theorem onCell_cleared (c d : Nat) (s : State) : OnCell c s (cleared d s) :=
  OnCell.foldl (fun s _ ha => onCell_setReg (notCellState_zeroed ha) 0 s) s

theorem onCell_stopped (c d : Nat) (s : State) : OnCell c s (stopped d s) := onCell_of_regs c rfl rfl

theorem reg_stopped (c a : Nat) (s : State) : (stopped c s).reg a = s.reg a := State.reg_of_regs rfl a

theorem reg_cleared {c i : Nat} (hi : i < 256) (s : State) : (cleared c s).reg (Addr.CELL_STATE i) = s.reg (Addr.CELL_STATE i) :=
  reg_foldl_setReg_other (fun _ ha => notCellState_zeroed ha i hi) s

theorem onCell_zeroCell (c : Nat) (s : State) : OnCell c s (zeroCell c s) := by
  rw [zeroCell_eq]
  exact ((onCell_cleared c c s).trans (onCell_stopped c c _)).trans (onCell_setState c _ _)

/-- Zeroing keeps a cell's state and tenant, and shows that it goes on. -/
theorem zeroCell_fields {c : Nat} (hc : c < 256) (s : State) : (zeroCell c s).cellState c = s.cellState c ∧
    (zeroCell c s).cellTenant c = s.cellTenant c ∧ (zeroCell c s).flag (Addr.CELL_STATE c) 5 = true := by
  rw [zeroCell_eq]
  refine ⟨?_, ?_, State.flag_setFlag _ (by omega) true⟩
  · exact (State.field_setFlag_apart _ (by omega) (by omega) true).trans (State.field_congr ((reg_stopped c _ _).trans (reg_cleared hc s)) 0 2)
  · exact (State.field_setFlag_apart _ (by omega) (by omega) true).trans (State.field_congr ((reg_stopped c _ _).trans (reg_cleared hc s)) 8 8)

/-! CELL_ASSIGN (R204) -/

theorem notCellState_holder (c : Nat) : notCellState (Addr.HOLDER c) := by
  refine notCellState_of_offset ?_
  simp only [Addr.HOLDER]
  omega

theorem notCellState_fenced {k : Nat} (hk : k < 16) : notCellState (Addr.FENCED k) := by
  intro i _
  simp only [Addr.FENCED, Addr.CELL_STATE]
  omega

theorem notCellState_zcInline {k : Nat} (hk : k < 16) : notCellState (Addr.ZC_INLINE k) := by
  intro i _
  simp only [Addr.ZC_INLINE, Addr.CELL_STATE]
  omega

theorem onCell_beat (c : Nat) (s : State) (b : BeatState) : OnCell c s { s with beat := b } := onCell_of_regs c rfl rfl

/-- A cell that left every pool, before its zeroing. -/
def released (c : Nat) (s : State) : State := ((setCellState c 0 0 s).setReg (Addr.HOLDER c) 0).setFlag (Addr.FENCED (c / 32)) (c % 32) false

theorem unassignCell_eq (c : Nat) (s : State) :
    unassignCell c s = zeroCell c { released c s with beat := { (released c s).beat with released := (released c s).beat.released.filter (· != c) } } :=
  rfl

theorem onCell_released {c : Nat} (hc : c < 256) (s : State) : OnCell c s (released c s) :=
  ((onCell_setCellState c 0 0 s).trans (onCell_setReg (notCellState_holder c) 0 _)).trans
    (onCell_setReg (notCellState_fenced (k := c / 32) (by omega)) _ _)

theorem unassignCell_onCell {c : Nat} (hc : c < 256) (s : State) : OnCell c s (unassignCell c s) := by
  rw [unassignCell_eq]
  exact ((onCell_released hc s).trans (onCell_beat c _ _)).trans (onCell_zeroCell c _)

theorem released_fields {c : Nat} (hc : c < 256) (b : BeatState) (s : State) :
    State.cellState { released c s with beat := b } c = 0 ∧ State.cellTenant { released c s with beat := b } c = 0 := by
  have kept : State.reg { released c s with beat := b } (Addr.CELL_STATE c) = (setCellState c 0 0 s).reg (Addr.CELL_STATE c) := by
    rw [State.reg_of_regs (t := { released c s with beat := b }) (s := released c s) rfl, released,
      State.reg_setFlag_other _ (notCellState_fenced (by omega) c hc), State.reg_setReg_other (notCellState_holder c c hc)]
  obtain ⟨state, tenant⟩ := setCellState_fields c 0 (st := 0) (by omega) (by omega) s
  exact ⟨(State.field_congr kept 0 2).trans state, (State.field_congr kept 8 8).trans tenant⟩

theorem unassignCell_fields {c : Nat} (hc : c < 256) (s : State) : (unassignCell c s).cellState c = 0 ∧ (unassignCell c s).cellTenant c = 0 ∧
    (unassignCell c s).flag (Addr.CELL_STATE c) 5 = true := by
  rw [unassignCell_eq]
  obtain ⟨state, tenant, zeroing⟩ := zeroCell_fields hc
    { released c s with beat := { (released c s).beat with released := (released c s).beat.released.filter (· != c) } }
  obtain ⟨state0, tenant0⟩ := released_fields hc { (released c s).beat with released := (released c s).beat.released.filter (· != c) } s
  exact ⟨state.trans state0, tenant.trans tenant0, zeroing⟩

theorem onCell_enterPool {target tenant c : Nat} (hc : c < 256) (s : State) : OnCell c s (enterPool target tenant c s) := by
  unfold enterPool
  extract_lets last first s1 s2
  have zeroed : OnCell c s s1 := by
    show OnCell c s (if _ then zeroCell c s else s)
    split
    · exact onCell_zeroCell c s
    · exact onCell_of_regs c rfl rfl
  have entered : OnCell c s s2 := (zeroed.trans (onCell_setCellState c target tenant s1)).trans (onCell_of_regs c rfl rfl)
  split
  · exact entered.trans (onCell_setReg (notCellState_zcInline (by omega)) _ _)
  · exact entered

theorem enterPool_fields {target tenant c : Nat} (hc : c < 256) (pool : target < 4) (ht : tenant < 256) (s : State) :
    (enterPool target tenant c s).cellState c = target ∧ (enterPool target tenant c s).cellTenant c = tenant := by
  unfold enterPool
  extract_lets last first s1 s2
  have entered : s2.cellState c = target ∧ s2.cellTenant c = tenant := setCellState_fields c tenant pool ht s1
  split
  · obtain ⟨state, holder⟩ := (samePool_setReg (notCellState_zcInline (k := c / 16) (by omega)) s2.zc s2).cell c hc
    exact ⟨state.trans entered.1, holder.trans entered.2⟩
  · exact entered

/-- Steps on the cells of a list leave the other cells alone, and each of its cells as its own step left it. -/
theorem foldl_onCell {f : State → Nat → State} {Q : Nat → Prop} (on : ∀ s, ∀ c < 256, OnCell c s (f s c))
    (own : ∀ s, ∀ c < 256, Q ((f s c).reg (Addr.CELL_STATE c))) : ∀ {l : List Nat}, (∀ c ∈ l, c < 256) → ∀ s,
    (l.foldl f s).mem = s.mem ∧ (∀ i ∈ l, Q ((l.foldl f s).reg (Addr.CELL_STATE i))) ∧
      ∀ i < 256, i ∉ l → (l.foldl f s).reg (Addr.CELL_STATE i) = s.reg (Addr.CELL_STATE i)
  | [], _, _ => ⟨rfl, nofun, fun _ _ _ => rfl⟩
  | c :: l, bound, s => by
    have hc := bound c (List.mem_cons_self ..)
    obtain ⟨mem, each, others⟩ := foldl_onCell on own (fun i hi => bound i (List.mem_cons_of_mem c hi)) (f s c)
    refine ⟨mem.trans (on s c hc).mem, fun i hi => ?_, fun i small out => ?_⟩
    · by_cases later : i ∈ l
      · exact each i later
      · obtain rfl := (List.mem_cons.mp hi).resolve_right later
        rw [List.foldl_cons, others i hc later]
        exact own s i hc
    · rw [List.mem_cons, not_or] at out
      exact (others i small out.2).trans ((on s c hc).other i small out.1)

theorem cellMask_lt {p : Bytes} {o c : Nat} (hc : c ∈ cellMask p o) : c < 256 := List.mem_range.mp (List.mem_filter.mp hc).1


section
variable {e : Env} {p : Bytes} {s : State} (isOwner : e.owner = true) (len : p.length = 36) (zero : zerosAt p 34 2 = true) (pool : byteAt p 32 ≤ 2)
include isOwner len zero pool

theorem cmdCellAssign_refused {c st : Nat}
    (first : (cellMask p 0).find? (fun i => (assignRefused i (byteAt p 32) (byteAt p 33) s).isSome) = some c)
    (refused : assignRefused c (byteAt p 32) (byteAt p 33) s = some st) : cmdCellAssign e p s = (⟨st, toBE 1 c⟩, s) := by
  have found : (cellMask p 0).findSome? (fun c => (assignRefused c (byteAt p 32) (byteAt p 33) s).map (fun st => (c, st))) = some (c, st) := by
    generalize cellMask p 0 = cells at first
    induction cells with
    | nil => contradiction
    | cons d cells ih =>
      rw [List.find?_cons] at first
      rw [List.findSome?_cons]
      split at first
      · rw [← Option.some.inj first] at refused
        rw [Option.some.inj first] at refused ⊢
        rw [refused]
        rfl
      · rename_i free
        rw [Option.isSome_eq_false_iff.mp free |> Option.isNone_iff_eq_none.mp]
        exact ih first
  simp only [cmdCellAssign]
  rw [if_neg (by simp [isOwner]), if_neg (by simp [len, zero]; omega), found]

theorem cmdCellAssign_assigned (free : ∀ i ∈ cellMask p 0, assignRefused i (byteAt p 32) (byteAt p 33) s = none) :
    cmdCellAssign e p s = if byteAt p 32 = 0 then (ok, (cellMask p 0).foldl (fun s c => unassignCell c s) s)
      else (ok, if byteAt p 32 = 1 then startRelease true (cellMask p 0) ((cellMask p 0).foldl (fun s c =>
          enterPool (byteAt p 32) (byteAt p 33) c s) s)
        else (cellMask p 0).foldl (fun s c => enterPool (byteAt p 32) (byteAt p 33) c s) s) := by
  have found : (cellMask p 0).findSome? (fun c => (assignRefused c (byteAt p 32) (byteAt p 33) s).map (fun st => (c, st))) = none :=
    List.findSome?_eq_none_iff.mpr (fun c hc => by rw [free c hc]; rfl)
  simp only [cmdCellAssign]
  rw [if_neg (by simp [isOwner]), if_neg (by simp [len, zero]; omega), found]
end

/-- The cells of a mask after they were returned to UNCONFIGURED. -/
theorem unassigned {cells : List Nat} (bound : ∀ c ∈ cells, c < 256) (s : State) :
    let t := cells.foldl (fun s c => unassignCell c s) s
    t.mem = s.mem ∧ (∀ i ∈ cells, t.cellState i = 0 ∧ t.cellTenant i = 0 ∧ t.flag (Addr.CELL_STATE i) 5 = true) ∧
      ∀ i < 256, i ∉ cells → t.reg (Addr.CELL_STATE i) = s.reg (Addr.CELL_STATE i) :=
  foldl_onCell (Q := fun v => bits v 0 2 = 0 ∧ bits v 8 8 = 0 ∧ bitAt v 5 = true) (fun s c hc => unassignCell_onCell hc s)
    (fun s c hc => unassignCell_fields hc s) bound s

/-- The cells of a mask after they entered a pool. -/
theorem entered {target tenant : Nat} (pool : target < 4) (ht : tenant < 256) {cells : List Nat} (bound : ∀ c ∈ cells, c < 256) (s : State) :
    let t := cells.foldl (fun s c => enterPool target tenant c s) s
    t.mem = s.mem ∧ (∀ i ∈ cells, t.cellState i = target ∧ t.cellTenant i = tenant) ∧
      ∀ i < 256, i ∉ cells → t.reg (Addr.CELL_STATE i) = s.reg (Addr.CELL_STATE i) :=
  foldl_onCell (Q := fun v => bits v 0 2 = target ∧ bits v 8 8 = tenant) (fun s c hc => onCell_enterPool hc s)
    (fun s c hc => enterPool_fields hc pool ht s) bound s

/-! STORE_CMD (R224) -/

section
variable {t cell v : Nat} {s : State} (bulk : s.cellState cell = 2) (holds : s.cellTenant cell = t) (halted : s.halted (cell / 16) = true)
  (go : bitAt v 0 = true)
include bulk holds halted go

/-- What a read-out leaves: the words read, C256_CORR by the corrected ones, and STORE_STATUS. -/
theorem wrStoreCmd_read : wrStoreCmd t cell v s = (St.OK,
    (((s.draw Topic.integrity.num).2.bump32 (Addr.CELL_C256_CORR cell) ((s.draw Topic.integrity.num).1 % 9)).updCell cell
      (fun x => { x with readOut := (List.range 8).map (fun i => s.storeWord cell ((s.reg (Addr.STORE_ADDR cell) + i) % storeWords)) })).setReg
        (Addr.STORE_STATUS cell) St.OK) := by
  simp only [wrStoreCmd]
  rw [if_neg (by simp [bulk, holds, halted]), if_neg (by simp [go])]
end

/-! Addresses of the cells' block -/

theorem locateIn_outside {a : Nat} {b : Block} (outside : ¬(b.base ≤ a ∧ a < b.base + b.inst * b.stride)) (bs : List Block) :
    locateIn a (b :: bs) = locateIn a bs := by rw [locateIn, if_neg outside]

theorem blockIn_outside {a : Nat} {b : Block} (outside : ¬(b.base ≤ a ∧ a < b.base + b.inst * b.stride)) (bs : List Block) :
    blockIn a (b :: bs) = blockIn a bs := by rw [blockIn, if_neg outside]

theorem locateIn_inside {a k j : Nat} {b : Block} {r : RegRow} (inside : b.base ≤ a ∧ a < b.base + b.inst * b.stride)
    (placed : placeIn ((a - b.base) % b.stride) b.rows = some (r, k, j, false)) (bs : List Block) :
    locateIn a (b :: bs) = some ⟨b.id, (a - b.base) / b.stride, r, k, j, false, a⟩ := by
  rw [locateIn, if_pos inside]
  simp only [placed, Bool.false_eq_true, ↓reduceIte]

/-- An address of the block of a cell. -/
def cellAddr (c o : Nat) : Nat := 0x10000000 + c * 0x100000 + o

section
variable {c o : Nat} (hc : c < 256) (ho : o < 0x100000)
include hc ho

theorem locate_cell {r : RegRow} {k j : Nat} (placed : placeIn o cellRegs = some (r, k, j, false)) :
    locate (cellAddr c o) = some ⟨.cell, c, r, k, j, false, cellAddr c o⟩ := by
  unfold locate blocks
  iterate 19 rw [locateIn_outside (by simp only [cellAddr]; omega)]
  have number : (cellAddr c o - 0x10000000) / 0x100000 = c := by simp only [cellAddr]; omega
  have offset : (cellAddr c o - 0x10000000) % 0x100000 = o := by simp only [cellAddr]; omega
  rw [locateIn_inside (by simp only [cellAddr]; omega) (by simp only [offset]; exact placed)]
  simp only [number]

theorem blockIn_cell : blockIn (cellAddr c o) blocks = some (.cell, c) := by
  unfold blocks
  iterate 19 rw [blockIn_outside (by simp only [cellAddr]; omega)]
  have number : (cellAddr c o - 0x10000000) / 0x100000 = c := by simp only [cellAddr]; omega
  rw [blockIn, if_pos (by simp only [cellAddr]; omega)]
  simp only [number]

theorem cellAddr_mod : cellAddr c o % 0x100000 = o := by
  simp only [cellAddr]
  omega
end

theorem storeCmd_addr (c : Nat) : Addr.STORE_CMD c = cellAddr c 0x204 := by
  simp only [Addr.STORE_CMD, cellAddr]
  omega

/-- A word that may be written, of a register that is there and is no RO or RC one, takes the write by its own rules. -/
theorem writeWord_located {e : Env} {a v : Nat} {s : State} {l : Loc} (may : s.mayWriteWord e a = true) (at_ : locate a = some l)
    (present : l.absent s = false) (access : l.row.acc ≠ .ro ∧ l.row.acc ≠ .rc) : writeWord e a v s = writeLoc e a v l s := by
  obtain ⟨b, placed⟩ := Option.isSome_iff_exists.mp (blockIn_of_locateIn at_)
  unfold writeWord
  rw [placed]
  dsimp only
  rw [if_neg (by simp [may]), at_]
  dsimp only
  rw [if_neg (by simp [present])]
  split
  · exact absurd ‹_› access.1
  · exact absurd ‹_› access.2
  all_goals rfl

theorem writeWord_storeCmd {e : Env} {cell v : Nat} {s : State} (hc : cell < 256) (held : s.cellHeldBy e.sessTenant cell = true) :
    writeWord e (Addr.STORE_CMD cell) v s = wrStoreCmd e.sessTenant cell v s := by
  have small : 0x204 < 0x100000 := by decide
  have may : s.mayWriteWord e (Addr.STORE_CMD cell) = true := by
    rw [storeCmd_addr, State.mayWriteWord, isStoreCtl, State.tenantReads, blockIn_cell hc small, cellAddr_mod hc small]
    simpa using held
  have at_ : locate (Addr.STORE_CMD cell) = some ⟨.cell, cell,
      ⟨0x204, 1, 0x0, 1, false, .wo, 0x0, 0x1, 0x0, 0x1⟩, 0, 0, false, cellAddr cell 0x204⟩ := by
    rw [storeCmd_addr]
    exact locate_cell hc small (by decide)
  rw [writeWord_located may at_ rfl ⟨nofun, nofun⟩]
  simp only [writeLoc, ↓reduceIte]

theorem sameRegsBut_read {cell n : Nat} (w : List W256) (s : State) (a : Nat) (other : a ∉ [Addr.STORE_STATUS cell, Addr.CELL_C256_CORR cell]) :
    ((((s.draw Topic.integrity.num).2.bump32 (Addr.CELL_C256_CORR cell) n).updCell cell (fun x => { x with readOut := w })).setReg
      (Addr.STORE_STATUS cell) St.OK).reg a = s.reg a := by
  simp only [List.mem_cons, List.not_mem_nil, or_false, not_or] at other
  have corrected : ((s.draw Topic.integrity.num).2.bump32 (Addr.CELL_C256_CORR cell) n).reg a = s.reg a :=
    (State.reg_bump32_other _ other.2 n).trans (State.reg_of_regs rfl a)
  rw [State.reg_setReg_other other.1]
  exact (State.reg_of_regs rfl a).trans corrected

/-- Settles O14: CELL_ASSIGN by `unassigned` and `entered`, STORE_CMD by `wrStoreCmd_read`. -/
theorem cellCommandsComplete : Obligations.CellCommandsComplete := by
  unfold Obligations.CellCommandsComplete
  refine ⟨fun c x s p h => ?_, fun t cell s hc zeroing => ?_⟩
  · dsimp only
    refine ⟨fun isOwner len zero pool free => ?_, fun isOwner len zero pool i st first refused => ?_, fun len =>
        ?_, fun cell v hc bulk holds halted go => ?_⟩
    · have acts := cmdCellAssign_assigned (envOf_owner isOwner c) len zero pool free
      have bound (i : Nat) (hi : i ∈ cellMask p 0) : i < 256 := cellMask_lt hi
      by_cases target : byteAt p 32 = 0
      · rw [if_pos target] at acts
        obtain ⟨mem, each, others⟩ := unassigned bound (begun c x s)
        refine completes_acts (f := cmdCellAssign) rfl h (by decide) (by decide) acts ⟨fun _ => each, fun ne => absurd target ne, fun i hi out =>
            ?_, ?_⟩
        · exact ⟨State.field_congr (others i hi out) 0 2, State.field_congr (others i hi out) 8 8⟩
        · exact sameMemory_of_mem (mem.trans (begun_mem c x s))
      · rw [if_neg target] at acts
        obtain ⟨mem, each, others⟩ := entered (target := byteAt p 32) (tenant := byteAt p 33) (by omega) (byteAt_lt p 33) bound (begun c x s)
        have after : SamePool ((cellMask p 0).foldl (fun s c => enterPool (byteAt p 32) (byteAt p 33) c s) (begun c x s))
            (if byteAt p 32 = 1 then startRelease true (cellMask p 0) ((cellMask p 0).foldl (fun s c =>
                enterPool (byteAt p 32) (byteAt p 33) c s) (begun c x s))
              else (cellMask p 0).foldl (fun s c => enterPool (byteAt p 32) (byteAt p 33) c s) (begun c x s)) := by
          split
          · exact samePool_startRelease bound _
          · exact .refl _
        refine completes_acts (f := cmdCellAssign) rfl h (by decide) (by decide) acts ⟨fun eq => absurd eq target, fun _ i hi =>
            ?_, fun i hi out => ?_, ?_⟩
        · exact ⟨(after.cell i (bound i hi)).1.trans (each i hi).1, (after.cell i (bound i hi)).2.trans (each i hi).2⟩
        · exact ⟨(after.cell i hi).1.trans (State.field_congr (others i hi out) 0 2), (after.cell i hi).2.trans (State.field_congr
            (others i hi out) 8 8)⟩
        · exact sameMemory_of_mem (after.mem.trans (mem.trans (begun_mem c x s)))
    · exact completes_acts (f := cmdCellAssign) rfl h (by decide) (by decide)
        (cmdCellAssign_refused (envOf_owner isOwner c) len zero pool first refused) rfl
    · refine ⟨(cmdCellQuery (envOf c x) p (begun c x s)).1, ?_, ?_, completes_of (f := cmdCellQuery) rfl h (by decide) (by decide) rfl ?_⟩
      all_goals rw [cmdCellQuery, if_neg (by simp [len])]
      simp only [List.length_flatMap]
      rw [List.map_congr_left (g := fun _ => 4) (fun c _ => ?_)]
      · simp [Nat.mul_comm]
      · split
        · simp [length_toBE]
        · rfl
    · have held : (begun c x s).cellHeldBy (envOf c x).sessTenant cell = true := by
        simp [State.cellHeldBy, bulk, holds, envOf]
      have address : Addr.STORE_CMD cell < 2 ^ 32 ∧ Addr.STORE_CMD cell % 4 = 0 := by
        simp only [Addr.STORE_CMD]
        omega
      refine completes_written rfl h address.1 address.2 v.isLt
        ((writeWord_storeCmd hc held).trans (wrStoreCmd_read bulk holds halted (by simpa [bitAt] using go))) ⟨?_, ?_, ?_, ?_⟩
      · exact congrArg CellX.readOut (tabGet_tabSet_same _ _ _ _)
      · exact State.reg_setReg_same _ _ _
      · exact sameRegsBut_read _ _
      · exact sameMemory_of_mem (begun_mem c x s)
  · have row : exec (.zeroingDone t cell) s = .next ((advance t s).setFlag (Addr.CELL_STATE cell) 5 false) := by
      show execZeroingDone t cell s = _
      rw [execZeroingDone, if_pos ⟨hc, zeroing⟩]
    refine ⟨_, row, State.flag_setFlag _ (by omega) _, fun a other => ?_, ?_, ?_, sameMemory_of_mem rfl⟩
    · exact State.reg_setFlag_other _ (by simpa using other) _ _
    · exact State.field_setFlag_apart _ (by omega) (by omega) _
    · exact State.field_setFlag_apart _ (by omega) (by omega) _
end Sys2Proof.Machine

/-!
PROOFS. The match stages (R111, R115, R139): what a stage of a pass counts and what it keeps of its packet.
-/
namespace Sys2Proof.Machine

/-! What a template keeps of a packet (R126) -/

/-- What no operation of a template changes. -/
structure Pkt.SamePass (q q' : Pkt) : Prop where
  id : q'.id = q.id
  pass : q'.pass = q.pass
  epoch : q'.epoch = q.epoch
  bytes : q'.bytes = q.bytes

theorem Pkt.SamePass.refl (q : Pkt) : q.SamePass q := ⟨rfl, rfl, rfl, rfl⟩

theorem Pkt.SamePass.trans {q r p : Pkt} (h : q.SamePass r) (h' : r.SamePass p) : q.SamePass p :=
  ⟨h'.id.trans h.id, h'.pass.trans h.pass, h'.epoch.trans h.epoch, h'.bytes.trans h.bytes⟩

theorem samePass_ite {c : Prop} [Decidable c] {q r p : Pkt} (h : q.SamePass r) (h' : q.SamePass p) : q.SamePass (if c then r else p) := by
  split
  · exact h
  · exact h'

theorem samePass_applyOp {ex : Nat → Bool} {free : Bool} {param stage w : Nat} {q q' : Pkt} (applied : applyOp ex free param stage w q = some q') :
    q.SamePass q' := by
  unfold applyOp at applied
  dsimp only at applied
  split at applied
  · exact nomatch applied
  · split at applied
    all_goals
      obtain rfl := Option.some.inj applied
      first
      | exact ⟨rfl, rfl, rfl, rfl⟩
      | exact samePass_ite ⟨rfl, rfl, rfl, rfl⟩ ⟨rfl, rfl, rfl, rfl⟩

theorem samePass_runOps (ex : Nat → Bool) (free : Bool) (param stage : Nat) :
    ∀ (ws : List Nat) (a : Pkt × Nat), a.1.SamePass (runOps ex free param stage ws a).1
  | [], _ => .refl _
  | w :: ws, (q, n) => by
    rw [runOps]
    split
    · exact .refl q
    · split
      · rename_i q' applied
        exact (samePass_applyOp applied).trans (samePass_runOps ex free param stage ws (q', n))
      · exact samePass_runOps ex free param stage ws (q, n + 1)

theorem Pkt.SamePass.template {q : Pkt} {a : Pkt × Nat} (h : q.SamePass a.1) {s : State} {stage bank templ param : Nat} {free : Bool} :
    q.SamePass (runTemplate s stage bank templ param free a).1 := h.trans (samePass_runOps _ _ _ _ _ _)

/-- A miss template, where it runs. -/
theorem Pkt.SamePass.missed {q : Pkt} {a : Pkt × Nat} (h : q.SamePass a.1) {s : State} {stage bank templ param : Nat} {free : Bool} {c : Prop}
    [Decidable c] : q.SamePass (if c then runTemplate s stage bank templ param free a else a).1 := by
  split
  · exact h.template
  · exact h

/-! Lookups speak of the tables alone (R115 to R118) -/

theorem exactHit_of_mt {s t : State}
    (same : t.mt = s.mt) (stage bank k tenant : Nat) : exactHit t stage bank k tenant = exactHit s stage bank k tenant := by
  simp only [exactHit, exactMatches, State.exactAt, same]

theorem ternHit_of_mt {s t : State}
    (same : t.mt = s.mt) (stage bank k tenant : Nat) : ternHit t stage bank k tenant = ternHit s stage bank k tenant := by
  simp only [ternHit, ternIndices, State.ternAt, same]

theorem mt_beforeWrites {s t : State} (same : t.mt = s.mt) (zc : t.zc = s.zc) : t.beforeWrites.mt = s.beforeWrites.mt := by
  rw [State.beforeWrites, State.beforeWrites, same, zc]
  split
  · rfl
  · exact same

/-! Packets by their identity -/

theorem State.packet_id {s : State} {id : Nat} {q : Pkt} (found : s.packet id = some q) : q.id = id := by
  simpa using List.find?_some found

@[simp] theorem State.reg_updPacket (s : State) (id : Nat) (f : Pkt → Pkt) (a : Nat) : (s.updPacket id f).reg a = s.reg a := State.reg_of_regs rfl a

theorem State.packet_updPacket {f : Pkt → Pkt} {id : Nat} (named : ∀ q : Pkt, q.id = id → (f q).id = id) (s : State) (i : Nat) :
    (s.updPacket id f).packet i = (s.packet i).map (fun q => if q.id = id then f q else q) := by
  have keeps (q : Pkt) : (if q.id = id then f q else q).id = q.id := by
    split
    · rename_i same
      rw [same, named q same]
    · rfl
  simp only [packet, updPacket, List.find?_map, Function.comp_def, keeps]

theorem State.packet_updPacket_same {s : State} {id : Nat} {q : Pkt} (found : s.packet id = some q) {f : Pkt → Pkt}
    (named : ∀ q : Pkt, q.id = id → (f q).id = id) : (s.updPacket id f).packet id = some (f q) := by
  rw [packet_updPacket named, found, Option.map_some, if_pos (packet_id found)]

theorem State.packet_updPacket_other {f : Pkt → Pkt} {id i : Nat} (named : ∀ q : Pkt, q.id = id → (f q).id = id) (other : i ≠ id) (s : State) :
    (s.updPacket id f).packet i = s.packet i := by
  rw [packet_updPacket named]
  cases found : s.packet i with
  | none => rfl
  | some q => rw [Option.map_some, if_neg (by rw [packet_id found]; exact other)]

/-! A stage of a pass (R115) -/

section
variable (s : State) (q : Pkt) (k : Nat)

/-- The lookups of stage `k` by packet `q`: the exact hit, with whether it was resolved by way, and the ternary hit. -/
def exactHitOf : Option Entry × Bool :=
  match lookupKey s q k (q.epoch % 2) 0 with
  | some key => exactHit s.beforeWrites k (q.epoch % 2) key q.tenant
  | none => (none, false)

def ternHitOf : Option (Nat × Entry) := (lookupKey s q k (q.epoch % 2) 1).bind (fun key => ternHit s.beforeWrites k (q.epoch % 2) key q.tenant)

/-- The packet after the templates of stage `k`, with the number of operations suppressed. -/
def afterTemplates : Pkt × Nat :=
  let bank := q.epoch % 2
  let eh := (exactHitOf s q k).1
  let th := ternHitOf s q k
  let hit := eh.isSome || th.isSome
  let q1 := if hit && q.pass == 1 then { q with hit := true } else q
  let free := q.tenant == owner
  let a1 := match eh with
    | some e => runTemplate s k bank e.template e.param free (q1, 0)
    | none => (q1, 0)
  let a2 := match th with
    | some h => runTemplate s k bank h.2.template h.2.param free a1
    | none => a1
  let mw := bits (s.missAt k bank) (16 * slotKind q.pass) 16
  if ((lookupKey s q k bank 0).isSome || (lookupKey s q k bank 1).isSome) && !hit && bitAt mw 15 then runTemplate s k bank (mw % 4096) 0 true a2
  else a2

theorem samePass_afterTemplates : q.SamePass (afterTemplates s q k).1 := by
  unfold afterTemplates
  dsimp only
  have marked (c : Prop) [Decidable c] : q.SamePass ((if c then { q with hit := true } else q, 0) : Pkt × Nat).1 :=
    samePass_ite ⟨rfl, rfl, rfl, rfl⟩ (.refl q)
  cases (exactHitOf s q k).1 with
  | none =>
    cases ternHitOf s q k with
    | none => exact (marked _).missed
    | some h => exact (marked _).template.missed
  | some e =>
    cases ternHitOf s q k with
    | none => exact (marked _).template.missed
    | some h => exact (marked _).template.template.missed

/-- The counters after the lookups of stage `k`. -/
def countLookups : State :=
  let s1 := if (exactHitOf s q k).1.isSome then s.bump64 (Addr.EXACT_HITS k) else s
  let s2 := if (ternHitOf s q k).isSome then s1.bump64 (Addr.TERN_HITS k) else s1
  let s3 := if (exactHitOf s q k).2 then s2.bump32 (Addr.EXACT_DUAL k) else s2
  if (afterTemplates s q k).2 = 0 then s3 else s3.bump32 (Addr.OPS_SUPPRESSED k) (afterTemplates s q k).2

end

theorem runStage_early {s : State} {q : Pkt} {k : Nat} (early : k < 11) :
    runStage q k [] s =
      let s1 := s.bump64 (if slotKind q.pass = 1 then Addr.VERDICT_LOOKUPS k else Addr.FIRST_LOOKUPS k)
      if readsLost s1 q k (q.epoch % 2) then dropLost q.id s1
      else (countLookups s1 q k).updPacket q.id (fun _ => { (afterTemplates s1 q k).1 with at_ := .stage (k + 1) }) := by
  simp only [runStage, List.foldl_nil]
  rw [if_pos early]
  rfl

/-! Steps of the register file alone -/

/-- `t` is `s` but for its registers. -/
def RegsOnly (s t : State) : Prop := t = { s with regs := t.regs }

theorem RegsOnly.refl (s : State) : RegsOnly s s := rfl

theorem RegsOnly.trans {s t u : State} (h : RegsOnly s t) (h' : RegsOnly t u) : RegsOnly s u := by
  unfold RegsOnly at *
  rw [h', h]

theorem RegsOnly.ite {s t u : State} {c : Prop} [Decidable c] (h : RegsOnly s t) (h' : RegsOnly s u) : RegsOnly s (if c then t else u) := by
  split
  · exact h
  · exact h'

theorem regsOnly_setReg (s : State) (a v : Nat) : RegsOnly s (s.setReg a v) := rfl

/-! What the lookups count -/

theorem reg_bump64_of (a : Nat) (b : Bool) (s : State) : (if b then s.bump64 a else s).reg a = (s.reg a + b2n b) % 2 ^ 64 := by
  cases b with
  | false => exact (Nat.mod_eq_of_lt (s.reg_lt a)).symm
  | true => exact s.reg_bump64 a 1

theorem reg_ite_other {a : Nat} {c : Prop} [Decidable c] {s t : State} (same : t.reg a = s.reg a) : (if c then t else s).reg a = s.reg a := by
  split
  · exact same
  · rfl

section
variable (s : State) (q : Pkt) (k : Nat)

theorem reg_countLookups_other {a : Nat} (exact_ : a ≠ Addr.EXACT_HITS k) (tern : a ≠ Addr.TERN_HITS k)
    (dual : a ≠ Addr.EXACT_DUAL k) (ops : a ≠ Addr.OPS_SUPPRESSED k) : (countLookups s q k).reg a = s.reg a := by
  unfold countLookups
  extract_lets s1 s2 s3
  have h1 : s1.reg a = s.reg a := reg_ite_other (State.reg_bump64_other _ exact_ _)
  have h2 : s2.reg a = s.reg a := (reg_ite_other (State.reg_bump64_other _ tern _)).trans h1
  have h3 : s3.reg a = s.reg a := (reg_ite_other (State.reg_bump32_other _ dual _)).trans h2
  split
  · exact h3
  · exact (State.reg_bump32_other _ ops _).trans h3

theorem reg_countLookups_exact : (countLookups s q k).reg (Addr.EXACT_HITS k) =
    (s.reg (Addr.EXACT_HITS k) + b2n (exactHitOf s q k).1.isSome) % 2 ^ 64 := by
  unfold countLookups
  extract_lets s1 s2 s3
  have h1 : s1.reg (Addr.EXACT_HITS k) = _ := reg_bump64_of _ _ _
  have h2 : s2.reg (Addr.EXACT_HITS k) = s1.reg _ := reg_ite_other (State.reg_bump64_other _ (by simp [Addr.EXACT_HITS, Addr.TERN_HITS]) _)
  have h3 : s3.reg (Addr.EXACT_HITS k) = s2.reg _ := reg_ite_other (State.reg_bump32_other _ (by simp [Addr.EXACT_HITS, Addr.EXACT_DUAL]) _)
  rw [← h1, ← h2, ← h3]
  split
  · rfl
  · exact State.reg_bump32_other _ (by simp [Addr.EXACT_HITS, Addr.OPS_SUPPRESSED]) _

theorem reg_countLookups_tern : (countLookups s q k).reg (Addr.TERN_HITS k) =
    (s.reg (Addr.TERN_HITS k) + b2n (ternHitOf s q k).isSome) % 2 ^ 64 := by
  unfold countLookups
  extract_lets s1 s2 s3
  have h1 : s1.reg (Addr.TERN_HITS k) = s.reg _ := reg_ite_other (State.reg_bump64_other _ (by simp [Addr.EXACT_HITS, Addr.TERN_HITS]) _)
  have h2 : s2.reg (Addr.TERN_HITS k) = _ := reg_bump64_of _ _ _
  have h3 : s3.reg (Addr.TERN_HITS k) = s2.reg _ := reg_ite_other (State.reg_bump32_other _ (by simp [Addr.TERN_HITS, Addr.EXACT_DUAL]) _)
  rw [← h1, ← h2, ← h3]
  split
  · rfl
  · exact State.reg_bump32_other _ (by simp [Addr.TERN_HITS, Addr.OPS_SUPPRESSED]) _

theorem regsOnly_countLookups : RegsOnly s (countLookups s q k) := by
  unfold countLookups
  extract_lets s1 s2 s3
  have h1 : RegsOnly s s1 := (regsOnly_setReg s _ _).ite (.refl s)
  have h2 : RegsOnly s s2 := (h1.trans (regsOnly_setReg s1 _ _)).ite h1
  have h3 : RegsOnly s s3 := (h2.trans (regsOnly_setReg s2 _ _)).ite h2
  exact h3.ite (h3.trans (regsOnly_setReg s3 _ _))
end

theorem lookupKey_of_mt {s t : State}
    (same : t.mt = s.mt) (q : Pkt) (stage bank l : Nat) : lookupKey t q stage bank l = lookupKey s q stage bank l := by
  have words : t.keyselAt = s.keyselAt := by unfold State.keyselAt; rw [same]
  rw [lookupKey, words, ← lookupKey]

theorem readsLost_of_mt {s t : State} (same : t.mt = s.mt) (q : Pkt) (stage bank : Nat) : readsLost t q stage bank = readsLost s q stage bank := by
  have miss : t.missAt = s.missAt := by unfold State.missAt; rw [same]
  have words : wordsRead t q stage bank = wordsRead s q stage bank := by
    unfold wordsRead
    rw [funext (lookupKey_of_mt same q stage bank), funext₂ (exactHit_of_mt same stage bank), funext₂ (ternHit_of_mt same stage bank), miss, same]
  rw [readsLost, words, same, readsLost]

theorem exactHitOf_of_mt {s t : State} (same : t.mt = s.mt) (zc : t.zc = s.zc) (q : Pkt) (k : Nat) :
    (exactHitOf t q k).1 = (lookupKey s q k (q.epoch % 2) 0).bind (fun key => (exactHit s.beforeWrites k (q.epoch % 2) key q.tenant).1) := by
  rw [exactHitOf, lookupKey_of_mt same]
  cases lookupKey s q k (q.epoch % 2) 0 with
  | none => rfl
  | some key => exact congrArg Prod.fst (exactHit_of_mt (mt_beforeWrites same zc) _ _ _ _)

theorem ternHitOf_of_mt {s t : State} (same : t.mt = s.mt) (zc : t.zc = s.zc) (q : Pkt) (k : Nat) :
    ternHitOf t q k = (lookupKey s q k (q.epoch % 2) 1).bind (fun key => ternHit s.beforeWrites k (q.epoch % 2) key q.tenant) := by
  rw [ternHitOf, lookupKey_of_mt same]
  exact congrArg _ (funext fun key => ternHit_of_mt (mt_beforeWrites same zc) _ _ _ _)

theorem exec_stageLookup_early {t id k : Nat} {chk : FifoRead} {q : Pkt} {s : State} (found : s.packet id = some q) (early : k < 11)
    (there : q.at_ = .stage k) : exec (.stageLookup t id k ⟨[], chk⟩) s = .next (runStage q k [] (advance t s)) := by
  have row : exec (.stageLookup t id k ⟨[], chk⟩) s = execStageLookup t id k ⟨[], chk⟩ s := rfl
  rw [row, execStageLookup, found]
  exact congrArg _ (if_pos ⟨by omega, there⟩)

theorem exec_recircPassStart_next {t port id : Nat} {rest : List Nat} {s : State} (head : tabGet [] port s.mt.recircQ = id :: rest) :
    exec (.recircPassStart t port) s = .next { (advance t s).updPacket id (fun q => { q with pass := q.pass + 1, at_ := .stage 0 }) with
      mt.recircQ := tabSet [] port rest s.mt.recircQ } := by
  have row : exec (.recircPassStart t port) s = execRecircPassStart t port s := rfl
  rw [row, execRecircPassStart, head]

/-- Stage `k` where no word it reads is uncorrectable: its counters, and the packet before the next stage of its pass. -/
theorem runStage_good {s : State} {q : Pkt} {k count : Nat} (early : k < 11) (good : readsLost s q k (q.epoch % 2) = false)
    (slot : (if slotKind q.pass = 1 then Addr.VERDICT_LOOKUPS k else Addr.FIRST_LOOKUPS k) = count) :
    ∃ q', runStage q k [] s = (countLookups (s.bump64 count) q k).updPacket q.id (fun _ => q') ∧ q'.at_ = .stage (k + 1) ∧ q.SamePass q' := by
  obtain ⟨id, pass, epoch, bytes⟩ := samePass_afterTemplates (s.bump64 count) q k
  refine ⟨{ (afterTemplates (s.bump64 count) q k).1 with at_ := .stage (k + 1) }, ?_, rfl, id, pass, epoch, bytes⟩
  rw [runStage_early early, slot]
  exact if_neg (by rw [readsLost_of_mt (s := s) (by rfl), good]; exact Bool.false_ne_true)

@[simp] theorem State.mt_updPacket (s : State) (id : Nat) (f : Pkt → Pkt) : (s.updPacket id f).mt = s.mt := rfl
@[simp] theorem State.mem_updPacket (s : State) (id : Nat) (f : Pkt → Pkt) : (s.updPacket id f).mem = s.mem := rfl

theorem packet_afterStage {b : State} {id : Nat} {q q' : Pkt} (k : Nat) (found : b.packet id = some q) (named : q'.id = id) :
    ((countLookups b q k).updPacket id (fun _ => q')).packet id = some q' := by
  refine State.packet_updPacket_same (q := q) ?_ fun _ _ => named
  rw [regsOnly_countLookups b q k]
  exact found

theorem packet_afterStage_other {b : State} {id i : Nat} {q q' : Pkt} (k : Nat) (named : q'.id = id) (other : i ≠ id) :
    ((countLookups b q k).updPacket id (fun _ => q')).packet i = b.packet i := by
  rw [State.packet_updPacket_other (fun _ _ => named) other, regsOnly_countLookups b q k]
  rfl

theorem lookups_apart {q : Pkt} {k count : Nat} (slot : (if slotKind q.pass = 1 then Addr.VERDICT_LOOKUPS k else Addr.FIRST_LOOKUPS k) = count) :
    count ≠ Addr.EXACT_HITS k ∧ count ≠ Addr.TERN_HITS k ∧ count ≠ Addr.EXACT_DUAL k ∧ count ≠ Addr.OPS_SUPPRESSED k ∧ count ≠ Addr.ZC_ROOT := by
  rw [← slot]
  simp only [Addr.VERDICT_LOOKUPS, Addr.FIRST_LOOKUPS, Addr.EXACT_HITS, Addr.TERN_HITS, Addr.EXACT_DUAL, Addr.OPS_SUPPRESSED, Addr.ZC_ROOT]
  split <;> omega

/-- Settles O28: a stage changes its counters and the packet, whose pass its templates keep. -/
theorem stagesLookUpInOrder : Obligations.StagesLookUpInOrder := by
  unfold Obligations.StagesLookUpInOrder
  refine ⟨fun t id k chk q s found early there => ?_, fun t port id rest q s head found => ?_⟩
  · dsimp only
    intro good
    generalize slot : (if slotKind q.pass = 1 then Addr.VERDICT_LOOKUPS k else Addr.FIRST_LOOKUPS k) = count
    obtain ⟨q', ran, there', kept⟩ := runStage_good (s := advance t s) early ((readsLost_of_mt (by rfl) q _ _).trans good) slot
    obtain ⟨notExact, notTern, notDual, notOps, notZc⟩ := lookups_apart slot
    have named : q.id = id := State.packet_id found
    have counted : ((advance t s).bump64 count).reg count = (s.reg count + 1) % 2 ^ 64 := by rw [State.reg_bump64, State.advance_reg]
    have after {a : Nat} (other : a ≠ count) : ((advance t s).bump64 count).reg a = s.reg a := State.reg_bump64_other _ other 1
    have mt : ((advance t s).bump64 count).mt = s.mt := rfl
    have mem : ((advance t s).bump64 count).mem = s.mem := rfl
    have packets : ((advance t s).bump64 count).packet = s.packet := rfl
    generalize (advance t s).bump64 count = b at ran counted after mt mem packets
    have zc : b.zc = s.zc := after notZc.symm
    have only := regsOnly_countLookups b q k
    have mt' : (countLookups b q k).mt = s.mt := by rw [only]; exact mt
    have mem' : (countLookups b q k).mem = s.mem := by rw [only]; exact mem
    rw [named] at ran
    refine ⟨_, q', (exec_stageLookup_early found early there).trans (congrArg _ ran),
      packet_afterStage k (packets ▸ found) (kept.id.trans named), there', kept.pass, kept.epoch, kept.bytes, ?_, ?_, ?_, ?_, ?_, ?_, ?_⟩
    · rw [State.reg_updPacket, reg_countLookups_other b q k notExact notTern notDual notOps, counted]
    · rw [State.reg_updPacket, ← exactHitOf_of_mt mt zc, ← after notExact.symm]
      exact reg_countLookups_exact b q k
    · rw [State.reg_updPacket, ← ternHitOf_of_mt mt zc, ← after notTern.symm]
      exact reg_countLookups_tern b q k
    · intro a other
      simp only [List.mem_cons, List.not_mem_nil, or_false, not_or] at other
      obtain ⟨counts, exact_, tern, dual, ops⟩ := other
      rw [State.reg_updPacket]
      exact (reg_countLookups_other b q k exact_ tern dual ops).trans (after counts)
    · intro i other
      rw [packet_afterStage_other k (kept.id.trans named) other, packets]
    · rw [State.mt_updPacket, mt']
    · rw [State.mem_updPacket, mem']
  · refine ⟨_, exec_recircPassStart_next head, ?_, tabGet_tabSet_same _ _ _ _, fun i other => ?_, rfl⟩
    · exact State.packet_updPacket_same (s := advance t s) (f := fun q => { q with pass := q.pass + 1, at_ := .stage 0 }) found fun _ h => h
    · exact State.packet_updPacket_other (f := fun q => { q with pass := q.pass + 1, at_ := .stage 0 }) (fun _ h => h) other (advance t s)
end Sys2Proof.Machine

/-!
PROOFS. The register instructions of a header core (R93, R100, R101).
-/
namespace Sys2Proof.Machine

/-! Functions and fields of registers (R100, R101) -/

/-- FN on the numbers of two registers, modulo 2^64, is FN on the words. -/
theorem hcFn_toNat {fn : Nat} (hfn : fn < 8) (S T : W64) : BitVec.ofNat 64 (hcFn fn S.toNat T.toNat) = fnResult fn S T := by
  apply BitVec.eq_of_toNat_eq
  have hs := S.isLt
  have ht := T.isLt
  rw [BitVec.toNat_ofNat]
  interval_cases fn
  · exact (BitVec.toNat_add S T).symm
  · show (S.toNat + 2 ^ 64 - T.toNat % 2 ^ 64) % 2 ^ 64 = (S - T).toNat
    rw [BitVec.toNat_sub]
    omega
  · show (S.toNat &&& T.toNat) % 2 ^ 64 = (S &&& T).toNat
    rw [BitVec.toNat_and, Nat.mod_eq_of_lt (Nat.and_lt_two_pow _ ht)]
  · show (S.toNat ||| T.toNat) % 2 ^ 64 = (S ||| T).toNat
    rw [BitVec.toNat_or, Nat.mod_eq_of_lt (Nat.or_lt_two_pow hs ht)]
  · show (S.toNat ^^^ T.toNat) % 2 ^ 64 = (S ^^^ T).toNat
    rw [BitVec.toNat_xor, Nat.mod_eq_of_lt (Nat.xor_lt_two_pow hs ht)]
  · show S.toNat * 2 ^ (T.toNat % 64) % 2 ^ 64 = (S <<< (T.toNat % 64)).toNat
    rw [BitVec.toNat_shiftLeft, Nat.shiftLeft_eq]
  · show S.toNat / 2 ^ (T.toNat % 64) % 2 ^ 64 = (S >>> (T.toNat % 64)).toNat
    rw [BitVec.toNat_ushiftRight, Nat.shiftRight_eq_div_pow, Nat.mod_eq_of_lt (lt_of_le_of_lt (Nat.div_le_self _ _) hs)]
  · exact Nat.mod_eq_of_lt hs

/-- A field of the metadata bus, as it reads after another write, and after its own. -/
theorem busBits_setBus {off w : Nat} (fits : off + w ≤ 1024) (b : W1024) (v : Nat) : busBits (setBus b off w v) off w = v % 2 ^ w := by
  rw [busBits, setBus, BitVec.toNat_ofNat, Nat.mod_eq_of_lt (putBits_lt b.isLt fits v), bits_putBits_same]

theorem busBits_setBus_apart {off w off' w' : Nat} (apart : off + w ≤ off' ∨ off' + w' ≤ off) (fits : off + w ≤ 1024) (b : W1024) (v : Nat) :
    busBits (setBus b off w v) off' w' = busBits b off' w' := by
  rw [busBits, setBus, BitVec.toNat_ofNat, Nat.mod_eq_of_lt (putBits_lt b.isLt fits v), bits_putBits_other apart, busBits]

theorem width64_eq {w : Nat} (hw : w < 64) : width64 (w % 64) = if w = 0 then 64 else w := by rw [Nat.mod_eq_of_lt hw, width64]

/-! The register instructions -/

section
variable {n : Nat} {s : State} {c : Core}

theorem exec_hcNop (hpc : c.pc ≠ 4095) (h : coreAt n encNop s c) : exec (.hcNop n) s = .next (s.updCore n (fun _ => goesOn c)) := by
  show Host.Outcome.next (hcRun n _ _ s) = _
  rw [hcRun_of_coreAt h, hcLand_next hpc]

theorem exec_hcLd {d src sz off : Nat} {x : Bool} (hd : d < 16) (hsrc : src < 16) (hsz : sz < 4) (hoff : off < 512)
    (h : coreAt n (encLd d src sz x off) s c) : exec (.hcLd n d src sz x off) s = .next (hcLand n c.pc s
      (hcLoad (frameLength s c) (frameBytes s c) c.issuing d (c.c + off + (if x then c.reg src % 1024 else 0)) (2 ^ sz))) := by
  show Host.Outcome.next (hcRun n _ _ s) = _
  rw [hcRun_of_coreAt h, Nat.mod_eq_of_lt hd, Nat.mod_eq_of_lt hsrc, Nat.mod_eq_of_lt hsz, Nat.mod_eq_of_lt hoff]
  rfl

end

/-- Settles O21: each register instruction by the outcome of its action. -/
theorem headerCoreRegisterInstructions : Obligations.HeaderCoreRegisterInstructions := by
  unfold Obligations.HeaderCoreRegisterInstructions
  intro n s c hpc
  refine ⟨exec_hcNop hpc, fun d src sz x off hd hsrc hsz hoff h => ?_, fun d k imm hd hk himm h => ?_, fun d src tgt fn hd hsrc htgt hfn h => ?_,
    fun d src fn imm hd hsrc hfn himm h => ?_, fun d src pos wid hd hsrc hpos hwid h => ?_, fun src off wid hsrc hoff hwid fits h => ?_⟩
  · dsimp only
    rw [exec_hcLd hd hsrc hsz hoff h]
    refine ⟨fun inFrame inWindow => ?_, fun past => ?_, fun inFrame past => ?_⟩
    · rw [hcLoad, if_neg (Nat.not_lt.mpr inFrame), if_neg (Nat.not_lt.mpr inWindow)]
      exact hcLand_goesOn (c' := { c with regs := c.regs.set d (BitVec.ofNat 64 (be (frameBytes s c) _ _)) }) rfl hpc
    · rw [hcLoad, if_pos past]
      exact congrArg _ (hcLand_fail (by decide) n c.pc s c.issuing)
    · rw [hcLoad, if_neg (Nat.not_lt.mpr inFrame), if_pos past]
      exact congrArg _ (hcLand_fail (by decide) n c.pc s c.issuing)
  · refine ⟨putBits (c.reg d) (16 * k) 16 imm, fun q hq => ?_, ?_⟩
    · split
      · rename_i same
        rw [same, bits_putBits_same]
        exact Nat.mod_eq_of_lt himm
      · exact bits_putBits_other (by omega) _ _
    · show Host.Outcome.next (hcRun n _ _ s) = _
      rw [hcRun_of_coreAt h, Nat.mod_eq_of_lt hd, Nat.mod_eq_of_lt hk]
      exact hcLand_goesOn (c' := { c with regs := c.regs.set d (BitVec.ofNat 64 (putBits (c.reg d) _ _ imm)) }) rfl hpc
  · show Host.Outcome.next (hcRun n _ _ s) = _
    rw [hcRun_of_coreAt h, Nat.mod_eq_of_lt hd, Nat.mod_eq_of_lt hsrc, Nat.mod_eq_of_lt htgt, Nat.mod_eq_of_lt (by omega : fn < 16), ← hcFn_toNat hfn]
    exact hcLand_goesOn (c' := { c with regs := c.regs.set d (BitVec.ofNat 64 _) }) rfl hpc
  · have imm_toNat : (BitVec.ofNat 64 imm).toNat = imm := Nat.mod_eq_of_lt (by omega)
    show Host.Outcome.next (hcRun n _ _ s) = _
    rw [hcRun_of_coreAt h, Nat.mod_eq_of_lt hd, Nat.mod_eq_of_lt hsrc, Nat.mod_eq_of_lt (by omega : fn < 16), ← hcFn_toNat hfn, imm_toNat,
      Nat.mod_eq_of_lt (by omega : imm < 2 ^ 14)]
    exact hcLand_goesOn (c' := { c with regs := c.regs.set d (BitVec.ofNat 64 _) }) rfl hpc
  · show Host.Outcome.next (hcRun n _ _ s) = _
    rw [hcRun_of_coreAt h, Nat.mod_eq_of_lt hd, Nat.mod_eq_of_lt hsrc, Nat.mod_eq_of_lt hpos, width64_eq hwid]
    exact hcLand_goesOn (c' := { c with regs := c.regs.set d (BitVec.ofNat 64 _) }) rfl hpc
  · refine ⟨setBus c.bus off (if wid = 0 then 64 else wid) (c.reg src), busBits_setBus fits _ _, fun o w apart => ?_, ?_⟩
    · exact busBits_setBus_apart (by omega) fits _ _
    · show Host.Outcome.next (hcRun n _ _ s) = _
      rw [hcRun_of_coreAt h, Nat.mod_eq_of_lt hsrc, Nat.mod_eq_of_lt hoff, width64_eq hwid]
      exact hcLand_goesOn (c' := { c with bus := setBus c.bus off _ (c.reg src) }) rfl hpc
end Sys2Proof.Machine

/-!
PROOFS. The packet buffer and its FIFOs (R68, R70, R77, R78): what flow control, pages, commits and rewinds leave alone.
-/
namespace Sys2Proof.Machine

/-! PAUSE and PFC frames (R70, R290) -/

/-- The register at `a` counts PAUSE or PFC frames of a priority. -/
def PauseReg (a : Nat) : Prop := ∃ p k j, k < 8 ∧ j < 8 ∧ (a = Addr.PFC_RX p k j ∨ a = Addr.PFC_TX p k j)

/-- `t` is `s` after PAUSE and PFC frames were sent and taken: their counters, the pauses in force, the XOFFs that are out, the active lists and
what left the device. -/
structure Paused (s t : State) : Prop where
  only : t = { s with
    regs := t.regs, out := t.out
    tm := { s.tm with active := t.tm.active }
    ports := { s.ports with xoff := t.ports.xoff, paused := t.ports.paused } }
  reg : ∀ a, ¬ PauseReg a → t.reg a = s.reg a
  out : s.out <+: t.out

theorem Paused.refl (s : State) : Paused s s := ⟨rfl, fun _ _ => rfl, List.prefix_rfl⟩

theorem Paused.trans {s t u : State} (h : Paused s t) (h' : Paused t u) : Paused s u where
  only := by rw [h'.only, h.only]
  reg a ha := (h'.reg a ha).trans (h.reg a ha)
  out := h.out.trans h'.out

theorem Paused.ite {s t u : State} {c : Prop} [Decidable c] (h : Paused s t) (h' : Paused s u) : Paused s (if c then t else u) := by
  split
  · exact h
  · exact h'

theorem Paused.foldl {α : Type} {f : State → α → State} : ∀ {l : List α} (_ : ∀ x ∈ l, ∀ s, Paused s (f s x)) (s : State), Paused s (l.foldl f s)
  | [], _, s => .refl s
  | x :: _, hf, s => (hf x (List.mem_cons_self ..) s).trans (Paused.foldl (fun y hy => hf y (List.mem_cons_of_mem _ hy)) _)

theorem paused_received {k j : Nat} (hk : k < 8) (hj : j < 8) (p n : Nat) (s : State) : Paused s (s.bump32 (Addr.PFC_RX p k j) n) :=
  ⟨rfl, fun _ ha => State.reg_bump32_other s (fun same => ha ⟨p, k, j, hk, hj, .inl same⟩) n, List.prefix_rfl⟩

theorem paused_sent {k j : Nat} (hk : k < 8) (hj : j < 8) (p n : Nat) (s : State) : Paused s (s.bump32 (Addr.PFC_TX p k j) n) :=
  ⟨rfl, fun _ ha => State.reg_bump32_other s (fun same => ha ⟨p, k, j, hk, hj, .inr same⟩) n, List.prefix_rfl⟩

theorem paused_set (s : State) (xoff paused : Tab Nat) : Paused s { s with ports.xoff := xoff, ports.paused := paused } :=
  ⟨rfl, fun _ _ => rfl, List.prefix_rfl⟩

theorem paused_rejoin (L : Nat) (s : State) : Paused s (rejoin L s) := by
  unfold rejoin
  exact (Paused.refl s).ite ⟨rfl, fun _ _ => rfl, List.prefix_rfl⟩

theorem lt_of_mem_setBits {v n i : Nat} (h : i ∈ setBits v n) : i < n := by
  simp [setBits] at h
  exact h.1

theorem paused_receivePause {k : Nat} (hk : k < 8) (p L : Nat) (pause : Bool) (enables : Nat) (times : List Nat) (s : State) :
    Paused s (receivePause p k L pause enables times s) := by
  unfold receivePause
  refine Paused.trans ?_ (paused_rejoin _ _)
  split
  · have counted := paused_received hk (by decide : 0 < 8) p 1 s
    exact (counted.trans (paused_set _ _ _)).ite counted
  · refine Paused.foldl (fun i hi s => ?_) s
    have counted := paused_received hk (lt_of_mem_setBits hi) p 1 s
    exact (counted.trans (paused_set _ _ _)).ite counted

theorem paused_putPause {k : Nat} (hk : k < 8) (p L : Nat) (pause : Bool) (enables : Nat) (times : List Nat) (s : State) :
    Paused s (putPause p k L pause enables times s) := by
  unfold putPause
  exact (paused_receivePause hk p L pause enables times s).ite (Paused.ite ⟨rfl, fun _ _ => rfl, List.prefix_append _ _⟩ (.refl s))

theorem paused_sendPfc {k prio : Nat} (hk : k < 8) (hprio : prio ≤ 8) (p L q : Nat) (s : State) : Paused s (sendPfc p k L prio q s) := by
  unfold sendPfc
  split
  · exact .refl s
  · split
    · exact (paused_sent hk (by decide) p 1 s).trans (paused_putPause hk ..)
    · exact (paused_sent hk (by omega) p 1 s).trans (paused_putPause hk ..)

theorem paused_xoffRise {k prio : Nat} (hk : k < 8) (hprio : prio ≤ 8) (p L : Nat) (s : State) : Paused s (xoffRise p k L prio s) := by
  unfold xoffRise
  exact ((paused_sendPfc hk hprio p L _ s).trans (paused_set _ _ _)).ite (.refl s)

theorem paused_xonFall {k prio : Nat} (hk : k < 8) (hprio : prio ≤ 8) (p L : Nat) (s : State) : Paused s (xonFall p k L prio s) := by
  unfold xonFall
  exact ((paused_sendPfc hk hprio p L _ s).trans (paused_set _ _ _)).ite (.refl s)

theorem subPortsOf_le (mode : Nat) : subPortsOf mode ≤ 8 := by
  unfold subPortsOf
  match mode with
  | 0 | 1 | 2 | 3 | 4 => decide
  | _ + 5 => exact Nat.zero_le _

theorem State.placeOf_lt {s : State} {L p k : Nat} (h : s.placeOf L = some (p, k)) : k < 8 := by
  unfold placeOf at h
  dsimp only at h
  split at h
  · obtain ⟨-, rfl⟩ := Prod.mk.inj (Option.some.inj h)
    omega
  · split at h
    · obtain ⟨-, rfl⟩ := Prod.mk.inj (Option.some.inj h)
      omega
    · exact nomatch h

theorem State.fcWatched_le {s : State} {p k i : Nat} (h : i ∈ s.fcWatched p k) : i ≤ 8 := by
  unfold fcWatched at h
  split at h
  · exact (lt_of_mem_setBits h).le
  · split at h
    · simp at h
      omega
    · exact nomatch h

theorem paused_pfcUpdate (L : Nat) (prio : Option Nat) (s : State) : Paused s (pfcUpdate L prio s) := by
  unfold pfcUpdate
  split
  · exact .refl s
  · rename_i p k place
    refine Paused.foldl (fun i hi s => ?_) s
    have hk := State.placeOf_lt place
    have le := State.fcWatched_le hi
    split
    · exact (paused_xoffRise hk le p L s).ite (.refl s)
    · exact paused_xonFall hk le p L s

/-! Packets that leave the buffer (R68, R124) -/

/-- `t` is `s` after packets left the buffer: the flow control that follows, and the background copy that a bank's retirement begins. -/
structure Freed (s t : State) : Prop where
  only : t = { s with
    regs := t.regs, out := t.out
    tm := { s.tm with active := t.tm.active }
    mt := { s.mt with copying := t.mt.copying }
    ports := { s.ports with packets := t.ports.packets, xoff := t.ports.xoff, paused := t.ports.paused } }
  reg : ∀ a, ¬ PauseReg a → a ≠ Addr.EPOCH_STATUS → t.reg a = s.reg a
  out : s.out <+: t.out

theorem Freed.refl (s : State) : Freed s s := ⟨rfl, fun _ _ _ => rfl, List.prefix_rfl⟩

theorem Freed.trans {s t u : State} (h : Freed s t) (h' : Freed t u) : Freed s u where
  only := by rw [h'.only, h.only]
  reg a ha he := (h'.reg a ha he).trans (h.reg a ha he)
  out := h.out.trans h'.out

theorem Paused.freed {s t : State} (h : Paused s t) : Freed s t := ⟨by rw [h.only], fun a ha _ => h.reg a ha, h.out⟩

section
variable {s t : State} (h : Freed s t)
include h
theorem Freed.mem : t.mem = s.mem := by rw [h.only]
theorem Freed.hc : t.hc = s.hc := by rw [h.only]
theorem Freed.now : t.now = s.now := by rw [h.only]
theorem Freed.time : t.time = s.time := by rw [h.only]
theorem Freed.sessions : t.sessions = s.sessions := by rw [h.only]
theorem Freed.fifos : t.ports.fifos = s.ports.fifos := by rw [h.only]
theorem Freed.fifo (f : Nat) : t.fifo f = s.fifo f := by rw [State.fifo, h.fifos, State.fifo]
end

theorem freed_checkRetire (s : State) : Freed s (checkRetire s) := by
  unfold checkRetire
  split
  · exact ⟨rfl, fun _ _ ha => State.reg_setFlag_other s ha _ _, List.prefix_rfl⟩
  · exact .refl s

theorem packets_checkRetire (s : State) : (checkRetire s).ports = s.ports := by
  unfold checkRetire
  split
  · rfl
  · rfl

theorem freed_freePacket (id : Nat) (s : State) : Freed s (freePacket id s) := by
  unfold freePacket
  split
  · exact .refl s
  · refine Freed.trans ?_ ((paused_pfcUpdate _ _ _).freed.trans (freed_checkRetire _))
    exact ⟨rfl, fun _ _ _ => rfl, List.prefix_rfl⟩

theorem packets_freePacket (id : Nat) (s : State) :
    (freePacket id s).ports.packets = s.ports.packets.filter (fun (x : Pkt) => x.id != id) := by
  unfold freePacket
  split
  · rename_i none_
    refine (List.filter_eq_self.mpr fun x hx => ?_).symm
    simpa using List.find?_eq_none.mp none_ x hx
  · rw [packets_checkRetire, (paused_pfcUpdate _ _ _).only]

theorem packet_freePacket_same (id : Nat) (s : State) : (freePacket id s).packet id = none := by
  rw [State.packet, packets_freePacket]
  simp [List.find?_eq_none]

theorem packet_freePacket_other {id i : Nat} (other : i ≠ id) (s : State) : (freePacket id s).packet i = s.packet i := by
  rw [State.packet, packets_freePacket, State.packet, List.find?_filter]
  congr 1
  funext x
  by_cases named : x.id = i
  · simp [named, other]
  · simp [named]

/-! Pages (R68) -/

/-- A packet but for its pages. -/
def Pkt.unpaged (q : Pkt) : Pkt := { q with reserved := 0, shared := 0, headroom := 0 }

/-- `t` is `s` after packets took pages, with the flow control that follows. -/
structure Paged (s t : State) : Prop where
  only : t = { s with
    regs := t.regs, out := t.out
    tm := { s.tm with active := t.tm.active }
    ports := { s.ports with packets := t.ports.packets, xoff := t.ports.xoff, paused := t.ports.paused } }
  reg : ∀ a, ¬ PauseReg a → t.reg a = s.reg a
  out : s.out <+: t.out
  packets : t.ports.packets.map Pkt.unpaged = s.ports.packets.map Pkt.unpaged

theorem Paged.refl (s : State) : Paged s s := ⟨rfl, fun _ _ => rfl, List.prefix_rfl, rfl⟩

theorem Paged.trans {s t u : State} (h : Paged s t) (h' : Paged t u) : Paged s u where
  only := by rw [h'.only, h.only]
  reg a ha := (h'.reg a ha).trans (h.reg a ha)
  out := h.out.trans h'.out
  packets := h'.packets.trans h.packets

theorem Paused.paged {s t : State} (h : Paused s t) : Paged s t := by
  have packets : t.ports.packets = s.ports.packets := by rw [h.only]
  exact ⟨by rw [h.only], h.reg, h.out, by rw [packets]⟩

section
variable {s t : State} (h : Paged s t)
include h
theorem Paged.mem : t.mem = s.mem := by rw [h.only]
theorem Paged.now : t.now = s.now := by rw [h.only]
theorem Paged.time : t.time = s.time := by rw [h.only]
theorem Paged.fifos : t.ports.fifos = s.ports.fifos := by rw [h.only]
theorem Paged.fifo (f : Nat) : t.fifo f = s.fifo f := by rw [State.fifo, h.fifos, State.fifo]

/-- A packet keeps all but its pages. -/
theorem Paged.packet (i : Nat) : (t.packet i).map Pkt.unpaged = (s.packet i).map Pkt.unpaged := by
  have find (l : List Pkt) : (l.find? (fun q => q.id == i)).map Pkt.unpaged = (l.map Pkt.unpaged).find? (fun q => q.id == i) := by
    rw [List.find?_map]
    rfl
  rw [State.packet, State.packet, find, find, h.packets]

theorem Paged.packet_some {i : Nat} {q : Pkt} (found : s.packet i = some q) : ∃ q', t.packet i = some q' ∧ q'.unpaged = q.unpaged := by
  have same := h.packet i
  rw [found, Option.map_some, Option.map_eq_some_iff] at same
  exact same
end

theorem paged_updPacket {f : Pkt → Pkt} (hf : ∀ q, (f q).unpaged = q.unpaged) (id : Nat) (s : State) : Paged s (s.updPacket id f) := by
  refine ⟨rfl, fun _ _ => rfl, List.prefix_rfl, ?_⟩
  simp only [State.updPacket, List.map_map]
  refine List.map_congr_left fun q _ => ?_
  dsimp only [Function.comp]
  split
  · exact hf q
  · rfl

/-- A page taken, of whichever kind, and the checks that follow it (R68, R70). -/
theorem paged_page {f : Pkt → Pkt} (hf : ∀ q, (f q).unpaged = q.unpaged) {L id : Nat} {prio : Option Nat} {s t : State}
    (taken : some (pfcUpdate L prio (s.updPacket id f)) = some t) : Paged s t :=
  Option.some.inj taken ▸ (paged_updPacket hf id s).trans (paused_pfcUpdate L prio (s.updPacket id f)).paged

theorem paged_takePage {p k L prio id : Nat} {s t : State} (taken : takePage p k L prio id s = some t) : Paged s t := by
  unfold takePage at taken
  extract_lets pool hr at taken
  split_ifs at taken
  · exact paged_page (f := fun q => { q with reserved := q.reserved + 1 }) (fun _ => rfl) taken
  · exact paged_page (f := fun q => { q with shared := q.shared + 1 }) (fun _ => rfl) taken
  all_goals exact paged_page (f := fun q => { q with headroom := q.headroom + 1 }) (fun _ => rfl) taken

theorem paged_takePages (p k L prio id : Nat) : ∀ (n d : Nat) (s : State), Paged s (takePages p k L prio id n d s).1
  | 0, _, s => .refl s
  | n + 1, d, s => by
    rw [takePages]
    split
    · rename_i t taken
      exact (paged_takePage taken).trans (paged_takePages p k L prio id n (d + 1) t)
    · exact .refl s

/-! What is in a packet FIFO (R77, R78) -/

theorem State.fifo_setFifo_same (s : State) (f : Nat) (x : Fifo) : (s.setFifo f x).fifo f = x := tabGet_tabSet_same _ _ _ _

theorem State.fifo_setFifo_other {f g : Nat} (h : g ≠ f) (s : State) (x : Fifo) : (s.setFifo f x).fifo g = s.fifo g := tabGet_tabSet_other h _ _ _ _

theorem regsOnly_raise (s : State) (a v : Nat) : RegsOnly s (s.raise a v) := by
  unfold State.raise
  exact (regsOnly_setReg s a v).ite (.refl s)

theorem regsOnly_rewindPacket (f : Nat) (full : Bool) (n : Nat) (s : State) : RegsOnly s (rewindPacket f full n s) := by
  unfold rewindPacket
  have counted : RegsOnly s ((s.bump32 (Addr.REWIND_COUNT f)).raise (Addr.HIGH_WATER f) ((s.fifo f).wordsHeld + n)) :=
    (regsOnly_setReg s _ _).trans (regsOnly_raise _ _ _)
  exact (counted.trans (regsOnly_setReg _ _ _)).ite counted

theorem reg_rewindPacket_other {f a : Nat} (rewound : a ≠ Addr.REWIND_COUNT f) (high : a ≠ Addr.HIGH_WATER f) (overflow : a ≠ Addr.OVERFLOW_COUNT f)
    (full : Bool) (n : Nat) (s : State) : (rewindPacket f full n s).reg a = s.reg a := by
  unfold rewindPacket
  have counted : ((s.bump32 (Addr.REWIND_COUNT f)).raise (Addr.HIGH_WATER f) ((s.fifo f).wordsHeld + n)).reg a = s.reg a :=
    (State.reg_raise_other high _ _).trans (State.reg_bump32_other s rewound 1)
  split
  · exact (State.reg_bump32_other _ overflow 1).trans counted
  · exact counted

theorem reg_rewindPacket (f : Nat) (full : Bool) (n : Nat) (s : State) :
    (rewindPacket f full n s).reg (Addr.REWIND_COUNT f) = (s.reg (Addr.REWIND_COUNT f) + 1) % 2 ^ 32 := by
  have high : Addr.REWIND_COUNT f ≠ Addr.HIGH_WATER f := by simp [Addr.REWIND_COUNT, Addr.HIGH_WATER]
  have overflow : Addr.REWIND_COUNT f ≠ Addr.OVERFLOW_COUNT f := by simp [Addr.REWIND_COUNT, Addr.OVERFLOW_COUNT]
  unfold rewindPacket
  have counted : ((s.bump32 (Addr.REWIND_COUNT f)).raise (Addr.HIGH_WATER f) ((s.fifo f).wordsHeld + n)).reg (Addr.REWIND_COUNT f) = _ :=
    (State.reg_raise_other high _ _).trans (State.reg_bump32 s _ 1)
  split
  · exact (State.reg_bump32_other _ overflow 1).trans counted
  · exact counted

/-- `t` is `s` with packet `q` committed into FIFO `f` (R77). -/
structure Committed (f : Nat) (q : FifoPkt) (s t : State) : Prop where
  only : t = { s with regs := t.regs, ports := { s.ports with fifos := t.ports.fifos } }
  pkts : (t.fifo f).pkts = (s.fifo f).pkts ++ [q]
  other : ∀ g, g ≠ f → t.fifo g = s.fifo g
  count : t.reg (Addr.COMMIT_COUNT f) = (s.reg (Addr.COMMIT_COUNT f) + 1) % 2 ^ 64
  reg : ∀ a, a ≠ Addr.COMMIT_COUNT f → a ≠ Addr.HIGH_WATER f → t.reg a = s.reg a

theorem committed_commitPacket (f : Nat) (q : FifoPkt) (s : State) : Committed f q s (commitPacket f q s) := by
  have apart : Addr.COMMIT_COUNT f ≠ Addr.HIGH_WATER f := by simp [Addr.COMMIT_COUNT, Addr.HIGH_WATER]
  unfold commitPacket
  dsimp only
  generalize ({ s.fifo f with pkts := (s.fifo f).pkts ++ [q] } : Fifo).wordsHeld = high
  have only := regsOnly_raise ((s.setFifo f { s.fifo f with pkts := (s.fifo f).pkts ++ [q] }).bump64 (Addr.COMMIT_COUNT f)) (Addr.HIGH_WATER f) high
  have fifos : ∀ g, State.fifo (State.raise _ _ _) g = _ := fun g => by rw [only]
  refine ⟨?_, ?_, fun g hg => ?_, ?_, fun a count high => ?_⟩
  · rw [only]
    rfl
  · exact (congrArg Fifo.pkts (fifos f)).trans (congrArg Fifo.pkts (s.fifo_setFifo_same f _))
  · exact (fifos g).trans (State.fifo_setFifo_other hg s _)
  · rw [State.reg_raise_other apart, State.reg_bump64]
    rfl
  · rw [State.reg_raise_other high, State.reg_bump64_other _ count]
    rfl

end Sys2Proof.Machine

/-!
PROOFS. Parses (R86 to R99): how they begin on a core and how they end.
-/
namespace Sys2Proof.Machine

/-! Coalesced events (R503) -/

/-- A change of the open windows changes nothing of what events change. -/
theorem Told.withWindows {s t : State} (h : Told s t) (w : List Window) : Told { s with windows := w } { t with windows := w } where
  only := by
    conv_lhs => rw [h.only]
  reg := h.reg
  sessions := h.sessions
  out := h.out
  trace := h.trace
  sends := h.sends

/-- `t` is `s` after events were delivered or put into the open windows. -/
structure Coalesced (s t : State) : Prop where
  told : Told s { t with windows := s.windows }

theorem Told.coalesced {s t : State} (h : Told s t) : Coalesced s t := by
  have same : { t with windows := s.windows } = t := by rw [← h.windows]
  exact ⟨same.symm ▸ h⟩

theorem Coalesced.trans {s t u : State} (h : Coalesced s t) (h' : Coalesced t u) : Coalesced s u :=
  ⟨h.told.trans (h'.told.withWindows s.windows)⟩

theorem coalesced_windows (s : State) (w : List Window) : Coalesced s { s with windows := w } := ⟨Told.refl s⟩

section
variable {s t : State} (h : Coalesced s t)
include h
theorem Coalesced.reg {a : Nat} (ha : UntoldReg a) : t.reg a = s.reg a := h.told.reg a ha
theorem Coalesced.mem : t.mem = s.mem := h.told.mem
theorem Coalesced.hc : t.hc = s.hc := h.told.hc
theorem Coalesced.mt : t.mt = s.mt := h.told.mt
theorem Coalesced.tm : t.tm = s.tm := h.told.tm
theorem Coalesced.ports : t.ports = s.ports := h.told.ports
theorem Coalesced.jobs : t.jobs = s.jobs := h.told.jobs
theorem Coalesced.models : t.models = s.models := h.told.models
theorem Coalesced.flow : t.flow = s.flow := h.told.flow
theorem Coalesced.copies : t.copies = s.copies := h.told.copies
theorem Coalesced.cells : t.cells = s.cells := h.told.cells
theorem Coalesced.beat : t.beat = s.beat := h.told.beat
theorem Coalesced.time : t.time = s.time := h.told.time
theorem Coalesced.now : t.now = s.now := h.told.now
theorem Coalesced.fw : t.fw = s.fw := h.told.fw
theorem Coalesced.integ : t.integ = s.integ := h.told.integ
theorem Coalesced.power : t.power = s.power := h.told.power
theorem Coalesced.secure : t.secure = s.secure := h.told.secure
theorem Coalesced.sessions : t.sessions.map Session.unqueued = s.sessions.map Session.unqueued := h.told.sessions
end

theorem coalesced_closeWindow (opcode key : Nat) (s : State) : Coalesced s (closeWindow opcode key s) := by
  unfold closeWindow
  split
  · exact (Told.refl s).coalesced
  · exact (coalesced_windows s _).trans (told_deliver _ _).coalesced

theorem coalesced_coalesce (e : Event) (key length : Nat) (merge : List Nat → List Nat → List Nat) (s : State) :
    Coalesced s (coalesce e key length merge s) := by
  unfold coalesce
  split
  · split
    · exact coalesced_windows s _
    · exact (coalesced_closeWindow _ _ s).trans (coalesced_windows _ _)
  · exact coalesced_windows s _

theorem coalesced_noteUncorr (s : State) (place index : Nat) : Coalesced s (s.noteUncorr place index) := coalesced_coalesce ..

theorem coalesced_coalesceEvent (s : State) (opcode tenant key length : Nat) (body : List Nat) (region : Nat) :
    Coalesced s (s.coalesceEvent opcode tenant key length body region) := coalesced_coalesce ..

/-! Words read from a FIFO (R76) -/

theorem noteRead_good (f k : Nat) (s : State) : noteRead f ⟨k, false⟩ s = s.bump32 (Addr.CORR_COUNT f) k := rfl

theorem RegsOnly.mem {s t : State} (h : RegsOnly s t) : t.mem = s.mem := by rw [h]
theorem RegsOnly.hc {s t : State} (h : RegsOnly s t) : t.hc = s.hc := by rw [h]
theorem RegsOnly.ports {s t : State} (h : RegsOnly s t) : t.ports = s.ports := by rw [h]

section
variable (f : Nat) (chk : FifoRead) (s : State)

theorem ports_noteRead : (noteRead f chk s).ports = s.ports := by
  unfold noteRead
  dsimp only
  split
  · exact (coalesced_noteUncorr _ 0 f).ports
  · rfl

theorem hc_noteRead : (noteRead f chk s).hc = s.hc := by
  unfold noteRead
  dsimp only
  split
  · exact (coalesced_noteUncorr _ 0 f).hc
  · rfl

theorem mem_noteRead : (noteRead f chk s).mem = s.mem := by
  unfold noteRead
  dsimp only
  split
  · exact (coalesced_noteUncorr _ 0 f).mem
  · rfl

theorem reg_noteRead_other {a : Nat} (told : UntoldReg a) (corrected : a ≠ Addr.CORR_COUNT f) (bad : a ≠ Addr.UNCORR_COUNT f)
    (dropped : a ≠ Addr.DROP_REST_COUNT f) : (noteRead f chk s).reg a = s.reg a := by
  unfold noteRead
  dsimp only
  split
  · rw [(coalesced_noteUncorr _ 0 f).reg told, State.reg_bump32_other _ dropped, State.reg_bump32_other _ bad, State.reg_bump32_other _ corrected]
  · exact State.reg_bump32_other _ corrected _
end

/-! The beginning of a parse (R86 to R89) -/

section
variable {t g n : Nat} {q : Pkt} {s : State}

theorem exec_packetAssign_taken (takes : s.groupTakes g = true) (first : firstCommitted (eligibleHeads s g) = some q) (idle : idleCore s g = some n)
    (k : Nat) (bad : Bool) : exec (.packetAssign t g k bad) s = .next (assignPacket g n q bad (noteRead q.desc.lport ⟨k, bad⟩ (advance t s))) := by
  have row : exec (.packetAssign t g k bad) s = execPacketAssign t g k bad s := rfl
  rw [row, execPacketAssign, if_pos takes, first, idle]

theorem core_of_idle (idle : idleCore s g = some n) : s.core n = none := by
  simpa using List.find?_some idle

theorem startCore_reg {bank sub r : Nat} (hr : r < 14) : (startCore n bank sub q).reg r = 0 := by
  rw [Core.reg, startCore]
  simp only [List.getD_eq_getElem?_getD]
  rw [List.getElem?_append_left (by simpa using hr), List.getElem?_replicate]
  simp [hr]

theorem startCore_reg_length (bank sub : Nat) (fits : q.desc.length < 2 ^ 64) : (startCore n bank sub q).reg 15 = q.desc.length :=
  (BitVec.toNat_ofNat q.desc.length 64).trans (Nat.mod_eq_of_lt fits)

/-- The state of a core that began to parse packet `q`. -/
theorem assignPacket_good (g : Nat) (q : Pkt) (s : State) (n : Nat) (idle : s.core n = none) :
    (assignPacket g n q false s).core n = some (startCore n (s.bankNow g) q.sub q) := by
  have none_ : s.hc.cores.find? (fun (c : Core) => c.n == n) = none := idle
  show (s.hc.cores ++ [startCore n (s.bankNow g) q.sub q]).find? (fun (c : Core) => c.n == n) = _
  rw [List.find?_append, none_]
  simp [startCore]

theorem fifo_popFifo (f : Nat) (s : State) : ((popFifo f s).fifo f).pkts = (s.fifo f).pkts.drop 1 := by
  rw [popFifo, State.fifo_setFifo_same]

theorem untoldReg_aborted (g : Nat) (hg : g < 16) : UntoldReg (Addr.ABORTED g) := by
  refine ⟨⟨?_, fun p => ?_⟩, ?_, ?_, ?_⟩
  all_goals
    simp only [Addr.ABORTED, Addr.NO_ROUTE, Addr.FLITS_TX, Addr.EVENTS_SENT, Addr.EVENTS_LOST, Addr.EVQ_LOST]
    omega

theorem notPauseReg_aborted (g : Nat) : ¬ PauseReg (Addr.ABORTED g) := by
  rintro ⟨p, k, j, hk, hj, same⟩
  simp only [Addr.ABORTED, Addr.PFC_RX, Addr.PFC_TX] at same
  omega
end

/-! The end of a parse (R91, R97 to R99) -/

theorem hcEncode_row {i : Instr} {n w : Nat} (h : hcEncode i = some (n, w)) : ∃ act, ∀ s, exec i s = .next (hcRun n w act s) := by
  unfold hcEncode at h
  split at h
  all_goals cases h
  all_goals exact ⟨_, fun _ => rfl⟩

/-- A core that meets an instruction at STEP_CAP steps ends its parse (R91). -/
theorem hcRun_capped {n w : Nat} {s : State} {c c0 : Core} (here : s.core n = some c0)
    (bank : c = (if c0.steps = 0 then { c0 with bank := s.bankNow (n / 128) } else c0)) (running : c.finished = false)
    (at_ : s.progWord (n / 128) c.bank c.pc = w) (capped : s.reg (Addr.STEP_CAP (n / 128)) ≤ c.steps) (act : State → Core → HcOut) :
    hcRun n w act s = finishParse c psSteps c.pc s := by
  have runs : ¬ (c.finished = true ∨ s.progWord (n / 128) c.bank c.pc ≠ w) := by simp [running, at_]
  simp only [hcRun, here, ← bank, if_neg runs, if_pos capped]

theorem exec_hcNop_last {n : Nat} {s : State} {c : Core} (last : c.pc = 4095) (h : coreAt n encNop s c) :
    exec (.hcNop n) s = .next (finishParse { c with steps := c.steps + 1 } 4 4095 s) := by
  show Host.Outcome.next (hcRun n _ _ s) = _
  rw [hcRun_of_coreAt h]
  exact congrArg _ (if_pos last)

/-- Two fields of the metadata bus do not overlap. -/
def BusApart (f g : Nat × Nat × Nat) : Prop := f.1 + f.2.1 ≤ g.1 ∨ g.1 + g.2.1 ≤ f.1

theorem busBits_foldl_apart {o w : Nat} : ∀ {l : List (Nat × Nat × Nat)}
    (_ : ∀ f ∈ l, f.1 + f.2.1 ≤ 1024) (_ : ∀ f ∈ l, BusApart f (o, w, 0)) (b : W1024),
    busBits (l.foldl (fun b f => setBus b f.1 f.2.1 f.2.2) b) o w = busBits b o w
  | [], _, _, _ => rfl
  | f :: l, fits, apart, b => by
    rw [List.foldl_cons, busBits_foldl_apart (fun g hg => fits g (List.mem_cons_of_mem _ hg)) (fun g hg => apart g (List.mem_cons_of_mem _ hg)),
      busBits_setBus_apart (apart f (List.mem_cons_self ..)) (fits f (List.mem_cons_self ..))]

/-- Of fields written that do not overlap, each reads what was written. -/
theorem busBits_foldl {l : List (Nat × Nat × Nat)} (fits : ∀ f ∈ l, f.1 + f.2.1 ≤ 1024) (apart : l.Pairwise BusApart) (b : W1024)
    {f : Nat × Nat × Nat} (there : f ∈ l) : busBits (l.foldl (fun b f => setBus b f.1 f.2.1 f.2.2) b) f.1 f.2.1 = f.2.2 % 2 ^ f.2.1 := by
  induction l generalizing b with
  | nil => exact nomatch there
  | cons g l ih =>
    obtain ⟨first, rest⟩ := List.pairwise_cons.mp apart
    have fits' : ∀ f ∈ l, f.1 + f.2.1 ≤ 1024 := fun h hh => fits h (List.mem_cons_of_mem g hh)
    rw [List.foldl_cons]
    rcases List.mem_cons.mp there with rfl | later
    · rw [busBits_foldl_apart fits' (fun h hh => Or.symm (first h hh)), busBits_setBus (fits f (List.mem_cons_self ..))]
    · exact ih fits' rest _ later

/-- The fields of the parse summary (R99), with what they read. -/
def summaryFields (d : Desc) (c : Core) (pstat failPc : Nat) : List (Nat × Nat × Nat) :=
  [(0, 3, pstat), (3, 5, c.stack.length), (8, 10, c.c), (18, 14, d.length), (32, 6, d.lport), (38, 8, d.tenant),
   (46, 3, d.prio), (49, 1, b2n d.ptp), (50, 2, c.frag), (52, 1, c.bank), (53, 11, c.steps), (64, 32, c.fragId),
   (96, 8, c.fragProto), (104, 4, c.fragIpidx), (108, 1, b2n c.fragV6), (109, 12, failPc)]

/-- The fields of the header stack (R99). -/
def stackFields (c : Core) : List (Nat × Nat × Nat) :=
  (List.range c.stack.length).map (fun k => (128 + 16 * k, 16, (c.stack.getD k (0, 0, 0)).1 * 512 + (c.stack.getD k (0, 0, 0)).2.1 % 512))

theorem emitBus_eq (d : Desc) (c : Core) (pstat failPc : Nat) :
    emitBus d c pstat failPc = (summaryFields d c pstat failPc ++ stackFields c).foldl (fun b f => setBus b f.1 f.2.1 f.2.2) c.bus := rfl

section
variable (d : Desc) (c : Core) (pstat failPc : Nat)

theorem summaryFields_below : ∀ f ∈ summaryFields d c pstat failPc, f.1 + f.2.1 ≤ 128 := by simp [summaryFields]

theorem stackFields_above : ∀ f ∈ stackFields c, 128 ≤ f.1 := by
  intro f hf
  obtain ⟨k, -, rfl⟩ := List.mem_map.mp hf
  exact Nat.le_add_right _ _

theorem pairwise_summaryFields : (summaryFields d c pstat failPc).Pairwise BusApart := by
  simp [summaryFields, BusApart]

theorem pairwise_stackFields : (stackFields c).Pairwise BusApart := by
  refine List.pairwise_map.mpr (List.Pairwise.imp ?_ List.pairwise_lt_range)
  intro j k less
  exact .inl (show 128 + 16 * j + 16 ≤ 128 + 16 * k by omega)

/-- A field of the parse summary reads what was written there. -/
theorem busBits_emitBus (deep : c.stack.length ≤ 16) {f : Nat × Nat × Nat} (there : f ∈ summaryFields d c pstat failPc) :
    busBits (emitBus d c pstat failPc) f.1 f.2.1 = f.2.2 % 2 ^ f.2.1 := by
  rw [emitBus_eq]
  refine busBits_foldl ?_ ?_ _ (List.mem_append_left _ there)
  · intro g hg
    rcases List.mem_append.mp hg with low | high
    · exact (summaryFields_below d c pstat failPc g low).trans (by decide)
    · obtain ⟨k, hk, rfl⟩ := List.mem_map.mp high
      have := List.mem_range.mp hk
      show 128 + 16 * k + 16 ≤ 1024
      omega
  · exact List.pairwise_append.mpr ⟨pairwise_summaryFields d c pstat failPc, pairwise_stackFields c,
      fun f low g high => .inl ((summaryFields_below d c pstat failPc f low).trans (stackFields_above c g high))⟩
end

theorem finishParse_eq {c : Core} {q : Pkt} {s : State} (found : s.packet c.pkt = some q) (room : s.fifoFits (0x80 + c.n) 5 = true) (e pc : Nat) :
    finishParse c e pc s = emitParsed c e (emitBus q.desc c e pc) q s := by
  rw [finishParse, if_neg (by simp [room]), found]

/-- The counters of a parse that ended, after its commit. -/
def countParse (c : Core) (pstat : Nat) (q : Pkt) (s : State) : State :=
  let g := c.n / 128
  let s4 := (s.bump64 (Addr.PARSED g)).bump64 (Addr.STEPS_SUM g) c.steps
  let s5 := s4.raise (Addr.MAX_STEPS g) c.steps
  let s6 := if 128 * (q.desc.length + 24) / 100 < c.steps then s5.bump32 (Addr.OVER_BUDGET g) else s5
  match pstatCounter g pstat with
  | some a => s6.bump32 a
  | none => s6

theorem emitParsed_eq (c : Core) (pstat : Nat) (bus : W1024) (q : Pkt) (s : State) : emitParsed c pstat bus q s =
    checkRetire (countParse c pstat q (commitPacket (0x80 + c.n) ⟨5, some c.pkt, parsedWords bus q.desc c.pkt⟩
      ((s.updPacket c.pkt (fun q => { q with bus, hdrs := c.stack, core := c.n, at_ := .parsed })).updCore c.n (fun _ =>
          { c with finished := true })))) := rfl

theorem pstatCounter_apart {g pstat a : Nat} (h : pstatCounter g pstat = some a) : a ≠ Addr.PARSED g := by
  unfold pstatCounter at h
  split at h
  all_goals cases h
  all_goals simp [Addr.ST_DEPTH, Addr.ST_LEN_CONFLICT, Addr.ST_STEPS, Addr.ST_FAULT, Addr.PARSED]

theorem regsOnly_countParse (c : Core) (pstat : Nat) (q : Pkt) (s : State) : RegsOnly s (countParse c pstat q s) := by
  unfold countParse
  extract_lets g s4 s5 s6
  have h4 : RegsOnly s s4 := (regsOnly_setReg s _ _).trans (regsOnly_setReg _ _ _)
  have h5 : RegsOnly s s5 := h4.trans (regsOnly_raise s4 _ _)
  have h6 : RegsOnly s s6 := (h5.trans (regsOnly_setReg s5 _ _)).ite h5
  split
  · exact h6.trans (regsOnly_setReg s6 _ _)
  · exact h6

theorem reg_countParse (c : Core) (pstat : Nat) (q : Pkt) (s : State) :
    (countParse c pstat q s).reg (Addr.PARSED (c.n / 128)) = (s.reg (Addr.PARSED (c.n / 128)) + 1) % 2 ^ 64 := by
  unfold countParse
  extract_lets g s4 s5 s6
  have h4 : s4.reg (Addr.PARSED g) = _ := (State.reg_bump64_other _ (by simp [Addr.PARSED, Addr.STEPS_SUM]) _).trans (State.reg_bump64 s _ 1)
  have h5 : s5.reg (Addr.PARSED g) = _ := (State.reg_raise_other (by simp [Addr.PARSED, Addr.MAX_STEPS]) s4 _).trans h4
  have h6 : s6.reg (Addr.PARSED g) = _ := (reg_ite_other (State.reg_bump32_other s5 (by simp [Addr.PARSED, Addr.OVER_BUDGET]) 1)).trans h5
  split
  · rename_i a counter
    exact (State.reg_bump32_other s6 (pstatCounter_apart counter).symm 1).trans h6
  · exact h6

/-- What the end of a parse leaves: the packet with its bus and headers, the five words in the core's FIFO, and the parse counted. -/
theorem emitParsed_parsed {c : Core} {q : Pkt} {s : State} (found : s.packet c.pkt = some q) (pstat : Nat) (bus : W1024) :
    (emitParsed c pstat bus q s).packet c.pkt = some { q with bus, hdrs := c.stack, core := c.n, at_ := .parsed } ∧
    ((emitParsed c pstat bus q s).fifo (0x80 + c.n)).pkts = (s.fifo (0x80 + c.n)).pkts ++ [⟨5, some c.pkt, parsedWords bus q.desc c.pkt⟩] ∧
    (emitParsed c pstat bus q s).reg (Addr.PARSED (c.n / 128)) = (s.reg (Addr.PARSED (c.n / 128)) + 1) % 2 ^ 64 := by
  have updated := State.packet_updPacket_same (f := fun q => { q with bus, hdrs := c.stack, core := c.n, at_ := .parsed }) found fun _ h => h
  rw [emitParsed_eq]
  generalize given : s.updPacket c.pkt (fun q => { q with bus, hdrs := c.stack, core := c.n, at_ := .parsed }) = u at updated
  have fifo : ∀ f, u.fifo f = s.fifo f := fun f => by rw [← given]; rfl
  have regs : u.regs = s.regs := by rw [← given]; rfl
  generalize finished : u.updCore c.n (fun _ => { c with finished := true }) = v
  have ports : v.ports = u.ports := by rw [← finished]; rfl
  have regs' : v.regs = u.regs := by rw [← finished]; rfl
  have commits := committed_commitPacket (0x80 + c.n) ⟨5, some c.pkt, parsedWords bus q.desc c.pkt⟩ v
  generalize commitPacket (0x80 + c.n) ⟨5, some c.pkt, parsedWords bus q.desc c.pkt⟩ v = w at commits
  have after : (checkRetire (countParse c pstat q w)).ports = w.ports := (packets_checkRetire _).trans (regsOnly_countParse c pstat q w).ports
  have packets : w.ports.packets = u.ports.packets := by rw [commits.only, ← ports]
  refine ⟨?_, ?_, ?_⟩
  · rw [State.packet, after, packets]
    exact updated
  · rw [State.fifo, after]
    refine commits.pkts.trans ?_
    rw [State.fifo, ports, ← State.fifo, fifo]
  · have unpaused : ¬ PauseReg (Addr.PARSED (c.n / 128)) := by
      rintro ⟨p, k, j, hk, hj, same⟩
      simp only [Addr.PARSED, Addr.PFC_RX, Addr.PFC_TX] at same
      omega
    have apart : Addr.PARSED (c.n / 128) ≠ Addr.EPOCH_STATUS ∧ Addr.PARSED (c.n / 128) ≠ Addr.COMMIT_COUNT (0x80 + c.n) ∧
        Addr.PARSED (c.n / 128) ≠ Addr.HIGH_WATER (0x80 + c.n) := by
      simp only [Addr.PARSED, Addr.EPOCH_STATUS, Addr.COMMIT_COUNT, Addr.HIGH_WATER]
      omega
    obtain ⟨epoch, commit, high⟩ := apart
    rw [(freed_checkRetire _).reg _ unpaused epoch, reg_countParse, commits.reg _ commit high, State.reg_of_regs (regs'.trans regs)]

/-- A packet that is given to a core: the core, the FIFO and the words corrected. -/
theorem assignedPacket {t g n : Nat} {q : Pkt} {s : State} (k : Nat) (idle : s.core n = none) (fits : q.desc.length < 2 ^ 64) :
    let u := assignPacket g n q false (noteRead q.desc.lport ⟨k, false⟩ (advance t s))
    (∃ c, u.core n = some c ∧ c.pkt = q.id ∧ c.c = 0 ∧
      c.pc = q.sub % 8 ∧ (∀ r < 14, c.reg r = 0) ∧ c.reg 15 = q.desc.length ∧ c.limit = q.desc.length ∧ c.steps = 0) ∧
      (u.fifo q.desc.lport).pkts = (s.fifo q.desc.lport).pkts.drop 1 ∧
      u.reg (Addr.CORR_COUNT q.desc.lport) = (s.reg (Addr.CORR_COUNT q.desc.lport) + k) % 2 ^ 32 ∧
      sameRegsBut [Addr.CORR_COUNT q.desc.lport] s u ∧ sameMemory s u := by
  intro u
  have regs : u.regs = ((advance t s).bump32 (Addr.CORR_COUNT q.desc.lport) k).regs := rfl
  refine ⟨⟨_, assignPacket_good g q _ n idle, rfl, rfl, rfl, fun r hr => startCore_reg hr, startCore_reg_length _ _ fits, rfl, rfl⟩, ?_, ?_, ?_, ?_⟩
  · exact fifo_popFifo q.desc.lport (noteRead q.desc.lport ⟨k, false⟩ (advance t s))
  · rw [State.reg_of_regs regs, State.reg_bump32, State.advance_reg]
  · intro a other
    rw [State.reg_of_regs regs, State.reg_bump32_other _ (by simpa using other), State.advance_reg]
  · exact sameMemory_of_mem rfl

/-- A packet with an uncorrectable word in its window: it is aborted and counted, and no core is given it. -/
theorem abortedPacket {t g n : Nat} {q : Pkt} {s : State} (k : Nat) (hg : g < 16) :
    let u := assignPacket g n q true (noteRead q.desc.lport ⟨k, true⟩ (advance t s))
    u.hc = s.hc ∧ u.reg (Addr.ABORTED g) = (s.reg (Addr.ABORTED g) + 1) % 2 ^ 32 ∧
      (u.fifo q.desc.lport).pkts = (s.fifo q.desc.lport).pkts.drop 1 ∧ sameMemory s u := by
  dsimp only
  have hc := hc_noteRead q.desc.lport ⟨k, true⟩ (advance t s)
  have mem := mem_noteRead q.desc.lport ⟨k, true⟩ (advance t s)
  have ports := ports_noteRead q.desc.lport ⟨k, true⟩ (advance t s)
  have reg := reg_noteRead_other q.desc.lport ⟨k, true⟩ (advance t s) (a := Addr.ABORTED g) (untoldReg_aborted g hg)
    (by simp only [Addr.ABORTED, Addr.CORR_COUNT]; omega) (by simp only [Addr.ABORTED, Addr.UNCORR_COUNT]; omega)
    (by simp only [Addr.ABORTED, Addr.DROP_REST_COUNT]; omega)
  generalize noteRead q.desc.lport ⟨k, true⟩ (advance t s) = r at hc mem ports reg
  have freed := freed_freePacket q.id ((popFifo q.desc.lport r).bump32 (Addr.ABORTED g))
  rw [show assignPacket g n q true r = freePacket q.id ((popFifo q.desc.lport r).bump32 (Addr.ABORTED g)) from rfl]
  generalize freePacket q.id ((popFifo q.desc.lport r).bump32 (Addr.ABORTED g)) = u at freed
  refine ⟨freed.hc.trans hc, ?_, ?_, sameMemory_of_mem (freed.mem.trans mem)⟩
  · rw [freed.reg _ (notPauseReg_aborted g) (by simp only [Addr.ABORTED, Addr.EPOCH_STATUS]; omega), State.reg_bump32,
      State.reg_of_regs (s := r) (t := popFifo q.desc.lport r) rfl, reg, State.advance_reg]
  · rw [freed.fifo]
    exact (fifo_popFifo q.desc.lport r).trans (by rw [State.fifo, ports]; rfl)

/-- Settles O24: a parse begins as PACKET_ASSIGN gives the packet to its core, and ends as its five words are committed. -/
theorem parsesBeginAndEnd : Obligations.ParsesBeginAndEnd := by
  unfold Obligations.ParsesBeginAndEnd
  refine ⟨fun t g n q s takes first idle hg hL fits k => ⟨?_, ?_⟩, ?_, fun n s c last h => exec_hcNop_last last h, ?_⟩
  · obtain ⟨⟨c, core⟩, rest⟩ := assignedPacket (t := t) (g := g) k (core_of_idle idle) fits
    obtain ⟨here, pkt, zero, pc, regs, len, limit, steps⟩ := core
    exact ⟨_, c, exec_packetAssign_taken takes first idle k false, here, pkt, zero, pc, regs, len, limit, steps, rest⟩
  · exact ⟨_, exec_packetAssign_taken takes first idle k true, abortedPacket k hg⟩
  · intro n k i s c c0 word here bank running at_ capped
    obtain ⟨act, row⟩ := hcEncode_row word
    rw [row, hcRun_capped here bank running at_ capped]
    rfl
  · intro c e pc q s found he deep hc hlen hpc hn room
    dsimp only
    rw [finishParse_eq found room]
    obtain ⟨packet, words, parsed⟩ := emitParsed_parsed found e (emitBus q.desc c e pc)
    have field {f : Nat × Nat × Nat} (there : f ∈ summaryFields q.desc c e pc) (small : f.2.2 < 2 ^ f.2.1) :
        busBits (emitBus q.desc c e pc) f.1 f.2.1 = f.2.2 := (busBits_emitBus q.desc c e pc deep there).trans (Nat.mod_eq_of_lt small)
    have status := field (f := (0, 3, e)) (by simp [summaryFields]) he
    have headers := field (f := (3, 5, c.stack.length)) (by simp [summaryFields]) (by show c.stack.length < 32; omega)
    have cursor := field (f := (8, 10, c.c)) (by simp [summaryFields]) hc
    have length := field (f := (18, 14, q.desc.length)) (by simp [summaryFields]) hlen
    have fail := field (f := (109, 12, pc)) (by simp [summaryFields]) hpc
    clear field
    generalize emitBus q.desc c e pc = bus at packet words parsed status headers cursor length fail
    exact ⟨⟨_, packet, rfl, rfl, status, headers, cursor, length, fail⟩, ⟨_, _, packet, words⟩, parsed⟩
end Sys2Proof.Machine

/-!
PROOFS. Ethernet ports (R62 to R65, R83): their mode, their links and the counters of their FEC.
-/
namespace Sys2Proof.Machine

/-! Frames that end with their link (R64, R65, R82) -/

/-- Of EPOCH_STATUS a retirement changes bit 1 alone. -/
theorem flag_checkRetire {i : Nat} (other : i ≠ 1) (s : State) (a : Nat) : (checkRetire s).flag a i = s.flag a i := by
  unfold checkRetire
  split
  · by_cases epoch : a = Addr.EPOCH_STATUS
    · rw [epoch]
      exact State.flag_setFlag_apart s other (by decide) false
    · exact State.flag_congr (State.reg_setFlag_other s epoch _ _) i
  · rfl

theorem flag_freePacket {a i : Nat} (unpaused : ¬ PauseReg a) (other : i ≠ 1) (id : Nat) (s : State) : (freePacket id s).flag a i = s.flag a i := by
  unfold freePacket
  split
  · rfl
  · rw [flag_checkRetire other]
    exact State.flag_congr ((paused_pfcUpdate _ _ _).reg a unpaused) i

/-- The register at `a` is none of those that the end of partly written frames of FIFO `f` counts in, `k` of `p` being the sub-port. -/
structure UnrewoundReg (p k f a : Nat) : Prop where
  pause : ¬ PauseReg a
  rewound : a ≠ Addr.REWIND_COUNT f
  high : a ≠ Addr.HIGH_WATER f
  overflow : a ≠ Addr.OVERFLOW_COUNT f
  fcs : a ≠ Addr.RX_FCS_ERR p k

/-- One partly written frame ends. -/
def rewindOne (p k f : Nat) (fcs : Bool) (s : State) (q : Pkt) : State :=
  let s1 := rewindPacket f false (1 + ceilDiv q.bytes.length 32) (freePacket q.id s)
  if fcs then s1.bump64 (Addr.RX_FCS_ERR p k) else s1

theorem rewindReceiving_eq (p k f : Nat) (fcs : Bool) (s : State) : rewindReceiving p k f fcs s =
    (s.ports.packets.filter (fun (q : Pkt) => q.at_ == .receiving && q.desc.lport == f)).foldl (rewindOne p k f fcs) s := rfl

/-- What the steps of a fold leave as it is, the fold does. -/
theorem foldl_keeps {α β : Type} {f : State → α → State} (get : State → β) (keeps : ∀ s x, get (f s x) = get s) (l : List α) (s : State) :
    get (l.foldl f s) = get s := by
  induction l generalizing s with
  | nil => rfl
  | cons x l ih => rw [List.foldl_cons, ih, keeps]

section
variable (p k f : Nat) (fcs : Bool)

theorem regsOnly_rewindOne (s : State) (q : Pkt) : RegsOnly (freePacket q.id s) (rewindOne p k f fcs s q) := by
  have rewound := regsOnly_rewindPacket f false (1 + ceilDiv q.bytes.length 32) (freePacket q.id s)
  exact (rewound.trans (regsOnly_setReg _ _ _)).ite rewound

theorem reg_rewindOne {a : Nat} (h : UnrewoundReg p k f a) (s : State) (q : Pkt) : (rewindOne p k f fcs s q).reg a = (freePacket q.id s).reg a :=
  (reg_ite_other (State.reg_bump64_other _ h.fcs _)).trans (reg_rewindPacket_other h.rewound h.high h.overflow _ _ _)

theorem reg_rewindReceiving {a : Nat} (h : UnrewoundReg p k f a) (epoch : a ≠ Addr.EPOCH_STATUS) (s : State) :
    (rewindReceiving p k f fcs s).reg a = s.reg a :=
  foldl_keeps (fun s => s.reg a) (fun s q => (reg_rewindOne p k f fcs h s q).trans ((freed_freePacket q.id s).reg a h.pause epoch)) _ s

theorem flag_rewindReceiving {a i : Nat} (h : UnrewoundReg p k f a) (other : i ≠ 1) (s : State) :
    (rewindReceiving p k f fcs s).flag a i = s.flag a i :=
  foldl_keeps (fun s => s.flag a i) (fun s q => (State.flag_congr (reg_rewindOne p k f fcs h s q) i).trans (flag_freePacket h.pause other q.id s)) _ s

theorem mem_rewindReceiving (s : State) : (rewindReceiving p k f fcs s).mem = s.mem :=
  foldl_keeps State.mem (fun s q => (regsOnly_rewindOne p k f fcs s q).mem.trans (freed_freePacket q.id s).mem) _ s
end

theorem notPauseReg_portStatus (p : Nat) : ¬ PauseReg (Addr.PORT_STATUS p) := by
  rintro ⟨p, k, j, hk, hj, same⟩
  simp only [Addr.PORT_STATUS, Addr.PFC_RX, Addr.PFC_TX] at same
  omega

theorem notPauseReg_portCtrl (p : Nat) : ¬ PauseReg (Addr.PORT_CTRL p) := by
  rintro ⟨p, k, j, hk, hj, same⟩
  simp only [Addr.PORT_CTRL, Addr.PFC_RX, Addr.PFC_TX] at same
  omega

theorem unrewoundReg_portStatus (p q k L : Nat) : UnrewoundReg q k L (Addr.PORT_STATUS p) := by
  refine ⟨notPauseReg_portStatus p, ?_, ?_, ?_, ?_⟩
  all_goals
    simp only [Addr.PORT_STATUS, Addr.REWIND_COUNT, Addr.HIGH_WATER, Addr.OVERFLOW_COUNT, Addr.RX_FCS_ERR]
    omega

theorem unrewoundReg_portCtrl (p q k L : Nat) : UnrewoundReg q k L (Addr.PORT_CTRL p) := by
  refine ⟨notPauseReg_portCtrl p, ?_, ?_, ?_, ?_⟩
  all_goals
    simp only [Addr.PORT_CTRL, Addr.REWIND_COUNT, Addr.HIGH_WATER, Addr.OVERFLOW_COUNT, Addr.RX_FCS_ERR]
    omega

/-! LINK_STATE_CHANGE and HI_SER_UPDATE -/

/-- PORT_STATUS of a port as LINK_STATE_CHANGE leaves it. -/
def showLink (p k : Nat) (up : Bool) (lanes : Nat) (s s0 : State) : State :=
  let s1 := (s0.setFlag (Addr.PORT_STATUS p) (8 + k) up).setField (Addr.PORT_STATUS p) 0 8 lanes
  let s2 := s1.setFlag (Addr.PORT_STATUS p) 16 (s1.allSubsUp p && s.flag (Addr.PORT_CTRL p) 4)
  s2.setFlag (Addr.PORT_STATUS p) 17 (s1.allSubsUp p && s.flag (Addr.PORT_CTRL p) 5)

theorem exec_linkStateChange_there {t p k : Nat} {up : Bool} {lanes : Nat} {s : State} (there : k < subPortsOf (s.portMode p)) :
    exec (.linkStateChange t p k up lanes) s =
      .next (showLink p k up lanes s (if up then advance t s else rewindReceiving p k (lportOf p k) true (advance t s))) := by
  have row : exec (.linkStateChange t p k up lanes) s = execLinkStateChange t p k up lanes s := rfl
  rw [row, execLinkStateChange, if_pos there, showLink]

section
variable {p k : Nat} (up : Bool) (lanes : Nat) (s s0 : State)

theorem subUp_showLink_same (hk : k < 8) : (showLink p k up lanes s s0).subUp p k = up := by
  unfold showLink State.subUp
  rw [State.flag_setFlag_apart _ (by omega) (by omega), State.flag_setFlag_apart _ (by omega) (by omega),
    State.flag_setField_apart _ (by omega) (by omega), State.flag_setFlag _ (by omega)]

theorem subUp_showLink_other {j : Nat} (hk : k < 8) (hj : j < 8) (other : j ≠ k) : (showLink p k up lanes s s0).subUp p j = s0.subUp p j := by
  unfold showLink State.subUp
  rw [State.flag_setFlag_apart _ (by omega) (by omega), State.flag_setFlag_apart _ (by omega) (by omega),
    State.flag_setField_apart _ (by omega) (by omega), State.flag_setFlag_apart _ (by omega) (by omega)]

theorem reg_showLink_other {a : Nat} (other : a ≠ Addr.PORT_STATUS p) : (showLink p k up lanes s s0).reg a = s0.reg a := by
  unfold showLink
  rw [State.reg_setFlag_other _ other, State.reg_setFlag_other _ other, State.reg_setField_other _ other, State.reg_setFlag_other _ other]
end

/-- The symbols corrected on the lanes `l`. -/
def countLanes (p : Nat) (symbols : List Nat) (l : List Nat) (s : State) : State :=
  l.foldl (fun s j => s.bump32 (Addr.FEC_SYMBOL_ERR p j) (symbols.getD j 0)) s

section
variable {p : Nat} (symbols : List Nat)

theorem reg_countLanes_other {a : Nat} : ∀ {l : List Nat} (_ : ∀ j ∈ l, a ≠ Addr.FEC_SYMBOL_ERR p j) (s : State),
    (countLanes p symbols l s).reg a = s.reg a
  | [], _, _ => rfl
  | j :: _, other, s => (reg_countLanes_other (fun i hi => other i (List.mem_cons_of_mem _ hi)) _).trans
      (State.reg_bump32_other s (other j (List.mem_cons_self ..)) _)

theorem reg_countLanes {j : Nat} : ∀ {l : List Nat} (_ : l.Nodup) (_ : j ∈ l) (s : State),
    (countLanes p symbols l s).reg (Addr.FEC_SYMBOL_ERR p j) = (s.reg (Addr.FEC_SYMBOL_ERR p j) + symbols.getD j 0) % 2 ^ 32
  | i :: l, once, there, s => by
    obtain ⟨new, rest⟩ := List.nodup_cons.mp once
    have apart {h : Nat} (other : h ≠ j) : Addr.FEC_SYMBOL_ERR p j ≠ Addr.FEC_SYMBOL_ERR p h := by
      simp only [Addr.FEC_SYMBOL_ERR]
      omega
    show (countLanes p symbols l (s.bump32 (Addr.FEC_SYMBOL_ERR p i) (symbols.getD i 0))).reg _ = _
    rcases List.mem_cons.mp there with rfl | later
    · rw [reg_countLanes_other symbols (fun h hh => apart fun same => new (by rwa [same] at hh)), State.reg_bump32]
    · rw [reg_countLanes rest later, State.reg_bump32_other s (apart fun same => new (by rwa [same]))]
end

theorem regsOnly_countSymbols (p : Nat) (symbols : List Nat) (s : State) : RegsOnly s (countSymbols p symbols s) := by
  show RegsOnly s (countLanes p symbols (List.range 8) s)
  generalize List.range 8 = l
  induction l generalizing s with
  | nil => exact .refl s
  | cons j l ih => exact (regsOnly_setReg s _ _).trans (ih _)

theorem exec_hiSerUpdate_on {t p n m : Nat} {symbols : List Nat} {s : State} (on : s.on = true) :
    exec (.hiSerUpdate t p n m symbols) s = .next ((countSymbols p symbols
      (((advance t s).bump64 (Addr.FEC_UNCORR_CW p) n).bump64 (Addr.FEC_CORR_CW p) m)).setFlag (Addr.PORT_STATUS p) 18
        (decide (s.reg (Addr.HI_SER_THRESH p) < n))) := by
  have row : exec (.hiSerUpdate t p n m symbols) s = execHiSerUpdate t p n m symbols s := rfl
  rw [row, execHiSerUpdate, if_neg (by simp [on])]

/-- What HI_SER_UPDATE counts. -/
theorem countedSer (t p n m : Nat) (symbols : List Nat) (s : State) :
    let u := (countSymbols p symbols (((advance t s).bump64 (Addr.FEC_UNCORR_CW p) n).bump64 (Addr.FEC_CORR_CW p) m)).setFlag (Addr.PORT_STATUS p) 18
      (decide (s.reg (Addr.HI_SER_THRESH p) < n))
    u.reg (Addr.FEC_UNCORR_CW p) = (s.reg (Addr.FEC_UNCORR_CW p) + n) % 2 ^ 64 ∧
      u.reg (Addr.FEC_CORR_CW p) = (s.reg (Addr.FEC_CORR_CW p) + m) % 2 ^ 64 ∧
      (∀ j < 8, u.reg (Addr.FEC_SYMBOL_ERR p j) = (s.reg (Addr.FEC_SYMBOL_ERR p j) + symbols.getD j 0) % 2 ^ 32) ∧
      u.flag (Addr.PORT_STATUS p) 18 = decide (s.reg (Addr.HI_SER_THRESH p) < n) ∧
      sameRegsBut ((List.range 8).map (Addr.FEC_SYMBOL_ERR p) ++ [Addr.FEC_UNCORR_CW p, Addr.FEC_CORR_CW p, Addr.PORT_STATUS p]) s u := by
  intro u
  have lanes (a : Nat) (other : ∀ j < 8, a ≠ Addr.FEC_SYMBOL_ERR p j) (status : a ≠ Addr.PORT_STATUS p) :
      u.reg a = (((advance t s).bump64 (Addr.FEC_UNCORR_CW p) n).bump64 (Addr.FEC_CORR_CW p) m).reg a :=
    (State.reg_setFlag_other _ status _ _).trans (reg_countLanes_other symbols (fun j hj => other j (List.mem_range.mp hj)) _)
  have apart : Addr.FEC_UNCORR_CW p ≠ Addr.FEC_CORR_CW p ∧ Addr.FEC_UNCORR_CW p ≠ Addr.PORT_STATUS p ∧ Addr.FEC_CORR_CW p ≠ Addr.PORT_STATUS p ∧
      ∀ j, Addr.FEC_SYMBOL_ERR p j ≠ Addr.FEC_UNCORR_CW p ∧ Addr.FEC_SYMBOL_ERR p j ≠ Addr.FEC_CORR_CW p ∧
          Addr.FEC_SYMBOL_ERR p j ≠ Addr.PORT_STATUS p := by
    simp only [Addr.FEC_UNCORR_CW, Addr.FEC_CORR_CW, Addr.PORT_STATUS, Addr.FEC_SYMBOL_ERR]
    exact ⟨by omega, by omega, by omega, fun j => by omega⟩
  obtain ⟨un, unStatus, coStatus, symbol⟩ := apart
  refine ⟨?_, ?_, fun j hj => ?_, State.flag_setFlag _ (by omega) _, fun a other => ?_⟩
  · rw [lanes _ (fun j _ => (symbol j).1.symm) unStatus, State.reg_bump64_other _ un, State.reg_bump64, State.advance_reg]
  · rw [lanes _ (fun j _ => (symbol j).2.1.symm) coStatus, State.reg_bump64, State.reg_bump64_other _ un.symm, State.advance_reg]
  · refine (State.reg_setFlag_other _ (symbol j).2.2 _ _).trans ((reg_countLanes symbols List.nodup_range (List.mem_range.mpr hj) _).trans ?_)
    rw [State.reg_bump64_other _ (symbol j).2.1, State.reg_bump64_other _ (symbol j).1, State.advance_reg]
  · simp only [List.mem_append, List.mem_map, List.mem_range, List.mem_cons, List.not_mem_nil, or_false, not_or, not_exists, not_and] at other
    obtain ⟨symbols_, un, co, status⟩ := other
    rw [lanes a (fun j hj same => symbols_ j hj same.symm) status, State.reg_bump64_other _ co, State.reg_bump64_other _ un, State.advance_reg]

/-! The write of PORT_CTRL (R62 to R64) -/

theorem locate_portCtrl {p : Nat} (hp : p < 16) : locate (Addr.PORT_CTRL p) =
    some ⟨.port, p, ⟨0x0, 1, 0x0, 1, false, .rw, 0x0, 0x7f, 0x0, 0xffffffff⟩, 0, 0, false, Addr.PORT_CTRL p⟩ := by
  unfold locate blocks
  iterate 6 rw [locateIn_outside (by simp only [Addr.PORT_CTRL]; omega)]
  have number : (Addr.PORT_CTRL p - 0x100000) / 0x10000 = p := by simp only [Addr.PORT_CTRL]; omega
  have offset : (Addr.PORT_CTRL p - 0x100000) % 0x10000 = 0 := by simp only [Addr.PORT_CTRL]; omega
  rw [locateIn_inside (r := ⟨0x0, 1, 0x0, 1, false, .rw, 0x0, 0x7f, 0x0, 0xffffffff⟩) (k := 0) (j := 0) (by simp only [Addr.PORT_CTRL]; omega)
    (by simp only [offset]; decide)]
  simp only [number]

theorem blockIn_portCtrl {p : Nat} (hp : p < 16) : blockIn (Addr.PORT_CTRL p) blocks = some (.port, p) := by
  unfold blocks
  iterate 6 rw [blockIn_outside (by simp only [Addr.PORT_CTRL]; omega)]
  have number : (Addr.PORT_CTRL p - 0x100000) / 0x10000 = p := by simp only [Addr.PORT_CTRL]; omega
  rw [blockIn, if_pos (by simp only [Addr.PORT_CTRL]; omega)]
  simp only [number]

theorem writeWord_portCtrl {e : Env} (isOwner : e.owner = true) {p : Nat} (hp : p < 16) (v : Nat) (s : State) :
    writeWord e (Addr.PORT_CTRL p) v s = wrPortMode p (v &&& 0x7F) s := by
  have may : s.mayWriteWord e (Addr.PORT_CTRL p) = true := by
    rw [State.mayWriteWord, isStoreCtl, blockIn_portCtrl hp]
    simp [isOwner]
  rw [writeWord_located may (locate_portCtrl hp) rfl ⟨nofun, nofun⟩]
  exact if_pos rfl

theorem refillExceptions_only (s : State) : refillExceptions s = { s with mt.bucket := (refillExceptions s).mt.bucket } := by
  unfold refillExceptions
  generalize List.range 64 = l
  induction l generalizing s with
  | nil => rfl
  | cons L l ih => rw [List.foldl_cons, ih]; rfl

/-- `wrPortCtrl` on a mode that exists and the partner allows. -/
theorem wrPortCtrl_allowed {p w : Nat} {s : State} (exists_ : w % 8 ≤ 4) (small : w < 128)
    (solo : ¬ (w % 8 = 4 ∧ s.portMode (partner p) ≠ 0)) (free : ¬ (w % 8 ≠ 0 ∧ s.portMode (partner p) = 4)) :
    wrPortCtrl p w s =
      if w % 8 = s.portMode p then (St.OK, s.setReg (Addr.PORT_CTRL p) w)
      else if bufferPages < (s.setReg (Addr.PORT_CTRL p) w).reservedSum then (St.NO_FIT, s)
      else
        let s2 := (List.range (subPortsOf (s.portMode p))).foldl (fun s k => rewindReceiving p k (lportOf p k) true s)
          ((s.setReg (Addr.PORT_CTRL p) w).setField (Addr.PORT_STATUS p) 0 19 0)
        (St.OK, if w % 8 = 4 then s2.setFlag (Addr.HC_CTRL (partner p)) 0 false else s2) := by
  rw [wrPortCtrl, if_neg (by omega), if_neg (not_or.mpr ⟨solo, free⟩), Nat.mod_eq_of_lt small]

/-! Queues of ports that are no more (R294) -/

/-- The register at `a` is none of those that flushing queues changes. -/
structure UnflushedReg (a : Nat) : Prop where
  pause : ¬ PauseReg a
  epoch : a ≠ Addr.EPOCH_STATUS
  below : a < 0x1000000

section
variable {a : Nat} (h : UnflushedReg a)
include h

theorem reg_releasePacket (id : Nat) (s : State) : (releasePacket id s).reg a = s.reg a := by
  unfold releasePacket
  split
  · rfl
  · exact (freed_freePacket id s).reg a h.pause h.epoch

theorem reg_flushWhere (q : Nat) (keep : QFrame → Bool) (s : State) : (flushWhere q keep s).reg a = s.reg a := by
  have deficit : a ≠ Addr.DEFICIT q := by have := h.below; simp only [Addr.DEFICIT]; omega
  have dropped : a ≠ Addr.FLUSH_DROP q := by have := h.below; simp only [Addr.FLUSH_DROP]; omega
  unfold flushWhere
  extract_lets gone s1 s2
  have h1 : s1.reg a = s.reg a := State.reg_bump32_other _ dropped _
  have h2 : s2.reg a = s.reg a := (foldl_keeps (fun s => s.reg a) (fun s f => reg_releasePacket h f.pkt s) gone s1).trans h1
  split
  · exact (State.reg_setReg_other deficit s2 0).trans h2
  · exact h2

theorem reg_flushPort (L : Nat) (s : State) : (flushPort L s).reg a = s.reg a := by
  refine foldl_keeps (fun s => s.reg a) (fun s q => ?_) _ s
  unfold flushQueue
  split
  · rfl
  · exact reg_flushWhere h q _ s
end

theorem mem_releasePacket (id : Nat) (s : State) : (releasePacket id s).mem = s.mem := by
  unfold releasePacket
  split
  · rfl
  · exact (freed_freePacket id s).mem

theorem mem_flushWhere (q : Nat) (keep : QFrame → Bool) (s : State) : (flushWhere q keep s).mem = s.mem := by
  unfold flushWhere
  extract_lets gone s1 s2
  have h2 : s2.mem = s.mem := foldl_keeps State.mem (fun s f => mem_releasePacket f.pkt s) gone s1
  split
  · exact h2
  · exact h2

theorem mem_flushPort (L : Nat) (s : State) : (flushPort L s).mem = s.mem := by
  refine foldl_keeps State.mem (fun s q => ?_) _ s
  unfold flushQueue
  split
  · rfl
  · exact mem_flushWhere q _ s

theorem portMode_setReg_same {p w : Nat} {s : State} (same : w % 8 = s.portMode p) (small : w < 128) (q : Nat) :
    (s.setReg (Addr.PORT_CTRL p) w).portMode q = s.portMode q := by
  by_cases here : q = p
  · rw [here, ← same, State.portMode, State.field, State.reg_setReg_same, Nat.mod_eq_of_lt (by omega)]
    simp [bits]
  · exact State.field_congr (State.reg_setReg_other (by simp only [Addr.PORT_CTRL]; omega) _ _) 0 3

theorem placeOf_of_portMode {s t : State} (same : ∀ q, t.portMode q = s.portMode q) (L : Nat) : t.placeOf L = s.placeOf L := by
  simp only [State.placeOf, same]

/-- A write of PORT_CTRL that keeps the mode stores the value. -/
theorem wrPortMode_kept {p w : Nat} {s : State} (small : w < 128) (exists_ : w % 8 ≤ 4) (solo : ¬ (w % 8 = 4 ∧ s.portMode (partner p) ≠ 0))
    (free : ¬ (w % 8 ≠ 0 ∧ s.portMode (partner p) = 4)) (same : w % 8 = s.portMode p) :
    wrPortMode p w s = (St.OK, (refillExceptions s).setReg (Addr.PORT_CTRL p) w) := by
  have mode (q : Nat) : (refillExceptions s).portMode q = s.portMode q := State.field_congr (State.reg_of_regs (by rw [refillExceptions_only]) _) 0 3
  have kept (q : Nat) : ((refillExceptions s).setReg (Addr.PORT_CTRL p) w).portMode q = s.portMode q :=
    (portMode_setReg_same (same.trans (mode p).symm) small q).trans (mode q)
  have none_ : ((List.range 64).filter (fun L =>
      (s.placeOf L).isSome && (((refillExceptions s).setReg (Addr.PORT_CTRL p) w).placeOf L).isNone)) = [] := by
    refine List.filter_eq_nil_iff.mpr fun L _ => ?_
    rw [placeOf_of_portMode kept]
    cases s.placeOf L <;> simp
  rw [wrPortMode, wrPortCtrl_allowed exists_ small (by rwa [mode]) (by rwa [mode]), if_pos (same.trans (mode p).symm)]
  simp only [↓reduceIte, none_, List.foldl_nil]

/-- The state that a change of a port's mode leaves before the queues of its sub-ports are emptied. -/
def remode (p w : Nat) (s : State) : State :=
  let s2 := (List.range (subPortsOf (s.portMode p))).foldl (fun s k => rewindReceiving p k (lportOf p k) true s)
    ((s.setReg (Addr.PORT_CTRL p) w).setField (Addr.PORT_STATUS p) 0 19 0)
  if w % 8 = 4 then s2.setFlag (Addr.HC_CTRL (partner p)) 0 false else s2

theorem reg_remode {p a : Nat} (w : Nat) (s : State) (unrewound : ∀ k, UnrewoundReg p k (lportOf p k) a) (epoch : a ≠ Addr.EPOCH_STATUS)
    (ctrl : a ≠ Addr.HC_CTRL (partner p)) :
    (remode p w s).reg a = ((s.setReg (Addr.PORT_CTRL p) w).setField (Addr.PORT_STATUS p) 0 19 0).reg a := by
  unfold remode
  extract_lets s2
  have h2 : s2.reg a = _ := foldl_keeps (fun s => s.reg a) (fun s k => reg_rewindReceiving p k _ true (unrewound k) epoch s) _ _
  exact (reg_ite_other (State.reg_setFlag_other s2 ctrl 0 false)).trans h2

theorem mem_remode (p w : Nat) (s : State) : (remode p w s).mem = s.mem := by
  unfold remode
  extract_lets s2
  have h2 : s2.mem = _ := foldl_keeps State.mem (fun s k => mem_rewindReceiving p k _ true s) _ _
  split
  · exact h2
  · exact h2

theorem reservedSum_of_regs {s t : State} (same : t.regs = s.regs) : t.reservedSum = s.reservedSum := by
  have reg : t.reg = s.reg := funext (State.reg_of_regs same)
  unfold State.reservedSum State.subPorts State.headroomAllot State.flowMode State.pfcEn State.portMode State.field
  rw [reg]

/-- The sub-ports that a cleared PORT_STATUS shows. -/
theorem flag_setField_zero {a i w : Nat} (s : State) (hi : i < w) (fits : w ≤ 64) : (s.setField a 0 w 0).flag a i = false := by
  rw [State.flag, State.reg_setField s (by omega), putBits_eq]
  obtain ⟨d, rfl⟩ := Nat.exists_eq_add_of_lt hi
  have even : 2 ^ (i + d + 1) * (s.reg a / 2 ^ (i + d + 1)) / 2 ^ i % 2 = 0 := by
    rw [show 2 ^ (i + d + 1) = 2 ^ i * (2 * 2 ^ d) by ring, mul_assoc, Nat.mul_div_cancel_left _ (by positivity), mul_assoc]
    exact Nat.mul_mod_right 2 _
  simp [bitAt, even, Nat.mod_one]

/-- A write of PORT_CTRL that changes the mode, the reservations fitting the buffer. -/
theorem wrPortMode_changed {p w : Nat} {s : State} (small : w < 128) (exists_ : w % 8 ≤ 4) (solo : ¬ (w % 8 = 4 ∧ s.portMode (partner p) ≠ 0))
    (free : ¬ (w % 8 ≠ 0 ∧ s.portMode (partner p) = 4)) (other : w % 8 ≠ s.portMode p)
    (fits : (s.setReg (Addr.PORT_CTRL p) w).reservedSum ≤ bufferPages) :
    ∃ l : List Nat, wrPortMode p w s = (St.OK, l.foldl (fun s L => flushPort L s) (remode p w (refillExceptions s))) := by
  have regs : (refillExceptions s).regs = s.regs := by rw [refillExceptions_only]
  have mode (q : Nat) : (refillExceptions s).portMode q = s.portMode q := State.field_congr (State.reg_of_regs regs _) 0 3
  have sum : ((refillExceptions s).setReg (Addr.PORT_CTRL p) w).reservedSum = (s.setReg (Addr.PORT_CTRL p) w).reservedSum :=
    reservedSum_of_regs (congrArg (tabSet _ (Addr.PORT_CTRL p) (BitVec.ofNat 64 w)) regs)
  have changed : wrPortCtrl p w (refillExceptions s) = (St.OK, remode p w (refillExceptions s)) := by
    rw [wrPortCtrl_allowed exists_ small (by rwa [mode]) (by rwa [mode]), if_neg (by rwa [mode]), if_neg (by rw [sum]; exact Nat.not_lt.mpr fits),
      remode]
  rw [wrPortMode, changed]
  exact ⟨_, if_pos rfl⟩

/-- Settles O18: the write of PORT_CTRL, the link's flags and the counters of the FEC each by what they set. -/
theorem ethernetPortsChange : Obligations.EthernetPortsChange := by
  unfold Obligations.EthernetPortsChange
  refine ⟨fun c x s port v h isOwner hp => ?_, fun t p k up lanes s there => ?_, fun t p n m symbols s on _ => ?_⟩
  · dsimp only
    have word : v.toNat % 2 ^ 32 &&& 0x7F = v.toNat % 128 := by
      rw [Nat.mod_eq_of_lt v.isLt]
      exact Nat.and_two_pow_sub_one_eq_mod v.toNat 7
    have written (s : State) : writeWord (envOf c x) (Addr.PORT_CTRL port) v.toNat s = wrPortMode port (v.toNat % 128) s := by
      rw [writeWord_portCtrl (envOf_owner isOwner c) hp]
      exact congrArg (fun w => wrPortMode port w s) (Nat.and_two_pow_sub_one_eq_mod v.toNat 7)
    have address : Addr.PORT_CTRL port < 2 ^ 32 ∧ Addr.PORT_CTRL port % 4 = 0 := by
      simp only [Addr.PORT_CTRL]
      omega
    have mode : v.toNat % 128 % 8 = v.toNat % 8 := by omega
    have small : v.toNat % 128 < 128 := Nat.mod_lt _ (by decide)
    rw [word, ← mode]
    intro exists_ solo free
    refine ⟨fun same => ?_, fun other fits => ?_⟩
    · refine completes_written rfl h address.1 address.2 v.isLt ((written _).trans (wrPortMode_kept small exists_ solo free same)) ⟨?_, ?_, ?_⟩
      · rw [State.reg_setReg_same, Nat.mod_eq_of_lt (by omega)]
      · intro a other
        rw [State.reg_setReg_other (by simpa using other)]
        exact State.reg_of_regs (by rw [refillExceptions_only]) a
      · refine sameMemory_of_mem ((State.setReg_mem _ _ _).trans ?_)
        rw [refillExceptions_only]
        exact begun_mem c x s
    · obtain ⟨l, changed⟩ := wrPortMode_changed small exists_ solo free other fits
      have partner_ : partner port < 17 := by
        simp only [partner]
        split <;> omega
      have flushed {a : Nat}
          (unflushed : UnflushedReg a) (unrewound : ∀ k, UnrewoundReg port k (lportOf port k) a) (ctrl : a ≠ Addr.HC_CTRL (partner port)) :
          (l.foldl (fun s L => flushPort L s) (remode port (v.toNat % 128) (refillExceptions (begun c x s)))).reg a =
            (((refillExceptions (begun c x s)).setReg (Addr.PORT_CTRL port) (v.toNat % 128)).setField (Addr.PORT_STATUS port) 0 19 0).reg a :=
        (foldl_keeps (fun s => s.reg a) (fun s L => reg_flushPort unflushed L s) l _).trans (reg_remode _ _ unrewound unflushed.epoch ctrl)
      refine completes_written rfl h address.1 address.2 v.isLt ((written _).trans changed) ⟨?_, fun k hk => ?_, ?_⟩
      · rw [flushed ⟨notPauseReg_portCtrl port, by simp only [Addr.PORT_CTRL, Addr.EPOCH_STATUS]; omega, by simp only [Addr.PORT_CTRL]; omega⟩
          (fun k => unrewoundReg_portCtrl port port k _) (by simp only [Addr.PORT_CTRL, Addr.HC_CTRL]; omega),
          State.reg_setField_other _ (by simp only [Addr.PORT_CTRL, Addr.PORT_STATUS]; omega), State.reg_setReg_same, Nat.mod_eq_of_lt (by omega)]
      · refine (State.flag_congr (flushed ⟨notPauseReg_portStatus port, by simp only [Addr.PORT_STATUS, Addr.EPOCH_STATUS]; omega,
          by simp only [Addr.PORT_STATUS]; omega⟩ (fun k => unrewoundReg_portStatus port port k _)
          (by simp only [Addr.PORT_STATUS, Addr.HC_CTRL]; omega)) (8 + k)).trans ?_
        exact flag_setField_zero _ (by omega) (by decide)
      · exact sameMemory_of_mem ((foldl_keeps State.mem (fun s L => mem_flushPort L s) l _).trans
          ((mem_remode _ _ _).trans (by rw [refillExceptions_only]; exact begun_mem c x s)))
  · have hk : k < 8 := there.trans_le (subPortsOf_le _)
    refine ⟨_, exec_linkStateChange_there there, subUp_showLink_same up lanes s _ hk, fun j hj other => ?_, fun up_ => ?_⟩
    · rw [subUp_showLink_other up lanes s _ hk hj other]
      split
      · rfl
      · exact flag_rewindReceiving p k _ true (unrewoundReg_portStatus p p k _) (by omega) _
    · rw [if_pos up_]
      exact ⟨fun a other => reg_showLink_other up lanes s _ (by simpa using other), rfl⟩
  · exact ⟨_, exec_hiSerUpdate_on on, countedSer t p n m symbols s⟩
end Sys2Proof.Machine

/-!
PROOFS. Frames that come in, and pauses sent and taken (R66 to R70, R77, R78, R290).
-/
namespace Sys2Proof.Machine

/-! Pauses that are taken and sent (R70, R290) -/

theorem rejoin_only (L : Nat) (s : State) : rejoin L s = { s with tm.active := (rejoin L s).tm.active } := by
  unfold rejoin
  dsimp only
  split
  · rfl
  · rfl

theorem setBits_two_pow {i : Nat} (hi : i < 8) : setBits (2 ^ i) 8 = [i] := by interval_cases i <;> decide

/-- A pause of priority `prio` (8 for the port) for `q` quanta is set, or ended for 0. -/
def setPause (p L prio q : Nat) (s : State) : State :=
  { s with ports.paused := tabSet 0 (fcKey L prio) (if q = 0 then 0 else s.now + q * (2560 / lanesOf (s.portMode p))) s.ports.paused }

/-- What a received frame of one priority, or of the port, does: it is counted, and pauses what its flow control enables. -/
def takePause (p k L i prio q : Nat) (enabled : Bool) (s : State) : State :=
  let s1 := s.bump32 (Addr.PFC_RX p k i)
  rejoin L (if enabled then setPause p L prio q s1 else s1)

theorem portMode_counted {i : Nat} (hi : i < 8) (p k q : Nat) (s : State) : (s.bump32 (Addr.PFC_RX p k i)).portMode q = s.portMode q :=
  State.field_congr (State.reg_bump32_other s (by simp only [Addr.PORT_CTRL, Addr.PFC_RX]; omega) 1) 0 3

section
variable {p k L i prio : Nat} {s : State}

theorem receivePause_pfc (hi : i < 8) (times : List Nat) (s : State) :
    receivePause p k L false (2 ^ i) times s =
      takePause p k L i i (times.getD i 0) (s.flowMode p k == 2 && bitAt (s.pfcEn p k) i) s := by
  unfold receivePause takePause setPause
  simp only [setBits_two_pow hi, List.foldl_cons, List.foldl_nil, portMode_counted hi, Bool.false_eq_true, ↓reduceIte, Bool.and_eq_true, beq_iff_eq]

theorem receivePause_port (times : List Nat) (s : State) :
    receivePause p k L true 0 times s = takePause p k L 0 8 (times.getD 0 0) (s.flowMode p k == 1) s := by
  unfold receivePause takePause setPause
  simp only [portMode_counted (by decide : 0 < 8), ↓reduceIte, beq_iff_eq]
end

section
variable {p k L i prio q : Nat} {enabled : Bool} {s : State}

theorem takePause_only : takePause p k L i prio q enabled s = { s with
    regs := (s.bump32 (Addr.PFC_RX p k i)).regs
    tm.active := (takePause p k L i prio q enabled s).tm.active
    ports.paused := (takePause p k L i prio q enabled s).ports.paused } := by
  unfold takePause
  cases enabled with
  | false => simp only [Bool.false_eq_true, ↓reduceIte]; rw [rejoin_only]; rfl
  | true => simp only [↓reduceIte]; rw [rejoin_only]; rfl

theorem takePause_paused (hi : i < 8) (on : enabled = true) : tabGet 0 (fcKey L prio) (takePause p k L i prio q enabled s).ports.paused =
    if q = 0 then 0 else s.now + q * (2560 / lanesOf (s.portMode p)) := by
  unfold takePause
  rw [rejoin_only, if_pos on]
  simp only [setPause, portMode_counted hi]
  exact tabGet_tabSet_same _ _ _ _

theorem takePause_count : (takePause p k L i prio q enabled s).reg (Addr.PFC_RX p k i) = (s.reg (Addr.PFC_RX p k i) + 1) % 2 ^ 32 := by
  rw [takePause_only, ← State.reg_bump32 s]
  exact State.reg_of_regs rfl _

theorem takePause_reg {a : Nat} (other : a ≠ Addr.PFC_RX p k i) : (takePause p k L i prio q enabled s).reg a = s.reg a := by
  rw [takePause_only, ← State.reg_bump32_other s other 1]
  exact State.reg_of_regs rfl _

/-- A time of a PFC frame of one priority. -/
theorem getD_times {i q : Nat} (hi : i < 8) : ((List.range 8).map (fun j => if j = i then q else 0)).getD i 0 = q := by
  interval_cases i <;> rfl
end

section
variable {t L p k q : Nat} {s : State}

theorem exec_pfcFrameReceive_up (place : s.placeOf L = some (p, k)) (up : s.subUp p k = true) (pause : Bool) (enables : Nat) (times : List Nat) :
    exec (.pfcFrameReceive t L pause enables times) s = .next (receivePause p k L pause enables times (advance t s)) := by
  have row : exec (.pfcFrameReceive t L pause enables times) s = execPfcFrameReceive t L pause enables times s := rfl
  rw [row, execPfcFrameReceive, place]
  exact congrArg _ (if_pos up)

/-- A frame that is taken pauses its priority, is counted, and changes no other register. -/
theorem pauseTaken {prio i : Nat} {enabled : Bool} (hi : i < 8) (on : enabled = true) :
    let u := takePause p k L i prio q enabled (advance t s)
    tabGet 0 (fcKey L prio) u.ports.paused = (if q = 0 then 0 else max s.now t + q * (2560 / lanesOf (s.portMode p))) ∧
      u.reg (Addr.PFC_RX p k i) = (s.reg (Addr.PFC_RX p k i) + 1) % 2 ^ 32 ∧ sameRegsBut [Addr.PFC_RX p k i] s u := by
  refine ⟨takePause_paused hi on, ?_, fun a other => ?_⟩
  · rw [takePause_count, State.advance_reg]
  · rw [takePause_reg (by simpa using other), State.advance_reg]

theorem exec_pauseExpiry_ended {prio : Nat}
    (paused : tabGet 0 (fcKey L prio) s.ports.paused ≠ 0) (ended : tabGet 0 (fcKey L prio) s.ports.paused ≤ t) :
    ∃ u, exec (.pauseExpiry t L prio) s = .next u ∧ tabGet 0 (fcKey L prio) u.ports.paused = 0 := by
  have row : exec (.pauseExpiry t L prio) s = execPauseExpiry t L prio s := rfl
  have ends : exec (.pauseExpiry t L prio) s =
      .next (rejoin L { advance t s with ports.paused := tabSet 0 (fcKey L prio) 0 (advance t s).ports.paused }) := by
    rw [row, execPauseExpiry]
    exact congrArg _ (if_pos ⟨paused, ended⟩)
  refine ⟨_, ends, ?_⟩
  rw [rejoin_only]
  exact tabGet_tabSet_same (0 : Nat) (fcKey L prio) 0 s.ports.paused
end

/-! Pauses sent -/

/-- Whether a frame of the MAC's own leaves on the wire of port `p` (R83). -/
def State.onWire (s : State) (p : Nat) : Bool := !s.flag (Addr.PORT_CTRL p) 6 && s.flag (Addr.PORT_CTRL p) 3 && !s.secError

theorem putPause_eq (p k L : Nat) (pause : Bool) (enables : Nat) (times : List Nat) (s : State) : putPause p k L pause enables times s =
    if s.flag (Addr.PORT_CTRL p) 6 then receivePause p k L pause enables times s
    else if s.onWire p then s.emit (.pfc L pause enables times) else s := by
  unfold putPause
  cases loop : s.flag (Addr.PORT_CTRL p) 6 <;> simp [State.onWire, loop]

/-- The item of the PFC counters of a sub-port that counts a priority, 8 being the port (R83). -/
def pfcItem (prio : Nat) : Nat := if prio = 8 then 0 else prio

/-- The PFC or PAUSE frame of time `q` (R70). -/
def pauseFrame (L prio q : Nat) : Output :=
  if prio = 8 then .pfc L true 0 [q] else .pfc L false (2 ^ prio) ((List.range 8).map (fun i => if i = prio then q else 0))

/-- `u` is `s` after the frame of `prio` was counted, looped back or sent. -/
structure PauseSent (p k L prio q : Nat) (s u : State) : Prop where
  out : u.out = s.out ++ (if s.onWire p then [pauseFrame L prio q] else [])
  now : u.now = s.now
  count : u.reg (Addr.PFC_TX p k (pfcItem prio)) = (s.reg (Addr.PFC_TX p k (pfcItem prio)) + 1) % 2 ^ 32
  reg : sameRegsBut [Addr.PFC_TX p k (pfcItem prio), Addr.PFC_RX p k (pfcItem prio)] s u

section
variable {p k L prio q : Nat} {s : State}

theorem pfcItem_lt (hprio : prio ≤ 8) : pfcItem prio < 8 := by
  unfold pfcItem
  split <;> omega

theorem onWire_counted {i : Nat} (hi : i < 8) : (s.bump32 (Addr.PFC_TX p k i)).onWire p = s.onWire p := by
  have ctrl : Addr.PORT_CTRL p ≠ Addr.PFC_TX p k i := by simp only [Addr.PORT_CTRL, Addr.PFC_TX]; omega
  have sec : Addr.SEC_STATUS ≠ Addr.PFC_TX p k i := by simp only [Addr.SEC_STATUS, Addr.PFC_TX]; omega
  rw [State.onWire, State.flag_bump32_other ctrl, State.flag_bump32_other ctrl, State.secError,
    State.field_congr (State.reg_bump32_other s sec 1), ← State.secError, ← State.onWire]

/-- A frame of the MAC's own on a link that is up is counted, then looped back, sent or squelched. -/
theorem sendPfc_up (hprio : prio ≤ 8) (up : s.subUp p k = true) : ∃ enabled, sendPfc p k L prio q s =
    let c := s.bump32 (Addr.PFC_TX p k (pfcItem prio))
    if c.flag (Addr.PORT_CTRL p) 6 then takePause p k L (pfcItem prio) prio q enabled c
    else if c.onWire p then c.emit (pauseFrame L prio q) else c := by
  unfold sendPfc pfcItem pauseFrame
  by_cases port : prio = 8
  · refine ⟨(s.bump32 (Addr.PFC_TX p k 0)).flowMode p k == 1, ?_⟩
    simp only [up, Bool.not_true, Bool.false_eq_true, ↓reduceIte, port]
    rw [putPause_eq, receivePause_port, List.getD_cons_zero]
  · have hi : prio < 8 := by omega
    refine ⟨(s.bump32 (Addr.PFC_TX p k prio)).flowMode p k == 2 && bitAt ((s.bump32 (Addr.PFC_TX p k prio)).pfcEn p k) prio, ?_⟩
    simp only [up, Bool.not_true, Bool.false_eq_true, ↓reduceIte, port]
    rw [putPause_eq, receivePause_pfc hi, getD_times hi]

theorem pauseSent_sendPfc (hprio : prio ≤ 8) (up : s.subUp p k = true) (q : Nat) : PauseSent p k L prio q s (sendPfc p k L prio q s) := by
  obtain ⟨enabled, sends⟩ := sendPfc_up (L := L) (q := q) hprio up
  rw [sends]
  have hi := pfcItem_lt hprio
  have wire := onWire_counted (p := p) (k := k) (s := s) hi
  have count := State.reg_bump32 s (Addr.PFC_TX p k (pfcItem prio)) 1
  have keep : sameRegsBut [Addr.PFC_TX p k (pfcItem prio), Addr.PFC_RX p k (pfcItem prio)] s (s.bump32 (Addr.PFC_TX p k (pfcItem prio))) :=
    fun a other => State.reg_bump32_other s (List.ne_of_not_mem_cons other) 1
  have apart : Addr.PFC_TX p k (pfcItem prio) ≠ Addr.PFC_RX p k (pfcItem prio) := by simp only [Addr.PFC_RX, Addr.PFC_TX]; omega
  dsimp only
  split_ifs with loop sent
  · refine ⟨?_, by rw [takePause_only]; rfl, (takePause_reg apart).trans count, fun a other => ?_⟩
    · have quiet : s.onWire p = false := by rw [← wire, State.onWire, loop]; rfl
      rw [takePause_only, quiet]
      exact (List.append_nil _).symm
    · rw [takePause_reg (fun same => other (by rw [same]; exact List.mem_cons_of_mem _ (List.mem_cons_self ..))), keep a other]
  · exact ⟨by rw [← wire, sent]; rfl, rfl, count, keep⟩
  · refine ⟨?_, rfl, count, keep⟩
    rw [← wire, Bool.eq_false_iff.mpr sent]
    exact (List.append_nil _).symm

theorem exec_pfcRefresh {t : Nat} (place : s.placeOf L = some (p, k)) (up : s.subUp p k = true) (watched : prio ∈ s.fcWatched p k)
    (out : tabGet 0 (fcKey L prio) s.ports.xoff ≠ 0)
    (count : s.reg (Addr.XON_THRESH p k) ≤ s.pagesHeld L (if prio = 8 then none else some prio))
    (due : tabGet 0 (fcKey L prio) s.ports.xoff - 1 + 16384 * 2560 / lanesOf (s.portMode p) ≤ t) :
    ∃ u, exec (.pfcRefresh t L prio) s = .next u ∧ u.out = s.out ++ (if s.onWire p then [pauseFrame L prio 0xFFFF] else []) ∧
      tabGet 0 (fcKey L prio) u.ports.xoff = max s.now t + 1 ∧
      u.reg (Addr.PFC_TX p k (pfcItem prio)) = (s.reg (Addr.PFC_TX p k (pfcItem prio)) + 1) % 2 ^ 32 ∧
      sameRegsBut [Addr.PFC_TX p k (pfcItem prio), Addr.PFC_RX p k (pfcItem prio)] s u := by
  have hprio : prio ≤ 8 := State.fcWatched_le watched
  have sent : PauseSent p k L prio 0xFFFF (advance t s) (sendPfc p k L prio 0xFFFF (advance t s)) :=
    pauseSent_sendPfc (s := advance t s) hprio up 0xFFFF
  have row : exec (.pfcRefresh t L prio) s = execPfcRefresh t L prio s := rfl
  have does : execPfcRefresh t L prio s = .next { sendPfc p k L prio 0xFFFF (advance t s) with
      ports.xoff := tabSet 0 (fcKey L prio) ((sendPfc p k L prio 0xFFFF (advance t s)).now + 1) (sendPfc p k L prio 0xFFFF
          (advance t s)).ports.xoff } := by
    rw [execPfcRefresh, place]
    exact congrArg _ (if_pos ⟨watched, out, count, due⟩)
  refine ⟨_, row.trans does, sent.out, ?_, ?_, fun a other => ?_⟩
  · have now := sent.now
    exact (tabGet_tabSet_same _ _ _ _).trans (congrArg (· + 1) now)
  · rw [← State.advance_reg s t]
    exact sent.count
  · rw [← State.advance_reg s t]
    exact sent.reg a other
end

/-! Frames that come in (R66, R68, R77, R78) -/

section
variable {t L p k : Nat} {s : State}

/-- A frame within its length, before its end or with an error known at its end only, runs out of no length and no word. -/
theorem intakeEnd_partly {n m : Nat} (fits : n ≤ m) : intakeEnd n m .partly none none = none := by
  simp [intakeEnd, Nat.not_lt.mpr fits]

theorem intakeEnd_good {n m : Nat} (fits : n ≤ m) (long : 64 ≤ n) : intakeEnd n m .good none none = none := by
  simp [intakeEnd, Nat.not_lt.mpr fits, Nat.not_lt.mpr long]

theorem intakeEnd_badFcs {n m : Nat} (fits : n ≤ m) (short : Option Nat) : ∃ e, intakeEnd n m .badFcs none short = some e := by
  simp only [intakeEnd, Nat.not_lt.mpr fits, ↓reduceIte, Option.isSome_none, Bool.false_eq_true, false_and, reduceCtorEq]
  split_ifs
  · exact ⟨_, rfl⟩
  · exact ⟨_, rfl⟩
  · exact ⟨_, rfl⟩

/-- A packet of bytes `b` that has just begun to come in on logical port `L`. -/
def arrivingPkt (s : State) (p k L : Nat) (b : Bytes) : Pkt :=
  { id := s.ports.nextPkt,
    desc := ⟨(s.rxTime p).1, (s.rxTime p).2, s.zc, b.length, L, s.field (Addr.INTAKE_TENANT p k) 0 8, intakePrio s p k b, ptpEvent b⟩,
    bytes := b }

/-- `s` with that packet in the buffer, without pages yet. -/
def beginPacket (s : State) (p k L : Nat) (b : Bytes) : State :=
  { s with ports.packets := s.ports.packets ++ [arrivingPkt s p k L b], ports.nextPkt := s.ports.nextPkt + 1 }

/-- The pages of that packet. -/
def arrivingPages (s : State) (p k L : Nat) (b : Bytes) : State × Option Nat :=
  takePages p k L (intakePrio s p k b) s.ports.nextPkt (pagesOf b.length) 0 (beginPacket s p k L b)

/-- What stands of a frame while it comes in, or once it has ended. -/
def storedOf (fr : Bytes) (fin : FrameEnd) : Bytes := if fin = .partly then fr else fr.take (fr.length - 4)

/-- What follows once a frame has its pages: it is rewound, stays in reception, or is committed. -/
def settleFrame (p k L id : Nat) (stored : Bytes) (fin : FrameEnd) (e : Option IntakeEnd) (maxFrame : Nat) (r : State × Option Nat) : State :=
  match e with
  | some e => rewindPacket L (e == .noPage) (e.written stored.length maxFrame none r.2) ((freePacket id r.1).bump64 (e.counter p k))
  | none =>
    if fin = .partly then r.1.raise (Addr.HIGH_WATER L) ((r.1.fifo L).wordsHeld + r.1.arrivingWords L)
    else commitFrame p k L id stored.length r.1

/-- A first part of a frame, or a whole frame, that nothing before its end turns away. -/
theorem intakeFrame_new {fr : Bytes} {fin : FrameEnd} (on : s.flag (Addr.FIFO_CTRL L) 0 = true) (sound : s.secError = false)
    (fits : fr.length ≤ s.reg (Addr.MAX_FRAME p k)) (idle : s.arriving L = none) :
    intakeFrame p k L fr fin none s = settleFrame p k L s.ports.nextPkt (storedOf fr fin) fin
      (intakeEnd fr.length (s.reg (Addr.MAX_FRAME p k)) fin none (arrivingPages s p k L (storedOf fr fin)).2)
      (s.reg (Addr.MAX_FRAME p k)) (arrivingPages s p k L (storedOf fr fin)) := by
  unfold intakeFrame settleFrame
  simp only [idle, on, sound, intakeEnd_partly fits, Option.elim_none, Option.isSome_none, Bool.not_true, Bool.false_eq_true, ↓reduceIte,
      Nat.sub_zero]
  rfl

theorem exec_frameReceive {fr : Bytes} {fin : FrameEnd} (place : s.placeOf L = some (p, k)) (up : s.subUp p k = true)
    (frame : isPauseFrame fr = false) :
    exec (.frameReceive t L fr fin none) s = .next (intakeFrame p k L fr fin none (advance t s)) := by
  have row : exec (.frameReceive t L fr fin none) s = .next (receiveFrame L fr fin none (advance t s)) := rfl
  have place' : (advance t s).placeOf L = some (p, k) := place
  have up' : (advance t s).subUp p k = true := up
  rw [row, receiveFrame, place']
  simp [up', frame]

theorem paged_arrivingPages (s : State) (p k L : Nat) (b : Bytes) : Paged (beginPacket s p k L b) (arrivingPages s p k L b).1 :=
  paged_takePages ..

/-- The packet that comes in stands among the packets with its pages. -/
theorem arriving_mem (s : State) (p k L : Nat) (b : Bytes) :
    ∃ q ∈ (arrivingPages s p k L b).1.ports.packets, q.unpaged = (arrivingPkt s p k L b).unpaged := by
  have same := (paged_arrivingPages s p k L b).packets
  have mem : (arrivingPkt s p k L b).unpaged ∈ (arrivingPages s p k L b).1.ports.packets.map Pkt.unpaged := by
    rw [same]
    exact List.mem_map_of_mem (List.mem_append_right _ (List.mem_cons_self ..))
  obtain ⟨q, hq, same⟩ := List.mem_map.mp mem
  exact ⟨q, hq, same⟩


theorem not_pauseReg_intake {a : Nat} (h : ∃ p k o, k < 8 ∧ a = 0x101000 + p * 0x10000 + k * 0x400 + o ∧ o < 0x180) : ¬ PauseReg a := by
  obtain ⟨p, k, o, hk, rfl, ho⟩ := h
  rintro ⟨p', k', j, hk', hj, same | same⟩ <;> simp only [Addr.PFC_RX, Addr.PFC_TX] at same <;> omega

theorem not_pauseReg_rewindCount (L : Nat) : ¬ PauseReg (Addr.REWIND_COUNT L) := by
  rintro ⟨p, k, j, hk, hj, same | same⟩ <;> simp only [Addr.PFC_RX, Addr.PFC_TX, Addr.REWIND_COUNT] at same <;> omega

/-- The first part of a frame with its pages stays in reception. -/
theorem intakeFrame_partly {fr : Bytes} (on : s.flag (Addr.FIFO_CTRL L) 0 = true) (sound : s.secError = false)
    (fits : fr.length ≤ s.reg (Addr.MAX_FRAME p k)) (idle : s.arriving L = none) (_hp : p < 16) (hk : k < 8) (_hL : L < 64)
    (room : (arrivingPages s p k L fr).2 = none) :
    let u := intakeFrame p k L fr .partly none s
    (∃ q ∈ u.ports.packets, q.id = s.ports.nextPkt ∧ q.bytes = fr ∧ q.at_ = .receiving) ∧ (u.fifo L).pkts = (s.fifo L).pkts ∧
      u.reg (Addr.RX_FRAMES p k) = s.reg (Addr.RX_FRAMES p k) ∧ sameMemory s u := by
  have paged := paged_arrivingPages s p k L fr
  have keeps (v : Nat) := regsOnly_raise (arrivingPages s p k L fr).1 (Addr.HIGH_WATER L) v
  have stays := intakeFrame_new (fin := .partly) on sound fits idle
  rw [show storedOf fr .partly = fr from rfl, room, intakeEnd_partly fits, settleFrame, if_pos rfl] at stays
  rw [stays]
  generalize (State.fifo _ L).wordsHeld + _ = v
  refine ⟨?_, ?_, ?_, ?_⟩
  · obtain ⟨q, hq, same⟩ := arriving_mem s p k L fr
    rw [keeps v]
    exact ⟨q, hq, congrArg Pkt.id same, congrArg Pkt.bytes same, congrArg Pkt.at_ same⟩
  · rw [keeps v]
    exact congrArg Fifo.pkts (paged.fifo L)
  · rw [State.reg_raise_other (by simp only [Addr.RX_FRAMES, Addr.HIGH_WATER]; omega)]
    exact paged.reg _ (not_pauseReg_intake ⟨p, k, 0x100, hk, by simp only [Addr.RX_FRAMES]; omega, by decide⟩)
  · refine sameMemory_of_mem ?_
    rw [keeps v]
    exact paged.mem

/-- A good frame with its pages is committed. -/
theorem intakeFrame_good {fr : Bytes} (on : s.flag (Addr.FIFO_CTRL L) 0 = true) (sound : s.secError = false)
    (long : 64 ≤ fr.length) (fits : fr.length ≤ s.reg (Addr.MAX_FRAME p k)) (idle : s.arriving L = none) (_hp : p < 16) (hk : k < 8) (_hL : L < 64)
    (room : (arrivingPages s p k L (fr.take (fr.length - 4))).2 = none) :
    let u := intakeFrame p k L fr .good none s
    let body := fr.take (fr.length - 4)
    (∃ q ∈ u.ports.packets, q.id = s.ports.nextPkt ∧ q.bytes = body ∧ q.at_ = .intake) ∧
      (u.fifo L).pkts = (s.fifo L).pkts ++ [⟨1 + ceilDiv body.length 32, some s.ports.nextPkt, []⟩] ∧
      u.reg (Addr.RX_FRAMES p k) = (s.reg (Addr.RX_FRAMES p k) + 1) % 2 ^ 64 ∧
      u.reg (Addr.RX_BYTES p k) = (s.reg (Addr.RX_BYTES p k) + body.length) % 2 ^ 64 ∧ sameMemory s u := by
  have commits := intakeFrame_new (fin := .good) on sound fits idle
  rw [show storedOf fr .good = fr.take (fr.length - 4) from rfl, room, intakeEnd_good fits long, settleFrame, if_neg (by decide)] at commits
  rw [commits]
  dsimp only
  generalize fr.take (fr.length - 4) = body
  have paged := paged_arrivingPages s p k L body
  obtain ⟨q, hq, same⟩ := arriving_mem s p k L body
  generalize (arrivingPages s p k L body).1 = r at paged hq
  have frames := paged.reg (Addr.RX_FRAMES p k) (not_pauseReg_intake ⟨p, k, 0x100, hk, by simp only [Addr.RX_FRAMES]; omega, by decide⟩)
  have bytes := paged.reg (Addr.RX_BYTES p k) (not_pauseReg_intake ⟨p, k, 0x108, hk, by simp only [Addr.RX_BYTES]; omega, by decide⟩)
  unfold commitFrame
  have fifo (f : Pkt → Pkt) : ((((r.updPacket s.ports.nextPkt f).bump64 (Addr.RX_FRAMES p k)).bump64 (Addr.RX_BYTES p k) body.length).fifo L).pkts =
    (s.fifo L).pkts := congrArg Fifo.pkts (paged.fifo L)
  refine ⟨?_, ?_, ?_, ?_, ?_⟩
  · rw [(committed_commitPacket ..).only]
    refine ⟨{ q with at_ := .intake, since := r.now, commitZc := r.zc, group := p, sub := k }, ?_, congrArg Pkt.id same, congrArg Pkt.bytes same, rfl⟩
    exact List.mem_map.mpr ⟨q, hq, if_pos (congrArg Pkt.id same)⟩
  · rw [(committed_commitPacket ..).pkts, fifo]
  · rw [(committed_commitPacket ..).reg _ (by simp only [Addr.RX_FRAMES, Addr.COMMIT_COUNT]; omega)
      (by simp only [Addr.RX_FRAMES, Addr.HIGH_WATER]; omega),
      State.reg_bump64_other _ (by simp only [Addr.RX_FRAMES, Addr.RX_BYTES]; omega), State.reg_bump64, State.reg_updPacket, frames]
    rfl
  · rw [(committed_commitPacket ..).reg _ (by simp only [Addr.RX_BYTES, Addr.COMMIT_COUNT]; omega)
      (by simp only [Addr.RX_BYTES, Addr.HIGH_WATER]; omega),
      State.reg_bump64, State.reg_bump64_other _ (by simp only [Addr.RX_FRAMES, Addr.RX_BYTES]; omega), State.reg_updPacket, bytes]
    rfl
  · refine sameMemory_of_mem ?_
    rw [(committed_commitPacket ..).only]
    exact paged.mem

theorem IntakeEnd.counter_ne_rewindCount (e : IntakeEnd) (p k L : Nat) (hp : p < 16) (hk : k < 8) : Addr.REWIND_COUNT L ≠ e.counter p k := by
  cases e <;> simp only [IntakeEnd.counter, Addr.REWIND_COUNT, Addr.RX_OVERSIZE, Addr.RX_BUF_DROP, Addr.RX_FCS_ERR, Addr.RX_RUNT] <;> omega

/-- A frame whose FCS is bad is rewound. -/
theorem intakeFrame_badFcs {fr : Bytes} (on : s.flag (Addr.FIFO_CTRL L) 0 = true) (sound : s.secError = false)
    (fits : fr.length ≤ s.reg (Addr.MAX_FRAME p k)) (idle : s.arriving L = none) (hp : p < 16) (hk : k < 8) :
    let u := intakeFrame p k L fr .badFcs none s
    u.fifo L = s.fifo L ∧ u.reg (Addr.REWIND_COUNT L) = (s.reg (Addr.REWIND_COUNT L) + 1) % 2 ^ 32 ∧ sameMemory s u := by
  have rewinds := intakeFrame_new (fin := .badFcs) on sound fits idle
  have paged := paged_arrivingPages s p k L (storedOf fr .badFcs)
  obtain ⟨e, ends⟩ := intakeEnd_badFcs fits (arrivingPages s p k L (storedOf fr .badFcs)).2
  rw [ends, settleFrame] at rewinds
  rw [rewinds]
  generalize arrivingPages s p k L (storedOf fr .badFcs) = r at paged
  have freed := freed_freePacket s.ports.nextPkt r.1
  have keeps (full : Bool) (n : Nat) (v : State) := regsOnly_rewindPacket L full n v
  refine ⟨?_, ?_, ?_⟩
  · rw [keeps]
    exact (freed.fifo L).trans (paged.fifo L)
  · rw [reg_rewindPacket, State.reg_bump64_other _ (e.counter_ne_rewindCount p k L hp hk), freed.reg _ (not_pauseReg_rewindCount L)
      (by simp only [Addr.REWIND_COUNT, Addr.EPOCH_STATUS]; omega), paged.reg _ (not_pauseReg_rewindCount L)]
    rfl
  · refine sameMemory_of_mem ?_
    rw [keeps]
    exact freed.mem.trans paged.mem
end

/-- Settles O19: the parts of a frame by its pages and its end, and the pauses by what sends, takes and ends them. -/
theorem framesComeInAndPausesHold : Obligations.FramesComeInAndPausesHold := by
  unfold Obligations.FramesComeInAndPausesHold
  refine ⟨?_, ?_, ?_, ?_, ?_⟩
  · intro t L p k fr s place up frame on sound long fits hp hk hL idle
    have fits' : fr.length ≤ (advance t s).reg (Addr.MAX_FRAME p k) := by rwa [State.advance_reg]
    refine ⟨fun room => ⟨_, exec_frameReceive place up frame, ?_⟩, fun room => ⟨_, exec_frameReceive place up frame, ?_⟩,
      ⟨_, exec_frameReceive place up frame, ?_⟩⟩
    · exact intakeFrame_partly (s := advance t s) on sound fits' idle hp hk hL room
    · exact intakeFrame_good (s := advance t s) on sound long fits' idle hp hk hL room
    · exact intakeFrame_badFcs (s := advance t s) on sound fits' idle hp hk
  · intro t L prio p k s place up watched out count i due
    obtain ⟨u, runs, sent, rest⟩ := exec_pfcRefresh place up watched out count due
    refine ⟨u, runs, ?_, rest⟩
    rw [sent]
    refine congrArg _ (if_congr ?_ rfl rfl)
    simp [State.onWire, and_assoc]
  · intro t L p k i q s place up mode hi enabled
    refine ⟨_, (exec_pfcFrameReceive_up place up false _ _).trans (congrArg _ (receivePause_pfc hi _ _)), ?_⟩
    rw [getD_times hi]
    have on : ((advance t s).flowMode p k == 2 && bitAt ((advance t s).pfcEn p k) i) = true := by
      rw [Bool.and_eq_true]
      exact ⟨beq_iff_eq.mpr mode, enabled⟩
    exact pauseTaken hi on
  · intro t L p k q s place up mode
    exact ⟨_, (exec_pfcFrameReceive_up place up true _ _).trans (congrArg _ (receivePause_port _ _)),
      pauseTaken (by decide) (beq_iff_eq.mpr mode)⟩
  · intro t L prio s paused ended
    exact exec_pauseExpiry_ended paused ended
end Sys2Proof.Machine

/-!
PROOFS. Statements whose frames leave out a port that a member's records for the log may go by.
-/
namespace Sys2Proof.Machine

/-! A packet that finds its credits -/

/-- What a packet of this device's own that leaves by port `p` changes, no trace session being open: flits counted, and what left. -/
structure Departed (p flits : Nat) (s t : State) : Prop where
  only : t = { s with regs := t.regs, fabric := t.fabric, out := t.out }
  out : ∃ o : Output, t.out = s.out ++ [o] ∧ o.isReply = false
  flits : t.reg (Addr.FLITS_TX p) = (s.reg (Addr.FLITS_TX p) + flits) % 2 ^ 64

section
variable {s t : State} {p n : Nat}

theorem Departed.of_fabric {fabric : FabricState} (h : Departed p n { s with fabric } t) : Departed p n s t :=
  ⟨h.only, h.out, h.flits⟩

theorem recordSend_untraced (untraced : s.obs.trace = none) (p : Nat) (k : FabPkt) : recordSend p k s = s := by
  unfold recordSend State.samplesFabric
  simp [untraced]

theorem departed_transmit (untraced : s.obs.trace = none) {k : FabPkt} (own : k.from_ = none) (routed : FabPkt) :
    Departed p k.flits s (transmit p k routed s) := by
  have sends : transmit p k routed s =
      putOut p k routed { s with fabric.credit := tabSet 0 (creditKey p k.vc k.cls) (tabGet 0 (creditKey p k.vc k.cls) s.fabric.credit - k.flits) s.fabric.credit } := by
    rw [transmit, own]
  rw [sends, putOut, recordSend_untraced]
  · exact ⟨rfl, ⟨_, rfl, rfl⟩, State.reg_bump64 _ _ _⟩
  · exact untraced

/-- A packet whose port has credit for any packet, and nothing to replay, leaves by it. -/
theorem departed_routeFrom (untraced : s.obs.trace = none) {src : Nat} {k : FabPkt} (own : k.from_ = none)
    (hop : s.hop src k.dst none k.cls = .port p) (short : k.flits ≤ 4096)
    (credit : 4096 ≤ tabGet 0 (creditKey p k.vc (b2n (crossesDateline s.member p))) s.fabric.credit) (fresh : tabGet [] p s.fabric.unacked = []) :
    Departed p k.flits s (routeFrom src k s) := by
  have class_ : s.nextClass k p = b2n (crossesDateline s.member p) := by rw [State.nextClass, own]
  have room : s.replayRoom p k.flits = true := by rw [State.replayRoom, fresh]
  rw [routeFrom, own, hop]
  dsimp only
  rw [class_, if_pos ⟨short.trans credit, room⟩]
  exact departed_transmit (k :=
      ⟨k.vc, b2n (crossesDateline s.member p), k.dst, putBits k.hdr 6 3 (b2n (crossesDateline s.member p)), k.data, none, k.paid⟩)
    untraced rfl k

theorem departed_sendPacket {h : Header} {data : List W256} (untraced_ : untraced s) (hop : s.hop h.src h.dst none 0 = .port p)
    (short : data.length < 4096) (credit : 4096 ≤ tabGet 0 (creditKey p h.vc (b2n (crossesDateline s.member p))) s.fabric.credit)
    (fresh : tabGet [] p s.fabric.unacked = []) : Departed p (1 + data.length) s (sendPacket h data s) := by
  have departs : Departed p (1 + data.length) s (sendRaw h data s) :=
    (departed_routeFrom (s := (takeSeq h data.length s).2) (k := ⟨h.vc, 0, h.dst, (takeSeq h data.length s).1.word 0, data, none, false⟩)
      untraced_.1 rfl hop (show 1 + data.length ≤ 4096 by omega) credit fresh).of_fabric
  rw [sendPacket, noteSends_of_none (by rw [departs.only]; exact untraced_.2)]
  exact departs
end

/-! Decisions that a member logs -/

theorem keeps_sendPacket (h : Header) (data : List W256) (s : State) : Keeps s (sendPacket h data s) :=
  ((sent_sendRaw h data s).noted.trans (noted_noteSends _)).keeps

theorem keeps_sendCtrl (k : CtrlKind) (dst : Nat) (args : List Nat) (s : State) : Keeps s (sendCtrl k dst args s) :=
  Keeps.foldl (fun s _ => keeps_sendPacket _ _ s) _ s

theorem keeps_appendLog (kind : Nat) (body : List Nat) (s : State) : Keeps s (appendLog kind body s) := by
  unfold appendLog
  exact Keeps.trans (t := { s with group.pendingLog := s.group.pendingLog ++ [_] }) ⟨rfl, List.prefix_rfl⟩ (Keeps.foldl (fun s _ =>
      keeps_sendCtrl _ _ _ s) _ _)

theorem keeps_logDecision (kind : Nat) (body : List Nat) (s : State) : Keeps s (logDecision kind body s) := by
  unfold logDecision
  split
  · exact keeps_appendLog kind body s
  · split
    · exact keeps_sendCtrl _ _ _ s
    · exact .refl s

theorem keeps_cmdLandingClear (e : Env) (p : Bytes) (s : State) : Keeps s (cmdLandingClear e p s).2 := by
  unfold cmdLandingClear
  split
  · exact .refl s
  · split
    · exact .refl s
    · rename_i z _
      have cleared : Keeps s { s with copies.zones := s.copies.zones.filter (fun y => y.num != z.num) } := ⟨rfl, List.prefix_rfl⟩
      refine keeps_ite (.refl s) (keeps_ite (.refl s) ?_)
      dsimp only
      split
      · exact cleared.trans (keeps_logDecision _ _ _)
      · exact cleared

theorem keeps_cmdFreeze (e : Env) (p : Bytes) (s : State) : Keeps s (cmdFreeze e p s).2 := by
  unfold cmdFreeze
  have by_ : Keeps s { s with obs.freezeBy := (e.session, e.tag, e.tenant) } := ⟨rfl, List.prefix_rfl⟩
  refine keeps_ite (.refl s) (keeps_ite (.refl s) (keeps_ite (.refl s) (keeps_ite (.refl s) ?_)))
  dsimp only
  split
  · exact by_.trans (keeps_appendLog _ _ _)
  · exact by_.trans ⟨rfl, List.prefix_rfl⟩

/-! A follower of a number beyond the group -/

/-- `s` as the manager of a group whose order names a member 64, with credit for any packet by port 24. -/
def farFollower (s : State) : State :=
  attended { (strayed s).setFlag Addr.MANAGER 6 true with group.order := [64], group.live := [64], fabric.credit := [(creditKey 24 3 0, 4096)] }

/-- What the manager of such a group appends to its log leaves by port 24. -/
theorem departed_appendLog {s : State} (order : s.followersOf s.member = [64]) (untraced_ : untraced s) (named : (64 : Nat) ≠ allMembers)
    (hop : s.hop s.device (64 * s.groupNum + 64) none 0 = .port 24)
    (credit : 4096 ≤ tabGet 0 (creditKey 24 3 (b2n (crossesDateline s.member 24))) s.fabric.credit)
    (fresh : tabGet [] 24 s.fabric.unacked = []) (kind : Nat) (body : List Nat) :
    ∃ n ≤ 4096, 1 ≤ n ∧ Departed 24 n { s with group.pendingLog := s.group.pendingLog ++
      [⟨s.reg Addr.LOG_INDEX + s.group.pendingLog.length + 1, s.reg Addr.TERM, kind, body⟩] } (appendLog kind body s) := by
  rw [appendLog, order, List.foldl_cons, List.foldl_nil, sendCtrl, if_neg named, List.foldl_cons, List.foldl_nil]
  generalize short : (wordsOf (Config.ctrlData _ _)).take 4095 = data
  have length : data.length < 4096 := by rw [← short, List.length_take]; omega
  exact ⟨1 + data.length, by omega, by omega, departed_sendPacket untraced_ hop length credit fresh⟩

/-- A device whose records for the log leave by port 24 and whose only reply is still to come. -/
structure SendsFar (s : State) : Prop where
  order : s.followersOf s.member = [64]
  untraced : untraced s
  hop : s.hop s.device (64 * s.groupNum + 64) none 0 = .port 24
  credit : 4096 ≤ tabGet 0 (creditKey 24 3 (b2n (crossesDateline s.member 24))) s.fabric.credit
  fresh : tabGet [] 24 s.fabric.unacked = []
  quiet : onlyReplies ownSession s s = true
  unsent : s.reg (Addr.FLITS_TX 24) = 0

theorem departed_of_sendsFar {s : State} (far : SendsFar s) (kind : Nat) (body : List Nat) :
    onlyReplies ownSession s (appendLog kind body s) = true ∧ (appendLog kind body s).reg (Addr.FLITS_TX 24) ≠ 0 := by
  obtain ⟨n, most, least, departs⟩ := departed_appendLog far.order far.untraced (by decide) far.hop far.credit far.fresh kind body
  obtain ⟨o, out, silent⟩ := departs.out
  constructor
  · have quiet := far.quiet
    unfold onlyReplies at quiet ⊢
    rw [out, departs.only, List.countP_append, List.countP_singleton, silent]
    simpa [State.session] using quiet
  · have count : (appendLog kind body s).reg (Addr.FLITS_TX 24) = (0 + n) % 2 ^ 64 := far.unsent ▸ departs.flits
    rw [count]
    omega

/-- A command of the owner's session whose action appends to the log does not leave FLITS_TX of port 24. -/
theorem absurd_of_appends {i : Instr} {f : CmdFn} {op : Nat} {p : Bytes} {s b : State} {r : Reply} {P : State → Prop} {kind : Nat} {body : List Nat}
    (row : exec i s = .next (runCommand f op ownCmd p s)) (h : ready ownCmd ownSession s = true) (notZeroise : op ≠ 0x0A0A) (notClose : op ≠ 0x0004)
    (keeps : ∀ e p t, Keeps t (actionOf op e p t).2) (far : SendsFar b) (bridge : b.bridge = (begun ownCmd ownSession s).bridge)
    (appends : (f (envOf ownCmd ownSession) p (begun ownCmd ownSession s)).2 = appendLog kind body b)
    (completed : completes i op ownCmd ownSession s r P) (frame : ∀ t, P t → t.reg (Addr.FLITS_TX 24) = 0) : False := by
  obtain ⟨quiet, moves⟩ := departed_of_sendsFar far kind body
  obtain ⟨t, holds, same⟩ := unsaid_of_completes row h notZeroise notClose keeps (by rw [appends]; rwa [onlyReplies, ← bridge]) completed
  have kept : t.unsaid.regs = _ := congrArg State.regs same
  rw [appends] at kept
  exact moves ((State.reg_of_regs kept.symm _).trans (frame t holds))

/-! The refutations -/

theorem landingClear_appends {e : Env} {p : Bytes} {s : State} {z : Zone} (form : ¬ (p.length ≠ 4 ∨ !zerosAt p 1 3 ∨ 127 < byteAt p 0))
    (found : s.copies.zones.find? (fun z => z.num == byteAt p 0) = some z) (owner_ : e.owner = true) (clear : z.entries = [])
    (member : s.jobs.any (fun (j : Job) => j.tenant == z.tenant && j.id == z.job && !j.image.members.isEmpty) = true) (manager : s.isManager = true) :
    (cmdLandingClear e p s).2 = appendLog 4 [1, s.device, z.num] { s with copies.zones := s.copies.zones.filter (fun y => y.num != z.num) } := by
  have manages : State.isManager { s with copies.zones := s.copies.zones.filter (fun y => y.num != z.num) } = true := manager
  rw [cmdLandingClear, if_neg form, found]
  dsimp only
  rw [if_neg (by simp [owner_]), if_neg (by simp [clear])]
  dsimp only
  rw [if_pos member, logDecision, if_pos manages]

/-- The manager of such a group, with a landing zone of a job over several members. -/
def zoned : State := farFollower { running with jobs := [{ jobIn 0 with image := { (jobIn 0).image with members := [0] } }], copies.zones := [⟨0, 0, 1, 0, 1, 1, 0, []⟩] }

/-- That zone of it. -/
def theZone : Zone := ⟨0, 0, 1, 0, 1, 1, 0, []⟩

/-- The same device without the zone. -/
def unzoned : State := { begun ownCmd ownSession zoned with copies.zones := (begun ownCmd ownSession zoned).copies.zones.filter (fun y => y.num != theZone.num) }

theorem sendsFar_unzoned : SendsFar unzoned :=
  ⟨by decide +kernel, ⟨by decide +kernel, by decide +kernel⟩, by decide +kernel, by decide +kernel, by decide +kernel, by decide +kernel,
    by decide +kernel⟩

/-- Refutes O42: the record of a zone that is cleared goes to the manager's followers; a follower of a number above 63 is in another group, to
which packets may leave by port 24, which `sendRegs` leaves out. -/
theorem not_groupCommandsComplete : ¬ Obligations.GroupCommandsComplete := by
  unfold Obligations.GroupCommandsComplete
  intro h
  have ready_ : ready ownCmd ownSession zoned = true := by decide +kernel
  obtain ⟨_, _, _, _, _, _, clears, _⟩ := h ownCmd ownSession zoned (zeros 4) ready_
  have completed := clears theZone (by decide) (by decide) (by decide) (by decide +kernel) (.inr (by decide)) (by decide)
  have appends : (cmdLandingClear (envOf ownCmd ownSession) (zeros 4) (begun ownCmd ownSession zoned)).2 = appendLog 4 [1, _, 0] unzoned :=
    landingClear_appends (z := theZone) (by decide) (by decide +kernel) (by decide) rfl (by decide +kernel) (by decide +kernel)
  have off : untraced zoned := ⟨by decide +kernel, by decide +kernel⟩
  have unsent : (begun ownCmd ownSession zoned).reg (Addr.FLITS_TX 24) = 0 := by decide +kernel
  exact absurd_of_appends (op := 0x060C) rfl ready_ (by decide) (by decide) (show ∀ e p t, Keeps t
      (cmdLandingClear e p t).2 from keeps_cmdLandingClear)
    sendsFar_unzoned rfl appends completed fun t ⟨_, _, _, frame⟩ => (frame off (Addr.FLITS_TX 24) (by decide +kernel)).trans unsent

theorem freeze_appends {e : Env} {p : Bytes} {s : State} (owner_ : e.owner = true)
    (form : ¬ (p.length ≠ 12 ∨ 1 < byteAt p 8 ∨ !zerosAt p 9 3 ∨ be p 0 8 < s.zc + 8000))
    (free : ¬ (s.obs.freezeAt.isSome ∨ s.group.pendingLog.any (fun r => r.kind == 6))) (group : byteAt p 8 = 1) (manager : s.isManager = true) :
    (cmdFreeze e p s).2 = appendLog 6 [be p 0 8] { s with obs.freezeBy := (e.session, e.tag, e.tenant) } := by
  rw [cmdFreeze]
  dsimp only
  rw [if_neg (by simp [owner_]), if_neg form, if_neg free, if_neg (by simp [manager]), if_pos group]

/-- FREEZE of the whole group for a late beat. -/
def groupFreeze : Bytes := toBE 8 (2 ^ 63) ++ toBE 1 1 ++ zeros 3

/-- Such a manager to which a freeze was named. -/
def freezing : State := { begun ownCmd ownSession (farFollower running) with obs.freezeBy := (1, 0, owner) }

theorem sendsFar_freezing : SendsFar freezing :=
  ⟨by decide +kernel, ⟨by decide +kernel, by decide +kernel⟩, by decide +kernel, by decide +kernel, by decide +kernel, by decide +kernel,
    by decide +kernel⟩

/-- Refutes O51: the record of a freeze of the group goes to the manager's followers, as in O42. -/
theorem not_observationCommandsComplete : ¬ Obligations.ObservationCommandsComplete := by
  unfold Obligations.ObservationCommandsComplete
  intro h
  have ready_ : ready ownCmd ownSession (farFollower running) = true := by decide +kernel
  obtain ⟨freezes, _⟩ := h ownCmd ownSession (farFollower running) groupFreeze ready_
  have completed := freezes (by decide) (by decide +kernel) (by decide +kernel) (by decide +kernel) (by decide +kernel) (by decide +kernel)
    (by decide +kernel) (fun _ => by decide +kernel)
  have appends : (cmdFreeze (envOf ownCmd ownSession) groupFreeze (begun ownCmd ownSession (farFollower running))).2 = appendLog 6 [_] freezing :=
    freeze_appends (by decide) (by decide +kernel) (by decide +kernel) (by decide +kernel) (by decide +kernel)
  have off : untraced (begun ownCmd ownSession (farFollower running)) := ⟨by decide +kernel, by decide +kernel⟩
  have unsent : (begun ownCmd ownSession (farFollower running)).reg (Addr.FLITS_TX 24) = 0 := by decide +kernel
  exact absurd_of_appends (op := 0x0900) rfl ready_ (by decide) (by decide) (show ∀ e p t, Keeps t (cmdFreeze e p t).2 from keeps_cmdFreeze)
    sendsFar_freezing rfl appends completed
    fun t ⟨_, group⟩ => ((group (by decide +kernel)).2.2.1 off (Addr.FLITS_TX 24) (by decide +kernel)).trans unsent
end Sys2Proof.Machine

/-!
PROOFS. Resets, and the module's power stage and inputs (R471, R472, R490 to R497).
-/
namespace Sys2Proof.Machine

/-! What a reset leaves (R471 to R473) -/

section
variable {cause : Nat} {s : State}

/-- The device before the registers that outlive a reset are put back. -/
def State.blank (s : State) : State := { pending := s.pending, fresh := s.fresh, out := s.out, now := s.now, module := s.module }

/-- The registers that outlive a reset for a cause (R466). -/
def outliving (cause : Nat) : List Nat := if cause = 0 then keptRegs else keptRegs ++ [Addr.SEC_ERR_CAUSE]

theorem resetDevice_only (cause : Nat) (s : State) : resetDevice cause s = { s.blank with
    regs := (resetDevice cause s).regs, beat := (resetDevice cause s).beat } := by
  unfold resetDevice startBeat
  dsimp only
  rw [foldl_setReg_only]
  rfl

theorem reg_blank (s : State) (a : Nat) : s.blank.reg a = regReset a % 2 ^ 64 := rfl

theorem reg_restored (f : Nat → Nat) (a : Nat) : ∀ (l : List Nat) (x : State),
    (l.foldl (fun x a => x.setReg a (f a)) x).reg a = if a ∈ l then f a % 2 ^ 64 else x.reg a
  | [], _ => rfl
  | b :: l, x => by
    rw [List.foldl_cons, reg_restored f a l]
    by_cases later : a ∈ l
    · rw [if_pos later, if_pos (List.mem_cons_of_mem _ later)]
    · rw [if_neg later, State.reg_setReg]
      by_cases same : a = b
      · rw [if_pos same, if_pos (same ▸ List.mem_cons_self ..), same]
      · rw [if_neg same, if_neg (by simp [same, later])]

theorem reg_resetDevice {a : Nat} (last : a ≠ Addr.LAST_RESET) (sec : a ≠ Addr.SEC_STATUS) :
    (resetDevice cause s).reg a = if a ∈ outliving cause then s.reg a else regReset a % 2 ^ 64 := by
  have restored := reg_restored s.reg a (outliving cause) s.blank
  rw [Nat.mod_eq_of_lt (s.reg_lt a), reg_blank] at restored
  rw [← restored]
  exact (State.reg_setReg_other last _ _).trans (State.reg_setReg_other sec _ _)

theorem lastReset_resetDevice (fits : cause < 2 ^ 64) : (resetDevice cause s).reg Addr.LAST_RESET = cause :=
  (State.reg_setReg_same _ _ _).trans (Nat.mod_eq_of_lt fits)

theorem wiped_resetDevice (fits : cause < 2 ^ 64) (s : State) : wiped cause s (resetDevice cause s) := by
  refine ⟨sessions_resetDevice _ _, ?_, ?_, ?_, ?_, lastReset_resetDevice fits, fun a kept => ?_, ?_, fun a plain => ?_⟩
  iterate 3
    rw [resetDevice_only]
    rfl
  · rw [resetDevice_only]
    exact fun _ => rfl
  · have apart : a ≠ Addr.LAST_RESET ∧ a ≠ Addr.SEC_STATUS := by
      revert a
      decide
    have outlives : a ∈ outliving cause := by
      unfold outliving
      split
      · exact kept
      · exact List.mem_append_left _ kept
    rw [reg_resetDevice apart.1 apart.2, if_pos outlives]
  · rw [reg_resetDevice (by decide) (by decide)]
    by_cases power : cause = 0
    · rw [outliving, if_pos power, if_pos power, if_neg (by decide)]
      decide +kernel
    · rw [outliving, if_neg power, if_neg power, if_pos (by decide)]
  · simp only [List.mem_append, List.mem_cons, List.not_mem_nil, or_false, not_or] at plain
    obtain ⟨kept, err, sec, last⟩ := plain
    have gone : a ∉ outliving cause := by
      unfold outliving
      split
      · exact kept
      · simp [kept, err]
    rw [reg_resetDevice last sec, if_neg gone]

theorem stage_resetDevice (cause : Nat) (s : State) : (resetDevice cause s).stage = 0 := by
  have reset : (resetDevice cause s).reg Addr.FW_STATE = 0 := by
    have gone : Addr.FW_STATE ∉ outliving cause := by
      unfold outliving
      split
      · decide
      · decide
    rw [reg_resetDevice (by decide) (by decide), if_neg gone]
    decide +kernel
  rw [State.stage, State.field, reset]
  rfl

theorem module_resetDevice (cause : Nat) (s : State) : (resetDevice cause s).module = s.module := by
  rw [resetDevice_only]
  rfl

theorem wiped_powerDown (s : State) : wiped 0 s (powerDown s) := wiped_resetDevice (by decide) s

/-- The module is no part of what a reset wipes. -/
theorem wiped_module {u : State} (h : wiped cause s u) (m : ModuleState) : wiped cause s { u with module := m } := h

theorem State.off_of_rails {s : State} (off : s.module.rails = false) : s.on = false := by
  rw [State.on, off]
  rfl
end

/-! The power stage (R472, R492 to R495) -/

/-- The rails go, where they are up. -/
def cutPower (s : State) : State := if s.module.rails then powerDown s else s

theorem rails_cutPower (s : State) : (cutPower s).module.rails = false := by
  unfold cutPower
  split
  · rfl
  · rename_i off
    exact Bool.eq_false_iff.mpr off

theorem module_cutPower (s : State) : (cutPower s).module = { s.module with rails := false, flash := (cutPower s).module.flash } := by
  unfold cutPower
  split
  · rfl
  · rename_i off
    rw [Bool.not_eq_true] at off
    rw [← off]

theorem wiped_cutPower {s : State} (rails : s.module.rails = true) : wiped 0 s (cutPower s) := by
  rw [cutPower, if_pos rails]
  exact wiped_powerDown s

section
variable {t : Nat} {s : State}

theorem wiped_startPower {cause : Nat} (fits : cause < 2 ^ 64) (mv : Nat) (s : State) : wiped cause s (startPower cause mv s) := by
  have wipes := wiped_resetDevice fits { s with module := { s.module with
    rails := true, present := true, aux := true, vin := mv, reverse := false, persists := s.module.persists &&& 16
    mbFault := s.module.mbFault ||| b2n s.module.reverse } }
  exact wipes

theorem module_startPower (cause mv : Nat) (s : State) : (startPower cause mv s).module = { s.module with
    rails := true, present := true, aux := true, vin := mv, reverse := false, persists := s.module.persists &&& 16
    mbFault := s.module.mbFault ||| b2n s.module.reverse } := by
  rw [startPower, module_resetDevice]

theorem bitAt_eq_testBit (v i : Nat) : bitAt v i = v.testBit i := by
  rw [Nat.testBit_eq_decide_div_mod_eq, bitAt]
  exact Bool.beq_eq_decide_eq _ _

theorem bitAt_set (v i : Nat) : bitAt (v ||| 2 ^ i) i = true := by
  simp [bitAt_eq_testBit]

theorem bitAt_clear {i : Nat} (hi : i < 16) (fault mask persists : Nat) :
    bitAt ((fault &&& (65535 - mask % 65536)) ||| persists) i = ((bitAt fault i && !(bitAt mask i)) || bitAt persists i) := by
  have cleared : (65535 - mask % 65536).testBit i = !mask.testBit i := by
    have bits := Nat.testBit_two_pow_sub_succ (x := mask % 65536) (n := 16) (Nat.mod_lt _ (by decide)) i
    rw [show 2 ^ 16 - (mask % 65536 + 1) = 65535 - mask % 65536 by omega] at bits
    rw [bits, show (65536 : Nat) = 2 ^ 16 from rfl, Nat.testBit_mod_two_pow]
    simp [hi]
  simp only [bitAt_eq_testBit, Nat.testBit_or, Nat.testBit_and, cleared]

/-- What `setAux` leaves of the device: all but the module. -/
theorem setAux_only (on : Bool) (s : State) : setAux on s = { s with module := (setAux on s).module } := rfl

theorem exec_powerOn {mv : Nat} (rails : s.module.rails = false) (trip : s.module.tripped = false) (low : 40000 ≤ mv) (high : mv ≤ 64000) :
    ∃ u, exec (.powerOn t mv) s = .next u ∧ wiped 0 s u ∧ u.pwrGood = true ∧ u.stage = 0 ∧ u.module.vin = mv ∧ u.module.aux = true := by
  have row : exec (.powerOn t mv) s = execPowerOn t mv s := rfl
  refine ⟨startPower 0 mv (advance t s), ?_, wiped_startPower (by decide) mv (advance t s), ?_, stage_resetDevice _ _, ?_, ?_⟩
  · rw [row, execPowerOn]
    exact congrArg _ (if_neg (by simp [rails, trip]; omega))
  all_goals simp only [State.pwrGood, module_startPower]

theorem exec_pinReset {lowNs : Nat} (long : 1000 ≤ lowNs) (present : s.module.present = true) (rails : s.module.rails = true) :
    ∃ u, exec (.pinReset t lowNs) s = .next u ∧ wiped 1 s u ∧ u.module = s.module ∧ u.stage = 0 := by
  have row : exec (.pinReset t lowNs) s = execPinReset t lowNs s := rfl
  refine ⟨resetDevice 1 (advance t s), ?_, wiped_resetDevice (by decide) (advance t s), module_resetDevice _ _, stage_resetDevice _ _⟩
  rw [row, execPinReset, if_neg (by simp [present]; omega), if_pos rails]

theorem exec_powerRemove (mv : Nat) : ∃ u, exec (.powerRemove t mv) s = .next u ∧ u.on = false ∧ u.pwrGood = false ∧
    u.module.aux = (decide (40000 ≤ mv) && s.module.present) ∧ (s.module.rails = true → wiped 0 s u) := by
  have off := rails_cutPower (advance t s)
  have row : exec (.powerRemove t mv) s = .next (setAux (decide (40000 ≤ mv) && (advance t s).module.present) { cutPower (advance t s) with
    module := { (cutPower (advance t s)).module with
      vin := mv, reverse := (cutPower (advance t s)).module.reverse && !(decide (40000 ≤ mv) && (advance t s).module.present)
      mbFault := (cutPower (advance t s)).module.mbFault |||
        b2n ((cutPower (advance t s)).module.reverse && (decide (40000 ≤ mv) && (advance t s).module.present)) } }) := rfl
  exact ⟨_, row, State.off_of_rails off, off, rfl, fun rails => wiped_cutPower (s := advance t s) rails⟩

theorem exec_presentNOpen : ∃ u, exec (.presentNOpen t) s = .next u ∧ u.on = false ∧ u.module.present = false ∧ u.module.aux = false ∧
    (s.module.rails = true → wiped 0 s u) := by
  have row : exec (.presentNOpen t) s = .next (setAux false { cutPower (advance t s) with
    module := { (cutPower (advance t s)).module with present := false } }) := rfl
  exact ⟨_, row, State.off_of_rails (rails_cutPower (advance t s)), rfl, rfl, fun rails => wiped_cutPower (s := advance t s) rails⟩

theorem exec_overvoltage {mv : Nat} (above : 66000 < mv) (most : mv ≤ 80000) : ∃ u, exec (.overvoltage t mv) s = .next u ∧ u.on = false ∧
    bitAt u.module.mbFault 1 = true ∧ u.module.aux = (s.module.aux && decide (mv ≤ 72000)) ∧ (s.module.rails = true → wiped 0 s u) := by
  have row : exec (.overvoltage t mv) s = execOvervoltage t mv s := rfl
  have module := module_cutPower (mbSet 1 true (advance t s))
  refine ⟨setAux ((cutPower (mbSet 1 true (advance t s))).module.aux && decide (mv ≤ 72000)) { cutPower (mbSet 1 true (advance t s)) with
    module := { (cutPower (mbSet 1 true (advance t s))).module with vin := mv } }, ?_, State.off_of_rails (rails_cutPower _), ?_, ?_,
    fun rails => wiped_cutPower (s := mbSet 1 true (advance t s)) rails⟩
  · rw [row, execOvervoltage, if_neg (by omega)]
    exact congrArg _ (if_neg (by omega))
  · have fault : (cutPower (mbSet 1 true (advance t s))).module.mbFault = s.module.mbFault ||| 2 ^ 1 := by rw [module]; rfl
    exact (congrArg (bitAt · 1) fault).trans (bitAt_set _ _)
  · have aux : (cutPower (mbSet 1 true (advance t s))).module.aux = s.module.aux := by rw [module]; rfl
    exact congrArg (· && decide (mv ≤ 72000)) aux

theorem exec_reversePolarity {mv : Int} (least : -64000 ≤ mv) (reverse : mv < -1000) : ∃ u, exec (.reversePolarity t mv) s = .next u ∧ u.on = false ∧
    u.module.reverse = true ∧ u.module.aux = false ∧ (s.module.rails = true → wiped 0 s u) := by
  have row : exec (.reversePolarity t mv) s = execReversePolarity t mv s := rfl
  refine ⟨setAux false { cutPower (advance t s) with module := { (cutPower (advance t s)).module with reverse := true, vin := 0 } }, ?_,
    State.off_of_rails (rails_cutPower (advance t s)), rfl, rfl, fun rails => wiped_cutPower (s := advance t s) rails⟩
  rw [row, execReversePolarity, if_neg (by omega)]
  exact congrArg _ (if_neg (by omega))

theorem exec_refclkSysLoss_good : ∃ u, exec (.refclkSysLoss t true) s = .next u ∧ u.module.hold = 0 ∧ u.on = s.module.rails ∧ u.regs = s.regs ∧
    u.mem = s.mem := by
  have row : exec (.refclkSysLoss t true) s =
      .next (if (advance t s).module.hold = 0 then advance t s else startBeat { advance t s with module.hold := 0 }) := rfl
  by_cases held : (advance t s).module.hold = 0
  · rw [if_pos held] at row
    refine ⟨_, row, held, ?_, rfl, rfl⟩
    rw [State.on, held]
    exact Bool.and_true _
  · rw [if_neg held] at row
    exact ⟨_, row, rfl, Bool.and_true _, rfl, rfl⟩

theorem exec_refclkSysLoss_lost (held : s.module.hold = 0) : ∃ u, exec (.refclkSysLoss t false) s = .next u ∧ u.on = false ∧ u.pwrGood = s.pwrGood ∧
    u.sessions = [] ∧ u.jobs = [] ∧ u.reg Addr.LAST_RESET = s.reg Addr.LAST_RESET := by
  have row : exec (.refclkSysLoss t false) s = execRefclkSysLoss t false s := rfl
  have module := module_resetDevice 2 { advance t s with module.hold := 2 }
  refine ⟨(resetDevice 2 { advance t s with module.hold := 2 }).setReg Addr.LAST_RESET ((advance t s).reg Addr.LAST_RESET), ?_, ?_, ?_, ?_, ?_, ?_⟩
  · rw [row, execRefclkSysLoss]
    have holds : (advance t s).module.hold = 0 := held
    simp only [Bool.false_eq_true, ↓reduceIte, holds, ne_eq, not_true_eq_false]
  · rw [State.on, State.setReg_module, module]
    exact Bool.and_false _
  · rw [State.pwrGood, State.setReg_module, module]
    rfl
  · rw [State.setReg_sessions, sessions_resetDevice]
  · rw [State.setReg_jobs, resetDevice_only]
    rfl
  · rw [State.reg_setReg_same, State.advance_reg, Nat.mod_eq_of_lt (s.reg_lt _)]

/-- The module with its input measured without the sense line. -/
def senseless (t : Nat) (crossed : Bool) (mv : Nat) (s : State) : State := { mbSet (if crossed then 3 else 2) true (advance t s) with
  module := { (mbSet (if crossed then 3 else 2) true (advance t s)).module with vin := mv - 300 } }

theorem exec_senseFault {crossed : Bool} {mv : Nat} (aux : s.module.aux = true) (seen : crossed = true ∨ 40000 ≤ mv) :
    ∃ u, exec (.senseFault t crossed mv) s = .next u ∧ bitAt u.module.mbFault (if crossed then 3 else 2) = true ∧ u.module.vin = mv - 300 ∧
      u.on = s.on ∧ (s.module.rails = true → u.reg Addr.VIN = min 131071 (mv - 300)) ∧ sameRegsBut [Addr.VIN] s u ∧ u.mem = s.mem := by
  have row : exec (.senseFault t crossed mv) s = execSenseFault t crossed mv s := rfl
  have stays : ¬ (!s.module.aux ∨ (!crossed ∧ mv < 40000)) := by
    simp only [aux, Bool.not_true, Bool.false_eq_true, false_or, not_and]
    intro plain
    rcases seen with seen | seen
    · simp [seen] at plain
    · omega
  have acts : exec (.senseFault t crossed mv) s =
      .next (if (senseless t crossed mv s).module.rails then (senseless t crossed mv s).setReg Addr.VIN (min 131071
          (mv - 300)) else senseless t crossed mv s) := by
    rw [row, execSenseFault]
    exact congrArg _ (if_neg stays)
  have fault : bitAt (senseless t crossed mv s).module.mbFault (if crossed then 3 else 2) = true := bitAt_set _ _
  have same (a : Nat) : (senseless t crossed mv s).reg a = s.reg a := s.advance_reg t a
  by_cases rails : s.module.rails = true
  · rw [if_pos (show (senseless t crossed mv s).module.rails = true from rails)] at acts
    refine ⟨_, acts, fault, rfl, rfl, fun _ => ?_, fun a other => ?_, rfl⟩
    · rw [State.reg_setReg_same, Nat.mod_eq_of_lt (by omega)]
    · rw [State.reg_setReg_other (by simpa using other), same]
  · rw [if_neg (show ¬ (senseless t crossed mv s).module.rails = true from rails)] at acts
    exact ⟨_, acts, fault, rfl, rfl, fun up => absurd up rails, fun a _ => same a, rfl⟩

theorem exec_auxOverload (aux : s.module.aux = true) :
    (∃ u, exec (.auxOverload t true) s = .next u ∧ bitAt u.module.mbFault 4 = true ∧ u.on = s.on ∧ u.regs = s.regs ∧ u.mem = s.mem) ∧
    ∃ u, exec (.auxOverload t false) s = .next u ∧ bitAt u.module.persists 4 = false ∧ u.on = s.on ∧ u.regs = s.regs ∧ u.mem = s.mem := by
  have row (present : Bool) : exec (.auxOverload t present) s = execAuxOverload t present s := rfl
  constructor
  · refine ⟨mbSet 4 true (advance t s), ?_, bitAt_set _ _, rfl, rfl, rfl⟩
    rw [row, execAuxOverload, if_neg (by simp [aux]), if_pos rfl]
  · refine ⟨{ advance t s with module.persists := (advance t s).module.persists &&& (0xFFFF - 16) }, ?_, ?_, rfl, rfl, rfl⟩
    · rw [row, execAuxOverload, if_neg (by simp [aux])]
      exact congrArg _ (if_neg Bool.false_ne_true)
    · have clear : (0xFFFF - 16 : Nat).testBit 4 = false := by decide
      rw [bitAt_eq_testBit, Nat.testBit_and, clear, Bool.and_false]

/-! Trips (R495) -/

/-- Power that restarts after a trip resets the device where the input is in range, and leaves it as it is otherwise. -/
theorem restart_tripless {cause : Nat} (fits : cause < 2 ^ 64) (s : State) :
    (restart cause s).module.tripped = s.module.tripped ∧
    (40000 ≤ s.module.vin → s.module.vin ≤ 66000 → wiped cause s (restart cause s) ∧ (restart cause s).pwrGood = true) ∧
    (s.module.vin < 40000 ∨ 66000 < s.module.vin → (restart cause s).pwrGood = s.pwrGood ∧ (restart cause s).regs = s.regs) := by
  unfold restart
  split
  · rename_i out
    exact ⟨rfl, fun low high => by omega, fun _ => ⟨rfl, rfl⟩⟩
  · refine ⟨by rw [module_startPower], fun _ _ => ⟨wiped_startPower fits _ s, ?_⟩, fun out => by omega⟩
    rw [State.pwrGood, module_startPower]

/-- The module with its trip cleared. -/
def untripped (t : Nat) (s : State) : State := { advance t s with module.tripped := false }

theorem exec_tripClear (tripped : s.module.tripped = true) (cooled : s.cooled = true) (present : s.module.present = true)
    (aux : s.module.aux = true) :
    exec (.tripClear t .pwrEn) s = .next (restart 0 (untripped t s)) ∧ exec (.tripClear t .rstN) s = .next (restart 1 (untripped t s)) ∧
    exec (.tripClear t .input) s = .next (setAux false { untripped t s with module := { (untripped t s).module with vin := 0 } }) := by
  have row (how : ClearKind) : exec (.tripClear t how) s = execTripClear t how s := rfl
  have clear (how : ClearKind) : clearTrip how (advance t s) = _ :=
    if_neg (show ¬ (!s.module.tripped ∨ !s.cooled) by simp [tripped, cooled])
  have acts (how : ClearKind) : exec (.tripClear t how) s = .next (clearTrip how (advance t s)) := by
    rw [row, execTripClear]
    exact congrArg _ (if_pos ⟨tripped, .inr ⟨present, aux⟩⟩)
  exact ⟨(acts _).trans (congrArg _ (clear _)), (acts _).trans (congrArg _ (clear _)), (acts _).trans (congrArg _ (clear _))⟩
end

/-- Settles O57: the module's inputs by whether they cut the rails, reset the device, or set bits of the module's own registers. -/
theorem moduleFollowsItsInputs : Obligations.ModuleFollowsItsInputs := by
  unfold Obligations.ModuleFollowsItsInputs
  intro t s
  refine ⟨fun mv => exec_powerOn, fun _ => exec_pinReset, exec_powerRemove, exec_presentNOpen, fun mv => ⟨fun most => ?_, exec_overvoltage⟩,
    fun mv => ⟨fun least => ?_, exec_reversePolarity⟩, exec_refclkSysLoss_good, exec_refclkSysLoss_lost, fun crossed mv => exec_senseFault,
    exec_auxOverload, fun tripped cooled present aux => ?_, fun mask aux => ?_, fun entdaa addr aux small free => ?_⟩
  · have row : exec (.overvoltage t mv) s = execOvervoltage t mv s := rfl
    rw [row, execOvervoltage, if_pos most]
  · have row : exec (.reversePolarity t mv) s = execReversePolarity t mv s := rfl
    rw [row, execReversePolarity, if_pos least]
  · obtain ⟨pwrEn, rstN, input⟩ := exec_tripClear (t := t) tripped cooled present aux
    exact ⟨⟨_, pwrEn, restart_tripless (by decide) _⟩, ⟨_, rstN, restart_tripless (by decide) _⟩, ⟨_, input, rfl, rfl, rfl⟩⟩
  · have row : exec (.mbFaultClear t mask) s = execMbFaultClear t mask s := rfl
    refine ⟨{ advance t s with module := { (advance t s).module with
      mbFault := ((advance t s).module.mbFault &&& (65535 - mask % 65536)) ||| (advance t s).module.persists } }, ?_, rfl, rfl,
      fun i hi => bitAt_clear hi _ _ _⟩
    rw [row, execMbFaultClear]
    exact congrArg _ (if_neg (by simp [aux]))
  · have row : exec (.i3cAddressAssign t entdaa addr) s = execI3cAddressAssign t entdaa addr s := rfl
    refine ⟨{ advance t s with module.i3c := some addr }, ?_, rfl, rfl, rfl⟩
    have takes : ¬ (!s.module.aux ∨ 128 ≤ addr ∨ (entdaa ∧ s.module.i3c.isSome)) := by
      cases entdaa with
      | true => simp [aux, free rfl]; omega
      | false => simp [aux]; omega
    rw [row, execI3cAddressAssign]
    exact congrArg _ (if_neg takes)
end Sys2Proof.Machine

/-!
PROOFS. A statement about boot whose frame leaves out a port that events may go by.
-/
namespace Sys2Proof.Machine

/-- A device whose firmware runs and whose stacks are still to be trained. -/
def booted : State := strayed running

/-- Refutes O56: the events of the boot test let the events of a session of the fabric leave by port 24, which `eventRegs` leaves out. -/
theorem not_firmwareStages : ¬ Obligations.FirmwareStages := by
  unfold Obligations.FirmwareStages
  intro h
  obtain ⟨_, trains, _⟩ := h 0 booted (by decide +kernel)
  obtain ⟨u, step, _, passed, _⟩ := trains 0 [] (by decide +kernel) (by decide +kernel) (by decide +kernel)
  obtain ⟨_, _, _, _, _, frame, _⟩ := passed rfl
  exact absurd_of_movesFlits24 (by decide +kernel) step (frame _ (by decide +kernel))
end Sys2Proof.Machine

/-!
PROOFS. The firmware commands (R475, R478 to R480, R483).
-/
namespace Sys2Proof.Machine

/-! What the firmware commands share -/

section
variable {s : State}

theorem regsOnly_countHbm (write : Bool) (a n : Nat) (s : State) : RegsOnly s (countHbm write a n s) := by
  unfold countHbm
  generalize chunksOf a n = l
  induction l generalizing s with
  | nil => exact .refl s
  | cons x l ih => exact (regsOnly_setReg s _ _).trans (ih _)

theorem chunksOf_lt {a n : Nat} {x : Nat × Nat} (hx : x ∈ chunksOf a n) : x.1 < 16 := by
  unfold chunksOf at hx
  split at hx
  · exact absurd hx List.not_mem_nil
  · obtain ⟨c, _, rfl⟩ := List.mem_map.mp hx
    exact Nat.mod_lt _ (by decide)

/-- Bytes read are counted at the controllers of HBM alone. -/
theorem reg_countHbm_read {a : Nat} (other : ∀ m < 16, a ≠ Addr.RD_BYTES m) (b n : Nat) (s : State) : (countHbm false b n s).reg a = s.reg a := by
  have small : ∀ x ∈ chunksOf b n, x.1 < 16 := fun x => chunksOf_lt
  unfold countHbm
  revert small
  generalize chunksOf b n = l
  intro small
  induction l generalizing s with
  | nil => rfl
  | cons x l ih =>
    refine (ih _ (fun y hy => small y (List.mem_cons_of_mem _ hy))).trans ?_
    exact State.reg_bump64_other s (other _ (small x (List.mem_cons_self ..))) _

/-- A register outside the fabric's counters and the counters of events. -/
theorem untoldReg_of {a : Nat} (flits : a % 0x10000 ≠ 0x30) (route : a ≠ Addr.NO_ROUTE 0)
    (events : a ≠ Addr.EVENTS_SENT ∧ a ≠ Addr.EVENTS_LOST ∧ a ≠ Addr.EVQ_LOST) : UntoldReg a :=
  ⟨⟨route, fun p => by simp only [Addr.FLITS_TX]; omega⟩, events⟩

end

/-! FW_STAGE (R478) -/

section
variable {e : Env} {p : Bytes} {s : State} {f : FwImage}

/-- The image that FW_STAGE names. -/
def stagedBytes (p : Bytes) (s : State) : Bytes := s.readBytes owner (be p 0 8) (be p 8 4)

theorem cmdFwStage_eq (owner_ : e.owner = true) (len : p.length = 12) (inside : s.inWindows owner (be p 0 8) (be p 8 4) false = true) :
    cmdFwStage e p s = match readFwImage (stagedBytes p s) (be p 8 4) with
      | none => refuse St.BAD_PARAM s
      | some f =>
        if !s.fwAllowed f then refuse St.BAD_PARAM s
        else if !fwSigned (stagedBytes p s) then refuse St.SIG_FAIL s
        else if s.fw.handover.isSome ∨ s.fw.writing.isSome then refuse St.BUSY s
        else (st St.ACCEPTED, (countHbm false (be p 0 8) (be p 8 4) { s with fw.staged := some f }).setFlag Addr.FW_STATE 4 false) := by
  rw [cmdFwStage]
  dsimp only
  rw [if_neg (by simp [owner_]), if_neg (by simp [len]), if_neg (by simp [inside])]
  rfl

/-- `s` with an image being staged. -/
def staging (f : FwImage) (p : Bytes) (s : State) : State :=
  (countHbm false (be p 0 8) (be p 8 4) { s with fw.staged := some f }).setFlag Addr.FW_STATE 4 false

theorem staging_only (f : FwImage) (p : Bytes) (s : State) : staging f p s = { s with regs := (staging f p s).regs, fw.staged := some f } := by
  have counted := regsOnly_countHbm false (be p 0 8) (be p 8 4) { s with fw.staged := some f }
  unfold staging
  rw [counted]
  rfl

theorem reg_staging {a : Nat} (state : a ≠ Addr.FW_STATE) (read : ∀ m < 16, a ≠ Addr.RD_BYTES m) : (staging f p s).reg a = s.reg a :=
  (State.reg_setFlag_other _ state _ _).trans (reg_countHbm_read read _ _ _)

end

/-! FW_ACTIVATE (R479, R480) -/

section
variable {e : Env} {p : Bytes} {s : State} {f : FwImage}

theorem cmdFwActivate_eq (owner_ : e.owner = true) (len : p.length = 4) (code : byteAt p 0 ≤ 3) (zero : zerosAt p 1 3 = true)
    (staged : s.fw.staged = some f) (ready_ : s.flag Addr.FW_STATE 4 = true) (idle : s.acceptedWork = false)
    (fits : ¬ ((!bitAt (byteAt p 0) 0 ∧ s.field Addr.FW_VERSION 16 8 < f.minMajor) ∨ (bitAt (byteAt p 0) 1 ∧ f.svn ≤ s.reg Addr.FUSE_SVN))) :
    cmdFwActivate e p s = (st St.ACCEPTED, if bitAt (byteAt p 0) 0 then resetDevice 2 (writeFlash f (bitAt (byteAt p 0) 1) s)
      else
        let s1 := stepDown (s.raiseEvent evFwHandoverStart owner [s.reg Addr.FW_VERSION, f.version])
        setStage 2 { s1 with fw.handover := some (s1.now, bitAt (byteAt p 0) 1) }) := by
  rw [cmdFwActivate]
  dsimp only
  rw [if_neg (by simp [owner_]), if_neg (by simp [len, zero]; omega), staged]
  dsimp only
  rw [if_neg (by simp [ready_, idle]), if_neg fits]
  split
  · rfl
  · rfl

theorem reg_writeFlash (f : FwImage) (commit : Bool) (small : f.svn < 2 ^ 32) (s : State) :
    (writeFlash f commit s).reg Addr.FUSE_SVN = if commit then f.svn else s.reg Addr.FUSE_SVN := by
  cases commit with
  | true => exact (State.reg_setReg_same _ _ _).trans (Nat.mod_eq_of_lt (by omega))
  | false => rfl

theorem module_writeFlash (f : FwImage) (commit : Bool) (s : State) : (writeFlash f commit s).module = { s.module with flash := f } := by
  unfold writeFlash
  split
  · rfl
  · rfl

/-- What stepping down leaves: all that events leave, and that the device manages nothing. -/
structure SteppedDown (s t : State) : Prop where
  now : t.now = s.now
  mem : t.mem = s.mem
  jobs : t.jobs = s.jobs
  fw : t.fw = s.fw
  manager : t.isManager = false

theorem steppedDown_stepDown (s : State) : SteppedDown s (stepDown s) := by
  unfold stepDown
  split
  · have told := told_raiseEvent ({ s with group.leaseHeld := false, group.pendingLog := [] }.setFlag Addr.MANAGER 6 false) evManagerStepdown owner
      [s.member, s.reg Addr.TERM] 0
    refine ⟨told.now, told.mem, told.jobs, told.fw, ?_⟩
    have untold : UntoldReg Addr.MANAGER := untoldReg_of (by decide) (by decide) (by decide)
    rw [State.isManager, State.flag_congr (told.reg _ untold)]
    exact State.flag_setFlag _ (by decide) _
  · rename_i manages
    exact ⟨rfl, rfl, rfl, rfl, Bool.eq_false_iff.mpr manages⟩

end

theorem cmdFwStatus_eq {e : Env} {p : Bytes} {s : State} (owner_ : e.owner = true) (empty : p = []) :
    ∃ r, cmdFwStatus e p s = (r, s) ∧ r.status = St.OK ∧ r.params.length = 28 ∧ r.params.take 4 = toBE 4 (s.reg Addr.FW_VERSION) := by
  rw [cmdFwStatus, if_neg (by simp [owner_]), if_neg (by simp [empty])]
  refine ⟨_, rfl, rfl, ?_, ?_⟩
  · simp [zeros, length_toBE]
  · simp only [List.append_assoc]
    exact List.take_left' (length_toBE _ _)

/-- A command's beginning touches nothing that outlives a reset. -/
theorem wiped_begun {cause : Nat} {c : Cmd} {x : Session} {s u : State} (reset : cause ≠ 0) (h : wiped cause (begun c x s) u) : wiped cause s u := by
  obtain ⟨sessions, jobs, keys, creds, mem, last, kept, err, plain⟩ := h
  refine ⟨sessions, jobs, keys, creds, mem, last, fun a ha => ?_, ?_, plain⟩
  · have apart : a ≠ Addr.CMD_EXECUTED := by
      revert a
      decide
    rw [kept a ha, begun_reg c x s apart]
  · rw [err, if_neg reset, if_neg reset, begun_reg c x s (by decide)]

/-- Settles O55: the firmware commands by the checks that they meet in turn. -/
theorem firmwareCommandsComplete : Obligations.FirmwareCommandsComplete := by
  unfold Obligations.FirmwareCommandsComplete
  intro c x s p h isOwner
  have owner_ := envOf_owner isOwner c
  dsimp only
  refine ⟨fun trained len inside => ?_, fun f len code zero staged ready_ idle newer small => ?_, fun empty => ?_, fun empty => ?_⟩
  · have acts {r : Reply} {t : State} (does : cmdFwStage (envOf c x) p (begun c x s) = (r, t)) :
        needsHbm cmdFwStage (envOf c x) p (begun c x s) = (r, t) := (needsHbm_eq (by simpa using trained) _ _ _).trans does
    have stage := cmdFwStage_eq owner_ len inside
    refine ⟨fun malformed => ?_, fun f formed => ⟨fun refused => ?_, fun allowed unsigned => ?_, fun allowed signed free unwritten => ?_⟩⟩
    · refine completes_acts (f := needsHbm cmdFwStage) rfl h (by decide) (by decide) (acts ?_) rfl
      rw [stage, stagedBytes, malformed]
      rfl
    · refine completes_acts (f := needsHbm cmdFwStage) rfl h (by decide) (by decide) (acts ?_) rfl
      rw [stage, stagedBytes, formed]
      exact if_pos (by simp [refused])
    · refine completes_acts (f := needsHbm cmdFwStage) rfl h (by decide) (by decide) (acts ?_) rfl
      rw [stage, stagedBytes, formed]
      dsimp only
      rw [if_neg (by simp [allowed]), if_pos (by simp [unsigned])]
      rfl
    · refine completes_acts (f := needsHbm cmdFwStage) (t := staging f p (begun c x s)) rfl h (by decide) (by decide) (acts ?_) ⟨?_, ?_, ?_, ?_⟩
      · rw [stage, stagedBytes, formed]
        dsimp only
        rw [if_neg (by simp [allowed]), if_neg (by simp [signed]), if_neg (by rw [free, unwritten]; simp)]
        rfl
      · exact congrArg (fun t => t.fw.staged) (staging_only f p _)
      · exact State.flag_setFlag _ (by decide) _
      · exact fun a state read => reg_staging state read
      · refine sameMemory_of_mem ?_
        rw [staging_only]
        exact begun_mem c x s
  · refine ⟨fun off => ?_, fun on_ major => ?_⟩
    · refine completes_acts (f := cmdFwActivate) rfl h (by decide) (by decide) ((cmdFwActivate_eq owner_ len code zero staged ready_ idle ?_).trans
        (congrArg _ (if_pos off))) ⟨?_, stage_resetDevice _ _, lastReset_resetDevice (by decide), ?_, sessions_resetDevice _ _, ?_⟩
      · rintro (⟨stays, _⟩ | ⟨commits, old⟩)
        · simp [off] at stays
        · exact absurd (newer commits) (Nat.not_lt.mpr old)
      · rw [module_resetDevice, module_writeFlash]
      · rw [reg_resetDevice (by decide) (by decide), if_pos (by decide)]
        exact reg_writeFlash f _ small _
      · rw [resetDevice_only]
        rfl
    · have told := told_raiseEvent (begun c x s) evFwHandoverStart owner [(begun c x s).reg Addr.FW_VERSION, f.version] 0
      have down := steppedDown_stepDown ((begun c x s).raiseEvent evFwHandoverStart owner [(begun c x s).reg Addr.FW_VERSION, f.version])
      refine completes_acts (f := cmdFwActivate) rfl h (by decide) (by decide) ((cmdFwActivate_eq owner_ len code zero staged ready_ idle ?_).trans
        (congrArg _ (if_neg (by simp [on_])))) ⟨?_, ?_, ?_, ?_, ?_, ?_⟩
      · rintro (⟨_, old⟩ | ⟨commits, old⟩)
        · exact absurd major (Nat.not_le.mpr old)
        · exact absurd (newer commits) (Nat.not_lt.mpr old)
      · exact State.field_setField _ (by decide) _
      · exact congrArg some (Prod.ext (down.now.trans told.now) rfl)
      · exact (State.flag_congr (State.reg_setField_other _ (by decide) _ _ _) _).trans down.manager
      · exact (congrArg FwState.staged (down.fw.trans told.fw)).trans staged
      · exact down.jobs.trans told.jobs
      · exact sameMemory_of_mem ((down.mem.trans told.mem).trans (begun_mem c x s))
  · obtain ⟨r, acts, good, len, version⟩ := cmdFwStatus_eq (s := begun c x s) owner_ empty
    exact ⟨r, good, len, version, completes_acts (f := cmdFwStatus) rfl h (by decide) (by decide) acts rfl⟩
  · refine completes_acts (f := cmdDeviceReset) (t := resetDevice 2 (begun c x s)) rfl h (by decide) (by decide) ?_ ⟨?_, module_resetDevice _ _⟩
    · rw [cmdDeviceReset, if_neg (by simp [owner_]), if_neg (by simp [empty])]
    · exact wiped_begun (by decide) (wiped_resetDevice (by decide) _)
end Sys2Proof.Machine

/-!
PROOFS. The power commands (R405 to R407, R417, R418).
-/
namespace Sys2Proof.Machine

section
variable {e : Env} {p : Bytes} {s : State}

theorem ownerOnly_eq (owner_ : e.owner = true) (f : CmdFn) (p : Bytes) (s : State) : ownerOnly f e p s = f e p s := if_pos owner_

/-! The caps (R406, R407) -/

theorem cmdCapSet_eq (owner_ : e.owner = true) (len : p.length = 4) (zero : byteAt p 3 = 0) (low : 1100 ≤ be p 0 2) (high : be p 0 2 ≤ 3000)
    (some_ : 1 ≤ byteAt p 2) (most : byteAt p 2 ≤ 30) :
    cmdCapSet e p s = (st (if be p 0 2 < s.reg Addr.FLOOR_EST then St.CAP_UNREACHABLE else St.OK),
      (s.setReg Addr.CAP (be p 0 2)).setReg Addr.CAP_WINDOW (byteAt p 2)) :=
  (ownerOnly_eq owner_ _ p s).trans (if_neg (by omega))

/-- Three different classes, as CAP_PRIORITY keeps them. -/
def priorityWord (a b c : Nat) : Nat := a + 4 * b + 16 * c

theorem distinct_classes : ∀ a < 3, ∀ b < 3, ∀ c < 3, [a, b, c].Nodup → [a, b, c].eraseDups.length = 3 := by decide

theorem bits_priorityWord : ∀ a < 3, ∀ b < 3, ∀ c < 3,
    [bits (priorityWord a b c) 0 2, bits (priorityWord a b c) 2 2, bits (priorityWord a b c) 4 2] = [a, b, c] ∧
        priorityWord a b c < 2 ^ 64 := by decide

theorem cmdCapPrioritySet_eq (owner_ : e.owner = true) (len : p.length = 4) (zero : byteAt p 3 = 0)
    (distinct : [byteAt p 0, byteAt p 1, byteAt p 2].Nodup) (small : ∀ i < 3, byteAt p i ≤ 2) :
    cmdCapPrioritySet e p s = (ok, s.setReg Addr.CAP_PRIORITY (priorityWord (byteAt p 0) (byteAt p 1) (byteAt p 2))) := by
  have s0 := small 0 (by decide)
  have s1 := small 1 (by decide)
  have s2 := small 2 (by decide)
  have three := distinct_classes _ (by omega) _ (by omega) _ (by omega) distinct
  refine (ownerOnly_eq owner_ _ p s).trans (if_neg ?_)
  rintro (bad | bad | bad | bad)
  · exact bad len
  · exact bad zero
  · simp at bad
    omega
  · exact bad three

theorem priority_setPriority (small : ∀ i < 3, byteAt p i ≤ 2) :
    (s.setReg Addr.CAP_PRIORITY (priorityWord (byteAt p 0) (byteAt p 1) (byteAt p 2))).priority = [byteAt p 0, byteAt p 1, byteAt p 2] := by
  have s0 := small 0 (by decide)
  have s1 := small 1 (by decide)
  have s2 := small 2 (by decide)
  obtain ⟨fields, fits⟩ := bits_priorityWord _ (by omega : byteAt p 0 < 3) _ (by omega : byteAt p 1 < 3) _ (by omega : byteAt p 2 < 3)
  rw [State.priority, State.field, State.field, State.field, State.reg_setReg_same, Nat.mod_eq_of_lt fits]
  exact fields

/-! POWER_STATUS (R418) -/

theorem length_flatMap_toBE {α : Type} (n : Nat) (f : α → Nat) (l : List α) : (l.flatMap (fun x => toBE n (f x))).length = n * l.length := by
  induction l with
  | nil => rfl
  | cons x l ih => rw [List.flatMap_cons, List.length_append, length_toBE, ih, List.length_cons, Nat.mul_succ, Nat.add_comm]

theorem cmdPowerStatus_eq (owner_ : e.owner = true) (empty : p = []) :
    ∃ r, cmdPowerStatus e p s = (r, s) ∧ r.status = St.OK ∧ r.params.length = 192 ∧ r.params.take 4 = toBE 4 (s.wordAt 0x20000) := by
  refine ⟨_, (ownerOnly_eq owner_ _ p s).trans (if_neg (by simp [empty])), rfl, ?_, ?_⟩
  · simp only [List.length_append, length_flatMap_toBE, List.length_range]
  · rw [List.range_succ_eq_map, List.flatMap_cons, List.append_assoc]
    exact List.take_left' (length_toBE _ _)

/-! PRIMER_RUN (R405) -/

/-- `s` with primer passes queued on clusters. -/
def queuePrimers (ks : List Nat) (s : State) : State :=
  { s with power.primers := sortBy (fun a b => decide (a ≤ b)) (s.power.primers ++ ks.filter (fun k => !s.power.primers.contains k)) }

theorem cmdPrimerRun_eq (owner_ : e.owner = true) (len : p.length = 2)
    (free : ∀ k ∈ setBits (be p 0 2) 16, s.detached k = false ∧ ∀ i ∈ clusterCells k, s.jobOfCell i = none) :
    cmdPrimerRun e p s = (st St.ACCEPTED, queuePrimers (setBits (be p 0 2) 16) s) := by
  refine (ownerOnly_eq owner_ _ p s).trans ((if_neg (fun bad => bad len)).trans (if_neg ?_))
  rw [List.any_eq_true]
  rintro ⟨k, hk, bad⟩
  obtain ⟨attached, idle⟩ := free k hk
  rw [attached, Bool.false_or, List.any_eq_true] at bad
  obtain ⟨i, hi, held⟩ := bad
  rw [idle i hi] at held
  contradiction

theorem mem_queuePrimers (ks : List Nat) (k : Nat) : k ∈ (queuePrimers ks s).power.primers ↔ k ∈ s.power.primers ∨ k ∈ ks := by
  by_cases queued : k ∈ s.power.primers
  · simp [queuePrimers, mem_sortBy, queued]
  · simp [queuePrimers, mem_sortBy, queued]

/-! ENERGY_READ (R417) -/

theorem cmdEnergyRead_device (len : p.length = 8) (device : be p 0 8 = 0) :
    cmdEnergyRead e p s = (⟨St.OK, toBE 8 (if e.owner then s.reg Addr.ENERGY else 0) ++ toBE 1 (if e.owner then 0 else 4) ++ zeros 7⟩, s) := by
  rw [cmdEnergyRead]
  dsimp only
  rw [if_neg (by simp [len]), if_pos device]
  split
  · rfl
  · rfl

theorem cmdEnergyRead_job {j : Job} (len : p.length = 8) (named : be p 0 8 ≠ 0)
    (found : (s.jobs.filter (fun j => j.tenant == e.tenant && j.id == be p 0 8)).getLast? = some j) (live : j.live = true)
    (own : j.foreign = false) (grown : j.energy0 ≤ s.reg Addr.ENERGY) :
    cmdEnergyRead e p s = (⟨St.OK, toBE 8 (s.reg Addr.ENERGY - j.energy0) ++ toBE 1 (b2n j.shared + 2 * b2n j.inl + 8) ++ zeros 7⟩, s) := by
  have used : (s.reg Addr.ENERGY + 2 ^ 64 - j.energy0) % 2 ^ 64 = s.reg Addr.ENERGY - j.energy0 := by
    have := s.reg_lt Addr.ENERGY
    omega
  rw [cmdEnergyRead]
  dsimp only
  rw [if_neg (by simp [len]), if_neg named, found]
  dsimp only
  rw [if_pos (by simp [own]), if_pos live, used, live]
  rfl
end

/-- Settles O49: each power command by the one thing it stores or reads. -/
theorem powerCommandsComplete : Obligations.PowerCommandsComplete := by
  unfold Obligations.PowerCommandsComplete
  intro c x s p h
  refine ⟨fun isOwner len zero low high some_ most => ?_, fun isOwner len zero distinct small => ?_, fun isOwner empty =>
      ?_, fun isOwner len free => ?_,
    fun len device => ?_, fun j len named found live own grown => ?_⟩
  · refine completes_acts (f := cmdCapSet) rfl h (by decide) (by decide) (cmdCapSet_eq (envOf_owner isOwner c) len zero low high some_ most)
      ⟨?_, ?_, fun a other => ?_, sameMemory_of_mem (begun_mem c x s)⟩
    · rw [State.reg_setReg_other (by decide), State.reg_setReg_same, Nat.mod_eq_of_lt (by omega)]
    · rw [State.reg_setReg_same, Nat.mod_eq_of_lt (by omega)]
    · simp only [List.mem_cons, List.not_mem_nil, or_false, not_or] at other
      rw [State.reg_setReg_other other.2, State.reg_setReg_other other.1]
  · exact completes_acts (f := cmdCapPrioritySet) rfl h (by decide) (by decide) (cmdCapPrioritySet_eq (envOf_owner isOwner c) len zero distinct small)
      ⟨priority_setPriority small, fun a other => State.reg_setReg_other (by simpa using other) _ _, sameMemory_of_mem (begun_mem c x s)⟩
  · obtain ⟨r, acts, good, length, first⟩ := cmdPowerStatus_eq (s := begun c x s) (envOf_owner isOwner c) empty
    exact ⟨r, good, length, first, completes_acts (f := cmdPowerStatus) rfl h (by decide) (by decide) acts rfl⟩
  · exact completes_acts (f := cmdPrimerRun) rfl h (by decide) (by decide) (cmdPrimerRun_eq (envOf_owner isOwner c) len free)
      ⟨mem_queuePrimers _, rfl, sameMemory_of_mem (begun_mem c x s)⟩
  · refine completes_acts (f := cmdEnergyRead) rfl h (by decide) (by decide) ((cmdEnergyRead_device len device).trans ?_) rfl
    simp [Env.owner, envOf]
  · exact completes_acts (f := cmdEnergyRead) rfl h (by decide) (by decide) (cmdEnergyRead_job len named found live own grown) rfl
end Sys2Proof.Machine

/-!
PROOFS. The flow commands (R141, R150, R161).
-/
namespace Sys2Proof.Machine

/-! Bytes and numbers -/

theorem natLE_toLE : ∀ n v, natLE (toLE n v) = v % 256 ^ n
  | 0, v => by rw [pow_zero, Nat.mod_one]; rfl
  | n + 1, v => by
    have tail := natLE_toLE n (v / 256)
    rw [natLE] at tail ⊢
    rw [toLE, List.foldr_cons, tail, BitVec.toNat_ofNat, show 2 ^ 8 = 256 from rfl, pow_succ, Nat.mul_comm (256 ^ n) 256, Nat.mod_mul]

theorem hotRange : 256 ^ 128 = 2 ^ 1024 := by
  rw [show 256 = 2 ^ 8 from rfl, ← pow_mul]

theorem length_toLE : ∀ n v, (toLE n v).length = n
  | 0, _ => rfl
  | n + 1, v => by rw [toLE, List.length_cons, length_toLE n]

theorem natLE_lt : ∀ p : Bytes, natLE p < 256 ^ p.length
  | [] => Nat.one_pos
  | b :: p => by
    have tail := natLE_lt p
    rw [natLE] at tail ⊢
    rw [List.foldr_cons, List.length_cons, pow_succ]
    have := b.isLt
    omega

/-! What a write of bytes leaves to be read (R449) -/

section
variable {s : State} {t a : Nat} {bs : Bytes}

/-- A word within the bytes marked is marked, and any other keeps its mark. -/
theorem keyOf_memMark (m : MemState) (a n key w : Nat) : tabGet 0 w (memMark m a n key).keyOf =
    if a / 32 ≤ w ∧ w < a / 32 + ceilDiv (a % 32 + n) 32 then key + 1 else tabGet 0 w m.keyOf := by
  rw [memMark]
  dsimp only
  generalize ceilDiv (a % 32 + n) 32 = k
  induction k with
  | zero => rw [List.range_zero, List.foldl_nil, if_neg (by omega)]
  | succ k ih =>
    rw [List.range_succ, List.foldl_append, List.foldl_cons, List.foldl_nil]
    by_cases last : w = a / 32 + k
    · rw [last, tabGet_tabSet_same, if_pos (by omega)]
    · rw [tabGet_tabSet_other last, ih]
      exact if_congr (by omega) rfl rfl

theorem readByte_writeBytes {i : Nat} (hi : i < bs.length) : (s.writeBytes t a bs).readByte t (a + i) = bs.getD i 0#8 := by
  have mark : tabGet 0 ((a + i) / 32) (s.writeBytes t a bs).mem.keyOf = s.keyOfTenant t + 1 := by
    rw [State.writeBytes, keyOf_memMark, if_pos]
    unfold ceilDiv
    omega
  have key : (s.writeBytes t a bs).keyOfTenant t = s.keyOfTenant t := rfl
  rw [State.readByte]
  rw [mark, key, if_pos (.inr rfl)]
  exact memByte_memWrite_inside s.mem a bs i hi

/-- What a tenant has written it reads. -/
theorem readBytes_writeBytes (s : State) (t a : Nat) (bs : Bytes) : (s.writeBytes t a bs).readBytes t a bs.length = bs := by
  refine List.ext_getElem (by simp [State.readBytes]) fun i h h' => ?_
  simp only [State.readBytes, List.getElem_map, List.getElem_range]
  rw [readByte_writeBytes h', List.getD_eq_getElem?_getD, List.getElem?_eq_getElem h', Option.getD_some]

theorem readBytes_of {u v : State} (mem : u.mem = v.mem) (keys : u.dataKey = v.dataKey) (t a n : Nat) : u.readBytes t a n = v.readBytes t a n := by
  unfold State.readBytes State.readByte State.keyOfTenant
  rw [mem, keys]

theorem storeBytes_only (s : State) (t a : Nat) (bs : Bytes) :
    s.storeBytes t a bs = { s with regs := (s.storeBytes t a bs).regs, mem := (s.writeBytes t a bs).mem } := by
  rw [State.storeBytes, regsOnly_countHbm]
  rfl

theorem readBytes_storeBytes (s : State) (t a : Nat) (bs : Bytes) : (s.storeBytes t a bs).readBytes t a bs.length = bs := by
  refine (readBytes_of ?_ ?_ t a _).trans (readBytes_writeBytes s t a bs)
  · rw [storeBytes_only]
  · rw [storeBytes_only]
    rfl

/-- A register that counts no bytes of HBM. -/
def UncountedReg (a : Nat) : Prop := ∀ m < 16, a ≠ Addr.RD_BYTES m ∧ a ≠ Addr.WR_BYTES m

theorem reg_countHbm_other {a : Nat}
    {write : Bool} (other : ∀ m < 16, a ≠ if write then Addr.WR_BYTES m else Addr.RD_BYTES m) (b n : Nat) (s : State) :
    (countHbm write b n s).reg a = s.reg a := by
  have small : ∀ x ∈ chunksOf b n, x.1 < 16 := fun x => chunksOf_lt
  unfold countHbm
  revert small
  generalize chunksOf b n = l
  intro small
  induction l generalizing s with
  | nil => rfl
  | cons x l ih =>
    refine (ih _ fun y hy => small y (List.mem_cons_of_mem _ hy)).trans ?_
    exact State.reg_bump64_other s (other _ (small x (List.mem_cons_self ..))) _

theorem reg_storeBytes_other {b : Nat}
    (other : ∀ m < 16, b ≠ Addr.WR_BYTES m) (s : State) (t a : Nat) (bs : Bytes) : (s.storeBytes t a bs).reg b = s.reg b :=
  reg_countHbm_other (write := true) other a bs.length (s.writeBytes t a bs)
end

/-! Records of flows (R143, R149) -/

section
variable {s : State} {t r : Nat}

/-- The parts of a state that say what a record holds. -/
theorem hotOf_congr {u v : State} (lines : u.flow.lines = v.flow.lines) (mem : u.mem = v.mem) (keys : u.dataKey = v.dataKey)
    (base : u.reg (Addr.FLOW_BASE t) = v.reg (Addr.FLOW_BASE t)) (r : Nat) : u.hotOf t r = v.hotOf t r := by
  unfold State.hotOf State.lineOf State.recordAddr
  rw [lines, base, readBytes_of mem keys]

theorem hotOf_setReg_other {a : Nat} (other : a ≠ Addr.FLOW_BASE t) (s : State) (r v : Nat) : (s.setReg a v).hotOf t r = s.hotOf t r := by
  refine hotOf_congr (u := s.setReg a v) (v := s) ?_ ?_ ?_ ?_ r
  · rw [State.setReg_flow]
  · rw [State.setReg_mem]
  · rw [State.setReg_dataKey]
  · exact State.reg_setReg_other (Ne.symm other) s v

/-- The hot half of a record has 1,024 bits. -/
theorem hotOf_lt (s : State) (t r : Nat) : s.hotOf t r < 2 ^ 1024 := by
  unfold State.hotOf
  split
  · exact BitVec.isLt _
  · refine (natLE_lt _).trans_le (Nat.le_of_eq ?_)
    rw [State.readBytes, List.length_map, List.length_range, hotRange]

theorem lineOf_updLine {f : FlowLine → FlowLine} (named : ∀ x, (f x).tenant = x.tenant ∧ (f x).slot = x.slot) {l : Nat × FlowLine}
    (found : s.lineOf t r = some l) : (s.updLine l.1 f).lineOf t r = some (l.1, f l.2) := by
  have pred : ((fun (x : Nat × FlowLine) => x.2.tenant == t && x.2.slot == r) ∘ fun x => if x.1 = l.1 then (x.1, f x.2) else x) =
      fun x => x.2.tenant == t && x.2.slot == r := by
    funext x
    dsimp only [Function.comp]
    split
    · rw [(named x.2).1, (named x.2).2]
    · rfl
  unfold State.lineOf at found ⊢
  rw [State.updLine, List.find?_map, pred, found]
  exact congrArg some (if_pos rfl)

theorem hotOf_of_line {l : Nat × FlowLine} (line : s.lineOf t r = some l) : s.hotOf t r = l.2.hot.toNat := by
  rw [State.hotOf, line]

theorem hotOf_of_none (line : s.lineOf t r = none) : s.hotOf t r = natLE (s.readBytes t (s.recordAddr t r) 128) := by
  rw [State.hotOf, line]

theorem recordAddr_storeBytes (s : State) (t r t' a : Nat) (bs : Bytes) : (s.storeBytes t' a bs).recordAddr t r = s.recordAddr t r := by
  rw [State.recordAddr, reg_storeBytes_other, State.recordAddr]
  intro m _
  simp only [Addr.FLOW_BASE, Addr.WR_BYTES]
  omega

theorem natLE_toLE_of_lt {n v : Nat} (small : v < 256 ^ n) : natLE (toLE n v) = v :=
  (natLE_toLE n v).trans (Nat.mod_eq_of_lt small)

theorem toNat_ofNat_of_lt {n v : Nat} (small : v < 2 ^ n) : (BitVec.ofNat n v).toNat = v := by
  rw [BitVec.toNat_ofNat, Nat.mod_eq_of_lt small]

theorem hotOf_updLine {f : FlowLine → FlowLine} (named : ∀ x, (f x).tenant = x.tenant ∧ (f x).slot = x.slot) {l : Nat × FlowLine}
    (found : s.lineOf t r = some l) : (s.updLine l.1 f).hotOf t r = (f l.2).hot.toNat :=
  hotOf_of_line (lineOf_updLine named found)

/-- A line with `h` written into its hot half. -/
def withHot (h : Nat) (x : FlowLine) : FlowLine := { x with hot := BitVec.ofNat 1024 h, dirty := true }

theorem hot_withHot {h : Nat} (small : h < 2 ^ 1024) (x : FlowLine) : (withHot h x).hot.toNat = h := toNat_ofNat_of_lt small

theorem putHot_of_line {l : Nat × FlowLine} (found : s.lineOf t r = some l) (h : Nat) : s.putHot t r h = s.updLine l.1 (withHot h) := by
  rw [State.putHot, found]
  rfl

theorem putHot_of_none (found : s.lineOf t r = none) (h : Nat) : s.putHot t r h = s.storeBytes t (s.recordAddr t r) (toLE 128 h) := by
  rw [State.putHot, found]

theorem lineOf_storeBytes (s : State) (t r t' a : Nat) (bs : Bytes) : (s.storeBytes t' a bs).lineOf t r = s.lineOf t r := by
  rw [storeBytes_only]
  rfl

theorem hotOf_storeBytes (out : s.lineOf t r = none) {h : Nat} (small : h < 256 ^ 128) :
    (s.storeBytes t (s.recordAddr t r) (toLE 128 h)).hotOf t r = h := by
  have read := readBytes_storeBytes s t (s.recordAddr t r) (toLE 128 h)
  rw [length_toLE] at read
  rw [hotOf_of_none ((lineOf_storeBytes ..).trans out), recordAddr_storeBytes, read, natLE_toLE_of_lt small]

/-- What was put into the hot half of a record is what it holds. -/
theorem hotOf_putHot {h : Nat} (small : h < 2 ^ 1024) (s : State) (t r : Nat) : (s.putHot t r h).hotOf t r = h := by
  cases found : s.lineOf t r with
  | none =>
    rw [putHot_of_none found]
    exact hotOf_storeBytes found (small.trans_eq hotRange.symm)
  | some l =>
    rw [putHot_of_line found, hotOf_updLine (f := withHot h) (fun _ => ⟨rfl, rfl⟩) found]
    exact hot_withHot small l.2

theorem hotValid_cleared (h : Nat) : hotValid (putBits h 48 1 0) = false := bitAt_putBits_same h 48 false

theorem reg_putHot_other {a : Nat} (other : ∀ m < 16, a ≠ Addr.WR_BYTES m) (s : State) (t r h : Nat) : (s.putHot t r h).reg a = s.reg a := by
  unfold State.putHot
  split
  · rfl
  · exact reg_storeBytes_other other _ _ _ _
end

/-! The end of a flow (R150, R151) -/

section
variable {t r : Nat}

/-- A register that no digest counts in. -/
structure UndigestedReg (t a : Nat) : Prop where
  uncounted : UncountedReg a
  lost : a ≠ Addr.DIGEST_LOST t

theorem reg_writeDigest {a : Nat} (other : UndigestedReg t a) (r reason : Nat) (bad : Bool) (s : State) :
    (writeDigest t r reason bad s).reg a = s.reg a := by
  have read : (countHbm false (s.reg (Addr.DIGEST_BASE t)) 8 s).reg a = s.reg a :=
    reg_countHbm_other (write := false) (fun m h => (other.uncounted m h).1) _ _ s
  have store (s : State) (b : Nat) (bs : Bytes) : (s.storeBytes t b bs).reg a = s.reg a :=
    reg_storeBytes_other (fun m h => (other.uncounted m h).2) s t b bs
  unfold writeDigest
  dsimp only
  split
  · exact State.reg_bump32_other s other.lost 1
  · split
    · exact (State.reg_bump32_other _ other.lost 1).trans read
    · rw [store, store, read]

theorem coalesced_noteCold (bad : Bool) (t : Nat) (s : State) : Coalesced s (noteCold bad t s) := by
  unfold noteCold
  split
  · exact coalesced_noteUncorr s 3 t
  · exact (Told.refl s).coalesced

/-- A live record that ends is valid no more and counts in FLOWS_ENDED. -/
theorem endFlow_ended {s : State} (live : hotValid (s.hotOf t r) = true) (reason : Nat) (bad : Bool) :
    hotValid ((endFlow t r reason bad s).hotOf t r) = false ∧
      (endFlow t r reason bad s).reg (Addr.FLOWS_ENDED t) = (s.reg (Addr.FLOWS_ENDED t) + 1) % 2 ^ 32 := by
  have digest : (noteCold bad t (writeDigest t r reason bad s)).reg (Addr.FLOWS_ENDED t) = s.reg (Addr.FLOWS_ENDED t) := by
    refine ((coalesced_noteCold ..).reg (untoldReg_of ?_ ?_ ?_)).trans (reg_writeDigest ⟨fun m _ => ?_, ?_⟩ r reason bad s)
    all_goals
      simp only [Addr.FLOWS_ENDED, Addr.NO_ROUTE, Addr.EVENTS_SENT, Addr.EVENTS_LOST, Addr.EVQ_LOST, Addr.RD_BYTES, Addr.WR_BYTES, Addr.DIGEST_LOST]
      omega
  have unended := hotOf_putHot (putBits_lt (hotOf_lt s t r) (by decide : 48 + 1 ≤ 1024) 0) (noteCold bad t (writeDigest t r reason bad s)) t r
  unfold endFlow
  rw [if_neg (by rw [live]; decide)]
  dsimp only
  generalize noteCold bad t (writeDigest t r reason bad s) = u at digest unended ⊢
  constructor
  · rw [hotOf_setReg_other, State.bump32, hotOf_setReg_other, unended, hotValid_cleared]
    all_goals
      simp only [Addr.FLOW_BASE, Addr.FLOWS_ENDED, Addr.FLOWS_LIVE]
      omega
  · rw [State.reg_setReg_other, State.bump32, State.reg_setReg_same, reg_putHot_other, digest, Nat.mod_eq_of_lt]
    · omega
    all_goals
      simp only [Addr.FLOWS_ENDED, Addr.FLOWS_LIVE, Addr.WR_BYTES]
      omega
end

/-! FLOW_REGION_SET (R141) -/

section
variable {t a : Nat}

/-- Only registers and memory changed. -/
def StoredOnly (s u : State) : Prop := u = { s with regs := u.regs, mem := u.mem }

theorem StoredOnly.trans {s u v : State} (h : StoredOnly s u) (h' : StoredOnly u v) : StoredOnly s v := by
  unfold StoredOnly at *
  rw [h', h]

theorem storedOnly_storeBytes (s : State) (t a : Nat) (bs : Bytes) : StoredOnly s (s.storeBytes t a bs) := by
  unfold StoredOnly
  rw [storeBytes_only]

theorem StoredOnly.flow {s u : State} (h : StoredOnly s u) : u.flow = s.flow := by
  rw [h]

theorem storedOnly_writeBack (l : FlowLine) (s : State) : StoredOnly s (writeBack l s) := by
  unfold writeBack
  dsimp only
  split
  · split
    · exact (storedOnly_storeBytes ..).trans (storedOnly_storeBytes ..)
    · exact storedOnly_storeBytes ..
  · split
    · exact storedOnly_storeBytes ..
    · rfl

theorem reg_writeBack (other : ∀ m < 16, a ≠ Addr.WR_BYTES m) (l : FlowLine) (s : State) : (writeBack l s).reg a = s.reg a := by
  unfold writeBack
  dsimp only
  split
  · split
    · rw [reg_storeBytes_other other, reg_storeBytes_other other]
    · rw [reg_storeBytes_other other]
  · split
    · rw [reg_storeBytes_other other]
    · rfl

/-- The lines of a tenant, written back. -/
def writeBackAll (t : Nat) (s : State) (u : State) : State :=
  ((s.flow.lines.map Prod.snd).filter (fun l => l.tenant == t)).foldl (fun s l => writeBack l s) u

theorem reg_writeBackAll (other : ∀ m < 16, a ≠ Addr.WR_BYTES m) (t : Nat) (s u : State) : (writeBackAll t s u).reg a = u.reg a :=
  foldl_keeps (fun u => u.reg a) (fun u l => reg_writeBack other l u) _ u

theorem flow_writeBackAll (t : Nat) (s u : State) : (writeBackAll t s u).flow = u.flow :=
  foldl_keeps (fun u => u.flow) (fun u l => (storedOnly_writeBack l u).flow) _ u

theorem writeBackAll_of_none {s u : State} (none_ : ∀ l ∈ s.flow.lines, l.2.tenant ≠ t) : writeBackAll t s u = u := by
  have empty : (s.flow.lines.map Prod.snd).filter (fun l => l.tenant == t) = [] := by
    simpa [List.filter_eq_nil_iff] using fun b a h => none_ (a, b) h
  rw [writeBackAll, empty, List.foldl_nil]

theorem reg_moveRegion (other : ∀ m < 16, a ≠ Addr.WR_BYTES m) (live : a ≠ Addr.FLOWS_LIVE t) (base : Nat) (s : State) :
    (moveRegion t base s).reg a = s.reg a := by
  refine (State.reg_setReg_other live _ _).trans ?_
  by_cases moved : a = Addr.FLOW_BASE t
  · rw [moved, State.reg_setReg_same, Nat.mod_eq_of_lt (s.reg_lt _)]
  · refine (State.reg_setReg_other moved _ _).trans ?_
    exact (reg_writeBackAll other t s _).trans (State.reg_setReg_other moved _ _)

theorem lines_moveRegion {base : Nat} {s : State} {l : Nat × FlowLine} (h : l ∈ (moveRegion t base s).flow.lines) : l ∈ s.flow.lines := by
  have := List.mem_of_mem_filter (p := fun l : Nat × FlowLine => l.2.tenant != t) h
  exact (congrArg FlowState.lines (flow_writeBackAll t s (s.setReg (Addr.FLOW_BASE t) base))) ▸ this

theorem mem_moveRegion {s : State} (none_ : ∀ l ∈ s.flow.lines, l.2.tenant ≠ t) (base : Nat) : (moveRegion t base s).mem = s.mem :=
  show (writeBackAll t s (s.setReg (Addr.FLOW_BASE t) base)).mem = s.mem from by
    rw [writeBackAll_of_none none_]
    rfl

/-- A change of flow registers that nothing refuses, whose region may move. -/
theorem flowChange_allowed {s u : State} (exists_ : s.tenantExists t = true) (ways : u.reg (Addr.WAY_MASK t) ≠ 0)
    (timeout : u.reg (Addr.IDLE_TIMEOUT t) + u.reg Addr.SCAN_PERIOD ≤ 4200) (records : u.reg (Addr.FLOW_RECORDS t) ≤ 524288)
    (region : u.flag (Addr.FLOW_TCTRL t) 0 = true → u.flowRecords t ≠ 0) (off : s.flag (Addr.FLOW_TCTRL t) 0 = false)
    (placed : placementRefused u t = none) :
    flowChange t s u = (St.OK, u) ∨ flowChange t s u = (St.OK, moveRegion t (s.reg (Addr.FLOW_BASE t)) u) := by
  unfold flowChange
  dsimp only
  rw [if_neg (by simp [exists_]), if_neg (by omega), if_neg (by rintro (many | ⟨on, no⟩); exacts [by omega, region on no]),
    if_neg (by simp [off])]
  cases s.regionOf t != u.regionOf t
  · split
    · rw [placed]
      exact .inl rfl
    · exact .inl rfl
  · rw [if_pos (.inl rfl), placed]
    exact .inr rfl
end

section
variable {e : Env} {p : Bytes} {s : State} {g : Nat}

/-- The registers of tenant `u` as FLOW_REGION_SET names them (R141). -/
def regionSet (u : Nat) (p : Bytes) (b : State) : State :=
  let s1 := (((b.setFlag (Addr.FLOW_TCTRL u) 0 (byteAt p 1 == 1)).setReg (Addr.FLOW_BASE u) (be p 4 4)).setReg (Addr.FLOW_RECORDS u)
    (be p 8 4)).setReg (Addr.FLOW_PPS u) (be p 12 4)
  let s2 := (((s1.setReg (Addr.WAY_MASK u) (be p 16 4)).setReg (Addr.DIGEST_BASE u) (be p 20 8)).setReg (Addr.DIGEST_ENTRIES u)
    (be p 28 4)).setReg (Addr.LABEL_BASE u) (be p 32 8)
  s2.setReg (Addr.LABEL_ENTRIES u) (be p 40 4)

/-- The registers that FLOW_REGION_SET names. -/
def regionRegs (u : Nat) : List Nat :=
  [Addr.FLOW_TCTRL u, Addr.FLOW_BASE u, Addr.FLOW_RECORDS u, Addr.FLOW_PPS u, Addr.WAY_MASK u, Addr.DIGEST_BASE u,
    Addr.DIGEST_ENTRIES u, Addr.LABEL_BASE u, Addr.LABEL_ENTRIES u]

theorem reg_regionSet_other {a u : Nat} (other : a ∉ regionRegs u) (p : Bytes) (b : State) : (regionSet u p b).reg a = b.reg a := by
  simp only [regionRegs, List.mem_cons, List.not_mem_nil, or_false, not_or] at other
  obtain ⟨control, base, records, pps, ways, digest, digests, label, labels⟩ := other
  unfold regionSet
  dsimp only
  rw [State.reg_setReg_other labels, State.reg_setReg_other label, State.reg_setReg_other digests, State.reg_setReg_other digest,
    State.reg_setReg_other ways, State.reg_setReg_other pps, State.reg_setReg_other records, State.reg_setReg_other base,
    State.reg_setFlag_other b control]

/-- What FLOW_REGION_SET stores in its registers. -/
structure RegionStored (u : Nat) (p : Bytes) (t : State) : Prop where
  control : t.flag (Addr.FLOW_TCTRL u) 0 = (byteAt p 1 == 1)
  base : t.reg (Addr.FLOW_BASE u) = be p 4 4
  records : t.reg (Addr.FLOW_RECORDS u) = be p 8 4
  pps : t.reg (Addr.FLOW_PPS u) = be p 12 4
  ways : t.reg (Addr.WAY_MASK u) = be p 16 4
  digest : t.reg (Addr.DIGEST_BASE u) = be p 20 8
  digests : t.reg (Addr.DIGEST_ENTRIES u) = be p 28 4
  label : t.reg (Addr.LABEL_BASE u) = be p 32 8
  labels : t.reg (Addr.LABEL_ENTRIES u) = be p 40 4

theorem be_lt_word (p : Bytes) (o : Nat) {n : Nat} (small : n ≤ 8) : be p o n < 18446744073709551616 :=
  (be_lt p o n).trans_le (Nat.pow_le_pow_right (by decide : 0 < 256) small)

theorem regionStored_regionSet (u : Nat) (p : Bytes) (b : State) : RegionStored u p (regionSet u p b) := by
  have four (o : Nat) : be p o 4 < 18446744073709551616 := be_lt_word p o (by decide)
  have eight (o : Nat) : be p o 8 < 18446744073709551616 := be_lt_word p o (by decide)
  constructor
  · unfold regionSet
    dsimp only
    refine (State.flag_congr ?_ 0).trans (State.flag_setFlag b (by decide) _)
    simp [State.reg_setReg, Addr.FLOW_TCTRL, Addr.FLOW_BASE, Addr.FLOW_RECORDS, Addr.FLOW_PPS, Addr.WAY_MASK, Addr.DIGEST_BASE,
      Addr.DIGEST_ENTRIES, Addr.LABEL_BASE, Addr.LABEL_ENTRIES]
  all_goals
    simp [regionSet, State.reg_setReg, four, eight, Addr.FLOW_BASE, Addr.FLOW_RECORDS, Addr.FLOW_PPS, Addr.WAY_MASK, Addr.DIGEST_BASE,
        Addr.DIGEST_ENTRIES, Addr.LABEL_BASE, Addr.LABEL_ENTRIES]


theorem cmdFlowRegionSet_eq (owner_ : e.owner = true) (len : p.length = 44) (enable : byteAt p 1 ≤ 1) (zero : zerosAt p 2 2 = true)
    (base : be p 4 4 < 2 ^ 20) (records : be p 8 4 ≤ 524288) (pps : be p 12 4 < 2 ^ 16) (ways : be p 16 4 < 2 ^ 16) (digest : be p 20 8 < 2 ^ 47)
    (digests : be p 28 4 < 2 ^ 24) (label : be p 32 8 < 2 ^ 47) (labels : be p 40 4 < 2 ^ 24) :
    cmdFlowRegionSet e p s = (st (flowChange (byteAt p 0) s (regionSet (byteAt p 0) p s)).1, (flowChange (byteAt p 0) s (regionSet
        (byteAt p 0) p s)).2) := by
  unfold cmdFlowRegionSet
  dsimp only
  rw [if_neg (by simp [owner_]), if_neg]
  · rfl
  · simp only [zero, Bool.not_true, Bool.false_eq_true, false_or]
    omega

/-! FLOW_REMOVE, FLOW_READ and FLOW_FLUSH (R161) -/

theorem cmdFlowRemove_eq (sender : e.tenant = g) (len : p.length = 40) : cmdFlowRemove e p s =
    (ok, if s.flowOn g && hotValid (s.hotOf g (flowSlot p (s.flowRecords g))) &&
        hotTag (s.hotOf g (flowSlot p (s.flowRecords g))) == keyTag p then
      endFlow g (flowSlot p (s.flowRecords g)) endRemoved (readsColdBad s).1 (readsColdBad s).2 else s) := by
  subst sender
  unfold cmdFlowRemove
  dsimp only
  rw [if_neg (by simp [len])]

theorem hotOf_fresh (s : State) (n t r : Nat) : ({ s with fresh := n } : State).hotOf t r = s.hotOf t r := by
  have lines : ({ s with fresh := n } : State).flow.lines = s.flow.lines := rfl
  have mem : ({ s with fresh := n } : State).mem = s.mem := rfl
  have keys : ({ s with fresh := n } : State).dataKey = s.dataKey := rfl
  have base : ({ s with fresh := n } : State).reg (Addr.FLOW_BASE t) = s.reg (Addr.FLOW_BASE t) := State.reg_of_regs rfl _
  generalize ({ s with fresh := n } : State) = u at lines mem keys base ⊢
  exact hotOf_congr lines mem keys base r

theorem hotOf_readsColdBad (s : State) (t r : Nat) : (readsColdBad s).2.hotOf t r = s.hotOf t r := by
  obtain ⟨n, drawn⟩ : ∃ n, (readsColdBad s).2 = { s with fresh := n } := ⟨_, rfl⟩
  rw [drawn]
  exact hotOf_fresh s n t r

theorem cmdFlowRead_eq (sender : e.tenant = g) (len : p.length = 48) (zero : zerosAt p 1 3 = true)
    (named : byteAt p 0 = 0 ∧ be p 4 4 = 0 ∨ byteAt p 0 = 1 ∧ zerosAt p 8 40 = true ∧ be p 4 4 < s.flowRecords g) {r : Nat}
    (slot : r = if byteAt p 0 = 0 then flowSlot (slice p 8 40) (s.flowRecords g) else be p 4 4) {found : Bool}
    (finds : found = (s.flowRecords g != 0 && hotValid (s.hotOf g r) && (byteAt p 0 == 1 || hotTag (s.hotOf g r) == keyTag (slice p 8 40)))) :
    cmdFlowRead e p s = (⟨St.OK, toBE 1 (b2n found) ++ zeros 3 ++ toBE 4 r ++
      (if found then toLE 128 (s.hotOf g r) ++ toLE 128 (s.coldOf g r) else zeros 256)⟩, s) := by
  subst slot finds sender
  unfold cmdFlowRead
  dsimp only
  rw [if_neg, if_neg]
  · rfl
  · omega
  · obtain ⟨kind, low⟩ | ⟨kind, rest, low⟩ := named
    · simp [len, zero, kind, low]
    · simp [len, zero, kind, rest]

/-- `s` with a flush asked for tenant `g`'s flows. -/
def flushing (g : Nat) (s : State) : State := { s with flow.flushing := tabSet 0 g (s.nowUs + 1) s.flow.flushing }

theorem flushing_flushing (g : Nat) (s : State) : (flushing g s).flow.flushing = tabSet 0 g (s.nowUs + 1) s.flow.flushing := rfl

theorem lines_withFlushing (f : FlowState) (v : List (Nat × Nat)) : ({ f with flushing := v } : FlowState).lines = f.lines := rfl

theorem lines_flushing (g : Nat) (s : State) : (flushing g s).flow.lines = s.flow.lines := lines_withFlushing s.flow _

theorem cmdFlowFlush_eq (sender : e.tenant = g) (empty : p = []) :
    cmdFlowFlush e p s = (ok, flushing g s) := by
  rw [empty, ← sender]
  rfl
end

/-- What FLOW_REGION_SET leaves where nothing refuses it: its registers, and the lines of the region gone from the cache where it moved. -/
structure RegionTaken (u : Nat) (p : Bytes) (b t : State) : Prop where
  stored : RegionStored u p t
  lines : ∀ l ∈ t.flow.lines, l ∈ b.flow.lines
  mem : (∀ l ∈ b.flow.lines, l.2.tenant ≠ u) → t.mem = b.mem
  other : ∀ a, a ∉ regionRegs u → a ≠ Addr.FLOWS_LIVE u → (∀ k, a ≠ Addr.WR_BYTES k) → t.reg a = b.reg a

theorem flow_regionSet (u : Nat) (p : Bytes) (b : State) : (regionSet u p b).flow = b.flow := by simp [regionSet]

theorem mem_regionSet (u : Nat) (p : Bytes) (b : State) : (regionSet u p b).mem = b.mem := by simp [regionSet]

theorem regionTaken_regionSet (u : Nat) (p : Bytes) (b : State) : RegionTaken u p b (regionSet u p b) := by
  refine ⟨regionStored_regionSet u p b, fun l hl => ?_, fun _ => mem_regionSet u p b, fun _ named _ _ => reg_regionSet_other named p b⟩
  rwa [flow_regionSet] at hl

theorem regionTaken_moveRegion (u base : Nat) (p : Bytes) (b : State) : RegionTaken u p b (moveRegion u base (regionSet u p b)) := by
  have stored := regionStored_regionSet u p b
  have kept {a : Nat} (named : a ∈ regionRegs u) : (moveRegion u base (regionSet u p b)).reg a = (regionSet u p b).reg a := by
    simp only [regionRegs, List.mem_cons, List.not_mem_nil, or_false, Addr.FLOW_TCTRL, Addr.FLOW_BASE, Addr.FLOW_RECORDS, Addr.FLOW_PPS,
        Addr.WAY_MASK,
      Addr.DIGEST_BASE, Addr.DIGEST_ENTRIES, Addr.LABEL_BASE, Addr.LABEL_ENTRIES] at named
    refine reg_moveRegion (fun m _ => ?_) ?_ base _
    all_goals
      simp only [Addr.WR_BYTES, Addr.FLOWS_LIVE]
      omega
  refine ⟨⟨?_, ?_, ?_, ?_, ?_, ?_, ?_, ?_, ?_⟩, fun l hl => ?_, fun none_ => ?_,
    fun a named live write => (reg_moveRegion (fun m _ => write m) live base _).trans (reg_regionSet_other named p b)⟩
  · exact (State.flag_congr (kept (by simp [regionRegs])) 0).trans stored.control
  · exact (kept (by simp [regionRegs])).trans stored.base
  · exact (kept (by simp [regionRegs])).trans stored.records
  · exact (kept (by simp [regionRegs])).trans stored.pps
  · exact (kept (by simp [regionRegs])).trans stored.ways
  · exact (kept (by simp [regionRegs])).trans stored.digest
  · exact (kept (by simp [regionRegs])).trans stored.digests
  · exact (kept (by simp [regionRegs])).trans stored.label
  · exact (kept (by simp [regionRegs])).trans stored.labels
  · have kept := lines_moveRegion hl
    rwa [flow_regionSet] at kept
  · rw [← flow_regionSet u p b] at none_
    exact (mem_moveRegion none_ base).trans (mem_regionSet u p b)

/-- Settles O31: a region's registers, then the end, the reading and the flush of records. -/
theorem flowCommandsComplete : Obligations.FlowCommandsComplete := by
  unfold Obligations.FlowCommandsComplete
  intro c x s p h
  dsimp only
  refine ⟨fun trained isOwner len enable zero base records pps pps' ways ways' digest digests label labels sized exists_ off timeout placed => ?_,
    fun len => ?_, fun len zero named => ?_, fun empty => ?_⟩
  · have stored := regionStored_regionSet (byteAt p 0) p (begun c x s)
    have other {a : Nat} := reg_regionSet_other (a := a) (u := byteAt p 0) (p := p) (b := begun c x s)
    have acts := cmdFlowRegionSet_eq (s := begun c x s) (envOf_owner isOwner c) len enable zero base records pps' ways' digest digests label labels
    have allowed := flowChange_allowed (u := regionSet (byteAt p 0) p (begun c x s)) exists_ (by rw [stored.ways]; omega) (by
        rw [other, other]
        · exact timeout
        all_goals
          simp [regionRegs, Addr.IDLE_TIMEOUT, Addr.SCAN_PERIOD, Addr.FLOW_TCTRL, Addr.FLOW_BASE, Addr.FLOW_RECORDS, Addr.FLOW_PPS, Addr.WAY_MASK,
            Addr.DIGEST_BASE, Addr.DIGEST_ENTRIES, Addr.LABEL_BASE, Addr.LABEL_ENTRIES]
          try omega)
      (by rw [stored.records]; exact records) (by
        rw [stored.control, State.flowRecords, stored.records]
        intro on
        have := sized (by simpa using on)
        omega) off placed
    obtain ⟨t, taken, change⟩ : ∃ t, RegionTaken (byteAt p 0) p (begun c x s) t ∧
        flowChange (byteAt p 0) (begun c x s) (regionSet (byteAt p 0) p (begun c x s)) = (St.OK, t) := by
      obtain stays | moves := allowed
      · exact ⟨_, regionTaken_regionSet .., stays⟩
      · exact ⟨_, regionTaken_moveRegion .., moves⟩
    have acts : needsHbm cmdFlowRegionSet (envOf c x) p (begun c x s) = (ok, t) :=
      (needsHbm_eq (by simpa using trained) _ _ _).trans (acts.trans (by rw [change]; rfl))
    obtain ⟨⟨control, base, records, pps, ways, digest, digests, label, labels⟩, lines, mem, others⟩ := taken
    rw [begun_flow, begun_mem] at mem
    refine completes_acts (f := needsHbm cmdFlowRegionSet) rfl h (by decide) (by decide) acts ?_
    refine ⟨control, base, records, pps, ways, digest, digests, label, labels, fun l hl => begun_flow c x s ▸ lines l hl,
        fun none_ => sameMemory_of_mem (mem none_), fun a named write => others a (fun k => named ?_) (fun k => named ?_) write⟩
    · exact List.mem_append_left [Addr.FLOWS_LIVE (byteAt p 0)] k
    · simp [k]
  · refine completes_acts (f := cmdFlowRemove) rfl h (by decide) (by decide) (cmdFlowRemove_eq (g := c.tenant) rfl len) ?_
    refine ⟨fun live => ?_, fun dead => if_neg (by simpa using dead)⟩
    have same := hotOf_readsColdBad (begun c x s) c.tenant (flowSlot p ((begun c x s).flowRecords c.tenant))
    rw [if_pos live]
    simp only [Bool.and_eq_true] at live
    exact endFlow_ended (s := (readsColdBad (begun c x s)).2) (by rw [same]; exact live.1.2) endRemoved (readsColdBad (begun c x s)).1
  · have acts := cmdFlowRead_eq (e := envOf c x) (s := begun c x s) rfl len zero named rfl rfl
    exact completes_acts (f := cmdFlowRead) rfl h (by decide) (by decide) acts rfl
  · refine completes_acts (f := cmdFlowFlush) rfl h (by decide) (by decide) (cmdFlowFlush_eq (g := c.tenant) rfl empty)
      ⟨?_, fun k other => ?_, ?_, rfl, sameMemory_of_mem (begun_mem c x s)⟩
    · rw [flushing_flushing, tabGet_tabSet_same]
    · rw [flushing_flushing, tabGet_tabSet_other other, begun_flow]
    · rw [lines_flushing, begun_flow]
end Sys2Proof.Machine

/-!
PROOFS. The encoder and the flow memory (R145 to R154).
-/
namespace Sys2Proof.Machine

/-! Packets at the encoder (R145, R147, R148) -/

section
variable {s u : State} {id t i : Nat} {q : Pkt}

/-- `u` is `s` with its packet `id` as `q`, and perhaps a longer hold on record. -/
structure PacketNow (id : Nat) (q : Pkt) (s u : State) : Prop where
  packet : u.packet id = some q
  others : ∀ i, i ≠ id → u.packet i = s.packet i
  regs : sameRegsBut [Addr.SEQ_MAX_HOLD] s u
  mem : u.mem = s.mem
  models : u.models = s.models
  cells : u.cells = s.cells

theorem PacketNow.upd (h : PacketNow id q s u) {f : Pkt → Pkt}
    (named : ∀ q : Pkt, q.id = id → (f q).id = id) : PacketNow id (f q) s (u.updPacket id f) where
  packet := State.packet_updPacket_same h.packet named
  others i other := (State.packet_updPacket_other named other u).trans (h.others i other)
  regs a ha := (State.reg_updPacket u id f a).trans (h.regs a ha)
  mem := h.mem
  models := h.models
  cells := h.cells

/-- The default verdict, with source 2 (R20). -/
theorem PacketNow.toVerdictPass (h : PacketNow id q s u) (v : Nat) :
    PacketNow id { q with pass := 2, verdict := v, vsrc := 2, at_ := .stage 0 } s (toVerdictPass id v 2 u) :=
  h.upd (f := fun q => { q with pass := 2, verdict := v, vsrc := 2, at_ := .stage 0 }) fun _ same => same

theorem packetNow_advance (found : s.packet id = some q) (t : Nat) : PacketNow id q s (advance t s) :=
  ⟨found, fun _ _ => rfl, fun a _ => s.advance_reg t a, rfl, rfl, rfl⟩

theorem PacketNow.raise (h : PacketNow id q s u) (v : Nat) : PacketNow id q s (u.raise Addr.SEQ_MAX_HOLD v) := by
  unfold State.raise
  split
  · refine ⟨h.packet, h.others, fun a ha => ?_, h.mem, h.models, h.cells⟩
    rw [State.reg_setReg_other (by simpa using ha), h.regs a ha]
  · exact h

/-- The merge lets the packet go. -/
theorem packetNow_releaseMerged (found : s.packet id = some q) (t : Nat) : PacketNow id { q with merged := true } s (releaseMerged q
    (advance t s)) := by
  obtain rfl := State.packet_id found
  have now := packetNow_advance found t
  unfold releaseMerged
  split
  · rename_i merged
    rwa [show ({ q with merged := true } : Pkt) = q from by rw [← merged]]
  · exact (now.raise _).upd (f := fun q => { q with merged := true }) fun _ same => same

theorem mergeOpen_of_mergeReady (next : mergeReady s q = true) : mergeOpen s q = true := by
  unfold mergeReady at next
  unfold mergeOpen
  simp only [Bool.and_eq_true, Bool.not_eq_true', List.any_eq_false] at next ⊢
  refine ⟨next.1, fun x hx before => next.2 x hx ⟨before.1.1, before.2⟩⟩

/-- The encoder on the packet that is next. -/
theorem exec_featureEncode (found : s.packet id = some q) (waits : q.at_ = .encode) (next : mergeReady s q = true) (t : Nat) (bad : RecordBad) :
    exec (.featureEncode t id bad) s = .next (match servingSlot s q.tenant q.model q.epoch with
      | some i =>
        if sampled ((s.selector q.tenant q.model).slot i) q.hash then
          (encodePacket { q with merged := true } i bad.hot bad.cold (releaseMerged q (advance t s))).getD (releaseMerged q (advance t s))
        else toVerdictPass id (s.defaultVerdict q.vclass) 2 (releaseMerged q (advance t s))
      | none => toVerdictPass id (s.defaultVerdict q.vclass) 2 (releaseMerged q (advance t s))) := by
  rw [exec, execFeatureEncode, found]
  dsimp only
  rw [if_pos ⟨waits, mergeOpen_of_mergeReady next⟩, next]
  rfl

/-! A vector enters its queues (R203, R256) -/

/-- A number put last into the input queue of each of some cells. -/
def joinQueues (id : Nat) (cells : List Nat) (s : State) : State :=
  cells.foldl (fun s c => s.updCell c (fun y => { y with inQ := y.inQ ++ [id] })) s

theorem joinQueues_only (id : Nat) (cells : List Nat) (s : State) : joinQueues id cells s = { s with cells := (joinQueues id cells s).cells } := by
  unfold joinQueues
  induction cells generalizing s with
  | nil => rfl
  | cons c cells ih => rw [List.foldl_cons, ih]; rfl

theorem cellx_updCell_other {c d : Nat} (other : c ≠ d) (f : CellX → CellX) (s : State) : (s.updCell d f).cellx c = s.cellx c :=
  tabGet_tabSet_other other ..

theorem cellx_updCell_same (c : Nat) (f : CellX → CellX) (s : State) : (s.updCell c f).cellx c = f (s.cellx c) := tabGet_tabSet_same ..

theorem cellx_joinQueues_other {c : Nat} {cells : List Nat} (other : c ∉ cells) (s : State) : (joinQueues id cells s).cellx c = s.cellx c := by
  unfold joinQueues
  induction cells generalizing s with
  | nil => rfl
  | cons d cells ih =>
    rw [List.mem_cons, not_or] at other
    rw [List.foldl_cons, ih other.2, cellx_updCell_other other.1]

theorem inQ_joinQueues {c : Nat} {cells : List Nat} (distinct : cells.Nodup) (member : c ∈ cells) (s : State) :
    ((joinQueues id cells s).cellx c).inQ = (s.cellx c).inQ ++ [id] := by
  induction cells generalizing s with
  | nil => contradiction
  | cons d cells ih =>
    obtain ⟨fresh, rest⟩ := List.nodup_cons.mp distinct
    rw [joinQueues, List.foldl_cons, ← joinQueues]
    by_cases first : c = d
    · subst first
      rw [cellx_joinQueues_other fresh, cellx_updCell_same]
    · rw [ih rest ((List.mem_cons.mp member).resolve_left first), cellx_updCell_other first]

/-- The packet of a vector that is sent. -/
def sentAs (cells : List Nat) (q : Pkt) : Pkt :=
  { q with at_ := .infer, replica := cells.headD 0, launchNo := 0, launched := [], flaws := [], flagged := false }

/-- What sending packet `id`'s vector to `cells` leaves. -/
structure VectorSent (id i : Nat) (q : Pkt) (s u : State) : Prop where
  packet : u.packet id = some (sentAs (nextReplica (s.selector q.tenant q.model) i) q)
  others : ∀ j, j ≠ id → u.packet j = s.packet j
  queues : (nextReplica (s.selector q.tenant q.model) i).Nodup →
    ∀ c ∈ nextReplica (s.selector q.tenant q.model) i, (u.cellx c).inQ = (s.cellx c).inQ ++ [id]
  turn : (u.selector q.tenant q.model).turn = (s.selector q.tenant q.model).turn + 1
  regs : u.regs = s.regs
  mem : u.mem = s.mem

/-- `s` with the next replica's turn come for a selector. -/
def turned (q : Pkt) (s : State) : State :=
  s.setSelector q.tenant q.model { s.selector q.tenant q.model with turn := (s.selector q.tenant q.model).turn + 1 }

theorem turn_turned (q : Pkt) (s : State) : ((turned q s).selector q.tenant q.model).turn = (s.selector q.tenant q.model).turn + 1 :=
  congrArg Selector.turn (tabGet_tabSet_same ..)

theorem sendVector_eq (found : s.packet id = some q) (slot : q.slot = some i) : sendVector id s =
    joinQueues id (nextReplica (s.selector q.tenant q.model) i) ((turned q s).updPacket id (sentAs (nextReplica
        (s.selector q.tenant q.model) i))) := by
  unfold sendVector
  rw [found]
  dsimp only
  rw [slot]
  rfl

theorem vectorSent_sendVector (found : s.packet id = some q) (slot : q.slot = some i) : VectorSent id i q s (sendVector id s) := by
  rw [sendVector_eq found slot]
  refine ⟨?_, fun j other => ?_, fun distinct c member => inQ_joinQueues distinct member _, ?_, ?_, ?_⟩
  · rw [joinQueues_only]
    exact State.packet_updPacket_same (s := turned q s) found fun _ same => same
  · rw [joinQueues_only]
    exact State.packet_updPacket_other (f := sentAs (nextReplica (s.selector q.tenant q.model) i)) (fun _ same => same) other (turned q s)
  · rw [joinQueues_only]
    exact turn_turned q s
  · rw [joinQueues_only]
    rfl
  · rw [joinQueues_only]
    rfl

/-- A packet as the encoder leaves it where its tenant has no flow memory (R154). -/
def encodedAs (pkg : Package) (i : Nat) (q : Pkt) : Pkt :=
  { q with
    labelValid := false, label := 0, flow := none, slot := some i, stateVer := 0
    vector := pkg.features.map (feature pkg { q with labelValid := false, label := 0, flow := none, slot := some i, stateVer := 0 } none) }

theorem encodePacket_flowless (hotBad coldBad : Bool) (room : queuesFree s (nextReplica (s.selector q.tenant q.model) i) = true)
    (retained : retentionFree s = true) (off : s.flowOn q.tenant = false) :
    encodePacket q i hotBad coldBad s =
      some (chainOrInfer q.id (s.updPacket q.id (fun _ => encodedAs ((s.selector q.tenant q.model).slot i).pkg i q))) := by
  unfold encodePacket
  dsimp only
  rw [if_neg (by simp [room, retained]), off]
  simp only [room, Bool.not_true, Bool.false_and]
  rfl

theorem chainOrInfer_alone (found : s.packet id = some q) (alone : q.stateVer = 0) : chainOrInfer id s = startInference id s := by
  unfold chainOrInfer
  rw [found]
  dsimp only
  rw [if_pos]
  simp [alone]

/-- A packet without a flow sends its vector, with the model's initial state where it keeps one (R153). -/
theorem startInference_flowless (found : s.packet id = some q) (flow : q.flow = none) :
    startInference id s = sendVector id s ∨ ∃ m, startInference id s = sendVector id (s.updPacket id (fun q => { q with mstate := m })) := by
  unfold startInference
  rw [found]
  dsimp only
  split
  · exact .inl rfl
  · rw [flow]
    exact .inr ⟨_, rfl⟩

/-- The vector of an encoded packet is sent, with or without a state. -/
theorem inference_flowless {pkg : Package} (now : PacketNow id (encodedAs pkg i q) s u) :
    ∃ u' m, PacketNow id { encodedAs pkg i q with mstate := m } s u' ∧ chainOrInfer id u = sendVector id u' := by
  rw [chainOrInfer_alone now.packet rfl]
  obtain plain | ⟨m, state⟩ := startInference_flowless now.packet rfl
  · exact ⟨u, q.mstate, now, plain⟩
  · exact ⟨_, m, now.upd (f := fun q => { q with mstate := m }) fun _ same => same, state⟩

theorem PacketNow.selector (now : PacketNow id q s u) (t k : Nat) : u.selector t k = s.selector t k := by
  rw [State.selector, now.models, State.selector]

theorem PacketNow.cellx (now : PacketNow id q s u) (c : Nat) : u.cellx c = s.cellx c := by
  rw [State.cellx, now.cells, State.cellx]

theorem PacketNow.flowOn (now : PacketNow id q s u) (t : Nat) : u.flowOn t = s.flowOn t := by
  have control : u.flag (Addr.FLOW_TCTRL t) 0 = s.flag (Addr.FLOW_TCTRL t) 0 := by
    refine State.flag_congr (now.regs _ ?_) 0
    simp only [List.mem_singleton, Addr.FLOW_TCTRL, Addr.SEQ_MAX_HOLD]
    omega
  have records : u.reg (Addr.FLOW_RECORDS t) = s.reg (Addr.FLOW_RECORDS t) := by
    refine now.regs _ ?_
    simp only [List.mem_singleton, Addr.FLOW_RECORDS, Addr.SEQ_MAX_HOLD]
    omega
  rw [State.flowOn, State.flowRecords, control, records, State.flowOn, State.flowRecords]

theorem retentionFree_updPacket {f : Pkt → Pkt}
    (stays : ∀ q, (f q).at_ = q.at_) (id : Nat) (s : State) : retentionFree (s.updPacket id f) = retentionFree s := by
  have kept (q : Pkt) : (if q.id = id then f q else q).at_ = q.at_ := by
    split
    · exact stays q
    · rfl
  simp only [retentionFree, State.updPacket, List.filter_map, List.length_map, Function.comp_def, kept]

theorem retentionFree_raise (a v : Nat) (s : State) : retentionFree (s.raise a v) = retentionFree s := by
  unfold State.raise
  split
  · rfl
  · rfl

theorem retentionFree_releaseMerged (q : Pkt) (t : Nat) (s : State) : retentionFree (releaseMerged q (advance t s)) = retentionFree s := by
  unfold releaseMerged
  split
  · rfl
  · rw [retentionFree_updPacket (f := fun q => { q with merged := true }) (fun _ => rfl), retentionFree_raise]
    rfl

theorem servingSlot_none_default (found : s.packet id = some q) (waits : q.at_ = .encode) (next : mergeReady s q = true)
    (unserved : ∀ i, servingSlot s q.tenant q.model q.epoch = some i → sampled ((s.selector q.tenant q.model).slot i) q.hash = false) (t : Nat)
        (bad : RecordBad) :
    ∃ u, exec (.featureEncode t id bad) s = .next u ∧
      PacketNow id { q with merged := true, pass := 2, verdict := s.defaultVerdict q.vclass, vsrc := 2, at_ := .stage 0 } s u := by
  refine ⟨_, ?_, (packetNow_releaseMerged found t).toVerdictPass (s.defaultVerdict q.vclass)⟩
  rw [exec_featureEncode found waits next]
  cases serves : servingSlot s q.tenant q.model q.epoch with
  | none => rfl
  | some i =>
    dsimp only
    rw [if_neg (by rw [unserved i serves]; decide)]

theorem featureEncode_sends (found : s.packet id = some q) (waits : q.at_ = .encode) (next : mergeReady s q = true)
    (serves : servingSlot s q.tenant q.model q.epoch = some i) (inferred : sampled ((s.selector q.tenant q.model).slot i) q.hash = true)
    (off : s.flowOn q.tenant = false) (room : queuesFree s (nextReplica (s.selector q.tenant q.model) i) = true) (retained : retentionFree s = true)
    (t : Nat) (bad : RecordBad) :
    ∃ u u' m, exec (.featureEncode t id bad) s = .next u ∧
      PacketNow id { encodedAs ((s.selector q.tenant q.model).slot i).pkg i { q with merged := true } with mstate := m } s u' ∧
          u = sendVector id u' := by
  have now := packetNow_releaseMerged found t
  obtain rfl := State.packet_id found
  have encoded := encodePacket_flowless (s := releaseMerged q (advance t s)) (q := { q with merged := true }) (i := i) bad.hot bad.cold
    (by rw [queuesFree, now.selector]; simpa only [queuesFree, now.cellx] using room)
    ((retentionFree_releaseMerged q t s).trans retained) ((now.flowOn _).trans off)
  rw [now.selector] at encoded
  obtain ⟨u', m, sent, same⟩ := inference_flowless (now.upd (f := fun _ =>
      encodedAs ((s.selector q.tenant q.model).slot i).pkg i { q with merged := true })
    fun _ _ => rfl)
  refine ⟨_, u', m, ?_, sent, rfl⟩
  rw [exec_featureEncode found waits next, serves]
  dsimp only
  rw [if_pos inferred, encoded, Option.getD_some, same]
end

/-! The cold halves (R149) -/

section
variable {s : State} {t g r : Nat} {l : Nat × FlowLine}

theorem toNat_ofNat_mod (n v : Nat) : (BitVec.ofNat n v).toNat = v % 2 ^ n := BitVec.toNat_ofNat v n

/-- A line whose cold half is filled with `cold`, or found uncorrectable. -/
def fillLine (bad : Bool) (cold : BitVec 1024) (x : FlowLine) : FlowLine :=
  if bad then { x with coldBad := true, filling := false }
  else { x with cold := cold, coldIn := true, coldBad := false, filling := false, coldDirty := false }

theorem named_fillLine (bad : Bool) (cold : BitVec 1024) (x : FlowLine) : (fillLine bad cold x).tenant = x.tenant ∧
    (fillLine bad cold x).slot = x.slot := by
  cases bad
  · exact ⟨rfl, rfl⟩
  · exact ⟨rfl, rfl⟩

theorem filled_fillLine (cold : BitVec 1024) (x : FlowLine) : (fillLine false cold x).coldIn = true ∧ (fillLine false cold x).cold = cold ∧
    (fillLine false cold x).filling = false ∧ (fillLine false cold x).hot = x.hot := ⟨rfl, rfl, rfl, rfl⟩

theorem bad_fillLine (cold : BitVec 1024) (x : FlowLine) : (fillLine true cold x).filling = false ∧ (fillLine true cold x).coldBad = true ∧
    (fillLine true cold x).hot = x.hot ∧ (fillLine true cold x).cold = x.cold := ⟨rfl, rfl, rfl, rfl⟩

theorem exec_coldFill (found : s.lineOf g r = some l) (fills : l.2.filling = true) {cold : BitVec 1024}
    (content : BitVec.ofNat 1024 (natLE (s.readBytes g (s.recordAddr g r + 128) 128)) = cold) (t : Nat) (bad : Bool) :
    exec (.coldFillComplete t g ⟨r, bad⟩) s = .next
      ((noteCold bad g (countHbm false (s.recordAddr g r + 128) 128 (advance t s))).updLine l.1 (fillLine bad cold)) := by
  rw [exec, execColdFillComplete]
  dsimp only
  rw [found]
  dsimp only
  rw [if_pos fills, content]
  rfl

theorem lineOf_of_flow {s u : State} (same : u.flow = s.flow) (t r : Nat) : u.lineOf t r = s.lineOf t r := by
  rw [State.lineOf, same, State.lineOf]

theorem coldOf_of_line (line : s.lineOf g r = some l) (resident : l.2.coldIn = true) : s.coldOf g r = l.2.cold.toNat := by
  rw [State.coldOf, line]
  dsimp only
  rw [if_pos resident]

theorem RegsOnly.flow {s t : State} (h : RegsOnly s t) : t.flow = s.flow := by rw [h]

theorem flow_coldRead (bad : Bool) (a t : Nat) (s : State) : (noteCold bad g (countHbm false a 128 (advance t s))).flow = s.flow := by
  rw [(coalesced_noteCold ..).flow, (regsOnly_countHbm ..).flow]
  rfl

theorem mem_coldRead (bad : Bool) (a t : Nat) (s : State) : (noteCold bad g (countHbm false a 128 (advance t s))).mem = s.mem := by
  rw [(coalesced_noteCold ..).mem, (regsOnly_countHbm ..).mem]
  rfl

/-- The line whose cold half was filled. -/
theorem lineOf_coldFill (found : s.lineOf g r = some l) (bad : Bool) (a t : Nat) (cold : BitVec 1024) :
    ((noteCold bad g (countHbm false a 128 (advance t s))).updLine l.1 (fillLine bad cold)).lineOf g r = some (l.1, fillLine bad cold l.2) :=
  lineOf_updLine (named_fillLine bad cold) ((lineOf_of_flow (flow_coldRead bad a t s) g r).trans found)

theorem mem_updLine (s : State) (k : Nat) (f : FlowLine → FlowLine) : (s.updLine k f).mem = s.mem := rfl

theorem reg_updLine (s : State) (k : Nat) (f : FlowLine → FlowLine) (a : Nat) : (s.updLine k f).reg a = s.reg a := State.reg_of_regs rfl a

theorem coldFill_good (found : s.lineOf g r = some l) (fills : l.2.filling = true) (t : Nat) :
    ∃ u, exec (.coldFillComplete t g ⟨r, false⟩) s = .next u ∧ u.coldOf g r = natLE (s.readBytes g (s.recordAddr g r + 128) 128) % 2 ^ 1024 ∧
      (∃ l', u.lineOf g r = some l' ∧ l'.2.filling = false ∧ l'.2.hot = l.2.hot) ∧ (∀ a, (∀ k, a ≠ Addr.RD_BYTES k) → u.reg a = s.reg a) ∧
      u.mem = s.mem := by
  have value := toNat_ofNat_mod 1024 (natLE (s.readBytes g (s.recordAddr g r + 128) 128))
  generalize content : BitVec.ofNat 1024 (natLE (s.readBytes g (s.recordAddr g r + 128) 128)) = read at value
  have line := lineOf_coldFill found false (s.recordAddr g r + 128) t read
  obtain ⟨resident, cold, filled, hot⟩ := filled_fillLine read l.2
  refine ⟨_, exec_coldFill found fills content t false, ?_, ⟨_, line, filled, hot⟩, fun a other =>
      ?_, (mem_updLine ..).trans (mem_coldRead false _ t s)⟩
  · rw [coldOf_of_line line resident, cold, value]
  · exact (reg_updLine ..).trans (reg_countHbm_other (write := false) (fun m _ => other m) _ _ (advance t s))

theorem coldFill_bad (found : s.lineOf g r = some l) (fills : l.2.filling = true) (t : Nat) :
    ∃ u, exec (.coldFillComplete t g ⟨r, true⟩) s = .next u ∧
      (∃ l', u.lineOf g r = some l' ∧ l'.2.filling = false ∧ l'.2.coldBad = true ∧ l'.2.hot = l.2.hot ∧ l'.2.cold = l.2.cold) ∧ u.mem = s.mem := by
  generalize content : BitVec.ofNat 1024 (natLE (s.readBytes g (s.recordAddr g r + 128) 128)) = read
  exact ⟨_, exec_coldFill found fills content t true,
      ⟨_, lineOf_coldFill found true _ t read, bad_fillLine read l.2⟩, (mem_updLine ..).trans (mem_coldRead true _ t s)⟩

/-! The scanner (R150) -/

theorem hotOf_advance (t g r : Nat) (s : State) : (advance t s).hotOf g r = s.hotOf g r := by
  have base := s.advance_reg t (Addr.FLOW_BASE g)
  have lines := congrArg FlowState.lines (s.advance_flow t)
  have mem := s.advance_mem t
  have keys := s.advance_dataKey t
  generalize advance t s = u at base lines mem keys ⊢
  exact hotOf_congr lines mem keys base r

theorem flowScan_ends (on : s.flowOn g = true) (inside : r < s.flowRecords g) (live : hotValid (s.hotOf g r) = true)
    (whole : s.slotRetired g r = false)
    (due : flushes (advance t s) g (s.hotOf g r) = true ∨ s.reg (Addr.IDLE_TIMEOUT g) * 1000000 ≤ hotIdle (s.hotOf g r) (advance t s).nowUs ∨
      (hotEnding (s.hotOf g r) = true ∧ s.reg (Addr.END_LINGER g) * 1000 ≤ hotIdle (s.hotOf g r) (advance t s).nowUs) ∨
      agedAt ≤ hotAge (s.hotOf g r) (advance t s).nowUs) (bad : Bool) :
    ∃ reason, exec (.flowScan t g r bad) s = .next (endFlow g r reason bad (advance t s)) := by
  rw [exec, execFlowScan]
  dsimp only
  rw [hotOf_advance, if_neg (by simp [on, inside, live]), if_neg (by rw [whole]; decide)]
  split
  · exact ⟨_, rfl⟩
  · split
    · exact ⟨_, rfl⟩
    · split
      · exact ⟨_, rfl⟩
      · rw [if_pos (due.resolve_left (by assumption) |>.resolve_left (by assumption) |>.resolve_left (by assumption))]
        exact ⟨_, rfl⟩

/-! The label queue (R152) -/

/-- The registers that a label record may change. -/
def labelRegs (g : Nat) : List Nat := [Addr.LABEL_APPLIED g, Addr.LABEL_STALE g, Addr.CACHE_MISSES]

/-- What `n` label records of tenant `g` leave: each counted once, and no register changed but for its reads, where every word was good. -/
structure LabelsMet (g n : Nat) (bad : List Nat) (s u : State) : Prop where
  counted : (u.reg (Addr.LABEL_APPLIED g) + u.reg (Addr.LABEL_STALE g)) % 2 ^ 32 =
    (s.reg (Addr.LABEL_APPLIED g) + s.reg (Addr.LABEL_STALE g) + n) % 2 ^ 32
  others : bad = [] → ∀ a, a ∉ labelRegs g → UncountedReg a → u.reg a = s.reg a

theorem LabelsMet.trans {n m : Nat} {bad : List Nat} {s u v : State} (h : LabelsMet g n bad s u) (h' : LabelsMet g m bad u v) :
    LabelsMet g (n + m) bad s v where
  counted := by
    rw [h'.counted, Nat.add_mod, h.counted, ← Nat.add_mod, Nat.add_assoc]
  others good a listed counted := (h'.others good a listed counted).trans (h.others good a listed counted)

theorem LabelsMet.after {m : Nat} {bad : List Nat}
    {s u v : State} (h' : LabelsMet g m bad u v) (h : LabelsMet g 0 bad s u) : LabelsMet g m bad s v := by
  have both := h.trans h'
  rwa [Nat.zero_add] at both

theorem LabelsMet.before {n : Nat} {bad : List Nat}
    {s u v : State} (h : LabelsMet g n bad s u) (h' : LabelsMet g 0 bad u v) : LabelsMet g n bad s v := by
  have both := h.trans h'
  rwa [Nat.add_zero] at both

/-- A step in which neither counter moves. -/
theorem labelsMet_same {bad : List Nat} {s u : State} (applied : u.reg (Addr.LABEL_APPLIED g) = s.reg (Addr.LABEL_APPLIED g))
    (stale : u.reg (Addr.LABEL_STALE g) = s.reg (Addr.LABEL_STALE g))
    (others : bad = [] → ∀ a, a ∉ labelRegs g → UncountedReg a → u.reg a = s.reg a) : LabelsMet g 0 bad s u :=
  ⟨by rw [applied, stale]; rfl, others⟩

theorem uncounted_label (g : Nat) : UncountedReg (Addr.LABEL_APPLIED g) ∧ UncountedReg (Addr.LABEL_STALE g) := by
  refine ⟨fun m _ => ⟨?_, ?_⟩, fun m _ => ⟨?_, ?_⟩⟩
  all_goals
    simp only [Addr.LABEL_APPLIED, Addr.LABEL_STALE, Addr.RD_BYTES, Addr.WR_BYTES]
    omega

theorem labelsMet_of_uncounted {bad : List Nat} {s u : State} (kept : ∀ a, UncountedReg a → u.reg a = s.reg a) : LabelsMet g 0 bad s u :=
  labelsMet_same (kept _ (uncounted_label g).1) (kept _ (uncounted_label g).2) fun _ a _ => kept a

theorem labelsMet_countHbm (bad : List Nat) (b n : Nat) (s : State) : LabelsMet g 0 bad s (countHbm false b n s) :=
  labelsMet_of_uncounted fun a counted => reg_countHbm_other (write := false) (fun m h => (counted m h).1) b n s

theorem labelsMet_putHot (bad : List Nat) (r h : Nat) (s : State) : LabelsMet g 0 bad s (s.putHot g r h) :=
  labelsMet_of_uncounted fun a counted => reg_putHot_other (fun m h => (counted m h).2) s g r h

theorem labelsMet_applied (bad : List Nat) (s : State) : LabelsMet g 1 bad s (s.bump32 (Addr.LABEL_APPLIED g)) := by
  refine ⟨?_, fun _ a listed _ => State.reg_bump32_other s (fun same => listed (by simp [labelRegs, same])) 1⟩
  rw [State.reg_bump32, State.reg_bump32_other]
  · omega
  · simp only [Addr.LABEL_APPLIED, Addr.LABEL_STALE]
    omega

theorem labelsMet_stale (bad : List Nat) (s : State) : LabelsMet g 1 bad s (s.bump32 (Addr.LABEL_STALE g)) := by
  refine ⟨?_, fun _ a listed _ => State.reg_bump32_other s (fun same => listed (by simp [labelRegs, same])) 1⟩
  rw [State.reg_bump32, State.reg_bump32_other]
  · omega
  · simp only [Addr.LABEL_APPLIED, Addr.LABEL_STALE]
    omega

theorem labelsMet_miss (bad : List Nat) (s : State) : LabelsMet g 0 bad s (s.bump64 Addr.CACHE_MISSES) := by
  refine labelsMet_same (State.reg_bump64_other s ?_ 1) (State.reg_bump64_other s ?_ 1) fun _ a listed _ =>
    State.reg_bump64_other s (fun same => listed (by simp [labelRegs, same])) 1
  all_goals
    simp only [Addr.LABEL_APPLIED, Addr.LABEL_STALE, Addr.CACHE_MISSES]
    omega

theorem labelsMet_readForLabel (bad : List Nat) (r : Nat) (s : State) : LabelsMet g 0 bad s (readForLabel g r s) := by
  unfold readForLabel
  split
  · exact (labelsMet_countHbm bad _ _ s).trans (labelsMet_miss bad _)
  · exact labelsMet_of_uncounted fun _ _ => rfl

/-- A reset moves neither counter. -/
theorem labelsMet_resetByLabel {bad : List Nat} (met : bad ≠ []) (r : Nat) (s : State) : LabelsMet g 0 bad s (resetByLabel g r s) := by
  have kept {a : Nat} (live : a ≠ Addr.FLOWS_LIVE g) (reset : a ≠ Addr.FLOW_RESET g) (counted : UncountedReg a) (untold : UntoldReg a) :
      (resetByLabel g r s).reg a = s.reg a := by
    unfold resetByLabel
    dsimp only
    rw [(coalesced_noteUncorr ..).reg untold, (coalesced_coalesceEvent ..).reg untold, State.reg_bump32_other _ reset,
      reg_putHot_other fun m h => (counted m h).2]
    split
    · exact State.reg_setReg_other live _ _
    · rfl
  refine labelsMet_same (kept ?_ ?_ (uncounted_label g).1 (untoldReg_of ?_ ?_ ?_)) (kept ?_ ?_ (uncounted_label g).2 (untoldReg_of ?_ ?_ ?_))
    fun good => absurd good met
  all_goals
    simp only [Addr.LABEL_APPLIED, Addr.LABEL_STALE, Addr.FLOWS_LIVE, Addr.FLOW_RESET, Addr.NO_ROUTE, Addr.EVENTS_SENT, Addr.EVENTS_LOST,
        Addr.EVQ_LOST]
    omega

theorem labelsMet_applyLabel (bad : List Nat) (rec : Bytes) (s : State) : LabelsMet g 1 bad s (applyLabel g bad rec s) := by
  have read := labelsMet_readForLabel (g := g) bad (le rec 0 4) s
  unfold applyLabel
  dsimp only
  split
  · rename_i uncorrectable
    refine read.trans ((labelsMet_resetByLabel (fun good => ?_) _ _).trans (labelsMet_stale bad _))
    simp [good] at uncorrectable
  · split
    · exact read.trans ((labelsMet_putHot bad _ _ _).trans (labelsMet_applied bad _))
    · exact read.trans (labelsMet_stale bad _)

theorem labelsMet_foldl {f : State → Nat → State} {bad : List Nat} (one : ∀ s i, LabelsMet g 1 bad s (f s i)) (l : List Nat) (s : State) :
    LabelsMet g l.length bad s (l.foldl f s) := by
  induction l generalizing s with
  | nil => exact labelsMet_of_uncounted fun _ _ => rfl
  | cons i l ih =>
    have both := (one s i).trans (ih (f s i))
    rwa [Nat.add_comm 1] at both

theorem le_of_natLE : ∀ (n : Nat) (p : Bytes) (o : Nat), o + n = p.length → le p o n = natLE (p.drop o)
  | 0, p, o, h => by rw [List.drop_eq_nil_of_le (by omega)]; rfl
  | n + 1, p, o, h => by
    have step := le_of_natLE n p (o + 1) (by omega)
    have head : byteAt p o = p[o].toNat := by
      simp [byteAt, List.getD_eq_getElem?_getD, List.getElem?_eq_getElem (by omega : o < p.length)]
    rw [le, step, List.drop_eq_getElem_cons (by omega : o < p.length), head]
    rfl

theorem le_toLE {n v : Nat} (small : v < 256 ^ n) : le (toLE n v) 0 n = v := by
  rw [le_of_natLE n _ 0 (by rw [length_toLE]; omega), List.drop_zero, natLE_toLE_of_lt small]

theorem le_lt : ∀ (n : Nat) (p : Bytes) (o : Nat), le p o n < 256 ^ n
  | 0, _, _ => Nat.one_pos
  | n + 1, p, o => by
    have tail := le_lt n p (o + 1)
    have head : byteAt p o < 256 := byteAt_lt p o
    rw [le, pow_succ]
    omega

/-- The header of tenant `g`'s label queue (R152). -/
def labelProd (g : Nat) (s : State) : Nat := le (s.readBytes g (s.reg (Addr.LABEL_BASE g)) 8) 0 4
def labelCons (g : Nat) (s : State) : Nat := le (s.readBytes g (s.reg (Addr.LABEL_BASE g)) 8) 4 4
/-- The records that wait in it. -/
def labelCount (g : Nat) (s : State) : Nat :=
  min ((labelProd g s + 2 ^ 32 - labelCons g s) % 2 ^ 32) (s.reg (Addr.LABEL_ENTRIES g))

/-- The records of the queue met in order. -/
def metLabels (t g : Nat) (bad : List Nat) (s : State) : State :=
  (List.range (labelCount g s)).foldl (fun u i =>
      applyLabel g bad
        (u.readBytes g (s.reg (Addr.LABEL_BASE g) + 32 + 16 * ((labelCons g s + i) % s.reg (Addr.LABEL_ENTRIES g))) 16)
        (countHbm false (s.reg (Addr.LABEL_BASE g) + 32 + 16 * ((labelCons g s + i) % s.reg (Addr.LABEL_ENTRIES g))) 16 u))
    (countHbm false (s.reg (Addr.LABEL_BASE g)) 8 (advance t s))

theorem exec_labelQueuePoll (on : s.flowOn g = true) (some_ : labelCount g s ≠ 0) (t : Nat) (bad : List Nat) :
    exec (.labelQueuePoll t ⟨g, bad⟩) s =
      .next ((metLabels t g bad s).storeBytes g (s.reg (Addr.LABEL_BASE g) + 4) (toLE 4 (labelProd g s))) := by
  rw [exec, execLabelQueuePoll]
  dsimp only
  exact congrArg Host.Outcome.next (if_neg (by
    rw [on, Bool.not_true, Bool.false_or]
    exact fun none_ => some_ (eq_of_beq none_)))

theorem labelsMet_metLabels (t g : Nat) (bad : List Nat) (s : State) : LabelsMet g (labelCount g s) bad s (metLabels t g bad s) := by
  have come : LabelsMet g 0 bad s (advance t s) := labelsMet_of_uncounted fun a _ => s.advance_reg t a
  have records := labelsMet_foldl (g := g) (bad := bad) (f := fun u i =>
      applyLabel g bad
        (u.readBytes g (s.reg (Addr.LABEL_BASE g) + 32 + 16 * ((labelCons g s + i) % s.reg (Addr.LABEL_ENTRIES g))) 16)
        (countHbm false (s.reg (Addr.LABEL_BASE g) + 32 + 16 * ((labelCons g s + i) % s.reg (Addr.LABEL_ENTRIES g))) 16 u))
    (fun u i => (labelsMet_applyLabel bad _ _).after (labelsMet_countHbm bad _ _ u))
    (List.range (labelCount g s)) (countHbm false (s.reg (Addr.LABEL_BASE g)) 8 (advance t s))
  rw [List.length_range] at records
  exact records.after (come.trans (labelsMet_countHbm bad _ _ _))

theorem labelProd_lt (g : Nat) (s : State) : labelProd g s < 256 ^ 4 := le_lt 4 _ 0

theorem le_readBytes_stored (s : State) (t a : Nat) {v : Nat} (small : v < 256 ^ 4) :
    le ((s.storeBytes t a (toLE 4 v)).readBytes t a 4) 0 4 = v := by
  have read := readBytes_storeBytes s t a (toLE 4 v)
  rw [length_toLE] at read
  rw [read, le_toLE small]

theorem labelQueuePoll_counts (on : s.flowOn g = true) (some_ : labelCount g s ≠ 0) (t : Nat) (bad : List Nat) :
    ∃ u, exec (.labelQueuePoll t ⟨g, bad⟩) s = .next u ∧
      le (u.readBytes g (s.reg (Addr.LABEL_BASE g) + 4) 4) 0 4 = labelProd g s ∧ LabelsMet g (labelCount g s) bad s u := by
  have met := labelsMet_metLabels t g bad s
  have does := exec_labelQueuePoll on some_ t bad
  generalize metLabels t g bad s = v at met does
  refine ⟨_, does, le_readBytes_stored v g _ (labelProd_lt g s), met.before (labelsMet_of_uncounted fun a counted => ?_)⟩
  exact reg_storeBytes_other (fun m h => (counted m h).2) v g _ _
end

/-- Settles O32: the packet next at the encoder by who serves it, then a line's cold half, the scanner and the label queue. -/
theorem packetsAreEncodedAndFlowsEnd : Obligations.PacketsAreEncodedAndFlowsEnd := by
  unfold Obligations.PacketsAreEncodedAndFlowsEnd
  refine ⟨fun t id bad q s found waits next => ⟨fun unserved => ?_, fun i serves uninferred =>
      ?_, fun i serves inferred off room retained distinct => ?_⟩,
    fun t g s => ⟨fun r l found fills => ⟨coldFill_good found fills t, coldFill_bad found fills t⟩, fun r bad on inside live whole due => ?_,
      fun on some_ bad => ?_⟩⟩
  · obtain ⟨u, does, now⟩ := servingSlot_none_default found waits next (fun i serves => by rw [unserved] at serves; contradiction) t bad
    exact ⟨u, does, now.packet, now.others, now.regs, now.mem⟩
  · obtain ⟨u, does, now⟩ := servingSlot_none_default found waits next (fun j serves' => by
      obtain rfl : i = j := Option.some.inj (serves.symm.trans serves')
      exact uninferred) t bad
    exact ⟨u, does, now.packet, now.others, now.regs, now.mem⟩
  · obtain ⟨_, u', m, does, now, rfl⟩ := featureEncode_sends found waits next serves inferred off room retained t bad
    have vector := vectorSent_sendVector now.packet rfl
    have queues := vector.queues
    have turn := vector.turn
    have same : u'.selector q.tenant q.model = s.selector q.tenant q.model := now.selector _ _
    dsimp only [encodedAs] at queues turn
    rw [same] at queues turn
    refine ⟨_, _, does, vector.packet, rfl, rfl, rfl, rfl, rfl, fun c member => ?_, turn, fun j other => ?_, fun a listed => ?_, ?_⟩
    · rw [queues distinct c member, now.cellx]
    · exact (vector.others j other).trans (now.others j other)
    · exact (State.reg_of_regs vector.regs a).trans (now.regs a listed)
    · exact vector.mem.trans now.mem
  · obtain ⟨reason, does⟩ := flowScan_ends on inside live whole due bad
    exact ⟨_, does, endFlow_ended (by rw [hotOf_advance]; exact live) reason bad⟩
  · obtain ⟨u, does, read, met⟩ := labelQueuePoll_counts on some_ t bad
    exact ⟨u, does, read, met.counted, fun good a listed counted => met.others good a listed fun m _ => counted m⟩
end Sys2Proof.Machine

/-!
PROOFS. The time base and its sources (R55, R498).
-/
namespace Sys2Proof.Machine

/-! What frames leave alone below the ports' registers -/

/-- `t` has the time base of `s` and its registers below the ports'. -/
structure ClockKept (s t : State) : Prop where
  time : t.time = s.time
  reg : ∀ a < 0x100000, t.reg a = s.reg a

theorem ClockKept.refl (s : State) : ClockKept s s := ⟨rfl, fun _ _ => rfl⟩

theorem ClockKept.trans {s t u : State} (h : ClockKept s t) (h' : ClockKept t u) : ClockKept s u :=
  ⟨h'.time.trans h.time, fun a ha => (h'.reg a ha).trans (h.reg a ha)⟩

theorem clockKept_setReg {a : Nat} (high : 0x100000 ≤ a) (v : Nat) (s : State) : ClockKept s (s.setReg a v) :=
  ⟨rfl, fun b low => State.reg_setReg_other (by omega) s v⟩

theorem not_pauseReg_low {a : Nat} (low : a < 0x100000) : ¬ PauseReg a := by
  rintro ⟨p, k, j, _, _, same | same⟩
  · rw [Addr.PFC_RX] at same
    omega
  · rw [Addr.PFC_TX] at same
    omega

theorem Freed.clockKept {s t : State} (h : Freed s t) : ClockKept s t :=
  ⟨h.time, fun a low => h.reg a (not_pauseReg_low low) (by rw [Addr.EPOCH_STATUS]; omega)⟩

theorem Paused.clockKept {s t : State} (h : Paused s t) : ClockKept s t := h.freed.clockKept

theorem Paged.clockKept {s t : State} (h : Paged s t) : ClockKept s t := ⟨h.time, fun a low => h.reg a (not_pauseReg_low low)⟩

theorem Committed.clockKept {f : Nat} {q : FifoPkt} {s t : State} (h : Committed f q s t) : ClockKept s t := by
  refine ⟨by rw [h.only], fun a low => h.reg a ?_ ?_⟩
  · rw [Addr.COMMIT_COUNT]
    omega
  · rw [Addr.HIGH_WATER]
    omega

theorem clockKept_raise {a : Nat} (high : 0x100000 ≤ a) (v : Nat) (s : State) : ClockKept s (s.raise a v) := by
  unfold State.raise
  split
  · exact clockKept_setReg high v s
  · exact .refl s

theorem clockKept_rewindPacket (f : Nat) (full : Bool) (n : Nat) (s : State) : ClockKept s (rewindPacket f full n s) := by
  refine ⟨by rw [regsOnly_rewindPacket f full n s], fun a low => reg_rewindPacket_other ?_ ?_ ?_ full n s⟩
  all_goals
    simp only [Addr.REWIND_COUNT, Addr.HIGH_WATER, Addr.OVERFLOW_COUNT]
    omega

theorem clockKept_commitFrame (p k L id len : Nat) (s : State) : ClockKept s (commitFrame p k L id len s) := by
  unfold commitFrame
  refine ClockKept.trans ?_ (committed_commitPacket ..).clockKept
  refine ClockKept.trans ?_ (clockKept_setReg (a := Addr.RX_BYTES p k) (by rw [Addr.RX_BYTES]; omega) _ _)
  refine ClockKept.trans ?_ (clockKept_setReg (a := Addr.RX_FRAMES p k) (by rw [Addr.RX_FRAMES]; omega) _ _)
  exact ⟨rfl, fun _ _ => rfl⟩

theorem IntakeEnd.counter_high (e : IntakeEnd) (p k : Nat) : 0x100000 ≤ e.counter p k := by
  cases e
  all_goals
    simp only [IntakeEnd.counter, Addr.RX_OVERSIZE, Addr.RX_BUF_DROP, Addr.RX_FCS_ERR, Addr.RX_RUNT]
    omega

theorem clockKept_intakeFrame (p k L : Nat) (fr : Bytes) (fin : FrameEnd) (pcs : Option Nat) (s : State) :
    ClockKept s (intakeFrame p k L fr fin pcs s) := by
  unfold intakeFrame
  extract_lets stored before rx zc desc maxFrame early id taken _src s1 need upTo r
  have begins : ClockKept s s1 := by
    unfold s1
    split
    · exact ⟨rfl, fun _ _ => rfl⟩
    · exact ⟨rfl, fun _ _ => rfl⟩
  have pages : ClockKept s r.1 := begins.trans (paged_takePages ..).clockKept
  split
  · exact .refl s
  · split
    · refine ClockKept.trans ?_ (clockKept_rewindPacket ..)
      cases before with
      | none => exact .refl s
      | some q => exact (freed_freePacket q.id s).clockKept
    · split
      · rename_i e _
        refine ClockKept.trans ?_ (clockKept_rewindPacket ..)
        exact (pages.trans (freed_freePacket id r.1).clockKept).trans (clockKept_setReg (e.counter_high p k) _ _)
      · split
        · exact pages.trans (clockKept_raise (by rw [Addr.HIGH_WATER]; omega) _ _)
        · exact pages.trans (clockKept_commitFrame ..)

theorem clockKept_receiveFrame (L : Nat) (fr : Bytes) (fin : FrameEnd) (pcs : Option Nat) (s : State) : ClockKept s
    (receiveFrame L fr fin pcs s) := by
  unfold receiveFrame
  split
  · exact .refl s
  · rename_i p k place
    have hk := State.placeOf_lt place
    split_ifs
    · exact .refl s
    · exact .refl s
    · exact (paused_receivePause hk ..).clockKept
    · exact (paused_receivePause hk ..).clockKept
    · exact clockKept_intakeFrame ..

theorem clockKept_emit (s : State) (o : Output) : ClockKept s (s.emit o) := ⟨rfl, fun _ _ => rfl⟩

theorem clockKept_stampTx (p L tag : Nat) (s : State) : ClockKept s (stampTx p L tag s) := by
  unfold stampTx
  extract_lets f t w
  split
  · exact clockKept_setReg (by rw [Addr.TS_LOST]; omega) _ _
  · exact (committed_commitPacket ..).clockKept

theorem clockKept_macSend (p k L : Nat) (bytes : Bytes) (tag : Option Nat) (s : State) : ClockKept s (macSend p k L bytes tag s) := by
  have counted : ClockKept s ((s.bump64 (Addr.TX_FRAMES p k)).bump64 (Addr.TX_BYTES p k) (bytes.length + 4)) :=
    (clockKept_setReg (a := Addr.TX_FRAMES p k) (by rw [Addr.TX_FRAMES]; omega) _ _).trans
      (clockKept_setReg (a := Addr.TX_BYTES p k) (by rw [Addr.TX_BYTES]; omega) _ _)
  unfold macSend
  extract_lets s1 s3
  have stamped : ClockKept s s3 := by
    unfold s3
    cases tag with
    | none => exact counted
    | some g => exact counted.trans (clockKept_stampTx ..)
  split_ifs
  · exact stamped.trans (clockKept_receiveFrame ..)
  · exact stamped.trans (clockKept_emit ..)
  · exact stamped

theorem clockKept_sendClockMessage (s : State) : ClockKept s (sendClockMessage s) := by
  unfold sendClockMessage
  split
  · exact clockKept_emit ..
  · split
    · exact .refl s
    · split
      · exact .refl s
      · extract_lets c tag m
        have drawn : ClockKept s m.2 := ⟨rfl, fun _ _ => rfl⟩
        exact drawn.trans (clockKept_macSend ..)

/-! The servo (R55) -/

section
variable {s : State} {off : Int}

theorem Told.clockReg {s t : State} (h : Told s t) {a : Nat} (control : a = Addr.TIME_CTRL ∨ a = Addr.TIME_FREQ_ADJ) : t.reg a = s.reg a := by
  obtain rfl | rfl := control
  · exact h.reg _ (untoldReg_of (by decide) (by decide) (by decide))
  · exact h.reg _ (untoldReg_of (by decide) (by decide) (by decide))

/-- The time base by its correction: an offset of more than 1 ms is stepped where STEP_EN is 1, and any other is slewed. -/
structure Corrected (off : Int) (step : Bool) (s t : State) : Prop where
  slewed : off.natAbs ≤ 1000000 ∨ step = false → t.time.slew = off * 1000000000000 ∧ t.time.tod = s.time.tod
  stepped : 1000000 < off.natAbs → step = true → t.time.slew = 0 ∧ t.time.tod = s.time.tod + off * 1000000000000
  pps : t.time.lastPps = s.time.lastPps ∧ t.time.ppsCount = s.time.ppsCount
  control : ∀ a, a = Addr.TIME_CTRL ∨ a = Addr.TIME_FREQ_ADJ → t.reg a = s.reg a

/-- The time base as a step leaves it, before its event. -/
def stepped (dns : Int) (s : State) : State :=
  { s with time.slew := 0, time.tod := s.time.tod + dns * 1000000000000, time.fill := s.time.fill + max 0 (dns * 1000000000000) }

theorem told_stepTime (dns : Int) (s : State) : Told (stepped dns s) (stepTime dns { s with time.slew := 0 }) := told_raiseEvent ..

theorem corrected_correctTime (off : Int) (s : State) : Corrected off (s.flag Addr.TIME_CTRL 3) s (correctTime off s) := by
  unfold correctTime
  split
  · rename_i large
    obtain ⟨far, enabled⟩ := large
    have told := told_stepTime off s
    have time := told.time
    refine ⟨fun near => ?_, fun _ _ => ⟨?_, ?_⟩, ⟨?_, ?_⟩, fun a control => told.clockReg control⟩
    · obtain near | disabled := near
      · omega
      · rw [disabled] at enabled
        contradiction
    all_goals
      rw [time]
      rfl
  · rename_i small
    refine ⟨fun _ => ⟨rfl, rfl⟩, fun far enabled => absurd ⟨far, enabled⟩ small, ⟨rfl, rfl⟩, fun _ _ => rfl⟩

theorem servoState_kept (off : Int) (s : State) : (servoState off s).time.tod = s.time.tod ∧ (servoState off s).time.lastPps = s.time.lastPps ∧
    (servoState off s).time.ppsCount = s.time.ppsCount ∧ (servoState off s).flag Addr.TIME_CTRL 3 = s.flag Addr.TIME_CTRL 3 ∧
    (servoState off s).reg Addr.TIME_FREQ_ADJ = s.reg Addr.TIME_FREQ_ADJ := by
  refine ⟨rfl, rfl, rfl, ?_, ?_⟩
  · exact State.flag_setField_apart s (.inl (by decide)) (by decide) _
  · exact State.reg_setField_other s (by decide) 4 3 _
end

/-- What the servo leaves to be corrected: the time base of `s` with its new frequency correction. -/
def servoBase (t : Nat) (f : Int) (s : State) : State :=
  (if s.timeSource = 1 then sendClockMessage (advance t s) else advance t s).setReg Addr.TIME_FREQ_ADJ (unsigned 32 f)

theorem exec_timeServoUpdate {s : State} (source : s.timeSource ≠ 0) (runs : s.limik = true) (t : Nat) (off ppb : Int) :
    exec (.timeServoUpdate t off ppb) s = .next (correctTime off (servoState off (servoBase t (max (-500000) (min 500000 ppb)) s))) := by
  rw [exec, execTimeServoUpdate, if_neg (by simp [source, runs])]
  rfl

theorem servoBase_kept (t : Nat) (f : Int) (s : State) : (servoBase t f s).time = (advance t s).time ∧
    (servoBase t f s).flag Addr.TIME_CTRL 3 = s.flag Addr.TIME_CTRL 3 ∧ (servoBase t f s).reg Addr.TIME_FREQ_ADJ = unsigned 32 f % 2 ^ 64 := by
  have kept : ClockKept (advance t s) (if s.timeSource = 1 then sendClockMessage (advance t s) else advance t s) := by
    split
    · exact clockKept_sendClockMessage ..
    · exact .refl _
  unfold servoBase
  refine ⟨kept.time, State.flag_congr ?_ 3, State.reg_setReg_same ..⟩
  rw [State.reg_setReg_other (by decide), kept.reg _ (by decide), s.advance_reg]

theorem unsigned_lt (w : Nat) (i : Int) : unsigned w i < 2 ^ w := by
  unfold unsigned
  have low := Int.emod_nonneg i (by positivity : ((2 ^ w : Nat) : Int) ≠ 0)
  have high := Int.emod_lt_of_pos i (by positivity : (0 : Int) < ((2 ^ w : Nat) : Int))
  omega

/-! The source lost, and its pulses (R55, R498) -/

theorem holdover_kept (s : State) : (holdover s).timeState = 3 ∧ (holdover s).reg Addr.TIME_FREQ_ADJ = s.reg Addr.TIME_FREQ_ADJ := by
  have told := told_raiseEvent (s.setField Addr.TIME_CTRL 4 3 3) evTimeHoldover owner [] 0
  constructor
  · refine (State.field_congr (told.clockReg (.inl rfl)) 4 3).trans ?_
    exact State.field_setField s (by decide) 3
  · exact (told.clockReg (.inr rfl)).trans (State.reg_setField_other s (by decide) 4 3 3)

theorem exec_timeSourceLost {s : State} (source : s.timeSource ≠ 0) (holds : s.timeState ≠ 3) (t : Nat) :
    exec (.timeSourceLost t) s = .next (holdover (advance t s)) := by
  rw [exec, execTimeSourceLost, if_neg (by simp [source, holds])]

/-- A pulse of PTP_1PPS_IN, time-stamped and counted (R498). -/
def pulsed (t : Nat) (s : State) : State := { advance t s with time.lastPps := some t, time.ppsCount := s.time.ppsCount + 1 }

/-- Whether a pulse comes one second ± 100 µs after the last. -/
def ppsFits (t : Nat) (s : State) : Bool :=
  match s.time.lastPps with
  | some p => decide (secs 1 ≤ t - p + us 100 ∧ t - p ≤ secs 1 + us 100)
  | none => false

theorem exec_ppsInEdge {s : State} (on : s.on = true) {width : Nat} (long : 100 ≤ width) (t : Nat) : exec (.ppsInEdge t width) s = .next
    (if ppsFits t s && s.timeSource == 2 then correctTime (ppsOffset (pulsed t s)) (servoState (ppsOffset (pulsed t s)) (pulsed t s))
    else pulsed t s) := by
  rw [exec, execPpsInEdge, if_neg (by simp [on]; omega)]
  rfl

/-- A pulse corrected, or not, keeps its time stamp and its count; one that fits and is near slews its offset. -/
theorem pulsed_corrected (t : Nat) (s : State) (off : Int) :
    (correctTime off (servoState off (pulsed t s))).time.lastPps = some t ∧
      (correctTime off (servoState off (pulsed t s))).time.ppsCount = s.time.ppsCount + 1 ∧
      (off.natAbs ≤ 1000000 → (correctTime off (servoState off (pulsed t s))).time.slew = off * 1000000000000) := by
  have corrected := corrected_correctTime off (servoState off (pulsed t s))
  exact ⟨corrected.pps.1, corrected.pps.2, fun near => (corrected.slewed (.inl near)).1⟩

/-- Settles O17: the servo's message and correction, the source lost, and the pulses in and out. -/
theorem timeBaseFollowsItsSource : Obligations.TimeBaseFollowsItsSource := by
  unfold Obligations.TimeBaseFollowsItsSource
  refine fun t s => ⟨fun off ppb source runs => ?_, fun source holds => ?_, fun width on long => ?_, fun enabled whole => ?_⟩
  · have corrected := corrected_correctTime off (servoState off (servoBase t (max (-500000) (min 500000 ppb)) s))
    obtain ⟨tod, _, _, step, freq⟩ := servoState_kept off (servoBase t (max (-500000) (min 500000 ppb)) s)
    obtain ⟨time, control, value⟩ := servoBase_kept t (max (-500000) (min 500000 ppb)) s
    have small := unsigned_lt 32 (max (-500000) (min 500000 ppb))
    rw [step, control] at corrected
    refine ⟨_, exec_timeServoUpdate source runs t off ppb, ?_, fun near => ?_, fun far enabled => ?_⟩
    · rw [corrected.control _ (.inr rfl), freq, value, Nat.mod_eq_of_lt (by omega)]
    · rw [← time, ← tod]
      exact corrected.slewed near
    · rw [← time, ← tod]
      exact corrected.stepped far enabled
  · obtain ⟨state, freq⟩ := holdover_kept (advance t s)
    exact ⟨_, exec_timeSourceLost source holds t, state, freq.trans (s.advance_reg t _)⟩
  · have offset : ppsOffset (pulsed t s) = ppsOffset (advance t s) := rfl
    refine ⟨_, exec_ppsInEdge on long t, ?_⟩
    rw [offset]
    obtain ⟨stamp, count, slews⟩ := pulsed_corrected t s (ppsOffset (advance t s))
    split
    · exact ⟨stamp, count, fun _ _ _ _ _ => slews⟩
    · rename_i unfit
      refine ⟨rfl, rfl, fun q last source early late _ => absurd ?_ unfit⟩
      simp [ppsFits, last, source, early, late]
  · refine ⟨(advance t s).emit (.pps 100000), ?_, rfl, rfl⟩
    rw [exec, execPpsOutPulse, if_pos ⟨enabled, whole⟩]
end Sys2Proof.Machine

/-!
PROOFS. A statement about the traffic manager that a packet of an intake port beyond the manual's breaks: the flow control of that port counts its
frames in a register of a queue.
-/
namespace Sys2Proof.Machine

/-- A packet at step 10 for queue 70 of port 0, of an intake port 964 that no device has. -/
def farPacket : Pkt :=
  { id := 1, desc := { sec := 0, ns := 0, zc := 0, length := 0, lport := 964, tenant := 0, prio := 0, ptp := false }, bytes := [], at_ := .admission, reserved := 1, result := { egress := some (false, 0) } }

/-- A device whose queue 70 holds no page, and in which an XOFF of priority 6 of port 964 is outstanding: SUB_CTRL, PORT_STATUS and PORT_CTRL of port
241 lie among the registers of the queues, and its PFC_TX is TAIL_DROP of queue 70. -/
def farPaused : State :=
  { (([(Addr.PQ_CFG 0, 70 + 2 ^ 10), (Addr.Q_CFG 70, 2 ^ 6), (Addr.TPORTS 0, 1), (Addr.TCLASSES 0, 1), (Addr.PORT_CLASSES 0, 1),
      (Addr.PORT_CTRL 241, 1), (Addr.PORT_STATUS 241, 256), (Addr.SUB_CTRL 241 0, 2 + 2 ^ 14), (Addr.XON_THRESH 241 0, 100)] : List (Nat × Nat)).foldl
      (fun (s : State) r => s.setReg r.1 r.2) State.reset) with
    ports.packets := [farPacket], ports.xoff := [(fcKey 964 6, 1)] }

/-- Refutes O41: a packet dropped at the tail of queue 70 is counted twice there, since the pause frame that its pages' return sends is counted
in the same register. -/
theorem not_framesAreQueuedAndSent : ¬ Obligations.FramesAreQueuedAndSent := by
  unfold Obligations.FramesAreQueuedAndSent
  intro h
  obtain ⟨u, step, _, _, _, _, dropped⟩ := h.1 0 1 0 70 farPacket farPaused (by decide +kernel) (by decide +kernel) rfl rfl rfl (by decide +kernel)
    (by decide +kernel)
  have count := (dropped rfl (by decide +kernel)).2
  rw [eq_nextOf step] at count
  exact absurd count (by decide +kernel)
end Sys2Proof.Machine

/-!
PROOFS. Step 9 of a packet and the fragments that wait for another's result (R127, R133 to R136).
-/
namespace Sys2Proof.Machine

/-! A packet at step 9 (R127) -/

section
variable {q : Pkt} {s : State} {id : Nat}

/-- Resolving a packet's egress group leaves the packet but its egress. -/
theorem resolveGroup_id (s : State) (q : Pkt) : (resolveGroup s q).id = q.id := by
  unfold resolveGroup
  split <;> rfl

theorem resolveGroup_bus (s : State) (q : Pkt) : (resolveGroup s q).bus = q.bus := by
  unfold resolveGroup
  split <;> rfl

theorem resolveGroup_lport (s : State) (q : Pkt) : (resolveGroup s q).desc = q.desc := by
  unfold resolveGroup
  split <;> rfl

theorem resolveGroup_frag (s : State) (q : Pkt) : (resolveGroup s q).frag = q.frag := by
  rw [Pkt.frag, resolveGroup_bus, Pkt.frag]

/-- The state in which step 9 meets a packet that sets no label: its label is none, as it was. -/
def unlabelled (q : Pkt) (s : State) : State := s.updPacket q.id (fun q => { q with result := { q.result with label := none } })

theorem packet_unlabelled (found : s.packet id = some q) (plain : q.result.label = none) : (unlabelled q s).packet id = some q := by
  obtain rfl := State.packet_id found
  have same : ({ q with result := { q.result with label := none } } : Pkt) = q := by rw [← plain]
  have now := State.packet_updPacket_same found (f := fun q => { q with result := { q.result with label := none } }) fun _ named => named
  rwa [same] at now

theorem packet_unlabelled_other {i : Nat} (other : i ≠ q.id) : (unlabelled q s).packet i = s.packet i :=
  State.packet_updPacket_other (f := fun q => { q with result := { q.result with label := none } }) (fun _ named => named) other s

/-- The suppressed checksums of an edited frame are counted. -/
def countSuppressed (stages : List Nat) (s : State) : State := stages.foldl (fun s n => s.bump32 (Addr.OPS_SUPPRESSED n)) s

theorem regsOnly_countSuppressed (stages : List Nat) (s : State) : RegsOnly s (countSuppressed stages s) := by
  unfold countSuppressed
  induction stages generalizing s with
  | nil => exact .refl s
  | cons n stages ih => exact (regsOnly_setReg s _ _).trans (ih _)

/-- Step 9 of a packet that sets no label and is no first fragment. -/
theorem resolvePacket_eq (plain : q.result.label = none) (first : q.frag ≠ 1) (s : State) : resolvePacket q s =
    if q.viaDefault then (unlabelled q s).updPacket q.id (fun q => { q with at_ := .admission, since := s.zc }) else
    let g := resolveGroup s q
    let r := editFrame s g
    let counted := countSuppressed r.2.2 (unlabelled q s)
    match (match exceptionReason g with
      | some e => some e
      | none => if g.result.drop then none else r.2.1) with
    | some e => toException g e (if (exceptionReason g).isSome then unlabelled q s else counted)
    | none => counted.updPacket g.id (fun _ => { g with bytes := r.1, at_ := .admission, since := s.zc }) := by
  have later (u : State) : (resolveGroup u q).frag ≠ 1 := by rwa [resolveGroup_frag]
  unfold resolvePacket
  rw [plain]
  dsimp only
  split
  · rfl
  · rw [if_neg (later _)]
    rfl


/-! The exception path (R135) -/

/-- EXC_ADMITTED is neither a register of events nor of pauses. -/
theorem untoldReg_excAdmitted : UntoldReg Addr.EXC_ADMITTED := untoldReg_of (by decide) (by decide) (by decide)

theorem not_pauseReg_excAdmitted : ¬ PauseReg Addr.EXC_ADMITTED := by
  rintro ⟨p, k, j, hk, hj, same⟩
  simp only [Addr.EXC_ADMITTED, Addr.PFC_RX, Addr.PFC_TX] at same
  omega

/-- What an admitted packet leaves (R135, R357): its event, and its pages. -/
theorem admitException_running (running : s.stage ≠ 2) (q : Pkt) (reason : Nat) :
    admitException q reason s = freePacket q.id (deliver (exceptionEvent s q reason) s) := if_neg running

theorem admitException_effect {reason : Nat} (running : s.stage ≠ 2) :
    (admitException q reason s).packet q.id = none ∧
      (admitException q reason s).reg Addr.EXC_ADMITTED = s.reg Addr.EXC_ADMITTED ∧ (admitException q reason s).mem = s.mem := by
  have told := told_deliver (exceptionEvent s q reason) s
  have freed := freed_freePacket q.id (deliver (exceptionEvent s q reason) s)
  rw [admitException_running running]
  exact ⟨packet_freePacket_same _ _, (freed.reg _ not_pauseReg_excAdmitted (by decide)).trans (told.reg _ untoldReg_excAdmitted),
    freed.mem.trans told.mem⟩

/-- `s` with other exception buckets. -/
def withBuckets (b : Tab (Nat × Nat)) (s : State) : State := { s with mt.bucket := b }

theorem reg_withBuckets (b : Tab (Nat × Nat)) (s : State) (a : Nat) : (withBuckets b s).reg a = s.reg a := State.reg_of_regs rfl a
theorem mem_withBuckets (b : Tab (Nat × Nat)) (s : State) : (withBuckets b s).mem = s.mem := rfl

/-- A packet counted into its bucket. -/
def bucketed (L : Nat) (s : State) : State :=
  withBuckets (tabSet (0, 0) L ((tabGet (0, 0) L s.mt.bucket).1 + exceptionUnit, s.now) s.mt.bucket) s

theorem reg_refillException (L : Nat) (s : State) (a : Nat) : (refillException L s).reg a = s.reg a := reg_withBuckets _ s a
theorem mem_refillException (L : Nat) (s : State) : (refillException L s).mem = s.mem := mem_withBuckets _ s
theorem reg_bucketed (L : Nat) (s : State) (a : Nat) : (bucketed L s).reg a = s.reg a := reg_withBuckets _ s a
theorem mem_bucketed (L : Nat) (s : State) : (bucketed L s).mem = s.mem := mem_withBuckets _ s

theorem toException_roomy {reason : Nat} (running : (refillException q.desc.lport s).stage ≠ 2)
    (room : (tabGet (0, 0) q.desc.lport (refillException q.desc.lport s).mt.bucket).1 + exceptionUnit ≤
      (refillException q.desc.lport s).reg Addr.EXC_BURST * exceptionUnit) :
    toException q reason s = admitException q reason ((bucketed q.desc.lport (refillException q.desc.lport s)).bump64 Addr.EXC_ADMITTED) := by
  unfold toException
  exact if_pos ⟨.inl running, room⟩

theorem toException_admitted {reason : Nat} (running : s.stage ≠ 2)
    (room : (tabGet (0, 0) q.desc.lport (refillException q.desc.lport s).mt.bucket).1 + exceptionUnit ≤ s.reg Addr.EXC_BURST * exceptionUnit) :
    (toException q reason s).packet q.id = none ∧
      (toException q reason s).reg Addr.EXC_ADMITTED = (s.reg Addr.EXC_ADMITTED + 1) % 2 ^ 64 ∧ (toException q reason s).mem = s.mem := by
  have same : (refillException q.desc.lport s).stage = s.stage := State.field_congr (reg_refillException _ _ _) 0 3
  rw [toException_roomy (same ▸ running) (by rwa [reg_refillException])]
  have stage : ((bucketed q.desc.lport (refillException q.desc.lport s)).bump64 Addr.EXC_ADMITTED).stage = s.stage :=
    State.field_congr ((State.reg_bump64_other _ (by decide) 1).trans ((reg_bucketed _ _ _).trans (reg_refillException _ _ _))) 0 3
  obtain ⟨gone, kept, mem⟩ := admitException_effect (q := q) (reason := reason) (stage ▸ running)
  refine ⟨gone, ?_, ?_⟩
  · rw [kept, State.reg_bump64, reg_bucketed, reg_refillException]
  · have bumped (u : State) (a : Nat) : (u.bump64 a).mem = u.mem := rfl
    rw [mem, bumped, mem_bucketed, mem_refillException]


/-! ACTION_RESOLVE (R127) -/

theorem exec_actionResolve (found : s.packet id = some q) (at_ : q.at_ = .resolve) (t : Nat) :
    exec (.actionResolve t id) s = .next (resolvePacket q (advance t s)) := by
  change Host.Outcome.next _ = _
  rw [found]
  exact congrArg _ (if_pos at_)

theorem actionResolve_viaDefault (found : s.packet id = some q) (at_ : q.at_ = .resolve) (plain : q.result.label = none) (first : q.frag ≠ 1)
    (default : q.viaDefault = true) (t : Nat) :
    ∃ u, exec (.actionResolve t id) s = .next u ∧ u.packet id = some { q with at_ := .admission, since := s.zc } ∧
      (∀ i, i ≠ id → u.packet i = s.packet i) ∧ u.regs = s.regs ∧ u.mem = s.mem := by
  obtain rfl := State.packet_id found
  have now : (advance t s).packet q.id = some q := found
  refine ⟨_, (exec_actionResolve found at_ t).trans (congrArg _ ((resolvePacket_eq plain first _).trans (if_pos default))), ?_, fun i other => ?_,
    rfl, rfl⟩
  · exact State.packet_updPacket_same (packet_unlabelled now plain) (f := fun q => { q with at_ := .admission, since := (advance t s).zc })
      fun _ named => named
  · exact (State.packet_updPacket_other (f := fun q => { q with at_ := .admission, since := (advance t s).zc }) (fun _ named => named) other _).trans
      (packet_unlabelled_other other)

/-- A packet that step 9 has edited goes to step 10. -/
def editedBy (s : State) (q : Pkt) : Pkt :=
  { resolveGroup s q with bytes := (editFrame s (resolveGroup s q)).1, at_ := .admission, since := s.zc }

theorem resolvePacket_edited (plain : q.result.label = none) (first : q.frag ≠ 1) (default : q.viaDefault = false)
    (free : exceptionReason (resolveGroup s q) = none) (good : (editFrame s (resolveGroup s q)).2.1 = none) :
    resolvePacket q s = (countSuppressed (editFrame s (resolveGroup s q)).2.2 (unlabelled q s)).updPacket q.id (fun _ => editedBy s q) := by
  rw [resolvePacket_eq plain first, if_neg (by rw [default]; decide)]
  dsimp only
  rw [free]
  dsimp only
  rw [good, ite_self, ← resolveGroup_id s q]
  rfl

theorem actionResolve_edited (found : s.packet id = some q) (at_ : q.at_ = .resolve) (plain : q.result.label = none) (first : q.frag ≠ 1) (t : Nat)
    (default : q.viaDefault = false) (free : exceptionReason (resolveGroup (advance t s) q) = none)
    (good : (editFrame (advance t s) (resolveGroup (advance t s) q)).2.1 = none) :
    ∃ u, exec (.actionResolve t id) s = .next u ∧ u.packet id = some (editedBy (advance t s) q) ∧
      (∀ i, i ≠ id → u.packet i = s.packet i) ∧ u.mem = s.mem := by
  obtain rfl := State.packet_id found
  have counted := regsOnly_countSuppressed (editFrame (advance t s) (resolveGroup (advance t s) q)).2.2 (unlabelled q (advance t s))
  have named (p : Pkt) (_ : p.id = q.id) : (editedBy (advance t s) q).id = q.id := resolveGroup_id _ q
  refine ⟨_, (exec_actionResolve found at_ t).trans (congrArg _ (resolvePacket_edited plain first default free good)), ?_, fun i other => ?_, ?_⟩
  · refine State.packet_updPacket_same (q := q) ?_ (f := fun _ => editedBy (advance t s) q) named
    rw [counted]
    exact packet_unlabelled found plain
  · rw [State.packet_updPacket_other (f := fun _ => editedBy (advance t s) q) named other, counted]
    exact packet_unlabelled_other other
  · rw [State.mem_updPacket, counted]
    rfl

theorem actionResolve_exception (found : s.packet id = some q) (at_ : q.at_ = .resolve) (plain : q.result.label = none) (first : q.frag ≠ 1) (t : Nat)
    {e : Nat} (default : q.viaDefault = false) (reason : exceptionReason (resolveGroup (advance t s) q) = some e) (running : s.stage ≠ 2)
    (room : (tabGet (0, 0) q.desc.lport (refillException q.desc.lport (advance t s)).mt.bucket).1 + exceptionUnit ≤
      s.reg Addr.EXC_BURST * exceptionUnit) :
    ∃ u, exec (.actionResolve t id) s = .next u ∧ u.packet id = none ∧
      u.reg Addr.EXC_ADMITTED = (s.reg Addr.EXC_ADMITTED + 1) % 2 ^ 64 ∧ u.mem = s.mem := by
  obtain rfl := State.packet_id found
  have sent := resolvePacket_eq plain first (advance t s)
  rw [if_neg (by rw [default]; decide)] at sent
  dsimp only at sent
  rw [reason] at sent
  have stage : (unlabelled q (advance t s)).stage = s.stage := State.field_congr (s.advance_reg t _) 0 3
  have burst : (unlabelled q (advance t s)).reg Addr.EXC_BURST = s.reg Addr.EXC_BURST := s.advance_reg t _
  obtain ⟨gone, count, mem⟩ := toException_admitted (q := resolveGroup (advance t s) q) (s := unlabelled q (advance t s)) (reason := e)
      (stage ▸ running)
    (by rw [resolveGroup_lport, burst]; exact room)
  rw [resolveGroup_id] at gone
  exact ⟨_, (exec_actionResolve found at_ t).trans (congrArg _ sent), gone, count.trans (congrArg (fun v =>
      (v + 1) % 2 ^ 64) (s.advance_reg t _)), mem⟩


/-! Later fragments (R133, R134) -/

theorem exec_fragLookup (found : s.packet id = some q) (next : takesNew s q = true) (later : q.frag = 2) (t : Nat) (chk : FifoRead) :
    exec (.fragLookup t ⟨id, chk⟩) s = .next (if chk.bad then takeChecked q chk (advance t s) else
      let s1 := ((takeChecked q chk (advance t s)).bump64 (Addr.FIRST_LOOKUPS 0)).updPacket id
        (fun q => { q with tenant := q.desc.tenant, preStamp := false, at_ := .fragment })
      match s1.mt.frags.find? (fun (f : FragRecord) => f.key == fragKey q && decide (s1.now < f.used + us (s1.reg Addr.FRAG_LIFE))) with
      | some r => takeRecord r id s1
      | none =>
        if 4096 ≤ s1.mt.fragWait.length then takePortDefault id (s1.bump32 Addr.FRAG_TIMEOUTS)
        else { s1.updPacket id (fun q => { q with at_ := .fragWait, since := s1.now }) with mt.fragWait := s1.mt.fragWait ++ [id] }) := by
  change Host.Outcome.next _ = _
  rw [found]
  exact congrArg _ (if_pos ⟨next, later⟩)

theorem fragLookup_bad (found : s.packet id = some q) (next : takesNew s q = true) (later : q.frag = 2) (t : Nat) {chk : FifoRead}
    (bad : chk.bad = true) : ∃ u, exec (.fragLookup t ⟨id, chk⟩) s = .next u ∧ u.packet id = none ∧ u.mem = s.mem := by
  obtain rfl := State.packet_id found
  have lost : takeChecked q chk (advance t s) = freePacket q.id (noteRead (0x80 + q.core) chk (takeFromCore q (advance t s))) := if_pos bad
  refine ⟨_, (exec_fragLookup found next later t chk).trans (congrArg _ ((if_pos bad).trans lost)), packet_freePacket_same _ _, ?_⟩
  rw [(freed_freePacket _ _).mem, noteRead, if_pos bad]
  exact (coalesced_noteUncorr _ _ _).mem

/-- A later fragment once stage 0 has taken it. -/
def Pkt.taken (q : Pkt) : Pkt := { q with tenant := q.desc.tenant, preStamp := false, at_ := .fragment }

/-- `u` is `s` with packet `id`, a later fragment, taken by stage 0. -/
structure FragmentTaken (id : Nat) (q : Pkt) (t : Nat) (s u : State) : Prop where
  packet : u.packet id = some q.taken
  frags : u.mt.frags = s.mt.frags
  waiting : u.mt.fragWait = s.mt.fragWait
  now : u.now = max s.now t
  life : u.reg Addr.FRAG_LIFE = s.reg Addr.FRAG_LIFE
  hits : u.reg Addr.FRAG_HITS = s.reg Addr.FRAG_HITS
  mem : u.mem = s.mem

theorem fragmentTaken (found : s.packet id = some q) (t : Nat) {chk : FifoRead} (good : chk.bad = false) :
    FragmentTaken id q t s (((takeChecked q chk (advance t s)).bump64 (Addr.FIRST_LOOKUPS 0)).updPacket id Pkt.taken) := by
  have taken : takeChecked q chk (advance t s) = (takeFromCore q (advance t s)).bump32 (Addr.CORR_COUNT (0x80 + q.core)) chk.corrected := by
    rw [takeChecked, noteRead, good]
    rfl
  have reg {a : Nat} (corr : a % 256 ≠ 0x18) (lookups : a ≠ Addr.FIRST_LOOKUPS 0) :
      (((takeChecked q chk (advance t s)).bump64 (Addr.FIRST_LOOKUPS 0)).updPacket id Pkt.taken).reg a = s.reg a := by
    rw [State.reg_updPacket, State.reg_bump64_other _ lookups, taken, State.reg_bump32_other]
    · exact (State.reg_of_regs rfl a).trans (s.advance_reg t a)
    · simp only [Addr.CORR_COUNT]
      omega
  refine ⟨State.packet_updPacket_same (f := Pkt.taken) ?_ fun _ named =>
      named, ?_, ?_, ?_, reg (by decide) (by decide), reg (by decide) (by decide), ?_⟩
  all_goals rw [taken]
  · exact found
  all_goals rfl

section
variable {t : Nat} {chk : FifoRead}

/-- Whether a fragment record is one that a later fragment takes: of its key, and live. -/
def liveRecord (t : Nat) (q : Pkt) (s : State) (f : FragRecord) : Bool :=
  f.key == fragKey q && decide (max s.now t < f.used + us (s.reg Addr.FRAG_LIFE))

theorem exec_fragLookup_good (found : s.packet id = some q) (next : takesNew s q = true) (later : q.frag = 2) (good : chk.bad = false) :
    ∃ s1, FragmentTaken id q t s s1 ∧ exec (.fragLookup t ⟨id, chk⟩) s = .next (
      match s.mt.frags.find? (liveRecord t q s) with
      | some r => takeRecord r id s1
      | none =>
        if 4096 ≤ s1.mt.fragWait.length then takePortDefault id (s1.bump32 Addr.FRAG_TIMEOUTS)
        else { s1.updPacket id (fun q => { q with at_ := .fragWait, since := s1.now }) with mt.fragWait := s1.mt.fragWait ++ [id] }) := by
  have taken := fragmentTaken found t good
  refine ⟨_, taken, (exec_fragLookup found next later t chk).trans (congrArg _ ((if_neg (by rw [good]; decide)).trans ?_))⟩
  have live : (fun (f : FragRecord) => f.key == fragKey q && decide ((((takeChecked q chk (advance t s)).bump64 (Addr.FIRST_LOOKUPS 0)).updPacket id
      Pkt.taken).now < f.used + us ((((takeChecked q chk (advance t s)).bump64 (Addr.FIRST_LOOKUPS 0)).updPacket id Pkt.taken).reg Addr.FRAG_LIFE))) =
      liveRecord t q s := by
    rw [taken.now, taken.life]
    rfl
  rw [← live, ← taken.frags]
  rfl

theorem fragLookup_hit (found : s.packet id = some q) (next : takesNew s q = true) (later : q.frag = 2) (good : chk.bad = false) {r : FragRecord}
    (hit : s.mt.frags.find? (liveRecord t q s) = some r) :
    ∃ u, exec (.fragLookup t ⟨id, chk⟩) s = .next u ∧
      u.packet id = some { q with tenant := r.tenant, result := r.result, hit := true, partialOk := true, preStamp := false, at_ := .resolve } ∧
      u.reg Addr.FRAG_HITS = (s.reg Addr.FRAG_HITS + 1) % 2 ^ 32 ∧ u.mem = s.mem := by
  obtain ⟨s1, taken, run⟩ := exec_fragLookup_good (t := t) found next later good
  rw [hit] at run
  refine ⟨_, run, ?_, ?_, taken.mem⟩
  · exact State.packet_updPacket_same (q := q.taken) taken.packet
      (f := fun q => { q with tenant := r.tenant, result := r.result, hit := true, partialOk := true, at_ := .resolve }) fun _ named => named
  · refine (State.reg_updPacket _ _ _ _).trans ((State.reg_bump32 _ _ _).trans ?_)
    exact congrArg (fun v => (v + 1) % 2 ^ 32) taken.hits

theorem fragLookup_waits (found : s.packet id = some q) (next : takesNew s q = true) (later : q.frag = 2) (good : chk.bad = false)
    (miss : s.mt.frags.find? (liveRecord t q s) = none) (room : s.mt.fragWait.length < 4096) :
    ∃ u, exec (.fragLookup t ⟨id, chk⟩) s = .next u ∧
      u.packet id = some { q with tenant := q.desc.tenant, preStamp := false, at_ := .fragWait, since := max s.now t } ∧
      u.mt.fragWait = s.mt.fragWait ++ [id] ∧ u.mem = s.mem := by
  obtain ⟨s1, taken, run⟩ := exec_fragLookup_good (t := t) found next later good
  rw [miss] at run
  dsimp only at run
  rw [taken.waiting, if_neg (by omega), taken.now] at run
  refine ⟨_, run, ?_, rfl, taken.mem⟩
  exact State.packet_updPacket_same (q := q.taken) taken.packet (f := fun q => { q with at_ := .fragWait, since := max s.now t }) fun _ named => named

/-! The waits and lives of fragments -/

theorem reg_checkRetire {a : Nat} (epoch : a ≠ Addr.EPOCH_STATUS) (s : State) : (checkRetire s).reg a = s.reg a := by
  unfold checkRetire
  split
  · exact State.reg_setFlag_other _ epoch _ _
  · rfl

theorem mem_retirePacket (id : Nat) (s : State) : (retirePacket id s).mem = s.mem := (freed_checkRetire _).mem

theorem fragWait_retirePacket (id : Nat) (s : State) : (retirePacket id s).mt.fragWait = s.mt.fragWait := by
  rw [retirePacket, (freed_checkRetire _).only]
  rfl

theorem reg_retirePacket {a : Nat} (epoch : a ≠ Addr.EPOCH_STATUS) (id : Nat) (s : State) : (retirePacket id s).reg a = s.reg a :=
  (reg_checkRetire epoch _).trans (State.reg_updPacket _ _ _ _)

theorem takePortDefault_frame (id : Nat) (s : State) :
    (∀ a, a ≠ Addr.EPOCH_STATUS → (takePortDefault id s).reg a = s.reg a) ∧ (takePortDefault id s).mt.fragWait = s.mt.fragWait ∧
      (takePortDefault id s).mem = s.mem := by
  unfold takePortDefault
  split
  · exact ⟨fun _ _ => rfl, rfl, rfl⟩
  · exact ⟨fun a epoch => (reg_retirePacket epoch _ _).trans (State.reg_updPacket _ _ _ _), fragWait_retirePacket _ _, mem_retirePacket _ _⟩

theorem fragWaitTimeout_counts (found : s.packet id = some q) (waits : q.at_ = .fragWait) (expired : q.since + us (s.reg Addr.FRAG_WAIT) ≤ t) :
    ∃ u, exec (.fragWaitTimeout t id) s = .next u ∧ u.reg Addr.FRAG_TIMEOUTS = (s.reg Addr.FRAG_TIMEOUTS + 1) % 2 ^ 32 ∧
      id ∉ u.mt.fragWait ∧ sameRegsBut [Addr.FRAG_TIMEOUTS, Addr.EPOCH_STATUS] s u ∧ u.mem = s.mem := by
  have run : exec (.fragWaitTimeout t id) s = .next (takePortDefault id (State.bump32 { advance t s with
      mt.fragWait := (advance t s).mt.fragWait.filter (· != id) } Addr.FRAG_TIMEOUTS)) := by
    change Host.Outcome.next _ = _
    rw [found]
    exact congrArg _ (if_pos ⟨waits, expired⟩)
  obtain ⟨regs, waiting, mem⟩ := takePortDefault_frame id (State.bump32 { advance t s with
    mt.fragWait := (advance t s).mt.fragWait.filter (· != id) } Addr.FRAG_TIMEOUTS)
  have before (a : Nat) :
      ({ advance t s with mt.fragWait := (advance t s).mt.fragWait.filter (· != id) } : State).reg a = s.reg a := s.advance_reg t a
  refine ⟨_, run, ?_, ?_, fun a ha => ?_, mem⟩
  · rw [regs _ (by decide), State.reg_bump32, before]
  · rw [waiting]
    change id ∉ (advance t s).mt.fragWait.filter (· != id)
    simp
  · simp only [List.mem_cons, List.not_mem_nil, or_false, not_or] at ha
    rw [regs a ha.2, State.reg_bump32_other _ ha.1, before]

theorem fragRecordExpire_removes {f : FragRecord} (held : f ∈ s.mt.frags) (expired : f.used + us (s.reg Addr.FRAG_LIFE) ≤ t) :
    ∃ u, exec (.fragRecordExpire t f.id) s = .next u ∧ f ∉ u.mt.frags ∧ (∀ g ∈ s.mt.frags, g.id ≠ f.id → g ∈ u.mt.frags) ∧ u.regs = s.regs := by
  have due : s.mt.frags.any (fun (g : FragRecord) => g.id == f.id && decide (g.used + us (s.reg Addr.FRAG_LIFE) ≤ t)) = true :=
    List.any_eq_true.mpr ⟨f, held, by simpa using expired⟩
  refine ⟨_, congrArg Host.Outcome.next (if_pos due), ?_, fun g hg other => ?_, rfl⟩
  · change f ∉ s.mt.frags.filter _
    simp
  · change g ∈ s.mt.frags.filter _
    simp [hg, other]

end

/-- Settles O30: step 9 and the fragments, case by case. -/
theorem packetsAreResolved : Obligations.PacketsAreResolved := by
  intro t id q s
  refine ⟨fun found at_ plain first => ⟨fun default =>
      actionResolve_viaDefault found at_ plain first default t, actionResolve_edited found at_ plain first t,
    fun e default reason running room => actionResolve_exception found at_ plain first t default reason running room⟩,
    fun chk found next later => ⟨fragLookup_bad found next later t, fun r good hit => fragLookup_hit found next later good hit,
      fun good miss room => fragLookup_waits found next later good miss room⟩,
    fragWaitTimeout_counts, fun f held expired => fragRecordExpire_removes held expired⟩

end
end Sys2Proof.Machine

/-!
PROOFS. What send lists, landing zones and the notices of copies change (R218, R317 to R319).
-/
namespace Sys2Proof.Machine

/-! What send lists and landing zones change as they advance (R317 to R319) -/

/-- The register at `a` counts no arrival, holds no count of a copy queue, and is none that packets sent or their trace records change. -/
def UnarrivedReg (a : Nat) : Prop := UntracedReg a ∧ (∀ c j, j < 16 → a ≠ Addr.ARRIVE c j) ∧ ∀ c, a ≠ Addr.COPYQ_STATUS c

/-- `t` is `s` after send lists advanced and landing slots published: packets left, arrivals were counted, and cells resend. -/
structure Advanced (s t : State) : Prop where
  only : t = { s with
    regs := t.regs, out := t.out, sessions := t.sessions, windows := t.windows, cells := t.cells
    mem := { s.mem with bytes := t.mem.bytes, keyOf := t.mem.keyOf }
    fabric := { s.fabric with seq := t.fabric.seq, credit := t.fabric.credit, flits := t.fabric.flits, unacked := t.fabric.unacked, held := t.fabric.held }
    bridge := { s.bridge with ring := t.bridge.ring, prod := t.bridge.prod, msixPending := t.bridge.msixPending }
    obs := { s.obs with trace := t.obs.trace, sends := t.obs.sends, rings := t.obs.rings }
    copies := { s.copies with sends := t.copies.sends, zones := t.copies.zones, readers := t.copies.readers } }
  reg : ∀ a, UnarrivedReg a → t.reg a = s.reg a
  cell : ∀ c, ∃ l, t.cellx c = { s.cellx c with resend := l }
  out : s.out <+: t.out
  quiet : untraced s → t.mem = s.mem ∧ untraced t

theorem Advanced.refl (s : State) : Advanced s s := ⟨rfl, fun _ _ => rfl, fun c => ⟨(s.cellx c).resend, rfl⟩, List.prefix_rfl, fun h => ⟨rfl, h⟩⟩

theorem Advanced.trans {s t u : State} (h : Advanced s t) (h' : Advanced t u) : Advanced s u where
  only := by rw [h'.only, h.only]
  reg a ha := (h'.reg a ha).trans (h.reg a ha)
  cell c := by
    obtain ⟨l, same⟩ := h.cell c
    obtain ⟨l', same'⟩ := h'.cell c
    exact ⟨l', by rw [same', same]⟩
  out := h.out.trans h'.out
  quiet off := by
    obtain ⟨mem, still⟩ := h.quiet off
    obtain ⟨mem', still'⟩ := h'.quiet still
    exact ⟨mem'.trans mem, still'⟩

theorem Advanced.ite {s t u : State} {c : Prop} [Decidable c] (h : Advanced s t) (h' : Advanced s u) : Advanced s (if c then t else u) := by
  split
  · exact h
  · exact h'

theorem Advanced.foldl {α : Type} {f : State → α → State} (hf : ∀ s x, Advanced s (f s x)) : ∀ (l : List α) (s : State), Advanced s (l.foldl f s)
  | [], s => .refl s
  | x :: l, s => (hf s x).trans (Advanced.foldl hf l (f s x))

section
variable {s t : State} (h : Advanced s t)
include h
theorem Advanced.flights : t.copies.flights = s.copies.flights := by rw [h.only]
theorem Advanced.store : t.copies.store = s.copies.store := by rw [h.only]
theorem Advanced.jobs : t.jobs = s.jobs := by rw [h.only]
theorem Advanced.dataKey : t.dataKey = s.dataKey := by rw [h.only]
theorem Advanced.now : t.now = s.now := by rw [h.only]
theorem Advanced.ports : t.ports = s.ports := by rw [h.only]
theorem Advanced.lastFault : t.copies.lastFault = s.copies.lastFault := by rw [h.only]
end

theorem Noted.advanced {s t : State} (h : Noted s t) (quiet : untraced s → t.mem = s.mem ∧ untraced t) : Advanced s t where
  only := by rw [h.only]
  reg a ha := h.reg a ha.1
  cell c := ⟨(s.cellx c).resend, by rw [State.cellx, h.cells]; rfl⟩
  out := h.out
  quiet := quiet

theorem Told.advanced {s t : State} (h : Told s t) : Advanced s t :=
  h.noted.advanced fun off => ⟨h.mem, h.trace off.1, (h.sends off.1).trans off.2⟩

theorem advanced_sendPacket (h : Header) (data : List W256) (s : State) : Advanced s (sendPacket h data s) := by
  have sent := sent_sendRaw h data s
  refine (sent.noted.trans (noted_noteSends _)).advanced fun off => ?_
  rw [noteSends_of_sent off sent]
  exact ⟨sent.told.mem, sent.told.trace off.1, (sent.sends off.1).trans off.2⟩

/-- A register of arrivals or of a copy queue is written. -/
theorem advanced_setReg {a : Nat} (ha : ∀ b, UnarrivedReg b → b ≠ a) (s : State) (v : Nat) : Advanced s (s.setReg a v) :=
  ⟨rfl, fun b hb => State.reg_setReg_other (ha b hb) s v, fun c => ⟨(s.cellx c).resend, rfl⟩, List.prefix_rfl, fun off => ⟨rfl, off⟩⟩

theorem advanced_bumpArrive {j : Nat} (small : j < 16) (c : Nat) (s : State) : Advanced s (bumpArrive c j s) :=
  advanced_setReg (fun _ hb => hb.2.1 c j small) s _

theorem advanced_copies (s : State) (sends : List SendList) (zones : List Zone) (readers : List (Nat × Nat × Nat)) :
    Advanced s { s with copies := { s.copies with sends, zones, readers } } :=
  ⟨rfl, fun _ _ => rfl, fun c => ⟨(s.cellx c).resend, rfl⟩, List.prefix_rfl, fun off => ⟨rfl, off⟩⟩

theorem advanced_updSlot (s : State) (zone slot : Nat) (f : LandSlot → LandSlot) : Advanced s (s.updSlot zone slot f) := advanced_copies s _ _ _

theorem advanced_updSend (s : State) (id : Nat) (f : SendList → SendList) : Advanced s (s.updSend id f) := advanced_copies s _ _ _

theorem advanced_syncQueues (c : Nat) (s : State) : Advanced s (syncQueues c s) :=
  (advanced_setReg (fun _ hb => hb.2.2 c) s _).trans (advanced_setReg (fun _ hb => hb.2.2 c) _ _)

theorem advanced_resend (s : State) (c : Nat) (l : List (Nat × CopyDesc)) :
    Advanced s (s.updCell c (fun x => { x with resend := x.resend ++ l })) := by
  refine ⟨rfl, fun _ _ => rfl, fun d => ?_, List.prefix_rfl, fun off => ⟨rfl, off⟩⟩
  by_cases same : d = c
  · subst same
    exact ⟨_, tabGet_tabSet_same _ _ _ _⟩
  · exact ⟨(s.cellx d).resend, tabGet_tabSet_other same _ _ _ _⟩

theorem advanced_publish (z : Zone) (i : Nat) (s : State) : Advanced s (publish z i s) := by
  have arrived : Advanced s ((z.slot i).notices.foldl (fun s n => bumpArrive z.cell (n % 16) s) s) :=
    Advanced.foldl (fun s n => advanced_bumpArrive (Nat.mod_lt n (by omega)) z.cell s) _ s
  exact arrived.trans (advanced_updSlot _ z.num i (fun e => { e with cur := 1 - e.cur, pending := none, notices := [], confirmed := false }))

theorem advanced_confirmTuple (src job step attempt : Nat) (s : State) : Advanced s (confirmTuple src job step attempt s) :=
  Advanced.foldl (fun s _ => (advanced_updSlot s _ _ _).ite (advanced_publish _ _ s)) _ s

theorem advanced_revokeTuple (src job step attempt : Nat) (s : State) : Advanced s (revokeTuple src job step attempt s) :=
  Advanced.foldl (fun s _ => advanced_updSlot s _ _ _) _ s

theorem advanced_endReads (flight : Nat) (s : State) : Advanced s (endReads flight s) := by
  refine (advanced_copies s _ _ (s.copies.readers.filter (fun r => r.2.2 != flight))).trans (Advanced.foldl (fun s r => ?_) _ _)
  split
  · exact (advanced_publish _ _ s).ite (.refl s)
  · exact .refl s

theorem advanced_sendToken (ty : Nat) (x : SendList) (dev : Nat) (s : State) : Advanced s (sendToken ty x dev s) := advanced_sendPacket _ _ s

theorem advanced_resendList (x : SendList) (s : State) : Advanced s (resendList x s) :=
  (advanced_updSend s _ _).trans ((advanced_resend _ _ _).trans (advanced_syncQueues _ _))

theorem advanced_advanceSend (id : Nat) (s : State) : Advanced s (advanceSend id s) := by
  unfold advanceSend
  split
  · exact .refl s
  · rename_i x _
    refine (Advanced.refl s).ite ?_
    split
    · exact .refl s
    · refine (Advanced.refl s).ite ?_
      exact (Advanced.foldl (fun s d => (advanced_confirmTuple d _ _ _ s).ite (advanced_sendToken _ x d s)) _ s).trans (advanced_copies _ _ _ _)
    · exact (Advanced.refl s).ite ((advanced_copies s _ _ _).ite ((advanced_resendList x s).ite (.refl s)))

theorem advanced_sendRevokes (id : Nat) (s : State) : Advanced s (sendRevokes id s) := by
  unfold sendRevokes
  split
  · exact .refl s
  · rename_i x0 _
    dsimp only
    generalize (if x0.dead = 1 then { x0 with dead := 2, revoking := (s.sendDevices x0).map (fun d => (d, 0)) } else x0) = x
    have changed := advanced_updSend s x.id (fun _ => x)
    refine changed.ite (changed.trans (Advanced.trans ?_ (advanced_updSend _ _ _)))
    exact Advanced.foldl (fun s d => (advanced_revokeTuple d _ _ _ s).ite (advanced_sendToken _ _ d s)) _ _

theorem advanced_advanceSends (s : State) : Advanced s (advanceSends s) :=
  Advanced.foldl (f := fun s (x : SendList) => advanceSend x.id (sendRevokes x.id s))
    (fun s x => (advanced_sendRevokes x.id s).trans (advanced_advanceSend x.id _)) _ s

theorem advanced_settleSend (cell step : Nat) (good : Bool) (s : State) : Advanced s (settleSend cell step good s) := by
  unfold settleSend
  split
  · exact .refl s
  · exact ((advanced_updSend s _ _).trans (advanced_advanceSends _)).ite ((advanced_updSend s _ _).trans (advanced_advanceSends _))

theorem CopyFlag.ctr_lt (d : CopyDesc) : CopyFlag.ctr d < 16 := bits_lt _ _ _

theorem advanced_notifyCopy (f : Flight) (s : State) : Advanced s (notifyCopy f s) := by
  unfold notifyCopy
  split
  · exact (told_raiseFor s _ _ _ _ _ _ _).advanced
  · refine (Advanced.refl s).ite ?_
    split
    · split
      · exact (advanced_bumpArrive (CopyFlag.ctr_lt _) _ s).ite (advanced_sendPacket _ _ s)
      · exact advanced_bumpArrive (CopyFlag.ctr_lt _) _ s
    · exact advanced_bumpArrive (CopyFlag.ctr_lt _) _ s

end Sys2Proof.Machine

/-!
PROOFS. Copies within the device: their launches, the words of HBM they move, and their ends (R213, R217, R218).
-/
namespace Sys2Proof.Machine

/-! The checks of a copy (R219) -/

/-- `t` has what the checks of a copy on this device look at as `s` has it. -/
structure SpanSame (s t : State) : Prop where
  device : t.reg Addr.DEVICE_NUMBER = s.reg Addr.DEVICE_NUMBER
  security : t.reg Addr.SEC_STATUS = s.reg Addr.SEC_STATUS
  cells : ∀ c, t.reg (Addr.CELL_STATE c) = s.reg (Addr.CELL_STATE c)
  mem : t.mem = s.mem
  jobs : t.jobs = s.jobs
  zones : t.copies.zones = s.copies.zones

section
variable {s t : State} (h : SpanSame s t)
include h

theorem SpanSame.secError : t.secError = s.secError := by rw [State.secError, State.field_congr h.security, State.secError]

theorem SpanSame.localAddr (d : CopyDesc) (a : Nat) : t.localAddr d a = s.localAddr d a := by
  rw [State.localAddr, State.device, State.field_congr h.device, State.localAddr, State.device]

theorem SpanSame.copyPeer (d : CopyDesc) : t.copyPeer d = s.copyPeer d := by
  simp only [State.copyPeer, h.localAddr]

theorem SpanSame.inWindows (tenant a n : Nat) (write : Bool) : t.inWindows tenant a n write = s.inWindows tenant a n write := by
  simp only [State.inWindows, State.memWindow, h.mem]

theorem SpanSame.touchesRetired (a n : Nat) : t.touchesRetired a n = s.touchesRetired a n := by
  unfold State.touchesRetired
  congr 1
  funext b
  rw [State.blockRetired, h.mem, State.blockRetired]

theorem SpanSame.cellState (c : Nat) : t.cellState c = s.cellState c := State.field_congr (h.cells c) 0 2

theorem SpanSame.cellTenant (c : Nat) : t.cellTenant c = s.cellTenant c := State.field_congr (h.cells c) 8 8

theorem SpanSame.holdsCell (tenant : Nat) (job : Option Nat) (c : Nat) : t.holdsCell tenant job c = s.holdsCell tenant job c := by
  unfold State.holdsCell State.jobLow
  rw [h.jobs, h.cellState, h.cellTenant]

theorem SpanSame.zoneOf (off : Nat) : t.zoneOf off = s.zoneOf off := by rw [State.zoneOf, h.zones, State.zoneOf]

theorem SpanSame.spanCause (tenant : Nat) (job : Option Nat) (write spec : Bool) (ty off n : Nat) :
    t.spanCause tenant job write spec ty off n = s.spanCause tenant job write spec ty off n := by
  unfold State.spanCause
  simp only [h.secError, h.inWindows, h.touchesRetired, h.holdsCell, h.zoneOf]

theorem SpanSame.endCause (tenant : Nat) (job : Option Nat) (write : Bool)
    (d : CopyDesc) : t.endCause tenant job write d = s.endCause tenant job write d := by
  simp only [State.endCause, h.spanCause]

/-- Of a copy between places of this device no route is looked for. -/
theorem SpanSame.copyCause {d : CopyDesc} (here : s.copyPeer d = none) (tenant : Nat) (job : Option Nat) :
    t.copyCause tenant job d = s.copyCause tenant job d := by
  have ends : s.localAddr d d.src = true ∧ s.localAddr d d.dst = true := by
    unfold State.copyPeer at here
    split at here
    · rename_i src
      split at here
      · rename_i dst
        exact ⟨src, dst⟩
      · contradiction
    · contradiction
  unfold State.copyCause
  simp only [h.localAddr, h.endCause, ends.1, ends.2, and_self, if_true]

end

theorem SpanSame.trans {s t u : State} (h : SpanSame s t) (h' : SpanSame t u) : SpanSame s u :=
  ⟨h'.device.trans h.device, h'.security.trans h.security, fun c => (h'.cells c).trans (h.cells c), h'.mem.trans h.mem, h'.jobs.trans h.jobs,
    h'.zones.trans h.zones⟩

theorem spanSame_advance (t : Nat) (s : State) : SpanSame s (advance t s) :=
  ⟨s.advance_reg t _, s.advance_reg t _, fun _ => s.advance_reg t _, rfl, rfl, rfl⟩

/-! Launch (R217) -/

theorem beginReads_only (f : Flight) (s : State) : ∃ readers, beginReads f s = { s with copies.readers := readers } := by
  unfold beginReads
  split
  · exact ⟨s.copies.readers, rfl⟩
  · exact ⟨_, rfl⟩

/-- `u` is `s` with a flight under way. -/
structure UnderWay (f : Flight) (s u : State) : Prop where
  flights : u.copies.flights = s.copies.flights ++ [f]
  soft : u.copies.soft = s.copies.soft
  regs : u.regs = s.regs
  mem : u.mem = s.mem

/-- A checked copy of this device is under way. -/
theorem launchFlight_here {f : Flight} {s : State} (cause : s.copyCause f.tenant f.own f.desc = 0) (plain : CopyFlag.spec f.desc = false)
    (here : s.copyPeer f.desc = none) : UnderWay f s (launchFlight f s) := by
  obtain ⟨readers, begun⟩ := beginReads_only f { s with copies := { s.copies with
    nextXfer := (s.copies.nextXfer + 1) % 65536, flights := s.copies.flights ++ [f] } }
  have launched : launchFlight f s = beginReads f { s with copies := { s.copies with
      nextXfer := (s.copies.nextXfer + 1) % 65536, flights := s.copies.flights ++ [f] } } := by
    unfold launchFlight
    simp only [cause, plain, here, Bool.false_eq_true, false_and, and_false, if_false, ne_eq, not_true_eq_false]
  rw [launched, begun]
  exact ⟨rfl, rfl, rfl, rfl⟩

section
variable {s : State} {y : SoftCopy} {l : List SoftCopy} {k : Nat}

/-- The flight of a software queue's head. -/
def softFlight (s : State) (k : Nat) (y : SoftCopy) (now : Nat) : Flight :=
  { id := s.copies.nextXfer, queue := 512 + k, slot := y.slot, tenant := y.tenant, job := 0, session := y.session, tag := y.tag, desc := y.desc,
    launched := now }

/-- The state in which the head of a software queue has left it. -/
def softTaken (s : State) (k : Nat) (l : List SoftCopy) : State := syncSoft k { s with copies.soft := tabSet [] k l s.copies.soft }

theorem reg_softTaken {a : Nat} (other : a ≠ Addr.SWQ_STATUS k) : (softTaken s k l).reg a = s.reg a :=
  (State.reg_setField_other _ other _ _ _).trans rfl

theorem soft_softTaken (s : State) (k : Nat) (l : List SoftCopy) : (softTaken s k l).copies.soft = tabSet [] k l s.copies.soft := rfl

theorem spanSame_softTaken (s : State) (k : Nat) (l : List SoftCopy) : SpanSame s (softTaken s k l) := by
  refine ⟨reg_softTaken ?_, reg_softTaken ?_, fun c => reg_softTaken ?_, rfl, rfl, rfl⟩
  all_goals
    simp only [Addr.DEVICE_NUMBER, Addr.SEC_STATUS, Addr.CELL_STATE, Addr.SWQ_STATUS]
    omega

/-- The launch of a software queue's head (R217). -/
theorem copyLaunch_soft (small : k < 16) (head : tabGet [] k s.copies.soft = y :: l) (open_ : s.copyBeatOpen s.beat.kSoft y.desc = true)
    (first : s.mustFollow (512 + k) y.desc = false) (free : CopyFlag.waitCommit y.desc = false) (t : Nat) :
    exec (.copyLaunch t (512 + k)) s = .next (launchFlight (softFlight s k y (advance t s).now) (softTaken (advance t s) k l)) := by
  have same := spanSame_advance t s
  have open' : (advance t s).copyBeatOpen (advance t s).beat.kSoft y.desc = true := by
    rw [State.copyBeatOpen, same.copyPeer]
    exact open_
  have first' : (advance t s).mustFollow (512 + k) y.desc = false := by
    rw [← first]
    unfold State.mustFollow State.sameTarget State.device
    rw [same.copyPeer]
    simp only [same.localAddr, State.field_congr same.device]
    rfl
  have reached : (advance t s).commitReached 0 y.desc = true := by simp [State.commitReached, free]
  change Host.Outcome.next _ = _
  rw [if_pos (by omega)]
  unfold copyLaunch
  rw [if_neg (by omega)]
  dsimp only
  rw [Nat.add_sub_cancel_left, show (advance t s).copies.soft = s.copies.soft from rfl, head]
  dsimp only
  rw [open', first', reached]
  rfl


theorem copyLaunch_soft_goes (small : k < 16) (head : tabGet [] k s.copies.soft = y :: l) (open_ : s.copyBeatOpen s.beat.kSoft y.desc = true)
    (first : s.mustFollow (512 + k) y.desc = false) (free : CopyFlag.waitCommit y.desc = false) (here : s.copyPeer y.desc = none)
    (plain : CopyFlag.spec y.desc = false) (cause : s.copyCause y.tenant none y.desc = 0) (t : Nat) :
    ∃ u f, exec (.copyLaunch t (512 + k)) s = .next u ∧ u.copies.flights = s.copies.flights ++ [f] ∧ f.desc = y.desc ∧ f.tenant = y.tenant ∧
      f.queue = 512 + k ∧ f.id = s.copies.nextXfer ∧ f.peer = none ∧ tabGet [] k u.copies.soft = l ∧ sameRegsBut [Addr.SWQ_STATUS k] s u ∧
          u.mem = s.mem := by
  have same := (spanSame_advance t s).trans (spanSame_softTaken (advance t s) k l)
  have own : (softFlight s k y (advance t s).now).own = none := if_neg (by simp [softFlight])
  have way := launchFlight_here (f := softFlight s k y (advance t s).now) (s := softTaken (advance t s) k l)
    (by rw [own]; exact (same.copyCause here _ _).trans cause) plain ((same.copyPeer _).trans here)
  refine ⟨_, _, copyLaunch_soft small head open_ first free t, way.flights, rfl, rfl, rfl, rfl, rfl, ?_, fun a ha => ?_, way.mem⟩
  · rw [way.soft, soft_softTaken]
    exact tabGet_tabSet_same _ _ _ _
  · exact (State.reg_of_regs way.regs a).trans ((reg_softTaken (by simpa using ha)).trans (s.advance_reg t a))

end

section
variable {s : State} {c q : Nat} {y : Nat × CopyDesc × Bool × CellX} {j : Job}

/-- The flight of a cell's queue's head that is no speculative send. -/
def cellFlight (s : State) (j : Job) (c q slot : Nat) (d : CopyDesc) (quiet : Bool) : Flight :=
  { id := s.copies.nextXfer, queue := 2 * c + q, slot, tenant := j.tenant, job := j.id, session := j.session, tag := 0, desc := d, quiet, attempt := 0,
    held := [], launched := s.now }

/-- A launch behind its beat is counted (R217). -/
def countLate (c : Nat) (d : CopyDesc) (quiet : Bool) (s : State) : State :=
  if d.launch < s.zcBulk (c / 16) ∧ !quiet then s.bump32 (Addr.COPY_LATE (c / 16)) else s

theorem launchCellCopy_plain {d : CopyDesc} (plain : CopyFlag.spec d = false) (j : Job) (c q slot : Nat) (quiet : Bool) (s : State) :
    launchCellCopy j c q slot d quiet s = launchFlight (cellFlight s j c q slot d quiet) (syncQueues c (countLate c d quiet s)) := by
  have none_ : s.copies.sends.find? (fun x => x.cell == c && x.step == d.step && CopyFlag.spec d && x.dead == 0) = none := by
    rw [plain]
    simp
  have held : s.heldWords c d = [] := by simp [State.heldWords, plain]
  unfold launchCellCopy
  rw [none_, held]
  rfl

theorem reg_countLate {a : Nat} (other : a ≠ Addr.COPY_LATE (c / 16)) (d : CopyDesc) (quiet : Bool) (s : State) :
    (countLate c d quiet s).reg a = s.reg a := by
  unfold countLate
  split
  · exact State.reg_bump32_other _ other _
  · rfl

theorem reg_syncQueues {a : Nat} (other : a ≠ Addr.COPYQ_STATUS c) (s : State) : (syncQueues c s).reg a = s.reg a :=
  (State.reg_setField_other _ other _ _ _).trans (State.reg_setField_other _ other _ _ _)

theorem regsOnly_launchCounts (c : Nat) (d : CopyDesc) (quiet : Bool) (s : State) : RegsOnly s (syncQueues c (countLate c d quiet s)) := by
  have counted : RegsOnly s (countLate c d quiet s) := by
    unfold countLate
    exact (regsOnly_setReg s _ _).ite (.refl s)
  exact counted.trans ((regsOnly_setReg _ _ _).trans (regsOnly_setReg _ _ _))

theorem reg_launchCounts {a : Nat} (queue : a ≠ Addr.COPYQ_STATUS c) (late : a ≠ Addr.COPY_LATE (c / 16)) (d : CopyDesc) (quiet : Bool) (s : State) :
    (syncQueues c (countLate c d quiet s)).reg a = s.reg a := (reg_syncQueues queue _).trans (reg_countLate late d quiet s)

theorem spanSame_launchCounts (c : Nat) (d : CopyDesc) (quiet : Bool) (x : CellX) (s : State) :
    SpanSame s (syncQueues c (countLate c d quiet (s.updCell c (fun _ => x)))) := by
  have only := regsOnly_launchCounts c d quiet (s.updCell c (fun _ => x))
  refine ⟨reg_launchCounts ?_ ?_ _ _ _, reg_launchCounts ?_ ?_ _ _ _, fun c => reg_launchCounts ?_ ?_ _ _ _, ?_, ?_, ?_⟩
  case refine_7 => rw [only]; rfl
  case refine_8 => rw [only]; rfl
  case refine_9 => rw [only]; rfl
  all_goals
    simp only [Addr.DEVICE_NUMBER, Addr.SEC_STATUS, Addr.CELL_STATE, Addr.COPYQ_STATUS, Addr.COPY_LATE]
    omega

/-- The launch of a cell's queue's head (R217). -/
theorem copyLaunch_cell (small : c < 256) (binary : q < 2) (head : (s.cellx c).headCopy q = some y) (job : s.jobOfCell c = some j)
    (runs : j.state = 0 ∨ j.state = 1) (ready : (advance t s).cellCopyReady c q y.2.1 = true) :
    exec (.copyLaunch t (2 * c + q)) s = .next (launchCellCopy j c q y.1 y.2.1 y.2.2.1 ((advance t s).updCell c (fun _ => y.2.2.2))) := by
  obtain ⟨slot, d, quiet, x⟩ := y
  have cell : (2 * c + q) / 2 = c := by omega
  have queue : (2 * c + q) % 2 = q := by omega
  have state : (j.state == 0 || j.state == 1) = true := by simpa using runs
  change Host.Outcome.next _ = _
  rw [if_pos (by omega)]
  unfold copyLaunch
  rw [if_pos (by omega), cell, queue]
  dsimp only
  rw [show ((advance t s).cellx c).headCopy q = some (slot, d, quiet, x) from head, show (advance t s).jobOfCell c = some j from job]
  dsimp only
  rw [ready, state]
  rfl

end

section
variable {s t : State}

/-- Whether a head of a cell's queue may launch is as it was once time has passed. -/
theorem cellCopyReady_advance (t : Nat) (s : State) (c q : Nat) (d : CopyDesc) : (advance t s).cellCopyReady c q d = s.cellCopyReady c q d := by
  have same := spanSame_advance t s
  have device : (advance t s).device = s.device := State.field_congr same.device 0 13
  unfold State.cellCopyReady State.mustFollow State.copyBeatOpen State.commitReached State.stepDone State.sameTarget
  simp only [same.copyPeer, same.localAddr, device]
  rfl

theorem copyLaunch_cell_goes {c q : Nat} {j : Job} {y : Nat × CopyDesc × Bool × CellX} (small : c < 256) (binary : q < 2)
    (head : (s.cellx c).headCopy q = some y) (job : s.jobOfCell c = some j) (runs : j.state = 0 ∨ j.state = 1)
    (ready : s.cellCopyReady c q y.2.1 = true) (here : s.copyPeer y.2.1 = none) (plain : CopyFlag.spec y.2.1 = false)
    (cause : s.copyCause j.tenant (some (j.id % 2 ^ 32)) y.2.1 = 0) (t : Nat) :
    ∃ u f, exec (.copyLaunch t (2 * c + q)) s = .next u ∧ u.copies.flights = s.copies.flights ++ [f] ∧ f.desc = y.2.1 ∧ f.queue = 2 * c + q ∧
      f.job = j.id ∧ f.peer = none ∧ sameRegsBut [Addr.COPYQ_STATUS c, Addr.COPY_LATE (c / 16)] s u ∧ u.mem = s.mem := by
  have run := (copyLaunch_cell small binary head job runs ((cellCopyReady_advance t s c q _).trans ready)).trans
    (congrArg _ (launchCellCopy_plain plain j c q y.1 y.2.2.1 _))
  have same := (spanSame_advance t s).trans (spanSame_launchCounts c y.2.1 y.2.2.1 y.2.2.2 (advance t s))
  have only := regsOnly_launchCounts c y.2.1 y.2.2.1 ((advance t s).updCell c (fun _ => y.2.2.2))
  have own : (cellFlight ((advance t s).updCell c (fun _ => y.2.2.2)) j c q y.1 y.2.1 y.2.2.1).own = some (j.id % 2 ^ 32) := if_pos (by
    simp only [cellFlight]
    omega)
  have way := launchFlight_here (f := cellFlight ((advance t s).updCell c (fun _ => y.2.2.2)) j c q y.1 y.2.1 y.2.2.1)
    (s := syncQueues c (countLate c y.2.1 y.2.2.1 ((advance t s).updCell c (fun _ => y.2.2.2))))
    (by rw [own]; exact (same.copyCause here _ _).trans cause) plain ((same.copyPeer _).trans here)
  refine ⟨_, cellFlight ((advance t s).updCell c (fun _ => y.2.2.2)) j c q y.1 y.2.1 y.2.2.1, run, ?_, rfl, rfl, rfl, rfl, fun a ha =>
      ?_, way.mem.trans same.mem⟩
  · rw [way.flights, only]
    rfl
  · simp only [List.mem_cons, List.not_mem_nil, or_false, not_or] at ha
    exact (State.reg_of_regs way.regs a).trans ((reg_launchCounts ha.1 ha.2 _ _ _).trans (s.advance_reg t a))


end

/-! The words of HBM a copy moves (R217, R218) -/

section
variable {s u : State} {f : Flight} {t : Nat}

theorem keyOf_memMark_other (m : MemState) (a n key : Nat) {w : Nat} (other : ∀ i < ceilDiv (a % 32 + n) 32, w ≠ a / 32 + i) :
    tabGet 0 w (memMark m a n key).keyOf = tabGet 0 w m.keyOf := by
  unfold memMark
  dsimp only
  generalize m.keyOf = l
  revert other
  generalize ceilDiv (a % 32 + n) 32 = k
  intro other
  induction k with
  | zero => rfl
  | succ k ih =>
    rw [List.range_succ, List.foldl_append]
    change tabGet 0 w (tabSet 0 (a / 32 + k) (key + 1) _) = _
    rw [tabGet_tabSet_other (other k (by omega))]
    exact ih fun i hi => other i (by omega)

/-- A word written leaves every other aligned word as it reads. -/
theorem readBytes_writeBytes_other {a c : Nat} (bs : Bytes) (length : bs.length = 32) (aligned : a % 32 = 0) (aligned' : c % 32 = 0) (other : c ≠ a)
    (s : State) (t t' : Nat) : (s.writeBytes t a bs).readBytes t' c 32 = s.readBytes t' c 32 := by
  refine List.map_congr_left fun i hi => ?_
  have small : i < 32 := List.mem_range.mp hi
  have byte : memByte (s.writeBytes t a bs).mem (c + i) = memByte s.mem (c + i) := State.memByte_writeBytes_outside s t a (c + i) bs (by omega)
  have key : tabGet 0 ((c + i) / 32) (s.writeBytes t a bs).mem.keyOf = tabGet 0 ((c + i) / 32) s.mem.keyOf := by
    refine (keyOf_memMark_other _ _ _ _ fun k hk => ?_).trans (by rw [memWrite_keyOf])
    rw [length, aligned, ceilDiv] at hk
    omega
  unfold State.readByte
  rw [byte, key]
  rfl

theorem readSpan_of {u v : State} (mem : u.mem = v.mem) (keys : u.dataKey = v.dataKey) (t a : Nat) : u.readSpan t 0 a = v.readSpan t 0 a := by
  unfold State.readSpan State.hbmAddr
  simp only [show ¬ ((0 : Nat) = 2) by decide, if_false, show ¬ ((0 : Nat) = 1) by decide, show ¬ ((0 : Nat) = 3) by decide]
  rw [readBytes_of mem keys]

theorem readSpan_hbm (s : State) (t a : Nat) : s.readSpan t 0 a = BitVec.ofNat 256 (natLE (s.readBytes t a 32)) := rfl

/-- The keys of the words that copies have written on a beat as HBM has them. -/
def hbmKey (a : Nat) : Nat := 256 * storeWords + a / 32

/-- `u` is `s` after words of HBM moved. -/
structure HbmMoved (s u : State) : Prop where
  flights : u.copies.flights = s.copies.flights
  dataKey : u.dataKey = s.dataKey
  zc : u.zc = s.zc
  unclaimed : (∀ k, 256 * storeWords ≤ k → tabGet 0 k s.beatWrites ≤ 1) → ∀ k, 256 * storeWords ≤ k → tabGet 0 k u.beatWrites ≤ 1
  quiet : untraced s → untraced u

theorem HbmMoved.refl (s : State) : HbmMoved s s := ⟨rfl, rfl, rfl, id, id⟩

theorem HbmMoved.trans {s u v : State} (h : HbmMoved s u) (h' : HbmMoved u v) : HbmMoved s v :=
  ⟨h'.flights.trans h.flights, h'.dataKey.trans h.dataKey, h'.zc.trans h.zc, fun free => h'.unclaimed (h.unclaimed free), fun off =>
      h'.quiet (h.quiet off)⟩

theorem hbmMoved_of_regsOnly {s u : State} (h : RegsOnly s u) (zc : u.zc = s.zc) : HbmMoved s u := by
  refine ⟨by rw [h], by rw [h], zc, fun free k hk => ?_, fun off => by rw [h]; exact off⟩
  have same : u.beatWrites = s.beatWrites := by rw [State.beatWrites, zc, h, State.beatWrites]
  rw [same]
  exact free k hk


theorem zc_countHbm {write : Bool} (b n : Nat) (s : State) : (countHbm write b n s).zc = s.zc := by
  refine reg_countHbm_other (fun m hm => ?_) b n s
  split
  all_goals
    simp only [Addr.ZC_ROOT, Addr.WR_BYTES, Addr.RD_BYTES]
    omega

theorem regsOnly_countWords (k n : Nat) (s : State) : RegsOnly s (countWords k none none n s) := (regsOnly_setReg s _ _).trans (regsOnly_setReg _ _ _)

theorem zc_countWords (k n : Nat) (s : State) : (countWords k none none n s).zc = s.zc := by
  refine (State.reg_bump64_other _ ?_ _).trans (State.reg_bump64_other _ ?_ _)
  all_goals
    simp only [Addr.ZC_ROOT, Addr.CE_WORDS_IN, Addr.CE_WORDS_OUT]
    omega

/-- `u` with a word claimed by a copy whose source is no cell, on the beat of `s` (R58). -/
def claimWord (key : Nat) (s u : State) : State := { u with copies := { u.copies with
  beatOf := s.zc, beatWrites := tabSet 0 key 1 s.beatWrites, beatOld := if s.copies.beatOf = s.zc then s.copies.beatOld else [] } }

section
variable (key : Nat) (s u : State)
theorem mem_claimWord : (claimWord key s u).mem = u.mem := rfl
theorem dataKey_claimWord : (claimWord key s u).dataKey = u.dataKey := rfl
theorem flights_claimWord : (claimWord key s u).copies.flights = u.copies.flights := rfl
theorem obs_claimWord : (claimWord key s u).obs = u.obs := rfl
theorem zc_claimWord : (claimWord key s u).zc = u.zc := rfl
theorem beatWrites_claimWord (same : u.zc = s.zc) : (claimWord key s u).beatWrites = tabSet 0 key 1 s.beatWrites := if_pos same.symm
end

/-- A word of HBM that copies have not claimed on the present beat is written by a copy whose source is no cell (R58). -/
theorem writeSpan_hbm {a : Nat} (free : tabGet 0 (hbmKey a) s.beatWrites ≤ 1) (t : Nat) (v : W256) :
    s.writeSpan t 0 0 a v = claimWord (hbmKey a) s (s.storeBytes t a (toLE 32 v.toNat)) := by
  unfold State.writeSpan
  refine (if_neg (by decide)).trans (if_neg ?_)
  change ¬ 0 + 1 < min 256 (tabGet 0 (hbmKey a) s.beatWrites)
  omega

theorem zc_storeBytes (s : State) (t a : Nat) (bs : Bytes) : (s.storeBytes t a bs).zc = s.zc := zc_countHbm _ _ _

theorem readSpan_writeSpan_same {a : Nat} (free : tabGet 0 (hbmKey a) s.beatWrites ≤ 1) (t : Nat) (v : W256) :
    (s.writeSpan t 0 0 a v).readSpan t 0 a = v := by
  have stored := readBytes_storeBytes s t a (toLE 32 v.toNat)
  rw [length_toLE] at stored
  rw [writeSpan_hbm free, readSpan_hbm, readBytes_of (mem_claimWord _ _ _) (dataKey_claimWord _ _ _), stored, natLE_toLE_of_lt v.isLt,
    BitVec.ofNat_toNat, BitVec.setWidth_eq]

theorem readSpan_writeSpan_other {a c : Nat}
    (free : tabGet 0 (hbmKey a) s.beatWrites ≤ 1) (aligned : a % 32 = 0) (aligned' : c % 32 = 0) (other : c ≠ a)
    (t t' : Nat) (v : W256) : (s.writeSpan t 0 0 a v).readSpan t' 0 c = s.readSpan t' 0 c := by
  have stored : (s.storeBytes t a (toLE 32 v.toNat)).readBytes t' c 32 = (s.writeBytes t a (toLE 32 v.toNat)).readBytes t' c 32 := by
    refine readBytes_of ?_ ?_ t' c 32
    · rw [storeBytes_only]
    · rw [storeBytes_only]
      rfl
  rw [writeSpan_hbm free, readSpan_hbm, readSpan_hbm, readBytes_of (mem_claimWord _ _ _) (dataKey_claimWord _ _ _), stored,
    readBytes_writeBytes_other (toLE 32 v.toNat) (length_toLE _ _) aligned aligned' other s t t']

theorem hbmMoved_writeSpan {a : Nat} (free : tabGet 0 (hbmKey a) s.beatWrites ≤ 1) (t : Nat) (v : W256) : HbmMoved s (s.writeSpan t 0 0 a v) := by
  have only := storeBytes_only s t a (toLE 32 v.toNat)
  have zc := zc_storeBytes s t a (toLE 32 v.toNat)
  rw [writeSpan_hbm free]
  refine ⟨?_, ?_, zc, fun unclaimed k hk => ?_, fun off => ?_⟩
  · rw [flights_claimWord, only]
  · rw [dataKey_claimWord, only]
  · rw [beatWrites_claimWord _ _ _ zc]
    by_cases same : k = hbmKey a
    · rw [same, tabGet_tabSet_same]
    · rw [tabGet_tabSet_other same]
      exact unclaimed k hk
  · rw [untraced, obs_claimWord, only]
    exact off

end

section
variable {f : Flight} {s : State}

/-- A word of HBM moves to HBM (R217). -/
theorem moveWord_hbm (src : spaceOf f.desc.src = 0) (dst : spaceOf f.desc.dst = 0) (held : f.held = []) (p : Nat × Nat) :
    moveWord f s p = countWords (queueCluster f.queue) none none 1
      ((countHbm false p.1 32 s).writeSpan f.tenant 0 0 p.2 (s.readSpan f.tenant 0 p.1)) := by
  have word : s.sourceWord f p.1 = s.readSpan f.tenant 0 p.1 := by rw [State.sourceWord, held, src]; rfl
  unfold moveWord
  rw [word, src, dst]
  rfl

theorem hbmKey_le (a : Nat) : 256 * storeWords ≤ hbmKey a := Nat.le_add_right _ _

/-- What the move of one word leaves: the word in its place, and every other aligned word as it was. -/
theorem moveWord_moves (src : spaceOf f.desc.src = 0) (dst : spaceOf f.desc.dst = 0) (held : f.held = []) {p : Nat × Nat}
    (unclaimed : ∀ k, 256 * storeWords ≤ k → tabGet 0 k s.beatWrites ≤ 1) (aligned : p.2 % 32 = 0) :
    HbmMoved s (moveWord f s p) ∧ (moveWord f s p).readSpan f.tenant 0 p.2 = s.readSpan f.tenant 0 p.1 ∧
      ∀ c, c % 32 = 0 → c ≠ p.2 → (moveWord f s p).readSpan f.tenant 0 c = s.readSpan f.tenant 0 c := by
  have counted := hbmMoved_of_regsOnly (regsOnly_countHbm false p.1 32 s) (zc_countHbm _ _ _)
  have free := counted.unclaimed unclaimed _ (hbmKey_le p.2)
  have written := hbmMoved_writeSpan free f.tenant (s.readSpan f.tenant 0 p.1)
  have words := regsOnly_countWords (queueCluster f.queue) 1
    ((countHbm false p.1 32 s).writeSpan f.tenant 0 0 p.2 (s.readSpan f.tenant 0 p.1))
  have reads (c : Nat) : (moveWord f s p).readSpan f.tenant 0 c =
      ((countHbm false p.1 32 s).writeSpan f.tenant 0 0 p.2 (s.readSpan f.tenant 0 p.1)).readSpan f.tenant 0 c := by
    rw [moveWord_hbm src dst held]
    exact readSpan_of (by rw [words]) (by rw [words]) _ _
  have before (c : Nat) : (countHbm false p.1 32 s).readSpan f.tenant 0 c = s.readSpan f.tenant 0 c :=
    readSpan_of (by rw [regsOnly_countHbm]) (by rw [regsOnly_countHbm]) _ _
  refine ⟨?_, ?_, fun c aligned' other => ?_⟩
  · rw [moveWord_hbm src dst held]
    exact (counted.trans written).trans (hbmMoved_of_regsOnly words (zc_countWords _ _ _))
  · rw [reads, readSpan_writeSpan_same free]
  · rw [reads, readSpan_writeSpan_other free aligned aligned' other, before]

/-- The places of the first `n` words of a copy without rows. -/
def wordPairs (a b n : Nat) : List (Nat × Nat) := (List.range n).map (fun w => (a + 32 * w, b + 32 * w))

theorem copyPairs_plain (rows : f.desc.rows = 0) :
    copyPairs f.desc = wordPairs (offsetOf f.desc.src) (offsetOf f.desc.dst) (f.desc.length / 32) := by
  unfold copyPairs wordPairs
  rw [rows]
  simp

theorem moveWords_moves (src : spaceOf f.desc.src = 0) (dst : spaceOf f.desc.dst = 0) (held : f.held = [])
    (unclaimed : ∀ k, 256 * storeWords ≤ k → tabGet 0 k s.beatWrites ≤ 1) {a b : Nat} (aligned : a % 32 = 0) (aligned' : b % 32 = 0) {len : Nat}
    (apart : a + 32 * len ≤ b ∨ b + 32 * len ≤ a) : ∀ n ≤ len, HbmMoved s ((wordPairs a b n).foldl (moveWord f) s) ∧
      (∀ w < n, ((wordPairs a b n).foldl (moveWord f) s).readSpan f.tenant 0 (b + 32 * w) = s.readSpan f.tenant 0 (a + 32 * w)) ∧
      ∀ w < len, ((wordPairs a b n).foldl (moveWord f) s).readSpan f.tenant 0 (a + 32 * w) = s.readSpan f.tenant 0 (a + 32 * w) := by
  intro n
  induction n with
  | zero => exact fun _ => ⟨.refl s, fun w hw => absurd hw (by omega), fun _ _ => rfl⟩
  | succ n ih =>
    intro hn
    obtain ⟨moved, done, kept⟩ := ih (by omega)
    have last : wordPairs a b (n + 1) = wordPairs a b n ++ [(a + 32 * n, b + 32 * n)] := by
      rw [wordPairs, List.range_succ, List.map_append]
      rfl
    rw [last, List.foldl_append]
    obtain ⟨moved', here, others⟩ := moveWord_moves (s := (wordPairs a b n).foldl (moveWord f) s) src dst held (p := (a + 32 * n, b + 32 * n))
      (moved.unclaimed unclaimed) (by dsimp only; omega)
    refine ⟨moved.trans moved', fun w hw => ?_, fun w hw => ?_⟩
    · by_cases same : w = n
      · subst same
        exact here.trans (kept w (by omega))
      · exact (others _ (by omega) (by dsimp only; omega)).trans (done w (by omega))
    · exact (others _ (by omega) (by dsimp only; omega)).trans (kept w hw)


end

/-! COPY_COMPLETE (R218) -/

section
variable {s : State} {f : Flight} {id : Nat}

theorem regsOnly_countCorrected (f : Flight) (n : Nat) (s : State) : RegsOnly s (countCorrected f n s) := by
  unfold countCorrected
  dsimp only
  split
  · exact regsOnly_setReg s _ _
  · exact (RegsOnly.refl s).ite (regsOnly_setReg s _ _)

/-- The end of a copy that meets no bad word and no retired page (R218). -/
theorem exec_copyComplete_good (found : s.copies.flights.find? (fun f => f.id == id && f.peer.isNone) = some f) (plain : CopyFlag.spec f.desc = false)
    (src : s.endCause f.tenant f.own false f.desc ≠ 3) (dst : s.endCause f.tenant f.own true f.desc ≠ 3) (first : s.mustWait f = false)
    (stays : s.cellsStay f = true) (t corrected : Nat) :
    exec (.copyComplete t id ⟨false, corrected⟩) s =
      .next (finishFlight f (moveWords f (copyPairs f.desc).length (countCorrected f corrected (advance t s)))) := by
  have same := spanSame_advance t s
  have device : (advance t s).device = s.device := State.field_congr same.device 0 13
  have wait : (advance t s).mustWait f = false := by
    rw [← first]
    unfold State.mustWait State.sameTarget
    simp only [same.localAddr, device]
    rfl
  have stay : (advance t s).cellsStay f = true := by
    rw [← stays]
    unfold State.cellsStay State.cellStays
    simp only [same.localAddr, same.cellState, same.cellTenant]
  have mark : markLocal f (advance t s) = advance t s := if_pos (by rw [plain]; rfl)
  change Host.Outcome.next (copyComplete id false corrected (advance t s)) = _
  congr 1
  unfold copyComplete
  rw [show (advance t s).copies.flights = s.copies.flights from rfl, found]
  dsimp only
  rw [wait, stay, mark, same.endCause, same.endCause]
  simp [src, dst]

theorem flights_writeSpan (s : State) (t src ty off : Nat) (v : W256) : (s.writeSpan t src ty off v).copies.flights = s.copies.flights := by
  unfold State.writeSpan
  split
  · unfold copyStore
    dsimp only
    split <;> rfl
  · dsimp only
    split
    · rfl
    · exact congrArg (fun u => u.copies.flights) (storeBytes_only s t _ _)

theorem regsOnly_countWords_any (k : Nat) (src dst : Option Nat) (n : Nat) (s : State) : RegsOnly s (countWords k src dst n s) := by
  unfold countWords
  split
  · exact RegsOnly.ite (regsOnly_setReg s _ _) ((regsOnly_setReg s _ _).trans (regsOnly_setReg _ _ _))
  · exact regsOnly_setReg s _ _
  · exact regsOnly_setReg s _ _
  · exact (regsOnly_setReg s _ _).trans (regsOnly_setReg _ _ _)

theorem moveWord_flights (f : Flight) (s : State) (p : Nat × Nat) : (moveWord f s p).copies.flights = s.copies.flights := by
  unfold moveWord
  dsimp only
  rw [regsOnly_countWords_any, flights_writeSpan]
  split
  · rfl
  · rw [regsOnly_countHbm]

theorem moveWords_flights (f : Flight) (n : Nat) (s : State) : (moveWords f n s).copies.flights = s.copies.flights := by
  unfold moveWords
  generalize (copyPairs f.desc).take n = l
  induction l generalizing s with
  | nil => rfl
  | cons p l ih => exact (ih _).trans (moveWord_flights f s p)

theorem finishFlight_flights (f : Flight) (s : State) : (finishFlight f s).copies.flights = s.copies.flights.filter (fun g => g.id != f.id) := by
  have ended := (advanced_notifyCopy f (dropFlight f.id s)).trans ((advanced_endReads f.id _).trans (advanced_advanceSends _))
  exact ended.flights

theorem finishFlight_reads (f : Flight) (off : untraced s) (t a : Nat) : (finishFlight f s).readSpan t 0 a = s.readSpan t 0 a := by
  have ended := (advanced_notifyCopy f (dropFlight f.id s)).trans ((advanced_endReads f.id _).trans (advanced_advanceSends _))
  exact readSpan_of (ended.quiet off).1 ended.dataKey t a


theorem zc_countCorrected (f : Flight) (n : Nat) (s : State) : (countCorrected f n s).zc = s.zc := by
  unfold countCorrected
  dsimp only
  split
  · refine State.reg_bump32_other _ ?_ _
    simp only [Addr.ZC_ROOT, Addr.CELL_C256_CORR]
    omega
  · split
    · rfl
    · refine State.reg_bump32_other _ ?_ _
      simp only [Addr.ZC_ROOT, Addr.HBM_C256_CORR]
      omega

theorem copyComplete_reads (src : spaceOf f.desc.src = 0) (dst : spaceOf f.desc.dst = 0) (rows : f.desc.rows = 0) (held : f.held = [])
    (srcAligned : offsetOf f.desc.src % 32 = 0) (dstAligned : offsetOf f.desc.dst % 32 = 0)
    (apart : offsetOf f.desc.src + f.desc.length ≤ offsetOf f.desc.dst ∨ offsetOf f.desc.dst + f.desc.length ≤ offsetOf f.desc.src) (off : untraced s)
    (unclaimed : ∀ k, 256 * storeWords ≤ k → tabGet 0 k s.beatWrites ≤ 1) (t corrected : Nat) {w : Nat} (word : w < f.desc.length / 32) :
    (finishFlight f (moveWords f (copyPairs f.desc).length (countCorrected f corrected (advance t s)))).readSpan f.tenant 0
      (offsetOf f.desc.dst + 32 * w) = s.readSpan f.tenant 0 (offsetOf f.desc.src + 32 * w) := by
  have counted := regsOnly_countCorrected f corrected (advance t s)
  have zc : (countCorrected f corrected (advance t s)).zc = s.zc := (zc_countCorrected f corrected _).trans (s.advance_reg t _)
  have writes : (countCorrected f corrected (advance t s)).beatWrites = s.beatWrites := by
    rw [State.beatWrites, zc, counted]
    rfl
  have before (a : Nat) : (countCorrected f corrected (advance t s)).readSpan f.tenant 0 a = s.readSpan f.tenant 0 a :=
    readSpan_of (by rw [counted]; rfl) (by rw [counted]; rfl) _ _
  obtain ⟨moved, done, _⟩ := moveWords_moves (s := countCorrected f corrected (advance t s)) src dst held (by rwa [writes]) srcAligned dstAligned
    (len := f.desc.length / 32) (by omega) _ (Nat.le_refl _)
  have all : moveWords f (copyPairs f.desc).length (countCorrected f corrected (advance t s)) =
      (wordPairs (offsetOf f.desc.src) (offsetOf f.desc.dst) (f.desc.length / 32)).foldl (moveWord f) (countCorrected f corrected (advance t s)) := by
    rw [moveWords, List.take_length, copyPairs_plain rows]
  rw [all, finishFlight_reads f (moved.quiet (by rw [counted]; exact off)), done w word, before]

/-- Settles O38: the launches of the two kinds of queue, and the end of a copy, whose words move one by one. -/
theorem copiesMoveTheirWords : Obligations.CopiesMoveTheirWords := by
  refine ⟨fun t k y l s small head open_ first free here plain cause => copyLaunch_soft_goes small head open_ first free here plain cause t,
    fun t c q j y s small binary head job runs ready here plain cause => copyLaunch_cell_goes small binary head job runs ready here plain cause t,
    fun t id f s found plain src dst first stays corrected => ?_⟩
  have named : f.id = id := by
    have met := List.find?_some found
    simp only [Bool.and_eq_true, beq_iff_eq] at met
    exact met.1
  have flights : (moveWords f (copyPairs f.desc).length (countCorrected f corrected (advance t s))).copies.flights = s.copies.flights := by
    rw [moveWords_flights, regsOnly_countCorrected]
    rfl
  refine ⟨_, exec_copyComplete_good found plain src dst first stays t corrected, fun g hg => ?_, fun g hg other => ?_,
    fun srcHbm dstHbm rows held _ srcAligned dstAligned apart off unclaimed w word =>
      copyComplete_reads srcHbm dstHbm rows held srcAligned dstAligned apart off unclaimed t corrected word⟩
  · rw [finishFlight_flights, flights, named] at hg
    simpa using (List.mem_filter.mp hg).2
  · rw [finishFlight_flights, flights, named]
    exact List.mem_filter.mpr ⟨hg, by simpa using other⟩

end
end Sys2Proof.Machine

/-!
PROOFS. A statement about the commit of a step whose result lies where the job's image places a statistics record.
-/
namespace Sys2Proof.Machine

/-- An open step whose result is a word of ones for the first word of the store. -/
def onesStep : OpenStep := { index := 0, step := 1, results := [(0, BitVec.allOnes 256)] }

/-- The job of cell 0 with one region, whose statistics record the image places at the start of the store of cell 0. -/
def ownRecordJob : Job :=
  { jobIn 0 with cells := [0], image := { (jobIn 0).image with regions := [⟨2 ^ 189, 0, 0, 0, 0, none, []⟩] } }

/-- A cell of that job with that step open and a step to launch. -/
def ownRecordCell : State :=
  { State.reset with
    jobs := [ownRecordJob]
    cells := [(0, { prog := some { mode := 0, heads := [(0, 0)], queue0 := [], queue1 := [] }, opens := [onesStep] })] }

/-- Refutes O37: the record of the region's statistics is written as the step commits (R190), over the step's result in the store. -/
theorem not_stepsLaunchAndCommit : ¬ Obligations.StepsLaunchAndCommit := by
  unfold Obligations.StepsLaunchAndCommit
  intro h
  obtain ⟨_, commits, _⟩ := h 0 0 ownRecordJob ownRecordCell (by decide +kernel) (by decide +kernel)
  obtain ⟨u, step, _, _, stored⟩ := (commits 1 onesStep [] ⟨0, 0, false, false, 0, 0⟩ (by decide +kernel) rfl rfl rfl rfl rfl rfl).1 (.inl rfl) rfl
    (by decide +kernel) ⟨0, by decide +kernel, _, rfl, by decide +kernel⟩ (by decide +kernel)
  have word := stored (0, BitVec.allOnes 256) (by decide +kernel)
  rw [eq_nextOf step] at word
  exact absurd word (by decide +kernel)
end Sys2Proof.Machine

/-!
PROOFS. What a cell's fence leaves: what has left the device, the spokes detached, and the clusters halted for a detach.
-/
namespace Sys2Proof.Machine

/-! What fences leave alone -/

/-- `t` keeps what left `s`, whether the mailbox's next reply is discarded, the spokes detached, and the clusters halted for a detach. -/
structure Held (s t : State) : Prop where
  out : s.out <+: t.out
  mute : t.bridge.mute = s.bridge.mute
  spokes : t.reg Addr.SPOKE_DETACHED = s.reg Addr.SPOKE_DETACHED
  halted : ∀ k < 16, HaltCause.spoke ∈ s.haltCauses k → s.halted k = true → HaltCause.spoke ∈ t.haltCauses k ∧ t.halted k = true

theorem Held.refl (s : State) : Held s s := ⟨List.prefix_rfl, rfl, rfl, fun _ _ cause halted => ⟨cause, halted⟩⟩

theorem Held.trans {s t u : State} (h : Held s t) (h' : Held t u) : Held s u where
  out := h.out.trans h'.out
  mute := h'.mute.trans h.mute
  spokes := h'.spokes.trans h.spokes
  halted k hk cause halted := h'.halted k hk (h.halted k hk cause halted).1 (h.halted k hk cause halted).2

theorem Held.keeps {s t : State} (h : Held s t) : Keeps s t := ⟨h.mute, h.out⟩

/-- A register that is neither SPOKE_DETACHED nor HALTED. -/
def SpokeFree (a : Nat) : Prop := a ≠ Addr.SPOKE_DETACHED ∧ a ≠ Addr.HALTED

theorem spokeFree_ARRIVE (c j : Nat) : SpokeFree (Addr.ARRIVE c j) := by unfold SpokeFree Addr.ARRIVE Addr.SPOKE_DETACHED Addr.HALTED; omega
theorem spokeFree_CELL_STATE (c : Nat) : SpokeFree (Addr.CELL_STATE c) := by unfold SpokeFree Addr.CELL_STATE Addr.SPOKE_DETACHED Addr.HALTED; omega
theorem spokeFree_COMMIT_OCC (c : Nat) : SpokeFree (Addr.COMMIT_OCC c) := by unfold SpokeFree Addr.COMMIT_OCC Addr.SPOKE_DETACHED Addr.HALTED; omega
theorem spokeFree_COPYQ_STATUS (c : Nat) : SpokeFree (Addr.COPYQ_STATUS c)
    := by unfold SpokeFree Addr.COPYQ_STATUS Addr.SPOKE_DETACHED Addr.HALTED; omega
theorem spokeFree_DIGEST_LOST (t : Nat) : SpokeFree (Addr.DIGEST_LOST t)
    := by unfold SpokeFree Addr.DIGEST_LOST Addr.SPOKE_DETACHED Addr.HALTED; omega
theorem spokeFree_EVENTS_LOST : SpokeFree Addr.EVENTS_LOST := by unfold SpokeFree Addr.EVENTS_LOST Addr.SPOKE_DETACHED Addr.HALTED; omega
theorem spokeFree_EVENTS_SENT : SpokeFree Addr.EVENTS_SENT := by unfold SpokeFree Addr.EVENTS_SENT Addr.SPOKE_DETACHED Addr.HALTED; omega
theorem spokeFree_EVQ_LOST : SpokeFree Addr.EVQ_LOST := by unfold SpokeFree Addr.EVQ_LOST Addr.SPOKE_DETACHED Addr.HALTED; omega
theorem spokeFree_FENCED (j : Nat) : SpokeFree (Addr.FENCED j) := by unfold SpokeFree Addr.FENCED Addr.SPOKE_DETACHED Addr.HALTED; omega
theorem spokeFree_FENCES : SpokeFree Addr.FENCES := by unfold SpokeFree Addr.FENCES Addr.SPOKE_DETACHED Addr.HALTED; omega
theorem spokeFree_FLITS_TX (p : Nat) : SpokeFree (Addr.FLITS_TX p) := by unfold SpokeFree Addr.FLITS_TX Addr.SPOKE_DETACHED Addr.HALTED; omega
theorem spokeFree_FLOWS_ENDED (t : Nat) : SpokeFree (Addr.FLOWS_ENDED t)
    := by unfold SpokeFree Addr.FLOWS_ENDED Addr.SPOKE_DETACHED Addr.HALTED; omega
theorem spokeFree_FLOWS_LIVE (t : Nat) : SpokeFree (Addr.FLOWS_LIVE t) := by unfold SpokeFree Addr.FLOWS_LIVE Addr.SPOKE_DETACHED Addr.HALTED; omega
theorem spokeFree_FP_STATUS (p : Nat) : SpokeFree (Addr.FP_STATUS p) := by unfold SpokeFree Addr.FP_STATUS Addr.SPOKE_DETACHED Addr.HALTED; omega
theorem spokeFree_GRID_STATUS (c : Nat) : SpokeFree (Addr.GRID_STATUS c)
    := by unfold SpokeFree Addr.GRID_STATUS Addr.SPOKE_DETACHED Addr.HALTED; omega
theorem spokeFree_HOLDER (c : Nat) : SpokeFree (Addr.HOLDER c) := by unfold SpokeFree Addr.HOLDER Addr.SPOKE_DETACHED Addr.HALTED; omega
theorem spokeFree_LOST (d : Nat) : SpokeFree (Addr.LOST d) := by unfold SpokeFree Addr.LOST Addr.SPOKE_DETACHED Addr.HALTED; omega
theorem spokeFree_NO_ROUTE (p : Nat) : SpokeFree (Addr.NO_ROUTE p) := by unfold SpokeFree Addr.NO_ROUTE Addr.SPOKE_DETACHED Addr.HALTED; omega
theorem spokeFree_PACK_ID : SpokeFree Addr.PACK_ID := by unfold SpokeFree Addr.PACK_ID Addr.SPOKE_DETACHED Addr.HALTED; omega
theorem spokeFree_PROG_BANK (c : Nat) : SpokeFree (Addr.PROG_BANK c) := by unfold SpokeFree Addr.PROG_BANK Addr.SPOKE_DETACHED Addr.HALTED; omega
theorem spokeFree_RD_BYTES (m : Nat) : SpokeFree (Addr.RD_BYTES m) := by unfold SpokeFree Addr.RD_BYTES Addr.SPOKE_DETACHED Addr.HALTED; omega
theorem spokeFree_RING_WRITTEN (d : Nat) : SpokeFree (Addr.RING_WRITTEN d)
    := by unfold SpokeFree Addr.RING_WRITTEN Addr.SPOKE_DETACHED Addr.HALTED; omega
theorem spokeFree_SHED_COUNT : SpokeFree Addr.SHED_COUNT := by unfold SpokeFree Addr.SHED_COUNT Addr.SPOKE_DETACHED Addr.HALTED; omega
theorem spokeFree_SIGNATURES : SpokeFree Addr.SIGNATURES := by unfold SpokeFree Addr.SIGNATURES Addr.SPOKE_DETACHED Addr.HALTED; omega
theorem spokeFree_STATE_REINIT (t : Nat) : SpokeFree (Addr.STATE_REINIT t)
    := by unfold SpokeFree Addr.STATE_REINIT Addr.SPOKE_DETACHED Addr.HALTED; omega
theorem spokeFree_STATE_SKIP (t : Nat) : SpokeFree (Addr.STATE_SKIP t) := by unfold SpokeFree Addr.STATE_SKIP Addr.SPOKE_DETACHED Addr.HALTED; omega
theorem spokeFree_TRACE_CTRL : SpokeFree Addr.TRACE_CTRL := by unfold SpokeFree Addr.TRACE_CTRL Addr.SPOKE_DETACHED Addr.HALTED; omega
theorem spokeFree_WR_BYTES (m : Nat) : SpokeFree (Addr.WR_BYTES m) := by unfold SpokeFree Addr.WR_BYTES Addr.SPOKE_DETACHED Addr.HALTED; omega
theorem spokeFree_CL_STATE (k : Nat) : SpokeFree (Addr.CL_STATE k) := by unfold SpokeFree Addr.CL_STATE Addr.SPOKE_DETACHED Addr.HALTED; omega

theorem spokeFree_ite {c : Prop} [Decidable c] {a b : Nat} (ha : SpokeFree a) (hb : SpokeFree b) : SpokeFree (if c then a else b) := by
  split
  · exact ha
  · exact hb

/-- The state beside an answer, before one, where there is one, and at the end of a triple. -/
def PairHeld {α : Type} (s : State) (r : α × State) : Prop := Held s r.2
def FstHeld {α : Type} (s : State) (r : State × α) : Prop := Held s r.1
def OptHeld (s : State) (o : Option State) : Prop := ∀ t, o = some t → Held s t

section
variable {start s t : State}

theorem held_ite {c : Prop} [Decidable c] (hs : c → Held start s) (ht : ¬ c → Held start t) : Held start (if c then s else t) := by
  split
  · exact hs ‹_›
  · exact ht ‹_›

theorem held_when {c : Prop} [Decidable c] (ok : Held start s) (change : Held start s → Held start t) : Held start (if c then t else s) :=
  held_ite (fun _ => change ok) (fun _ => ok)

theorem held_unless {c : Prop} [Decidable c] (ok : Held start s) (change : Held start s → Held start t) : Held start (if c then s else t) :=
  held_ite (fun _ => ok) (fun _ => change ok)

theorem optHeld_ite {c : Prop} [Decidable c] {o o' : Option State}
    (hs : c → OptHeld start o) (ht : ¬ c → OptHeld start o') : OptHeld start (if c then o else o') := by
  split
  · exact hs ‹_›
  · exact ht ‹_›

theorem optHeld_none : OptHeld start none := by rintro _ ⟨⟩

theorem optHeld_some (h : Held start s) : OptHeld start (some s) := by rintro _ ⟨⟩; exact h

theorem held_foldl {α : Type} {f : State → α → State} {l : List α} (hf : ∀ s x, Held start s → Held start (f s x)) (h : Held start s) :
    Held start (l.foldl f s) := by
  induction l generalizing s with
  | nil => exact h
  | cons x l ih => exact ih (hf s x h)

theorem held_setReg {a v : Nat} (ok : Held start s) (free : SpokeFree a) : Held start (s.setReg a v) := by
  obtain ⟨detached, halts⟩ := free
  refine ⟨ok.out, ok.mute, (State.reg_setReg_other detached.symm s v).trans ok.spokes, fun k hk cause halted => ?_⟩
  obtain ⟨cause, halted⟩ := ok.halted k hk cause halted
  exact ⟨cause, (State.flag_congr (State.reg_setReg_other halts.symm s v) k).trans halted⟩

theorem held_setField {a lo w x : Nat} (ok : Held start s) (free : SpokeFree a) : Held start (s.setField a lo w x) := held_setReg ok free

theorem held_setFlag {a i : Nat} {b : Bool} (ok : Held start s) (free : SpokeFree a) : Held start (s.setFlag a i b) := held_setReg ok free

theorem held_bump32 {a n : Nat} (ok : Held start s) (free : SpokeFree a) : Held start (s.bump32 a n) := held_setReg ok free

theorem held_bump64 {a n : Nat} (ok : Held start s) (free : SpokeFree a) : Held start (s.bump64 a n) := held_setReg ok free

/-- Fields that fences may change as they like; what beat and bridge hold here stays. -/
theorem held_withBeat {pending : List Instr} {fresh now : Nat} {latch : Tab W32} {shadow : Tab W64}
    {beat : BeatState} {time : TimeState} {sessions : List Session} {windows : List Window} {jobs : List Job} {ports : PortState} {hc : HcState}
    {mt : MatchState} {tm : TmState} {mem : MemState} {dataKey : Tab Nat} {signer : Tab Bytes} {models : Tab Selector} {flow : FlowState}
        {cells : Tab CellX}
    {copies : CopyState} {fabric : FabricState} {group : GroupState} {bridge : BridgeState} {obs : ObsState} {integ : IntegState}
    {power : PowerState} {module : ModuleState} {fw : FwState} {secure : SecState} (ok : Held start s)
    (causes : beat.causes = s.beat.causes) (mute : bridge.mute = s.bridge.mute) :
    Held start { s with
      pending, fresh, now, latch, shadow, beat, time, sessions, windows, jobs, ports, hc, mt, tm, mem, dataKey, signer, models, flow, cells,
      copies, fabric, group, bridge, obs, integ, power, module, fw, secure } := by
  refine ⟨ok.out, mute.trans ok.mute, ok.spokes, fun k hk cause halted => ?_⟩
  obtain ⟨cause, halted⟩ := ok.halted k hk cause halted
  refine ⟨?_, halted⟩
  rw [State.haltCauses, causes]
  exact cause

theorem held_with {pending : List Instr} {fresh now : Nat} {latch : Tab W32} {shadow : Tab W64}
    {time : TimeState} {sessions : List Session} {windows : List Window} {jobs : List Job} {ports : PortState} {hc : HcState}
    {mt : MatchState} {tm : TmState} {mem : MemState} {dataKey : Tab Nat} {signer : Tab Bytes} {models : Tab Selector} {flow : FlowState}
        {cells : Tab CellX}
    {copies : CopyState} {fabric : FabricState} {group : GroupState} {obs : ObsState} {integ : IntegState}
    {power : PowerState} {module : ModuleState} {fw : FwState} {secure : SecState} (ok : Held start s) :
    Held start { s with
      pending, fresh, now, latch, shadow, time, sessions, windows, jobs, ports, hc, mt, tm, mem, dataKey, signer, models, flow, cells,
      copies, fabric, group, obs, integ, power, module, fw, secure } := held_withBeat ok rfl rfl

theorem held_emit {o : Output} (ok : Held start s) : Held start (s.emit o) :=
  ⟨ok.out.trans (List.prefix_append ..), ok.mute, ok.spokes, ok.halted⟩

theorem held_writeBytes {u a : Nat} {bs : Bytes} (ok : Held start s) : Held start (s.writeBytes u a bs) := held_with ok
end

/-! Halts that end for a barrier -/

theorem State.flag_setFlag_low {a i j : Nat} (apart : j ≠ i) (low : j < 64) (s : State) (b : Bool) : (s.setFlag a i b).flag a j = s.flag a j := by
  rw [State.flag, State.flag, State.setFlag, State.setField, State.reg_setReg_same, bitAt_eq_testBit, Nat.testBit_mod_two_pow, decide_eq_true low,
    Bool.true_and, ← bitAt_eq_testBit, bitAt_putBits_other (by omega)]

/-- A cluster is shown halted where any cause holds it. -/
theorem flag_showHalt {k j : Nat} (low : j < 64) (s : State) :
    (showHalt k s).flag Addr.HALTED j = if j = k then !(s.haltCauses k).isEmpty else s.flag Addr.HALTED j := by
  unfold showHalt
  extract_lets h t
  have cells : ((clusterCells k).foldl (fun s c => s.setFlag (Addr.CELL_STATE c) 3 h) t).reg Addr.HALTED = t.reg Addr.HALTED :=
    foldl_keeps (State.reg · Addr.HALTED) (fun u c => State.reg_setFlag_other u (spokeFree_CELL_STATE c).2.symm 3 h) _ t
  rw [State.flag_congr cells, State.flag_congr (State.reg_setFlag_other _ (spokeFree_CL_STATE k).2.symm 0 h)]
  split
  · subst j
    exact State.flag_setFlag _ low _
  · exact State.flag_setFlag_low ‹_› low _ _

theorem reg_showHalt {a k : Nat} (s : State) (halts : a ≠ Addr.HALTED) (cluster : a ≠ Addr.CL_STATE k) (cells : ∀ c, a ≠ Addr.CELL_STATE c) :
    (showHalt k s).reg a = s.reg a := by
  unfold showHalt
  rw [foldl_keeps (State.reg · a) (fun u c => State.reg_setFlag_other u (cells c) 3 _), State.reg_setFlag_other _ cluster,
    State.reg_setFlag_other _ halts]

theorem RegsOnly.foldl {α : Type} {f : State → α → State} (hf : ∀ s x, RegsOnly s (f s x)) :
    ∀ (l : List α) (s : State), RegsOnly s (l.foldl f s)
  | [], s => .refl s
  | x :: l, s => (hf s x).trans (RegsOnly.foldl hf l (f s x))

theorem RegsOnly.out {s t : State} (h : RegsOnly s t) : t.out = s.out := by rw [h]
theorem RegsOnly.beat {s t : State} (h : RegsOnly s t) : t.beat = s.beat := by rw [h]
theorem RegsOnly.bridge {s t : State} (h : RegsOnly s t) : t.bridge = s.bridge := by rw [h]

theorem regsOnly_setFlag (s : State) (a i : Nat) (b : Bool) : RegsOnly s (s.setFlag a i b) := regsOnly_setReg s _ _

theorem regsOnly_showHalt (k : Nat) (s : State) : RegsOnly s (showHalt k s) := by
  unfold showHalt
  extract_lets h t
  exact ((regsOnly_setFlag s _ _ _).trans (regsOnly_setFlag _ _ _ _)).trans (.foldl (fun u c => regsOnly_setFlag u _ _ _) _ t)

/-- The state before the halts of a cluster are shown. -/
def withCauses (k : Nat) (l : List HaltCause) (s : State) : State := { s with beat.causes := tabSet [] k l s.beat.causes }

theorem haltCauses_withCauses (j k : Nat) (l : List HaltCause) (s : State) :
    (withCauses k l s).haltCauses j = if j = k then l else s.haltCauses j := by
  rw [State.haltCauses, withCauses]
  split
  · subst j
    exact tabGet_tabSet_same ..
  · exact tabGet_tabSet_other ‹_› ..

theorem haltCauses_setCauses (j k : Nat) (l : List HaltCause) (s : State) : (setCauses k l s).haltCauses j = if j = k then l else s.haltCauses j := by
  rw [← haltCauses_withCauses, State.haltCauses, State.haltCauses, setCauses, (regsOnly_showHalt k _).beat, withCauses]

/-- A cluster is halted exactly for its causes. -/
theorem halted_setCauses {j : Nat} (low : j < 64) (k : Nat) (l : List HaltCause) (s : State) :
    (setCauses k l s).halted j = if j = k then !l.isEmpty else s.halted j := by
  have shown := flag_showHalt (k := k) low (withCauses k l s)
  rw [haltCauses_withCauses, if_pos rfl] at shown
  exact shown

theorem reg_setCauses {a : Nat} (halts : a ≠ Addr.HALTED) (k : Nat) (cluster : a ≠ Addr.CL_STATE k) (cells : ∀ c, a ≠ Addr.CELL_STATE c)
    (l : List HaltCause) (s : State) : (setCauses k l s).reg a = s.reg a := reg_showHalt (withCauses k l s) halts cluster cells

section
variable {start s : State}

theorem held_setCauses {k : Nat} {l : List HaltCause} (ok : Held start s) (keeps : HaltCause.spoke ∈ s.haltCauses k → HaltCause.spoke ∈ l) :
    Held start (setCauses k l s) := by
  have only : RegsOnly (withCauses k l s) (setCauses k l s) := regsOnly_showHalt k _
  have out : (setCauses k l s).out = s.out := only.out
  have bridge : (setCauses k l s).bridge = s.bridge := only.bridge
  refine ⟨by rw [out]; exact ok.out, by rw [bridge]; exact ok.mute,
    (reg_setCauses (by decide) k (spokeFree_CL_STATE k).1.symm (fun c => (spokeFree_CELL_STATE c).1.symm) l s).trans ok.spokes,
    fun j low cause halted => ?_⟩
  replace ⟨cause, halted⟩ := ok.halted j low cause halted
  rw [haltCauses_setCauses, halted_setCauses (by omega)]
  split
  · subst j
    exact ⟨keeps cause, by rw [List.isEmpty_eq_false_iff_exists_mem.mpr ⟨_, keeps cause⟩]; rfl⟩
  · exact ⟨cause, halted⟩

theorem held_unhaltClusters {whys : List HaltCause} {ks : List Nat} (ok : Held start s) (stays : HaltCause.spoke ∉ whys) :
    Held start (unhaltClusters whys ks s) :=
  held_foldl (fun _ _ h => held_setCauses h fun there => List.mem_filter.mpr ⟨there, by simpa using stays⟩) ok
end

section
variable {start : State}

theorem held_recordSend {p : Nat} {k : FabPkt} {s : State} (ok : Held start s) : Held start (recordSend p k s) :=
  held_ite (fun _ => held_with ok) (fun _ => ok)

theorem held_putOut {p : Nat} {k routed : FabPkt} {s : State} (ok : Held start s) : Held start (putOut p k routed s) :=
  held_emit (held_recordSend (held_bump64 (held_with ok) (spokeFree_FLITS_TX _)))

theorem held_takeSeq {h : Header} {n : Nat} {s : State} (ok : Held start s) : PairHeld start (takeSeq h n s) :=
  held_with ok

theorem held_sendCredit {p : Nat} {fields : List Nat} {s : State} (ok : Held start s) : Held start (sendCredit p fields s) :=
  held_putOut (held_takeSeq ok)

theorem held_returnCredit {p vc cls n : Nat} {s : State} (ok : Held start s) : Held start (returnCredit p vc cls n s) :=
  held_ite (fun _ => ok) (fun _ => held_foldl (fun _ _ h1 => held_sendCredit h1) (held_with ok))

theorem held_transmit {p : Nat} {k routed : FabPkt} {s : State} (ok : Held start s) : Held start (transmit p k routed s) := by
  unfold transmit
  dsimp only
  split
  · exact held_unless (held_putOut (held_with ok)) (fun h1 => held_returnCredit h1)
  · exact held_putOut (held_with ok)

theorem held_routeFrom {src : Nat} {k : FabPkt} {s : State} (ok : Held start s) : Held start (routeFrom src k s) := by
  unfold routeFrom
  split
  · exact held_ite (fun _ => held_transmit ok) (fun _ => held_with ok)
  · exact held_with ok
  · split
    · exact held_unless (held_bump32 ok (spokeFree_NO_ROUTE _)) (fun h1 => held_returnCredit h1)
    · exact held_bump32 ok (spokeFree_NO_ROUTE _)
  · exact ok

theorem held_route {k : FabPkt} {s : State} (ok : Held start s) : Held start (route k s) :=
  held_routeFrom ok

theorem held_routeHeld {s : State} (ok : Held start s) : Held start (routeHeld s) :=
  held_foldl (fun _ _ h1 => held_route h1) (held_with ok)

theorem held_sendRaw {h : Header} {data : List W256} {s : State} (ok : Held start s) : Held start (sendRaw h data s) :=
  held_routeFrom (held_takeSeq ok)

theorem held_sendCmd {dst : Nat} {packet : Bytes} {s : State} (ok : Held start s) : Held start (sendCmd dst packet s) :=
  held_sendRaw ok

theorem held_signal {v : Nat} {s : State} (ok : Held start s) : Held start (signal v s) :=
  held_ite (fun _ => held_withBeat ok rfl rfl) (fun _ => held_emit ok)

theorem held_ringPacket {opcode : Nat} {packet : Bytes} {out : Output}
    {s : State} (ok : Held start s) : Held start (ringPacket opcode packet out s) :=
  held_ite (fun _ => held_bump32 ok spokeFree_EVQ_LOST) (fun _ => held_signal (held_emit (held_withBeat ok rfl rfl)))

theorem held_sendEvent {x : Session} {s : State} {q : Nat × Event} (ok : Held start s) : Held start (sendEvent x s q) := by
  unfold sendEvent
  refine held_bump64  ?_ spokeFree_EVENTS_SENT
  split
  · exact held_ringPacket ok
  · exact held_sendCmd (held_emit ok)
  · exact held_emit ok

theorem held_sendEvents {s : State} (ok : Held start s) : Held start (sendEvents s) :=
  held_foldl (fun _ _ h1 => held_foldl (fun _ _ h2 => held_sendEvent h2) h1) (held_with ok)

theorem held_traceEvent {opcode : Nat} {s : State} (ok : Held start s) : Held start (traceEvent opcode s) := by
  unfold traceEvent
  split
  · exact held_ite (fun _ => held_with ok) (fun _ => ok)
  · exact ok

theorem held_deliverTo {sel : Session → Bool} {e : Event} {s : State} (ok : Held start s) : Held start (deliverTo sel e s) :=
  held_sendEvents (held_bump32 (held_with ok) spokeFree_EVENTS_LOST)

theorem held_deliver {e : Event} {s : State} (ok : Held start s) : Held start (deliver e s) :=
  held_deliverTo (held_traceEvent ok)

theorem held_raiseEvent {s : State} {opcode tenant : Nat} {body : List Nat}
    {region : Nat} (ok : Held start s) : Held start (State.raiseEvent s opcode tenant body region) :=
  held_deliver ok

theorem held_closeWindow {opcode key : Nat} {s : State} (ok : Held start s) : Held start (closeWindow opcode key s) := by
  unfold closeWindow
  split
  · exact ok
  · exact held_deliver (held_with ok)

theorem held_coalesce {e : Event} {key length : Nat} {merge : List Nat → List Nat → List Nat}
    {s : State} (ok : Held start s) : Held start (coalesce e key length merge s) := by
  unfold coalesce
  split
  · exact held_ite (fun _ => held_with ok) (fun _ => held_with (held_closeWindow ok))
  · exact held_with ok

theorem held_coalesceEvent {s : State} {opcode tenant key length : Nat} {body : List Nat}
    {region : Nat} (ok : Held start s) : Held start (State.coalesceEvent s opcode tenant key length body region) :=
  held_coalesce ok

theorem held_noteUncorr {s : State} {place index : Nat} (ok : Held start s) : Held start (State.noteUncorr s place index) :=
  held_coalesceEvent ok

theorem held_countHbm {write : Bool} {a n : Nat} {s : State} (ok : Held start s) : Held start (countHbm write a n s) :=
  held_foldl (fun _ _ h1 => held_bump64 h1 (spokeFree_ite (spokeFree_WR_BYTES _) (spokeFree_RD_BYTES _))) ok

theorem held_storeBytes {s : State} {t a : Nat} {bs : Bytes} (ok : Held start s) : Held start (State.storeBytes s t a bs) :=
  held_countHbm (held_writeBytes ok)

theorem held_updJob {s : State} {tenant id : Nat} {f : Job → Job} (ok : Held start s) : Held start (State.updJob s tenant id f) :=
  held_with ok

theorem held_setJobState {tenant id st status : Nat} {s : State} (ok : Held start s) : Held start (setJobState tenant id st status s) := by
  unfold setJobState
  split
  · exact ok
  · exact held_unless (held_updJob ok) (fun h1 => held_raiseEvent h1)

theorem held_updPacket {s : State} {id : Nat} {f : Pkt → Pkt} (ok : Held start s) : Held start (State.updPacket s id f) :=
  held_with ok

theorem held_setSelector {s : State} {t sel : Nat} {x : Selector} (ok : Held start s) : Held start (State.setSelector s t sel x) :=
  held_with ok

theorem held_toVerdictPass {id verdict src : Nat} {s : State} (ok : Held start s) : Held start (toVerdictPass id verdict src s) :=
  held_updPacket ok

theorem held_updLine {s : State} {key : Nat} {f : FlowLine → FlowLine} (ok : Held start s) : Held start (State.updLine s key f) :=
  held_with ok

theorem held_putHot {s : State} {t r hot : Nat} (ok : Held start s) : Held start (State.putHot s t r hot) := by
  unfold State.putHot
  split
  · exact held_updLine ok
  · exact held_storeBytes ok

theorem held_writeDigest {t r reason : Nat} {coldBad : Bool} {s : State} (ok : Held start s) : Held start (writeDigest t r reason coldBad s) :=
  held_ite (fun _ => held_bump32 ok (spokeFree_DIGEST_LOST _)) (fun _ => held_ite (fun _ =>
      held_bump32 (held_countHbm ok) (spokeFree_DIGEST_LOST _)) (fun _ =>
      held_storeBytes (held_storeBytes (held_countHbm ok))))

theorem held_noteCold {bad : Bool} {t : Nat} {s : State} (ok : Held start s) : Held start (noteCold bad t s) :=
  held_ite (fun _ => held_noteUncorr ok) (fun _ => ok)

theorem held_endFlow {t r reason : Nat} {coldBad : Bool} {s : State} (ok : Held start s) : Held start (endFlow t r reason coldBad s) :=
  held_ite (fun _ => ok) (fun _ =>
      held_setReg (held_bump32 (held_putHot (held_noteCold (held_writeDigest ok))) (spokeFree_FLOWS_ENDED _)) (spokeFree_FLOWS_LIVE _))

theorem held_readsColdBad {s : State} (ok : Held start s) : PairHeld start (readsColdBad s) :=
  held_with ok

theorem held_endIfRetired {t r : Nat} {s : State} (ok : Held start s) : Held start (endIfRetired t r s) :=
  held_ite (fun _ => held_endFlow (held_readsColdBad ok)) (fun _ => ok)

theorem held_updCell {s : State} {c : Nat} {f : CellX → CellX} (ok : Held start s) : Held start (State.updCell s c f) :=
  held_with ok

theorem held_sendVector {id : Nat} {s : State} (ok : Held start s) : Held start (sendVector id s) := by
  unfold sendVector
  split
  · exact ok
  · exact held_foldl (fun _ _ h1 => held_updCell h1) (held_updPacket (held_setSelector ok))

theorem held_startInference {id : Nat} {s : State} (ok : Held start s) : Held start (startInference id s) := by
  unfold startInference
  split
  · exact ok
  · refine held_ite (fun _ => held_sendVector ok) (fun _ => ?_)
    split
    · exact held_sendVector (held_updPacket (held_ite (fun _ => held_bump32 ok (spokeFree_STATE_REINIT _)) (fun _ => ok)))
    · exact held_sendVector (held_updPacket ok)

theorem held_chainOrInfer {id : Nat} {s : State} (ok : Held start s) : Held start (chainOrInfer id s) := by
  unfold chainOrInfer
  split
  · exact ok
  · exact held_ite (fun _ => held_startInference ok) (fun _ => held_ite (fun _ =>
      held_toVerdictPass (held_updPacket (held_bump32 ok (spokeFree_STATE_SKIP _)))) (fun _ => held_updPacket ok))

theorem held_startOrShed {id : Nat} {shed : Bool} {s : State} (ok : Held start s) : Held start (startOrShed id shed s) := by
  unfold startOrShed
  refine held_ite (fun _ => ?_) (fun _ => held_chainOrInfer ok)
  split
  · exact held_toVerdictPass (held_updPacket (held_bump64 ok spokeFree_SHED_COUNT))
  · exact ok

theorem held_startChained {x : Pkt} {s : State} (ok : Held start s) : Held start (startChained x s) :=
  held_ite (fun _ => held_toVerdictPass (held_updPacket ok)) (fun _ => held_ite (fun _ => held_startInference ok) (fun _ =>
      held_ite (fun _ => held_startOrShed ok) (fun _ => ok)))

theorem held_startChains {some_ : Pkt → Bool} {s : State} (ok : Held start s) : Held start (startChains some_ s) :=
  held_foldl (fun _ _ h1 => held_ite (fun _ => held_startChained h1) (fun _ => h1)) ok

theorem held_advanceChain {q : Pkt} {s : State} (ok : Held start s) : Held start (advanceChain q s) := by
  unfold advanceChain
  dsimp only
  split
  · exact held_unless (held_startChains ok) (fun h1 => held_endIfRetired h1)
  · exact held_startChains ok

theorem held_setRing {s : State} {d : Nat} {r : StippleRing} (ok : Held start s) : Held start (State.setRing s d r) :=
  held_with ok

theorem held_spill {d seq : Nat} {w : W256} {x : TraceSession} {s : State} (ok : Held start s) : Held start (spill d seq w x s) :=
  held_ite (fun _ => ok) (fun _ => held_storeBytes ok)

theorem held_stopRing {d : Nat} {x : TraceSession} {s : State} (ok : Held start s) : Held start (stopRing d x s) :=
  held_when (held_setRing ok) (fun h1 => held_raiseEvent (held_setFlag h1 spokeFree_TRACE_CTRL))

theorem held_appendRecord {d : Nat} {w : W256} {s : State} (ok : Held start s) : Held start (appendRecord d w s) := by
  unfold appendRecord
  split
  · exact ok
  · refine held_ite (fun _ => ok) (fun _ => ?_)
    dsimp only
    split
    · exact held_when (held_setRing (held_bump32 (held_spill ok) (spokeFree_RING_WRITTEN _))) (fun h1 => held_stopRing h1)
    · exact held_ite (fun _ => held_when (held_setRing (held_bump32 (held_spill ok) (spokeFree_RING_WRITTEN _))) (fun h2 =>
        held_stopRing h2)) (fun _ =>
        held_coalesceEvent (held_bump32 (held_setRing (held_bump32 (held_spill ok) (spokeFree_RING_WRITTEN _))) (spokeFree_LOST _)))

theorem held_dropRecord {d : Nat} {w : W256} {s : State} (ok : Held start s) : Held start (dropRecord d w s) := by
  unfold dropRecord
  split
  · exact ok
  · exact held_coalesceEvent (held_bump32 (held_setRing ok) (spokeFree_LOST _))

theorem held_acceptRecord {d : Nat} {w : W256} {s : State} (ok : Held start s) : Held start (acceptRecord d w s) :=
  held_ite (fun _ => held_appendRecord ok) (fun _ => held_appendRecord (held_appendRecord (held_setRing ok)))

theorem held_writeRecord {d : Nat} {w : W256} {s : State} (ok : Held start s) : Held start (writeRecord d w s) :=
  held_ite (fun _ => held_dropRecord ok) (fun _ => held_acceptRecord ok)

theorem held_noteSends {s : State} (ok : Held start s) : Held start (noteSends s) :=
  held_foldl (fun _ _ h1 => held_writeRecord h1) (held_with ok)

theorem held_retryHeld {s : State} (ok : Held start s) : Held start (retryHeld s) :=
  held_noteSends (held_routeHeld ok)

theorem held_sendPacket {h : Header} {data : List W256} {s : State} (ok : Held start s) : Held start (sendPacket h data s) :=
  held_noteSends (held_sendRaw ok)

theorem held_portDown {p cause : Nat} {s : State} (ok : Held start s) : Held start (portDown p cause s) :=
  held_retryHeld (held_when (held_with (held_setField (held_setFlag ok (spokeFree_FP_STATUS _)) (spokeFree_FP_STATUS _))) (fun h1 =>
      held_raiseEvent h1))

theorem held_setStore {s : State} {c w : Nat} {v : W256} (ok : Held start s) : Held start (State.setStore s c w v) :=
  held_with ok

theorem held_bumpArrive {c ctr : Nat} {s : State} (ok : Held start s) : Held start (bumpArrive c ctr s) :=
  held_bump32 ok (spokeFree_ARRIVE _ _)

theorem held_leaveTrace {c st tenant : Nat} {s : State} (ok : Held start s) : Held start (leaveTrace c st tenant s) := by
  unfold leaveTrace
  split
  · exact held_ite (fun _ => held_with ok) (fun _ => ok)
  · exact ok

theorem held_setCellState {c st tenant : Nat} {s : State} (ok : Held start s) : Held start (setCellState c st tenant s) :=
  held_setFlag (held_leaveTrace (held_setField (held_setField ok (spokeFree_CELL_STATE _)) (spokeFree_CELL_STATE _))) (spokeFree_CELL_STATE _)

theorem held_stopCell {c : Nat} {s : State} (ok : Held start s) : Held start (stopCell c s) :=
  held_withBeat (held_updCell (held_setFlag (held_setReg (held_setReg ok (spokeFree_COMMIT_OCC _)) (spokeFree_COPYQ_STATUS _))
      (spokeFree_CELL_STATE _))) rfl rfl

theorem held_returnCells {j : Job} {s : State} (ok : Held start s) : Held start (returnCells j s) :=
  held_with (held_unhaltClusters (held_foldl (fun _ _ h1 => held_updCell (held_setReg (held_stopCell h1) (spokeFree_HOLDER _))) ok) (by decide))

theorem held_endJob {tenant id st status : Nat} {s : State} (ok : Held start s) : Held start (endJob tenant id st status s) := by
  unfold endJob
  split
  · exact held_ite (fun _ => held_setJobState (held_returnCells ok)) (fun _ => ok)
  · exact ok

theorem held_failJob {tenant id status : Nat} {s : State} (ok : Held start s) : Held start (failJob tenant id status s) :=
  held_endJob ok

theorem held_failBack {tenant id status : Nat} {s : State} (ok : Held start s) : Held start (failBack tenant id status s) := by
  unfold failBack
  split
  · exact ok
  · exact held_ite (fun _ => ok) (fun _ => held_ite (fun _ => held_failJob ok) (fun _ => held_ite (fun _ => held_failJob ok) (fun _ =>
      held_setJobState (held_updJob (held_with (held_unhaltClusters (held_foldl (fun _ _ h1 => held_stopCell h1) ok) (by decide)))))))

theorem held_updSlot {s : State} {zone slot : Nat} {f : LandSlot → LandSlot} (ok : Held start s) : Held start (State.updSlot s zone slot f) :=
  held_with ok

theorem held_copyStore {src c w : Nat} {v : W256} {s : State} (ok : Held start s) : Held start (copyStore src c w v s) :=
  held_ite (fun _ => ok) (fun _ => held_with (held_setStore ok))

theorem held_writeSpan {s : State} {t src ty off : Nat} {v : W256} (ok : Held start s) : Held start (State.writeSpan s t src ty off v) :=
  held_ite (fun _ => held_copyStore ok) (fun _ => held_ite (fun _ => ok) (fun _ => held_with (held_storeBytes ok)))

theorem held_syncQueues {c : Nat} {s : State} (ok : Held start s) : Held start (syncQueues c s) :=
  held_setField (held_setField ok (spokeFree_COPYQ_STATUS _)) (spokeFree_COPYQ_STATUS _)

theorem held_publish {z : Zone} {i : Nat} {s : State} (ok : Held start s) : Held start (publish z i s) := by
  unfold publish
  exact held_updSlot (held_foldl (fun _ _ h1 => held_bumpArrive h1) ok)

theorem held_confirmTuple {src job step attempt : Nat} {s : State} (ok : Held start s) : Held start (confirmTuple src job step attempt s) :=
  held_foldl (fun _ _ h1 => held_ite (fun _ => held_updSlot h1) (fun _ => held_publish h1)) ok

theorem held_dropPending {zone slot : Nat} {s : State} (ok : Held start s) : Held start (dropPending zone slot s) :=
  held_updSlot ok

theorem held_revokeTuple {src job step attempt : Nat} {s : State} (ok : Held start s) : Held start (revokeTuple src job step attempt s) :=
  held_foldl (fun _ _ h1 => held_dropPending h1) ok

theorem held_endReads {flight : Nat} {s : State} (ok : Held start s) : Held start (endReads flight s) := by
  unfold endReads
  refine held_foldl (fun _ _ h1 => ?_) (held_with ok)
  split
  · exact held_ite (fun _ => held_publish h1) (fun _ => h1)
  · exact h1

theorem held_sendToken {ty : Nat} {x : SendList} {dev : Nat} {s : State} (ok : Held start s) : Held start (sendToken ty x dev s) :=
  held_sendPacket ok

theorem held_updSend {s : State} {id : Nat} {f : SendList → SendList} (ok : Held start s) : Held start (State.updSend s id f) :=
  held_with ok

theorem held_resendList {x : SendList} {s : State} (ok : Held start s) : Held start (resendList x s) :=
  held_syncQueues (held_updCell (held_updSend ok))

theorem held_advanceSend {id : Nat} {s : State} (ok : Held start s) : Held start (advanceSend id s) := by
  unfold advanceSend
  split
  · exact ok
  · refine held_ite (fun _ => ok) (fun _ => ?_)
    split
    · exact ok
    · exact held_ite (fun _ => ok) (fun _ => held_with (held_foldl (fun _ _ h1 => held_ite (fun _ => held_confirmTuple h1) (fun _ =>
        held_sendToken h1)) ok))
    · exact held_ite (fun _ => ok) (fun _ => held_ite (fun _ => held_with ok) (fun _ => held_ite (fun _ => held_resendList ok) (fun _ => ok)))

theorem held_sendRevokes {id : Nat} {s : State} (ok : Held start s) : Held start (sendRevokes id s) := by
  unfold sendRevokes
  split
  · exact ok
  · exact held_unless (held_updSend ok) (fun h1 => held_updSend (held_foldl (fun _ _ h2 => held_ite (fun _ => held_revokeTuple h2) (fun _ =>
      held_sendToken h2)) h1))

theorem held_advanceSends {s : State} (ok : Held start s) : Held start (advanceSends s) :=
  held_foldl (fun _ _ h1 => held_advanceSend (held_sendRevokes h1)) ok

theorem held_syncCell {c : Nat} {s : State} (ok : Held start s) : Held start (syncCell c s) :=
  held_setReg (held_updCell (held_setReg (held_setReg ok (spokeFree_HOLDER _)) (spokeFree_PROG_BANK _))) (spokeFree_GRID_STATUS _)

theorem held_dropCell {key i c : Nat} {s : State} (ok : Held start s) : Held start (dropCell key i c s) :=
  held_syncCell (held_updCell ok)

theorem held_dropCells {key i : Nat} {cells : List Nat} {s : State} (ok : Held start s) : Held start (dropCells key i cells s) :=
  held_foldl (fun _ _ h1 => held_dropCell h1) ok

theorem held_updModelSlot {s : State} {key i : Nat} {f : Slot → Slot} (ok : Held start s) : Held start (State.updModelSlot s key i f) :=
  held_with ok

theorem held_freePlacement {key i : Nat} {s : State} (ok : Held start s) : Held start (freePlacement key i s) :=
  held_dropCells (held_updModelSlot ok)

theorem held_exchangeCell {c : Nat} {s : State} (ok : Held start s) : Held start (exchangeCell c s) :=
  held_syncCell (held_setReg (held_updCell ok) (spokeFree_PROG_BANK _))

theorem held_putPlacement {key i : Nat} {s : State} (ok : Held start s) : Held start (putPlacement key i s) :=
  held_foldl (fun _ _ h1 => held_foldl (fun _ _ h2 => held_syncCell (held_updCell (held_ite (fun _ => held_exchangeCell h2) (fun _ =>
      h2)))) h1) ok

theorem held_checkDrain {t sel : Nat} {s : State} (ok : Held start s) : Held start (checkDrain t sel s) := by
  unfold checkDrain
  dsimp only
  split
  · exact held_ite (fun _ => held_setSelector ok) (fun _ => ok)
  · exact held_ite (fun _ => ok) (fun _ => held_when (held_raiseEvent (held_setSelector ok)) (fun h1 =>
      held_updModelSlot (held_freePlacement h1)))

theorem held_checkDrains {s : State} (ok : Held start s) : Held start (checkDrains s) :=
  held_foldl (fun _ _ h1 => held_checkDrain h1) ok

theorem held_replaceSlot {t sel i : Nat} {s : State} (ok : Held start s) : OptHeld start (replaceSlot t sel i s) := by
  unfold replaceSlot
  dsimp only
  split
  · exact optHeld_ite (fun _ => optHeld_none) (fun _ => optHeld_some (held_putPlacement (held_updModelSlot (held_freePlacement ok))))
  · exact optHeld_none

theorem held_degradeSlot {t sel i c : Nat} {s : State} (ok : Held start s) : Held start (degradeSlot t sel i c s) := by
  unfold degradeSlot
  refine held_ite (fun _ => ok) (fun _ => ?_)
  refine held_ite (fun _ => ?_) (fun _ => ?_)
  · split
    · exact held_raiseEvent (held_updModelSlot (held_dropCells (held_updModelSlot ok)))
    · exact held_raiseEvent (held_updModelSlot (held_dropCells (held_updModelSlot ok)))
  · split
    · rename_i heq
      have h1 := (held_replaceSlot (held_dropCells (held_updModelSlot ok))) _ heq
      exact held_raiseEvent h1
    · exact held_raiseEvent (held_updModelSlot (held_freePlacement (held_dropCells (held_updModelSlot ok))))

theorem held_degradeModels {c : Nat} {s : State} (ok : Held start s) : Held start (degradeModels c s) :=
  held_foldl (fun _ _ h1 => held_foldl (fun _ _ h2 => held_ite (fun _ => held_degradeSlot h2) (fun _ => h2)) h1) (held_foldl (fun _ _ h3 =>
      held_foldl (fun _ _ h4 => held_ite (fun _ => held_degradeSlot h4) (fun _ => h4)) h3) ok)

theorem held_writeRecordHere {tenant stats : Nat} {ws : List W256} {s : State} (ok : Held start s) : Held start (writeRecordHere tenant stats ws s) :=
  held_foldl (fun _ _ h1 => held_writeSpan h1) ok

theorem held_putRec {s : State} {key i : Nat} {r : RegionRec} (ok : Held start s) : Held start (State.putRec s key i r) :=
  held_updModelSlot ok

theorem held_recordWindow {t sel i w : Nat} {s : State} (ok : Held start s) : Held start (recordWindow t sel i w s) :=
  held_ite (fun _ => held_putRec (held_writeRecordHere ok)) (fun _ => ok)

theorem held_closeWindows {q : Pkt} {s : State} (ok : Held start s) : Held start (closeWindows q s) := by
  unfold closeWindows
  split
  · exact ok
  · exact held_foldl (fun _ _ h1 => held_recordWindow h1) ok

theorem held_writeSignature {f : Failure} {s : State} (ok : Held start s) : Held start (writeSignature f s) :=
  held_raiseEvent (held_bump32 (held_with (held_with ok)) spokeFree_SIGNATURES)

theorem held_defaultVector {src : Nat} {q : Pkt} {s : State} (ok : Held start s) : Held start (defaultVector src q s) :=
  held_checkDrains (held_advanceChain (held_closeWindows (held_toVerdictPass (held_updPacket (held_foldl (fun _ _ h1 =>
      held_updCell h1) ok)))))

theorem held_reclaimCell {c : Nat} {vectors : List Pkt} {s : State} (ok : Held start s) : FstHeld start (reclaimCell c vectors s) :=
  held_foldl (fun _ _ h1 => held_defaultVector h1) (held_advanceSends (held_foldl (fun _ _ h2 =>
      held_endReads h2) (held_syncQueues (held_setReg (held_updCell (held_with ok)) (spokeFree_COMMIT_OCC _)))))

theorem held_restartHolder {c : Nat} {s : State} (ok : Held start s) : Held start (restartHolder c s) := by
  unfold restartHolder
  split
  · exact held_advanceSends (held_failBack ok)
  · exact ok

theorem held_takePack {pack : Nat × List (Nat × Nat)} {s : State} (ok : Held start s) : Held start (takePack pack s) :=
  held_raiseEvent (held_setReg (held_with ok) spokeFree_PACK_ID)

theorem held_applyNextPack {s : State} (ok : Held start s) : Held start (applyNextPack s) := by
  unfold applyNextPack
  split
  · exact held_takePack ok
  · exact ok

theorem held_abandonTest {c : Nat} {s : State} (ok : Held start s) : Held start (abandonTest c s) :=
  held_when (held_setFlag ok (spokeFree_CELL_STATE _)) (fun h1 => held_applyNextPack (held_with h1))

theorem held_closeFenced {c : Nat} {s : State} (ok : Held start s) : Held start (closeFenced c s) := by
  unfold closeFenced
  exact held_updCell (held_withBeat (held_setFlag (held_setReg ok (spokeFree_HOLDER _)) (spokeFree_CELL_STATE _)) rfl rfl)

theorem held_holdFence {keep : Bool} {f : Failure} {s : State} (ok : Held start s) : Held start (holdFence keep f s) :=
  held_ite (fun _ => ok) (fun _ => held_withBeat ok rfl rfl)

theorem held_fenceAs {keep : Bool} {f : Failure} {s0 : State} (ok : Held start s0) : Held start (fenceAs keep f s0) :=
  held_ite (fun _ => ok) (fun _ => held_ite (fun _ => held_holdFence ok) (fun _ =>
      held_raiseEvent (held_bump32 (held_updCell (held_checkDrains (held_startChains (held_abandonTest (held_unless
      (held_reclaimCell (held_degradeModels (held_restartHolder (held_unless (held_writeSignature ok) (fun h2 =>
      held_setFlag (held_setCellState h2) (spokeFree_FENCED _)))))) (fun h1 => held_closeFenced h1)))))) spokeFree_FENCES)))

end
end Sys2Proof.Machine

/-!
PROOFS. A statement about fences that fails where a job has halted a cluster that the device does not have.
-/
namespace Sys2Proof.Machine

/-! A barrier reached by no cluster of the device -/

/-- A device whose job of cell 0 is at a barrier with a cluster 0x800, where no cluster is. -/
def atNoCluster : State := attended { running with jobs := [{ jobIn 1 with cells := [0], atBarrier := [0x800] }] }

/-- The parameters that name cell 0. -/
def cellZero : Bytes := toLE 32 1

theorem keeps_fenceCell (f : Failure) (s : State) : Keeps s (fenceCell f s) := (held_fenceAs (.refl s)).keeps

theorem keeps_cmdFenceCell (e : Env) (p : Bytes) (s : State) : Keeps s (cmdFenceCell e p s).2 := by
  unfold cmdFenceCell
  refine keeps_ite (.refl s) (keeps_ite (.refl s) ?_)
  exact .foldl (fun t c => keeps_fenceCell { kind := 6, cell := c } t) _ s

/-- Refutes O47: CL_STATE of a cluster 0x800, where no cluster is, stands at the address of CELL_STATE of cell 0, so that a job that restarts there
leaves its fenced cell 0 in state 2. -/
theorem not_integrityCommandsComplete : ¬ Obligations.IntegrityCommandsComplete := by
  unfold Obligations.IntegrityCommandsComplete
  intro h
  have ready_ : ready ownCmd ownSession atNoCluster = true := by decide +kernel
  obtain ⟨_, _, fenced, _⟩ := h ownCmd ownSession atNoCluster cellZero ready_ rfl
  obtain ⟨t, ⟨last, _⟩, same⟩ := unsaid_of_completes (f := cmdFenceCell) (op := 0x0704) rfl ready_ (by decide) (by decide)
    keeps_cmdFenceCell (by decide +kernel) (fenced (by decide))
  have kept : t.unsaid.cellState 0 = _ := congrArg (State.cellState · 0) same
  exact absurd ((last 0 (by decide +kernel)).symm.trans kept) (by decide +kernel)
end Sys2Proof.Machine

/-!
PROOFS. Beats as they are issued, and the halts and releases of clusters (R36, R37, R47, R49).
-/
namespace Sys2Proof.Machine

/-! What a beat leaves alone -/

theorem Told.sessionIds {s t : State} (h : Told s t) : t.sessions.map Session.id = s.sessions.map Session.id := by
  have ids (l : List Session) : l.map Session.id = (l.map Session.unqueued).map Session.id := by rw [List.map_map]; rfl
  rw [ids, h.sessions, ← ids]

/-- `t` differs from `s` in no table, and in no identity of a session. -/
structure SameTables (s t : State) : Prop where
  mem : t.mem = s.mem
  jobs : t.jobs = s.jobs
  models : t.models = s.models
  ports : t.ports = s.ports
  mt : t.mt = s.mt
  hc : t.hc = s.hc
  tm : t.tm = s.tm
  flow : t.flow = s.flow
  copies : t.copies = s.copies
  ids : t.sessions.map Session.id = s.sessions.map Session.id

theorem SameTables.refl (s : State) : SameTables s s := ⟨rfl, rfl, rfl, rfl, rfl, rfl, rfl, rfl, rfl, rfl⟩

theorem SameTables.trans {s t u : State} (h : SameTables s t) (h' : SameTables t u) : SameTables s u :=
  ⟨h'.mem.trans h.mem, h'.jobs.trans h.jobs, h'.models.trans h.models, h'.ports.trans h.ports, h'.mt.trans h.mt, h'.hc.trans h.hc,
    h'.tm.trans h.tm, h'.flow.trans h.flow, h'.copies.trans h.copies, h'.ids.trans h.ids⟩

theorem Coalesced.sameTables {s t : State} (h : Coalesced s t) : SameTables s t :=
  ⟨h.mem, h.jobs, h.models, h.ports, h.mt, h.hc, h.tm, h.flow, h.copies, h.told.sessionIds⟩

theorem RegsOnly.sameTables {s t : State} (h : RegsOnly s t) : SameTables s t := by
  rw [h]
  exact ⟨rfl, rfl, rfl, rfl, rfl, rfl, rfl, rfl, rfl, rfl⟩

theorem sameTables_beat (s : State) (b : BeatState) : SameTables s { s with beat := b } := ⟨rfl, rfl, rfl, rfl, rfl, rfl, rfl, rfl, rfl, rfl⟩

/-- `SameTables`, and neither the last issue nor a capture that waits changes. -/
structure Ticked (s t : State) : Prop extends SameTables s t where
  lastIssue : t.beat.lastIssue = s.beat.lastIssue
  snap : t.beat.snapPending = s.beat.snapPending

theorem Ticked.refl (s : State) : Ticked s s := ⟨.refl s, rfl, rfl⟩

theorem Ticked.trans {s t u : State} (h : Ticked s t) (h' : Ticked t u) : Ticked s u :=
  ⟨h.toSameTables.trans h'.toSameTables, h'.lastIssue.trans h.lastIssue, h'.snap.trans h.snap⟩

theorem Coalesced.ticked {s t : State} (h : Coalesced s t) : Ticked s t := ⟨h.sameTables, by rw [h.beat], by rw [h.beat]⟩

theorem RegsOnly.ticked {s t : State} (h : RegsOnly s t) : Ticked s t := ⟨h.sameTables, by rw [h.beat], by rw [h.beat]⟩

/-- The registers that a beat counts in: the root's count, the stretched beats, and the captured count. -/
def BeatCount (a : Nat) : Prop := a = Addr.ZC_ROOT ∨ a = Addr.STRETCH_COUNT ∨ a = Addr.SNAP_ZC

theorem BeatCount.untold {a : Nat} (ha : BeatCount a) : UntoldReg a := by
  rcases ha with rfl | rfl | rfl <;> exact untoldReg_of (by decide) (by decide) (by decide)

/-- `Ticked`, and the registers of `BeatCount` stay. -/
structure Paced (s t : State) : Prop where
  ticked : Ticked s t
  reg : ∀ a, BeatCount a → t.reg a = s.reg a

theorem Paced.refl (s : State) : Paced s s := ⟨.refl s, fun _ _ => rfl⟩

theorem Paced.trans {s t u : State} (h : Paced s t) (h' : Paced t u) : Paced s u :=
  ⟨h.ticked.trans h'.ticked, fun a ha => (h'.reg a ha).trans (h.reg a ha)⟩

theorem Paced.ite {s t u : State} {c : Prop} [Decidable c] (h : Paced s t) (h' : Paced s u) : Paced s (if c then t else u) := by
  split
  · exact h
  · exact h'

theorem Paced.foldl {α : Type} {f : State → α → State} (hf : ∀ s x, Paced s (f s x)) : ∀ (l : List α) (s : State), Paced s (l.foldl f s)
  | [], s => .refl s
  | x :: l, s => (hf s x).trans (Paced.foldl hf l (f s x))

theorem Coalesced.paced {s t : State} (h : Coalesced s t) : Paced s t := ⟨h.ticked, fun _ ha => h.reg ha.untold⟩

theorem paced_raiseEvent (s : State) (opcode tenant : Nat) (body : List Nat) : Paced s (s.raiseEvent opcode tenant body) :=
  (told_raiseEvent s _ _ _ _).coalesced.paced

/-- A register that a beat does not count in. -/
def Uncounted (a : Nat) : Prop := a ≠ Addr.ZC_ROOT ∧ a ≠ Addr.STRETCH_COUNT ∧ a ≠ Addr.SNAP_ZC

theorem paced_setReg {a : Nat} (other : Uncounted a) (s : State) (v : Nat) : Paced s (s.setReg a v) := by
  refine ⟨(regsOnly_setReg s a v).ticked, fun b hb => State.reg_setReg_other ?_ s v⟩
  obtain ⟨root, stretch, snap⟩ := other
  rcases hb with rfl | rfl | rfl
  · exact root.symm
  · exact stretch.symm
  · exact snap.symm

theorem paced_setFlag {a : Nat} (other : Uncounted a) (s : State) (i : Nat) (b : Bool) : Paced s (s.setFlag a i b) := paced_setReg other s _

theorem uncounted_of_cluster {a : Nat} (far : 0x8000000 ≤ a) : Uncounted a := by
  unfold Uncounted Addr.ZC_ROOT Addr.STRETCH_COUNT Addr.SNAP_ZC
  omega

theorem uncounted_CL_STATE (k : Nat) : Uncounted (Addr.CL_STATE k) := uncounted_of_cluster (by unfold Addr.CL_STATE; omega)

theorem uncounted_ZC_INLINE (k : Nat) : Uncounted (Addr.ZC_INLINE k) := uncounted_of_cluster (by unfold Addr.ZC_INLINE; omega)

theorem uncounted_ZC_BULK (k : Nat) : Uncounted (Addr.ZC_BULK k) := uncounted_of_cluster (by unfold Addr.ZC_BULK; omega)

theorem uncounted_CELL_STATE (c : Nat) : Uncounted (Addr.CELL_STATE c) := uncounted_of_cluster (by unfold Addr.CELL_STATE; omega)

theorem uncounted_BEAT_STATUS : Uncounted Addr.BEAT_STATUS := ⟨by decide, by decide, by decide⟩

/-- A change of the beat's own state but for the last issue and a capture that waits. -/
theorem paced_beat {b : BeatState}
    (s : State) (lastIssue : b.lastIssue = s.beat.lastIssue := by rfl) (snap : b.snapPending = s.beat.snapPending := by rfl) :
    Paced s { s with beat := b } :=
  ⟨⟨sameTables_beat s b, lastIssue, snap⟩, fun _ _ => rfl⟩

theorem paced_advance (t : Nat) (s : State) : Paced s (advance t s) :=
  ⟨⟨⟨rfl, rfl, rfl, rfl, rfl, rfl, rfl, rfl, rfl, rfl⟩, rfl, rfl⟩, fun _ _ => rfl⟩

theorem paced_bumpCells {f : Nat → Nat} (other : ∀ c, Uncounted (f c)) (cs : List Nat) (s : State) : Paced s (bumpCells f cs s) :=
  .foldl (fun s c => paced_setReg (other c) s _) cs s

theorem paced_latchCalms (s : State) : Paced s (latchCalms s) := paced_beat s

theorem uncounted_CALMED_BEATS (c : Nat) : Uncounted (Addr.CALMED_BEATS c) := uncounted_of_cluster (by unfold Addr.CALMED_BEATS; omega)

theorem uncounted_BUSY_BEATS (c : Nat) : Uncounted (Addr.BUSY_BEATS c) := uncounted_of_cluster (by unfold Addr.BUSY_BEATS; omega)

theorem paced_deliverBulk (k : Nat) (s : State) : Paced s (deliverBulk k s) := by
  unfold deliverBulk
  extract_lets cells kb kc _ s1
  have begun_ : Paced s s1 := paced_beat s
  exact (Paced.refl s).ite (begun_.trans (.ite (paced_bumpCells uncounted_CALMED_BEATS _ s1)
    (paced_setReg (uncounted_ZC_BULK k) s1 _)))

theorem paced_deliverInline (k : Nat) (s : State) : Paced s (deliverInline k s) := by
  unfold deliverInline
  extract_lets cells ki _ s1
  have begun_ : Paced s s1 := paced_beat s
  exact (Paced.refl s).ite (begun_.trans (.ite (paced_bumpCells uncounted_CALMED_BEATS _ s1) (paced_setReg (uncounted_ZC_INLINE k) s1 _)))

theorem paced_endRamps (s : State) : Paced s (endRamps s) := by
  unfold endRamps
  extract_lets excess left _ s1
  have ended : Paced s s1 := (paced_beat s).trans (.foldl (fun s r => paced_setFlag (uncounted_CELL_STATE _) s _ _) _ _)
  exact ended.trans (.foldl (fun s k => paced_setFlag (uncounted_CL_STATE k) s _ _) _ s1)

theorem paced_deliverBeat (s : State) : Paced s (deliverBeat s) := by
  unfold deliverBeat
  extract_lets _ s0 s1 running
  have counted : Paced s s0 := paced_beat s
  have delivered : Paced s0 s1 := .foldl (fun s k => (paced_deliverBulk k s).trans (paced_deliverInline k _)) _ s0
  exact ((counted.trans delivered).trans
    (paced_bumpCells uncounted_BUSY_BEATS _ s1)).trans (paced_endRamps _)

theorem paced_reattachSpokes (s : State) : Paced s (reattachSpokes s) := by
  unfold reattachSpokes
  extract_lets m _ s1
  have begun_ : Paced s s1 := paced_beat s
  refine begun_.trans (.foldl (fun s i => ?_) m s1)
  have attached := paced_setFlag (a := Addr.SPOKE_DETACHED) ⟨by decide, by decide, by decide⟩ s i false
  exact .ite ((attached.trans (paced_setFlag (uncounted_CL_STATE i) _ _ _)).trans (paced_setReg (uncounted_ZC_INLINE i) _ _)) attached

theorem paced_reschedule (t : Nat) (stretched : Bool) (s : State) : Paced s (reschedule t stretched s) := by
  have status (s : State) (i : Nat) (b : Bool) := paced_setFlag uncounted_BEAT_STATUS s i b
  unfold reschedule
  extract_lets mode _ rate s1 s0 lag behind s2 _ s3 s4
  have origin : Paced s s1 := paced_beat s
  have same : Paced s s0 := paced_beat s
  have shown : Paced s s2 := by
    refine same.trans (Paced.trans ?_ ((status _ 3 _).trans (status _ 1 _)))
    exact .ite (paced_setReg ⟨by decide, by decide, by decide⟩ s0 _) (.refl s0)
  refine .ite ?_ (.ite ?_ (.ite ?_ (.ite ?_ shown)))
  · exact (paced_beat s).trans ((status _ 3 _).trans (status _ 1 _))
  · exact origin.trans ((status _ 3 _).trans (status _ 1 _))
  · have based : Paced s s3 := shown.trans (paced_beat s2)
    have rebased : Paced s s4 := ((based.trans (status s3 1 _)).trans (status _ 2 _)).trans (paced_setReg ⟨by decide, by decide, by decide⟩ _ _)
    exact (rebased.trans (status s4 3 _)).trans (paced_raiseEvent _ _ _ _)
  · exact shown.trans (paced_raiseEvent _ _ _ _)

/-! A beat is issued (R36) -/

/-- The capture of SNAP as a beat is issued, where one waits (R56). -/
def snapped (s : State) : State :=
  if s.beat.snapPending then
    ((({ s with beat.snapPending := false }).setReg Addr.SNAP_ZC s.zc).setReg Addr.SNAP_SEC s.sec).setReg Addr.SNAP_NS s.ns
  else s

theorem snapped_beat (s : State) : (snapped s).beat.lastIssue = s.beat.lastIssue ∧ (snapped s).beat.snapPending = false := by
  unfold snapped
  split
  · exact ⟨rfl, rfl⟩
  · rename_i none_
    exact ⟨rfl, Bool.eq_false_iff.mpr none_⟩

theorem sameTables_snapped (s : State) : SameTables s (snapped s) := by
  unfold snapped
  split
  · exact ((sameTables_beat s _).trans (regsOnly_setReg _ _ _).sameTables).trans
      ((regsOnly_setReg _ _ _).sameTables.trans (regsOnly_setReg _ _ _).sameTables)
  · exact .refl s

theorem reg_snapped {a : Nat} (other : a ≠ Addr.SNAP_ZC ∧ a ≠ Addr.SNAP_SEC ∧ a ≠ Addr.SNAP_NS) (s : State) : (snapped s).reg a = s.reg a := by
  obtain ⟨count, sec, ns⟩ := other
  unfold snapped
  split
  · rw [State.reg_setReg_other ns, State.reg_setReg_other sec, State.reg_setReg_other count]
    rfl
  · rfl

theorem snapped_count {s : State} (waits : s.beat.snapPending = true) : (snapped s).reg Addr.SNAP_ZC = s.zc := by
  rw [snapped, if_pos waits, State.reg_setReg_other (by decide), State.reg_setReg_other (by decide), State.reg_setReg_same]
  exact Nat.mod_eq_of_lt (s.reg_lt _)

/-- A beat that is issued: the root's count, the stretched beats, the captured count, and what stays. -/
theorem issueBeat_spec (t : Nat) (late cells : List Nat) (s : State) :
    SameTables s (issueBeat t late cells s) ∧ (issueBeat t late cells s).zc = (s.zc + 1) % 2 ^ 64 ∧
      (issueBeat t late cells s).beat.lastIssue = t ∧ (issueBeat t late cells s).beat.snapPending = false ∧
      (issueBeat t late cells s).reg Addr.STRETCH_COUNT = (s.reg Addr.STRETCH_COUNT + b2n (decide (s.due < t))) % 2 ^ 64 ∧
      (s.beat.snapPending = true → (issueBeat t late cells s).reg Addr.SNAP_ZC = (issueBeat t late cells s).zc) := by
  unfold issueBeat
  extract_lets stretched mode interval spokes s1 recent _ s2 s3 s4 s5 s6 _ s7
  have final : Paced s7 (reattachSpokes (deliverBeat (latchCalms s7))) :=
    ((paced_latchCalms s7).trans (paced_deliverBeat _)).trans (paced_reattachSpokes _)
  have issued : SameTables s s2 := (regsOnly_setReg s _ _).sameTables.trans (sameTables_beat s1 _)
  have zc2 : s2.zc = (s.zc + 1) % 2 ^ 64 := s.reg_bump64 _ _
  have count2 : s2.reg Addr.STRETCH_COUNT = s.reg Addr.STRETCH_COUNT := s.reg_bump64_other (by decide) _
  have bumped : Paced (s2.bump64 Addr.STRETCH_COUNT) s3 :=
    paced_bumpCells (fun c => uncounted_of_cluster (by unfold Addr.STRETCH_BEATS; omega)) _ _
  have ticked3 : Ticked s2 s3 := (regsOnly_setReg s2 _ _).ticked.trans bumped.ticked
  have told4 : Paced (if stretched then s3 else s2) s4 := by
    show Paced _ (if stretched then _ else s2)
    split
    · exact .ite (coalesced_coalesce _ _ _ _ _).paced (.refl s3)
    · exact .refl s2
  have told5 : Paced s4 s5 := .ite (((paced_setReg ⟨by decide, by decide, by decide⟩ s4 _).trans (paced_setFlag uncounted_BEAT_STATUS _ _ _)).trans
    (coalesced_coalesceEvent _ _ _ _ _ _ _).paced) (.refl s4)
  have told6 : Paced (if stretched then s3 else s2) s6 := (told4.trans told5).trans (paced_reschedule _ _ _)
  have ticked6 : Ticked s2 s6 := Ticked.trans (by split <;> [exact ticked3; exact .refl s2]) told6.ticked
  have zc6 : s6.zc = (s.zc + 1) % 2 ^ 64 := by
    rw [← zc2, State.zc, told6.reg _ (.inl rfl)]
    split
    · rw [bumped.reg _ (.inl rfl), State.reg_bump64_other _ (by decide), State.zc]
    · rfl
  have count6 : s6.reg Addr.STRETCH_COUNT = (s.reg Addr.STRETCH_COUNT + b2n stretched) % 2 ^ 64 := by
    rw [told6.reg _ (.inr (.inl rfl)), ← count2]
    split
    · rename_i late_
      rw [bumped.reg _ (.inr (.inl rfl)), State.reg_bump64, late_]
      rfl
    · rename_i early
      rw [Bool.eq_false_iff.mpr early]
      exact (Nat.mod_eq_of_lt (s2.reg_lt _)).symm
  have at7 : s7 = snapped s6 := rfl
  have zc7 : s7.zc = s6.zc := reg_snapped (by decide) s6
  have zc8 : (reattachSpokes (deliverBeat (latchCalms s7))).zc = s6.zc := (final.reg _ (.inl rfl)).trans zc7
  refine ⟨issued.trans (ticked6.toSameTables.trans ((at7 ▸ sameTables_snapped s6).trans final.ticked.toSameTables)), zc8.trans zc6, ?_, ?_, ?_,
    fun waits => ?_⟩
  · rw [final.ticked.lastIssue, at7, (snapped_beat s6).1, ticked6.lastIssue]
  · rw [final.ticked.snap, at7, (snapped_beat s6).2]
  · rw [final.reg _ (.inr (.inl rfl)), at7, reg_snapped (by decide), count6]
  · rw [final.reg _ (.inr (.inr rfl)), at7, snapped_count (ticked6.snap.trans waits), ← at7, zc8]

/-! Spokes that are silent (R37) -/

/-- One cluster halts for a cause. -/
def haltOne (why : HaltCause) (s : State) (k : Nat) : State :=
  setCauses k (if (s.haltCauses k).contains why then s.haltCauses k else s.haltCauses k ++ [why]) s

theorem mem_haltCauses_haltOne (why : HaltCause) (s : State) (k : Nat) : why ∈ (haltOne why s k).haltCauses k := by
  rw [haltOne, haltCauses_setCauses, if_pos rfl]
  split
  · exact List.contains_iff_mem.mp ‹_›
  · exact List.mem_append_right _ (List.mem_singleton_self why)

theorem halted_haltOne {j : Nat} (low : j < 64) (why : HaltCause) (s : State) (k : Nat) :
    (haltOne why s k).halted j = if j = k then true else s.halted j := by
  have some_ := mem_haltCauses_haltOne why s k
  rw [haltOne, haltCauses_setCauses, if_pos rfl] at some_
  rw [haltOne, halted_setCauses low, List.isEmpty_eq_false_iff_exists_mem.mpr ⟨_, some_⟩, Bool.not_false]

theorem halted_foldl_haltOne (why : HaltCause) {k : Nat} (low : k < 64) (ks : List Nat) :
    ∀ s : State, k ∈ ks ∨ s.halted k = true → (ks.foldl (haltOne why) s).halted k = true := by
  induction ks with
  | nil => exact fun s h => h.resolve_left List.not_mem_nil
  | cons j ks ih =>
    intro s h
    rw [List.foldl_cons]
    refine ih _ ?_
    rw [halted_haltOne low]
    by_cases same : k = j
    · exact .inr (if_pos same)
    · rw [if_neg same]
      exact h.imp_left fun there => (List.mem_cons.mp there).resolve_left same

theorem regs_haltClusters (why : HaltCause) (ks : List Nat) (s : State) : (haltClusters why ks s).regs = (ks.foldl (haltOne why) s).regs := rfl

theorem haltCauses_haltClusters (why : HaltCause) (ks : List Nat) (s : State) (k : Nat) :
    (haltClusters why ks s).haltCauses k = (ks.foldl (haltOne why) s).haltCauses k := rfl

theorem halted_haltClusters {why : HaltCause} {ks : List Nat} {k : Nat} (low : k < 64) (there : k ∈ ks) (s : State) :
    (haltClusters why ks s).halted k = true :=
  (State.flag_congr (State.reg_of_regs (regs_haltClusters why ks s) _) k).trans (halted_foldl_haltOne why low ks s (.inl there))

theorem mem_haltCauses_haltClusters (why : HaltCause) (k : Nat) (s : State) : why ∈ (haltClusters why [k] s).haltCauses k := by
  rw [haltCauses_haltClusters, List.foldl_cons, List.foldl_nil]
  exact mem_haltCauses_haltOne why s k

theorem reg_haltClusters {a : Nat} (halts : a ≠ Addr.HALTED) (cluster : ∀ k, a ≠ Addr.CL_STATE k) (cells : ∀ c, a ≠ Addr.CELL_STATE c)
    (why : HaltCause) (ks : List Nat) (s : State) : (haltClusters why ks s).reg a = s.reg a :=
  (State.reg_of_regs (regs_haltClusters why ks s) a).trans (foldl_keeps (State.reg · a) (fun s k => reg_setCauses halts k (cluster k) cells _ s) ks s)

theorem detachCluster_spec {k : Nat} (low : k < 16) (s : State) :
    (detachCluster k s).flag Addr.SPOKE_DETACHED k = true ∧ (detachCluster k s).halted k = true := by
  unfold detachCluster
  extract_lets last again s1 src s2 cells
  have spoke1 : s1.reg Addr.SPOKE_DETACHED = (s.setFlag Addr.SPOKE_DETACHED k true).reg Addr.SPOKE_DETACHED :=
    (reg_haltClusters (by decide) (fun k => (spokeFree_CL_STATE k).1.symm) (fun c => (spokeFree_CELL_STATE c).1.symm) ..).trans
      (State.reg_setFlag_other _ (spokeFree_CL_STATE k).1.symm 1 true)
  have held : Held s1 (cells.foldl (fun s c => fenceAs (!again) { kind := 4, cell := c } s) s2) :=
    held_foldl (fun _ _ h => held_fenceAs h) (held_raiseEvent (held_with (.refl s1)))
  constructor
  · rw [State.flag_congr held.spokes, State.flag_congr spoke1, State.flag_setFlag _ (by omega)]
  · exact (held.halted k low (mem_haltCauses_haltClusters .spoke k _)
      (halted_haltClusters (by omega) (List.mem_singleton_self k) _)).2

theorem spokeTimeout_spec {t i : Nat} {s : State} (small : i < 20) (on : s.on = true) (attached : s.flag Addr.SPOKE_DETACHED i = false)
    (silent : s.beat.lastIssue + us (s.reg Addr.SPOKE_TIMEOUT) ≤ t) :
    ∃ u, exec (.spokeTimeoutExpiry t i) s = .next u ∧ u.flag Addr.SPOKE_DETACHED i = true ∧ (i < 16 → u.halted i = true) := by
  refine ⟨_, rfl, ?_⟩
  rw [if_neg (by simp [on, attached]; omega)]
  extract_lets s1 s2
  split
  · rename_i low
    exact (detachCluster_spec low s1).imp id fun halted _ => halted
  · rename_i high
    refine ⟨?_, fun low => absurd low high⟩
    have held : Held (s1.setFlag Addr.SPOKE_DETACHED i true)
        (((List.range 24).filter (fun p => portDie p == i - 16)).foldl (fun s p => portDown p 5 s) s2) :=
      held_foldl (fun _ _ h => held_portDown h) (held_raiseEvent (.refl _))
    rw [State.flag_congr held.spokes, State.flag_setFlag _ (by omega)]

/-! Clusters halt and leave the halt (R47) -/

/-- What shows which clusters are halted, and what is armed. -/
def haltView (s : State) : Nat × Option (Nat × Nat) × Option (Nat × Nat) := (s.reg Addr.HALTED, s.beat.haltArm, s.beat.resumeArm)

theorem haltView_setReg {a : Nat} (other : Addr.HALTED ≠ a) (s : State) (v : Nat) : haltView (s.setReg a v) = haltView s := by
  rw [haltView, State.reg_setReg_other other]
  rfl

theorem haltView_setFlag {a : Nat} (other : Addr.HALTED ≠ a) (s : State) (i : Nat) (b : Bool) : haltView (s.setFlag a i b) = haltView s :=
  haltView_setReg other s _

theorem Told.haltView {s t : State} (h : Told s t) : haltView t = haltView s := by
  rw [Machine.haltView, h.reg _ (untoldReg_of (by decide) (by decide) (by decide)), h.beat, Machine.haltView]

theorem haltView_tellHalted (before s : State) : haltView (tellHalted before s) = haltView s :=
  foldl_keeps haltView (fun s _ => (told_raiseEvent s ..).haltView) _ s

theorem haltView_setJobState (tenant id st status : Nat) (s : State) : haltView (setJobState tenant id st status s) = haltView s := by
  unfold setJobState
  split
  · rfl
  · extract_lets s1 new
    have same : haltView s1 = haltView s := rfl
    split
    · exact same
    · exact (told_raiseEvent s1 ..).haltView.trans same

theorem haltView_moveJobs (ks : List Nat) (a b : Nat) (s : State) : haltView (moveJobs ks a b s) = haltView s :=
  foldl_keeps haltView (fun s (j : Job) => haltView_setJobState j.tenant j.id b 0 s) _ s

theorem haltView_ite {c : Prop} [Decidable c] {s t u : State} (ht : haltView t = haltView s) (hu : haltView u = haltView s) :
    haltView (if c then t else u) = haltView s := by
  split
  · exact ht
  · exact hu

theorem haltView_releaseGust (g : GustSequence) (s : State) : haltView (releaseGust g s) = haltView s := by
  unfold releaseGust
  extract_lets cells left frame s1 s2 others src
  have at1 : haltView s1 = haltView s := by
    refine haltView_ite rfl (foldl_keeps haltView (fun s k => haltView_ite rfl ?_) _ s)
    exact haltView_setReg (by unfold Addr.HALTED Addr.ZC_BULK; omega) s frame
  have at2 : haltView s2 = haltView s1 := foldl_keeps haltView (fun s c => (haltView_setFlag (spokeFree_CL_STATE _).2.symm _ _ _).trans
    (haltView_setFlag (spokeFree_CELL_STATE c).2.symm _ _ _)) _ s1
  exact at2.trans at1

theorem haltView_startRelease (inl : Bool) (cells : List Nat) (s : State) : haltView (startRelease inl cells s) = haltView s := by
  unfold startRelease
  split
  · rfl
  · extract_lets k g ks b b1
    refine (haltView_releaseGust g _).trans ?_
    have arms : b1.haltArm = b.haltArm ∧ b1.resumeArm = b.resumeArm := by
      show BeatState.haltArm (if _ then _ else _) = _ ∧ BeatState.resumeArm (if _ then _ else _) = _
      split
      · exact ⟨rfl, rfl⟩
      · exact ⟨rfl, rfl⟩
    rw [haltView, haltView]
    exact Prod.ext rfl (Prod.ext arms.1 arms.2)

theorem haltView_activateBank (c : Nat) (s : State) : haltView (activateBank c s) = haltView s := by
  unfold activateBank
  exact haltView_ite (haltView_setReg (spokeFree_PROG_BANK c).2.symm s _) rfl

theorem haltView_releaseJob (j : Job) (ks : List Nat) (s : State) : haltView (releaseJob j ks s) = haltView s := by
  unfold releaseJob
  exact (haltView_startRelease ..).trans (haltView_ite rfl (foldl_keeps haltView (fun s c => haltView_activateBank c s) _ s))

theorem halted_of_haltView {s t : State} (h : haltView t = haltView s) (k : Nat) : t.halted k = s.halted k :=
  State.flag_congr (congrArg Prod.fst h) k

theorem mem_setBits {v n i : Nat} : i ∈ setBits v n ↔ i < n ∧ bitAt v i = true := by
  rw [setBits, List.mem_filter, List.mem_range]

theorem arms_setCauses (k : Nat) (l : List HaltCause) (s : State) :
    (setCauses k l s).beat.haltArm = s.beat.haltArm ∧ (setCauses k l s).beat.resumeArm = s.beat.resumeArm := by
  rw [setCauses, (regsOnly_showHalt k _).beat]
  exact ⟨rfl, rfl⟩

theorem haltArm_haltClusters (why : HaltCause) (ks : List Nat) (s : State) :
    (haltClusters why ks s).beat.haltArm = (ks.foldl (haltOne why) s).beat.haltArm := rfl

theorem clusterHalt_spec {t mask n : Nat} {s : State} (armed : s.beat.haltArm = some (mask, n)) (reached : n ≤ s.zc) :
    ∃ u, exec (.clusterHalt t) s = .next u ∧ u.beat.haltArm = none ∧ ∀ k < 16, bitAt mask k = true → u.halted k = true := by
  refine ⟨_, rfl, ?_⟩
  rw [armed]
  dsimp only
  rw [if_pos reached]
  generalize disarmed : ({ advance t s with beat.haltArm := none } : State) = d
  have view := (haltView_moveJobs (setBits mask 16) 0 3 _).trans (haltView_tellHalted s (haltClusters .mask (setBits mask 16) d))
  refine ⟨(congrArg (·.2.1) view).trans ?_, fun k low named => ?_⟩
  · show (haltClusters _ _ d).beat.haltArm = none
    rw [haltArm_haltClusters, foldl_keeps (f := haltOne .mask) (fun u : State => u.beat.haltArm) (fun s k => (arms_setCauses k _ s).1), ← disarmed]
  · rw [halted_of_haltView view]
    exact halted_haltClusters (by omega) (mem_setBits.mpr ⟨low, named⟩) d

theorem halted_foldl_unhalt (whys : List HaltCause) {k : Nat} (low : k < 64) (ks : List Nat) :
    ∀ s : State, (∀ w ∈ s.haltCauses k, w ∈ whys) → k ∈ ks ∨ s.halted k = false → (unhaltClusters whys ks s).halted k = false := by
  induction ks with
  | nil => exact fun s _ h => h.resolve_left List.not_mem_nil
  | cons j ks ih =>
    intro s only h
    rw [unhaltClusters, List.foldl_cons]
    have none_ : (s.haltCauses k).filter (fun w => !whys.contains w) = [] := by
      rw [List.filter_eq_nil_iff]
      intro w hw
      simpa using only w hw
    refine ih _ (fun w hw => ?_) ?_
    · rw [haltCauses_setCauses] at hw
      split at hw
      · subst j
        rw [none_] at hw
        exact absurd hw List.not_mem_nil
      · exact only w hw
    · rw [halted_setCauses low]
      by_cases same : k = j
      · subst j
        exact .inr (by rw [if_pos rfl, none_]; rfl)
      · rw [if_neg same]
        exact h.imp_left fun there => (List.mem_cons.mp there).resolve_left same

theorem haltView_resumeClusters (ks : List Nat) (s : State) :
    haltView (resumeClusters ks s) = haltView (unhaltClusters [.mask, .spoke] (ks.filter (fun k => !s.detached k)) s) := by
  unfold resumeClusters
  extract_lets up back s1 s2
  have at1 : haltView s1 = _ := (haltView_moveJobs up 3 0 _).trans (haltView_tellHalted s _)
  have at2 : haltView s2 = haltView s1 := foldl_keeps haltView (fun s j => haltView_releaseJob j back s) _ s1
  exact (haltView_startRelease _ _ s2).trans (at2.trans at1)

theorem clusterResume_spec {t mask n : Nat} {s : State} (armed : s.beat.resumeArm = some (mask, n)) (reached : n ≤ s.zc) :
    ∃ u, exec (.clusterResume t) s = .next u ∧ u.beat.resumeArm = none ∧
      ∀ k < 16, bitAt mask k = true → s.detached k = false → (∀ w ∈ s.haltCauses k, w = .mask ∨ w = .spoke) → u.halted k = false := by
  refine ⟨_, rfl, ?_⟩
  rw [armed]
  dsimp only
  rw [if_pos reached]
  generalize disarmed : ({ advance t s with beat.resumeArm := none } : State) = d
  have view := haltView_resumeClusters ((setBits mask 16).filter s.halted) d
  refine ⟨(congrArg (·.2.2) view).trans ?_, fun k low named attached causes => ?_⟩
  · show (unhaltClusters _ _ d).beat.resumeArm = none
    rw [unhaltClusters, foldl_keeps (fun u : State => u.beat.resumeArm) (fun s k => (arms_setCauses k _ s).2), ← disarmed]
  · rw [halted_of_haltView view]
    have same : d.haltCauses k = s.haltCauses k := by rw [← disarmed]; rfl
    have regs : d.regs = s.regs := by rw [← disarmed]; rfl
    refine halted_foldl_unhalt _ (by omega) _ d (fun w hw => ?_) ?_
    · rcases causes w (same ▸ hw) with rfl | rfl <;> decide
    · by_cases halted : s.halted k = true
      · refine .inl (List.mem_filter.mpr ⟨List.mem_filter.mpr ⟨mem_setBits.mpr ⟨low, named⟩, halted⟩, ?_⟩)
        rw [show d.detached k = s.detached k from State.flag_congr (State.reg_of_regs regs _) k, attached]
        rfl
      · exact .inr ((State.flag_congr (State.reg_of_regs regs _) k).trans (Bool.eq_false_iff.mpr halted))

/-! Gusts (R49) -/

theorem flag_released {i : Nat} (small : i < 256) (cells : List Nat) (all : ∀ c ∈ cells, c < 256) :
    ∀ s : State, i ∈ cells ∨ s.flag (Addr.CELL_STATE i) 4 = true →
      (cells.foldl (fun s c =>
          (s.setFlag (Addr.CELL_STATE c) 4 true).setFlag (Addr.CL_STATE (c / 16)) 3 true) s).flag (Addr.CELL_STATE i) 4 = true := by
  induction cells with
  | nil => exact fun s h => h.resolve_left List.not_mem_nil
  | cons c cells ih =>
    intro s h
    rw [List.foldl_cons]
    refine ih (fun c hc => all c (List.mem_cons_of_mem _ hc)) _ ?_
    have near : c < 256 := all c List.mem_cons_self
    rw [State.flag_congr (State.reg_setFlag_other _ (by unfold Addr.CELL_STATE Addr.CL_STATE; omega) 3 true)]
    by_cases same : i = c
    · subst c
      exact .inr (State.flag_setFlag _ (by decide) _)
    · rw [State.flag_congr (State.reg_setFlag_other _ (by unfold Addr.CELL_STATE; omega) 4 true)]
      exact h.imp_left fun there => (List.mem_cons.mp there).resolve_left same

theorem gustRelease_spec {t id : Nat} {g : GustSequence} {s : State} (found : s.beat.gusts.find? (fun g => g.id == id) = some g)
    (due : g.base + g.next * g.interval ≤ g.base + g.run) (cells : ∀ i ∈ g.cells, i < 256) :
    ∃ u, exec (.gustRelease t id) s = .next u ∧ ∀ i ∈ g.cells.take g.size, s.detached (i / 16) = false → HaltCause.spoke ∉ s.haltCauses (i / 16) →
      i ∉ s.beat.released → i ∈ u.beat.released ∧ u.flag (Addr.CELL_STATE i) 4 = true := by
  refine ⟨_, rfl, ?_⟩
  rw [found]
  dsimp only
  rw [if_pos (show g.due ≤ g.count from due)]
  intro i next attached causes unreleased
  generalize adv : advance t s = d
  have causes' : HaltCause.spoke ∉ d.haltCauses (i / 16) := by rw [← adv]; exact causes
  have attached' : d.detached (i / 16) = false := by rw [← adv]; exact attached
  have unreleased' : i ∉ d.beat.released := by rw [← adv]; exact unreleased
  unfold releaseGust
  extract_lets now left frame s1 s2 others src
  have there : i ∈ now := List.mem_filter.mpr ⟨next, by simp [causes', attached', unreleased']⟩
  have small : ∀ c ∈ now, c < 256 := fun c hc => cells c (List.mem_of_mem_take (List.mem_filter.mp hc).1)
  exact ⟨List.mem_eraseDups.mpr (List.mem_append_right _ there), flag_released (small i there) now small s1 (.inl there)⟩

/-- Settles O16: a beat that is issued through what each of its parts leaves alone, halts and releases through HALTED and the causes of each
cluster, and a detach through what the fences of its cells leave alone. -/
theorem beatsIssueHaltAndRelease : Obligations.BeatsIssueHaltAndRelease := by
  unfold Obligations.BeatsIssueHaltAndRelease
  refine ⟨fun t late cells s issues => ?_, fun t s => ⟨fun on silent => ?_, fun i small on attached silent =>
      spokeTimeout_spec small on attached silent,
    fun mask n armed reached => clusterHalt_spec armed reached, fun mask n armed reached => clusterResume_spec armed reached,
    fun id g found due small => gustRelease_spec found due small⟩⟩
  · refine ⟨_, rfl, ?_⟩
    rw [if_pos issues]
    obtain ⟨tables, zc, last, snap, stretch, captured⟩ := issueBeat_spec t late cells (advance t s)
    exact ⟨zc, last, stretch, captured, snap, tables.mem, tables.jobs, tables.models, tables.ports, tables.mt, tables.hc, tables.tm, tables.flow,
      tables.copies, tables.ids⟩
  · show Host.Outcome.next (if _ then _ else _) = _
    rw [if_pos ⟨on, silent⟩]
    rfl
end Sys2Proof.Machine

/-!
PROOFS. What register writes leave: what has left the device, and whether the mailbox's next reply is discarded.
-/
namespace Sys2Proof.Machine

/-! How the states that register writes leave are put together -/

/-- What is beside an answer, at the end of a triple, and in an option keeps what left. -/
def PairKept {α : Type} (s : State) (r : α × State) : Prop := Keeps s r.2
def TripleKept {α β : Type} (s : State) (r : α × β × State) : Prop := Keeps s r.2.2
def OptKept (s : State) (o : Option State) : Prop := ∀ t, o = some t → Keeps s t

section
variable {start s t : State} {α β : Type} {c : Prop} [Decidable c]

theorem kept_ite (hs : c → Keeps start s) (ht : ¬ c → Keeps start t) : Keeps start (if c then s else t) := by
  split
  · exact hs ‹_›
  · exact ht ‹_›

theorem pairKept_ite {r r' : α × State} (hs : c → PairKept start r) (ht : ¬ c → PairKept start r') : PairKept start (if c then r else r') := by
  split
  · exact hs ‹_›
  · exact ht ‹_›

theorem tripleKept_ite {r r' : α × β × State} (hs : c → TripleKept start r) (ht : ¬ c → TripleKept start r') :
    TripleKept start (if c then r else r') := by
  split
  · exact hs ‹_›
  · exact ht ‹_›

theorem optKept_ite {o o' : Option State} (hs : c → OptKept start o) (ht : ¬ c → OptKept start o') : OptKept start (if c then o else o') := by
  split
  · exact hs ‹_›
  · exact ht ‹_›

theorem optKept_none : OptKept start none := by rintro _ ⟨⟩

theorem optKept_some (h : Keeps start s) : OptKept start (some s) := by rintro _ ⟨⟩; exact h

theorem kept_when (ok : Keeps start s) (change : Keeps start s → Keeps start t) : Keeps start (if c then t else s) :=
  kept_ite (fun _ => change ok) (fun _ => ok)

theorem kept_unless (ok : Keeps start s) (change : Keeps start s → Keeps start t) : Keeps start (if c then s else t) :=
  kept_ite (fun _ => ok) (fun _ => change ok)

theorem kept_foldl {f : State → α → State} {l : List α} (hf : ∀ s x, Keeps start s → Keeps start (f s x)) (h : Keeps start s) :
    Keeps start (l.foldl f s) := by
  induction l generalizing s with
  | nil => exact h
  | cons x l ih => exact ih (hf s x h)

theorem kept_setReg {a v : Nat} (ok : Keeps start s) : Keeps start (s.setReg a v) := ⟨ok.mute, ok.out⟩
theorem kept_setField {a lo w x : Nat} (ok : Keeps start s) : Keeps start (s.setField a lo w x) := ⟨ok.mute, ok.out⟩
theorem kept_setFlag {a i : Nat} {b : Bool} (ok : Keeps start s) : Keeps start (s.setFlag a i b) := ⟨ok.mute, ok.out⟩
theorem kept_bump32 {a n : Nat} (ok : Keeps start s) : Keeps start (s.bump32 a n) := ⟨ok.mute, ok.out⟩
theorem kept_bump64 {a n : Nat} (ok : Keeps start s) : Keeps start (s.bump64 a n) := ⟨ok.mute, ok.out⟩

theorem kept_raise {a v : Nat} (ok : Keeps start s) : Keeps start (s.raise a v) := kept_when ok kept_setReg

/-- The parts of the state but for the bridge and what left the device. -/
theorem kept_with {pending : List Instr} {fresh now : Nat} {regs : Tab W64} {latch : Tab W32} {shadow : Tab W64}
    {beat : BeatState} {time : TimeState} {sessions : List Session} {windows : List Window} {jobs : List Job} {ports : PortState} {hc : HcState}
    {mt : MatchState} {tm : TmState} {mem : MemState} {dataKey : Tab Nat} {signer : Tab Bytes} {models : Tab Selector} {flow : FlowState}
    {cells : Tab CellX} {copies : CopyState} {fabric : FabricState} {group : GroupState} {obs : ObsState} {integ : IntegState}
    {power : PowerState} {module : ModuleState} {fw : FwState} {secure : SecState} (ok : Keeps start s) :
    Keeps start { s with
      pending, fresh, now, regs, latch, shadow, beat, time, sessions, windows, jobs, ports, hc, mt, tm, mem, dataKey, signer, models, flow, cells,
      copies, fabric, group, obs, integ, power, module, fw, secure } := ⟨ok.mute, ok.out⟩

theorem kept_emit {o : Output} (ok : Keeps start s) : Keeps start (s.emit o) := ⟨ok.mute, ok.out.trans (List.prefix_append ..)⟩

/-- What a fence leaves, it keeps. -/
theorem kept_of_held (ok : Keeps start s) (h : Held s t) : Keeps start t := ok.trans h.keeps

theorem kept_portDown {p cause : Nat} (ok : Keeps start s) : Keeps start (portDown p cause s) := kept_of_held ok (held_portDown (.refl s))

theorem kept_raiseEvent {opcode tenant : Nat} {body : List Nat} {region : Nat} (ok : Keeps start s) :
    Keeps start (State.raiseEvent s opcode tenant body region) := kept_of_held ok (held_raiseEvent (.refl s))

theorem kept_sendEvents (ok : Keeps start s) : Keeps start (sendEvents s) := kept_of_held ok (held_sendEvents (.refl s))

theorem kept_storeBytes {t a : Nat} {bs : Bytes} (ok : Keeps start s) : Keeps start (State.storeBytes s t a bs) :=
  kept_of_held ok (held_storeBytes (.refl s))

theorem kept_updCell {c : Nat} {f : CellX → CellX} (ok : Keeps start s) : Keeps start (State.updCell s c f) := kept_with ok
end

/-! Register writes -/

section
variable {start : State}

theorem kept_deviceBeat {s : State} {least : Nat} (ok : Keeps start s) : PairKept start (State.deviceBeat s least) :=
  kept_with ok

theorem kept_refuse {c : Nat} {s : State} (ok : Keeps start s) : PairKept start (refuse c s) :=
  ok

theorem kept_wrHaltMask {v : Nat} {s : State} (ok : Keeps start s) : PairKept start (wrHaltMask v s) :=
  pairKept_ite (fun _ => ok) (fun _ => pairKept_ite (fun _ => ok) (fun _ => kept_with (kept_setReg ok)))

theorem kept_wrResumeMask {v : Nat} {s : State} (ok : Keeps start s) : PairKept start (wrResumeMask v s) :=
  pairKept_ite (fun _ => ok) (fun _ => kept_with (kept_setReg ok))

theorem kept_wrBeatCtrl {v : Nat} {s : State} (ok : Keeps start s) : PairKept start (wrBeatCtrl v s) :=
  pairKept_ite (fun _ => ok) (fun _ => pairKept_ite (fun _ => ok) (fun _ => pairKept_ite (fun _ => kept_setReg ok) (fun _ =>
      kept_with (kept_setReg ok))))

theorem kept_wrBeatRateTarget {v : Nat} {s : State} (ok : Keeps start s) : PairKept start (wrBeatRateTarget v s) :=
  pairKept_ite (fun _ => ok) (fun _ => pairKept_ite (fun _ => ok) (fun _ => kept_when (kept_setReg ok) (fun h1 => kept_with h1)))

theorem kept_wrSpokeReattach {v : Nat} {s : State} (ok : Keeps start s) : PairKept start (wrSpokeReattach v s) :=
  kept_with ok

theorem kept_wrSnap {v : Nat} {s : State} (ok : Keeps start s) : PairKept start (wrSnap v s) :=
  kept_ite (fun _ => kept_with ok) (fun _ => ok)

theorem kept_wrGustCtrl {v : Nat} {s : State} (ok : Keeps start s) : PairKept start (wrGustCtrl v s) :=
  pairKept_ite (fun _ => ok) (fun _ => kept_setReg ok)

theorem kept_wrTimeCtrl {v : Nat} {s : State} (ok : Keeps start s) : PairKept start (wrTimeCtrl v s) :=
  pairKept_ite (fun _ => ok) (fun _ => kept_unless (kept_setReg ok) (fun h1 => kept_with h1))

theorem kept_stepTime {dns : Int} {s : State} (ok : Keeps start s) : Keeps start (stepTime dns s) :=
  kept_raiseEvent (kept_with ok)

theorem kept_wrTimeStepNs {v : Nat} {s : State} (ok : Keeps start s) : PairKept start (wrTimeStepNs v s) :=
  pairKept_ite (fun _ => kept_stepTime ok) (fun _ => ok)

theorem kept_wrTimeFreqAdj {v : Nat} {s : State} (ok : Keeps start s) : PairKept start (wrTimeFreqAdj v s) :=
  pairKept_ite (fun _ => ok) (fun _ => kept_setReg ok)

theorem kept_setQueue {s : State} {q : Nat} {fs : List QFrame} (ok : Keeps start s) : Keeps start (State.setQueue s q fs) :=
  kept_with ok

theorem kept_setActiveQ {s : State} {L : Nat} {l : List Nat} (ok : Keeps start s) : Keeps start (State.setActiveQ s L l) :=
  kept_with ok

theorem kept_rejoin {L : Nat} {s : State} (ok : Keeps start s) : Keeps start (rejoin L s) :=
  kept_ite (fun _ => ok) (fun _ => kept_setActiveQ ok)

theorem kept_rejoinAll {s : State} (ok : Keeps start s) : Keeps start (rejoinAll s) :=
  kept_foldl (fun _ _ h1 => kept_rejoin h1) ok

theorem kept_receivePause {p k L : Nat} {pause : Bool} {enables : Nat} {times : List Nat}
    {s : State} (ok : Keeps start s) : Keeps start (receivePause p k L pause enables times s) :=
  kept_rejoin (kept_ite (fun _ => kept_when (kept_bump32 ok) (fun h1 => kept_with h1)) (fun _ => kept_foldl (fun _ _ h2 =>
      kept_when (kept_bump32 h2) (fun h3 => kept_with h3)) ok))

theorem kept_putPause {p k L : Nat} {pause : Bool} {enables : Nat} {times : List Nat}
    {s : State} (ok : Keeps start s) : Keeps start (putPause p k L pause enables times s) :=
  kept_ite (fun _ => kept_receivePause ok) (fun _ => kept_ite (fun _ => kept_emit ok) (fun _ => ok))

theorem kept_sendPfc {p k L prio q : Nat} {s : State} (ok : Keeps start s) : Keeps start (sendPfc p k L prio q s) :=
  kept_ite (fun _ => ok) (fun _ => kept_ite (fun _ => kept_putPause (kept_bump32 ok)) (fun _ => kept_putPause (kept_bump32 ok)))

theorem kept_xoffRise {p k L prio : Nat} {s : State} (ok : Keeps start s) : Keeps start (xoffRise p k L prio s) :=
  kept_ite (fun _ => kept_with (kept_sendPfc ok)) (fun _ => ok)

theorem kept_xonFall {p k L prio : Nat} {s : State} (ok : Keeps start s) : Keeps start (xonFall p k L prio s) :=
  kept_ite (fun _ => kept_with (kept_sendPfc ok)) (fun _ => ok)

theorem kept_pfcUpdate {L : Nat} {prio : Option Nat} {s : State} (ok : Keeps start s) : Keeps start (pfcUpdate L prio s) := by
  unfold pfcUpdate
  split
  · exact ok
  · refine kept_foldl (fun _ _ h1 => ?_) ok
    split
    · exact kept_ite (fun _ => kept_xoffRise h1) (fun _ => h1)
    · exact kept_xonFall h1

theorem kept_checkRetire {s : State} (ok : Keeps start s) : Keeps start (checkRetire s) :=
  kept_ite (fun _ => kept_with (kept_setFlag ok)) (fun _ => ok)

theorem kept_freePacket {id : Nat} {s : State} (ok : Keeps start s) : Keeps start (freePacket id s) := by
  unfold freePacket
  split
  · exact ok
  · exact kept_checkRetire (kept_pfcUpdate (kept_with ok))

theorem kept_setFifo {s : State} {f : Nat} {x : Fifo} (ok : Keeps start s) : Keeps start (State.setFifo s f x) :=
  kept_with ok

theorem kept_rewindPacket {f : Nat} {full : Bool} {n : Nat} {s : State} (ok : Keeps start s) : Keeps start (rewindPacket f full n s) :=
  kept_when (kept_raise (kept_bump32 ok)) (fun h1 => kept_bump32 h1)

theorem kept_popFifo {f : Nat} {s : State} (ok : Keeps start s) : Keeps start (popFifo f s) :=
  kept_setFifo ok

theorem kept_dropRest {f : Nat} {s : State} (ok : Keeps start s) : Keeps start (dropRest f s) :=
  kept_ite (fun _ => kept_bump32 (kept_popFifo ok)) (fun _ => ok)

theorem kept_wrDropRest {f v : Nat} {s : State} (ok : Keeps start s) : PairKept start (wrDropRest f v s) :=
  kept_ite (fun _ => kept_dropRest ok) (fun _ => ok)

theorem kept_rewindReceiving {p k f : Nat} {fcs : Bool} {s : State} (ok : Keeps start s) : Keeps start (rewindReceiving p k f fcs s) :=
  kept_foldl (fun _ _ h1 => kept_when (kept_rewindPacket (kept_freePacket h1)) (fun h2 => kept_bump64 h2)) ok

theorem kept_wrPortCtrl {p v : Nat} {s : State} (ok : Keeps start s) : PairKept start (wrPortCtrl p v s) :=
  pairKept_ite (fun _ => ok) (fun _ => pairKept_ite (fun _ => ok) (fun _ => pairKept_ite (fun _ => kept_setReg ok) (fun _ => pairKept_ite (fun _ =>
      ok) (fun _ => kept_when (kept_foldl (fun _ _ h2 => kept_rewindReceiving h2) (kept_setField (kept_setReg ok))) (fun h1 =>
      kept_setFlag h1)))))

theorem kept_wrSubPort {p k a v0 : Nat} {s : State} (ok : Keeps start s) : PairKept start (wrSubPort p k a v0 s) :=
  pairKept_ite (fun _ => ok) (fun _ => pairKept_ite (fun _ => ok) (fun _ => pairKept_ite (fun _ => ok) (fun _ => pairKept_ite (fun _ => ok) (fun _ =>
      pairKept_ite (fun _ => ok) (fun _ => kept_setReg ok)))))

theorem kept_wrFifoCtrl {f v : Nat} {s : State} (ok : Keeps start s) : PairKept start (wrFifoCtrl f v s) :=
  pairKept_ite (fun _ => ok) (fun _ => pairKept_ite (fun _ => ok) (fun _ => kept_unless (kept_setReg ok) (fun h1 => kept_rewindReceiving h1)))

theorem kept_wrProgStage {g a v : Nat} {s : State} (ok : Keeps start s) : PairKept start (wrProgStage g a v s) :=
  pairKept_ite (fun _ => ok) (fun _ => kept_with (kept_setFlag ok))

theorem kept_wrDispStage {g i v : Nat} {s : State} (ok : Keeps start s) : PairKept start (wrDispStage g i v s) :=
  pairKept_ite (fun _ => ok) (fun _ => kept_with (kept_setFlag ok))

theorem kept_validateStage {g : Nat} {s : State} (ok : Keeps start s) : Keeps start (validateStage g s) := by
  unfold validateStage
  split
  · exact kept_setFlag (kept_setReg ok)
  · exact kept_setFlag (kept_setReg ok)

theorem kept_wrProgValidate {g v : Nat} {s : State} (ok : Keeps start s) : PairKept start (wrProgValidate g v s) :=
  pairKept_ite (fun _ => ok) (fun _ => pairKept_ite (fun _ => ok) (fun _ => kept_validateStage ok))

theorem kept_setFlip {g b : Nat} {s : State} (ok : Keeps start s) : Keeps start (setFlip g b s) :=
  kept_ite (fun _ => kept_setFlag ok) (fun _ => kept_with (kept_setFlag ok))

theorem kept_wrProgFlip {g v : Nat} {s : State} (ok : Keeps start s) : PairKept start (wrProgFlip g v s) := by
  unfold wrProgFlip
  refine pairKept_ite (fun _ => ok) (fun _ => ?_)
  split
  · exact ok
  · exact kept_setFlip (kept_deviceBeat ok)

theorem kept_wrHcCtrl {g v : Nat} {s : State} (ok : Keeps start s) : PairKept start (wrHcCtrl g v s) :=
  pairKept_ite (fun _ => ok) (fun _ => kept_setReg ok)

theorem kept_noteWrite {s : State} (ok : Keeps start s) : Keeps start (noteWrite s) :=
  kept_ite (fun _ => ok) (fun _ => kept_with ok)

theorem kept_putEntry {table stage bank i v : Nat} {s0 : State} (ok : Keeps start s0) : Keeps start (putEntry table stage bank i v s0) :=
  kept_ite (fun _ => kept_with (kept_noteWrite ok)) (fun _ => kept_with (kept_noteWrite ok))

theorem kept_applyEntry {t stage bank op table i img0 : Nat}
    {s : State} (ok : Keeps start s) : PairKept start (applyEntry t stage bank op table i img0 s) := by
  unfold applyEntry
  refine pairKept_ite (fun _ => ok) (fun _ => ?_)
  refine pairKept_ite (fun _ => ok) (fun _ => ?_)
  refine pairKept_ite (fun _ => pairKept_ite (fun _ => ok) (fun _ => kept_foldl (fun _ _ h1 => kept_ite (fun _ => kept_putEntry h1) (fun _ =>
      h1)) ok)) (fun _ => ?_)
  split
  · exact ok
  · dsimp only
    split
    · exact ok
    · exact kept_foldl (fun _ _ h2 => kept_putEntry h2) ok

theorem kept_stageInvalid {stage kind i cause : Nat} {s : State} (ok : Keeps start s) : PairKept start (stageInvalid stage kind i cause s) :=
  kept_setReg ok

theorem kept_putTemplate {stage i : Nat} {ws : List Nat} {s : State} (ok : Keeps start s) : PairKept start (putTemplate stage i ws s) :=
  pairKept_ite (fun _ => kept_stageInvalid ok) (fun _ => kept_with ok)

theorem kept_putKeysel {stage i v : Nat} {s : State} (ok : Keeps start s) : PairKept start (putKeysel stage i v s) :=
  pairKept_ite (fun _ => kept_stageInvalid ok) (fun _ => kept_with ok)

theorem kept_putMiss {stage v : Nat} {s : State} (ok : Keeps start s) : PairKept start (putMiss stage v s) :=
  pairKept_ite (fun _ => kept_stageInvalid ok) (fun _ => kept_with ok)

theorem kept_putHash {r v : Nat} {s : State} (ok : Keeps start s) : PairKept start (putHash r v s) :=
  pairKept_ite (fun _ => kept_stageInvalid ok) (fun _ => kept_with ok)

theorem kept_asHolder {f : State → Nat × State}
    {s : State} (hf : ∀ x0, Keeps start x0 → PairKept start (f x0)) (ok : Keeps start s) : PairKept start (asHolder f s) :=
  pairKept_ite (fun _ => hf _ ok) (fun _ => ok)

theorem kept_wrKeyselStage {stage i v : Nat} {s : State} (ok : Keeps start s) : PairKept start (wrKeyselStage stage i v s) :=
  kept_asHolder (fun _ h1 => kept_putKeysel h1) ok

theorem kept_wrMissStage {stage v : Nat} {s : State} (ok : Keeps start s) : PairKept start (wrMissStage stage v s) :=
  kept_asHolder (fun _ h1 => kept_putMiss h1) ok

theorem kept_wrHashStage {r v : Nat} {s : State} (ok : Keeps start s) : PairKept start (wrHashStage r v s) :=
  kept_asHolder (fun _ h1 => kept_putHash h1) ok

theorem kept_wrTernRange {stage t v : Nat} {s : State} (ok : Keeps start s) : PairKept start (wrTernRange stage t v s) :=
  pairKept_ite (fun _ => ok) (fun _ => pairKept_ite (fun _ => ok) (fun _ => pairKept_ite (fun _ => ok) (fun _ => kept_setReg ok)))

theorem kept_entryCmd {t stage cmd : Nat} {s : State} (ok : Keeps start s) : PairKept start (entryCmd t stage cmd s) :=
  pairKept_ite (fun _ => pairKept_ite (fun _ => kept_foldl (fun _ _ h1 => kept_setReg h1) ok) (fun _ => pairKept_ite (fun _ =>
      kept_foldl (fun _ _ h2 =>
      kept_setReg h2) ok) (fun _ => ok))) (fun _ => pairKept_ite (fun _ => kept_applyEntry ok) (fun _ => pairKept_ite (fun _ =>
      pairKept_ite (fun _ => ok) (fun _ => kept_asHolder (fun _ h3 => kept_putTemplate h3) ok)) (fun _ => ok)))

theorem kept_wrEntryCmd {t stage v : Nat} {s : State} (ok : Keeps start s) : PairKept start (wrEntryCmd t stage v s) :=
  pairKept_ite (fun _ => ok) (fun _ => kept_setReg (pairKept_ite (fun _ => kept_entryCmd ok) (fun _ => ok)))

theorem kept_wrEntrySel {stage v : Nat} {s : State} (ok : Keeps start s) : PairKept start (wrEntrySel stage v s) :=
  pairKept_ite (fun _ => ok) (fun _ => kept_setReg ok)

theorem kept_writeBack {l : FlowLine} {s : State} (ok : Keeps start s) : Keeps start (writeBack l s) :=
  kept_when (kept_ite (fun _ => kept_storeBytes ok) (fun _ => ok)) (fun h1 => kept_storeBytes h1)

theorem kept_moveRegion {t base : Nat} {s : State} (ok : Keeps start s) : Keeps start (moveRegion t base s) :=
  kept_setReg (kept_setReg (kept_with (kept_foldl (fun _ _ h1 => kept_writeBack h1) (kept_setReg ok))))

theorem kept_flowChange {t : Nat} {s s' : State} (ok : Keeps start s) (ok' : Keeps start s') : PairKept start (flowChange t s s') := by
  unfold flowChange
  refine pairKept_ite (fun _ => ok) (fun _ => pairKept_ite (fun _ => ok) (fun _ => pairKept_ite (fun _ => ok) (fun _ => pairKept_ite (fun _ =>
      ok) (fun _ =>
    pairKept_ite (fun _ => ?_) (fun _ => ok')))))
  split
  · exact ok
  · exact kept_ite (fun _ => kept_moveRegion ok') (fun _ => ok')

theorem kept_wrFlowTenant {byOwner : Bool} {t a v : Nat} {s : State} (ok : Keeps start s) : PairKept start (wrFlowTenant byOwner t a v s) :=
  pairKept_ite (fun _ => ok) (fun _ => kept_flowChange ok (kept_setReg ok))

theorem kept_wrScanPeriod {v : Nat} {s : State} (ok : Keeps start s) : PairKept start (wrScanPeriod v s) :=
  pairKept_ite (fun _ => ok) (fun _ => kept_setReg ok)

theorem kept_setGroupReg {a v : Nat} {s : State} (ok : Keeps start s) : Keeps start (setGroupReg a v s) :=
  kept_with (kept_setReg ok)

theorem kept_refillException {L : Nat} {s : State} (ok : Keeps start s) : Keeps start (refillException L s) :=
  kept_with ok

theorem kept_refillExceptions {s : State} (ok : Keeps start s) : Keeps start (refillExceptions s) :=
  kept_foldl (fun _ _ h1 => kept_refillException h1) ok

theorem kept_wrEgroup {g w v : Nat} {s : State} (ok : Keeps start s) : PairKept start (wrEgroup g w v s) :=
  pairKept_ite (fun _ => pairKept_ite (fun _ => ok) (fun _ => kept_setGroupReg ok)) (fun _ => kept_setGroupReg ok)

theorem kept_wrEncap {e w v : Nat} {s : State} (ok : Keeps start s) : PairKept start (wrEncap e w v s) :=
  pairKept_ite (fun _ => ok) (fun _ => kept_setReg ok)

theorem kept_wrPortDefault {L v : Nat} {s : State} (ok : Keeps start s) : PairKept start (wrPortDefault L v s) :=
  pairKept_ite (fun _ => ok) (fun _ => kept_setReg ok)

theorem kept_wrExcRate {v0 : Nat} {s : State} (ok : Keeps start s) : PairKept start (wrExcRate v0 s) :=
  pairKept_ite (fun _ => ok) (fun _ => kept_setReg (kept_refillExceptions ok))

theorem kept_wrExcPortRate {L v0 : Nat} {s : State} (ok : Keeps start s) : PairKept start (wrExcPortRate L v0 s) :=
  pairKept_ite (fun _ => ok) (fun _ => kept_setReg (kept_refillExceptions ok))

theorem kept_wrExcBurst {v0 : Nat} {s : State} (ok : Keeps start s) : PairKept start (wrExcBurst v0 s) :=
  pairKept_ite (fun _ => ok) (fun _ => kept_foldl (fun _ _ h1 => kept_with h1) (kept_setReg (kept_refillExceptions ok)))

theorem kept_wrStoreCmd {t c v : Nat} {s : State} (ok : Keeps start s) : PairKept start (wrStoreCmd t c v s) :=
  pairKept_ite (fun _ => ok) (fun _ => pairKept_ite (fun _ => ok) (fun _ => kept_setReg (kept_updCell (kept_bump32 (kept_with ok)))))

theorem kept_wrIntCtrl {v : Nat} {s : State} (ok : Keeps start s) : PairKept start (wrIntCtrl v s) :=
  pairKept_ite (fun _ => ok) (fun _ => kept_setReg ok)

theorem kept_wrCellAckTimeout {v : Nat} {s : State} (ok : Keeps start s) : PairKept start (wrCellAckTimeout v s) :=
  pairKept_ite (fun _ => ok) (fun _ => kept_setReg ok)

theorem kept_chooseRef {s : State} (ok : Keeps start s) : Keeps start (chooseRef s) := by
  unfold chooseRef
  refine kept_ite (fun _ => ok) (fun _ => ?_)
  split
  · exact kept_setField ok
  · exact ok

theorem kept_wrGroupRefPort {v : Nat} {s : State} (ok : Keeps start s) : PairKept start (wrGroupRefPort v s) :=
  pairKept_ite (fun _ => ok) (fun _ => kept_chooseRef (kept_setReg ok))

theorem kept_softDown {p : Nat} {s : State} (ok : Keeps start s) : Keeps start (softDown p s) :=
  kept_ite (fun _ => kept_portDown ok) (fun _ => kept_setField ok)

theorem kept_wrFpCtrl {p v : Nat} {s : State} (ok : Keeps start s) : PairKept start (wrFpCtrl p v s) :=
  pairKept_ite (fun _ => kept_softDown (kept_softDown (kept_setFlag (kept_setFlag (kept_when (kept_setReg ok) (fun h1 =>
      kept_softDown h1)))))) (fun _ => kept_when (kept_setReg ok) (fun h2 => kept_softDown h2))

theorem kept_freshSets {s : State} (ok : Keeps start s) : Keeps start (freshSets s) :=
  kept_ite (fun _ => ok) (fun _ => kept_with ok)

theorem kept_releasePacket {id : Nat} {s : State} (ok : Keeps start s) : Keeps start (releasePacket id s) :=
  kept_ite (fun _ => ok) (fun _ => kept_freePacket ok)

theorem kept_flushWhere {q : Nat} {keep : QFrame → Bool} {s : State} (ok : Keeps start s) : Keeps start (flushWhere q keep s) :=
  kept_when (kept_foldl (fun _ _ h2 => kept_releasePacket h2) (kept_bump32 (kept_setQueue ok))) (fun h1 => kept_with (kept_setReg h1))

theorem kept_flushQueue {q : Nat} {s : State} (ok : Keeps start s) : Keeps start (flushQueue q s) :=
  kept_ite (fun _ => ok) (fun _ => kept_flushWhere ok)

theorem kept_flushPort {L : Nat} {s : State} (ok : Keeps start s) : Keeps start (flushPort L s) :=
  kept_foldl (fun _ _ h1 => kept_flushQueue h1) ok

theorem kept_wrPortMode {p v : Nat} {s : State} (ok : Keeps start s) : PairKept start (wrPortMode p v s) :=
  pairKept_ite (fun _ => kept_foldl (fun _ _ h1 => kept_flushPort h1) (kept_wrPortCtrl (kept_refillExceptions ok))) (fun _ => ok)

theorem kept_fillPolicer {p : Nat} {s : State} (ok : Keeps start s) : Keeps start (fillPolicer p s) :=
  kept_with ok

theorem kept_setPolicer {p cfg cir pir cbs ebs : Nat} {cfgWritten : Bool}
    {s : State} (ok : Keeps start s) : PairKept start (setPolicer p cfg cir pir cbs ebs cfgWritten s) :=
  pairKept_ite (fun _ => ok) (fun _ =>
      kept_when (kept_setReg (kept_setReg (kept_setReg (kept_setReg (kept_setReg ok))))) (fun h1 => kept_fillPolicer h1))

theorem kept_wrPolicer {p w v : Nat} {s : State} (ok : Keeps start s) : PairKept start (wrPolicer p w v s) :=
  kept_setPolicer ok

theorem kept_setQueueCfg {named : Bool} {q cfg quantum g y r sh : Nat}
    {s : State} (ok : Keeps start s) : PairKept start (setQueueCfg named q cfg quantum g y r sh s) := by
  unfold setQueueCfg
  refine pairKept_ite (fun _ => ok) (fun _ => ?_)
  refine pairKept_ite (fun _ => ok) (fun _ => ?_)
  dsimp only
  split
  · exact kept_rejoin (kept_unless (kept_setReg (kept_setReg (kept_setReg (kept_setReg (kept_setReg (kept_setReg ok))))))
      (fun h1 => kept_flushQueue h1))
  · exact kept_unless (kept_setReg (kept_setReg (kept_setReg (kept_setReg (kept_setReg (kept_setReg ok)))))) (fun h2 =>
      kept_flushQueue h2)

theorem kept_wrQueue {q w v : Nat} {s : State} (ok : Keeps start s) : PairKept start (wrQueue q w v s) :=
  kept_setQueueCfg ok

theorem kept_setPortQueues {L pq sh : Nat} {s : State} (ok : Keeps start s) : PairKept start (setPortQueues L pq sh s) :=
  pairKept_ite (fun _ => ok) (fun _ => kept_rejoinAll (kept_with (kept_setReg (kept_setReg ok))))

theorem kept_wrPqCfg {L v : Nat} {s : State} (ok : Keeps start s) : PairKept start (wrPqCfg L v s) :=
  kept_setPortQueues ok

theorem kept_wrPortShaper {L v : Nat} {s : State} (ok : Keeps start s) : PairKept start (wrPortShaper L v s) :=
  kept_setPortQueues ok

theorem kept_applyShaper {i fill rate burst : Nat} {s : State} (ok : Keeps start s) : PairKept start (applyShaper i fill rate burst s) :=
  pairKept_ite (fun _ => ok) (fun _ => kept_rejoinAll (kept_with (kept_freshSets (kept_bump32 (kept_setReg (kept_setReg ok))))))

theorem kept_wrShApply {i v : Nat} {s : State} (ok : Keeps start s) : PairKept start (wrShApply i v s) :=
  kept_applyShaper ok

theorem kept_wrShCfg {i v : Nat} {s : State} (ok : Keeps start s) : PairKept start (wrShCfg i v s) :=
  kept_rejoinAll (kept_setReg ok)

theorem kept_wrTruncate {m v : Nat} {s : State} (ok : Keeps start s) : PairKept start (wrTruncate m v s) :=
  pairKept_ite (fun _ => ok) (fun _ => kept_setReg ok)

theorem kept_extendMeas {i : Nat} {d : Bytes} {s : State} (ok : Keeps start s) : Keeps start (extendMeas i d s) :=
  kept_foldl (fun _ _ h1 => kept_setReg h1) ok

theorem kept_wrJtagCtrl {v : Nat} {s : State} (ok : Keeps start s) : PairKept start (wrJtagCtrl v s) :=
  pairKept_ite (fun _ => ok) (fun _ => pairKept_ite (fun _ => ok) (fun _ => kept_extendMeas (kept_setReg ok)))

theorem kept_wrSelftestPeriod {v : Nat} {s : State} (ok : Keeps start s) : PairKept start (wrSelftestPeriod v s) :=
  pairKept_ite (fun _ => ok) (fun _ => kept_setReg ok)

theorem kept_writePlain {l : Loc} {v : Nat} {s : State} (ok : Keeps start s) : PairKept start (writePlain l v s) :=
  pairKept_ite (fun _ => kept_setReg ok) (fun _ => ok)

theorem kept_inRange {l : Loc} {v : Nat} {f : Nat → State → Nat × State}
    {s : State} (hf : ∀ x0 x1, Keeps start x1 → PairKept start (f x0 x1)) (ok : Keeps start s) : PairKept start (inRange l v f s) :=
  pairKept_ite (fun _ => hf _ _ ok) (fun _ => ok)

theorem kept_wrGlobalCtrl {v : Nat} {s : State} (ok : Keeps start s) : PairKept start (wrGlobalCtrl v s) :=
  kept_sendEvents (kept_setReg ok)

theorem kept_wrBeatStatus {v : Nat} {s : State} (ok : Keeps start s) : PairKept start (wrBeatStatus v s) :=
  kept_setReg ok

theorem kept_writeBeat {l : Loc} {a v : Nat} {s : State} (ok : Keeps start s) : PairKept start (writeBeat l a v s) :=
  pairKept_ite (fun _ => kept_wrBeatCtrl ok) (fun _ => pairKept_ite (fun _ => kept_wrBeatRateTarget ok) (fun _ => pairKept_ite (fun _ =>
      kept_wrBeatStatus ok) (fun _ => pairKept_ite (fun _ => kept_wrSpokeReattach ok) (fun _ => pairKept_ite (fun _ =>
      kept_wrHaltMask ok) (fun _ => pairKept_ite (fun _ => kept_wrResumeMask ok) (fun _ => pairKept_ite (fun _ =>
      kept_wrGustCtrl ok) (fun _ => pairKept_ite (fun _ => kept_wrGroupRefPort ok) (fun _ => pairKept_ite (fun _ =>
      kept_wrTimeCtrl ok) (fun _ => pairKept_ite (fun _ => kept_wrTimeFreqAdj ok) (fun _ => pairKept_ite (fun _ =>
      kept_wrTimeStepNs ok) (fun _ => pairKept_ite (fun _ => kept_wrSnap ok) (fun _ => kept_writePlain ok))))))))))))

theorem kept_writePort {l : Loc} {a v : Nat} {s : State} (ok : Keeps start s) : PairKept start (writePort l a v s) :=
  pairKept_ite (fun _ => kept_wrPortMode ok) (fun _ => pairKept_ite (fun _ => pairKept_ite (fun _ => ok) (fun _ => kept_inRange (fun _ _ h1 =>
      kept_wrSubPort h1) ok)) (fun _ => kept_writePlain ok))

theorem kept_writeFifo {l : Loc} {v : Nat} {s : State} (ok : Keeps start s) : PairKept start (writeFifo l v s) :=
  pairKept_ite (fun _ => ok) (fun _ => pairKept_ite (fun _ => kept_wrFifoCtrl ok) (fun _ => kept_wrDropRest ok))

theorem kept_writeGroup {l : Loc} {v : Nat} {s : State} (ok : Keeps start s) : PairKept start (writeGroup l v s) :=
  pairKept_ite (fun _ => kept_wrHcCtrl ok) (fun _ => pairKept_ite (fun _ => kept_wrProgValidate ok) (fun _ => pairKept_ite (fun _ =>
      kept_wrProgFlip ok) (fun _ => pairKept_ite (fun _ => kept_wrProgStage ok) (fun _ => pairKept_ite (fun _ =>
      kept_wrDispStage ok) (fun _ => kept_writePlain ok)))))

theorem kept_writeStage {e : Env} {l : Loc} {v : Nat} {s : State} (ok : Keeps start s) : PairKept start (writeStage e l v s) :=
  pairKept_ite (fun _ => kept_wrMissStage ok) (fun _ => pairKept_ite (fun _ => kept_wrEntrySel ok) (fun _ => pairKept_ite (fun _ =>
      kept_wrEntryCmd ok) (fun _ => pairKept_ite (fun _ => kept_wrKeyselStage ok) (fun _ => pairKept_ite (fun _ =>
      kept_wrTernRange ok) (fun _ => kept_writePlain ok)))))

theorem kept_writeRule {l : Loc} {a v : Nat} {s : State} (ok : Keeps start s) : PairKept start (writeRule l a v s) :=
  pairKept_ite (fun _ => kept_wrHashStage ok) (fun _ => pairKept_ite (fun _ => kept_wrExcRate ok) (fun _ => pairKept_ite (fun _ =>
      kept_wrExcBurst ok) (fun _ => pairKept_ite (fun _ => kept_wrExcPortRate ok) (fun _ => pairKept_ite (fun _ =>
      kept_wrPortDefault ok) (fun _ => pairKept_ite (fun _ => kept_wrEgroup ok) (fun _ => pairKept_ite (fun _ =>
      kept_wrEncap ok) (fun _ => kept_writePlain ok)))))))

theorem kept_writeFlowTenant {e : Env} {l : Loc} {v : Nat} {s : State} (ok : Keeps start s) : PairKept start (writeFlowTenant e l v s) :=
  pairKept_ite (fun _ => ok) (fun _ => kept_inRange (fun _ _ h1 => kept_wrFlowTenant h1) ok)

theorem kept_writeTm {l : Loc} {a v : Nat} {s : State} (ok : Keeps start s) : PairKept start (writeTm l a v s) :=
  pairKept_ite (fun _ => kept_wrPolicer ok) (fun _ => pairKept_ite (fun _ => pairKept_ite (fun _ => kept_wrShApply ok) (fun _ =>
      pairKept_ite (fun _ => kept_wrShCfg ok) (fun _ => kept_writePlain ok))) (fun _ => pairKept_ite (fun _ => kept_wrQueue ok) (fun _ =>
      pairKept_ite (fun _ => pairKept_ite (fun _ => kept_wrPqCfg ok) (fun _ => pairKept_ite (fun _ => kept_wrPortShaper ok) (fun _ =>
      kept_writePlain ok))) (fun _ => pairKept_ite (fun _ => kept_wrTruncate ok) (fun _ => kept_writePlain ok)))))

theorem kept_writeBridge {l : Loc} {v : Nat} {s : State} (ok : Keeps start s) : PairKept start (writeBridge l v s) :=
  pairKept_ite (fun _ => ok) (fun _ => kept_writePlain ok)

theorem kept_writeLoc {e : Env} {a v : Nat} {l : Loc} {s : State} (ok : Keeps start s) : PairKept start (writeLoc e a v l s) := by
  unfold writeLoc
  split
  · exact pairKept_ite (fun _ => kept_wrGlobalCtrl ok) (fun _ => kept_writePlain ok)
  · exact kept_writeBeat ok
  · exact pairKept_ite (fun _ => kept_wrIntCtrl ok) (fun _ => pairKept_ite (fun _ => kept_wrCellAckTimeout ok) (fun _ => kept_writePlain ok))
  · exact pairKept_ite (fun _ => kept_wrJtagCtrl ok) (fun _ => pairKept_ite (fun _ => kept_wrSelftestPeriod ok) (fun _ => kept_writePlain ok))
  · exact kept_writePort ok
  · exact kept_writeFifo ok
  · exact kept_writeGroup ok
  · exact kept_writeStage ok
  · exact kept_writeRule ok
  · exact pairKept_ite (fun _ => kept_wrScanPeriod ok) (fun _ => kept_writePlain ok)
  · exact kept_writeFlowTenant ok
  · exact kept_writeTm ok
  · exact pairKept_ite (fun _ => kept_wrFpCtrl ok) (fun _ => kept_writePlain ok)
  · exact kept_writeBridge ok
  · exact pairKept_ite (fun _ => kept_wrStoreCmd ok) (fun _ => kept_writePlain ok)
  · exact kept_writePlain ok
  · exact kept_writePlain ok
  · exact kept_writePlain ok
  · exact kept_writePlain ok
  · exact kept_writePlain ok

theorem kept_writeWord {e : Env} {a v : Nat} {s : State} (ok : Keeps start s) : PairKept start (writeWord e a v s) := by
  unfold writeWord
  split
  · exact ok
  · refine pairKept_ite (fun _ => ok) (fun _ => ?_)
    split
    · exact ok
    · refine pairKept_ite (fun _ => ok) (fun _ => ?_)
      split
      · exact ok
      · exact ok
      · exact kept_writeLoc ok
      · exact kept_writeLoc ok
      · exact kept_writeLoc ok
      · exact kept_writeLoc ok

theorem kept_writeWords {e : Env} {a : Nat} {vs : List Nat} {s : State} (ok : Keeps start s) : TripleKept start (writeWords e a vs s) := by
  induction vs generalizing a s with
  | nil => exact ok
  | cons v vs ih =>
    unfold writeWords
    exact tripleKept_ite (fun _ => ok) (fun _ => ih (kept_writeWord ok))

theorem kept_cmdCsrWrite {e : Env} {p : Bytes} {s : State} (ok : Keeps start s) : PairKept start (cmdCsrWrite e p s) :=
  pairKept_ite (fun _ => kept_refuse ok) (fun _ => kept_writeWords ok)

end
end Sys2Proof.Machine

/-!
PROOFS. A statement about register writes whose frame leaves out a port that events may go by.
-/
namespace Sys2Proof.Machine

/-- A device that may step its time of day, whose owner is by, with the session of the fabric that an event waits for. -/
def stepping : State := { attended (strayed (running.setReg Addr.TIME_CTRL 8)) with sessions := [ownSession, farSession] }

/-- Refutes O15: the event of a stepped time base lets the events of a session of the fabric leave by port 24, which `eventRegs` leaves out. -/
theorem not_beatWritesTakeEffect : ¬ Obligations.BeatWritesTakeEffect := by
  unfold Obligations.BeatWritesTakeEffect
  intro h
  have ready_ : ready ownCmd ownSession stepping = true := by decide +kernel
  obtain ⟨_, _, _, _, _, _, steps⟩ := h ownCmd ownSession stepping 1#32 ready_ rfl
  obtain ⟨t, ⟨_, frame, _⟩, same⟩ := unsaid_of_completes (f := cmdCsrWrite) (op := 0x0101) rfl ready_ (by decide) (by decide)
    (show ∀ e p t, Keeps t (cmdCsrWrite e p t).2 from fun _ _ t => kept_cmdCsrWrite (.refl t)) (by decide +kernel) (steps (by decide +kernel))
  have kept : t.unsaid.reg (Addr.FLITS_TX 24) = _ := congrArg (State.reg · (Addr.FLITS_TX 24)) same
  exact absurd ((frame _ flits24_not_mem).symm.trans kept) (by decide +kernel)
end Sys2Proof.Machine

/-!
PROOFS. The traffic commands (R281 to R283, R286, R288, R289, R291 to R293).
-/
namespace Sys2Proof.Machine

/-! Several registers set together -/

/-- Registers set one after the other. -/
def State.setRegs (s : State) (l : List (Nat × Nat)) : State := l.foldl (fun s w => s.setReg w.1 w.2) s

theorem regsOnly_setRegs (l : List (Nat × Nat)) (s : State) : RegsOnly s (s.setRegs l) :=
  .foldl (f := fun s (w : Nat × Nat) => s.setReg w.1 w.2) (fun s w => regsOnly_setReg s w.1 w.2) l s

theorem State.reg_setRegs_other {a : Nat} (l : List (Nat × Nat)) (s : State) (other : a ∉ l.map Prod.fst) : (s.setRegs l).reg a = s.reg a := by
  induction l generalizing s with
  | nil => rfl
  | cons w l ih =>
    rw [List.map_cons, List.mem_cons, not_or] at other
    exact (ih _ other.2).trans (State.reg_setReg_other other.1 s w.2)

theorem State.reg_setRegs_mem {a v : Nat} (l : List (Nat × Nat)) (s : State) (apart : (l.map Prod.fst).Nodup) (there : (a, v) ∈ l) :
    (s.setRegs l).reg a = v % 2 ^ 64 := by
  induction l generalizing s with
  | nil => exact absurd there List.not_mem_nil
  | cons w l ih =>
    rw [List.map_cons, List.nodup_cons] at apart
    rcases List.mem_cons.mp there with rfl | later
    · exact (State.reg_setRegs_other l _ apart.1).trans (State.reg_setReg_same s a v)
    · exact ih _ apart.2 later

theorem State.reg_setRegs {a v : Nat} {l : List (Nat × Nat)} (s : State) (apart : (l.map Prod.fst).Nodup) (there : (a, v) ∈ l) (small : v < 2 ^ 64) :
    (s.setRegs l).reg a = v := (reg_setRegs_mem l s apart there).trans (Nat.mod_eq_of_lt small)

/-! Active lists (R289) -/

/-- `t` is `s` but for the lists of active queues. -/
def Relisted (s t : State) : Prop := t = { s with tm := { s.tm with active := t.tm.active } }

theorem Relisted.refl (s : State) : Relisted s s := rfl

theorem Relisted.trans {s t u : State} (h : Relisted s t) (h' : Relisted t u) : Relisted s u := by
  unfold Relisted at *
  rw [h', h]

theorem Relisted.foldl {α : Type} {f : State → α → State} (hf : ∀ s x, Relisted s (f s x)) : ∀ (l : List α) (s : State), Relisted s (l.foldl f s)
  | [], s => .refl s
  | x :: l, s => (hf s x).trans (Relisted.foldl hf l (f s x))

section
variable {s t : State} (h : Relisted s t)
include h
theorem Relisted.reg (a : Nat) : t.reg a = s.reg a := State.reg_of_regs (by rw [h]) a
theorem Relisted.mem : t.mem = s.mem := by rw [h]
theorem Relisted.time : t.time = s.time := by rw [h]
theorem Relisted.queues : t.tm.queues = s.tm.queues := by rw [h]
theorem Relisted.tokens : t.tm.tokens = s.tm.tokens := by rw [h]
theorem Relisted.shAt : t.tm.shAt = s.tm.shAt := by rw [h]
end

theorem relisted_rejoin (L : Nat) (s : State) : Relisted s (rejoin L s) := by
  unfold rejoin
  dsimp only
  split
  · rfl
  · rfl

theorem relisted_rejoinAll (s : State) : Relisted s (rejoinAll s) := .foldl (fun s L => relisted_rejoin L s) _ s

/-! Policers, queues and port queues (R282, R286, R288) -/

/-- A change of the traffic manager's own state. -/
theorem State.withTm (s : State) (x : TmState) :
    ({ s with tm := x } : State).regs = s.regs ∧ ({ s with tm := x } : State).mem = s.mem ∧
        ({ s with tm := x } : State).time = s.time := ⟨rfl, rfl, rfl⟩

theorem fillPolicer_eq (i : Nat) (s : State) : ∃ x, fillPolicer i s = { s with tm := x } := ⟨_, rfl⟩

/-- The registers of a policer and their values. -/
def policerRegs (i cfg cir pir cbs ebs : Nat) : List (Nat × Nat) :=
  [(Addr.POL_CFG i, cfg), (Addr.CIR i, cir), (Addr.PIR i, pir), (Addr.CBS i, cbs), (Addr.EBS_PBS i, ebs)]

theorem setPolicer_good {i cfg cir pir cbs ebs : Nat} (mode : cfg % 8 ≤ 3) (peak : cfg % 8 = 2 → cir ≤ pir) (burst : cfg % 8 = 1 → cbs ≠ 0 ∨ ebs ≠ 0)
    (low : 384 ≤ bits cfg 8 10) (high : bits cfg 8 10 ≤ 1022) (s : State) :
    ∃ t, setPolicer i cfg cir pir cbs ebs true s = (St.OK, t) ∧ t.mem = s.mem ∧ t.regs = (s.setRegs (policerRegs i cfg cir pir cbs ebs)).regs := by
  unfold setPolicer
  extract_lets m off changed s1
  have same : s1 = s.setRegs (policerRegs i cfg cir pir cbs ebs) := rfl
  rw [if_neg (by simp only [low, high, m, off, and_self, decide_true, Bool.not_true, Bool.false_eq_true, and_false, or_false]; omega)]
  refine ⟨_, rfl, ?_⟩
  rw [← same]
  have only : s1.mem = s.mem := same ▸ (regsOnly_setRegs _ s).mem
  obtain ⟨x, filled⟩ := fillPolicer_eq i s1
  split
  · rw [filled]
    exact ⟨(s1.withTm x).2.1.trans only, (s1.withTm x).1⟩
  · exact ⟨only, rfl⟩

theorem regs_freshSets (s : State) : (freshSets s).regs = s.regs ∧ (freshSets s).mem = s.mem := by
  unfold freshSets
  split
  · exact ⟨rfl, rfl⟩
  · exact ⟨rfl, rfl⟩

section
variable {e : Env} {p : Bytes} {s : State} (owner_ : e.owner = true)
include owner_

theorem cmdPolicerSet_eq {t : State} (len : p.length = 24) (zero : zerosAt p 2 2 = true)
    (set_ : setPolicer (be p 0 2) (be p 4 4 &&& polCfgMask) (be p 8 4) (be p 12 4) (be p 16 4 % 2 ^ 28) (be p 20 4 % 2 ^ 28) true s = (St.OK, t)) :
    ∃ was, cmdPolicerSet e p s = (ok, { freshSets t with tm.polWas := was }) := by
  unfold cmdPolicerSet
  dsimp only
  rw [if_neg (by simp [len, zero]), if_neg (by simp [maySet, owner_]), set_]
  exact ⟨_, if_pos rfl⟩
end
/-- The registers of a queue and their values. -/
def queueRegs (q cfg quantum g y r sh : Nat) : List (Nat × Nat) :=
  [(Addr.Q_CFG q, cfg &&& 0x7FFC0), (Addr.QUANTUM q, quantum), (Addr.GREEN_LIMIT q, g), (Addr.YELLOW_LIMIT q, y), (Addr.RED_LIMIT q, r),
    (Addr.Q_SHAPER q, sh % 2 ^ 13)]

theorem setQueueCfg_good {q cfg quantum g y r sh : Nat} {s : State} (least : 64 ≤ quantum) (most : quantum ≤ 2 ^ 20) (yellow : y ≤ g) (red : r ≤ y)
    (shaper : bitAt sh 12 = true ∨ s.tmOwned 1 (sh % 4096) (bits cfg 8 8) = true) (enabled : bitAt cfg 6 = true) :
    ∃ t, setQueueCfg true q cfg quantum g y r sh s = (St.OK, t) ∧ Relisted (s.setRegs (queueRegs q cfg quantum g y r sh)) t := by
  unfold setQueueCfg
  extract_lets s1 s2
  have at2 : s2 = s.setRegs (queueRegs q cfg quantum g y r sh) := if_pos enabled
  rw [if_neg (by omega), if_neg (by rcases shaper with none_ | owned <;> simp [*]), ← at2]
  refine ⟨_, rfl, ?_⟩
  split
  · exact relisted_rejoin _ s2
  · exact .refl s2

/-- The registers of a port's queues and their values. -/
def portQueueRegs (L pq sh : Nat) : List (Nat × Nat) := [(Addr.PQ_CFG L, pq % 2 ^ 23), (Addr.PORT_SHAPER L, sh % 2 ^ 13)]

theorem relisted_active (s : State) (l : Tab (List Nat)) : Relisted s { s with tm.active := l } := rfl

theorem setPortQueues_good {L pq sh : Nat} {s : State} (fits : s.rangeBad L pq = false) :
    ∃ t, setPortQueues L pq sh s = (St.OK, t) ∧ Relisted (s.setRegs (portQueueRegs L pq sh)) t := by
  unfold setPortQueues
  rw [if_neg (by simp [fits])]
  exact ⟨_, rfl, (relisted_active _ _).trans (relisted_rejoinAll _)⟩

theorem accrue_zero (rate : Nat) : accrue rate 0 = 0 := by simp [accrue]

/-- The bucket of a shaper as it is applied. -/
def appliedShaper (i : Nat) (tokens : Int) (s : State) : State :=
  { s with tm.applied := i :: s.tm.applied, tm.tokens := tabSet 0 i tokens s.tm.tokens, tm.shAt := tabSet 0 i s.time.fill s.tm.shAt }

theorem appliedShaper_eq (i : Nat) (tokens : Int) (s : State) : ∃ x, appliedShaper i tokens s = { s with tm := x } := ⟨_, rfl⟩

/-- A bucket that has just been filled holds what it was filled to, up to the burst. -/
theorem shTokens_of_applied {i : Nat} {tokens : Int} {s t : State} (listed : Relisted (appliedShaper i tokens s) t)
    (most : tokens ≤ ((s.reg (Addr.SH_BURST i) * 2 ^ 32 : Nat) : Int)) : t.shTokens i = tokens := by
  obtain ⟨x, eq⟩ := appliedShaper_eq i tokens s
  have time : (appliedShaper i tokens s).time = s.time := by rw [eq]
  have burst : t.reg (Addr.SH_BURST i) = s.reg (Addr.SH_BURST i) := (listed.reg _).trans (State.reg_of_regs (by rw [eq]) _)
  have held : tabGet 0 i t.tm.tokens = tokens := by rw [listed.tokens]; exact tabGet_tabSet_same ..
  have since : tabGet 0 i t.tm.shAt = s.time.fill := by rw [listed.shAt]; exact tabGet_tabSet_same ..
  rw [State.shTokens, burst, held, since, listed.time, time, Int.sub_self, accrue_zero, Int.natCast_zero, Int.add_zero]
  exact min_eq_right most

/-- A shaper's rate and burst, applied: its bucket is full or empty. -/
theorem applyShaper_good {i fill rate burst : Nat} {s : State} (small : burst < 2 ^ 64) (known : fill = 1 ∨ fill = 2) :
    ∃ t, applyShaper i fill rate burst s = (St.OK, t) ∧ t.mem = s.mem ∧
      t.regs = ((s.setRegs [(Addr.SH_RATE i, rate), (Addr.SH_BURST i, burst)]).bump32 (Addr.SH_APPLIES i)).regs ∧
      t.shTokens i = if fill = 1 then ((burst * 2 ^ 32 : Nat) : Int) else 0 := by
  unfold applyShaper
  rw [if_neg (by omega)]
  generalize set_ : ((s.setReg (Addr.SH_RATE i) rate).setReg (Addr.SH_BURST i) burst).bump32 (Addr.SH_APPLIES i) = s1
  have only : RegsOnly s s1 := set_ ▸ ((regsOnly_setReg s _ _).trans (regsOnly_setReg _ _ _)).trans (regsOnly_setReg _ _ _)
  have bursts : (freshSets s1).reg (Addr.SH_BURST i) = burst := by
    rw [State.reg_of_regs (regs_freshSets s1).1, ← set_, State.reg_bump32_other _ (by unfold Addr.SH_BURST Addr.SH_APPLIES; omega),
      State.reg_setReg_same, Nat.mod_eq_of_lt small]
  generalize tokens_ : (if fill = 1 then ((burst * 2 ^ 32 : Nat) : Int) else 0) = tokens
  have most : tokens ≤ (((freshSets s1).reg (Addr.SH_BURST i) * 2 ^ 32 : Nat) : Int) := by
    rw [bursts, ← tokens_]
    split
    · exact le_rfl
    · exact Int.natCast_nonneg _
  have listed := relisted_rejoinAll (appliedShaper i tokens (freshSets s1))
  obtain ⟨x, eq⟩ := appliedShaper_eq i tokens (freshSets s1)
  refine ⟨rejoinAll (appliedShaper i tokens (freshSets s1)), rfl, ?_, ?_, shTokens_of_applied listed most⟩
  · rw [listed.mem, eq, (State.withTm _ x).2.1, (regs_freshSets s1).2, only.mem]
  · have regs : (rejoinAll (appliedShaper i tokens (freshSets s1))).regs = s1.regs := by
      rw [show State.regs (rejoinAll _) = _ from congrArg State.regs listed]
      exact (congrArg State.regs eq).trans (regs_freshSets s1).1
    rw [regs, ← set_]
    rfl
/-! The commands (R281, R283, R293) -/

section
variable {e : Env} {p : Bytes} {s t : State} (owner_ : e.owner = true)
include owner_

theorem cmdQueueSet_queue {st_ : Nat} (len : p.length = 28) (queue : byteAt p 0 = 0) (zero : byteAt p 1 = 0) (small : be p 2 2 ≤ 1023)
    (set_ : setQueueCfg true (be p 2 2) (be p 4 4 &&& 0x7FFC0) (be p 8 4 % 2 ^ 21) (be p 12 4 % 2 ^ 20) (be p 16 4 % 2 ^ 20) (be p 20 4 % 2 ^ 20)
      (be p 24 4 % 2 ^ 13) s = (st_, t)) : cmdQueueSet e p s = (st st_, t) := by
  unfold cmdQueueSet
  dsimp only
  rw [if_neg (by simp [queue, zero, len]; omega), if_neg (by simp [queue]), if_neg (by simp [maySet, owner_]), set_]

theorem cmdQueueSet_port {st_ : Nat} (len : p.length = 12) (port : byteAt p 0 = 1) (zero : byteAt p 1 = 0) (small : be p 2 2 ≤ 63)
    (set_ : setPortQueues (be p 2 2) (be p 4 4) (be p 8 4) s = (st_, t)) : cmdQueueSet e p s = (st st_, t) := by
  unfold cmdQueueSet
  dsimp only
  rw [if_neg (by simp [port, zero, len]; omega), if_pos port, if_neg (by simp [owner_]), set_]

theorem cmdShaperSet_eq {st_ : Nat} (len : p.length = 16) (small : be p 0 2 ≤ 4095) (zero : byteAt p 3 = 0) (fill : byteAt p 2 = 1 ∨ byteAt p 2 = 2)
    (set_ : applyShaper (be p 0 2) (byteAt p 2) (be p 4 4) (be p 8 4 % 2 ^ 28) (s.setReg (Addr.SH_CFG (be p 0 2)) (be p 12 4 &&& 0x1FF7F)) =
        (st_, t)) :
    cmdShaperSet e p s = (st st_, t) := by
  unfold cmdShaperSet
  dsimp only
  rw [if_neg (by simp [len, zero]; omega), if_neg (by simp [maySet, owner_]), set_]

theorem cmdTmRead_eq (len : p.length = 6) (kind : byteAt p 0 ≤ 5) (zero : byteAt p 1 = 0) (least : 1 ≤ be p 4 2) (most : be p 4 2 ≤ 256)
    (fits : be p 2 2 + be p 4 2 ≤ (tmBlocks (byteAt p 0)).1) :
    ∃ r, r.status = St.OK ∧ cmdTmRead e p s =
      (r, if byteAt p 0 = 0 then s.setRegs ((List.range (be p 4 2)).map (fun j => (Addr.OCC_HIGH (be p 2 2 + j), 0))) else s) := by
  unfold cmdTmRead
  extract_lets k first n b words
  have inside : first + n ≤ b.1 := fits
  rw [if_neg (by omega), if_neg (by simp [mayRead, owner_]), State.setRegs, List.foldl_map]
  exact ⟨_, rfl, rfl⟩

theorem cmdFenceSet_ports (len : p.length = 16) (tenant : byteAt p 0 = 0) (zero : zerosAt p 2 2 = true) (zero' : zerosAt p 14 2 = true) :
    cmdFenceSet e p s = (ok, setFence (Addr.TCLASSES (byteAt p 1)) (be p 12 2) (setFence (Addr.TPORTS (byteAt p 1)) (be p 4 8) s)) := by
  unfold cmdFenceSet
  dsimp only
  rw [if_neg (by simp [owner_]), if_neg (by simp [len, tenant, zero]), if_pos tenant, if_neg (by simp [zero'])]

theorem cmdFenceSet_classes (len : p.length = 16) (port : byteAt p 0 = 1) (zero : zerosAt p 2 2 = true) (small : byteAt p 1 ≤ 63)
    (zero' : zerosAt p 6 10 = true) : cmdFenceSet e p s = (ok, setFence (Addr.PORT_CLASSES (byteAt p 1)) (be p 4 2) s) := by
  unfold cmdFenceSet
  dsimp only
  rw [if_neg (by simp [owner_]), if_neg (by simp [len, port, zero]), if_neg (by simp [port]), if_neg (by simp [zero']; omega)]

theorem cmdMirrorSet_eq (len : p.length = 12) (small : byteAt p 0 ≤ 15) (zero : zerosAt p 1 3 = true)
    (truncate : be p 8 4 % 2 ^ 14 = 0 ∨ (64 ≤ be p 8 4 % 2 ^ 14 ∧ be p 8 4 % 2 ^ 14 ≤ 9728)) :
    cmdMirrorSet e p s = (ok, s.setRegs [(Addr.TRUNCATE (byteAt p 0), be p 8 4 % 2 ^ 14), (Addr.MIR_CFG (byteAt p 0), be p 4 4 % 2 ^ 25)]) := by
  have set_ : wrTruncate (byteAt p 0) (be p 8 4) s = (St.OK, s.setReg (Addr.TRUNCATE (byteAt p 0)) (be p 8 4 % 2 ^ 14)) := if_neg (by omega)
  unfold cmdMirrorSet
  dsimp only
  rw [if_neg (by simp [owner_]), if_neg (by simp [len, zero]; omega), set_]
  exact if_pos rfl
end

theorem setFence_eq (a v : Nat) (s : State) : ∃ x, setFence a v s = { s.setReg a v with tm := x } := ⟨_, rfl⟩

theorem setFence_reg (a v b : Nat) (s : State) : (setFence a v s).reg b = (s.setReg a v).reg b := by
  obtain ⟨x, eq⟩ := setFence_eq a v s
  rw [eq]
  rfl

theorem setFence_mem (a v : Nat) (s : State) : (setFence a v s).mem = s.mem := by
  obtain ⟨x, eq⟩ := setFence_eq a v s
  rw [eq]
  rfl

/-! The write of SH_APPLY (R292) -/

theorem placeIn_skip {o : Nat} {r : RegRow} (outside : r.place o = none) (rs : List RegRow) : placeIn o (r :: rs) = placeIn o rs := by
  rw [placeIn, outside]

theorem placeIn_here {o : Nat} {r : RegRow} {x : Nat × Nat × Bool} (placed : r.place o = some x) (rs : List RegRow) :
    placeIn o (r :: rs) = some (r, x) := by
  rw [placeIn, placed]

/-- An offset beyond the items of a row, or between the values of two. -/
theorem place_apart {o : Nat} {r : RegRow} (steps : 0 < r.step) (apart : r.n ≤ (o - r.off) / r.step ∨ r.m * r.width ≤ (o - r.off) % r.step) :
    r.place o = none := by
  unfold RegRow.place
  dsimp only
  split
  · rfl
  · rw [if_neg (by omega : ¬ r.step = 0), Nat.mul_comm, ← Nat.mod_eq_sub_mul_div, if_neg (by simp; omega)]

/-- An offset beyond a single item. -/
theorem place_single {o : Nat} {r : RegRow} (beyond : r.off + r.m * r.width ≤ o) (single : r.step = 0) : r.place o = none := by
  unfold RegRow.place
  dsimp only
  rw [if_neg (by omega), if_pos single, if_neg (by simp; omega)]

/-- The first value of an item. -/
theorem place_item {k : Nat} {r : RegRow} (there : k < r.n) (steps : 0 < r.step) (some_ : 0 < r.m * r.width) (single : r.pair = false) :
    r.place (r.off + k * r.step) = some (k, 0, false) := by
  unfold RegRow.place
  dsimp only
  rw [if_neg (by omega), if_neg (by omega : ¬ r.step = 0), Nat.add_sub_cancel_left, Nat.mul_div_cancel _ steps, Nat.sub_self,
    if_pos (by simp [there, some_]), Nat.zero_div, single, Bool.false_and]

/-- The row of SH_APPLY. -/
def shApplyRow : RegRow := ⟨0x20010, 4096, 0x20, 1, false, .wo, 0x0, 0x3, 0x0, 0x3⟩

theorem placeIn_shApply {n : Nat} (hn : n < 4096) : placeIn (0x20010 + n * 0x20) tmRegs = some (shApplyRow, n, 0, false) := by
  unfold tmRegs tmRegs0 tmRegs1
  simp only [List.cons_append, List.nil_append]
  iterate 2 rw [placeIn_skip (place_single (by simp [RegRow.width]; omega) rfl)]
  iterate 30 rw [placeIn_skip (place_apart (by decide) (by simp only [RegRow.width, Bool.false_eq_true, ↓reduceIte]; omega))]
  exact placeIn_here (place_item (r := shApplyRow) hn (by decide) (by decide) rfl) _

theorem locate_shApply {n : Nat} (hn : n < 4096) :
    locate (Addr.SH_APPLY n) = some ⟨.tm, 0, shApplyRow, n, 0, false, Addr.SH_APPLY n⟩ := by
  unfold locate blocks
  iterate 13 rw [locateIn_outside (by simp only [Addr.SH_APPLY]; omega)]
  have number : (Addr.SH_APPLY n - 0x1000000) / 0x610000 = 0 := by simp only [Addr.SH_APPLY]; omega
  have offset : (Addr.SH_APPLY n - 0x1000000) % 0x610000 = 0x20010 + n * 0x20 := by simp only [Addr.SH_APPLY]; omega
  rw [locateIn_inside (r := shApplyRow) (k := n) (j := 0) (by simp only [Addr.SH_APPLY]; omega) (by simp only [offset]; exact placeIn_shApply hn)]
  simp only [number]

theorem blockIn_shApply {n : Nat} (hn : n < 4096) : blockIn (Addr.SH_APPLY n) blocks = some (.tm, 0) := by
  unfold blocks
  iterate 13 rw [blockIn_outside (by simp only [Addr.SH_APPLY]; omega)]
  have number : (Addr.SH_APPLY n - 0x1000000) / 0x610000 = 0 := by simp only [Addr.SH_APPLY]; omega
  rw [blockIn, if_pos (by simp only [Addr.SH_APPLY]; omega)]
  simp only [number]

theorem writeWord_shApply {e : Env} (owner_ : e.owner = true) {n : Nat} (hn : n < 4096) (v : Nat) (s : State) :
    writeWord e (Addr.SH_APPLY n) v s = wrShApply n v s := by
  have may : s.mayWriteWord e (Addr.SH_APPLY n) = true := by
    rw [State.mayWriteWord, isStoreCtl, blockIn_shApply hn]
    simp [owner_]
  have index : (Addr.SH_APPLY n - Addr.SH_RATE 0) / 0x20 = n := by simp only [Addr.SH_APPLY, Addr.SH_RATE]; omega
  rw [writeWord_located may (locate_shApply hn) rfl ⟨nofun, nofun⟩]
  show writeTm _ _ _ _ = _
  unfold writeTm
  rw [if_neg (by simp only [Addr.SH_APPLY, Addr.POL_CFG, Addr.POL_GREEN]; omega),
    if_pos (by simp only [Addr.SH_APPLY, Addr.POL_CFG, Addr.SH_RATE]; omega)]
  simp only [index, ↓reduceIte]

theorem nodup_policerRegs (i cfg cir pir cbs ebs : Nat) : ((policerRegs i cfg cir pir cbs ebs).map Prod.fst).Nodup := by
  simp [policerRegs, Addr.POL_CFG, Addr.CIR, Addr.PIR, Addr.CBS, Addr.EBS_PBS]

theorem nodup_queueRegs (q cfg quantum g y r sh : Nat) : ((queueRegs q cfg quantum g y r sh).map Prod.fst).Nodup := by
  simp [queueRegs, Addr.Q_CFG, Addr.QUANTUM, Addr.GREEN_LIMIT, Addr.YELLOW_LIMIT, Addr.RED_LIMIT, Addr.Q_SHAPER]

theorem be_four_lt (p : Bytes) (o : Nat) : be p o 4 < 2 ^ 32 := be_lt p o 4

/-- A list of registers set: each holds its value, and no other changes. -/
theorem sameRegsBut_setRegs {l : List (Nat × Nat)} {s t : State} (regs : ∀ a, t.reg a = (s.setRegs l).reg a) : sameRegsBut (l.map Prod.fst) s t :=
  fun a other => (regs a).trans (State.reg_setRegs_other l s other)

section
variable {c : Cmd} {x : Session} {s : State} {p : Bytes} (h : ready c x s = true) (owner_ : (envOf c x).owner = true)
include h owner_

theorem completes_policerSet (len : p.length = 24) (zero : zerosAt p 2 2 = true) (mode : (be p 4 4 &&& polCfgMask) % 8 ≤ 3)
    (peak : (be p 4 4 &&& polCfgMask) % 8 = 2 → be p 8 4 ≤ be p 12 4)
    (burst : (be p 4 4 &&& polCfgMask) % 8 = 1 → be p 16 4 % 2 ^ 28 ≠ 0 ∨ be p 20 4 % 2 ^ 28 ≠ 0)
    (low : 384 ≤ bits (be p 4 4 &&& polCfgMask) 8 10) (high : bits (be p 4 4 &&& polCfgMask) 8 10 ≤ 1022) :
    completes (.policerSet c p) 0x0500 c x s ok (fun t => (∀ a, t.reg a = ((begun c x s).setRegs (policerRegs (be p 0 2) (be p 4 4 &&& polCfgMask)
      (be p 8 4) (be p 12 4) (be p 16 4 % 2 ^ 28) (be p 20 4 % 2 ^ 28))).reg a) ∧ sameMemory s t) := by
  obtain ⟨t, set_, mem, regs⟩ := setPolicer_good mode peak burst low high (i := be p 0 2) (begun c x s)
  obtain ⟨was, acts⟩ := cmdPolicerSet_eq owner_ len zero set_
  refine completes_acts (f := cmdPolicerSet) rfl h (by decide) (by decide) acts ⟨fun a => State.reg_of_regs ?_ a, sameMemory_of_mem ?_⟩
  · exact (regs_freshSets t).1.trans regs
  · exact (regs_freshSets t).2.trans (mem.trans (begun_mem c x s))

theorem completes_queueSet_queue (len : p.length = 28) (queue : byteAt p 0 = 0) (zero : byteAt p 1 = 0) (small : be p 2 2 ≤ 1023)
    (least : 64 ≤ be p 8 4 % 2 ^ 21) (most : be p 8 4 % 2 ^ 21 ≤ 2 ^ 20) (yellow : be p 16 4 % 2 ^ 20 ≤ be p 12 4 % 2 ^ 20)
    (red : be p 20 4 % 2 ^ 20 ≤ be p 16 4 % 2 ^ 20)
    (shaper : bitAt (be p 24 4 % 2 ^ 13) 12 = true ∨
      (begun c x s).tmOwned 1 (be p 24 4 % 2 ^ 13 % 4096) (bits (be p 4 4 &&& 0x7FFC0) 8 8) = true)
    (enabled : bitAt (be p 4 4 &&& 0x7FFC0) 6 = true) :
    completes (.queueSet c p) 0x0502 c x s ok (fun t => Relisted ((begun c x s).setRegs (queueRegs (be p 2 2) (be p 4 4 &&& 0x7FFC0)
      (be p 8 4 % 2 ^ 21) (be p 12 4 % 2 ^ 20) (be p 16 4 % 2 ^ 20) (be p 20 4 % 2 ^ 20) (be p 24 4 % 2 ^ 13))) t) := by
  obtain ⟨t, set_, listed⟩ := setQueueCfg_good (q := be p 2 2) least most yellow red shaper enabled
  exact completes_acts (f := cmdQueueSet) rfl h (by decide) (by decide) (cmdQueueSet_queue owner_ len queue zero small set_) listed

theorem completes_queueSet_port (len : p.length = 12) (port : byteAt p 0 = 1) (zero : byteAt p 1 = 0) (small : be p 2 2 ≤ 63)
    (fits : (begun c x s).rangeBad (be p 2 2) (be p 4 4) = false) :
    completes (.queueSet c p) 0x0502 c x s ok (fun t => Relisted ((begun c x s).setRegs (portQueueRegs (be p 2 2) (be p 4 4) (be p 8 4))) t) := by
  obtain ⟨t, set_, listed⟩ := setPortQueues_good (sh := be p 8 4) fits
  exact completes_acts (f := cmdQueueSet) rfl h (by decide) (by decide) (cmdQueueSet_port owner_ len port zero small set_) listed
end

/-- Registers set, and a count of it. -/
theorem reg_of_counted {l : List (Nat × Nat)} {n : Nat} {s t : State} (regs : t.regs = ((s.setRegs l).bump32 n).regs) (apart : n ∉ l.map Prod.fst) :
    t.reg n = (s.reg n + 1) % 2 ^ 32 ∧ ∀ a, a ≠ n → t.reg a = (s.setRegs l).reg a := by
  refine ⟨?_, fun a other => ?_⟩
  · rw [State.reg_of_regs regs, State.reg_bump32, State.reg_setRegs_other l s apart]
  · rw [State.reg_of_regs regs, State.reg_bump32_other _ other]

theorem sameRegsBut_of_counted {l : List (Nat × Nat)} {n : Nat} {s t : State} (regs : t.regs = ((s.setRegs l).bump32 n).regs) :
    sameRegsBut (l.map Prod.fst ++ [n]) s t := by
  intro a other
  rw [List.mem_append, List.mem_singleton, not_or] at other
  rw [State.reg_of_regs regs, State.reg_bump32_other _ other.2, State.reg_setRegs_other l s other.1]

/-- What holds of the state that a command leaves holds of a weaker condition too. -/
theorem completes_imp {i : Instr} {op : Nat} {c : Cmd} {x : Session} {s : State} {r : Reply} {P Q : State → Prop}
    (completed : completes i op c x s r P) (weaker : ∀ t, P t → Q t) : completes i op c x s r Q := by
  obtain ⟨t, step, holds⟩ := completed
  exact ⟨t, step, weaker t holds⟩

/-- Settles O40: each command through the registers it sets together, the active lists it looks at again, and the bucket of a shaper. -/
theorem trafficCommandsComplete : Obligations.TrafficCommandsComplete := by
  unfold Obligations.TrafficCommandsComplete
  intro c x s p h isOwner
  have owner_ := envOf_owner isOwner c
  have wide (o : Nat) : be p o 4 < 2 ^ 64 := (be_four_lt p o).trans (by decide)
  have part (o m : Nat) : be p o 4 &&& m < 2 ^ 64 := Nat.and_le_left.trans_lt (wide o)
  have rest (o m : Nat) : be p o 4 % m < 2 ^ 64 := (Nat.mod_le _ _).trans_lt (wide o)
  have memory {l : List (Nat × Nat)} {t : State} (same : t.mem = ((begun c x s).setRegs l).mem) : sameMemory s t :=
    sameMemory_of_mem (same.trans ((regsOnly_setRegs l _).mem.trans (begun_mem c x s)))
  refine ⟨fun len zero mode peak burst low high => ?_, fun len queue zero small least most yellow red shaper enabled => ?_,
    fun len port zero small fits => ?_, fun len small zero fill => ?_, fun n v hn fill => ?_, fun len kind zero least most fits => ?_,
    fun len tenant zero zero' => ?_, fun len port zero small zero' => ?_, fun len small zero truncate => ?_⟩
  · refine completes_imp (completes_policerSet h owner_ len zero mode peak burst low high) fun t ⟨regs, mem⟩ => ?_
    have set_ {a v : Nat} := State.reg_setRegs (a := a) (v := v) (begun c x s) (nodup_policerRegs (be p 0 2) (be p 4 4 &&& polCfgMask) (be p 8 4)
        (be p 12 4)
      (be p 16 4 % 2 ^ 28) (be p 20 4 % 2 ^ 28))
    exact ⟨(regs _).trans (set_ (by simp [policerRegs]) (part _ _)), (regs _).trans (set_ (by simp [policerRegs]) (wide _)),
      (regs _).trans (set_ (by simp [policerRegs]) (wide _)), (regs _).trans (set_ (by simp [policerRegs]) (rest _ _)),
      (regs _).trans (set_ (by simp [policerRegs]) (rest _ _)), mem, sameRegsBut_setRegs regs⟩
  · refine completes_imp (completes_queueSet_queue h owner_ len queue zero small least most yellow red shaper enabled) fun t listed => ?_
    have set_ {a v : Nat} := State.reg_setRegs (a := a) (v := v) (begun c x s) (nodup_queueRegs (be p 2 2) (be p 4 4 &&& 0x7FFC0) (be p 8 4 % 2 ^ 21)
      (be p 12 4 % 2 ^ 20) (be p 16 4 % 2 ^ 20) (be p 20 4 % 2 ^ 20) (be p 24 4 % 2 ^ 13))
    have regs := listed.reg
    refine ⟨(regs _).trans (set_ ?_ (part _ _)), (regs _).trans (set_ (by simp [queueRegs]) (rest _ _)),
      (regs _).trans (set_ (by simp [queueRegs]) (rest _ _)), (regs _).trans (set_ (by simp [queueRegs]) (rest _ _)),
      (regs _).trans (set_ (by simp [queueRegs]) (rest _ _)), (regs _).trans (set_ ?_ (rest _ _)), ?_, memory listed.mem, sameRegsBut_setRegs regs⟩
    · rw [queueRegs, Nat.and_assoc, Nat.and_self]
      exact List.mem_cons_self
    · rw [queueRegs, Nat.mod_mod]
      simp
    · rw [listed.queues, congrArg State.tm (regsOnly_setRegs _ _)]
      exact congrArg TmState.queues (begun_tm c x s)
  · refine completes_imp (completes_queueSet_port h owner_ len port zero small fits) fun t listed => ?_
    have set_ {a v : Nat} := State.reg_setRegs (a := a) (v := v) (l := portQueueRegs (be p 2 2) (be p 4 4) (be p 8 4)) (begun c x s)
      (by simp [portQueueRegs, Addr.PQ_CFG, Addr.PORT_SHAPER])
    refine ⟨(listed.reg _).trans (set_ (by simp [portQueueRegs]) (rest _ _)), (listed.reg _).trans (set_ (by simp [portQueueRegs]) (rest _ _)),
      sameRegsBut_setRegs listed.reg, ?_, memory listed.mem⟩
    rw [listed.queues, congrArg State.tm (regsOnly_setRegs _ _)]
    exact congrArg TmState.queues (begun_tm c x s)
  · obtain ⟨t, applied, mem, regs, tokens⟩ := applyShaper_good (i := be p 0 2) (rate := be p 4 4) (burst := be p 8 4 % 2 ^ 28)
      (s := (begun c x s).setReg (Addr.SH_CFG (be p 0 2)) (be p 12 4 &&& 0x1FF7F)) (rest _ _) fill
    let l := [(Addr.SH_CFG (be p 0 2), be p 12 4 &&& 0x1FF7F), (Addr.SH_RATE (be p 0 2), be p 4 4), (Addr.SH_BURST (be p 0 2), be p 8 4 % 2 ^ 28)]
    have regs' : t.regs = (((begun c x s).setRegs l).bump32 (Addr.SH_APPLIES (be p 0 2))).regs := regs
    have apart : (l.map Prod.fst ++ [Addr.SH_APPLIES (be p 0 2)]).Nodup := by
      simp [l, Addr.SH_CFG, Addr.SH_RATE, Addr.SH_BURST, Addr.SH_APPLIES]
    obtain ⟨nodup, _, apart⟩ := List.nodup_append.mp apart
    obtain ⟨count, others⟩ := reg_of_counted regs' fun there => apart _ there _ (List.mem_singleton_self _) rfl
    have set_ {a v : Nat} (there : (a, v) ∈ l) (small : v < 2 ^ 64) : t.reg a = v :=
      (others a fun same => apart _ (List.mem_map.mpr ⟨_, there, rfl⟩) _ (List.mem_singleton_self _) same).trans
        (State.reg_setRegs _ nodup there small)
    exact completes_acts (f := cmdShaperSet) rfl h (by decide) (by decide) (cmdShaperSet_eq owner_ len small zero fill applied)
      ⟨set_ (by simp [l]) (part _ _), set_ (by simp [l]) (wide _), set_ (by simp [l]) (rest _ _), count, tokens, sameRegsBut_of_counted regs',
        memory (l := [(Addr.SH_CFG (be p 0 2), be p 12 4 &&& 0x1FF7F)]) mem⟩
  · let b := begun c x s
    obtain ⟨t, written, mem, regs, tokens⟩ := applyShaper_good (i := n) (fill := v.toNat % 4) (rate := b.reg (Addr.SH_RATE_NEXT n))
      (burst := b.reg (Addr.SH_BURST_NEXT n)) (s := b) (b.reg_lt _) fill
    let l := [(Addr.SH_RATE n, b.reg (Addr.SH_RATE_NEXT n)), (Addr.SH_BURST n, b.reg (Addr.SH_BURST_NEXT n))]
    have regs' : t.regs = ((b.setRegs l).bump32 (Addr.SH_APPLIES n)).regs := regs
    have apart : (l.map Prod.fst ++ [Addr.SH_APPLIES n]).Nodup := by simp [l, Addr.SH_RATE, Addr.SH_BURST, Addr.SH_APPLIES]
    obtain ⟨nodup, _, apart⟩ := List.nodup_append.mp apart
    obtain ⟨count, others⟩ := reg_of_counted regs' fun there => apart _ there _ (List.mem_singleton_self _) rfl
    have set_ {a v : Nat} (there : (a, v) ∈ l) (small : v < 2 ^ 64) : t.reg a = v :=
      (others a fun same => apart _ (List.mem_map.mpr ⟨_, there, rfl⟩) _ (List.mem_singleton_self _) same).trans
        (State.reg_setRegs _ nodup there small)
    exact completes_written rfl h (by simp only [Addr.SH_APPLY]; omega) (by simp only [Addr.SH_APPLY]; omega) v.isLt
      ((writeWord_shApply owner_ hn _ b).trans written)
      ⟨set_ List.mem_cons_self (b.reg_lt _), set_ (List.mem_cons_of_mem _ List.mem_cons_self)
          (b.reg_lt _), count, tokens, sameRegsBut_of_counted regs', memory (l := []) mem⟩
  · obtain ⟨r, status, acts⟩ := cmdTmRead_eq (s := begun c x s) owner_ len kind zero least most fits
    refine ⟨r, status, completes_acts (f := cmdTmRead) rfl h (by decide) (by decide) acts ⟨?_, fun other => if_neg other, fun queues => ?_⟩⟩
    · split
      · exact memory rfl
      · exact sameMemory_of_mem (begun_mem c x s)
    · rw [if_pos queues]
      refine ⟨fun j hj => State.reg_setRegs _ ?_ (List.mem_map.mpr ⟨j, List.mem_range.mpr hj, rfl⟩) (by decide), ?_⟩
      · rw [List.map_map]
        refine List.Nodup.map (fun i j same => ?_) List.nodup_range
        simp only [Function.comp, Addr.OCC_HIGH] at same
        omega
      · have frame := sameRegsBut_setRegs (s := begun c x s) (l := (List.range (be p 4 2)).map (fun j =>
          (Addr.OCC_HIGH (be p 2 2 + j), 0))) fun a => rfl
        rw [List.map_map] at frame
        exact frame
  · have apart : Addr.TPORTS (byteAt p 1) ≠ Addr.TCLASSES (byteAt p 1) := by simp [Addr.TPORTS, Addr.TCLASSES]
    refine completes_acts (f := cmdFenceSet) rfl h (by decide) (by decide) (cmdFenceSet_ports owner_ len tenant zero zero')
      ⟨?_, ?_, fun a other => ?_, sameMemory_of_mem ?_⟩
    · rw [setFence_reg, State.reg_setReg_other apart, setFence_reg, State.reg_setReg_same, Nat.mod_eq_of_lt ((be_lt p 4 8).trans_le (by decide))]
    · rw [setFence_reg, State.reg_setReg_same, Nat.mod_eq_of_lt ((be_lt p 12 2).trans (by decide))]
    · simp only [List.mem_cons, List.not_mem_nil, or_false, not_or] at other
      rw [setFence_reg, State.reg_setReg_other other.2, setFence_reg, State.reg_setReg_other other.1]
    · rw [setFence_mem, setFence_mem, begun_mem]
  · refine completes_acts (f := cmdFenceSet) rfl h (by decide) (by decide) (cmdFenceSet_classes owner_ len port zero small zero')
      ⟨?_, fun a other => ?_, sameMemory_of_mem ?_⟩
    · rw [setFence_reg, State.reg_setReg_same, Nat.mod_eq_of_lt ((be_lt p 4 2).trans (by decide))]
    · rw [setFence_reg, State.reg_setReg_other (List.mem_singleton.not.mp other)]
    · rw [setFence_mem, begun_mem]
  · have apart : ([(Addr.TRUNCATE (byteAt p 0), be p 8 4 % 2 ^ 14), (Addr.MIR_CFG (byteAt p 0), be p 4 4 % 2 ^ 25)].map Prod.fst).Nodup := by
      simp [Addr.TRUNCATE, Addr.MIR_CFG]
    refine completes_acts (f := cmdMirrorSet) rfl h (by decide) (by decide) (cmdMirrorSet_eq owner_ len small zero truncate)
      ⟨State.reg_setRegs _ apart (by simp) (rest _ _), State.reg_setRegs _ apart (by simp) (rest _ _), fun a other => ?_, memory rfl⟩
    exact State.reg_setRegs_other _ _ fun there => other (by simpa [or_comm] using there)
end Sys2Proof.Machine

/-!
PROOFS. The rule, template and flip commands and ENTRY_CMD (R118, R122, R123, R125, R137, R139).
-/
namespace Sys2Proof.Machine

/-! Table entries (R117, R118) -/

/-- A change of the match stages' own state. -/
theorem State.withMt (s : State) (x : MatchState) : ({ s with mt := x } : State).regs = s.regs ∧
    ({ s with mt := x } : State).mem = s.mem := ⟨rfl, rfl⟩

/-- The width of an image in bits. -/
def imageBits (table : Nat) : Nat := if table = 0 then 512 else 1152

theorem tables_noteWrite (s : State) : (noteWrite s).mt.exact = s.mt.exact ∧ (noteWrite s).mt.tern = s.mt.tern := by
  unfold noteWrite
  split
  · exact ⟨rfl, rfl⟩
  · exact ⟨rfl, rfl⟩

theorem noteWrite_eq (s : State) : ∃ x, noteWrite s = { s with mt := x } := by
  unfold noteWrite
  split
  · exact ⟨s.mt, rfl⟩
  · exact ⟨_, rfl⟩

theorem putEntry_eq (table stage bank i v : Nat) (s : State) : ∃ x, putEntry table stage bank i v s = { s with mt := x } := by
  obtain ⟨y, noted⟩ := noteWrite_eq s
  unfold putEntry
  dsimp only
  rw [noted]
  split
  · exact ⟨_, rfl⟩
  · exact ⟨_, rfl⟩

theorem regs_putEntry (table stage bank i v : Nat) (s : State) :
    (putEntry table stage bank i v s).regs = s.regs ∧ (putEntry table stage bank i v s).mem = s.mem := by
  obtain ⟨x, eq⟩ := putEntry_eq table stage bank i v s
  rw [eq]
  exact s.withMt x

theorem exact_putEntry (stage bank i v : Nat) (s : State) :
    (putEntry 0 stage bank i v s).mt.exact = tabSet 0#512 (entryKey stage bank i) (BitVec.ofNat 512 v) s.mt.exact ∧
      (putEntry 0 stage bank i v s).mt.tern = s.mt.tern := by
  have noted := tables_noteWrite s
  unfold putEntry
  dsimp only
  rw [if_pos rfl]
  exact ⟨congrArg (tabSet _ _ _) noted.1, noted.2⟩

theorem tern_putEntry {table : Nat} (tern : table ≠ 0) (stage bank i v : Nat) (s : State) :
    (putEntry table stage bank i v s).mt.tern = tabSet 0#1152 (entryKey stage bank i) (BitVec.ofNat 1152 v) s.mt.tern ∧
      (putEntry table stage bank i v s).mt.exact = s.mt.exact := by
  have noted := tables_noteWrite s
  unfold putEntry
  dsimp only
  rw [if_neg tern]
  exact ⟨congrArg (tabSet _ _ _) noted.2, noted.1⟩

theorem entryAt_putEntry_same (table stage bank i v : Nat) (s : State) :
    (putEntry table stage bank i v s).entryAt table stage bank i = v % 2 ^ imageBits table := by
  unfold State.entryAt imageBits
  split
  · rename_i exact_
    subst exact_
    rw [State.exactAt, (exact_putEntry ..).1, tabGet_tabSet_same, BitVec.toNat_ofNat]
  · rename_i tern
    rw [State.ternAt, (tern_putEntry tern ..).1, tabGet_tabSet_same, BitVec.toNat_ofNat]

/-- Entries of the tables are kept apart. -/
theorem entryKey_inj {st bk j stage bank i : Nat} (hst : st < 12) (hstage : stage < 12) (hj : j < 2 ^ 18) (hi : i < 2 ^ 18)
    (same : entryKey st bk j = entryKey stage bank i) : st = stage ∧ bk = bank ∧ j = i := by
  simp only [entryKey] at same
  omega

theorem tableSize_le (table : Nat) : tableSize table ≤ 2 ^ 18 := by
  unfold tableSize
  split
  · exact le_rfl
  · exact Nat.pow_le_pow_right (by decide) (by decide)

theorem entryAt_putEntry_other {tb st bk j table stage bank i : Nat}
    (v : Nat) (s : State) (known : tb ≤ 1 ∧ table ≤ 1) (hst : st < 12) (hstage : stage < 12)
    (hj : j < tableSize tb) (hi : i < tableSize table) (other : (tb, st, bk, j) ≠ (table, stage, bank, i)) :
    (putEntry table stage bank i v s).entryAt tb st bk j = s.entryAt tb st bk j := by
  have keys (same : tb = table) : entryKey st bk j ≠ entryKey stage bank i := fun key => by
    obtain ⟨rfl, rfl, rfl⟩ := entryKey_inj hst hstage (hj.trans_le (tableSize_le _)) (hi.trans_le (tableSize_le _)) key
    exact other (by rw [same])
  unfold State.entryAt
  by_cases exact_ : table = 0
  · subst exact_
    obtain ⟨put, kept⟩ := exact_putEntry stage bank i v s
    split
    · rw [State.exactAt, put, tabGet_tabSet_other (keys ‹_›), State.exactAt]
    · rw [State.ternAt, kept, State.ternAt]
  · obtain ⟨put, kept⟩ := tern_putEntry exact_ stage bank i v s
    split
    · rw [State.exactAt, kept, State.exactAt]
    · rw [State.ternAt, put, tabGet_tabSet_other (keys (by omega)), State.ternAt]

/-- The holder of the lease writes an entry of the staging bank. -/
theorem applyEntry_insert {t stage bank table i img : Nat} {s : State} (hstage : stage ≤ 11) (hi : i < tableSize table) (known : table ≤ 1)
    (staging : bank = s.stagingBank) (holds : s.holds t = true) (image : imageRefused s t stage table i (clearReserved table img) = none)
    (room : bankRefused s t stage table i (clearReserved table img) bank bank = none) :
    applyEntry t stage bank 0 table i img s = (St.OK, putEntry table stage bank i (clearReserved table img) s) := by
  unfold applyEntry
  dsimp only
  rw [if_neg (by omega), if_neg (by simp [holds]), if_neg (by decide), image, banksWritten, if_pos staging]
  dsimp only
  rw [List.findSome?_cons, room, List.findSome?_nil]
  rfl

/-- Its holder's entry of the staging bank is invalidated. -/
theorem applyEntry_invalidate {t stage bank table i img : Nat} {s : State} (hstage : stage ≤ 11) (hi : i < tableSize table) (known : table ≤ 1)
    (staging : bank = s.stagingBank) (holds : s.holds t = true) (own : (entryOf table (s.entryAt table stage bank i)).tenant = t) :
    applyEntry t stage bank 1 table i img s =
      (St.OK, if entryValid table (s.entryAt table stage bank i) then putEntry table stage bank i 0 s else s) := by
  unfold applyEntry
  dsimp only
  rw [if_neg (by omega), if_neg (by simp [holds]), if_pos rfl, if_neg (by simp [own]), banksWritten, if_pos staging]
  simp only [List.foldl_cons, List.foldl_nil, own, beq_self_eq_true, Bool.and_true]

theorem entryValid_zero (table : Nat) : entryValid table 0 = false := by simp [entryValid, bitAt]

/-! Rules and templates (R125, R137, R139) -/

theorem ruleRecords_done {t : Nat} {p : Bytes} {o done : Nat} (whole : o = p.length) (s : State) :
    ruleRecords t p 0 done o s = (⟨St.OK, toBE 2 done⟩, s) := by
  rw [ruleRecords, partialReply, if_pos whole]

theorem cmdRuleWrite_one {e : Env} {p : Bytes} {s t : State} {table : Nat} (tb : bits (byteAt p 5) 3 2 = table)
    (len : p.length = 12 + if table = 0 then 64 else 144) (one : be p 0 2 = 1) (zero : zerosAt p 2 2 = true) (flags : byteAt p 5 / 32 = 0)
    (insert_ : bits (byteAt p 5) 1 2 = 0) (known : table ≤ 1) (zero' : zerosAt p 6 2 = true)
    (applied : applyEntry e.tenant (byteAt p 4) (byteAt p 5 % 2) 0 table (be p 8 4) (le p 12 (if table = 0 then 64 else 144)) s = (St.OK, t)) :
    cmdRuleWrite e p s = (⟨St.OK, toBE 2 1⟩, t) := by
  have short : 4 ≤ p.length := by omega
  unfold cmdRuleWrite
  rw [if_neg (by simp [zero]; omega), one, ruleRecords]
  dsimp only
  rw [tb, insert_, if_pos rfl, if_neg (by simp only [flags, zero']; split <;> simp_all), applied]
  rw [if_pos rfl, ruleRecords_done len.symm]

/-- The parts of a list of strings of one length. -/
theorem getD_flatMap {α : Type} {n : Nat}
    {f : α → Bytes} (length : ∀ a, (f a).length = n) (d : BitVec 8) : ∀ (l : List α) (k i : Nat) (hk : k < l.length), i < n →
    (l.flatMap f).getD (n * k + i) d = (f l[k]).getD i d
  | [], k, i, hk, _ => absurd hk (Nat.not_lt_zero k)
  | a :: l, 0, i, _, hi => by
    rw [List.flatMap_cons, Nat.mul_zero, Nat.zero_add, List.getD_append _ _ _ _ (by rw [length]; exact hi)]
    rfl
  | a :: l, k + 1, i, hk, hi => by
    rw [List.flatMap_cons, List.getD_append_right _ _ _ _ (by rw [length, Nat.mul_succ]; omega), length,
      show n * (k + 1) + i - n = n * k + i by rw [Nat.mul_succ]; omega, getD_flatMap length d l k i (Nat.lt_of_succ_lt_succ hk) hi]
    rfl

theorem slice_flatMap_range {n m : Nat} {f : Nat → Bytes} (length : ∀ a, (f a).length = n) {k : Nat} (hk : k < m) :
    slice ((List.range m).flatMap f) (n * k) n = f k := by
  refine List.ext_getElem (by simp [slice, length]) fun i hi hi' => ?_
  have small : i < n := by simpa [slice] using hi
  have byte : (slice ((List.range m).flatMap f) (n * k) n)[i] = ((List.range m).flatMap f).getD (n * k + i) 0#8 := by
    simp only [slice, List.getElem_map, List.getElem_range]
  rw [byte, getD_flatMap length _ _ _ _ (by simpa using hk) small, List.getElem_range, List.getD_eq_getElem _ _ hi']

theorem toLE_zero : ∀ n, toLE n 0 = zeros n
  | 0 => rfl
  | n + 1 => by rw [toLE, Nat.zero_div, toLE_zero n]; rfl

/-- An image is read only by its own tenant. -/
theorem toLE_own {own : Prop} [Decidable own] (n v : Nat) : toLE n (if own then v else 0) = if own then toLE n v else zeros n := by
  split
  · rfl
  · exact toLE_zero n

theorem cmdRuleRead_eq {e : Env} {p : Bytes} {s : State} {tb sz : Nat} (table : bits (byteAt p 1) 3 2 = tb) (size : sz = if tb = 0 then 64 else 144)
    (len : p.length = 8) (stage : byteAt p 0 ≤ 11) (flags : byteAt p 1 &&& 0xE6 = 0) (known : tb ≤ 1) (least : 1 ≤ be p 2 2) (most : be p 2 2 ≤ 256)
    (fits : be p 4 4 + be p 2 2 ≤ tableSize tb) :
    cmdRuleRead e p s = (⟨St.OK, (List.range (be p 2 2)).flatMap (fun k => toLE sz
      (if (entryOf tb (s.entryAt tb (byteAt p 0) (byteAt p 1 % 2) (be p 4 4 + k))).tenant = e.tenant then
        s.entryAt tb (byteAt p 0) (byteAt p 1 % 2) (be p 4 4 + k) else 0))⟩, s) := by
  unfold cmdRuleRead
  dsimp only
  rw [table, if_neg (by simp only [flags]; omega), ← size]

theorem cmdRuleEpochFlip_eq {e : Env} {p : Bytes} {s : State} (empty : p = []) (holds : s.holds e.tenant = true) (drained : s.ruleDrain = 0)
    (none_ : s.flipPending = false) (armed : parseArmed s = false) :
    cmdRuleEpochFlip e p s = (⟨St.OK, toBE 8 s.deviceBeat.1 ++ toBE 2 (s.epoch + 1)⟩,
      { s.deviceBeat.2.setFlag Addr.EPOCH_STATUS 4 true with mt.flipAt := some s.deviceBeat.1 }) := by
  have busy : armedBusy s = false := by
    simp only [parseArmed, List.any_eq_false] at armed
    simp only [armedBusy, List.any_eq_false]
    intro g hg
    simpa using fun set_ => absurd set_ (armed g hg)
  unfold cmdRuleEpochFlip
  rw [if_neg (by simp [empty]), if_neg (by simp [drained, none_, busy]), if_neg (by simp [holds]), if_neg (by simp [armed])]

theorem cmdRuleStageOpen_eq {e : Env} {p : Bytes} {s : State} (empty : p = []) (ready_ : s.stageReady = true) (free : s.leaseHeld = false) :
    ∃ x : MatchState, x.leaseUntil = s.now + secs (s.reg Addr.STAGE_LEASE_MAX) ∧
      cmdRuleStageOpen e p s = (ok, { (s.setFlag Addr.EPOCH_STATUS 3 true).setReg Addr.STAGE_HOLDER e.tenant with mt := x }) := by
  refine ⟨{ s.mt with leaseUntil := s.now + secs (s.reg Addr.STAGE_LEASE_MAX) }, rfl, ?_⟩
  unfold cmdRuleStageOpen
  rw [if_neg (by simp [empty]), if_neg (by simp [ready_, free])]
  rfl

theorem cmdRuleStageClose_eq {e : Env} {p : Bytes} {s : State} (empty : p = []) (holds : s.holds e.tenant = true) (none_ : s.flipPending = false) :
    cmdRuleStageClose e p s = (ok, endLease s) := by
  have lease : s.leaseHeld = true := (Bool.and_eq_true _ _ ▸ holds).1
  unfold cmdRuleStageClose
  rw [if_neg (by simp [empty]), if_neg (by simp [lease, holds]), if_neg (by simp [none_])]

/-- A template is kept as its words, all zero as none. -/
theorem templAt_putTemplate {stage i : Nat} {ws : List Nat} {s : State} (valid : validateTemplate ws = 0) (length : ws.length = 16)
    (small : ∀ w ∈ ws, w < 2 ^ 32) : ∃ x, putTemplate stage i ws s = (St.OK, { s with mt := x }) ∧
      ({ s with mt := x } : State).templAt stage s.stagingBank i = ws := by
  refine ⟨{ s.mt with templ := tabSet [] (templKey stage s.stagingBank i) (if ws.all (· == 0) then [] else ws.map (BitVec.ofNat 32)) s.mt.templ },
    if_neg (by simp [valid]), ?_⟩
  rw [State.templAt]
  dsimp only
  rw [tabGet_tabSet_same]
  split
  · rename_i zero
    rw [List.isEmpty_nil, if_pos rfl]
    have all_zero : ∀ w ∈ ws, w = 0 := fun w hw => by simpa using List.all_eq_true.mp zero w hw
    rw [← length]
    exact (List.eq_replicate_of_mem all_zero).symm
  · rw [if_neg (by cases ws <;> simp_all), List.map_map]
    refine (List.map_congr_left fun w hw => ?_).trans (List.map_id ws)
    exact BitVec.toNat_ofNat w 32 |>.trans (Nat.mod_eq_of_lt (small w hw))

theorem length_wordsLE (p : Bytes) : (wordsLE p).length = p.length / 4 := by simp [wordsLE]

theorem wordsLE_lt {p : Bytes} {w : Nat} (there : w ∈ wordsLE p) : w < 2 ^ 32 := by
  obtain ⟨i, _, rfl⟩ := List.mem_map.mp there
  exact le_lt 4 p _

theorem cmdRuleTemplateWrite_one {e : Env} {p : Bytes}
    {s t : State} (owner_ : e.owner = true) (named : e.tenant = owner) (holds : s.holds owner = true)
    (len : p.length = 76) (one : be p 0 2 = 1) (zero : zerosAt p 2 2 = true) (stage : byteAt p 4 ≤ 11) (kind : byteAt p 5 = 0)
        (small : be p 6 2 ≤ 4095)
    (zero' : zerosAt p 8 4 = true) (put : putTemplate (byteAt p 4) (be p 6 2) (wordsLE (slice p 12 64)) s = (St.OK, t)) :
    cmdRuleTemplateWrite e p s = (⟨St.OK, toBE 2 1⟩, t) := by
  unfold cmdRuleTemplateWrite
  rw [if_neg (by simp [owner_, named, holds]), if_neg (by simp [len, zero]), one, templateRecords]
  dsimp only
  rw [kind, if_neg (by simp [len, zero', templateSize]), show templateSize 0 = 64 from rfl, templateRecord, if_neg (show ¬ 11 < byteAt p 4 by omega)]
  rw [if_neg (show ¬ 4095 < be p 6 2 by omega), put, if_pos rfl, templateRecords, partialReply, if_pos (by rw [len])]

/-! The entry registers (R139) -/

/-- The row of ENTRY_CMD. -/
def entryCmdRow : RegRow := ⟨0x54, 1, 0x0, 1, false, .wo, 0x0, 0x7, 0x0, 0x7⟩

theorem locate_entryCmd {st : Nat} (hst : st < 12) : locate (Addr.ENTRY_CMD st) = some ⟨.stage, st, entryCmdRow, 0, 0, false, Addr.ENTRY_CMD st⟩ := by
  unfold locate blocks
  iterate 9 rw [locateIn_outside (by simp only [Addr.ENTRY_CMD]; omega)]
  have number : (Addr.ENTRY_CMD st - 0x400000) / 0x100000 = st := by simp only [Addr.ENTRY_CMD]; omega
  have offset : (Addr.ENTRY_CMD st - 0x400000) % 0x100000 = 0x54 := by simp only [Addr.ENTRY_CMD]; omega
  rw [locateIn_inside (r := entryCmdRow) (k := 0) (j := 0) (by simp only [Addr.ENTRY_CMD]; omega) (by simp only [offset]; decide)]
  simp only [number]

theorem blockIn_entryCmd {st : Nat} (hst : st < 12) : blockIn (Addr.ENTRY_CMD st) blocks = some (.stage, st) := by
  unfold blocks
  iterate 9 rw [blockIn_outside (by simp only [Addr.ENTRY_CMD]; omega)]
  have number : (Addr.ENTRY_CMD st - 0x400000) / 0x100000 = st := by simp only [Addr.ENTRY_CMD]; omega
  rw [blockIn, if_pos (by simp only [Addr.ENTRY_CMD]; omega)]
  simp only [number]

theorem writeWord_entryCmd {e : Env} (owner_ : e.owner = true) {st : Nat} (hst : st < 12) (v : Nat) (s : State) :
    writeWord e (Addr.ENTRY_CMD st) v s = wrEntryCmd e.tenant st v s := by
  have may : s.mayWriteWord e (Addr.ENTRY_CMD st) = true := by
    rw [State.mayWriteWord, isStoreCtl, blockIn_entryCmd hst]
    simp [owner_]
  rw [writeWord_located may (locate_entryCmd hst) rfl ⟨nofun, nofun⟩]
  rfl

/-- One entry command: its status stands in ENTRY_STATUS. -/
theorem wrEntryCmd_good {t st cmd : Nat} {s u : State} (known : cmd = 1 ∨ cmd = 2 ∨ cmd = 4) (did : entryCmd t st cmd s = (St.OK, u)) :
    wrEntryCmd t st cmd s = (St.OK, u.setReg (Addr.ENTRY_STATUS st) St.OK) := by
  have same : cmd % 8 = cmd := by omega
  unfold wrEntryCmd
  dsimp only
  rw [same, if_neg (by omega), if_pos known, did]

theorem entryCmd_read {t st tb : Nat} {s : State} (table : bits (s.reg (Addr.ENTRY_SEL st)) 18 2 = tb) (known : tb ≤ 1)
    (small : bits (s.reg (Addr.ENTRY_SEL st)) 0 18 < tableSize tb) :
    entryCmd t st 1 s = (St.OK, s.setRegs ((List.range (if tb = 0 then 16 else 36)).map (fun j => (Addr.ENTRY_DATA st j,
      bits (s.entryAt tb st (bits (s.reg (Addr.ENTRY_SEL st)) 20 1) (bits (s.reg (Addr.ENTRY_SEL st)) 0 18)) (32 * j) 32)))) := by
  unfold entryCmd
  dsimp only
  rw [if_pos rfl, table, if_neg (by omega), if_pos ⟨known, small⟩, State.setRegs, List.foldl_map]

theorem entryCmd_apply {t st tb cmd op : Nat} {s : State} (table : bits (s.reg (Addr.ENTRY_SEL st)) 18 2 = tb) (known : tb ≤ 1) (other : cmd ≠ 1)
    (action : (if cmd = 2 then 0 else 1) = op) :
    entryCmd t st cmd s = applyEntry t st (bits (s.reg (Addr.ENTRY_SEL st)) 20 1) op tb (bits (s.reg (Addr.ENTRY_SEL st)) 0 18)
      (s.entryData st (if tb = 0 then 16 else 36)) s := by
  unfold entryCmd
  dsimp only
  rw [if_neg other, table, if_pos known, action]

/-- A register set leaves every entry. -/
theorem entryAt_of_mt {s t : State} (same : t.mt = s.mt) (tb st bk j : Nat) : t.entryAt tb st bk j = s.entryAt tb st bk j := by
  rw [State.entryAt, State.entryAt, State.exactAt, State.ternAt, same, State.exactAt, State.ternAt]

theorem entryAt_setReg (a v tb st bk j : Nat) (s : State) : (s.setReg a v).entryAt tb st bk j = s.entryAt tb st bk j := rfl

theorem sameRegsBut_setReg {s t : State} (a v : Nat) (regs : t.regs = s.regs) : sameRegsBut [a] s (t.setReg a v) :=
  fun b other => (State.reg_setReg_other (List.mem_singleton.not.mp other) t v).trans (State.reg_of_regs regs b)

theorem RegsOnly.mt {s t : State} (h : RegsOnly s t) : t.mt = s.mt := by rw [h]

section
variable {c : Cmd} {x : Session} {s : State} (h : ready c x s = true) (owner_ : (envOf c x).owner = true) {st : Nat} (hst : st < 12)
include h owner_ hst

theorem completes_entry {i : Instr} {cmd : Nat} {t : State} {P : State → Prop} (known : cmd = 1 ∨ cmd = 2 ∨ cmd = 4)
    (row : exec i s = .next (runCommand cmdCsrWrite 0x0101 c (csrBytes (Addr.ENTRY_CMD st) 1 (toBE 4 cmd)) s))
    (did : entryCmd c.tenant st cmd (begun c x s) = (St.OK, t)) (holds : P (t.setReg (Addr.ENTRY_STATUS st) St.OK)) :
    completes i 0x0101 c x s ⟨St.OK, toBE 2 1 ++ zeros 2⟩ P :=
  completes_written row h (by simp only [Addr.ENTRY_CMD]; omega) (by simp only [Addr.ENTRY_CMD]; omega) (by omega)
    ((writeWord_entryCmd owner_ hst cmd _).trans (wrEntryCmd_good known did)) holds
end

theorem clearReserved_lt {table v : Nat} (small : v < 256 ^ (if table = 0 then 64 else 144)) : clearReserved table v < 2 ^ imageBits table := by
  have bytes (n : Nat) : 256 ^ n = 2 ^ (8 * n) := (pow_mul 2 8 n).symm
  rw [bytes] at small
  unfold clearReserved imageBits
  split
  · rename_i exact_
    rw [if_pos exact_] at small
    exact putBits_lt small (by decide) 0
  · rename_i tern
    rw [if_neg tern] at small
    exact putBits_lt small (by decide) 0

theorem imageBits_eq {table : Nat} : imageBits table = 32 * (if table = 0 then 16 else 36) := by
  unfold imageBits
  split <;> rfl

/-- An entry that was valid is none after its invalidation, one that was not stays none. -/
theorem entry_invalidated (table stage bank i : Nat) (s : State) :
    let t := if entryValid table (s.entryAt table stage bank i) then putEntry table stage bank i 0 s else s
    t.regs = s.regs ∧ t.mem = s.mem ∧ entryValid table (t.entryAt table stage bank i) = false := by
  dsimp only
  split
  · obtain ⟨regs, mem⟩ := regs_putEntry table stage bank i 0 s
    exact ⟨regs, mem, by rw [entryAt_putEntry_same, Nat.zero_mod, entryValid_zero]⟩
  · rename_i none_
    exact ⟨rfl, rfl, Bool.eq_false_of_not_eq_true none_⟩

theorem State.reg_setReg_of {v : Nat} (a : Nat) (s : State) (small : v < 2 ^ 64) : (s.setReg a v).reg a = v :=
  (State.reg_setReg_same s a v).trans (Nat.mod_eq_of_lt small)

theorem word_lt (v lo : Nat) : bits v lo 32 < 2 ^ 64 := (Nat.mod_lt _ (by decide)).trans (by decide)

theorem data_ne_status {st k : Nat} (hk : k < 36) : Addr.ENTRY_DATA st k ≠ Addr.ENTRY_STATUS st := by
  simp only [Addr.ENTRY_DATA, Addr.ENTRY_STATUS]
  omega

/-- The words of an entry copied into ENTRY_DATA, and the status of it. -/
theorem reg_entryData (st : Nat) {n : Nat} (f : Nat → Nat) (most : n ≤ 36) (small : ∀ k, f k < 2 ^ 64) (s : State) :
    let t := (s.setRegs ((List.range n).map (fun j => (Addr.ENTRY_DATA st j, f j)))).setReg (Addr.ENTRY_STATUS st) St.OK
    t.reg (Addr.ENTRY_STATUS st) = St.OK ∧ t.mt = s.mt ∧ (∀ k < n, t.reg (Addr.ENTRY_DATA st k) = f k) ∧
      sameRegsBut (Addr.ENTRY_STATUS st :: (List.range n).map (Addr.ENTRY_DATA st)) s t ∧ t.mem = s.mem := by
  have names : ((List.range n).map (fun j => (Addr.ENTRY_DATA st j, f j))).map Prod.fst = (List.range n).map (Addr.ENTRY_DATA st) := List.map_map
  have apart : ((List.range n).map (Addr.ENTRY_DATA st)).Nodup :=
    List.nodup_range.map fun i j same => by simpa [Addr.ENTRY_DATA] using same
  have only := (regsOnly_setRegs ((List.range n).map (fun j => (Addr.ENTRY_DATA st j, f j))) s).trans (regsOnly_setReg _ (Addr.ENTRY_STATUS st) St.OK)
  refine ⟨State.reg_setReg_of _ _ (by decide), only.mt, fun k hk => ?_, fun a other => ?_, only.mem⟩
  · exact (State.reg_setReg_other (data_ne_status (hk.trans_le most)) _ _).trans
      (State.reg_setRegs s (names ▸ apart) (List.mem_map.mpr ⟨k, List.mem_range.mpr hk, rfl⟩) (small k))
  · rw [List.mem_cons, not_or] at other
    exact (State.reg_setReg_other other.1 _ _).trans (State.reg_setRegs_other _ s (names ▸ other.2))

/-! The lease (R122) -/

theorem holds_setReg_holder {s : State} {t : Nat} (held : s.flag Addr.EPOCH_STATUS 3 = true) (small : t ≤ 255) :
    (s.setReg Addr.STAGE_HOLDER t).holds t = true := by
  have holder : (s.setReg Addr.STAGE_HOLDER t).field Addr.STAGE_HOLDER 0 8 = t := by
    rw [State.field, State.reg_setReg_of _ _ (by omega), bits, pow_zero, Nat.div_one]
    exact Nat.mod_eq_of_lt (by omega)
  rw [State.holds, State.leaseHeld, State.flag_congr (State.reg_setReg_other (by decide) s t), held, holder]
  exact beq_self_eq_true t

theorem regs_endLease (s : State) :
    (endLease s).regs = (((s.setFlag Addr.EPOCH_STATUS 3 false).setFlag Addr.EPOCH_STATUS 2 false).setReg Addr.STAGE_HOLDER 0).regs := rfl

theorem flag_endLease (i : Nat) (s : State) :
    (endLease s).flag Addr.EPOCH_STATUS i = ((s.setFlag Addr.EPOCH_STATUS 3 false).setFlag Addr.EPOCH_STATUS 2 false).flag Addr.EPOCH_STATUS i :=
  State.flag_congr ((State.reg_of_regs (regs_endLease s) _).trans (State.reg_setReg_other (by decide) _ 0)) i

theorem leaseHeld_endLease (s : State) : (endLease s).leaseHeld = false := by
  rw [State.leaseHeld, flag_endLease, State.flag_setFlag_apart _ (by decide) (by decide), State.flag_setFlag _ (by decide)]

theorem stageReady_endLease (s : State) : (endLease s).stageReady = false := by
  rw [State.stageReady, flag_endLease, State.flag_setFlag _ (by decide)]

theorem reg_endLease_other {a : Nat} (other : a ≠ Addr.EPOCH_STATUS ∧ a ≠ Addr.STAGE_HOLDER) (s : State) : (endLease s).reg a = s.reg a := by
  rw [State.reg_of_regs (regs_endLease s), State.reg_setReg_other other.2, State.reg_setFlag_other _ other.1, State.reg_setFlag_other _ other.1]

theorem length_flatMap_toLE {α : Type} (n : Nat) (f : α → Nat) (l : List α) : (l.flatMap (fun x => toLE n (f x))).length = n * l.length := by
  induction l with
  | nil => rfl
  | cons x l ih => rw [List.flatMap_cons, List.length_append, ih, length_toLE, List.length_cons, Nat.mul_succ, Nat.add_comm]

/-- Settles O27: entries and templates as one write changes them, the lease and the flip through their registers. -/
theorem ruleCommandsComplete : Obligations.RuleCommandsComplete := by
  unfold Obligations.RuleCommandsComplete
  intro c x s p h
  refine ⟨fun len one zero flags insert_ known zero' stage small staging holds image room => ?_,
    fun len stage flags known least most fits => ?_, fun empty holds drained none_ armed => ?_, fun empty ready_ free => ?_,
    fun empty holds none_ => ?_, fun isOwner named holds len one zero stage kind small zero' valid => ?_, fun len own zero => ?_,
    fun st hst isOwner known small => ⟨?_, fun staging holds image room => ?_, fun staging holds own => ?_⟩⟩
  · have applied := applyEntry_insert stage small known staging holds image room
    obtain ⟨regs, mem⟩ := regs_putEntry (bits (byteAt p 5) 3 2) (byteAt p 4) (byteAt p 5 % 2) (be p 8 4) _ (begun c x s)
    refine completes_acts (f := cmdRuleWrite) rfl h (by decide) (by decide) (cmdRuleWrite_one rfl len one zero flags insert_ known zero' applied)
      ⟨?_, regs, sameMemory_of_mem (mem.trans (begun_mem c x s)), fun tb st bk j htb hst _ hj other =>
        entryAt_putEntry_other _ _ ⟨htb, known⟩ hst (by omega) hj small other⟩
    rw [entryAt_putEntry_same]
    exact Nat.mod_eq_of_lt (clearReserved_lt (le_lt _ _ _))
  · refine ⟨_, rfl, ?_, completes_acts (f := cmdRuleRead) rfl h (by decide) (by decide)
      (cmdRuleRead_eq rfl rfl len stage flags known least most fits) rfl,
      fun k hk => ?_⟩
    · rw [length_flatMap_toLE, List.length_range]
    · dsimp only
      rw [slice_flatMap_range (fun _ => length_toLE _ _) hk, toLE_own]
      rfl
  · have beat : (begun c x s).zc + 64 ≤ (begun c x s).deviceBeat.1 := Nat.le_add_right _ _
    have held : ((begun c x s).setFlag Addr.EPOCH_STATUS 4 true).holds c.tenant = (begun c x s).holds c.tenant := by
      rw [State.holds, State.leaseHeld, State.flag_setFlag_apart _ (by decide) (by decide),
        State.field_congr (State.reg_setFlag_other _ (by decide) 4 true), State.holds, State.leaseHeld]
    refine ⟨_, beat, completes_acts (f := cmdRuleEpochFlip) rfl h (by decide) (by decide) (cmdRuleEpochFlip_eq empty holds drained none_ armed)
      ⟨?_, rfl, fun a other => ?_, held.trans holds, sameMemory_of_mem (begun_mem c x s)⟩⟩
    · exact State.flag_setFlag (begun c x s) (by decide) true
    · exact State.reg_setFlag_other (begun c x s) (List.mem_singleton.not.mp other) 4 true
  · have small : c.tenant ≤ 255 := by
      simp only [ready, Bool.and_eq_true, decide_eq_true_eq] at h
      exact h.1.2
    obtain ⟨y, until_, done⟩ := cmdRuleStageOpen_eq (e := envOf c x) empty ready_ free
    refine completes_acts (f := cmdRuleStageOpen) rfl h (by decide) (by decide) done
      ⟨?_, until_, fun a other => ?_, sameMemory_of_mem (begun_mem c x s)⟩
    · have held : ((begun c x s).setFlag Addr.EPOCH_STATUS 3 true).flag Addr.EPOCH_STATUS 3 = true := State.flag_setFlag _ (by decide) true
      exact holds_setReg_holder held small
    · have other : a ≠ Addr.EPOCH_STATUS ∧ a ≠ Addr.STAGE_HOLDER := by simpa using other
      exact (State.reg_setReg_other other.2 _ _).trans (State.reg_setFlag_other _ other.1 3 true)
  · refine completes_acts (f := cmdRuleStageClose) rfl h (by decide) (by decide) (cmdRuleStageClose_eq empty holds none_)
      ⟨?_, ?_, rfl, fun a other => ?_, sameMemory_of_mem (begun_mem c x s)⟩
    · exact leaseHeld_endLease _
    · exact stageReady_endLease _
    · exact reg_endLease_other (by simpa using other) _
  · have length : (wordsLE (slice p 12 64)).length = 16 := by rw [length_wordsLE]; simp [slice]
    obtain ⟨y, put, kept⟩ := templAt_putTemplate (stage := byteAt p 4) (i := be p 6 2) (s := begun c x s) valid length fun w => wordsLE_lt
    exact completes_acts (f := cmdRuleTemplateWrite) rfl h (by decide) (by decide)
      (cmdRuleTemplateWrite_one (envOf_owner isOwner c) named holds len one zero stage kind small zero' put)
      ⟨kept, rfl, sameMemory_of_mem (begun_mem c x s)⟩
  · refine completes_acts (f := cmdFragFlush) (t := { begun c x s with mt.frags := (begun c x s).mt.frags.filter (fun r => r.tenant != c.tenant) })
      rfl h (by decide) (by decide) ?_ ⟨fun r hr => ?_, fun r hr other => ?_, rfl, sameMemory_of_mem (begun_mem c x s)⟩
    · unfold cmdFragFlush
      rw [if_neg (by simp [len, own, zero]), if_neg (by simp [own])]
      rfl
    · simpa using (List.mem_filter.mp hr).2
    · exact List.mem_filter.mpr ⟨by rwa [begun_mt], by simpa using other⟩
  · obtain ⟨status, mt, words, regs, mem⟩ := reg_entryData st (n := if bits ((begun c x s).reg (Addr.ENTRY_SEL st)) 18 2 = 0 then 16 else 36)
      (fun k =>
      bits ((begun c x s).entryAt (bits ((begun c x s).reg (Addr.ENTRY_SEL st)) 18 2) st (bits ((begun c x s).reg (Addr.ENTRY_SEL st)) 20 1)
        (bits ((begun c x s).reg (Addr.ENTRY_SEL st)) 0 18)) (32 * k) 32) (by split <;> omega) (fun k => word_lt _ _) (begun c x s)
    exact completes_entry h (envOf_owner isOwner c) hst (Or.inl rfl) rfl (entryCmd_read rfl known small)
      ⟨status, mt, words, regs, sameMemory_of_mem (mem.trans (begun_mem c x s))⟩
  · have applied := (entryCmd_apply (t := c.tenant) (cmd := 2) rfl known (by decide) rfl).trans
      (applyEntry_insert (by omega) small known staging holds image room)
    obtain ⟨regs, mem⟩ := regs_putEntry (bits ((begun c x s).reg (Addr.ENTRY_SEL st)) 18 2) st _ _ _ (begun c x s)
    refine completes_entry h (envOf_owner isOwner c) hst (Or.inr (Or.inl rfl)) rfl applied
      ⟨State.reg_setReg_of _ _ (by decide), ?_, sameRegsBut_setReg _ _ regs, sameMemory_of_mem (((regsOnly_setReg _ _ _).mem.trans mem).trans
          (begun_mem c x s))⟩
    rw [entryAt_setReg, entryAt_putEntry_same, imageBits_eq]
  · have applied := (entryCmd_apply (t := c.tenant) (cmd := 4) rfl known (by decide) rfl).trans
      (applyEntry_invalidate (by omega) small known staging holds own)
    obtain ⟨regs, mem, invalid⟩ := entry_invalidated (bits ((begun c x s).reg (Addr.ENTRY_SEL st)) 18 2) st
      (bits ((begun c x s).reg (Addr.ENTRY_SEL st)) 20 1) (bits ((begun c x s).reg (Addr.ENTRY_SEL st)) 0 18) (begun c x s)
    refine completes_entry h (envOf_owner isOwner c) hst (Or.inr (Or.inr rfl)) rfl applied
      ⟨State.reg_setReg_of _ _ (by decide), ?_, sameRegsBut_setReg _ _ regs, sameMemory_of_mem (((regsOnly_setReg _ _ _).mem.trans mem).trans
          (begun_mem c x s))⟩
    rw [entryAt_setReg]
    exact invalid
end Sys2Proof.Machine

/-!
PROOFS. Program banks: validation, loads of parse images and flips (R103 to R108).
-/
namespace Sys2Proof.Machine

/-! Ranges of a table written anew -/

section
variable {α : Type} {k : Nat} {e : Nat × α}

theorem mem_of_mem_tabErase : {l : Tab α} → e ∈ tabErase k l → e ∈ l
  | (a, v) :: l, there => by
    unfold tabErase at there
    split at there
    · exact List.mem_cons_of_mem _ (mem_of_mem_tabErase there)
    · rcases List.mem_cons.mp there with rfl | rest
      · exact List.mem_cons_self
      · exact List.mem_cons_of_mem _ (mem_of_mem_tabErase rest)

theorem mem_of_mem_tabPut {v : α} : {l : Tab α} → e ∈ tabPut k v l → e = (k, v) ∨ e ∈ l
  | [], there => Or.inl (List.mem_singleton.mp there)
  | (a, w) :: l, there => by
    unfold tabPut at there
    split at there
    · exact List.mem_cons.mp there
    · split at there
      · exact (List.mem_cons.mp there).imp_right (List.mem_cons_of_mem _)
      · rcases List.mem_cons.mp there with rfl | rest
        · exact Or.inr List.mem_cons_self
        · exact (mem_of_mem_tabPut rest).imp_right (List.mem_cons_of_mem _)

theorem mem_of_mem_tabSet [DecidableEq α] {d v : α} {l : Tab α} (there : e ∈ tabSet d k v l) : e = (k, v) ∨ e ∈ l := by
  unfold tabSet at there
  split at there
  · exact Or.inr (mem_of_mem_tabErase there)
  · exact mem_of_mem_tabPut there

/-- A listed value is an entry of the table. -/
theorem mem_of_tabFind {v : α} : {l : Tab α} → tabFind k l = some v → (k, v) ∈ l
  | (a, w) :: l, found => by
    unfold tabFind at found
    split at found
    · obtain rfl := Option.some.inj found
      subst_vars
      exact List.mem_cons_self
    · exact List.mem_cons_of_mem _ (mem_of_tabFind found)

theorem mem_of_tabGet {d : α} {l : Tab α} (listed : tabGet d k l ≠ d) : (k, tabGet d k l) ∈ l := by
  cases found : tabFind k l with
  | none => exact absurd (by rw [tabGet, found]; rfl) listed
  | some v =>
    have value : tabGet d k l = v := by rw [tabGet, found]; rfl
    rw [value]
    exact mem_of_tabFind found

theorem tabFind_filter {p : Nat → Bool} (kept : p k = true) : ∀ l : Tab α, tabFind k (l.filter (fun e => p e.1)) = tabFind k l
  | [] => rfl
  | (a, v) :: l => by
    rw [List.filter_cons]
    split
    · rw [tabFind, tabFind, tabFind_filter kept l]
    · rename_i out
      have other : a ≠ k := fun same => out (by rw [same]; exact kept)
      rw [tabFind_filter kept l, tabFind, if_neg other]
end

/-- A range of words of a table written anew: the `n` first are `f`, the others 0. -/
def rewritten (lo size n : Nat) (f : Nat → Nat) (t : Tab W32) : Tab W32 :=
  (List.range n).foldl (fun t a => tabSet 0#32 (lo + a) (BitVec.ofNat 32 (f a)) t) (t.filter (fun e => !(decide (lo ≤ e.1 ∧ e.1 < lo + size))))

/-- A table holds the words `f` in the first `n` places of a range, and nothing in the others. -/
def RangeIs (lo size n : Nat) (f : Nat → Nat) (t : Tab W32) : Prop :=
  (∀ e ∈ t, lo ≤ e.1 → e.1 < lo + size → ∃ a < n, e = (lo + a, BitVec.ofNat 32 (f a))) ∧ ∀ a < n, tabGet 0#32 (lo + a) t = BitVec.ofNat 32 (f a)

section
variable {lo size n : Nat} {f : Nat → Nat} {t : Tab W32}

theorem mem_storedWords {e : Nat × W32} (l : List Nat) (there : e ∈ l.foldl (fun t a => tabSet 0#32 (lo + a) (BitVec.ofNat 32 (f a)) t) t) :
    (∃ a ∈ l, e = (lo + a, BitVec.ofNat 32 (f a))) ∨ e ∈ t := by
  induction l generalizing t with
  | nil => exact Or.inr there
  | cons a l ih =>
    rcases ih there with ⟨b, hb, eq⟩ | before
    · exact Or.inl ⟨b, List.mem_cons_of_mem _ hb, eq⟩
    · exact (mem_of_mem_tabSet before).imp_left fun eq => ⟨a, List.mem_cons_self, eq⟩

theorem tabGet_storedWords_other {k : Nat} (l : List Nat) (other : ∀ a ∈ l, k ≠ lo + a) :
    tabGet 0#32 k (l.foldl (fun t a => tabSet 0#32 (lo + a) (BitVec.ofNat 32 (f a)) t) t) = tabGet 0#32 k t := by
  induction l generalizing t with
  | nil => rfl
  | cons a l ih =>
    rw [List.foldl_cons, ih fun b hb => other b (List.mem_cons_of_mem _ hb), tabGet_tabSet_other (other a List.mem_cons_self)]

theorem tabGet_storedWords {a : Nat} (l : List Nat) (there : a ∈ l) :
    tabGet 0#32 (lo + a) (l.foldl (fun t a => tabSet 0#32 (lo + a) (BitVec.ofNat 32 (f a)) t) t) = BitVec.ofNat 32 (f a) := by
  induction l generalizing t with
  | nil => exact absurd there List.not_mem_nil
  | cons b l ih =>
    by_cases later : a ∈ l
    · exact ih later
    · obtain rfl : a = b := (List.mem_cons.mp there).resolve_right later
      rw [List.foldl_cons, tabGet_storedWords_other l fun c hc same => later (by rwa [Nat.add_left_cancel same]), tabGet_tabSet_same]

theorem rangeIs_rewritten : RangeIs lo size n f (rewritten lo size n f t) := by
  refine ⟨fun e there low high => ?_, fun a ha => tabGet_storedWords _ (List.mem_range.mpr ha)⟩
  rcases mem_storedWords _ there with ⟨a, ha, eq⟩ | kept
  · exact ⟨a, List.mem_range.mp ha, eq⟩
  · have out := (List.mem_filter.mp kept).2
    simp [low, high] at out

/-- A range apart from the one written keeps its words. -/
theorem RangeIs.rewritten {lo' size' n' : Nat} {f' : Nat → Nat} (h : RangeIs lo size n f t) (fits : n ≤ size) (fits' : n' ≤ size')
    (apart : lo + size ≤ lo' ∨ lo' + size' ≤ lo) : RangeIs lo size n f (rewritten lo' size' n' f' t) := by
  refine ⟨fun e there low high => ?_, fun a ha => ?_⟩
  · rcases mem_storedWords _ there with ⟨a, ha, eq⟩ | kept
    · have small := List.mem_range.mp ha
      rw [eq] at low high
      simp only at low high
      omega
    · exact h.1 e (List.mem_of_mem_filter kept) low high
  · have outside : (!decide (lo' ≤ lo + a ∧ lo + a < lo' + size')) = true := by
      simp only [Bool.not_eq_true', decide_eq_false_iff_not]
      omega
    rw [Machine.rewritten, tabGet_storedWords_other _ fun b hb => by have := List.mem_range.mp hb; omega, tabGet,
      tabFind_filter (p := fun k => !decide (lo' ≤ k ∧ k < lo' + size')) outside, ← tabGet, h.2 a ha]

theorem RangeIs.all_iff (h : RangeIs lo size n f t) (fits : n ≤ size) {good : Nat → Prop} (zero : good 0) (small : ∀ a < n, f a < 2 ^ 32) :
    (∀ e ∈ t, lo ≤ e.1 → e.1 < lo + size → good e.2.toNat) ↔ ∀ a < n, good (f a) := by
  have word {a : Nat} (ha : a < n) : (BitVec.ofNat 32 (f a)).toNat = f a := (BitVec.toNat_ofNat _ _).trans (Nat.mod_eq_of_lt (small a ha))
  refine ⟨fun all a ha => ?_, fun all e there low high => ?_⟩
  · by_cases none_ : tabGet 0#32 (lo + a) t = 0#32
    · have zero_ : f a = 0 := by rw [← word ha, ← h.2 a ha, none_]; rfl
      rwa [zero_]
    · have listed := all _ (mem_of_tabGet none_) (Nat.le_add_right ..) (by simp only; omega)
      rwa [h.2 a ha, word ha] at listed
  · obtain ⟨a, ha, rfl⟩ := h.1 e there low high
    rw [word ha]
    exact all a ha
end

/-! Program banks (R92, R103 to R105) -/

theorem activeBank_congr {s t : State} {g : Nat} (same : t.reg (Addr.PROG_STATUS g) = s.reg (Addr.PROG_STATUS g)) : t.activeBank g = s.activeBank g :=
  State.field_congr same 0 1

theorem stageBank_congr {s t : State} {g : Nat} (same : t.activeBank g = s.activeBank g) : t.stageBank g = s.stageBank g := by
  rw [State.stageBank, same, State.stageBank]

theorem activeBank_setFlag {a i : Nat} (high : 0 < i) (fits : i < 64) (b : Bool) (g : Nat) (s : State) :
    (s.setFlag a i b).activeBank g = s.activeBank g := by
  by_cases same : Addr.PROG_STATUS g = a
  · rw [State.activeBank, same, State.field_setFlag_apart s (Or.inr (by omega)) fits, State.activeBank, same]
  · exact activeBank_congr (State.reg_setFlag_other s same i b)

theorem stageBank_le (s : State) (g : Nat) : s.stageBank g ≤ 1 := Nat.sub_le ..

theorem PROG_STATUS_inj {g k : Nat} (other : g ≠ k) : Addr.PROG_STATUS g ≠ Addr.PROG_STATUS k := by
  simp only [Addr.PROG_STATUS]
  omega

theorem validateBank_congr {s t : State} (same : t.hc = s.hc) (g bank : Nat) : validateBank t g bank = validateBank s g bank := by
  rw [validateBank, same, validateBank]

/-- A bank passes where every listed word and every listed entry does. -/
theorem validateBank_eq_none {s : State} {g bank : Nat} : validateBank s g bank = none ↔
    (∀ e ∈ s.hc.prog, progKey g bank 0 ≤ e.1 → e.1 < progKey g bank 0 + 4096 → validateWord e.2.toNat = 0) ∧
      ∀ e ∈ s.hc.disp, dispKey g bank 0 ≤ e.1 → e.1 < dispKey g bank 0 + 512 → e.2.toNat / 2 ^ 29 = 0 := by
  have words : ((s.hc.prog.filter (fun e => decide (progKey g bank 0 ≤ e.1 ∧ e.1 < progKey g bank 0 + 4096))).find?
      (fun e => validateWord e.2.toNat != 0) = none) ↔
      ∀ e ∈ s.hc.prog, progKey g bank 0 ≤ e.1 → e.1 < progKey g bank 0 + 4096 → validateWord e.2.toNat = 0 := by
    simp [List.find?_eq_none]
  have entries : ((s.hc.disp.filter (fun e => decide (dispKey g bank 0 ≤ e.1 ∧ e.1 < dispKey g bank 0 + 512))).find?
      (fun e => e.2.toNat / 2 ^ 29 != 0) = none) ↔
      ∀ e ∈ s.hc.disp, dispKey g bank 0 ≤ e.1 → e.1 < dispKey g bank 0 + 512 → e.2.toNat / 2 ^ 29 = 0 := by
    simp only [List.find?_eq_none, List.mem_filter, decide_eq_true_eq, bne_iff_ne, not_not, and_imp]
  rw [← words, ← entries, validateBank]
  dsimp only
  split
  · rename_i found
    rw [found]
    simp
  · rename_i none_
    rw [none_]
    split
    · rename_i found
      rw [found]
      simp
    · rename_i none'
      rw [none']
      simp

theorem validateStage_eq (g : Nat) (s : State) : validateStage g s =
    (s.setReg (Addr.HC_VALIDATE_ERR g) ((validateBank s g (s.stageBank g)).getD 0)).setFlag (Addr.PROG_STATUS g) 1
      (validateBank s g (s.stageBank g)).isNone := by
  unfold validateStage
  cases validateBank s g (s.stageBank g) with
  | none => rfl
  | some e => rfl

theorem regsOnly_validateStage (g : Nat) (s : State) : RegsOnly s (validateStage g s) := by
  rw [validateStage_eq]
  exact (regsOnly_setReg _ _ _).trans (regsOnly_setFlag _ _ _ _)

theorem VALIDATE_ERR_ne_STATUS (g k : Nat) : Addr.PROG_STATUS k ≠ Addr.HC_VALIDATE_ERR g := by
  simp only [Addr.PROG_STATUS, Addr.HC_VALIDATE_ERR]
  omega

theorem flag_validateStage (g : Nat) (s : State) :
    (validateStage g s).flag (Addr.PROG_STATUS g) 1 = (validateBank s g (s.stageBank g)).isNone := by
  rw [validateStage_eq, State.flag_setFlag _ (by decide)]

theorem flag_validateStage_other {g k : Nat} (other : k ≠ g) (i : Nat) (s : State) :
    (validateStage g s).flag (Addr.PROG_STATUS k) i = s.flag (Addr.PROG_STATUS k) i := by
  rw [validateStage_eq]
  exact State.flag_congr ((State.reg_setFlag_other _ (PROG_STATUS_inj other) _ _).trans (State.reg_setReg_other (VALIDATE_ERR_ne_STATUS g k) _ _)) i

theorem activeBank_validateStage (g k : Nat) (s : State) : (validateStage g s).activeBank k = s.activeBank k := by
  rw [validateStage_eq, activeBank_setFlag (by decide) (by decide)]
  exact activeBank_congr (State.reg_setReg_other (VALIDATE_ERR_ne_STATUS g k) _ _)

theorem reg_validateStage (g : Nat) (s : State) :
    (validateStage g s).reg (Addr.HC_VALIDATE_ERR g) = (validateBank s g (s.stageBank g)).getD 0 % 2 ^ 64 ∧
      sameRegsBut [Addr.PROG_STATUS g, Addr.HC_VALIDATE_ERR g] s (validateStage g s) := by
  rw [validateStage_eq]
  refine ⟨(State.reg_setFlag_other _ (VALIDATE_ERR_ne_STATUS g g).symm _ _).trans (State.reg_setReg_same _ _ _), fun a other => ?_⟩
  simp only [List.mem_cons, List.not_mem_nil, or_false, not_or] at other
  exact (State.reg_setFlag_other _ other.1 _ _).trans (State.reg_setReg_other other.2 _ _)

/-- The banks of several groups are validated: each has STAGE_VALID exactly where its bank passes. -/
theorem foldl_validateStage (l : List Nat) (s : State) :
    RegsOnly s (l.foldl (fun s g => validateStage g s) s) ∧ (∀ k, (l.foldl (fun s g => validateStage g s) s).activeBank k = s.activeBank k) ∧
      (∀ k ∉ l, (l.foldl (fun s g => validateStage g s) s).flag (Addr.PROG_STATUS k) 1 = s.flag (Addr.PROG_STATUS k) 1) ∧
      ∀ k ∈ l, (l.foldl (fun s g => validateStage g s) s).flag (Addr.PROG_STATUS k) 1 = (validateBank s k (s.stageBank k)).isNone := by
  induction l generalizing s with
  | nil => exact ⟨.refl s, fun _ => rfl, fun _ _ => rfl, fun _ there => absurd there List.not_mem_nil⟩
  | cons g l ih =>
    obtain ⟨only, active, others, flags⟩ := ih (validateStage g s)
    refine ⟨(regsOnly_validateStage g s).trans only, fun k => (active k).trans (activeBank_validateStage g k s), fun k out => ?_, fun k there => ?_⟩
    · rw [List.mem_cons, not_or] at out
      exact (others k out.2).trans (flag_validateStage_other out.1 1 s)
    · by_cases later : k ∈ l
      · refine (flags k later).trans ?_
        rw [validateBank_congr (regsOnly_validateStage g s).hc, stageBank_congr (activeBank_validateStage g k s)]
      · obtain rfl : k = g := (List.mem_cons.mp there).resolve_right later
        exact (others k later).trans (flag_validateStage k s)

/-- STAGE_VALID of several groups is cleared. -/
theorem foldl_clearValid (l : List Nat) (s : State) :
    RegsOnly s (l.foldl (fun s g => s.setFlag (Addr.PROG_STATUS g) 1 false) s) ∧
      (∀ k, s.flag (Addr.PROG_STATUS k) 1 = false → (l.foldl (fun s g =>
          s.setFlag (Addr.PROG_STATUS g) 1 false) s).flag (Addr.PROG_STATUS k) 1 = false) ∧
      ∀ k ∈ l, (l.foldl (fun s g => s.setFlag (Addr.PROG_STATUS g) 1 false) s).flag (Addr.PROG_STATUS k) 1 = false := by
  induction l generalizing s with
  | nil => exact ⟨.refl s, fun _ clear => clear, fun _ there => absurd there List.not_mem_nil⟩
  | cons g l ih =>
    obtain ⟨only, kept, cleared⟩ := ih (s.setFlag (Addr.PROG_STATUS g) 1 false)
    refine ⟨(regsOnly_setFlag _ _ _ _).trans only, fun k clear => kept k ?_, fun k there => ?_⟩
    · by_cases same : k = g
      · rw [same, State.flag_setFlag _ (by decide)]
      · rwa [State.flag_congr (State.reg_setFlag_other s (PROG_STATUS_inj same) 1 false)]
    · rcases List.mem_cons.mp there with rfl | later
      · exact kept k (State.flag_setFlag _ (by decide) _)
      · exact cleared k later

/-! The parse image (R104, R105) -/

/-- Word `a` of a parse image. -/
def imageWord (img : Bytes) (a : Nat) : Nat := le img (64 + 4 * a) 4
/-- Dispatch entry `i` of a parse image of `words` words. -/
def imageEntry (img : Bytes) (words i : Nat) : Nat := le img (64 + 4 * words + 4 * i) 4

theorem imageWord_lt (img : Bytes) (a : Nat) : imageWord img a < 2 ^ 32 := le_lt 4 _ _
theorem imageEntry_lt (img : Bytes) (words i : Nat) : imageEntry img words i < 2 ^ 32 := le_lt 4 _ _

/-- The staging bank of a group holds a parse image. -/
def Imaged (img : Bytes) (words g : Nat) (s : State) : Prop :=
  RangeIs (progKey g (s.stageBank g) 0) 4096 words (imageWord img) s.hc.prog ∧
    RangeIs (dispKey g (s.stageBank g) 0) 512 512 (imageEntry img words) s.hc.disp

theorem writeParseImage_eq (img : Bytes) (words g : Nat) (s : State) : writeParseImage img words g s =
    { s.setFlag (Addr.PROG_STATUS g) 1 false with
      hc.prog := rewritten (progKey g (s.stageBank g) 0) 4096 words (imageWord img) s.hc.prog
      hc.disp := rewritten (dispKey g (s.stageBank g) 0) 512 512 (imageEntry img words) s.hc.disp } := rfl

theorem mem_writeParseImage (img : Bytes) (words g : Nat) (s : State) : (writeParseImage img words g s).mem = s.mem := rfl

theorem regs_writeParseImage (img : Bytes) (words g : Nat) (s : State) :
    (writeParseImage img words g s).regs = (s.setFlag (Addr.PROG_STATUS g) 1 false).regs := rfl

theorem activeBank_writeParseImage (img : Bytes) (words g k : Nat) (s : State) : (writeParseImage img words g s).activeBank k = s.activeBank k :=
  (activeBank_congr (State.reg_of_regs (regs_writeParseImage img words g s) _)).trans (activeBank_setFlag (by decide) (by decide) false k s)

theorem stageBank_writeParseImage (img : Bytes) (words g k : Nat) (s : State) : (writeParseImage img words g s).stageBank k = s.stageBank k :=
  stageBank_congr (activeBank_writeParseImage img words g k s)

section
variable {img : Bytes} {words g : Nat} {s : State}

theorem imaged_writeParseImage : Imaged img words g (writeParseImage img words g s) := by
  rw [Imaged, stageBank_writeParseImage, writeParseImage_eq]
  dsimp only
  exact ⟨rangeIs_rewritten, rangeIs_rewritten⟩

theorem Imaged.writeParseImage {k : Nat}
    (h : Imaged img words g s) (fits : words ≤ 4096) (other : k ≠ g) : Imaged img words g (writeParseImage img words k s) := by
  obtain ⟨prog, disp⟩ := h
  have banks := stageBank_le s
  rw [Imaged, stageBank_writeParseImage, writeParseImage_eq]
  dsimp only
  refine ⟨prog.rewritten fits fits ?_, disp.rewritten (Nat.le_refl 512) (Nat.le_refl 512) ?_⟩
  · have := banks g
    have := banks k
    simp only [progKey]
    omega
  · have := banks g
    have := banks k
    simp only [dispKey]
    omega

theorem Imaged.congr {t : State} (h : Imaged img words g s) (hc : t.hc = s.hc) (bank : t.activeBank g = s.activeBank g) : Imaged img words g t := by
  rwa [Imaged, hc, stageBank_congr bank]

/-- A bank that holds an image passes where the image does. -/
theorem Imaged.valid (h : Imaged img words g s) (fits : words ≤ 4096) : validateBank s g (s.stageBank g) = none ↔
    (∀ a < words, validateWord (imageWord img a) = 0) ∧ ∀ i < 512, imageEntry img words i < 2 ^ 29 := by
  have small (v : Nat) : v / 2 ^ 29 = 0 ↔ v < 2 ^ 29 := Nat.div_eq_zero_iff_lt (by decide)
  have entries := h.2.all_iff (Nat.le_refl 512) (good := fun v => v < 2 ^ 29) (by decide) (fun i _ => imageEntry_lt img words i)
  rw [validateBank_eq_none, h.1.all_iff fits (good := fun v => validateWord v = 0) (by decide) (fun a _ => imageWord_lt img a), ← entries]
  simp only [small]

theorem Imaged.progWord (h : Imaged img words g s) {a : Nat} (ha : a < words) : s.progWord g (s.stageBank g) a = imageWord img a := by
  have key : progKey g (s.stageBank g) a = progKey g (s.stageBank g) 0 + a := by rw [progKey, progKey, Nat.add_zero]
  rw [State.progWord, key, h.1.2 a ha, BitVec.toNat_ofNat]
  exact Nat.mod_eq_of_lt (le_lt 4 _ _)
end

theorem foldl_writeParseImage {img : Bytes} {words : Nat} (fits : words ≤ 4096) (l : List Nat) (s : State) :
    (l.foldl (fun s g => writeParseImage img words g s) s).mem = s.mem ∧
      (∀ k, Imaged img words k s → Imaged img words k (l.foldl (fun s g => writeParseImage img words g s) s)) ∧
      ∀ k ∈ l, Imaged img words k (l.foldl (fun s g => writeParseImage img words g s) s) := by
  induction l generalizing s with
  | nil => exact ⟨rfl, fun _ h => h, fun _ there => absurd there List.not_mem_nil⟩
  | cons g l ih =>
    obtain ⟨mem, kept, written⟩ := ih (writeParseImage img words g s)
    refine ⟨mem.trans (mem_writeParseImage img words g s), fun k h => kept k ?_, fun k there => ?_⟩
    · by_cases same : g = k
      · rw [same]
        exact imaged_writeParseImage
      · exact h.writeParseImage fits same
    · rcases List.mem_cons.mp there with rfl | later
      · exact kept k imaged_writeParseImage
      · exact written k later

/-- The state in which a parse image has been written into the banks of several groups and validated there. -/
def imageLoaded (img : Bytes) (words : Nat) (groups : List Nat) (s : State) : State :=
  groups.foldl (fun s g => validateStage g s) (groups.foldl (fun s g => writeParseImage img words g s) s)

section
variable {img : Bytes} {words : Nat} {groups : List Nat} {s : State} (fits : words ≤ 4096)
include fits

theorem mem_imageLoaded : (imageLoaded img words groups s).mem = s.mem :=
  (foldl_validateStage groups _).1.mem.trans (foldl_writeParseImage fits groups s).1

theorem flag_imageLoaded {g : Nat} (hg : g ∈ groups) : (imageLoaded img words groups s).flag (Addr.PROG_STATUS g) 1 = true ↔
    (∀ a < words, validateWord (imageWord img a) = 0) ∧ ∀ i < 512, imageEntry img words i < 2 ^ 29 := by
  obtain ⟨_, _, written⟩ := foldl_writeParseImage (img := img) fits groups s
  rw [← (written g hg).valid fits, imageLoaded, (foldl_validateStage groups _).2.2.2 g hg, Option.isNone_iff_eq_none]

theorem progWord_imageLoaded {g a : Nat} (hg : g ∈ groups) (ha : a < words) :
    (imageLoaded img words groups s).progWord g ((imageLoaded img words groups s).stageBank g) a = imageWord img a := by
  obtain ⟨_, _, written⟩ := foldl_writeParseImage (img := img) fits groups s
  obtain ⟨only, active, _, _⟩ := foldl_validateStage groups (groups.foldl (fun s g => writeParseImage img words g s) s)
  exact ((written g hg).congr only.hc (active g)).progWord ha
end
theorem words_of_headerOk {hd : Bytes} {len : Nat} (good : parseHeaderOk hd len = true) : le hd 24 2 ≤ 4096 := by
  simp only [parseHeaderOk, Bool.and_eq_true, decide_eq_true_eq] at good
  omega

/-- Whether an image's header states more steps than `n` for one of its sub-ports. -/
def statedAbove (hd : Bytes) (n : Nat) : Bool := ((List.range 8).map (fun i => le hd (8 + 2 * i) 2)).any (fun m => decide (n < m))

theorem statedAbove_iff {hd : Bytes} {n : Nat} : statedAbove hd n = true ↔ ∃ i < 8, n < le hd (8 + 2 * i) 2 := by
  simp only [statedAbove, List.any_eq_true, List.mem_map, List.mem_range, decide_eq_true_eq]
  refine ⟨fun ⟨_, ⟨i, hi, eq⟩, above⟩ => ⟨i, hi, by rwa [eq]⟩, fun ⟨i, hi, above⟩ => ⟨_, ⟨i, hi, rfl⟩, above⟩⟩

section
variable {e : Env} {p : Bytes} {s : State} (owner_ : e.owner = true) (len : p.length = 20) (zero : zerosAt p 2 6 = true)
  (header : parseHeaderOk (s.readBytes owner (be p 8 8) 64) (be p 16 4) = true)
include owner_ len zero header

theorem cmdParseLoad_unsigned (bad : verifyPair (tabGet [] owner s.signer) (s.readBytes owner (be p 8 8) (le (s.readBytes owner (be p 8 8) 64) 32 8))
      (s.readBytes owner (be p 8 8 + le (s.readBytes owner (be p 8 8) 64) 32 8) sigBytes) = false) : cmdParseLoad e p s = (st St.SIG_FAIL, s) := by
  unfold cmdParseLoad
  dsimp only
  rw [if_neg (by simp [owner_]), if_neg (by simp [len, zero]), if_neg (by simp [header]), if_pos (by simp [bad])]
  rfl

/-- A signed image is written and validated; then the stated step counts are looked at. -/
theorem cmdParseLoad_signed (signed : verifyPair (tabGet [] owner s.signer) (s.readBytes owner (be p 8 8) (le (s.readBytes owner (be p 8 8) 64) 32 8))
      (s.readBytes owner (be p 8 8 + le (s.readBytes owner (be p 8 8) 64) 32 8) sigBytes) = true)
    (windows : s.inWindows owner (be p 8 8) (be p 16 4) false = true) (open_ : ∀ g ∈ setBits (be p 0 2) 16, s.stagingClosed g = false) :
    let hd := s.readBytes owner (be p 8 8) 64
    let groups := setBits (be p 0 2) 16
    let t := imageLoaded (s.readBytes owner (be p 8 8) (le hd 32 8)) (le hd 24 2) groups s
    let unset := groups.foldl (fun s g => s.setFlag (Addr.PROG_STATUS g) 1 false) t
    cmdParseLoad e p s =
      if groups.any (fun g => !t.flag (Addr.PROG_STATUS g) 1 || statedAbove hd (s.reg (Addr.STEP_CAP g))) then (st St.BAD_PARAM, unset)
      else if statedAbove hd 107 ∧ !bitAt (le hd 6 2) 0 then (st St.RATE_SHORTFALL, unset)
      else (ok, countHbm false (be p 8 8) (be p 16 4) t) := by
  have closed : (setBits (be p 0 2) 16).any s.stagingClosed = false := by
    rw [List.any_eq_false]
    exact fun g hg => by simp [open_ g hg]
  intro hd groups t unset
  unfold cmdParseLoad
  dsimp only
  rw [if_neg (by simp [owner_]), if_neg (by simp [len, zero]), if_neg (by simp [header]), if_neg (by simp [signed]), if_neg (by simp [windows]),
    if_neg (by simp [closed])]
  rfl
end

/-! Flips (R103, R106) -/

theorem setFlip_linked {g n : Nat} {s : State} (linked : s.flag (Addr.HC_CTRL g) 1 = true) : setFlip g n s = s.setFlag (Addr.PROG_STATUS g) 2 true :=
  if_pos linked

theorem setFlip_free {g n : Nat} {s : State} (free : s.flag (Addr.HC_CTRL g) 1 = false) :
    setFlip g n s = { s.setFlag (Addr.PROG_STATUS g) 12 true with hc.flip := tabSet 0 g (n + 1) s.hc.flip } := if_neg (by simp [free])

/-- A change of the header cores' own state. -/
theorem State.withHc (s : State) (x : HcState) : ({ s with hc := x } : State).regs = s.regs ∧ ({ s with hc := x } : State).mem = s.mem := ⟨rfl, rfl⟩

theorem regs_setFlip (g n : Nat) (s : State) : (setFlip g n s).mem = s.mem ∧ (setFlip g n s).hc.prog = s.hc.prog ∧
    sameRegsBut [Addr.PROG_STATUS g] s (setFlip g n s) := by
  cases linked : s.flag (Addr.HC_CTRL g) 1 with
  | true =>
    rw [setFlip_linked linked]
    have only := regsOnly_setFlag s (Addr.PROG_STATUS g) 2 true
    exact ⟨only.mem, congrArg HcState.prog only.hc, fun a other => State.reg_setFlag_other s (List.mem_singleton.not.mp other) 2 true⟩
  | false =>
    rw [setFlip_free linked]
    have only := regsOnly_setFlag s (Addr.PROG_STATUS g) 12 true
    obtain ⟨regs, mem⟩ := (s.setFlag (Addr.PROG_STATUS g) 12 true).withHc { s.hc with flip := tabSet 0 g (n + 1) s.hc.flip }
    exact ⟨mem.trans only.mem, rfl, fun a other =>
        (State.reg_of_regs regs a).trans (State.reg_setFlag_other s (List.mem_singleton.not.mp other) 12 true)⟩

theorem CTRL_ne_STATUS (g k : Nat) : Addr.HC_CTRL k ≠ Addr.PROG_STATUS g := by
  simp only [Addr.PROG_STATUS, Addr.HC_CTRL]
  omega

theorem linked_setFlip (g n k : Nat) (s : State) : (setFlip g n s).flag (Addr.HC_CTRL k) 1 = s.flag (Addr.HC_CTRL k) 1 :=
  State.flag_congr ((regs_setFlip g n s).2.2 _ (List.mem_singleton.not.mpr (CTRL_ne_STATUS g k))) 1

/-- Group `g` is armed under LINK_EPOCH, or its flip stands for beat `n`. -/
def FlipSet (g n : Nat) (s : State) : Prop :=
  if s.flag (Addr.HC_CTRL g) 1 then s.flag (Addr.PROG_STATUS g) 2 = true else s.flag (Addr.PROG_STATUS g) 12 = true ∧ tabGet 0 g s.hc.flip = n + 1

/-- A flag of a state whose header cores alone change. -/
theorem State.flag_withHc (s : State) (x : HcState) (a i : Nat) : ({ s with hc := x } : State).flag a i = s.flag a i :=
  State.flag_congr (State.reg_of_regs (s.withHc x).1 a) i

theorem flipSet_setFlip (g n : Nat) (s : State) : FlipSet g n (setFlip g n s) := by
  rw [FlipSet, linked_setFlip]
  split
  · rename_i linked
    rw [setFlip_linked linked, State.flag_setFlag _ (by decide)]
  · rename_i free
    rw [setFlip_free (Bool.eq_false_of_not_eq_true free)]
    exact ⟨(State.flag_withHc _ _ _ _).trans (State.flag_setFlag s (by decide) true), tabGet_tabSet_same 0 g (n + 1) s.hc.flip⟩

/-- A flip of one group leaves the beats of the others. -/
theorem flipBeat_setFlip_other {g k : Nat} (other : g ≠ k) (n : Nat) (s : State) : tabGet 0 g (setFlip k n s).hc.flip = tabGet 0 g s.hc.flip := by
  cases linked : s.flag (Addr.HC_CTRL k) 1 with
  | true => rw [setFlip_linked linked, (regsOnly_setFlag s (Addr.PROG_STATUS k) 2 true).hc]
  | false =>
    rw [setFlip_free linked]
    exact tabGet_tabSet_other other 0 0 (n + 1) s.hc.flip

theorem FlipSet.setFlip {g n : Nat} {s : State} (h : FlipSet g n s) (k : Nat) : FlipSet g n (setFlip k n s) := by
  by_cases same : g = k
  · rw [same]
    exact flipSet_setFlip k n s
  · have status (i : Nat) : (Machine.setFlip k n s).flag (Addr.PROG_STATUS g) i = s.flag (Addr.PROG_STATUS g) i :=
      State.flag_congr ((regs_setFlip k n s).2.2 _ (List.mem_singleton.not.mpr (PROG_STATUS_inj same))) i
    have at_ := flipBeat_setFlip_other same n s
    rwa [FlipSet, linked_setFlip, status, status, at_]

theorem foldl_setFlip (n : Nat) (l : List Nat) (s : State) :
    (l.foldl (fun s g => setFlip g n s) s).mem = s.mem ∧
      (∀ k, (l.foldl (fun s g => setFlip g n s) s).flag (Addr.HC_CTRL k) 1 = s.flag (Addr.HC_CTRL k) 1) ∧
      (∀ k, FlipSet k n s → FlipSet k n (l.foldl (fun s g => setFlip g n s) s)) ∧ ∀ k ∈ l, FlipSet k n (l.foldl (fun s g => setFlip g n s) s) := by
  induction l generalizing s with
  | nil => exact ⟨rfl, fun _ => rfl, fun _ h => h, fun _ there => absurd there List.not_mem_nil⟩
  | cons g l ih =>
    obtain ⟨mem, linked, kept, set_⟩ := ih (setFlip g n s)
    refine ⟨mem.trans (regs_setFlip g n s).1, fun k => (linked k).trans (linked_setFlip g n k s), fun k h => kept k (h.setFlip g), fun k there => ?_⟩
    rcases List.mem_cons.mp there with rfl | later
    · exact kept k (flipSet_setFlip k n s)
    · exact set_ k later

/-- PARSE_FLIP of groups none of which refuses. -/
theorem cmdParseFlip_eq {e : Env} {p : Bytes} {s : State} (owner_ : e.owner = true) (len : p.length = 2)
    (free : ∀ g ∈ setBits (be p 0 2) 16, flipRefused s g = none) :
    cmdParseFlip e p s = (⟨St.OK, toBE 8 (if setBits (be p 0 2) 16 ≠ [] ∧ (∀ g ∈ setBits (be p 0 2) 16, s.flag (Addr.HC_CTRL g) 1 = true) then 0
      else s.deviceBeat.1)⟩, (setBits (be p 0 2) 16).foldl (fun t g => setFlip g s.deviceBeat.1 t) s.deviceBeat.2) := by
  have none_ : (setBits (be p 0 2) 16).findSome? (flipRefused s) = none := List.findSome?_eq_none_iff.mpr free
  unfold cmdParseFlip
  dsimp only
  rw [if_neg (by simp [owner_]), if_neg (by simp [len]), none_]
  dsimp only
  congr 3
  refine ite_congr (propext ?_) (fun _ => rfl) fun _ => rfl
  simp only [Bool.and_eq_true, Bool.not_eq_true', List.all_eq_true, List.isEmpty_eq_false_iff, ne_eq]

/-! The program registers (R108) -/

/-- The row of PROG_VALIDATE. -/
def progValidateRow : RegRow := ⟨0xC, 1, 0x0, 1, false, .wo, 0x0, 0x1, 0x0, 0x1⟩
/-- The row of PROG_FLIP. -/
def progFlipRow : RegRow := ⟨0x14, 1, 0x0, 1, false, .wo, 0x0, 0x1, 0x0, 0x1⟩

/-- An address of the block of a header-core group. -/
def groupAddr (g o : Nat) : Nat := 0x300000 + o + g * 0x10000

section
variable {g o : Nat} (hg : g < 16) (ho : o < 0x10000)
include hg ho

theorem locate_group {r : RegRow} {k j : Nat} (row : placeIn o hcRegs = some (r, k, j, false)) :
    locate (groupAddr g o) = some ⟨.headerCore, g, r, k, j, false, groupAddr g o⟩ := by
  unfold locate blocks
  iterate 8 rw [locateIn_outside (by simp only [groupAddr]; omega)]
  have number : (groupAddr g o - 0x300000) / 0x10000 = g := by simp only [groupAddr]; omega
  have offset : (groupAddr g o - 0x300000) % 0x10000 = o := by simp only [groupAddr]; omega
  rw [locateIn_inside (r := r) (k := k) (j := j) (by simp only [groupAddr]; omega) (by simpa only [offset] using row)]
  simp only [number]

theorem blockIn_group : blockIn (groupAddr g o) blocks = some (.headerCore, g) := by
  unfold blocks
  iterate 8 rw [blockIn_outside (by simp only [groupAddr]; omega)]
  have number : (groupAddr g o - 0x300000) / 0x10000 = g := by simp only [groupAddr]; omega
  rw [blockIn, if_pos (by simp only [groupAddr]; omega)]
  simp only [number]

theorem writeWord_group {e : Env} (owner_ : e.owner = true) {r : RegRow} {k j : Nat} (row : placeIn o hcRegs = some (r, k, j, false))
    (access : r.acc ≠ .ro ∧ r.acc ≠ .rc) (v : Nat) (s : State) :
    writeWord e (groupAddr g o) v s = writeGroup ⟨.headerCore, g, r, k, j, false, groupAddr g o⟩ v s := by
  have may : s.mayWriteWord e (groupAddr g o) = true := by
    rw [State.mayWriteWord, isStoreCtl, blockIn_group hg ho]
    simp [owner_]
  rw [writeWord_located may (locate_group hg ho row) rfl access]
  rfl
end

theorem writeWord_progValidate {e : Env} (owner_ : e.owner = true) {g : Nat} (hg : g < 16) (v : Nat) (s : State) :
    writeWord e (Addr.PROG_VALIDATE g) v s = wrProgValidate g v s :=
  writeWord_group (o := 0xC) hg (by decide) owner_ (r := progValidateRow) (k := 0) (j := 0) (by decide) ⟨nofun, nofun⟩ v s

theorem writeWord_progFlip {e : Env} (owner_ : e.owner = true) {g : Nat} (hg : g < 16) (v : Nat) (s : State) :
    writeWord e (Addr.PROG_FLIP g) v s = wrProgFlip g v s :=
  writeWord_group (o := 0x14) hg (by decide) owner_ (r := progFlipRow) (k := 0) (j := 0) (by decide) ⟨nofun, nofun⟩ v s

/-- The banks change over: bits 0, 1 and 3 of PROG_STATUS are set anew. -/
theorem execParseBankFlip_eq {t g : Nat} {s : State} (pending : s.flag (Addr.PROG_STATUS g) 12 = true) (set_ : tabGet 0 g s.hc.flip ≠ 0)
    (due : tabGet 0 g s.hc.flip - 1 ≤ s.zc) : exec (.parseBankFlip t g) s = .next (flipBank g (tabGet 0 g s.hc.flip - 1) (advance t s)) := by
  have row : exec (.parseBankFlip t g) s = execParseBankFlip t g s := rfl
  rw [row, execParseBankFlip, if_pos ⟨pending, set_, due⟩]

/-! The obligation -/

theorem deviceBeat_only (s : State) : s.zc + 64 ≤ s.deviceBeat.1 ∧ s.deviceBeat.2.regs = s.regs ∧ s.deviceBeat.2.hc = s.hc ∧
    s.deviceBeat.2.mem = s.mem :=
  ⟨Nat.le_add_right _ _, rfl, rfl, rfl⟩

/-- PROG_FLIP of a group that nothing refuses. -/
theorem wrProgFlip_free {g v : Nat} {s : State} (go : v % 2 = 1) (free : flipRefused s g = none) :
    wrProgFlip g v s = (St.OK, setFlip g s.deviceBeat.1 s.deviceBeat.2) := by
  unfold wrProgFlip
  rw [if_neg (by simp [bitAt, go]), free]

theorem wrProgValidate_open {g v : Nat} {s : State} (go : v % 2 = 1) (open_ : s.stagingClosed g = false) :
    wrProgValidate g v s = (St.OK, validateStage g s) := by
  unfold wrProgValidate
  rw [if_neg (by simp [open_]), if_neg (by simp [bitAt, go])]

section
variable {c : Cmd} {x : Session} {s : State} (h : ready c x s = true) (isOwner : x.tenant = owner)
include h isOwner

theorem progValidate_completes {g : Nat} {v : W32} (hg : g < 16) (go : v.toNat % 2 = 1) (open_ : (begun c x s).stagingClosed g = false) :
    completes (.progValidate c g v) 0x0101 c x s ⟨St.OK, toBE 2 1 ++ zeros 2⟩ (fun t => t = validateStage g (begun c x s)) :=
  completes_written rfl h (by simp only [Addr.PROG_VALIDATE]; omega) (by simp only [Addr.PROG_VALIDATE]; omega) v.isLt
    ((writeWord_progValidate (envOf_owner isOwner c) hg _ _).trans (wrProgValidate_open go open_)) rfl

theorem progFlip_completes {g : Nat} {v : W32} (hg : g < 16) (go : v.toNat % 2 = 1) (free : flipRefused (begun c x s) g = none) :
    completes (.progFlip c g v) 0x0101 c x s ⟨St.OK, toBE 2 1 ++ zeros 2⟩ (fun t =>
      t = setFlip g (begun c x s).deviceBeat.1 (begun c x s).deviceBeat.2) :=
  completes_written rfl h (by simp only [Addr.PROG_FLIP]; omega) (by simp only [Addr.PROG_FLIP]; omega) v.isLt
    ((writeWord_progFlip (envOf_owner isOwner c) hg _ _).trans (wrProgFlip_free go free)) rfl
end

/-- Bit by bit, PROG_STATUS after the banks have changed over. -/
theorem status_flipped (v : Nat) : bits ((1 - v % 2) + bits v 3 1 * 2 + bits v 1 1 * 8) 0 1 = 1 - v % 2 ∧
    bitAt ((1 - v % 2) + bits v 3 1 * 2 + bits v 1 1 * 8) 12 = false ∧ (1 - v % 2) + bits v 3 1 * 2 + bits v 1 1 * 8 < 2 ^ 64 := by
  have drained : bits v 3 1 < 2 := Nat.mod_lt _ (by decide)
  have valid : bits v 1 1 < 2 := Nat.mod_lt _ (by decide)
  generalize bits v 3 1 = a at *
  generalize bits v 1 1 = b at *
  generalize whole : 1 - v % 2 + a * 2 + b * 8 = w
  have low : bits w 0 1 = w % 2 := by rw [bits, pow_zero, Nat.div_one, pow_one]
  have none_ : bitAt w 12 = false := by
    rw [bitAt, Nat.div_eq_of_lt (by omega)]
    rfl
  exact ⟨by omega, none_, by omega⟩

theorem flipBank_flips (g n : Nat) (s : State) : (flipBank g n s).activeBank g = 1 - s.activeBank g ∧
    (flipBank g n s).flag (Addr.PROG_STATUS g) 12 = false ∧ (flipBank g n s).reg (Addr.HC_FLIP_ZC g) = n % 2 ^ 64 ∧
    (flipBank g n s).hc = { s.hc with flip := tabSet 0 g 0 s.hc.flip } ∧ sameRegsBut [Addr.PROG_STATUS g, Addr.HC_FLIP_ZC g] s (flipBank g n s) := by
  have apart : Addr.PROG_STATUS g ≠ Addr.HC_FLIP_ZC g := by simp only [Addr.PROG_STATUS, Addr.HC_FLIP_ZC]; omega
  obtain ⟨active, pending, small⟩ := status_flipped (s.reg (Addr.PROG_STATUS g))
  have status : (flipBank g n s).reg (Addr.PROG_STATUS g) = (1 - s.reg (Addr.PROG_STATUS g) % 2) + bits (s.reg (Addr.PROG_STATUS g)) 3 1 * 2 +
      bits (s.reg (Addr.PROG_STATUS g)) 1 1 * 8 := by
    unfold flipBank
    exact (State.reg_setReg_other apart _ _).trans (State.reg_setReg_of _ _ small)
  refine ⟨?_, ?_, State.reg_setReg_same _ _ _, rfl, fun a other => ?_⟩
  · rw [State.activeBank, State.field, status, active, State.activeBank, State.field, bits, pow_zero, Nat.div_one, pow_one]
  · rw [State.flag, status, pending]
  · simp only [List.mem_cons, List.not_mem_nil, or_false, not_or] at other
    exact (State.reg_setReg_other other.2 _ _).trans (State.reg_setReg_other other.1 _ _)

theorem bankFlip_holds (t g : Nat) (s : State) (pending : s.flag (Addr.PROG_STATUS g) 12 = true) (set_ : tabGet 0 g s.hc.flip ≠ 0)
    (due : tabGet 0 g s.hc.flip - 1 ≤ s.zc) : ∃ u, exec (.parseBankFlip t g) s = .next u ∧ u.activeBank g = 1 - s.activeBank g ∧
      u.flag (Addr.PROG_STATUS g) 12 = false ∧ u.reg (Addr.HC_FLIP_ZC g) = (tabGet 0 g s.hc.flip - 1) % 2 ^ 64 ∧ tabGet 0 g u.hc.flip = 0 ∧
      u.hc.prog = s.hc.prog ∧ sameRegsBut [Addr.PROG_STATUS g, Addr.HC_FLIP_ZC g] s u := by
  obtain ⟨active, clear, beat, hc, regs⟩ := flipBank_flips g (tabGet 0 g s.hc.flip - 1) (advance t s)
  refine ⟨_, execParseBankFlip_eq pending set_ due, active.trans (by rfl), clear, beat, ?_, ?_, regs⟩
  · rw [hc]
    exact tabGet_tabSet_same 0 g 0 s.hc.flip
  · rw [hc]
    rfl

theorem parseFlip_holds (c : Cmd) (x : Session) (s : State) (p : Bytes) (h : ready c x s = true) (isOwner : x.tenant = owner) (len : p.length = 2)
    (free : ∀ g ∈ setBits (be p 0 2) 16, flipRefused (begun c x s) g = none) :
    ∃ n, (begun c x s).zc + 64 ≤ n ∧ completes (.parseFlip c p) 0x030A c x s
        ⟨St.OK, toBE 8 (if setBits (be p 0 2) 16 ≠ [] ∧
            (∀ g ∈ setBits (be p 0 2) 16, (begun c x s).flag (Addr.HC_CTRL g) 1 = true) then 0 else n)⟩ (fun t =>
      (∀ g ∈ setBits (be p 0 2) 16, if (begun c x s).flag (Addr.HC_CTRL g) 1 then t.flag (Addr.PROG_STATUS g) 2 = true
        else t.flag (Addr.PROG_STATUS g) 12 = true ∧ tabGet 0 g t.hc.flip = n + 1) ∧ sameMemory s t) := by
  obtain ⟨least, regs, _, mem⟩ := deviceBeat_only (begun c x s)
  obtain ⟨mem', linked, _, flips⟩ := foldl_setFlip (begun c x s).deviceBeat.1 (setBits (be p 0 2) 16) (begun c x s).deviceBeat.2
  refine ⟨_, least, completes_acts (f := cmdParseFlip) rfl h (by decide) (by decide) (cmdParseFlip_eq (envOf_owner isOwner c) len free)
    ⟨fun g hg => ?_, sameMemory_of_mem ((mem'.trans mem).trans (begun_mem c x s))⟩⟩
  have flip := flips g hg
  rwa [FlipSet, linked, State.flag_congr (State.reg_of_regs regs (Addr.HC_CTRL g))] at flip

theorem status_countHbm (a n g i : Nat) (s : State) :
    (countHbm false a n s).flag (Addr.PROG_STATUS g) i = s.flag (Addr.PROG_STATUS g) i ∧ (countHbm false a n s).activeBank g = s.activeBank g := by
  have same : (countHbm false a n s).reg (Addr.PROG_STATUS g) = s.reg (Addr.PROG_STATUS g) :=
    reg_countHbm_read (fun m hm => by simp only [Addr.PROG_STATUS, Addr.RD_BYTES]; omega) a n s
  exact ⟨State.flag_congr same i, activeBank_congr same⟩

/-- A flag of a group shows where no bank of the mask is refused. -/
theorem any_unset {groups : List Nat} {t b : State}
    {hd : Bytes} : groups.any (fun g => !t.flag (Addr.PROG_STATUS g) 1 || statedAbove hd (b.reg (Addr.STEP_CAP g))) = true ↔
    (∃ g ∈ groups, t.flag (Addr.PROG_STATUS g) 1 = false) ∨ ∃ g ∈ groups, ∃ i < 8, b.reg (Addr.STEP_CAP g) < le hd (8 + 2 * i) 2 := by
  simp only [List.any_eq_true, Bool.or_eq_true, Bool.not_eq_true', statedAbove_iff]
  exact ⟨fun ⟨g, hg, why⟩ => why.imp (fun unset => ⟨g, hg, unset⟩) fun above => ⟨g, hg, above⟩,
    fun why => why.elim (fun ⟨g, hg, unset⟩ => ⟨g, hg, Or.inl unset⟩) fun ⟨g, hg, above⟩ => ⟨g, hg, Or.inr above⟩⟩

section
variable {c : Cmd} {x : Session} {s : State} {p : Bytes} (h : ready c x s = true) (isOwner : x.tenant = owner) (len : p.length = 20)
  (zero : zerosAt p 2 6 = true) (header : parseHeaderOk ((begun c x s).readBytes owner (be p 8 8) 64) (be p 16 4) = true)
include h isOwner len zero header

theorem parseLoad_unsigned (bad : verifyPair (tabGet [] owner s.signer)
      ((begun c x s).readBytes owner (be p 8 8) (le ((begun c x s).readBytes owner (be p 8 8) 64) 32 8))
      ((begun c x s).readBytes owner (be p 8 8 + le ((begun c x s).readBytes owner (be p 8 8) 64) 32 8) sigBytes) = false) :
    completes (.parseLoad c p) 0x0308 c x s (st St.SIG_FAIL) (fun t => t = begun c x s) :=
  completes_acts (f := cmdParseLoad) rfl h (by decide) (by decide)
    (cmdParseLoad_unsigned (envOf_owner isOwner c) len zero header (by rw [begun_signer]; exact bad)) rfl

variable (windows : (begun c x s).inWindows owner (be p 8 8) (be p 16 4) false = true)
  (open_ : ∀ g ∈ setBits (be p 0 2) 16, (begun c x s).stagingClosed g = false)
  (signed : verifyPair (tabGet [] owner s.signer)
      ((begun c x s).readBytes owner (be p 8 8) (le ((begun c x s).readBytes owner (be p 8 8) 64) 32 8))
      ((begun c x s).readBytes owner (be p 8 8 + le ((begun c x s).readBytes owner (be p 8 8) 64) 32 8) sigBytes) = true)
include windows open_ signed

/-- A signed image ends in one of three ways: refused banks or step counts, a stated rate that falls short, or the image in every bank. -/
theorem parseLoad_signed {r : Reply} {P : State → Prop}
    (result :
      let hd := (begun c x s).readBytes owner (be p 8 8) 64
      let t := imageLoaded ((begun c x s).readBytes owner (be p 8 8) (le hd 32 8)) (le hd 24 2) (setBits (be p 0 2) 16) (begun c x s)
      let unset := (setBits (be p 0 2) 16).foldl (fun s g => s.setFlag (Addr.PROG_STATUS g) 1 false) t
      let bad := (∃ g ∈ setBits (be p 0 2) 16, t.flag (Addr.PROG_STATUS g) 1 = false) ∨
        ∃ g ∈ setBits (be p 0 2) 16, ∃ i < 8, (begun c x s).reg (Addr.STEP_CAP g) < le hd (8 + 2 * i) 2
      let slow := (∃ i < 8, 107 < le hd (8 + 2 * i) 2) ∧ bitAt (le hd 6 2) 0 = false
      (bad ∧ r = st St.BAD_PARAM ∧ P unset) ∨ (¬ bad ∧ slow ∧ r = st St.RATE_SHORTFALL ∧ P unset) ∨
        ¬ bad ∧ ¬ slow ∧ r = ok ∧ P (countHbm false (be p 8 8) (be p 16 4) t)) :
    completes (.parseLoad c p) 0x0308 c x s r P := by
  have acts := cmdParseLoad_signed (e := envOf c x) (envOf_owner isOwner c) len zero header (by rw [begun_signer]; exact signed) windows open_
  dsimp only at acts result
  rcases result with ⟨bad, rfl, holds⟩ | ⟨fine, slow, rfl, holds⟩ | ⟨fine, fast, rfl, holds⟩
  · rw [if_pos (any_unset.mpr bad)] at acts
    exact completes_acts (f := cmdParseLoad) rfl h (by decide) (by decide) acts holds
  · rw [if_neg (fine ∘ any_unset.mp), if_pos ⟨statedAbove_iff.mpr slow.1, by simp [slow.2]⟩] at acts
    exact completes_acts (f := cmdParseLoad) rfl h (by decide) (by decide) acts holds
  · rw [if_neg (fine ∘ any_unset.mp), if_neg fun ⟨above, unallowed⟩ => fast ⟨statedAbove_iff.mp above, by simpa using unallowed⟩] at acts
    exact completes_acts (f := cmdParseLoad) rfl h (by decide) (by decide) acts holds
end

/-- Settles O26: a bank passes where its listed words do, an image leaves just its words listed, and flips touch PROG_STATUS alone. -/
theorem programsAreLoadedAndFlipped : Obligations.ProgramsAreLoadedAndFlipped := by
  unfold Obligations.ProgramsAreLoadedAndFlipped
  refine ⟨⟨fun c x s g v h isOwner hg go => ⟨fun open_ => ?_, fun free => ?_⟩, bankFlip_holds, parseFlip_holds⟩,
    fun c x s p h isOwner len zero => ?_⟩
  · refine completes_imp (progValidate_completes h isOwner hg go open_) fun t done => ?_
    obtain ⟨err, regs⟩ := reg_validateStage g (begun c x s)
    have flag := flag_validateStage g (begun c x s)
    have only := regsOnly_validateStage g (begun c x s)
    rw [done]
    refine ⟨fun none_ => ?_, fun e some_ => ?_, regs, only.hc, sameMemory_of_mem (only.mem.trans (begun_mem c x s))⟩
    · rw [none_] at err flag
      exact ⟨flag, err⟩
    · rw [some_] at err flag
      exact ⟨flag, err⟩
  · refine completes_imp (progFlip_completes h isOwner hg go free) fun t done => ?_
    obtain ⟨least, regs, hc, mem⟩ := deviceBeat_only (begun c x s)
    obtain ⟨mem', prog, others⟩ := regs_setFlip g (begun c x s).deviceBeat.1 (begun c x s).deviceBeat.2
    have flip := flipSet_setFlip g (begun c x s).deviceBeat.1 (begun c x s).deviceBeat.2
    rw [FlipSet, linked_setFlip, State.flag_congr (State.reg_of_regs regs (Addr.HC_CTRL g))] at flip
    rw [done]
    refine ⟨fun linked => ?_, fun unlinked => ?_, fun a other =>
        (others a other).trans (State.reg_of_regs regs a), prog.trans (congrArg HcState.prog hc),
      sameMemory_of_mem ((mem'.trans mem).trans (begun_mem c x s))⟩
    · rwa [if_pos linked] at flip
    · rw [if_neg (by simp [unlinked])] at flip
      exact ⟨flip.1, by rw [flip.2]; omega⟩
  · intro b groups off hd img header windows open_ good words word entry stated valid short slow loaded
    have fits := words_of_headerOk header
    have flag {g : Nat} (hg : g ∈ groups) : (imageLoaded img words groups b).flag (Addr.PROG_STATUS g) 1 = true ↔ valid := flag_imageLoaded fits hg
    have mem := (mem_imageLoaded (img := img) (groups := groups) (s := b) fits).trans (begun_mem c x s)
    obtain ⟨only, _, cleared⟩ := foldl_clearValid groups (imageLoaded img words groups b)
    have passes (ok_ : valid) (fine : ¬ short) : ¬ ((∃ g ∈ groups, (imageLoaded img words groups b).flag
        (Addr.PROG_STATUS g) 1 = false) ∨ short) := by
      rintro (⟨g, hg, unset⟩ | above)
      · exact Bool.false_ne_true (unset.symm.trans ((flag hg).mpr ok_))
      · exact fine above
    refine ⟨parseLoad_unsigned h isOwner len zero header, fun signed why => ?_, fun signed ok_ fine slow_ => ?_, fun signed ok_ fine fast => ?_⟩
    · refine parseLoad_signed h isOwner len zero header windows open_ signed (Or.inl ⟨?_, rfl, cleared, sameMemory_of_mem (only.mem.trans mem)⟩)
      refine why.imp (fun ⟨invalid, some_⟩ => ?_) id
      obtain ⟨g, hg⟩ := List.exists_mem_of_ne_nil groups some_
      exact ⟨g, hg, Bool.eq_false_of_not_eq_true (invalid ∘ (flag hg).mp)⟩
    · exact parseLoad_signed h isOwner len zero header windows open_ signed
        (Or.inr (Or.inl ⟨passes ok_ fine, slow_, rfl, cleared, sameMemory_of_mem (only.mem.trans mem)⟩))
    · refine parseLoad_signed h isOwner len zero header windows open_ signed (Or.inr (Or.inr ⟨passes ok_ fine, fast, rfl, fun g hg => ?_,
        sameMemory_of_mem ((regsOnly_countHbm ..).mem.trans mem)⟩))
      obtain ⟨status, bank⟩ := status_countHbm (be p 8 8) (be p 16 4) g 1 (imageLoaded img words groups b)
      refine ⟨status.trans ((flag hg).mpr ok_), fun a ha => ?_⟩
      rw [State.progWord, (regsOnly_countHbm ..).hc, stageBank_congr bank]
      exact progWord_imageLoaded fits hg ha
end Sys2Proof.Machine

/-!
PROOFS. A trace record whose die is none of the device's, noted as the revoking tokens of a cancelled job leave (R434).
-/
namespace Sys2Proof.Machine

/-- A job of cell 0 whose send list, to a device 1 for which no route is set, has still to be revoked there. -/
def sendingJob : Job := { jobIn 0 with tenant := owner, cells := [0] }

/-- The number of a die whose count of records stands at the address of HOLDER of cell 0. -/
def strayDie : Nat := 0x3FEFFF4

/-- A trace session of the owner's. -/
def ownTrace : TraceSession :=
  { session := 1, tenant := owner, cells := [], groups := [], causes := 0, eventOp := 0, pcCell := 0, pc := 0, swatchJob := 0, swatch := 0, beat := 0, group := false }

/-- A copy to device 1. -/
def toDevice1 : CopyDesc := { src := 0, dst := 2 ^ 47, launch := 0, length := 0, rows := 0, flags := 0, srcStride := 0, dstStride := 0, step := 1, copyTag := 0 }

/-- A device whose trace session has a record of that die to note. -/
def strayRecord : State := attended { running with
  jobs := [sendingJob], obs.trace := some ownTrace, obs.sends := [(strayDie, 0)]
  copies.sends := [{ id := 0, cell := 0, step := 1, job := 1, tenant := owner, size := 1, sent := [(0, toDevice1)] }] }

theorem keeps_cmdJobCancel (e : Env) (p : Bytes) (s : State) : Keeps s (cmdJobCancel e p s).2 := by
  unfold cmdJobCancel
  refine keeps_ite (.refl s) ?_
  split
  · exact keeps_ite (held_advanceSends (held_endJob (.refl s))).keeps (.refl s)
  · exact .refl s

/-- Refutes O36: the tokens that revoke the job's send list have the waiting record noted, and the count of its die, none of the device's, stands at
the address of HOLDER of cell 0. -/
theorem not_jobCommandsComplete : ¬ Obligations.JobCommandsComplete := by
  unfold Obligations.JobCommandsComplete
  intro h
  have ready_ : ready ownCmd ownSession strayRecord = true := by decide +kernel
  obtain ⟨_, _, cancel, _⟩ := h ownCmd ownSession strayRecord (toBE 8 1) ready_
  obtain ⟨t, ⟨_, _, returned⟩, same⟩ := unsaid_of_completes (f := cmdJobCancel) (op := 0x0414) rfl ready_ (by decide) (by decide)
    keeps_cmdJobCancel (by decide +kernel) (cancel sendingJob rfl (by decide +kernel) rfl)
  have kept : t.unsaid.reg (Addr.HOLDER 0) = _ := congrArg (State.reg · (Addr.HOLDER 0)) same
  exact absurd ((returned 0 (List.mem_singleton.mpr rfl)).symm.trans kept) (by decide +kernel)
end Sys2Proof.Machine

/-!
PROOFS. A trace record whose die is none of the device's, noted as a tenant is destroyed (R448).
-/
namespace Sys2Proof.Machine

/-! What the end of a tenant leaves of what left the device (R448) -/

section
variable {start s : State}

theorem kept_closeSession {id cause : Nat} (ok : Keeps start s) : Keeps start (closeSession id cause s) := by
  unfold closeSession
  split
  · exact ok
  · exact kept_raiseEvent (kept_ite (fun _ => kept_setReg (kept_with ok)) (fun _ => kept_with ok))

theorem kept_endTrace (ok : Keeps start s) : Keeps start (endTrace s) := by
  unfold endTrace
  split
  · exact ok
  · exact kept_ite (fun _ => kept_setReg (kept_with ok)) (fun _ => kept_foldl (fun _ _ h1 =>
      kept_setReg (kept_setReg h1)) (kept_with (kept_setReg (kept_with ok))))

theorem kept_resetItem {a n : Nat} (ok : Keeps start s) : Keeps start (resetItem a n s) := by
  refine kept_foldl (fun _ _ h1 => ?_) ok
  split
  · exact kept_ite (fun _ => kept_setReg h1) (fun _ => h1)
  · exact h1

theorem kept_dropTraffic {t : Nat} (ok : Keeps start s) : Keeps start (dropTraffic t s) :=
  kept_rejoinAll (kept_foldl (fun _ _ h1 => kept_resetItem h1) (kept_foldl (fun _ _ h1 => kept_resetItem h1)
    (kept_foldl (fun _ _ h1 => kept_resetItem h1) ok)))

theorem kept_flushTenant {t : Nat} (ok : Keeps start s) : Keeps start (flushTenant t s) :=
  kept_foldl (fun _ _ h1 => kept_flushWhere h1) ok

theorem kept_setCellState {c st tenant : Nat} (ok : Keeps start s) : Keeps start (setCellState c st tenant s) :=
  kept_of_held ok (held_setCellState (.refl s))

theorem kept_zeroCell {c : Nat} (ok : Keeps start s) : Keeps start (zeroCell c s) :=
  kept_setFlag (kept_updCell (kept_with (kept_foldl (fun _ _ h1 => kept_setReg h1) ok)))

theorem kept_unassignCell {c : Nat} (ok : Keeps start s) : Keeps start (unassignCell c s) :=
  kept_zeroCell (kept_with (kept_setFlag (kept_setReg (kept_setCellState ok))))

theorem kept_dropModels {t : Nat} (ok : Keeps start s) : Keeps start (dropModels t s) :=
  kept_foldl (fun u _ h1 => kept_with (h1.trans (held_freePlacement (held_freePlacement (.refl u))).keeps)) ok

theorem kept_releaseTenant {t : Nat} (ok : Keeps start s) : Keeps start (releaseTenant t s) :=
  kept_setFlag (kept_with (kept_dropTraffic (kept_flushTenant (kept_foldl (fun _ _ h1 => kept_ite (fun _ => kept_setCellState h1) (fun _ =>
      kept_unassignCell h1))
    (kept_with (kept_resetItem (kept_with ok)))))))
end

theorem keeps_cmdTenantDestroy (e : Env) (p : Bytes) (s : State) : Keeps s (cmdTenantDestroy e p s).2 := by
  unfold cmdTenantDestroy
  extract_lets t s1 s2 s3 s4 s5 s6
  have sessions : Keeps s s2 := kept_foldl (fun _ _ h1 => kept_closeSession h1) (kept_setReg (.refl s))
  have trace : Keeps s s3 := kept_ite (fun _ => kept_endTrace sessions) (fun _ => sessions)
  have jobs : Keeps s s5 := kept_foldl (fun u _ h1 => kept_of_held h1 (held_advanceSends (held_endJob (.refl u)))) (kept_setReg (kept_setReg trace))
  have models : Keeps s s6 := kept_dropModels jobs
  refine keeps_ite (.refl s) (keeps_ite (.refl s) (keeps_ite (.refl s) (keeps_ite (.refl s) (keeps_ite (kept_with models) ?_))))
  exact kept_releaseTenant (kept_ite (fun _ => kept_with (kept_setReg (kept_setFlag (kept_setFlag models)))) (fun _ => models))

/-! A die whose count of records stands at the address of a tenant's state -/

/-- The number of that die. -/
def tenantDie : Nat := (Addr.T_STATE 5 - 0x40040) / 4

/-- A tenant 5 that waits for its flip, with a job whose send list is to be revoked at device 1, and a record of that die to note. -/
def strayTenant : State := attended (([(Addr.EPOCH_STATUS, 24), (Addr.STAGE_HOLDER, 5)] : List (Nat × Nat)).foldl (fun (s : State) r =>
    s.setReg r.1 r.2)
  { running.setFlag (Addr.TENANT_EXISTS 0) 5 true with
    jobs := [{ sendingJob with tenant := 5 }], obs.trace := some ownTrace, obs.sends := [(tenantDie, 0)]
    copies.sends := [{ id := 0, cell := 0, step := 1, job := 1, tenant := 5, size := 1, sent := [(0, toDevice1)] }] })

/-- Refutes O53: as the tenant's jobs end, the tokens that revoke a send list have the waiting record noted, and the count of its die, none of the
device's, stands at the address of T_STATE of the tenant, which leaves DESTROYING by it. -/
theorem not_securityCommandsComplete : ¬ Obligations.SecurityCommandsComplete := by
  unfold Obligations.SecurityCommandsComplete
  intro h
  have ready_ : ready ownCmd ownSession strayTenant = true := by decide +kernel
  obtain ⟨_, _, destroy, _⟩ := h ownCmd ownSession strayTenant [5, 0, 0, 0] ready_
  obtain ⟨t, ⟨destroying, _⟩, same⟩ := unsaid_of_completes (f := cmdTenantDestroy) (op := 0x0A04) rfl ready_ (by decide) (by decide)
    keeps_cmdTenantDestroy (by decide +kernel) (destroy rfl rfl (by decide) (by decide) (by decide +kernel) (by decide +kernel) (by decide +kernel))
  have kept : t.unsaid.tenantState 5 = _ := congrArg (State.tenantState · 5) same
  exact absurd (destroying.symm.trans kept) (by decide +kernel)
end Sys2Proof.Machine

/-!
PROOFS. Trace records whose die is none of the device's, noted as frames and packets are received (R302, R314).
-/
namespace Sys2Proof.Machine

/-- The number of the die whose count of records stands at the address of register `a`. -/
def dieAt (a : Nat) : Nat := (a - 0x40040) / 4

/-- A joined device 0 whose port 0 is up, with a trace session and a record to note of the die whose count stands at the address of `a`. -/
def strayNote (a : Nat) : State :=
  { ([(Addr.DEVICE_NUMBER, 2 ^ 13), (Addr.FP_STATUS 0, 256), (Addr.CELL_STATE 0, 2)] : List (Nat × Nat)).foldl (fun (s : State) r => s.setReg r.1 r.2) running with
    obs.trace := some ownTrace, obs.sends := [(dieAt a, 0)] }

/-- That device with a frame of port 0 unacknowledged. -/
def strayFrame : State := { strayNote (Addr.FP_FEC_CORR_CW 0) with fabric.unacked := [(0, [(0, { vc := 0, cls := 0, dst := 1, hdr := 0 })])] }

/-- That device with credit for one flit on channel 3 of port 0. -/
def strayArrival : State := { strayNote (Addr.ARRIVE 0 0) with fabric.granted := [(creditKey 0 3 0, 1)] }

/-- A NOTIFY from device 1 for counter 0 of cell 0. -/
def arrivalNotice : W256 := BitVec.ofNat 256 (tyNotify + 3 * 2 ^ 4 + 2 ^ 29 + 2 ^ (96 + 61))

/-- Refutes O44: an ACKSEQ that takes a frame out of the replay buffer has the waiting record noted, and the count of its die, none of the device's,
stands at the address of FP_FEC_CORR_CW of the port. -/
theorem not_fabricPortsAndTimeouts : ¬ Obligations.FabricPortsAndTimeouts := by
  unfold Obligations.FabricPortsAndTimeouts
  intro h
  obtain ⟨frames, _⟩ := h 0 strayFrame
  obtain ⟨u, step, _, corrected, _⟩ := frames 0 1 0 0 (by decide) (by decide +kernel) (by decide) (by decide)
  rw [eq_nextOf step] at corrected
  exact absurd corrected (by decide +kernel)

/-- Refutes O45: the credits that return for a NOTIFY have the waiting record noted, and the count of its die, none of the device's,
    stands at the address
of the arrival counter. -/
theorem not_fabricPacketsAreConsumed : ¬ Obligations.FabricPacketsAreConsumed := by
  unfold Obligations.FabricPacketsAreConsumed
  intro h
  obtain ⟨_, _, _, _, _, notify, _⟩ := h 0 0 arrivalNotice [] strayArrival (by decide +kernel)
  obtain ⟨u, step, arrived, _⟩ := notify 0 (by decide +kernel) (by decide +kernel) (by decide +kernel) (by decide +kernel)
  rw [eq_nextOf step] at arrived
  exact absurd arrived (by decide +kernel)
end Sys2Proof.Machine

/-!
PROOFS. MODEL_LOAD, MODEL_SWAP, MODEL_UNLOAD and MODEL_STATUS (R251, R255, R257, R265, R266).
-/
namespace Sys2Proof.Machine

/-! Placements and the cells that hold them (R207, R252, R256) -/

/-- `t` is `s` after cells took or left placements: no model and no memory changes. -/
def Replaced (s t : State) : Prop := t.models = s.models ∧ t.mem = s.mem

theorem Replaced.trans {s t u : State} (h : Replaced s t) (h' : Replaced t u) : Replaced s u := ⟨h'.1.trans h.1, h'.2.trans h.2⟩

theorem Replaced.foldl {α : Type} {f : State → α → State} (hf : ∀ s x, Replaced s (f s x)) : ∀ (l : List α) (s : State), Replaced s (l.foldl f s)
  | [], _ => ⟨rfl, rfl⟩
  | x :: l, s => (hf s x).trans (Replaced.foldl hf l (f s x))

theorem replaced_syncCell (c : Nat) (s : State) : Replaced s (syncCell c s) := ⟨rfl, rfl⟩

theorem replaced_updCell (s : State) (c : Nat) (f : CellX → CellX) : Replaced s (s.updCell c f) := ⟨rfl, rfl⟩

theorem replaced_dropCells (key i : Nat) (cells : List Nat) (s : State) : Replaced s (dropCells key i cells s) :=
  .foldl (fun s c => (replaced_updCell s c _).trans (replaced_syncCell c _)) cells s

theorem replaced_setReg (s : State) (a v : Nat) : Replaced s (s.setReg a v) := ⟨rfl, rfl⟩

theorem replaced_exchangeCell (c : Nat) (s : State) : Replaced s (exchangeCell c s) := by
  unfold exchangeCell
  extract_lets s1
  exact (replaced_updCell s c _).trans ((replaced_setReg s1 _ _).trans (replaced_syncCell c _))

theorem replaced_putPlacement (key i : Nat) (s : State) : Replaced s (putPlacement key i s) := by
  refine .foldl (fun s r => .foldl (fun s x => ?_) _ s) _ s
  have exchanged : Replaced s (if ((s.cellx x.1).standby.any (fun p => (s.slotOf p).state == 4)) then exchangeCell x.1 s else s) := by
    split
    · exact replaced_exchangeCell _ s
    · exact ⟨rfl, rfl⟩
  exact exchanged.trans ((replaced_updCell _ _ _).trans (replaced_syncCell _ _))

theorem models_freePlacement (key i : Nat) (s : State) :
    (freePlacement key i s).models = (s.updModelSlot key i (fun y => { y with replicas := [], shadow := false })).models ∧
        (freePlacement key i s).mem = s.mem :=
  replaced_dropCells key i _ _

theorem mem_checkDrain (t sel : Nat) (s : State) : (checkDrain t sel s).mem = s.mem := by
  unfold checkDrain
  extract_lets x
  split
  · split <;> rfl
  · split
    · rfl
    · dsimp only
      split
      · exact (models_freePlacement _ _ _).2.trans (told_raiseEvent _ ..).mem
      · exact (told_raiseEvent _ ..).mem

theorem mem_checkDrains (s : State) : (checkDrains s).mem = s.mem := foldl_keeps State.mem (fun s _ => mem_checkDrain _ _ s) _ s

/-! Slots of a selector -/

theorem Selector.slot_setSlot_same (x : Selector) (i : Nat) (y : Slot) : (x.setSlot i y).slot i = y := by
  unfold Selector.setSlot Selector.slot
  split <;> rfl

/-- The two slots of a selector are kept apart. -/
theorem Selector.slot_setSlot_other {i : Nat} (x : Selector) (hi : i ≤ 1) (y : Slot) : (x.setSlot i y).slot (1 - i) = x.slot (1 - i) := by
  interval_cases i <;> rfl

theorem State.selector_setSelector (s : State) (t sel : Nat) (x : Selector) : (s.setSelector t sel x).selector t sel = x := tabGet_tabSet_same ..

theorem State.selector_updModelSlot (s : State) (t sel i : Nat) (f : Slot → Slot) :
    (s.updModelSlot (16 * t + sel) i f).selector t sel = (s.selector t sel).setSlot i (f ((s.selector t sel).slot i)) := tabGet_tabSet_same ..

theorem State.selector_congr {s t : State} (same : t.models = s.models) (u sel : Nat) : t.selector u sel = s.selector u sel := by
  rw [State.selector, same, State.selector]

/-! MODEL_LOAD (R251) -/

theorem loadSlot_lt {x : Selector} {i : Nat} (found : loadSlot x = some i) : i < 2 := by
  have small {st j : Nat} (at_ : x.find st = some j) : j < 2 := by
    unfold Selector.find at at_
    split at at_
    · obtain rfl := Option.some.inj at_
      decide
    · split at at_
      · obtain rfl := Option.some.inj at_
        decide
      · contradiction
  unfold loadSlot at found
  split at found
  · contradiction
  · split at found
    · obtain rfl := Option.some.inj found
      decide
    · obtain rfl := Option.some.inj found
      decide
    · obtain rfl := Option.some.inj found
      exact small ‹_›
    · exact small found

/-- A placed package: the slot is LOADING with the replicas found for it. -/
theorem loadInto_accepted {e : Env} {t sel i : Nat} {sampling : Bool} {pkg : Package}
    {s : State} (accepted : (loadInto e t sel i sampling pkg s).1.status = St.ACCEPTED) :
    (loadInto e t sel i sampling pkg s).1.params.take 1 = toBE 1 i ∧ (((loadInto e t sel i sampling pkg s).2.selector t sel).slot i).state = 1 ∧
      (((loadInto e t sel i sampling pkg s).2.selector t sel).slot i).replicas ≠ [] := by
  unfold loadInto at accepted ⊢
  extract_lets key s0 pl n cats slot s1 at accepted ⊢
  split at accepted
  · exact absurd accepted (by decide : St.NO_FIT ≠ St.ACCEPTED)
  · split at accepted
    · exact absurd accepted (by decide : St.RATE_SHORTFALL ≠ St.ACCEPTED)
    · split at accepted
      · exact absurd accepted (by decide : St.RATE_SHORTFALL ≠ St.ACCEPTED)
      · rename_i fits placed reserved
        rw [if_neg fits, if_neg placed, if_neg reserved]
        have slot_ : (s1.selector t sel).slot i = slot := by
          rw [State.selector_congr (replaced_putPlacement _ _ _).1, State.selector_updModelSlot, Selector.slot_setSlot_same]
        refine ⟨rfl, ?_, ?_⟩
        · dsimp only
          rw [slot_]
        · dsimp only
          rw [slot_]
          exact fun none_ => fits (Or.inr (Or.inr (List.isEmpty_iff.mpr none_)))

theorem mem_loadInto (e : Env) (t sel i : Nat) (sampling : Bool) (pkg : Package) (s : State) : (loadInto e t sel i sampling pkg s).2.mem = s.mem := by
  unfold loadInto
  dsimp only
  split
  · rfl
  · split
    · rfl
    · split
      · rfl
      · exact (replaced_putPlacement _ _ _).2.trans (models_freePlacement _ _ s).2

/-- What MODEL_LOAD makes of a package (R251). -/
theorem cmdModelLoad_eq {e : Env} {p : Bytes} {s : State}
    {u v : Nat} (sender : e.sessTenant = u) (named : e.tenant = v) (len : p.length = 24) (flags : byteAt p 1 ≤ 1) (zero : zerosAt p 2 6 = true) :
    cmdModelLoad e p s =
      let d := checkDrains s
      let img := d.readBytes u (be p 8 8) (min (be p 16 8) hbmBytes)
      let t := byteAt img 7
      match readPackage img (be p 16 8) with
      | none => (st St.BAD_PARAM, d)
      | some pkg =>
        if byteAt img 8 ≠ byteAt p 0 then (st St.BAD_PARAM, d)
        else if !packageSigned (img.take (le img 32 8)) (img.drop (le img 32 8)) t d then (st St.SIG_FAIL, d)
        else if (t ≠ v ∧ u ≠ owner) ∨ !d.tenantExists t ∨ !d.inWindows u (be p 8 8) (be p 16 8) false ∨
            pkg.regions.any (fun w => d.inlineStatsRefused t (bits w 128 64)) then (st St.NOT_PERMITTED, d)
        else match loadSlot (d.selector t (byteAt p 0)) with
          | none => (st St.BUSY, d)
          | some i =>
            let r := loadInto e t (byteAt p 0) i (byteAt p 1 == 1) pkg d
            if r.1.status = St.ACCEPTED then (r.1, countHbm false (be p 8 8) (be p 16 8) r.2) else r := by
  have stranger : ((!e.owner) = true) = (u ≠ owner) := by simp [Env.owner, sender]
  unfold cmdModelLoad
  rw [if_neg (by simp [len, zero]; omega)]
  dsimp only
  rw [sender, named]
  generalize checkDrains s = d
  generalize d.readBytes u (be p 8 8) (min (be p 16 8) hbmBytes) = img
  cases readPackage img (be p 16 8) with
  | none => rfl
  | some pkg =>
    dsimp only
    by_cases sel : byteAt img 8 = byteAt p 0
    · simp only [sel, stranger, ne_eq, not_true_eq_false, ↓reduceIte, refuse] <;> rfl
    · rw [if_pos sel, if_pos sel, refuse]

theorem models_countHbm (write : Bool) (a n : Nat) (s : State) : (countHbm write a n s).models = s.models := by rw [regsOnly_countHbm write a n s]

/-- The slot that an accepted load names is LOADING with its replicas, and no byte of memory changes. -/
theorem modelLoad_loads {e : Env} {p : Bytes} {s : State} (len : p.length = 24) (flags : byteAt p 1 ≤ 1) (zero : zerosAt p 2 6 = true) :
    (cmdModelLoad e p s).2.mem = s.mem ∧ ((cmdModelLoad e p s).1.status = St.ACCEPTED →
      ∃ j < 2, (cmdModelLoad e p s).1.params.take 1 = toBE 1 j ∧
        (((cmdModelLoad e p s).2.selector (byteAt ((checkDrains s).readBytes e.sessTenant (be p 8 8) (min (be p 16 8) hbmBytes)) 7)
            (byteAt p 0)).slot j).state = 1 ∧
        (((cmdModelLoad e p s).2.selector (byteAt ((checkDrains s).readBytes e.sessTenant (be p 8 8) (min (be p 16 8) hbmBytes)) 7)
            (byteAt p 0)).slot j).replicas ≠ []) := by
  have drained := mem_checkDrains s
  have refused {code : Nat} (other : code ≠ St.ACCEPTED) {Q : Prop} : (checkDrains s).mem = s.mem ∧ ((st code).status = St.ACCEPTED → Q) :=
    ⟨drained, fun accepted => absurd accepted other⟩
  rw [cmdModelLoad_eq rfl rfl len flags zero]
  dsimp only
  split
  · exact refused (by decide)
  · split
    · exact refused (by decide)
    · split
      · exact refused (by decide)
      · split
        · exact refused (by decide)
        · split
          · exact refused (by decide)
          · rename_i i found
            split
            · rename_i accepted
              obtain ⟨slot, loading, placed⟩ := loadInto_accepted accepted
              refine ⟨(regsOnly_countHbm ..).mem.trans ((mem_loadInto ..).trans drained), fun _ => ⟨i, loadSlot_lt found, slot, ?_⟩⟩
              rw [State.selector_congr (models_countHbm ..)]
              exact ⟨loading, placed⟩
            · rename_i other
              exact ⟨(mem_loadInto ..).trans drained, fun accepted => absurd accepted other⟩

/-! The commands on loaded slots (R255, R257, R265, R266) -/

section
variable {e : Env} {p : Bytes} {s : State} (len : p.length = 4) (zero : zerosAt p 2 2 = true) (k : byteAt p 0 ≤ 15)
include len zero k

theorem cmdModelSwap_disarm (off : byteAt p 1 = 2 ∨ byteAt p 1 = 3) : cmdModelSwap e p s = (⟨St.OK, toBE 8 0⟩,
    (checkDrains s).setSelector e.tenant (byteAt p 0) { (checkDrains s).selector e.tenant (byteAt p 0) with armed := false }) := by
  have bit : bitAt (byteAt p 1) 1 = true := by rcases off with two | three <;> simp_all [bitAt]
  unfold cmdModelSwap
  dsimp only
  rw [if_neg (by simp [len, zero]; omega), if_pos bit]

variable (idle : ((checkDrains s).selector e.tenant (byteAt p 0)).find 5 = none)
  (standby : (((checkDrains s).selector e.tenant (byteAt p 0)).slot ((checkDrains s).selector e.tenant (byteAt p 0)).standby).state = 2)
  (fresh_ : (((checkDrains s).selector e.tenant (byteAt p 0)).slot ((checkDrains s).selector e.tenant (byteAt p 0)).standby).was = false)
include idle standby fresh_

theorem cmdModelSwap_arm (link : byteAt p 1 = 1) : cmdModelSwap e p s = (⟨St.ACCEPTED, toBE 8 0⟩, (checkDrains s).setSelector e.tenant (byteAt p 0)
    { (checkDrains s).selector e.tenant (byteAt p 0) with armed := true, swapAt := none, unloading := false }) := by
  unfold cmdModelSwap
  dsimp only
  rw [if_neg (by simp [len, zero]; omega), link, if_neg (by decide), if_neg (by simp [idle]), standby, if_neg (by decide), if_neg (by decide),
    if_neg (by simp [fresh_])]
  rfl

theorem cmdModelSwap_now (now : byteAt p 1 = 0) : cmdModelSwap e p s = (⟨St.ACCEPTED, toBE 8 (checkDrains s).deviceBeat.1⟩,
    (checkDrains s).deviceBeat.2.setSelector e.tenant (byteAt p 0)
      { (checkDrains s).selector e.tenant (byteAt p 0) with armed := false, swapAt := some (checkDrains s).deviceBeat.1, unloading := false }) := by
  unfold cmdModelSwap
  dsimp only
  rw [if_neg (by simp [len, zero]; omega), now, if_neg (by decide), if_neg (by simp [idle]), standby, if_neg (by decide), if_neg (by decide),
    if_neg (by simp [fresh_])]
  rfl
end

/-- A slot is emptied. -/
def emptied (t sel i : Nat) (s : State) : State := (freePlacement (16 * t + sel) i s).updModelSlot (16 * t + sel) i (fun _ => {})

theorem emptied_empties {i : Nat} (hi : i ≤ 1) (t sel : Nat) (s : State) : (((emptied t sel i s).selector t sel).slot i).state = 0 ∧
    ((emptied t sel i s).selector t sel).slot (1 - i) = (s.selector t sel).slot (1 - i) ∧ (emptied t sel i s).mem = s.mem := by
  obtain ⟨models, mem⟩ := models_freePlacement (16 * t + sel) i s
  rw [emptied, State.selector_updModelSlot, Selector.slot_setSlot_same, Selector.slot_setSlot_other _ hi, State.selector_congr models,
    State.selector_updModelSlot, Selector.slot_setSlot_other _ hi]
  exact ⟨rfl, rfl, mem⟩

theorem cmdModelUnload_emptied {e : Env} {p : Bytes}
    {s : State} (len : p.length = 4) (zero : zerosAt p 2 2 = true) (k : byteAt p 0 ≤ 15) (f : byteAt p 1 ≤ 1)
    (loaded : (((checkDrains s).selector e.tenant (byteAt p 0)).slot (byteAt p 1)).state = 2 ∨
      (((checkDrains s).selector e.tenant (byteAt p 0)).slot (byteAt p 1)).state = 3) :
    ∃ d, cmdModelUnload e p s = (ok, emptied e.tenant (byteAt p 0) (byteAt p 1) d) ∧ d.mem = (checkDrains s).mem ∧
      ∀ i, (d.selector e.tenant (byteAt p 0)).slot i = ((checkDrains s).selector e.tenant (byteAt p 0)).slot i := by
  unfold cmdModelUnload
  dsimp only
  rw [if_neg (by simp [len, zero]; omega)]
  rcases loaded with ready_ | stale
  · rw [ready_]
    refine ⟨_, rfl, ?_, fun i => ?_⟩
    · split <;> rfl
    · split
      · rw [State.selector_setSelector]
        rfl
      · rfl
  · rw [stale]
    exact ⟨_, rfl, rfl, fun _ => rfl⟩

theorem cmdModelStatus_eq {e : Env} {p : Bytes} {s : State} (empty : p = []) : cmdModelStatus e p s =
    (⟨St.OK, (List.range 16).flatMap (fun sel => toLE 32 (selectorWord e.tenant sel (checkDrains s)))⟩, checkDrains s) := by
  unfold cmdModelStatus
  rw [if_neg (by simp [empty])]

/-- Settles O33: the drains that are over are noted, and what a command changes of a selector is its own slot or its arming. -/
theorem modelCommandsComplete : Obligations.ModelCommandsComplete := by
  unfold Obligations.ModelCommandsComplete
  intro c x s p h
  have drained : sameMemory s (checkDrains (begun c x s)) := sameMemory_of_mem ((mem_checkDrains _).trans (begun_mem c x s))
  refine ⟨fun hbm len flags zero => ?_, fun len zero k idle standby fresh_ => ⟨fun now => ?_, fun link => ?_⟩, fun len zero k off => ?_,
    fun len zero k f loaded => ?_, fun empty => ?_⟩
  · obtain ⟨mem, loads⟩ := modelLoad_loads (e := envOf c x) (s := begun c x s) len flags zero
    intro off length img t out
    have acts : cmdModelLoad (envOf c x) p (begun c x s) = out := by
      refine (cmdModelLoad_eq (u := x.tenant) (v := c.tenant) rfl rfl len flags zero).trans ?_
      dsimp only [out, img, t, off, length] <;> rfl
    clear_value out
    subst acts
    exact completes_acts (f := needsHbm cmdModelLoad) rfl h (by decide) (by decide) (needsHbm_eq (by rw [begun_fw]; exact hbm) _ _ _)
      ⟨rfl, sameMemory_of_mem (mem.trans (begun_mem c x s)), loads⟩
  · exact ⟨_, Nat.le_add_right _ _, completes_acts (f := cmdModelSwap) rfl h (by decide) (by decide)
      (cmdModelSwap_now len zero k idle standby fresh_ now)
      ⟨congrArg Selector.swapAt (State.selector_setSelector _ _ _ _), congrArg Selector.armed (State.selector_setSelector _ _ _ _), rfl, drained⟩⟩
  · exact completes_acts (f := cmdModelSwap) rfl h (by decide) (by decide) (cmdModelSwap_arm len zero k idle standby fresh_ link)
      ⟨congrArg Selector.armed (State.selector_setSelector _ _ _ _), congrArg Selector.swapAt (State.selector_setSelector _ _ _ _), rfl, drained⟩
  · exact completes_acts (f := cmdModelSwap) rfl h (by decide) (by decide) (cmdModelSwap_disarm len zero k off)
      ⟨congrArg Selector.armed (State.selector_setSelector _ _ _ _), rfl, drained⟩
  · obtain ⟨d, acts, mem, slots⟩ := cmdModelUnload_emptied (e := envOf c x) len zero k f loaded
    obtain ⟨empty, other, mem'⟩ := emptied_empties f c.tenant (byteAt p 0) d
    exact completes_acts (f := cmdModelUnload) rfl h (by decide) (by decide) acts
      ⟨empty, other.trans (slots _), sameMemory_of_mem ((mem'.trans mem).trans ((mem_checkDrains _).trans (begun_mem c x s)))⟩
  · refine ⟨_, rfl, ?_, completes_acts (f := cmdModelStatus) rfl h (by decide) (by decide) (cmdModelStatus_eq empty) rfl⟩
    rw [length_flatMap_toLE, List.length_range]
end Sys2Proof.Machine

/-!
PROOFS. The host bridge: the doorbell and BAR0, accesses of BAR2 to this device and to others, and function-level resets (R327 to R329, R332).
-/
namespace Sys2Proof.Machine


/-! The SEQs of the channels beside that of command packets (R306) -/

/-- The next SEQ of every channel but that of the command packets is as before. -/
def SeqKept (s t : State) : Prop := ∀ vc, vc ≠ 0 → t.nextSeq vc = s.nextSeq vc

theorem SeqKept.refl (s : State) : SeqKept s s := fun _ _ => rfl

theorem SeqKept.trans {s t u : State} (h : SeqKept s t) (h' : SeqKept t u) : SeqKept s u := fun vc hv => (h' vc hv).trans (h vc hv)

theorem SeqKept.foldl {α : Type} {f : State → α → State} (hf : ∀ s x, SeqKept s (f s x)) : ∀ (l : List α) (s : State), SeqKept s (l.foldl f s)
  | [], s => .refl s
  | x :: l, s => (hf s x).trans (SeqKept.foldl hf l (f s x))

theorem seqKept_of_fabric {s t : State} (same : t.fabric = s.fabric) : SeqKept s t := fun vc _ => by rw [State.nextSeq, same, State.nextSeq]

theorem fabric_setReg (s : State) (a v : Nat) : (s.setReg a v).fabric = s.fabric := State.setReg_fabric ..

theorem fabric_recordSend (p : Nat) (k : FabPkt) (s : State) : (recordSend p k s).fabric = s.fabric := by
  unfold recordSend
  dsimp only
  split <;> rfl

/-- A packet of this device's own that leaves, waits or has no route takes no SEQ beside the one it has. -/
theorem seq_routeFrom (src : Nat) {k : FabPkt} (own : k.from_ = none) (s : State) : (routeFrom src k s).fabric.seq = s.fabric.seq := by
  unfold routeFrom
  split
  · dsimp only
    split
    · unfold transmit putOut
      rw [own]
      dsimp only
      rw [State.emit, fabric_recordSend]
      rfl
    · rfl
  · rfl
  · rw [own]
    rfl
  · rfl

/-- A packet of this device takes the next SEQ of its channel, and leaves those of the others. -/
theorem nextSeq_sendRaw (h : Header) (data : List W256) (s : State) (vc : Nat) :
    (sendRaw h data s).nextSeq vc = if vc = h.vc then (s.nextSeq vc + 1) % 2 ^ 32 else s.nextSeq vc := by
  rw [State.nextSeq, sendRaw, seq_routeFrom _ rfl]
  split
  · rename_i same
    rw [same]
    exact tabGet_tabSet_same _ _ _ _
  · rename_i other
    exact tabGet_tabSet_other other _ _ _ _

theorem seqKept_signal (v : Nat) (s : State) : SeqKept s (signal v s) := by
  unfold signal
  split <;> exact .refl _

theorem seqKept_sendEvent (x : Session) (s : State) (q : Nat × Event) : SeqKept s (sendEvent x s q) := by
  unfold sendEvent
  refine SeqKept.trans ?_ (seqKept_of_fabric (fabric_setReg _ _ _))
  split
  · unfold ringPacket
    dsimp only
    split
    · exact seqKept_of_fabric (fabric_setReg _ _ _)
    · exact SeqKept.trans (t := { s with bridge := _ }) (.refl _) (seqKept_signal _ _)
  · exact fun vc hv => (nextSeq_sendRaw _ _ _ vc).trans (if_neg hv)
  · exact .refl _

theorem seqKept_setReg (s : State) (a v : Nat) : SeqKept s (s.setReg a v) := seqKept_of_fabric (fabric_setReg s a v)

theorem seqKept_setRing (s : State) (d : Nat) (r : StippleRing) : SeqKept s (s.setRing d r) := fun _ _ => rfl

theorem seqKept_sessions (s : State) (sessions : List Session) : SeqKept s { s with sessions } := fun _ _ => rfl

theorem seqKept_windows (s : State) (windows : List Window) : SeqKept s { s with windows } := fun _ _ => rfl

theorem seqKept_sendEvents (s : State) : SeqKept s (sendEvents s) :=
  (seqKept_sessions s _).trans (SeqKept.foldl (fun s x => SeqKept.foldl (seqKept_sendEvent x) _ s) _ _)

theorem seqKept_deliverTo (sel : Session → Bool) (e : Event) (s : State) : SeqKept s (deliverTo sel e s) :=
  (seqKept_sessions s _).trans ((seqKept_setReg _ _ _).trans (seqKept_sendEvents _))

theorem seqKept_deliver (e : Event) (s : State) : SeqKept s (deliver e s) := by
  have traced : SeqKept s (traceEvent e.opcode s) := by
    unfold traceEvent
    split
    · split <;> exact .refl _
    · exact .refl _
  exact traced.trans (seqKept_deliverTo _ e _)

theorem seqKept_coalesce (e : Event) (key length : Nat) (merge : List Nat → List Nat → List Nat) (s : State) :
    SeqKept s (coalesce e key length merge s) := by
  have closed : SeqKept s (closeWindow e.opcode key s) := by
    unfold closeWindow
    split
    · exact .refl _
    · exact (seqKept_windows s _).trans (seqKept_deliver _ _)
  unfold coalesce
  split
  · split
    · exact seqKept_windows s _
    · exact closed.trans (seqKept_windows _ _)
  · exact seqKept_windows s _

theorem seqKept_stopRing (d : Nat) (x : TraceSession) (s : State) : SeqKept s (stopRing d x s) := by
  unfold stopRing
  dsimp only
  split
  · exact (seqKept_setRing s d _).trans ((seqKept_setReg _ _ _).trans (seqKept_deliver _ _))
  · exact seqKept_setRing s d _

theorem seqKept_spill (d seq : Nat) (w : W256) (x : TraceSession) (s : State) : SeqKept s (spill d seq w x s) := by
  unfold spill
  dsimp only
  split
  · exact .refl s
  · exact seqKept_of_fabric (by rw [storeBytes_only])

theorem seqKept_appendRecord (d : Nat) (w : W256) (s : State) : SeqKept s (appendRecord d w s) := by
  unfold appendRecord
  split
  · exact .refl s
  rename_i x _
  dsimp only
  split
  · exact .refl s
  have written : SeqKept s ((spill d ((s.ring d).first + (s.ring d).recs.length) w x s).bump32 (Addr.RING_WRITTEN d)) :=
    (seqKept_spill d _ w x s).trans (seqKept_setReg _ _ _)
  refine written.trans ?_
  split
  · split
    · exact (seqKept_setRing _ _ _).trans (seqKept_stopRing _ _ _)
    · exact seqKept_setRing _ _ _
  · split
    · split
      · exact (seqKept_setRing _ _ _).trans (seqKept_stopRing _ _ _)
      · exact seqKept_setRing _ _ _
    · exact (seqKept_setRing _ _ _).trans ((seqKept_setReg _ _ _).trans (seqKept_coalesce _ _ _ _ _))

theorem seqKept_writeRecord (d : Nat) (w : W256) (s : State) : SeqKept s (writeRecord d w s) := by
  unfold writeRecord
  dsimp only
  split
  · unfold dropRecord
    split
    · exact .refl s
    · exact (seqKept_setRing s _ _).trans ((seqKept_setReg _ _ _).trans (seqKept_coalesce _ _ _ _ _))
  · unfold acceptRecord
    dsimp only
    split
    · exact seqKept_appendRecord d w s
    · exact (seqKept_setRing s _ _).trans ((seqKept_appendRecord _ _ _).trans (seqKept_appendRecord _ _ _))

theorem nextSeq_sendPacket (h : Header) (data : List W256) (s : State) {vc : Nat} (other : vc ≠ 0) :
    (sendPacket h data s).nextSeq vc = if vc = h.vc then (s.nextSeq vc + 1) % 2 ^ 32 else s.nextSeq vc := by
  have listed (u : State) (sends : List (Nat × W256)) : SeqKept u { u with obs.sends := sends } := fun _ _ => rfl
  have noted (u : State) : SeqKept u (noteSends u) :=
    (listed u []).trans (SeqKept.foldl (fun s (r : Nat × W256) => seqKept_writeRecord r.1 r.2 s) _ _)
  exact (noted _ vc other).trans (nextSeq_sendRaw h data s vc)


/-! The places of words of HBM (R215, R216) -/

theorem toLE_natLE : ∀ p : Bytes, toLE p.length (natLE p) = p
  | [] => rfl
  | b :: p => by
    have tail := toLE_natLE p
    have small := b.isLt
    rw [natLE] at tail
    rw [List.length_cons, natLE, List.foldr_cons, toLE]
    congr 1
    · apply BitVec.eq_of_toNat_eq
      rw [BitVec.toNat_ofNat]
      omega
    · exact (congrArg (toLE p.length) (by omega)).trans tail

/-- The word whose bytes are `p` has them. -/
theorem toLE_ofNat_natLE {p : Bytes} (length : p.length = 32) : toLE 32 (BitVec.ofNat 256 (natLE p)).toNat = p := by
  have small := natLE_lt p
  rw [length] at small
  rw [BitVec.toNat_ofNat, Nat.mod_eq_of_lt (by rwa [show 2 ^ 256 = 256 ^ 32 by norm_num]), ← length, toLE_natLE]

/-- The module address of an offset of HBM_ILV (type 0) or HBM_STACK (type 1). -/
def hbmPlace (ty off : Nat) : Nat := if ty = 1 then moduleAddr (bits off 42 4) (bits off 0 42) else off

section
variable {ty lo n : Nat} {s : State}

theorem hbmAddr_hbm (hbm : ty ≤ 1) (s : State) (off : Nat) (pend : Bool) : s.hbmAddr ty off pend = hbmPlace ty off := by
  unfold State.hbmAddr hbmPlace
  split
  · rfl
  · rw [if_neg (by omega)]

/-- The bytes of a word lie one after the other. -/
theorem hbmPlace_word (aligned : lo % 32 = 0) {j : Nat} (hj : j < 32) (ty : Nat) : hbmPlace ty (lo + j) = hbmPlace ty lo + j := by
  unfold hbmPlace moduleAddr bits
  split
  · omega
  · rfl

theorem hbmPlace_aligned (aligned : lo % 32 = 0) (ty : Nat) : hbmPlace ty lo % 32 = 0 := by
  unfold hbmPlace moduleAddr bits
  split
  · omega
  · exact aligned

/-- Offsets of a range that lies in one stack, or of HBM_ILV, have different places. -/
theorem hbmPlace_injective (fits : ty = 1 → bits lo 0 42 + n ≤ 2 ^ 42) {x y : Nat} (hx : x < n) (hy : y < n)
    (same : hbmPlace ty (lo + x) = hbmPlace ty (lo + y)) : x = y := by
  unfold hbmPlace moduleAddr bits at same
  unfold bits at fits
  split at same
  · rename_i stack
    have := fits stack
    omega
  · omega

/-- A range of HBM that an access may reach lies in one stack, or in HBM_ILV. -/
theorem fits_of_spanCause {tenant : Nat} {job : Option Nat} {write spec : Bool} (ok : s.spanCause tenant job write spec ty lo n = 0) :
    ty = 1 → bits lo 0 42 + n ≤ 2 ^ 42 := by
  rintro rfl
  unfold State.spanCause at ok
  split at ok
  · contradiction
  · rw [if_neg (by omega), if_pos rfl] at ok
    split at ok
    · contradiction
    · omega
end

/-! A word that the host writes (R329) -/

section
variable {s u : State} {tenant ty off a : Nat} {data : Bytes}

theorem mergeWord_byte (old : W256) {at_ lo i : Nat} (hi : i < 32) (from_ : lo ≤ at_ + i) (to_ : at_ + i < lo + data.length) :
    (toLE 32 (mergeWord old at_ lo data).toNat).getD i 0#8 = data.getD (at_ + i - lo) 0#8 := by
  rw [mergeWord, toLE_ofNat_natLE (by simp), List.getD_eq_getElem?_getD, List.getElem?_map, List.getElem?_range hi]
  exact if_pos ⟨from_, to_⟩

/-- `u` is `s` with one word of HBM written by a tenant. -/
structure WordWritten (tenant a : Nat) (bs : Bytes) (s u : State) : Prop where
  byte : ∀ j < 32, u.readByte tenant (a + j) = bs.getD j 0#8
  mem : ∀ b, b < a ∨ a + 32 ≤ b → memByte u.mem b = memByte s.mem b
  read : ∀ b, b < a ∨ a + 32 ≤ b → u.readByte tenant b = s.readByte tenant b
  out : u.out = s.out

theorem readByte_of {u v : State} (mem : u.mem = v.mem) (keys : u.dataKey = v.dataKey) (t a : Nat) : u.readByte t a = v.readByte t a := by
  unfold State.readByte State.keyOfTenant
  rw [mem, keys]

theorem wordWritten_writeBytes {bs : Bytes} (length : bs.length = 32) (aligned : a % 32 = 0) (s : State) :
    WordWritten tenant a bs s (s.writeBytes tenant a bs) where
  byte j hj := readByte_writeBytes (by omega)
  mem b hb := State.memByte_writeBytes_outside s tenant a b bs (by omega)
  read b hb := by
    have mark : tabGet 0 (b / 32) (s.writeBytes tenant a bs).mem.keyOf = tabGet 0 (b / 32) s.mem.keyOf := by
      rw [State.writeBytes, keyOf_memMark, if_neg, memWrite_keyOf]
      unfold ceilDiv
      omega
    rw [State.readByte, mark, State.memByte_writeBytes_outside s tenant a b bs (by omega), State.readByte]
    rfl
  out := rfl

/-- The host's writes hold on any beat: no source cell is higher than theirs (R58). -/
theorem wordWritten_writeSpan (hbm : ty ≤ 1) (aligned : a % 32 = 0) (s : State) (v : W256) :
    WordWritten tenant (hbmPlace ty a) (toLE 32 v.toNat) s (s.writeSpan tenant 255 ty a v) := by
  have written := wordWritten_writeBytes (tenant := tenant) (length_toLE 32 v.toNat) (hbmPlace_aligned aligned ty) s
  have writes : s.writeSpan tenant 255 ty a v = { s.storeBytes tenant (hbmPlace ty a) (toLE 32 v.toNat) with
      copies := (s.writeSpan tenant 255 ty a v).copies } := by
    unfold State.writeSpan
    rw [if_neg (by omega)]
    dsimp only
    rw [if_neg (by omega), hbmAddr_hbm hbm]
  have mem : (s.writeSpan tenant 255 ty a v).mem = (s.writeBytes tenant (hbmPlace ty a) (toLE 32 v.toNat)).mem := by
    rw [writes, storeBytes_only]
  have keys : (s.writeSpan tenant 255 ty a v).dataKey = (s.writeBytes tenant (hbmPlace ty a) (toLE 32 v.toNat)).dataKey := by
    rw [writes, storeBytes_only]
    rfl
  refine ⟨fun j hj => ?_, fun b hb => ?_, fun b hb => ?_, ?_⟩
  · rw [readByte_of mem keys, written.byte j hj]
  · rw [mem, written.mem b hb]
  · rw [readByte_of mem keys, written.read b hb]
  · rw [writes, storeBytes_only]

/-- One word of a host write. -/
def hostWord (tenant ty off : Nat) (data : Bytes) (s : State) (i : Nat) : State :=
  s.writeSpan tenant 255 ty (off / 32 * 32 + 32 * i)
    (mergeWord (s.readSpan tenant ty (off / 32 * 32 + 32 * i)) (off / 32 * 32 + 32 * i) off data)

theorem hostWrite_eq (tenant ty off : Nat) (data : Bytes) (s : State) : hostWrite tenant ty off data s =
    (List.range (ceilDiv (off % 32 + data.length) 32)).foldl (hostWord tenant ty off data) s := rfl

/-- `u` is `s` with the first `k` words of a host write in place. -/
structure HostWritten (tenant ty off : Nat) (data : Bytes) (k : Nat) (s u : State) : Prop where
  byte : ∀ x < 32 * k, off ≤ off / 32 * 32 + x → off / 32 * 32 + x < off + data.length →
    u.readByte tenant (hbmPlace ty (off / 32 * 32 + x)) = data.getD (off / 32 * 32 + x - off) 0#8
  mem : ∀ b, (∀ x < 32 * k, b ≠ hbmPlace ty (off / 32 * 32 + x)) → memByte u.mem b = memByte s.mem b
  out : u.out = s.out

theorem HostWritten.step {k n : Nat} (hbm : ty ≤ 1) (fits : ty = 1 → bits (off / 32 * 32) 0 42 + 32 * n ≤ 2 ^ 42) (hk : k < n)
    (h : HostWritten tenant ty off data k s u) : HostWritten tenant ty off data (k + 1) s (hostWord tenant ty off data u k) := by
  have aligned : (off / 32 * 32 + 32 * k) % 32 = 0 := by omega
  have written := wordWritten_writeSpan (tenant := tenant) hbm aligned u
    (mergeWord (u.readSpan tenant ty (off / 32 * 32 + 32 * k)) (off / 32 * 32 + 32 * k) off data)
  have inside (x : Nat) (lower : 32 * k ≤ x) (upper : x < 32 * (k + 1)) :
      hbmPlace ty (off / 32 * 32 + x) = hbmPlace ty (off / 32 * 32 + 32 * k) + (x - 32 * k) := by
    rw [← hbmPlace_word aligned (by omega)]
    congr 1
    omega
  refine ⟨fun x hx lower upper => ?_, fun b hb => ?_, written.out.trans h.out⟩
  · by_cases earlier : x < 32 * k
    · have apart : hbmPlace ty (off / 32 * 32 + x) < hbmPlace ty (off / 32 * 32 + 32 * k) ∨
          hbmPlace ty (off / 32 * 32 + 32 * k) + 32 ≤ hbmPlace ty (off / 32 * 32 + x) := by
        by_contra within
        have met := hbmPlace_word aligned (j := hbmPlace ty (off / 32 * 32 + x) - hbmPlace ty (off / 32 * 32 + 32 * k)) (by omega) ty
        have := hbmPlace_injective (x := x) (y := 32 * k + (hbmPlace ty (off / 32 * 32 + x) - hbmPlace ty (off / 32 * 32 + 32 * k)))
          fits (by omega) (by omega) (by rw [← Nat.add_assoc, met]; omega)
        omega
      exact (written.read _ apart).trans (h.byte x earlier lower upper)
    · rw [inside x (by omega) hx]
      refine (written.byte _ (by omega)).trans ((mergeWord_byte _ (by omega) (by omega) (by omega)).trans ?_)
      congr 1
      omega
  · have apart : b < hbmPlace ty (off / 32 * 32 + 32 * k) ∨ hbmPlace ty (off / 32 * 32 + 32 * k) + 32 ≤ b := by
      by_contra within
      refine hb (32 * k + (b - hbmPlace ty (off / 32 * 32 + 32 * k))) (by omega) ?_
      rw [inside _ (by omega) (by omega)]
      omega
    exact (written.mem b apart).trans (h.mem b fun x hx => hb x (by omega))

theorem hostWritten_hostWrite (hbm : ty ≤ 1)
    (fits : ty = 1 → bits (off / 32 * 32) 0 42 + 32 * ceilDiv (off % 32 + data.length) 32 ≤ 2 ^ 42) (s : State) :
    HostWritten tenant ty off data (ceilDiv (off % 32 + data.length) 32) s (hostWrite tenant ty off data s) := by
  rw [hostWrite_eq]
  generalize ceilDiv (off % 32 + data.length) 32 = n at fits
  have upTo : ∀ k ≤ n, HostWritten tenant ty off data k s ((List.range k).foldl (hostWord tenant ty off data) s) := by
    intro k
    induction k with
    | zero => exact fun _ => ⟨fun x hx => absurd hx (by omega), fun _ _ => rfl, rfl⟩
    | succ k ih =>
      intro hk
      rw [List.range_succ, List.foldl_append]
      exact (ih (by omega)).step hbm fits (by omega)
  exact upTo n (Nat.le_refl n)

/-! What the host reads (R329) -/

theorem readSpan_bytes (hbm : ty ≤ 1) (aligned : a % 32 = 0) (s : State) : toLE 32 (s.readSpan tenant ty a).toNat =
    (List.range 32).map (fun j => s.readByte tenant (hbmPlace ty (a + j))) := by
  rw [State.readSpan, if_neg (by omega), hbmAddr_hbm hbm, toLE_ofNat_natLE (by simp [State.readBytes]), State.readBytes]
  exact List.map_congr_left fun j hj => by rw [hbmPlace_word aligned (List.mem_range.mp hj)]

theorem readWords_bytes (hbm : ty ≤ 1) (aligned : a % 32 = 0) (s : State) : ∀ k,
    (List.range k).flatMap (fun i => toLE 32 (s.readSpan tenant ty (a + 32 * i)).toNat) =
      (List.range (32 * k)).map (fun x => s.readByte tenant (hbmPlace ty (a + x)))
  | 0 => rfl
  | k + 1 => by
    rw [List.range_succ, List.flatMap_append, readWords_bytes hbm aligned s k, List.flatMap_singleton,
      readSpan_bytes hbm (by omega), Nat.mul_succ, List.range_add, List.map_append, List.map_map]
    simp only [Function.comp_def, Nat.add_assoc]

/-- A host read returns the bytes of its range. -/
theorem hostRead_bytes (hbm : ty ≤ 1) (off len : Nat) (s : State) :
    hostRead tenant ty off len s = (List.range len).map (fun i => s.readByte tenant (hbmPlace ty (off + i))) := by
  rw [hostRead, readWords_bytes hbm (by omega)]
  refine List.ext_getElem ?_ fun i hi hi' => ?_
  · simp only [List.length_take, List.length_drop, List.length_map, List.length_range, ceilDiv]
    omega
  · simp only [List.getElem_take, List.getElem_drop, List.getElem_map, List.getElem_range]
    rw [show off / 32 * 32 + (off % 32 + i) = off + i by omega]
end

theorem regsOnly_countRead (ty off len : Nat) (s : State) : RegsOnly s (countRead ty off len s) :=
  RegsOnly.foldl (fun s _ => regsOnly_countHbm _ _ _ s) _ s


/-! What the host has written in BAR0 (R328) -/

/-- `t` is `s` after vectors were signalled: what left, and the vectors that wait. -/
def Signalled (s t : State) : Prop := t = { s with out := t.out, bridge := { s.bridge with msixPending := t.bridge.msixPending } }

theorem signalled_signal (v : Nat) (s : State) : Signalled s (signal v s) := by
  unfold signal
  split <;> rfl

theorem Signalled.trans {s t u : State} (h : Signalled s t) (h' : Signalled t u) : Signalled s u := by
  unfold Signalled at *
  rw [h', h]

theorem Signalled.foldl {α : Type} {f : State → α → State} (hf : ∀ s x, Signalled s (f s x)) : ∀ (l : List α) (s : State), Signalled s (l.foldl f s)
  | [], _ => rfl
  | x :: l, s => (hf s x).trans (Signalled.foldl hf l (f s x))

theorem signalled_signalPending (s : State) : Signalled s (signalPending s) :=
  Signalled.trans (t := { s with bridge := { s.bridge with msixPending := [] } }) rfl (Signalled.foldl (fun s v => signalled_signal v s) _ _)

/-- `v` is `s` with what the host has written in BAR0 beside the doorbell in force. -/
structure Bar0Written (req : Bar0Write) (s v : State) : Prop where
  only : v = { s with out := v.out, bridge := v.bridge }
  cons : v.bridge.cons = req.cons.getD s.bridge.cons % 2 ^ 32
  reply : v.bridge.replyReady = (s.bridge.replyReady && !req.clearReply)
  msix : v.bridge.msix = (req.msix.filter (fun e => e.1 < 64)).foldl (fun t e => tabSet msixMasked e.1 (e.2 % 2 ^ 128) t) s.bridge.msix
  busy : v.bridge.busy = s.bridge.busy
  overrun : v.bridge.overrun = s.bridge.overrun

theorem bar0Written_writeBar0 (req : Bar0Write) (s : State) : Bar0Written req s (writeBar0 req s) := by
  have signalled := signalled_signalPending { s with bridge := { s.bridge with
    cons := req.cons.getD s.bridge.cons % 2 ^ 32
    replyReady := s.bridge.replyReady && !req.clearReply
    msix := (req.msix.filter (fun e => e.1 < 64)).foldl (fun t e => tabSet msixMasked e.1 (e.2 % 2 ^ 128) t) s.bridge.msix } }
  change Signalled _ (writeBar0 req s) at signalled
  unfold Signalled at signalled
  generalize writeBar0 req s = v at signalled
  constructor
  all_goals rw [signalled]

section
variable {req : Bar0Write} {s v : State} (h : Bar0Written req s v)
include h

theorem Bar0Written.transportOn (x : Transport) : v.transportOn x = s.transportOn x := by rw [h.only]; rfl
theorem Bar0Written.fifoFits (f n : Nat) : v.fifoFits f n = s.fifoFits f n := by rw [h.only]; rfl
theorem Bar0Written.regs : v.regs = s.regs := by rw [h.only]
theorem Bar0Written.ports : v.ports = s.ports := by rw [h.only]
theorem Bar0Written.mem : v.mem = s.mem := by rw [h.only]
theorem Bar0Written.reg (a : Nat) : v.reg a = s.reg a := State.reg_of_regs h.regs a

/-- One entry of the MSI-X table that the host writes. -/
theorem Bar0Written.entry {e : Nat × Nat} (one : req.msix = [e]) (small : e.1 < 64) : tabGet msixMasked e.1 v.bridge.msix = e.2 % 2 ^ 128 ∧
    ∀ k, k ≠ e.1 → tabGet msixMasked k v.bridge.msix = tabGet msixMasked k s.bridge.msix := by
  have table : v.bridge.msix = tabSet msixMasked e.1 (e.2 % 2 ^ 128) s.bridge.msix := by
    rw [h.msix, one, List.filter_cons_of_pos (by simpa using small)]
    rfl
  rw [table]
  exact ⟨tabGet_tabSet_same _ _ _ _, fun k other => tabGet_tabSet_other other _ _ _ _⟩

end

/-- The doorbell, the host's other writes being in force. -/
def ringDoorbell (req : Bar0Write) (q : Bytes) (v : State) : State :=
  if !req.bell then v
  else if v.bridge.busy then { v with bridge.overrun := (v.bridge.overrun + 1) % 2 ^ 32 }
  else if !v.transportOn .mailbox then v.bump32 Addr.AUTH_DROPS
  else if v.fifoFits 0x8E2 (wordsOf q).length then
    commitPacket 0x8E2 ⟨(wordsOf q).length, none, wordsOf q⟩ { v with bridge := { v.bridge with busy := true, request := q } }
  else overflowPacket 0x8E2 v

theorem exec_pcieBar0Doorbell {s : State} (up : s.bridgeUp = true) {len : Nat} (small : len < 131072) (t : Nat) (req : Bar0Write) :
    exec (.pcieBar0Doorbell t len req) s = .next (ringDoorbell req (slice req.bytes 0 len) (writeBar0 req (advance t s))) := by
  change Host.Outcome.next (if _ then _ else ringDoorbell req (slice req.bytes 0 len) (writeBar0 req (advance t s))) = _
  rw [if_neg]
  rintro (down | large)
  · rw [up] at down
    contradiction
  · omega

section
variable {req : Bar0Write} {q : Bytes} {s v : State} (h : Bar0Written req s v)
include h

theorem ringDoorbell_mem : (ringDoorbell req q v).mem = s.mem := by
  rw [← h.mem]
  unfold ringDoorbell
  split
  · rfl
  split
  · rfl
  split
  · exact (regsOnly_setReg v _ _).mem
  split
  · rw [(committed_commitPacket _ _ _).only]
  · exact (regsOnly_rewindPacket _ _ _ v).mem

theorem ringDoorbell_busy (bell : req.bell = true) (busy : s.bridge.busy = true) :
    ringDoorbell req q v = { v with bridge := { v.bridge with overrun := (s.bridge.overrun + 1) % 2 ^ 32 } } := by
  rw [ringDoorbell, bell, h.busy, busy, ← h.overrun]
  rfl

theorem ringDoorbell_off (bell : req.bell = true) (free : s.bridge.busy = false) (off : s.transportOn .mailbox = false) :
    (ringDoorbell req q v).bridge = v.bridge ∧ (ringDoorbell req q v).ports = s.ports ∧
      (ringDoorbell req q v).reg Addr.AUTH_DROPS = (s.reg Addr.AUTH_DROPS + 1) % 2 ^ 32 ∧ sameRegsBut [Addr.AUTH_DROPS] s (ringDoorbell req q v) := by
  have dropped : ringDoorbell req q v = v.bump32 Addr.AUTH_DROPS := by
    rw [ringDoorbell, bell, h.busy, free, h.transportOn, off]
    rfl
  have only := regsOnly_setReg v Addr.AUTH_DROPS ((v.reg Addr.AUTH_DROPS + 1) % 2 ^ 32)
  rw [dropped, ← h.reg, ← h.ports]
  exact ⟨only.bridge, only.ports, State.reg_bump32 _ _ 1, fun a ha => (State.reg_bump32_other v (by simpa using ha) 1).trans (h.reg a)⟩

theorem ringDoorbell_taken (bell : req.bell = true) (free : s.bridge.busy = false) (on : s.transportOn .mailbox = true)
    (room : s.fifoFits 0x8E2 (wordsOf q).length = true) :
    (ringDoorbell req q v).bridge.busy = true ∧ (ringDoorbell req q v).bridge.request = q ∧
      ((ringDoorbell req q v).fifo 0x8E2).pkts = (s.fifo 0x8E2).pkts ++ [⟨(wordsOf q).length, none, wordsOf q⟩] ∧
      sameRegsBut [Addr.COMMIT_COUNT 0x8E2, Addr.HIGH_WATER 0x8E2] s (ringDoorbell req q v) := by
  have taken : ringDoorbell req q v =
      commitPacket 0x8E2 ⟨(wordsOf q).length, none, wordsOf q⟩ { v with bridge := { v.bridge with busy := true, request := q } } := by
    rw [ringDoorbell, bell, h.busy, free, h.transportOn, on, h.fifoFits, room]
    rfl
  have committed := committed_commitPacket 0x8E2
      ⟨(wordsOf q).length, none, wordsOf q⟩ { v with bridge := { v.bridge with busy := true, request := q } }
  rw [taken]
  refine ⟨by rw [committed.only], by rw [committed.only], committed.pkts.trans ?_, fun a ha => ?_⟩
  · congr 2
    change tabGet {} _ v.ports.fifos = tabGet {} _ s.ports.fifos
    rw [h.ports]
  · simp only [List.mem_cons, List.not_mem_nil, or_false, not_or] at ha
    exact (committed.reg a ha.1 ha.2).trans (h.reg a)

theorem ringDoorbell_full (bell : req.bell = true) (free : s.bridge.busy = false) (on : s.transportOn .mailbox = true)
    (full : s.fifoFits 0x8E2 (wordsOf q).length = false) :
    (ringDoorbell req q v).bridge = v.bridge ∧ (ringDoorbell req q v).ports = s.ports ∧
      (ringDoorbell req q v).reg (Addr.REWIND_COUNT 0x8E2) = (s.reg (Addr.REWIND_COUNT 0x8E2) + 1) % 2 ^ 32 ∧
      (ringDoorbell req q v).reg (Addr.OVERFLOW_COUNT 0x8E2) = (s.reg (Addr.OVERFLOW_COUNT 0x8E2) + 1) % 2 ^ 32 ∧
      sameRegsBut [Addr.REWIND_COUNT 0x8E2, Addr.OVERFLOW_COUNT 0x8E2, Addr.HIGH_WATER 0x8E2] s (ringDoorbell req q v) := by
  have rewound : ringDoorbell req q v = overflowPacket 0x8E2 v := by
    rw [ringDoorbell, bell, h.busy, free, h.transportOn, on, h.fifoFits, full]
    rfl
  have apart : Addr.OVERFLOW_COUNT 0x8E2 ≠ Addr.HIGH_WATER 0x8E2 ∧ Addr.OVERFLOW_COUNT 0x8E2 ≠ Addr.REWIND_COUNT 0x8E2 := by
    simp [Addr.REWIND_COUNT, Addr.HIGH_WATER, Addr.OVERFLOW_COUNT]
  have only := regsOnly_rewindPacket 0x8E2 true (fifoUnits 0x8E2 * 256 - (v.fifo 0x8E2).wordsHeld) v
  rw [rewound, ← h.reg, ← h.reg, ← h.ports]
  refine ⟨only.bridge, only.ports, reg_rewindPacket _ _ _ v, ?_, fun a ha => ?_⟩
  · rw [overflowPacket, rewindPacket, if_pos rfl, State.reg_bump32, State.reg_raise_other apart.1, State.reg_bump32_other _ apart.2]
  · simp only [List.mem_cons, List.not_mem_nil, or_false, not_or] at ha
    exact (reg_rewindPacket_other ha.1 ha.2.2 ha.2.1 _ _ v).trans (h.reg a)

end

/-! A function-level reset (R332) -/

/-- The aperture `a` is cleared. -/
def clearAperture (s : State) (a : Nat) : State := (s.setReg (Addr.APERTURE_BASE a) 0).setReg (Addr.APERTURE_CFG a) 0

theorem exec_pcieFlr {s : State} (up : s.bridgeUp = true) (t : Nat) : exec (.pcieFlr t) s = .next ((List.range 16).foldl clearAperture
    { (advance t s) with bridge := { stale := s.bridge.stale ++ (s.fifo 0x8E2).pkts.map FifoPkt.data } }) := by
  change Host.Outcome.next (if _ then _ else _) = _
  rw [if_pos up]
  rfl

theorem regsOnly_clearAperture (s : State) (a : Nat) : RegsOnly s (clearAperture s a) := (regsOnly_setReg s _ _).trans (regsOnly_setReg _ _ _)

theorem reg_clearAperture_other {a b : Nat} (base : b ≠ Addr.APERTURE_BASE a) (cfg : b ≠ Addr.APERTURE_CFG a) (s : State) :
    (clearAperture s a).reg b = s.reg b := (State.reg_setReg_other cfg _ _).trans (State.reg_setReg_other base s _)

theorem reg_clearAperture {a : Nat}
    (small : a < 16) (s : State) : (clearAperture s a).reg (Addr.APERTURE_BASE a) = 0 ∧ (clearAperture s a).reg (Addr.APERTURE_CFG a) = 0 := by
  have apart : Addr.APERTURE_BASE a ≠ Addr.APERTURE_CFG a := by
    simp only [Addr.APERTURE_BASE, Addr.APERTURE_CFG, ne_eq]
    omega
  exact ⟨(State.reg_setReg_other apart _ _).trans (State.reg_setReg_same s _ 0), State.reg_setReg_same _ _ 0⟩

theorem clearApertures_other {b : Nat} : ∀ (l : List Nat) (s : State), b ∉ l.map Addr.APERTURE_BASE → b ∉ l.map Addr.APERTURE_CFG →
    (l.foldl clearAperture s).reg b = s.reg b
  | [], _, _, _ => rfl
  | a :: l, s, base, cfg => by
    simp only [List.map_cons, List.mem_cons, not_or] at base cfg
    exact (clearApertures_other l _ base.2 cfg.2).trans (reg_clearAperture_other base.1 cfg.1 s)

theorem clearApertures_clears (s : State) : ∀ n ≤ 16, ∀ a < n, ((List.range n).foldl clearAperture s).reg (Addr.APERTURE_BASE a) = 0 ∧
    ((List.range n).foldl clearAperture s).reg (Addr.APERTURE_CFG a) = 0
  | 0, _, a, ha => absurd ha (by omega)
  | n + 1, hn, a, ha => by
    rw [List.range_succ, List.foldl_append, List.foldl_cons, List.foldl_nil]
    by_cases last : a = n
    · subst last
      exact reg_clearAperture hn _
    · obtain ⟨base, cfg⟩ := clearApertures_clears s n (by omega) a (by omega)
      have apart : Addr.APERTURE_BASE a ≠ Addr.APERTURE_BASE n ∧ Addr.APERTURE_BASE a ≠ Addr.APERTURE_CFG n ∧
          Addr.APERTURE_CFG a ≠ Addr.APERTURE_BASE n ∧ Addr.APERTURE_CFG a ≠ Addr.APERTURE_CFG n := by
        simp only [Addr.APERTURE_BASE, Addr.APERTURE_CFG, ne_eq]
        omega
      exact ⟨(reg_clearAperture_other apart.1 apart.2.1 _).trans base, (reg_clearAperture_other apart.2.2.1 apart.2.2.2 _).trans cfg⟩


/-! Packets of one channel (R306) -/

/-- `u` is `s` after `k` packets of this device's own on channel `vc`. -/
structure PacketsSent (vc k : Nat) (s u : State) : Prop where
  seq : u.nextSeq vc = if k = 0 then s.nextSeq vc else (s.nextSeq vc + k) % 2 ^ 32
  other : ∀ c, c ≠ 0 → c ≠ vc → u.nextSeq c = s.nextSeq c
  remote : u.bridge.remote = s.bridge.remote
  quiet : untraced s → u.mem = s.mem ∧ untraced u

theorem packetsSent_sendPacket {h : Header} (other : h.vc ≠ 0) (data : List W256) (s : State) : PacketsSent h.vc 1 s (sendPacket h data s) where
  seq := (nextSeq_sendPacket h data s other).trans (if_pos rfl)
  other c hc apart := (nextSeq_sendPacket h data s hc).trans (if_neg apart)
  remote := by rw [(advanced_sendPacket h data s).only]
  quiet := (advanced_sendPacket h data s).quiet

theorem PacketsSent.cons {vc k : Nat} {s t u : State} (h : PacketsSent vc 1 s t) (h' : PacketsSent vc k t u) : PacketsSent vc (k + 1) s u where
  seq := by
    have one := h.seq
    have rest := h'.seq
    rw [if_neg one_ne_zero] at one
    rw [one] at rest
    rw [rest, if_neg (Nat.succ_ne_zero k)]
    split
    · rename_i none_
      rw [none_]
    · rw [Nat.mod_add_mod, Nat.add_assoc, Nat.add_comm 1 k]
  other c hc apart := (h'.other c hc apart).trans (h.other c hc apart)
  remote := h'.remote.trans h.remote
  quiet off := by
    obtain ⟨mem, still⟩ := h.quiet off
    obtain ⟨mem', still'⟩ := h'.quiet still
    exact ⟨mem'.trans mem, still'⟩

theorem PacketsSent.foldl {α : Type} {vc : Nat} {f : State → α → State} (hf : ∀ s x, PacketsSent vc 1 s (f s x)) :
    ∀ (l : List α) (s : State), PacketsSent vc l.length s (l.foldl f s)
  | [], _ => ⟨rfl, fun _ _ _ => rfl, rfl, fun off => ⟨rfl, off⟩⟩
  | x :: l, s => (hf s x).cons (PacketsSent.foldl hf l (f s x))

theorem packetsSent_askWords (x : RemoteAccess) (off n : Nat) (s : State) : PacketsSent 1 1 s (askWords x off n s) :=
  packetsSent_sendPacket (h := x.header s.device tyRdReq 1 off) one_ne_zero _ s

/-! An access to another device begins (R314, R329) -/

theorem length_wordsOf (x : RemoteAccess) : x.wordsOf.length = ceilDiv (offsetOf x.addr % 32 + x.len) 32 := by
  rw [RemoteAccess.wordsOf, List.length_map, List.length_range]

/-- A write of whole words covers none in part. -/
theorem partlyCovered_whole {x : RemoteAccess} (from_ : offsetOf x.addr % 32 = 0) (to_ : x.len % 32 = 0) : x.partlyCovered = [] := by
  refine List.filter_eq_nil_iff.mpr fun a ha => ?_
  obtain ⟨i, hi, rfl⟩ := List.mem_map.mp ha
  have := List.mem_range.mp hi
  simp only [Bool.or_eq_true, decide_eq_true_eq, not_or]
  unfold ceilDiv at this
  omega

/-- A write that begins or ends within a word covers one in part. -/
theorem partlyCovered_part {x : RemoteAccess} (some_ : 1 ≤ x.len) (part : offsetOf x.addr % 32 ≠ 0 ∨ x.len % 32 ≠ 0) : x.partlyCovered ≠ [] := by
  have covered (i : Nat) (hi : i < ceilDiv (offsetOf x.addr % 32 + x.len) 32) (met : offsetOf x.addr / 32 * 32 + 32 * i < offsetOf x.addr ∨
      offsetOf x.addr + x.len < offsetOf x.addr / 32 * 32 + 32 * i + 32) : x.partlyCovered ≠ [] := by
    refine List.ne_nil_of_mem (a := offsetOf x.addr / 32 * 32 + 32 * i) (List.mem_filter.mpr ⟨List.mem_map.mpr ⟨i, List.mem_range.mpr hi, rfl⟩, ?_⟩)
    simpa only [Bool.or_eq_true, decide_eq_true_eq] using met
  by_cases whole : offsetOf x.addr % 32 = 0
  · exact covered (ceilDiv (offsetOf x.addr % 32 + x.len) 32 - 1) (by unfold ceilDiv; omega) (.inr (by unfold ceilDiv; omega))
  · exact covered 0 (by unfold ceilDiv; omega) (.inl (by omega))

section
variable {s : State} {tenant addr len : Nat} {data : Bytes}

/-- The access of the bridge that begins. -/
def newAccess (s : State) (write : Bool) (tenant addr len : Nat) (data : Bytes) : RemoteAccess :=
  { xfer := s.copies.nextXfer, peer := deviceOf addr, tenant, addr, len, write, data }

/-- The access begins: the XFER after it is the next one, and the words it waits for are listed. -/
def withAccess (s : State) (remote : List RemoteAccess) : State :=
  { s with copies := { s.copies with nextXfer := s.copies.nextXfer % 65535 + 1 }, bridge := { s.bridge with remote } }

/-- A read of another device's memory asks for its words in one packet. -/
theorem startRemote_read (s : State) (tenant addr len : Nat) (data : Bytes) :
    PacketsSent 1 1 (withAccess s (s.bridge.remote ++
      [{ newAccess s false tenant addr len data with missing := (newAccess s false tenant addr len data).wordsOf }]))
      (startRemote false tenant addr len data s) :=
  packetsSent_askWords (newAccess s false tenant addr len data) _ _ _

/-- A write that covers words in part asks for each of them. -/
theorem startRemote_part {x : RemoteAccess} (new : x = newAccess s true tenant addr len data) (part : x.partlyCovered ≠ []) :
    PacketsSent 1 x.partlyCovered.length (withAccess s (s.bridge.remote ++ [{ x with missing := x.partlyCovered }]))
      (startRemote true tenant addr len data s) := by
  have asks : startRemote true tenant addr len data s = x.partlyCovered.foldl (fun s a => askWords x a 1 s)
      (withAccess s (s.bridge.remote ++ [{ x with missing := x.partlyCovered }])) := by
    subst new
    unfold startRemote
    dsimp only
    rw [if_neg nofun, if_neg]
    · rfl
    · exact fun none_ => part (List.isEmpty_iff.mp none_)
  rw [asks]
  exact PacketsSent.foldl (fun s a => packetsSent_askWords x a 1 s) _ _

/-- A write of whole words leaves in packets of at most 32 words. -/
theorem startRemote_whole {x : RemoteAccess} (new : x = newAccess s true tenant addr len data) (whole : x.partlyCovered = []) :
    PacketsSent 2 (ceilDiv x.wordsOf.length 32) (withAccess s (s.bridge.remote.filter (fun y => y.xfer != x.xfer) ++
      [{ x with missing := [], unacked := (List.range (ceilDiv x.wordsOf.length 32)).map (fun i => (s.nextSeq 2 + i) % 2 ^ 32) }]))
      (startRemote true tenant addr len data s) := by
  have writes : startRemote true tenant addr len data s = writeRemote x (withAccess s s.bridge.remote) := by
    subst new
    unfold startRemote
    dsimp only
    rw [if_neg nofun, if_pos]
    · rfl
    · change (newAccess s true tenant addr len data).partlyCovered.isEmpty = true
      rw [whole]
      rfl
  rw [writes]
  unfold writeRemote
  extract_lets ws n x1
  have count : n = ceilDiv x.wordsOf.length 32 := by
    simp only [n, ws, List.length_map]
  have sent := PacketsSent.foldl (vc := 2) (f := fun s k => sendPacket (x.header s.device tyWrData 2 (x.wordsOf.headD 0 + 1024 * k))
    ((ws.drop (32 * k)).take 32) s) (fun s k => packetsSent_sendPacket (h := x.header s.device tyWrData 2 _) two_ne_zero _ s) (List.range n)
    (withAccess s (s.bridge.remote.filter (fun y => y.xfer != x.xfer) ++ [x1]))
  rw [List.length_range] at sent
  rw [← count]
  exact sent

end

/-! An access through an aperture (R329) -/

section
variable {x : HostAccess} {s : State}

/-- The tenant and the span address of an access, as its aperture gives them. -/
def HostAccess.tenant (x : HostAccess) (s : State) : Nat := s.field (Addr.APERTURE_CFG (x.offset / apertureBytes)) 8 8
def HostAccess.addr (x : HostAccess) (s : State) : Nat := s.reg (Addr.APERTURE_BASE (x.offset / apertureBytes)) + x.offset % apertureBytes

/-- What the checks find for an access to this device's own memory. -/
def HostAccess.ownCause (x : HostAccess) (s : State) : Nat :=
  s.spanCause (x.tenant s) none x.write false (spaceOf (x.addr s)) (offsetOf (x.addr s) / 32 * 32)
    (ceilDiv (offsetOf (x.addr s) % 32 + x.len) 32 * 32)

/-- The access is not allowed, or no route leads where it goes. -/
def HostAccess.NoWay (x : HostAccess) (s : State) : Prop :=
  if deviceOf (x.addr s) = s.device then x.ownCause s ≠ 0 else s.joined = false ∨ s.hop s.device (deviceOf (x.addr s)) = .none

theorem noWay_iff : x.NoWay s ↔ (if deviceOf (x.addr s) = s.device then x.ownCause s else
    if (!s.joined) = true ∨ s.hop s.device (deviceOf (x.addr s)) = .none then 6 else 0) ≠ 0 := by
  unfold HostAccess.NoWay
  split
  · rfl
  · split
    · rename_i cut
      simpa using cut
    · rename_i way
      simpa using way

theorem hostAccess_aborts (bad : apertureBytes < x.offset % apertureBytes + x.len ∨ x.NoWay s ∨ x.inTime = false) :
    hostAccess x s = bar2Abort s := by
  unfold hostAccess
  dsimp only
  split
  · rfl
  · rename_i inside
    refine if_pos ?_
    obtain past | cut | late := bad
    · exact absurd past inside
    · exact .inl (noWay_iff.mp cut)
    · rw [late]
      exact .inr rfl

theorem hostAccess_goes (inside : x.offset % apertureBytes + x.len ≤ apertureBytes) (way : ¬ x.NoWay s) (inTime : x.inTime = true) :
    hostAccess x s = if deviceOf (x.addr s) ≠ s.device then startRemote x.write (x.tenant s) (x.addr s) x.len x.data s
      else if x.write then hostWrite (x.tenant s) (spaceOf (x.addr s)) (offsetOf (x.addr s)) x.data s
      else (countRead (spaceOf (x.addr s)) (offsetOf (x.addr s)) x.len s).emit
        (.host (some (hostRead (x.tenant s) (spaceOf (x.addr s)) (offsetOf (x.addr s)) x.len s))) := by
  unfold hostAccess
  dsimp only
  rw [if_neg (by omega), if_neg]
  · rfl
  · rintro (cut | late)
    · exact way (noWay_iff.mpr cut)
    · rw [inTime] at late
      contradiction

end

section
variable {s : State} {offset len n : Nat} {data : Bytes} {write inTime : Bool}

/-- What an access of BAR2 does on a bridge that is up. -/
def serveAccess (x : HostAccess) (s : State) : State :=
  if !s.flag (Addr.APERTURE_CFG (x.offset / apertureBytes)) 0 then s.emit .unsupported
  else if s.mergeWaits then { s with bridge.waiting := s.bridge.waiting ++ [x] }
  else hostAccess x s

theorem exec_pcieBar2Access (up : s.bridgeUp = true) (named : n = if write then data.length else len) (small : offset / apertureBytes < 16)
    (some_ : 1 ≤ n) (short : n ≤ 4096) (t : Nat) :
    exec (.pcieBar2Access t write offset len data inTime) s = .next (serveAccess ⟨write, offset, n, data, inTime⟩ (advance t s)) := by
  have unfolds : exec (.pcieBar2Access t write offset len data inTime) s = execPcieBar2Access t write offset len data inTime s := rfl
  rw [unfolds, execPcieBar2Access]
  dsimp only
  rw [← named, if_neg]
  · rfl
  · rintro (down | large | none_ | long)
    · rw [up] at down
      contradiction
    all_goals omega

theorem noWay_advance (x : HostAccess) (t : Nat) (s : State) : x.NoWay (advance t s) ↔ x.NoWay s := by
  have cause : x.ownCause (advance t s) = x.ownCause s := (spanSame_advance t s).spanCause ..
  unfold HostAccess.NoWay
  rw [cause]
  rfl

/-- An access to this device's HBM that is allowed lies in one stack, or in HBM_ILV. -/
theorem fits_of_way {x : HostAccess} (way : ¬ x.NoWay s) (here : deviceOf (x.addr s) = s.device) : spaceOf (x.addr s) = 1 →
    bits (offsetOf (x.addr s) / 32 * 32) 0 42 + 32 * ceilDiv (offsetOf (x.addr s) % 32 + x.len) 32 ≤ 2 ^ 42 := by
  unfold HostAccess.NoWay at way
  rw [if_pos here, not_not] at way
  rw [Nat.mul_comm 32 (ceilDiv _ _)]
  exact fits_of_spanCause way

/-- A write to this device's HBM. -/
theorem hostAccess_write {x : HostAccess} (inside : x.offset % apertureBytes + x.len ≤ apertureBytes) (way : ¬ x.NoWay s) (late : x.inTime = true)
    (here : deviceOf (x.addr s) = s.device) (hbm : spaceOf (x.addr s) ≤ 1) (write : x.write = true) (whole : x.len = x.data.length) :
    HostWritten (x.tenant s) (spaceOf (x.addr s)) (offsetOf (x.addr s)) x.data (ceilDiv (offsetOf (x.addr s) % 32 + x.len) 32) s
        (hostAccess x s) := by
  have fits := fits_of_way way here
  rw [hostAccess_goes inside way late, if_neg (not_not.mpr here), if_pos write]
  rw [whole] at fits ⊢
  exact hostWritten_hostWrite hbm fits s

/-- A read of this device's HBM. -/
theorem hostAccess_read {x : HostAccess} (inside : x.offset % apertureBytes + x.len ≤ apertureBytes) (way : ¬ x.NoWay s) (late : x.inTime = true)
    (here : deviceOf (x.addr s) = s.device) (hbm : spaceOf (x.addr s) ≤ 1) (read : x.write = false) :
    (hostAccess x s).mem = s.mem ∧ (hostAccess x s).out = s.out ++ [.host (some ((List.range x.len).map
      (fun i => s.readByte (x.tenant s) (s.hbmAddr (spaceOf (x.addr s)) (offsetOf (x.addr s) + i) false))))] := by
  have counted := regsOnly_countRead (spaceOf (x.addr s)) (offsetOf (x.addr s)) x.len s
  rw [hostAccess_goes inside way late, if_neg (not_not.mpr here), read, if_neg Bool.false_ne_true, hostRead_bytes hbm]
  simp only [hbmAddr_hbm hbm]
  exact ⟨counted.mem, congrArg (· ++ _) counted.out⟩

end


section
variable {s : State} {x : HostAccess}

/-- The bytes that a host write has put into this device's HBM. -/
theorem hostAccess_written (inside : x.offset % apertureBytes + x.len ≤ apertureBytes) (way : ¬ x.NoWay s) (late : x.inTime = true)
    (here : deviceOf (x.addr s) = s.device) (hbm : spaceOf (x.addr s) ≤ 1) (write : x.write = true) (whole : x.len = x.data.length) :
    (hostAccess x s).out = s.out ∧
      (∀ i < x.len, (hostAccess x s).readByte (x.tenant s) (s.hbmAddr (spaceOf (x.addr s)) (offsetOf (x.addr s) + i) false) = x.data.getD i 0#8) ∧
      ∀ b, (∀ i < 32 * ceilDiv (offsetOf (x.addr s) % 32 + x.len) 32,
        b ≠ s.hbmAddr (spaceOf (x.addr s)) (offsetOf (x.addr s) / 32 * 32 + i) false) → memByte (hostAccess x s).mem b = memByte s.mem b := by
  have written := hostAccess_write inside way late here hbm write whole
  simp only [hbmAddr_hbm hbm]
  refine ⟨written.out, fun i hi => ?_, written.mem⟩
  have byte := written.byte (offsetOf (x.addr s) % 32 + i) (by unfold ceilDiv; omega) (by omega) (by omega)
  rw [show offsetOf (x.addr s) / 32 * 32 + (offsetOf (x.addr s) % 32 + i) = offsetOf (x.addr s) + i by omega] at byte
  rw [byte, Nat.add_sub_cancel_left]

/-- A write of whole words to another device, and one that covers words in part. -/
theorem hostAccess_remoteWrite (inside : x.offset % apertureBytes + x.len ≤ apertureBytes) (way : ¬ x.NoWay s) (late : x.inTime = true)
    (there : deviceOf (x.addr s) ≠ s.device) (write : x.write = true) (some_ : 1 ≤ x.len) :
    memoryStays s (hostAccess x s) ∧
      (offsetOf (x.addr s) % 32 = 0 → x.len % 32 = 0 →
        (hostAccess x s).nextSeq 2 = (s.nextSeq 2 + ceilDiv (ceilDiv (offsetOf (x.addr s) % 32 + x.len) 32) 32) % 2 ^ 32 ∧
        ∃ r ∈ (hostAccess x s).bridge.remote, r.peer = deviceOf (x.addr s) ∧ r.write = true ∧ r.missing = [] ∧
          r.unacked.length = ceilDiv (ceilDiv (offsetOf (x.addr s) % 32 + x.len) 32) 32) ∧
      (offsetOf (x.addr s) % 32 ≠ 0 ∨ x.len % 32 ≠ 0 → (hostAccess x s).nextSeq 2 = s.nextSeq 2 ∧
        ∃ r ∈ (hostAccess x s).bridge.remote, r.peer = deviceOf (x.addr s) ∧ r.write = true ∧ r.data = x.data ∧ r.missing ≠ [] ∧
          (hostAccess x s).nextSeq 1 = (s.nextSeq 1 + r.missing.length) % 2 ^ 32) := by
  have starts : hostAccess x s = startRemote true (x.tenant s) (x.addr s) x.len x.data s := by
    rw [hostAccess_goes inside way late, if_pos there, write]
  rw [starts]
  generalize new : newAccess s true (x.tenant s) (x.addr s) x.len x.data = y
  have addr : y.addr = x.addr s ∧ y.len = x.len ∧ y.peer = deviceOf (x.addr s) ∧ y.write = true ∧ y.data = x.data := by
    subst new
    exact ⟨rfl, rfl, rfl, rfl, rfl⟩
  obtain ⟨addr, len, peer, write', data⟩ := addr
  by_cases part : y.partlyCovered = []
  · have sent := startRemote_whole new.symm part
    have whole : offsetOf (x.addr s) % 32 = 0 ∧ x.len % 32 = 0 := by
      by_contra partly
      refine partlyCovered_part (x := y) (by omega) ?_ part
      rw [addr, len]
      omega
    rw [length_wordsOf, addr, len] at sent
    refine ⟨fun off => (sent.quiet off).1, fun _ _ => ⟨sent.seq.trans ((if_neg ?_).trans rfl), ?_⟩, fun partly => ?_⟩
    · unfold ceilDiv
      omega
    · rw [sent.remote]
      exact ⟨_, List.mem_append_right _ (List.mem_singleton_self _), peer, write', rfl, by rw [List.length_map, List.length_range]⟩
    · omega
  · have sent := startRemote_part new.symm part
    refine ⟨fun off => (sent.quiet off).1, fun from_ to_ => absurd (partlyCovered_whole (x := y) (by rwa [addr]) (by rwa [len])) part,
      fun _ => ⟨sent.other 2 two_ne_zero (by decide), { y with missing := y.partlyCovered }, ?_, peer, write', data, part, ?_⟩⟩
    · rw [sent.remote]
      exact List.mem_append_right _ (List.mem_singleton_self _)
    · exact sent.seq.trans ((if_neg fun none_ => part (List.length_eq_zero_iff.mp none_)).trans rfl)

theorem hostAccess_remoteRead (inside : x.offset % apertureBytes + x.len ≤ apertureBytes) (way : ¬ x.NoWay s) (late : x.inTime = true)
    (there : deviceOf (x.addr s) ≠ s.device) (read : x.write = false) :
    memoryStays s (hostAccess x s) ∧ (hostAccess x s).nextSeq 1 = (s.nextSeq 1 + 1) % 2 ^ 32 ∧
      ∃ r ∈ (hostAccess x s).bridge.remote, r.peer = deviceOf (x.addr s) ∧ r.write = false ∧ r.len = x.len ∧ r.missing = r.wordsOf := by
  have starts : hostAccess x s = startRemote false (x.tenant s) (x.addr s) x.len x.data s := by
    rw [hostAccess_goes inside way late, if_pos there, read]
  have sent := startRemote_read s (x.tenant s) (x.addr s) x.len x.data
  rw [starts]
  refine ⟨fun off => (sent.quiet off).1, sent.seq, ?_⟩
  rw [sent.remote]
  exact ⟨_, List.mem_append_right _ (List.mem_singleton_self _), rfl, rfl, rfl, rfl⟩

theorem bar2Abort_counts (s : State) : (bar2Abort s).out = s.out ++ [.host none] ∧
    (bar2Abort s).reg Addr.BAR2_ABORTS = (s.reg Addr.BAR2_ABORTS + 1) % 2 ^ 32 ∧ sameRegsBut [Addr.BAR2_ABORTS] s (bar2Abort s) ∧
    (bar2Abort s).mem = s.mem :=
  ⟨rfl, State.reg_bump32 s _ 1, fun _ ha => State.reg_bump32_other s (by simpa using ha) 1, rfl⟩

end

section
variable {s : State} {x : HostAccess}

theorem serveAccess_off (off : s.flag (Addr.APERTURE_CFG (x.offset / apertureBytes)) 0 = false) : serveAccess x s = s.emit .unsupported := by
  rw [serveAccess, off]
  rfl

theorem serveAccess_waits (on : s.flag (Addr.APERTURE_CFG (x.offset / apertureBytes)) 0 = true) (waits : s.mergeWaits = true) :
    serveAccess x s = { s with bridge.waiting := s.bridge.waiting ++ [x] } := by
  rw [serveAccess, on, waits]
  rfl

theorem serveAccess_goes (on : s.flag (Addr.APERTURE_CFG (x.offset / apertureBytes)) 0 = true) (free : s.mergeWaits = false) :
    serveAccess x s = hostAccess x s := by
  rw [serveAccess, on, free]
  rfl

end

/-- Settles O46: the doorbell case by case, an access of BAR2 by where its aperture leads, and the reset's sixteen apertures. -/
theorem bridgeServesTheHost : Obligations.BridgeServesTheHost := by
  unfold Obligations.BridgeServesTheHost
  intro t s up
  refine ⟨fun len req small => ?_, fun offset len data write inTime => ?_, ?_⟩
  · intro v ws
    have h : Bar0Written req (advance t s) v := bar0Written_writeBar0 req (advance t s)
    refine ⟨⟨h.cons, h.reply, fun e one low => h.entry one low⟩, _, exec_pcieBar0Doorbell up small t req, (ringDoorbell_mem h :), fun quiet => ?_,
      fun bell busy => ?_, fun bell free off => (ringDoorbell_off h bell free off :), fun bell free on room =>
          (ringDoorbell_taken h bell free on room :),
      fun bell free on full => (ringDoorbell_full h bell free on full :)⟩
    · have same : ringDoorbell req (slice req.bytes 0 len) (writeBar0 req (advance t s)) = v := by
        rw [ringDoorbell, quiet]
        rfl
      exact ⟨same, same ▸ h.regs, same ▸ h.ports⟩
    · rw [ringDoorbell_busy h bell busy]
      exact ⟨rfl, h.regs, h.ports⟩
  · intro a n tenant addr ty off lo words cause noWay small some_ short
    let x : HostAccess := ⟨write, offset, n, data, inTime⟩
    have runs := exec_pcieBar2Access (data := data) (inTime := inTime) (n := n) up rfl small some_ short t
    have flag : (advance t s).flag (Addr.APERTURE_CFG (offset / apertureBytes)) 0 = s.flag (Addr.APERTURE_CFG a) 0 := by
      rw [State.flag, State.advance_reg, State.flag]
    have way := noWay_advance x t s
    refine ⟨fun off => ⟨_, runs, ?_⟩, fun on waits => ⟨_, runs, ?_⟩, fun on free bad => ⟨_, runs, ?_⟩, fun on free inside open_ late =>
        ⟨fun here hbm wr =>
      ⟨_, runs, ?_⟩, fun here hbm rd => ⟨_, runs, ?_⟩, fun there wr => ⟨_, runs, ?_⟩, fun there rd => ⟨_, runs, ?_⟩⟩⟩
    · rw [serveAccess_off (x := x) (flag.trans off)]
      exact ⟨rfl, rfl, rfl⟩
    · rw [serveAccess_waits (x := x) (flag.trans on) waits]
      exact ⟨rfl, rfl, rfl, rfl⟩
    · rw [serveAccess_goes (x := x) (flag.trans on) free, hostAccess_aborts (bad.imp_right (Or.imp_left way.mpr))]
      exact bar2Abort_counts (advance t s)
    · rw [serveAccess_goes (x := x) (flag.trans on) free]
      exact hostAccess_written (s := advance t s) inside (mt way.mp open_) late here hbm wr (if_pos wr)
    · rw [serveAccess_goes (x := x) (flag.trans on) free]
      exact hostAccess_read (s := advance t s) inside (mt way.mp open_) late here hbm rd
    · rw [serveAccess_goes (x := x) (flag.trans on) free]
      exact hostAccess_remoteWrite (s := advance t s) inside (mt way.mp open_) late there wr some_
    · rw [serveAccess_goes (x := x) (flag.trans on) free]
      exact hostAccess_remoteRead (s := advance t s) inside (mt way.mp open_) late there rd
  · have only := RegsOnly.foldl regsOnly_clearAperture (List.range 16)
      { (advance t s) with bridge := { stale := s.bridge.stale ++ (s.fifo 0x8E2).pkts.map FifoPkt.data } }
    refine ⟨_, exec_pcieFlr up t, only.bridge, clearApertures_clears _ 16 (Nat.le_refl 16), fun b hb => ?_, only.mem⟩
    rw [List.mem_append, not_or] at hb
    exact clearApertures_other _ _ hb.1 hb.2

end Sys2Proof.Machine

/-!
PROOFS. A flagged verdict past its deadline whose verdict class is none of the device's.
-/
namespace Sys2Proof.Machine

/-- A verdict class that no program sets: its default verdict would stand where packets without a route are counted. -/
def strayClass : Nat := 0x36FF09

/-- A packet of that class whose verdict was flagged, past its deadline. -/
def lateFlagged : Pkt := { id := 1, desc := ⟨0, 0, 0, 0, 0, 0, 0, false⟩, bytes := [], at_ := .recoat, vclass := strayClass }

/-- A device with that packet, a session of the fabric to a device without a route, and a window of missed recoats that is over. -/
def missedRecoat : State := { running.setReg Addr.GLOBAL_CTRL 1 with
  sessions := [farSession], windows := [⟨0, 0, 0, { waitingEvent with opcode := evRecoatMissed }⟩], ports.packets := [lateFlagged] }

/-- Refutes O35: as the window closes, its event is sent to the session and finds no route, and the count of that is the default verdict that the
packet then takes. -/
theorem not_verdictsAreHeldAndServed : ¬ Obligations.VerdictsAreHeldAndServed := by
  unfold Obligations.VerdictsAreHeldAndServed
  intro h
  obtain ⟨_, _, _, late⟩ := h 1 missedRecoat 1 lateFlagged rfl (by decide +kernel)
  obtain ⟨u, q, step, found, _, _, verdict, _⟩ := late rfl (by decide)
  have taken : (u.packet 1).map Pkt.verdict = some (missedRecoat.defaultVerdict strayClass) := by
    rw [found, Option.map_some, verdict]
    rfl
  rw [eq_nextOf step] at taken
  exact absurd taken (by decide +kernel)

end Sys2Proof.Machine
